-- ==== Sys2Proof/Word.lean ====
section
/-!
DEFINITION. The word types of the DH2096 model: bytes, the widths the manual gives its fields,
and the two clock readings that a command carries.
-/

namespace Sys2Proof

/-- One byte. -/
abbrev Byte := BitVec 8

/-- A 32-bit register or counter. -/
abbrev Word := BitVec 32

/-- A reason code, `0xGGnn` (R14). -/
abbrev Reason := BitVec 16

/-- A Q32.16 position, compared and added modulo 2^48 (R132). -/
abbrev Pos48 := BitVec 48

/-- The readings of the two clocks at the moment a command is executed: TIME ticks of 2.5 ns
(R8, R34) and AON ticks since cold start (R8, R60).  The manual fixes no ratio between the two
(the AON clock is within 0.5 % or 3 %, R395), so a command carries both.
DESIGN CHOICE, log entry 1. -/
structure Moment where
  tick : Nat
  aon  : Nat
  deriving DecidableEq, Repr

/-- A table of like objects, by number, in ascending order.  A number that is not listed holds the
object's reset value, which the reader of the table names. -/
abbrev Table (α : Type) := List (Nat × α)

namespace Table

/-- The object numbered `k`, or `d` when it is not listed. -/
def get {α : Type} (d : α) : Table α → Nat → α
  | [], _ => d
  | (i, a) :: t, k => if i = k then a else get d t k

/-- The object numbered `k`, when it is listed. -/
def find? {α : Type} : Table α → Nat → Option α
  | [], _ => none
  | (i, a) :: t, k => if i = k then some a else find? t k

/-- The table with `a` as object number `k`. -/
def set {α : Type} : Table α → Nat → α → Table α
  | [], k, a => [(k, a)]
  | (i, b) :: t, k, a =>
    if k < i then (k, a) :: (i, b) :: t
    else if k = i then (k, a) :: t
    else (i, b) :: set t k a

/-- The table without object number `k`. -/
def erase {α : Type} : Table α → Nat → Table α
  | [], _ => []
  | (i, b) :: t, k => if i = k then t else (i, b) :: erase t k

end Table

end Sys2Proof
end

