-- ==== Sys2Proof/Records.lean ====
section
/-!
DEFINITION. The records of the DH2096's configuration, one structure for each object that a staged
command sets, with the reset value the manual gives it, and the configuration as a whole.
-/

namespace Sys2Proof

/-! ## Geometry (R96–R119) -/

/-- A head record (R98).  `bar = 0xFF`: the head belongs to no bar and holds no address (R99). -/
structure HeadRec where
  bar : Nat := 0xFF
  port : Nat := 0
  localHead : Nat := 0
  rows : Nat := 0
  perRow : Nat := 0
  deriving DecidableEq, Repr

/-- A head-row record (R102–R104); the defaults are the reset value of R119. -/
structure RowRec where
  modulus : Nat := 1
  offset : Nat := 0
  subDelay : Nat := 0
  phase : Nat := 0
  deriving DecidableEq, Repr

/-- A bar record (R100).  The reset value's `trigger` is the bar's own number (R119). -/
structure BarRec where
  scanning : Bool := false
  codeWidth : Nat := 1
  trigger : Nat := 0
  rasterWidth : Nat := 0
  axisA : Nat := 0
  axisB : Nat := 0
  blendW : Nat := 0
  origin : Pos48 := 0
  linePitch : Nat := 0x10000
  passCount : Nat := 1
  passMask : Nat := 0
  deriving DecidableEq, Repr

/-- The reset value of bar `b`'s record (R119). -/
def BarRec.reset (b : Nat) : BarRec := { trigger := b }

/-- A stitch zone (R110). -/
structure StitchRec where
  enable : Bool := false
  bar : Nat := 0
  left : Nat := 0
  right : Nat := 0
  width : Nat := 1
  mask : Nat := 0
  xStart : Nat := 0
  deriving DecidableEq, Repr

/-- A stitch mask: its lines of 64 bits (R111); `height` is the number of lines. -/
structure StitchMask where
  height : Nat := 1
  lines : Table (BitVec 64) := []
  deriving DecidableEq, Repr

/-- A pass mask: its bytes, two cells each (R113); a byte not listed is 0. -/
structure PassMask where
  bytes : Table Byte := []
  deriving DecidableEq, Repr

/-- `pass_index` and `swath_offset` of a SCANNING bar (R114). -/
structure SwathRec where
  passIndex : Nat := 0
  offset : Nat := 0
  deriving DecidableEq, Repr

/-! ## Axes (R153, R154) -/

/-- An axis configuration; the defaults are those of R154, and 0 for the index fields, where it gives none.
DESIGN CHOICE, log entry 163. -/
structure AxisRec where
  ssi : Bool := false
  filterDepth : Nat := 2
  invert : Bool := false
  speedWindow : Nat := 1000
  illegalLimit : Nat := 0
  indexCheck : Bool := false
  indexLines : Nat := 0
  indexTolerance : Nat := 0
  ssiBits : Nat := 0
  ssiMulti : Nat := 0
  ssiGray : Bool := false
  ssiStatusBits : Nat := 0
  ssiStatusErr : Nat := 0
  ssiCrcBits : Nat := 0
  ssiCrcPoly : Nat := 0
  ssiCrcInit : Nat := 0
  ssiHalf : Nat := 0
  ssiSample : Nat := 0
  ssiErrLimit : Nat := 0
  ssiFrame : Nat := 0
  ssiRecovery : Nat := 0
  ssiTimeout : Nat := 0
  ssiMaxStep : Nat := 0
  ssiCrcInvert : Bool := false
  deriving DecidableEq, Repr

/-- An echo output (R147–R149); R154 gives the defaults but for the source. DESIGN CHOICE, log entry 163. -/
structure EchoRec where
  enable : Bool := false
  source : Nat := 0
  ratioM : Nat := 1
  ratioN : Nat := 1
  minEdge : Nat := 8
  deriving DecidableEq, Repr

/-- The motion-wake settings (R152); R154 gives the default of the mask alone. DESIGN CHOICE, log entry 163. -/
structure WakeRec where
  mask : BitVec 8 := 0
  edges : Nat := 0
  window : Nat := 0
  deriving DecidableEq, Repr

/-! ## Trigger generators (R158–R181) -/

/-- A trigger-generator configuration; the defaults are those of R181, `sourceBar` apart. -/
structure TrigRec where
  sourceBar : Nat := 0
  requireSpit : Bool := false
  keepAlive : Bool := true
  minPeriod : Nat := 4000
  strobeLead : Nat := 2400
  tolerance : Nat := 32
  corrMax : Nat := 4
  spitWindows : BitVec 8 := 0x01
  idleTime : Nat := 50
  ticklePeriod : Nat := 1000
  dryTime : Nat := 10
  deriving DecidableEq, Repr

/-- The reset configuration of generator `g` (R181). -/
def TrigRec.reset (g : Nat) : TrigRec := { sourceBar := g }

/-- A run-table entry (R161); the defaults are those of R181. -/
structure RunEntry where
  start : Pos48 := 0
  pitch : Nat := 0x10000
  count : Nat := 1
  base : Word := 0
  next : Nat := 0
  spit : Bool := false
  continue_ : Bool := false
  end_ : Bool := true
  irq : Bool := false
  deriving DecidableEq, Repr

/-- A TRIGOUT output (R179). -/
structure TrigoutRec where
  enable : Bool := false
  source : Nat := 0
  event : Nat := 0
  activeLow : Bool := false
  width : Nat := 1
  delay : Nat := 0
  deriving DecidableEq, Repr

/-! ## Waveforms (R185–R207) -/

/-- A library waveform: segment words (R185) and pulse windows (R188); reset by R207. -/
structure WaveRec where
  segs : List Word := [0x00010000]
  windows : List (Nat × Nat) := []
  deriving DecidableEq, Repr

/-- A drive profile (R189); reset by R207.  Masks not listed are 0x00. -/
structure ProfileRec where
  wave : Nat := 0
  masks : List Byte := List.replicate 16 0
  deriving DecidableEq, Repr

/-- A bar drive record (R191). -/
structure WaveBarRec where
  tickleWave : Nat := 0
  tickleWindows : Byte := 0
  deriving DecidableEq, Repr

/-- A digital channel binding (R193).  A binding not set since reset names bar 0, class 0 and no head
(the manual gives only `disabled`). DESIGN CHOICE, log entry 22. -/
structure ChannelRec where
  enable : Bool := false
  bar : Nat := 0
  ampClass : Nat := 0
  headMask : Byte := 0
  deriving DecidableEq, Repr

/-- A DAC binding (R197, R199, R200). DESIGN CHOICE, log entry 22. -/
structure DacRec where
  enable : Bool := false
  bar : Nat := 0
  ampClass : Nat := 0
  localMask : Byte := 0
  ampEnable : Bool := false
  ampOnDelay : Nat := 100
  portMask : Word := 0
  deriving DecidableEq, Repr

/-- A TEMP or DENSITY curve of 16 points (R203); reset by R207. -/
structure CurveRec where
  points : List (Int × Nat) := List.replicate 16 (0, 0x8000)
  deriving DecidableEq, Repr

/-! ## Planes and rings (R211–R238) -/

/-- A plane descriptor (PLANE.DEFINE, R238). -/
structure PlaneRec where
  bar : Nat
  codeWidth : Nat
  policy : Nat
  fallbackHalt : Bool
  starveHalt : Bool
  width : Nat
  height : Nat
  yFirst : Word
  areaBase : Nat
  areaLimit : Nat
  deriving DecidableEq, Repr

/-- A line ring (R221); `depth = 0`: no ring set. -/
structure RingRec where
  depth : Nat := 0
  base : Nat := 0
  deriving DecidableEq, Repr

/-! ## Cane ports (R295) -/

/-- A Cane port configuration. -/
structure PortRec where
  enable : Bool := false
  failFault : Bool := false
  maxRetx : Nat := 3
  tsyPeriod : Nat := 1
  deriving DecidableEq, Repr

/-! ## Health (R303–R319) -/

/-- A bar's health policy; the defaults are those of R318. -/
structure PolicyRec where
  sweep : Bool := false
  autoState : Bool := false
  autoSubst : Bool := false
  autoRecover : Bool := false
  confirmCount : Nat := 3
  substClasses : BitVec 4 := 0xC
  ampMissing : Nat := 64
  ampWeak : Nat := 166
  airShift : Nat := 26
  periodTol : Nat := 26
  decayTol : Nat := 40
  neighbours : Nat := 2
  substLimit : Nat := 64
  reqPerHead : Nat := 64
  reqTimeout : Nat := 1000
  deriving DecidableEq, Repr

/-- A row reference (R303); `amp = 0`: none. -/
structure RefRec where
  amp : Nat := 0
  period : Nat := 0
  decay : Nat := 0
  deriving DecidableEq, Repr

/-- A substitution (R308): its mode and its 1–4 donors, in donor order. -/
structure SubstRec where
  neighbour : Bool
  donors : List Nat
  deriving DecidableEq, Repr

/-- Head temperature regulation (R316); reset by R318. -/
structure HeadTempRec where
  enable : Bool := false
  setpoint : Int := 0
  overMargin : Nat := 0
  kp : Nat := 0
  ki : Nat := 0
  maxDuty : Nat := 0
  deriving DecidableEq, Repr

/-! ## Memory, power, thermal (R369, R410, R425) -/

/-- The patrol-scrub settings (MEM.SCRUB_SET). -/
structure ScrubRec where
  period : Nat := 240
  correctedLimit : Nat := 16
  deriving DecidableEq, Repr

/-- The wake mask and idle timers (POWER.POLICY_SET). -/
structure PowerPolicyRec where
  wakeMask : Byte := 0x01
  dozeAfter : Nat := 0
  sleepAfter : Nat := 0
  aonTimer : Nat := 0
  deriving DecidableEq, Repr

/-- A head supply's configuration (POWER.HV_SET). -/
structure HvRec where
  enable : Bool := false
  failFault : Bool := false
  onTimeout : Nat := 100
  dischargeTimeout : Nat := 1000
  deriving DecidableEq, Repr

/-- A domain's thermal thresholds, 0.25 °C (POWER.THERM_SET). -/
structure ThermRec where
  warning : Nat
  throttle : Nat
  shutdown : Nat
  gradient : Nat
  deriving DecidableEq, Repr

/-- The reset thresholds of R426: domain 0 DIE, domain 1 HBM. -/
def ThermRec.reset : Nat → ThermRec
  | 0 => ⟨380, 400, 448, 100⟩
  | _ => ⟨340, 352, 380, 0⟩

/-! ## The configuration -/

/-- The configuration: every object that a commit can change (R80, R119, R154, R181, R207, R237, R318).
An object that a table does not list holds its reset value. -/
structure Cfg where
  heads : Table HeadRec := []
  rows : Table RowRec := []
  bars : Table BarRec := []
  nmap : Table Word := []
  stitches : Table StitchRec := []
  stitchMasks : Table StitchMask := []
  passMasks : Table PassMask := []
  swaths : Table SwathRec := []
  axes : Table AxisRec := []
  axisEn : Table Bool := []
  echoes : Table EchoRec := []
  wake : WakeRec := {}
  trigs : Table TrigRec := []
  runs : Table RunEntry := []
  trigouts : Table TrigoutRec := []
  tgEn : Table Bool := []
  waves : Table WaveRec := []
  profiles : Table ProfileRec := []
  waveBars : Table WaveBarRec := []
  channels : Table ChannelRec := []
  dacs : Table DacRec := []
  curves : Table CurveRec := []
  planes : Table PlaneRec := []
  bound : Table Bool := []
  rings : Table RingRec := []
  ports : Table PortRec := []
  policies : Table PolicyRec := []
  refs : Table RefRec := []
  substs : Table SubstRec := []
  temps : Table HeadTempRec := []
  scrub : ScrubRec := {}
  power : PowerPolicyRec := {}
  hvs : Table HvRec := []
  therms : Table ThermRec := []
  bistPeriod : Nat := 10
  logStrict : Bool := false
  deriving DecidableEq, Repr

/-- One staged change (R80–R82): an object and the value it would take.  `trigEnable` and
`planeEnable` are the changes of the two enables that are commits of their own (R180, R238). -/
inductive Change where
  | head (h : Nat) (r : HeadRec)
  | row (h r : Nat) (v : RowRec)
  | bar (b : Nat) (r : BarRec)
  | nmap (load : Bool) (mask : BitVec 4) (entries : List (Nat × Word))
  | stitch (z : Nat) (r : StitchRec)
  | stitchMask (k : Nat) (r : StitchMask)
  | passMask (k : Nat) (r : PassMask)
  | swath (b : Nat) (r : SwathRec)
  | axis (n : Nat) (r : AxisRec)
  | axisEnable (n : Nat) (e : Bool)
  | echo (k : Nat) (r : EchoRec)
  | wake (r : WakeRec)
  | trig (g : Nat) (r : TrigRec)
  | run (g first : Nat) (es : List RunEntry)
  | runStart (g entry : Nat)
  | trigout (k : Nat) (r : TrigoutRec)
  | trigEnable (g : Nat) (e : Bool) (start : Nat)
  | wave (w : Nat) (r : WaveRec)
  | profile (b k : Nat) (r : ProfileRec)
  | waveBar (b : Nat) (r : WaveBarRec)
  | channel (c : Nat) (r : ChannelRec)
  | dac (k : Nat) (r : DacRec)
  | curve (c kind : Nat) (r : CurveRec)
  | plane (p : Nat) (r : PlaneRec)
  | planeEnable (p : Nat) (e : Bool)
  | ring (b : Nat) (r : RingRec)
  | port (p : Nat) (r : PortRec)
  | policy (b : Nat) (r : PolicyRec)
  | ref (h r : Nat) (v : RefRec)
  | substs (es : List (Nat × SubstRec))
  | substClear (ids : List Nat)
  /-- The states and substitutions that firmware gives nozzles (R307, R314). -/
  | outs (states : List (Nat × Nat)) (es : List (Nat × SubstRec))
  | temp (h : Nat) (r : HeadTempRec)
  | scrub (r : ScrubRec)
  | power (r : PowerPolicyRec)
  | hv (k : Nat) (r : HvRec)
  | therm (d : Nat) (r : ThermRec)
  | bistPeriod (minutes : Nat)
  | logMode (strict : Bool)
  deriving DecidableEq, Repr

end Sys2Proof
end

