-- ==== Sys2Proof/Syntax.lean ====
section
/-!
DEFINITION. The commands of the DH2096: one constructor of `Instr` per row of spec/opcode_table.json,
with the operands the outside world gives it.  Every command carries the `Moment` at which it is
executed.  A mailbox command carries its whole request (R70); an autonomous event carries what its
surroundings decide (a pin level, a received frame, a sensor reading, a twin's message).
-/

namespace Sys2Proof

/-- A mailbox request (R70): the mailbox it is rung in, its header fields and its payload bytes. -/
structure Request where
  mbx : Fin 16
  tag : BitVec 16
  length : Nat
  autoCommit : Bool
  readShadow : Bool
  payload : List Byte
  deriving DecidableEq, Repr

/-- The outcome of reading one sensor: a reading in 0.25 °C, or unreadable (not oscillating). -/
abbrev Reading := Option Int

/-- The 18 temperature readings of one sample (R413): T0–T15, TK0, TK1 and the stack sensor. -/
structure TempReadings where
  die : List Reading
  tk0 : Reading
  tk1 : Reading
  hbm : Reading
  deriving DecidableEq, Repr

/-- The fields of an STS frame (R294). -/
structure StsHead where
  temperature : Option Int
  heaterDuty : Nat
  overTemp : Bool
  driveFault : Bool
  deriving DecidableEq, Repr

/-- An STS frame's payload (R294). -/
structure Sts where
  protocol : Nat
  vendor : Nat
  moduleType : Nat
  headsPresent : Byte
  bufferLines : Nat
  moduleFw : Word
  source : Nat
  fault : Bool
  hvGood : Bool
  supplies : List Nat
  heads : List StsHead
  lateStrobes : Word
  missingData : Word
  overlaps : Word
  crcErrors : Word
  deriving DecidableEq, Repr

/-- One HLT record (R293): 32 samples of 12 bits of one fire of one nozzle. -/
structure HltRec where
  localHead : Nat
  nozzle : Nat
  line : Word
  samples : List Nat
  deriving DecidableEq, Repr

/-- How an upstream frame or block is faulty (R269, R273). -/
inductive FrameDefect where
  /-- An invalid control block (R269); `inFrame`: it stood inside a frame. -/
  | invalidBlock (inFrame : Bool)
  /-- A reserved frame type (R273). -/
  | reservedType
  /-- A failing CRC; an HLT header that could be read gives its frame_seq (R273, R283). -/
  | crc (hltSeq : Option Nat)
  /-- A payload_length that disagrees with the block count (R273). -/
  | length
  deriving DecidableEq, Repr

/-- What the twin says of itself at HELLO (R324). -/
structure Hello where
  pairIdHigh : Bool
  serial : BitVec 64
  rev : Word
  fw : BitVec 24
  lc : Nat
  hostBoth : Bool
  acting : Bool
  contiguous : Bool
  sysState : Nat
  deriving DecidableEq, Repr

/-- One element of the input stream of R332: a counted edge or SSI frame of an axis of unit P, with
P's timestamp, the counter after it and its sign or delta; a frame that counts nothing has delta 0. -/
structure StreamEdge where
  axis : Nat
  tick : Nat
  counter : Word
  delta : Int
  deriving DecidableEq, Repr

/-- A system-state transition that unit P mirrors (R327, R333). -/
inductive StateEvent where
  | armed | paused | ready | resumed
  deriving DecidableEq, Repr

/-- What a CONTROL message delivers (R323, R327, R332–R336). -/
inductive Control where
  /-- The twin's heartbeat message alone (R326). -/
  | heartbeat
  /-- Input-stream elements, closing the stream through `closed`, and the motion states that axes have
  entered other than by an edge: tick, axis and code (R332). -/
  | stream (edges : List StreamEdge) (motions : List (Nat × Nat × Nat)) (closed : Nat)
  /-- A state event to be applied at tick `at_` (R333). -/
  | stateEvent (e : StateEvent) (at_ : Nat)
  /-- A HALT that unit S reports to unit P (R333). -/
  | haltReport
  /-- The twin's own ceiling (R334). -/
  | ceiling (c : Nat)
  /-- The combined ceiling and the tick from which it is used (R334). -/
  | combined (c at_ : Nat)
  /-- A head-temperature snapshot with an apply line per bar (R336). -/
  | temps (values : List (Nat × Option Int)) (apply : List (Nat × Word)) (tick : Nat)
  /-- An AT_INDEX preset or its cancellation (R327, R138). -/
  | preset (axis : Nat) (value : Option Word)
  /-- The pairing configuration of unit P (R327). -/
  | pairConfig (hostBoth : Bool) (actGpio : Nat) (actLow : Bool) (resyncMatch : Nat)
  /-- The twin's Weave mode (R367), its free log entries (R487) and its system state and fault. -/
  | status (contiguous : Bool) (logFree : Nat) (sysState : Nat) (fault : Reason)
  /-- The twin's WITHDRAWN flag (R341, R343). -/
  | withdrawn (w : Bool)
  /-- PAIR.UNPAIR ends the pair in both units (R348). -/
  | unpair
  deriving DecidableEq, Repr

/-- The part of a resynchronisation snapshot (R341) that belongs to one generator. -/
structure TrigSnap where
  gen : Nat
  /-- It is RUNNING (R160), and its latest line index, where it has ticketed one. -/
  running : Bool
  last : Option Word
  entry : Nat
  remaining : Nat
  compare : Pos48
  lineIndex : Word
  lastFire : Option Nat
  held : List (Word × Pos48)
  deriving DecidableEq, Repr

/-- The resynchronisation snapshot of R341. -/
structure Snapshot where
  cfg : Cfg
  health : Table Word
  gens : List TrigSnap
  joins : List (Nat × Word)
  histories : List (Nat × List (Nat × Int × Word))
  banks : List (Nat × Nat)
  deriving DecidableEq, Repr

/-- A change-log entry's content (R479), its sequence apart. -/
structure LogBody where
  aon : Nat
  boot : Nat
  origin : Byte
  objClass : Byte
  reason : Reason
  objId : Word
  oldDigest : Word
  newDigest : Word
  flags : BitVec 16
  twinSeq : BitVec 16
  deriving DecidableEq, Repr

/-- One word that a patrol or a read found in error (R360): its memory (0 Weave, 1 Stake, 2 HBM), its
address, HBM bank and row, and whether it was correctable. -/
structure MemError where
  source : Fin 3
  address : Nat
  bank : Nat
  row : Nat
  correctable : Bool
  master : Nat
  deriving DecidableEq, Repr

/-- What one host completion returned (R386). -/
inductive Completion where
  | data (bytes : List Byte)
  | error
  | poisoned
  deriving DecidableEq, Repr

/-- A completion, and the address of the request that it answers (R382, R386). -/
structure HostReply where
  address : Nat
  completion : Completion
  deriving DecidableEq, Repr

/-- How the self-test sequence ended in U4 (R468): the MISRs that are not their expected signature (R465), under 16 times
the partition plus the unit, and the rows of SRAM banks (0–31 Weave, 32 + k Stake) that the march test found failing. -/
structure StartupBist where
  misrs : List (Nat × BitVec 64) := []
  rows : List (Nat × Nat) := []
  deriving DecidableEq, Repr

/-- The key under which an image's signature verifies (R408, R453): none, the Voljan manufacturing key of the boot
ROM, or the public key with a given hash. -/
inductive Signer where
  | unsigned | rom
  | key (hash : BitVec 384)
  deriving DecidableEq, Repr

/-- A firmware image as the boot ROM finds it (R408): what its header gives, whose signature it bears, and whether a
read error occurs while it is loaded. DESIGN CHOICE, log entry 121. -/
structure BootImage where
  sequence : Nat := 0
  length : Nat := 4096
  /-- Patch, minor and line (HST_FW). -/
  fw : BitVec 24 := 0x010000
  signer : Signer := .rom
  readError : Bool := false
  deriving DecidableEq, Repr

/-- What the surroundings decide in an Upsett phase that completes or fails (R406). -/
structure PhaseInput where
  /-- U1: each word at NORMAL, MARGIN_HIGH and MARGIN_LOW, where it differs from the array. -/
  margins : Table (Word × Word) := []
  /-- U4: the results of the start-up tests. -/
  bist : StartupBist := {}
  /-- U5: the images in the two slots of the boot flash, where a header verifies (R408). -/
  imageA : Option BootImage := some {}
  imageB : Option BootImage := none
  deriving DecidableEq, Repr

/-- The outcome of the pulses on one bit (R458): whether each cell verified. -/
structure BitPulse where
  bit : Nat
  cell0 : Bool
  cell1 : Bool
  deriving DecidableEq, Repr

/-- How the pulses of an OTP operation went (R458, R460): the words and bits in order, as far
as the operation went, and whether VQPS became good. -/
structure OtpPulses where
  bits : List (Nat × BitPulse)
  sourceGood : Bool
  deriving DecidableEq, Repr

/-- Newly measured calibration coefficients of one target (R429, R433): gain and offset. -/
structure Coeff where
  gain : Nat
  offset : Int
  deriving DecidableEq, Repr

/-- Which held event a holdoff of R133 releases: its event code and the object concerned (and the
reason, for TRIG_DROP, R183). -/
structure EventKey where
  code : BitVec 16
  obj : Nat
  sub : Nat
  deriving DecidableEq, Repr

/-- The PLLs of R394. -/
inductive Pll where
  | core | fabric | hbm | link | time
  deriving DecidableEq, Repr

/-- The commands, in the order of spec/opcode_table.json. -/
inductive Instr where
  /-- PRINT_EN_WRITE (R51). A host write to HST_CTRL.PRINT_EN starts, cancels or refuses a consistency check, or leaves an armed state for READY. -/
  | printEnWrite (m : Moment) (v : Bool)
  /-- CHECK_DONE (R52). The PRINT_EN consistency check completes, and the device enters ARMED or records the refusal in HST_REFUSE. -/
  | checkDone (m : Moment)
  /-- RESUME_CHECK_DONE (R92). The whole-configuration check of SYS.RESUME completes, and the device enters ARMED or stays PAUSED with COMMAND_DONE. -/
  | resumeCheckDone (m : Moment)
  /-- CFG_CHECK_DONE (R92). The check requested by CFG.CHECK completes and posts COMMAND_DONE with its result. -/
  | cfgCheckDone (m : Moment)
  /-- DP_OPEN (R62). A DP_CTRL.OPEN write validates the port and opens it, or sets ERROR and posts DP_ERROR. -/
  | dpOpen (m : Moment) (p : Fin 8) (ctrl : Word)
  /-- DP_FLUSH (R64). A DP_CTRL.FLUSH write writes the merge buffer to HBM under its byte enables. -/
  | dpFlush (m : Moment) (p : Fin 8) (ctrl : Word)
  /-- DP_CLOSE (R68). A DP_CTRL.CLOSE write flushes the merge buffer and starts closing the port. -/
  | dpClose (m : Moment) (p : Fin 8) (ctrl : Word)
  /-- DP_CLOSE_COMPLETE (R68). Once BUSY is 0 and any session has emitted its final block, the port closes, sets CLOSED and posts DP_CLOSED. -/
  | dpCloseComplete (m : Moment) (p : Fin 8)
  /-- DP_ABORT (R68). A DP_CTRL.ABORT write discards the merge buffer, ends the session and closes the port without an event. -/
  | dpAbort (m : Moment) (p : Fin 8) (ctrl : Word)
  /-- DP_WINDOW_WRITE (R64). A write TLP to a data-port window stores stream bytes at DP_PTR, or discards them as closed, beyond the limit or poisoned. -/
  | dpWindowWrite (m : Moment) (p : Fin 8) (bytes : List Byte) (poisoned : Bool)
  /-- DP_WINDOW_READ (R69). A read of a data-port window returns stream bytes from DP_RPTR and advances DP_RPTR. -/
  | dpWindowRead (m : Moment) (p : Fin 8) (count : Nat)
  /-- DP_HBM_WRITE_DONE (R64). Accepted port bytes reach HBM, and BUSY falls once none remain outstanding. -/
  | dpHbmWriteDone (m : Moment) (p : Fin 8) (count : Nat)
  /-- DP_STALL_TIMEOUT (R66). A port open and mid-block for 10,240 AON ticks without a write sets STALLED and posts DP_STALLED. -/
  | dpStallTimeout (m : Moment) (p : Fin 8)
  /-- TICK_LO_READ (R50). A read of HST_TICK_LO latches tick-counter bits [63:32] into HST_TICK_HI. -/
  | tickLoRead (m : Moment) (wide : Bool)
  /-- AON_LO_READ (R50). A read of HST_AON_LO latches HST_AON_HI. -/
  | aonLoRead (m : Moment) (wide : Bool)
  /-- RING_LOST_READ (R11). A read of INT_RING_LOST returns the count of lost events and clears it. -/
  | ringLostRead (m : Moment)
  /-- DP_DROPPED_READ (R11). A read of DP_DROPPED returns the count of discarded bytes and clears it. -/
  | dpDroppedRead (m : Moment) (p : Fin 8)
  /-- PAIR_DIVERGENCES_READ (R347). A read of PAIR_DIVERGENCES returns the count of mismatching digests and clears it. -/
  | pairDivergencesRead (m : Moment)
  /-- RING_ENABLE_WRITE (R59). Setting INT_RING_CTRL.ENABLE resets PROD, CONS and PHASE, and writes a pending RING_OVERRUN entry. -/
  | ringEnableWrite (m : Moment) (v : Word)
  /-- RING_CONS_WRITE (R59). A host write of INT_RING_CONS frees ring entries. -/
  | ringConsWrite (m : Moment) (v : Word)
  /-- INT_ENABLE_WRITE (R57). A write to INT_ENABLE that sets a bit whose STATUS bit is 1 sends an MSI-X message. -/
  | intEnableWrite (m : Moment) (v : Word)
  /-- REGISTER_WRITE (R10). A host write to a register that has no row of its own takes effect by its access codes. -/
  | registerWrite (m : Moment) (offset size : Nat) (v : BitVec 64)
  /-- INT_HOLDOFF_EXPIRY (R58). HOLDOFF µs after the first unsignalled ring entry, STATUS bit 0 is set. -/
  | intHoldoffExpiry (m : Moment)
  /-- SYS_NOP (R92). SYS.NOP does nothing and answers at once. -/
  | sysNop (m : Moment) (rq : Request)
  /-- SYS_INFO (R92). SYS.INFO returns identity, weave mode and active counts. -/
  | sysInfo (m : Moment) (rq : Request)
  /-- SYS_STATE (R92). SYS.STATE returns system, power and commit state. -/
  | sysState (m : Moment) (rq : Request)
  /-- SYS_PAUSE (R92). SYS.PAUSE moves the device from PRINTING to PAUSED. -/
  | sysPause (m : Moment) (rq : Request)
  /-- SYS_RESUME (R92). SYS.RESUME starts the whole-configuration check that leads back to ARMED. -/
  | sysResume (m : Moment) (rq : Request)
  /-- SYS_RESET (R92). SYS.RESET with the confirm word schedules entry to UPSETT at U3 1 ms after the response. -/
  | sysReset (m : Moment) (rq : Request)
  /-- RESET_ENTRY (R92). 1 ms after the SYS.RESET response, the device enters UPSETT at U3. -/
  | resetEntry (m : Moment)
  /-- SYS_DONE_LIST (R92). SYS.DONE_LIST returns the mailbox's 16 most recent COMMAND_DONE records. -/
  | sysDoneList (m : Moment) (rq : Request)
  /-- CFG_COMMIT (R83). CFG.COMMIT submits the mailbox's shadow set for ownership, repeated checks and the consistency check. -/
  | cfgCommit (m : Moment) (rq : Request)
  /-- COMMIT_ACCEPT (R93). A held commit is accepted or refused once checks, module delivery and earlier commits allow, fixing A_b per bar. -/
  | commitAccept (m : Moment)
  /-- CFG_DISCARD (R92). CFG.DISCARD empties the mailbox's shadow set. -/
  | cfgDiscard (m : Moment) (rq : Request)
  /-- CFG_STAGED (R92). CFG.STAGED returns the staged counts and bar mask. -/
  | cfgStaged (m : Moment) (rq : Request)
  /-- CFG_CHECK (R92). CFG.CHECK starts a consistency check without changing anything. -/
  | cfgCheck (m : Moment) (rq : Request)
  /-- CFG_OWNER (R92). CFG.OWNER returns the owner of a resource. -/
  | cfgOwner (m : Moment) (rq : Request)
  /-- GEOM_HEAD_SET (R98). GEOM.HEAD_SET stages a head record. -/
  | geomHeadSet (m : Moment) (rq : Request)
  /-- GEOM_ROW_SET (R102). GEOM.ROW_SET stages a head-row record. -/
  | geomRowSet (m : Moment) (rq : Request)
  /-- GEOM_BAR_SET (R100). GEOM.BAR_SET stages a bar record. -/
  | geomBarSet (m : Moment) (rq : Request)
  /-- GEOM_NMAP_WRITE (R108). GEOM.NMAP_WRITE stages masked nozzle-map entries from the payload. -/
  | geomNmapWrite (m : Moment) (rq : Request)
  /-- GEOM_NMAP_LOAD (R118). GEOM.NMAP_LOAD copies nozzle-map entries from HBM and stages them. -/
  | geomNmapLoad (m : Moment) (rq : Request)
  /-- GEOM_NMAP_READ (R120). GEOM.NMAP_READ returns nozzle-map entries. -/
  | geomNmapRead (m : Moment) (rq : Request)
  /-- GEOM_STITCH_SET (R110). GEOM.STITCH_SET stages a stitch zone. -/
  | geomStitchSet (m : Moment) (rq : Request)
  /-- GEOM_MASK_LOAD (R118). GEOM.MASK_LOAD copies a stitch or pass mask from HBM and stages it. -/
  | geomMaskLoad (m : Moment) (rq : Request)
  /-- GEOM_SWATH (R114). GEOM.SWATH stages pass_index and swath_offset of a SCANNING bar. -/
  | geomSwath (m : Moment) (rq : Request)
  /-- GEOM_GET (R120). GEOM.GET returns a geometry record. -/
  | geomGet (m : Moment) (rq : Request)
  /-- GEOM_COVERAGE (R121). GEOM.COVERAGE starts examining the coverage of a bar. -/
  | geomCoverage (m : Moment) (rq : Request)
  /-- COVERAGE_DONE (R121). The coverage examination completes, stores its result and posts COMMAND_DONE. -/
  | coverageDone (m : Moment)
  /-- AXIS_CONFIG (R153). AXIS.CONFIG stages an axis configuration. -/
  | axisConfig (m : Moment) (rq : Request)
  /-- AXIS_ENABLE (R153). AXIS.ENABLE stages the enabling or disabling of an axis. -/
  | axisEnable (m : Moment) (rq : Request)
  /-- AXIS_READ (R155). AXIS.READ returns a coherent snapshot of an axis. -/
  | axisRead (m : Moment) (rq : Request)
  /-- AXIS_PRESET (R138). AXIS.PRESET loads the counter now, arms a load at the next index event, or cancels an armed load. -/
  | axisPreset (m : Moment) (rq : Request)
  /-- AXIS_CLEAR (R144). AXIS.CLEAR clears statistics or returns a FAULTED axis to STOPPED. -/
  | axisClear (m : Moment) (rq : Request)
  /-- AXIS_ECHO_SET (R147). AXIS.ECHO_SET stages an echo-output configuration. -/
  | axisEchoSet (m : Moment) (rq : Request)
  /-- AXIS_WAKE_SET (R152). AXIS.WAKE_SET stages the motion-wake settings. -/
  | axisWakeSet (m : Moment) (rq : Request)
  /-- AXIS_BAR_POSITION (R145). AXIS.BAR_POSITION returns a bar's synthesised position and motion. -/
  | axisBarPosition (m : Moment) (rq : Request)
  /-- AXIS_GET (R155). AXIS.GET returns an axis, echo or wake record. -/
  | axisGet (m : Moment) (rq : Request)
  /-- TRIG_CONFIG (R180). TRIG.CONFIG stages a trigger-generator configuration. -/
  | trigConfig (m : Moment) (rq : Request)
  /-- TRIG_ENABLE (R180). TRIG.ENABLE runs a scoped check and is accepted as a commit of its own. -/
  | trigEnable (m : Moment) (rq : Request)
  /-- TRIG_RUN_WRITE (R161). TRIG.RUN_WRITE stages run-table entries. -/
  | trigRunWrite (m : Moment) (rq : Request)
  /-- TRIG_RUN_START (R160). TRIG.RUN_START stages a new start entry for a generator. -/
  | trigRunStart (m : Moment) (rq : Request)
  /-- TRIG_STATUS (R182). TRIG.STATUS returns the state and counters of a generator. -/
  | trigStatus (m : Moment) (rq : Request)
  /-- TRIG_SPIT (R177). TRIG.SPIT starts a burst of SPIT strobes for a stationary bar. -/
  | trigSpit (m : Moment) (rq : Request)
  /-- SPIT_BURST_DONE (R177). The spit burst ends, or is cut short by motion, and posts COMMAND_DONE. -/
  | spitBurstDone (m : Moment) (g : Fin 16)
  /-- TRIG_SPIT_RESUME (R176). TRIG.SPIT_RESUME clears dry hold after a spit. -/
  | trigSpitResume (m : Moment) (rq : Request)
  /-- TRIG_TRIGOUT_SET (R179). TRIG.TRIGOUT_SET stages a TRIGOUT output configuration. -/
  | trigTrigoutSet (m : Moment) (rq : Request)
  /-- TRIG_GET (R182). TRIG.GET returns a config, run-entry or TRIGOUT record. -/
  | trigGet (m : Moment) (rq : Request)
  /-- TRIG_CLEAR (R182). TRIG.CLEAR clears the counters of a generator. -/
  | trigClear (m : Moment) (rq : Request)
  /-- WAVE_WAVE_SET (R187). WAVE.WAVE_SET stages a library waveform. -/
  | waveWaveSet (m : Moment) (rq : Request)
  /-- WAVE_PROFILE_SET (R189). WAVE.PROFILE_SET stages a drive profile. -/
  | waveProfileSet (m : Moment) (rq : Request)
  /-- WAVE_BAR_SET (R191). WAVE.BAR_SET stages a bar's tickle waveform and windows. -/
  | waveBarSet (m : Moment) (rq : Request)
  /-- WAVE_CHANNEL_SET (R193). WAVE.CHANNEL_SET stages a digital channel binding. -/
  | waveChannelSet (m : Moment) (rq : Request)
  /-- WAVE_DAC_SET (R197). WAVE.DAC_SET stages a DAC binding. -/
  | waveDacSet (m : Moment) (rq : Request)
  /-- WAVE_CURVE_SET (R203). WAVE.CURVE_SET stages a temperature or density curve. -/
  | waveCurveSet (m : Moment) (rq : Request)
  /-- WAVE_GET (R208). WAVE.GET returns a waveform record. -/
  | waveGet (m : Moment) (rq : Request)
  /-- WAVE_STATUS (R208). WAVE.STATUS returns channel or bar status. -/
  | waveStatus (m : Moment) (rq : Request)
  /-- WAVE_CLEAR (R208). WAVE.CLEAR clears the counters of a channel. -/
  | waveClear (m : Moment) (rq : Request)
  /-- PLANE_DEFINE (R217). PLANE.DEFINE stages a plane descriptor. -/
  | planeDefine (m : Moment) (rq : Request)
  /-- PLANE_ENABLE (R238). PLANE.ENABLE binds or unbinds a plane as a commit of its own. -/
  | planeEnable (m : Moment) (rq : Request)
  /-- PLANE_RING_SET (R221). PLANE.RING_SET stages a bar's line ring. -/
  | planeRingSet (m : Moment) (rq : Request)
  /-- PLANE_INDEX_WRITE (R238). PLANE.INDEX_WRITE writes block-index entries into HBM. -/
  | planeIndexWrite (m : Moment) (rq : Request)
  /-- PLANE_INDEX_READ (R238). PLANE.INDEX_READ returns block-index entries. -/
  | planeIndexRead (m : Moment) (rq : Request)
  /-- PLANE_STATUS (R238). PLANE.STATUS returns plane or bar ring status. -/
  | planeStatus (m : Moment) (rq : Request)
  /-- PLANE_RETRY (R235). PLANE.RETRY decodes a halted block again. -/
  | planeRetry (m : Moment) (rq : Request)
  /-- PLANE_GET (R238). PLANE.GET returns a plane or ring record. -/
  | planeGet (m : Moment) (rq : Request)
  /-- PLANE_CLEAR (R238). PLANE.CLEAR clears plane or bar counters. -/
  | planeClear (m : Moment) (rq : Request)
  /-- PLAIT_SESSION_OPEN (R257). PLAIT.SESSION_OPEN opens a compressor session on a plane. -/
  | plaitSessionOpen (m : Moment) (rq : Request)
  /-- PLAIT_SESSION_END (R262). PLAIT.SESSION_END ends an unbound session and discards what it holds. -/
  | plaitSessionEnd (m : Moment) (rq : Request)
  /-- PLAIT_SESSION_STATUS (R263). PLAIT.SESSION_STATUS returns a session's state. -/
  | plaitSessionStatus (m : Moment) (rq : Request)
  /-- PLAIT_VERIFY (R263). PLAIT.VERIFY starts checking a range of blocks. -/
  | plaitVerify (m : Moment) (rq : Request)
  /-- VERIFY_DONE (R263). The last block of a verification is checked, the result is stored and COMMAND_DONE is posted. -/
  | verifyDone (m : Moment)
  /-- PLAIT_VERIFY_RESULT (R263). PLAIT.VERIFY_RESULT returns the latest verification result. -/
  | plaitVerifyResult (m : Moment) (rq : Request)
  /-- PLAIT_DECODE (R263). PLAIT.DECODE starts decoding one block into HBM. -/
  | plaitDecode (m : Moment) (rq : Request)
  /-- DECODE_DONE (R263). The decode into HBM ends in success or failure and posts COMMAND_DONE. -/
  | decodeDone (m : Moment)
  /-- PLAIT_STATUS (R263). PLAIT.STATUS returns engine counts and counters. -/
  | plaitStatus (m : Moment) (rq : Request)
  /-- PLAIT_CLEAR (R263). PLAIT.CLEAR clears the PLAIT counters. -/
  | plaitClear (m : Moment) (rq : Request)
  /-- CANE_PORT_SET (R295). CANE.PORT_SET stages a port configuration. -/
  | canePortSet (m : Moment) (rq : Request)
  /-- CANE_PORT_STATUS (R295). CANE.PORT_STATUS returns port state and counters. -/
  | canePortStatus (m : Moment) (rq : Request)
  /-- CANE_MODULE_INFO (R295). CANE.MODULE_INFO returns fields of the latest STS. -/
  | caneModuleInfo (m : Moment) (rq : Request)
  /-- CANE_RETRAIN (R295). CANE.RETRAIN puts a port into DOWN and starts training. -/
  | caneRetrain (m : Moment) (rq : Request)
  /-- CANE_CLEAR (R295). CANE.CLEAR clears port counters. -/
  | caneClear (m : Moment) (rq : Request)
  /-- CANE_GET (R295). CANE.GET returns a port configuration. -/
  | caneGet (m : Moment) (rq : Request)
  /-- HEALTH_POLICY_SET (R319). HEALTH.POLICY_SET stages a bar's health policy. -/
  | healthPolicySet (m : Moment) (rq : Request)
  /-- HEALTH_REF_SET (R303). HEALTH.REF_SET stages a row reference. -/
  | healthRefSet (m : Moment) (rq : Request)
  /-- HEALTH_SUBST_SET (R308). HEALTH.SUBST_SET stages substitutions. -/
  | healthSubstSet (m : Moment) (rq : Request)
  /-- HEALTH_SUBST_CLEAR (R311). HEALTH.SUBST_CLEAR stages the end of substitutions. -/
  | healthSubstClear (m : Moment) (rq : Request)
  /-- HEALTH_REPORT_OUT (R314). HEALTH.REPORT_OUT records host-reported outs as results or held classes. -/
  | healthReportOut (m : Moment) (rq : Request)
  /-- HEALTH_RELEASE_OUT (R314). HEALTH.RELEASE_OUT clears host_held and sets class UNKNOWN. -/
  | healthReleaseOut (m : Moment) (rq : Request)
  /-- HEALTH_TEMP_SET (R316). HEALTH.TEMP_SET stages head-temperature regulation settings. -/
  | healthTempSet (m : Moment) (rq : Request)
  /-- HEALTH_NOZZLE_READ (R319). HEALTH.NOZZLE_READ returns health records and latest results. -/
  | healthNozzleRead (m : Moment) (rq : Request)
  /-- HEALTH_SUBST_READ (R319). HEALTH.SUBST_READ returns substitutions. -/
  | healthSubstRead (m : Moment) (rq : Request)
  /-- HEALTH_STATUS (R319). HEALTH.STATUS returns bar or head health status. -/
  | healthStatus (m : Moment) (rq : Request)
  /-- HEALTH_GET (R319). HEALTH.GET returns a policy, reference or temperature record. -/
  | healthGet (m : Moment) (rq : Request)
  /-- HEALTH_CLEAR (R319). HEALTH.CLEAR clears counters or a head's degraded flag. -/
  | healthClear (m : Moment) (rq : Request)
  /-- PAIR_CONFIG (R348). PAIR.CONFIG sets mirror mode, act_gpio and resync_match. -/
  | pairConfig (m : Moment) (rq : Request)
  /-- PAIR_STATUS (R348). PAIR.STATUS returns pairing status and counters. -/
  | pairStatus (m : Moment) (rq : Request)
  /-- PAIR_PROMOTE (R348). PAIR.PROMOTE promotes a standby unit when its twin's heartbeat is absent. -/
  | pairPromote (m : Moment) (rq : Request)
  /-- PAIR_RESYNC (R341). PAIR.RESYNC starts resynchronisation of unit S. -/
  | pairResync (m : Moment) (rq : Request)
  /-- PAIR_UNPAIR (R348). PAIR.UNPAIR ends the pair and sets the no-retrain condition. -/
  | pairUnpair (m : Moment) (rq : Request)
  /-- PAIR_GET (R348). PAIR.GET returns the pairing configuration. -/
  | pairGet (m : Moment) (rq : Request)
  /-- PAIR_REJOIN (R348). PAIR.REJOIN clears no-retrain and INCOMPATIBLE and starts Pairing training. -/
  | pairRejoin (m : Moment) (rq : Request)
  /-- MEM_STATUS (R369). MEM.STATUS returns memory mode and error counters. -/
  | memStatus (m : Moment) (rq : Request)
  /-- MEM_REGIONS (R369). MEM.REGIONS returns the region registers of a master. -/
  | memRegions (m : Moment) (rq : Request)
  /-- MEM_STAKE_STATUS (R369). MEM.STAKE_STATUS returns a Stake bank's owner and flags. -/
  | memStakeStatus (m : Moment) (rq : Request)
  /-- MEM_STAKE_HANDOVER (R357). MEM.STAKE_HANDOVER transfers a Stake bank, clearing it where required. -/
  | memStakeHandover (m : Moment) (rq : Request)
  /-- MEM_BANK_RETIRE (R365). MEM.BANK_RETIRE retires a Weave bank. -/
  | memBankRetire (m : Moment) (rq : Request)
  /-- WEAVE_REFORM_DONE (R366). Re-forming of the pool in CONTIGUOUS mode completes and posts WEAVE_BANK. -/
  | weaveReformDone (m : Moment)
  /-- MEM_SCRUB_SET (R369). MEM.SCRUB_SET stages the scrub period and corrected limit. -/
  | memScrubSet (m : Moment) (rq : Request)
  /-- MEM_ERRORS (R369). MEM.ERRORS returns the error records of a memory. -/
  | memErrors (m : Moment) (rq : Request)
  /-- MEM_HBM_ROWS (R369). MEM.HBM_ROWS returns the pending repair list. -/
  | memHbmRows (m : Moment) (rq : Request)
  /-- MEM_HBM_REPAIR (R363). MEM.HBM_REPAIR starts writing REPAIR records for the pending rows into OTP. -/
  | memHbmRepair (m : Moment) (rq : Request)
  /-- MEM_CLEAR (R369). MEM.CLEAR clears the memory counters. -/
  | memClear (m : Moment) (rq : Request)
  /-- MEM_GET (R369). MEM.GET returns the scrub settings. -/
  | memGet (m : Moment) (rq : Request)
  /-- DMA_OPEN (R372). DMA.OPEN gives a free channel to the mailbox. -/
  | dmaOpen (m : Moment) (rq : Request)
  /-- DMA_CLOSE (R373). DMA.CLOSE releases an IDLE channel. -/
  | dmaClose (m : Moment) (rq : Request)
  /-- DMA_START (R378). DMA.START begins a transfer from gather and scatter lists. -/
  | dmaStart (m : Moment) (rq : Request)
  /-- DMA_STATUS (R390). DMA.STATUS returns channel state and counters. -/
  | dmaStatus (m : Moment) (rq : Request)
  /-- DMA_RESUME (R387). DMA.RESUME retries a halted channel. -/
  | dmaResume (m : Moment) (rq : Request)
  /-- DMA_SKIP (R387). DMA.SKIP abandons the failing pair of a halted channel. -/
  | dmaSkip (m : Moment) (rq : Request)
  /-- DMA_ABORT (R388). DMA.ABORT stops a channel and posts DMA_DONE with ABORTED. -/
  | dmaAbort (m : Moment) (rq : Request)
  /-- DMA_CLEAR (R390). DMA.CLEAR clears channel counters. -/
  | dmaClear (m : Moment) (rq : Request)
  /-- POWER_STATUS (R410). POWER.STATUS returns power, rail and restart status. -/
  | powerStatus (m : Moment) (rq : Request) (hvok : Byte)
  /-- POWER_SET_STATE (R400). POWER.SET_STATE requests entry to a lower power state or return to READY. -/
  | powerSetState (m : Moment) (rq : Request)
  /-- POWER_POLICY_SET (R410). POWER.POLICY_SET stages wake mask and idle timers. -/
  | powerPolicySet (m : Moment) (rq : Request)
  /-- POWER_HV_SET (R403). POWER.HV_SET stages a head supply's configuration. -/
  | powerHvSet (m : Moment) (rq : Request)
  /-- POWER_RAIL_READ (R410). POWER.RAIL_READ reads a rail over PMBus. -/
  | powerRailRead (m : Moment) (rq : Request) (bus : Option (List Nat))
  /-- POWER_IMAGE_WRITE (R408). POWER.IMAGE_WRITE writes into the firmware slot not loaded. -/
  | powerImageWrite (m : Moment) (rq : Request)
  /-- IMAGE_WRITE_DONE (R410). The flash write of an image chunk ends and posts COMMAND_DONE. -/
  | imageWriteDone (m : Moment) (ok : Bool)
  /-- POWER_GET (R410). POWER.GET returns the policy or an HV record. -/
  | powerGet (m : Moment) (rq : Request)
  /-- POWER_THERM_READ (R426). POWER.THERM_READ returns sensor readings and levels. -/
  | powerThermRead (m : Moment) (rq : Request)
  /-- POWER_THERM_SET (R417). POWER.THERM_SET stages a domain's thermal thresholds. -/
  | powerThermSet (m : Moment) (rq : Request)
  /-- POWER_THERM_GET (R426). POWER.THERM_GET returns a domain's thresholds. -/
  | powerThermGet (m : Moment) (rq : Request)
  /-- POWER_THERM_CLEAR (R426). POWER.THERM_CLEAR clears trips and sensor faults. -/
  | powerThermClear (m : Moment) (rq : Request)
  /-- CAL_STATUS (R439). CAL.STATUS returns calibration status. -/
  | calStatus (m : Moment) (rq : Request)
  /-- CAL_RUN (R439). CAL.RUN starts calibration of the named targets. -/
  | calRun (m : Moment) (rq : Request)
  /-- CAL_STORE (R438). CAL.STORE starts writing the coefficients in force to the older flash slot. -/
  | calStore (m : Moment) (rq : Request)
  /-- CAL_STORED (R438). The record is written and verified, the slot becomes current, and CAL_STORED is posted, or FLASH_ERROR ends the store. -/
  | calStored (m : Moment) (ok : Bool)
  /-- CAL_ADC_READ (R439). CAL.ADC_READ returns the latest ADC scan. -/
  | calAdcRead (m : Moment) (rq : Request)
  /-- CAL_COEFF_READ (R439). CAL.COEFF_READ returns a target's coefficients. -/
  | calCoeffRead (m : Moment) (rq : Request)
  /-- OTP_STATUS (R462). OTP.STATUS returns life-cycle and region status. -/
  | otpStatus (m : Moment) (rq : Request)
  /-- OTP_READ (R462). OTP.READ returns array words at a margin or from the shadow. -/
  | otpRead (m : Moment) (rq : Request)
  /-- OTP_PROGRAM (R458). OTP.PROGRAM programs masked bits of one word. -/
  | otpProgram (m : Moment) (rq : Request)
  /-- OTP_REPAIR_PULSE (R461). OTP.REPAIR_PULSE re-pulses marginal bits of one word. -/
  | otpRepairPulse (m : Moment) (rq : Request)
  /-- OTP_LC_CHALLENGE (R462). OTP.LC_CHALLENGE returns a fresh nonce. -/
  | otpLcChallenge (m : Moment) (rq : Request)
  /-- OTP_LC_ADVANCE (R456). OTP.LC_ADVANCE programs the life-cycle thermometer toward a target state. -/
  | otpLcAdvance (m : Moment) (rq : Request)
  /-- OTP_REVOKE_KEY (R454). OTP.REVOKE_KEY revokes a boot key. -/
  | otpRevokeKey (m : Moment) (rq : Request)
  /-- OTP_MARGIN_CHECK (R452). OTP.MARGIN_CHECK starts a margin recheck. -/
  | otpMarginCheck (m : Moment) (rq : Request)
  /-- OTP_OPERATION_DONE (R460). An OTP operation completes or stops, is logged and posts COMMAND_DONE. -/
  | otpOperationDone (m : Moment) (pulses : OtpPulses)
  /-- BIST_STATUS (R475). BIST.STATUS returns self-test status. -/
  | bistStatus (m : Moment) (rq : Request)
  /-- BIST_RUN (R473). BIST.RUN starts a test on demand of a partition or pool unit. -/
  | bistRun (m : Moment) (rq : Request)
  /-- BIST_STOP (R475). BIST.STOP ends the test on demand with cause STOPPED. -/
  | bistStop (m : Moment) (rq : Request)
  /-- BIST_RESULT (R475). BIST.RESULT returns the latest result of a partition or unit. -/
  | bistResult (m : Moment) (rq : Request)
  /-- BIST_CONFIG (R475). BIST.CONFIG stages the rotation period. -/
  | bistConfig (m : Moment) (rq : Request)
  /-- BIST_GET (R475). BIST.GET returns the rotation period. -/
  | bistGet (m : Moment) (rq : Request)
  /-- LOG_STATUS (R488). LOG.STATUS returns log occupancy and counters. -/
  | logStatus (m : Moment) (rq : Request)
  /-- LOG_READ (R488). LOG.READ returns log entries. -/
  | logRead (m : Moment) (rq : Request)
  /-- LOG_ACK (R482). LOG.ACK sets ack_sequence. -/
  | logAck (m : Moment) (rq : Request)
  /-- LOG_CONFIG (R484). LOG.CONFIG stages the log mode. -/
  | logConfig (m : Moment) (rq : Request)
  /-- LOG_EPOCH_SET (R481). LOG.EPOCH_SET sets utc_at_zero and writes an EPOCH entry. -/
  | logEpochSet (m : Moment) (rq : Request)
  /-- LOG_GET (R488). LOG.GET returns mode and utc_at_zero. -/
  | logGet (m : Moment) (rq : Request)
  /-- POR_RELEASE (R42). POR_N is released with VDD_AON good and the Upsett sequence starts at U0. -/
  | porRelease (m : Moment) (vddAonGood : Bool)
  /-- POR_ASSERT (R42). POR_N is asserted or VDD_AON is lost, and the device enters OFF. -/
  | porAssert (m : Moment)
  /-- RSTN_ASSERT (R405). RSTN is asserted, which faults the device or restarts it from FAULT. -/
  | rstnAssert (m : Moment)
  /-- WAKE_PIN (R401). WAKE high for 2 AON ticks wakes the device or restarts it from SAFE. -/
  | wakePin (m : Moment)
  /-- UPSETT_PHASE_DONE (R406). An Upsett phase completes and the next begins; U7 completion enters READY. -/
  | upsettPhaseDone (m : Moment) (i : PhaseInput)
  /-- UPSETT_PHASE_TIMEOUT (R406). An Upsett phase times out and the device enters FAULT.  In U3: whether the reference delivers edges. -/
  | upsettPhaseTimeout (m : Moment) (edges : Bool)
  /-- RAIL_RETRY (R406). 100 ms after a U2 failure, the rails are raised again. -/
  | railRetry (m : Moment)
  /-- REF_DETECT_DONE (R393). After 100 µs of listening, the Keeper selects oscillator or crystal mode. -/
  | refDetectDone (m : Moment) (edges : Nat)
  /-- RAIL_STEP (R397). A PG high for 10 AON ticks raises the next EN_P line in up order. -/
  | railStep (m : Moment)
  /-- PG_FALL (R397). During power-down a PG falls and the next line is lowered. -/
  | pgFall (m : Moment)
  /-- PG_TIMEOUT (R397). A PG stays high beyond pg_timeout during power-down; this is logged and the sequence continues. -/
  | pgTimeout (m : Moment)
  /-- RAIL_LOST (R397). A PG reads low for 4 AON ticks while its line is high, an uncorrectable fault. -/
  | railLost (m : Moment) (k : Fin 8)
  /-- REF_LOST (R394). The clock monitor finds no reference edge for 1 µs, a fault while PD_TIME runs. -/
  | refLost (m : Moment)
  /-- PLL_UNLOCK (R394). A PLL other than HOST loses lock, an uncorrectable fault. -/
  | pllUnlock (m : Moment) (pll : Pll)
  /-- HOST_LINK_LOSS (R394). Loss of PEX_REFCLK or HOST lock takes the PCI Express link down while printing continues. -/
  | hostLinkLoss (m : Moment)
  /-- PCIE_LINK_UP (R402). The PCI Express link returns after being down and the function is reset. -/
  | pcieLinkUp (m : Moment)
  /-- AON_TRIM (R395). Every 16 ms the Keeper counts reference cycles and steps the AON trim code. -/
  | aonTrim (m : Moment) (count : Nat)
  /-- PMBUS_ALERT (R398). PMB_ALERTN falls; the Keeper reads the alert responder and posts PMBUS_ALERT. -/
  | pmbusAlert (m : Moment) (rail : Fin 8) (status : BitVec 16)
  /-- DOZE_TIMER (R399). doze_after seconds without activity in READY start entry to DOZE. -/
  | dozeTimer (m : Moment)
  /-- SLEEP_TIMER (R399). sleep_after seconds in DOZE start entry to SLEEP. -/
  | sleepTimer (m : Moment)
  /-- POWER_ENTRY (R400). 1 ms after POWER.SET_STATE the entry to DOZE, SLEEP or OFF-AON proceeds in order. -/
  | powerEntry (m : Moment)
  /-- HV_DISCHARGED (R400). HVOK falls after HVEN, and a waiting power-state entry proceeds. -/
  | hvDischarged (m : Moment) (k : Fin 8)
  /-- PCIE_WAKE (R401). Electrical-idle exit on PEX_RXP/N[0] wakes the device. -/
  | pcieWake (m : Moment)
  /-- AON_WAKE_TIMER (R401). aon_timer seconds after entry wake the device. -/
  | aonWakeTimer (m : Moment)
  /-- WAKE_COMPLETE (R402). Wake steps and port training finish and PWR_STATE reads READY. -/
  | wakeComplete (m : Moment)
  /-- HVOK_TIMEOUT (R404). HVOK is not high within hv_on_timeout; the supply is FAILED. -/
  | hvokTimeout (m : Moment) (k : Fin 8)
  /-- HV_LOST (R404). HVOK is low for 10 AON ticks while enabled; the supply fails, and faults the device under fail_policy FAULT. -/
  | hvLost (m : Moment) (k : Fin 8)
  /-- HV_DISCHARGE_TIMEOUT (R404). HVOK is still high after hv_discharge_timeout; the supply is FAILED. -/
  | hvDischargeTimeout (m : Moment) (k : Fin 8)
  /-- VDDIO_LOST (R508). VDDIO_33 below 2.9 V for 4 AON ticks is a fault or is recorded. -/
  | vddioLost (m : Moment)
  /-- THERMAL_SAMPLE (R413). Every 1,024 AON ticks all temperature sensors are sampled and die_max formed. -/
  | thermalSample (m : Moment) (r : TempReadings)
  /-- SENSOR_VALIDITY_CHANGE (R414). After 4 samples a sensor changes validity; fewer than 8 valid is SENSORS_LOST. -/
  | sensorValidityChange (m : Moment) (i : Fin 16)
  /-- THERM_GRADIENT (R415). The gradient stays above or returns below gradient_limit for 4 samples. -/
  | thermGradient (m : Moment)
  /-- THERM_LEVEL (R416). A domain's 4-sample dwell completes and it steps one level. -/
  | thermLevel (m : Moment) (domain : Fin 2)
  /-- HBM_SENSOR_LOST (R421). The stack sensor is unreadable for 4 samples and the HBM ceiling is forced to its floor. -/
  | hbmSensorLost (m : Moment)
  /-- KEEPER_TRIP (R422). The fourth consecutive trip vote shuts down supplies and clocks and enters SAFE. -/
  | keeperTrip (m : Moment)
  /-- SAFE_RESTART (R423). Both dedicated sensors are below 90 °C for 10,240,000 AON ticks; restart at U1 or RESTART_LIMIT. -/
  | safeRestart (m : Moment)
  /-- QUADRATURE_EDGE (R128). A change of the filtered A/B pair counts an edge or an illegal edge on an axis. -/
  | quadratureEdge (m : Moment) (n : Fin 8) (rawA rawB : List Bool)
  /-- INDEX_EVENT (R130). An index edge of Z records last_index_position and checks the index or applies an armed preset. -/
  | indexEvent (m : Moment) (n : Fin 8) (rawZ : List Bool)
  /-- SSI_FRAME_START (R139). At a frame-start multiple an SSI axis starts a frame or waits for data high. -/
  | ssiFrameStart (m : Moment) (n : Fin 8) (dataHigh : Bool)
  /-- SSI_FRAME_END (R141). An SSI frame ends; a good frame updates the counter and a failed frame counts an error. -/
  | ssiFrameEnd (m : Moment) (n : Fin 8) (bits : List Bool) (endLow : Bool)
  /-- SPEED_WINDOW_END (R134). A speed window ends, updating speed, the edgeless-window count and the motion state. -/
  | speedWindowEnd (m : Moment) (n : Fin 8)
  /-- EVENT_HOLDOFF_EXPIRY (R133). A rate-limit holdoff ends and a held event is posted with current values. -/
  | eventHoldoffExpiry (m : Moment) (key : EventKey)
  /-- ECHO_STEP (R149). An echo output takes one step of a pending count once min spacing allows. -/
  | echoStep (m : Moment) (k : Fin 4)
  /-- MOTION_WAKE_TRANSITION (R152). An AXn_A transition in a gated state is counted and may wake the device. -/
  | motionWakeTransition (m : Moment) (n : Fin 8)
  /-- WAKE_WINDOW_END (R152). A motion-wake window ends and the counts clear. -/
  | wakeWindowEnd (m : Moment)
  /-- PERIODIC_EVALUATION (R168). Every 64 TIME ticks each enabled bar is evaluated and due hits are ticketed, dropped or spat. -/
  | periodicEvaluation (m : Moment)
  /-- TICKLE_EMIT (R175). At each tickle_period multiple an idle keep-alive bar emits a TICKLE strobe. -/
  | tickleEmit (m : Moment) (b : Fin 16)
  /-- DRY_RISK (R176). dry_time without an ejecting fire raises DRY_RISK and may start dry hold. -/
  | dryRisk (m : Moment) (b : Fin 16)
  /-- TRIGOUT_PULSE (R179). A TRIGOUT output asserts at the fire tick plus delay and releases after width. -/
  | trigoutPulse (m : Moment) (k : Fin 8)
  /-- LINE_PREPARE (R230). The line engine prepares the next line of a bar once its ring lines are valid and a slot is free. -/
  | linePrepare (m : Moment) (b : Fin 16)
  /-- NOZ_SEND (R278). NOZ frames of a prepared line are sent once fewer than 8 lines are buffered. -/
  | nozSend (m : Moment) (b : Fin 16) (p : Fin 32)
  /-- DECOMP_SCHEDULE (R226). A free decompressor takes the next block of the bar with the smallest lead. -/
  | decompSchedule (m : Moment)
  /-- INDEX_REREAD (R215). An index entry with VALID 0 is reread at 1–10 µs intervals. -/
  | indexReread (m : Moment) (b : Fin 16)
  /-- BLOCK_DECODE_DONE (R225). A block finishes decoding; its lines become valid, or it is bad input. -/
  | blockDecodeDone (m : Moment) (u : Fin 5)
  /-- DECOMP_RESUME (R227). A decompressor suspended at the window end resumes when the window moves. -/
  | decompResume (m : Moment) (b : Fin 16)
  /-- PEER_BLOCK_RESPONSE (R234). The twin's block bytes arrive; a valid decode settles the block and posts PEER_REPAIRED. -/
  | peerBlockResponse (m : Moment) (p : Fin 64) (block : Nat) (bytes : Option (List Byte))
  /-- PEER_REQUEST_TIMEOUT (R234). No twin answer within 100 µs applies peer_fallback. -/
  | peerRequestTimeout (m : Moment) (p : Fin 64)
  /-- PEER_BLOCK_REQUEST (R323). The twin's block request arrives and the unit sends its block on the PEER class. -/
  | peerBlockRequest (m : Moment) (p : Fin 64) (block : Nat)
  /-- SESSION_BLOCK_EMIT (R259). A compressor finishes a block row's blocks and writes their index entries. -/
  | sessionBlockEmit (m : Moment) (k : Fin 16)
  /-- RX_LOCKED (R289). A Cane receiver locks to clock and data in ELECTRICAL. -/
  | rxLocked (m : Moment) (p : Fin 32)
  /-- BLOCK_LOCK_ACQUIRED (R266). 64 valid sync headers give block lock and polarity. -/
  | blockLockAcquired (m : Moment) (p : Fin 32) (inverted : Bool)
  /-- BLOCK_LOCK_LOSS (R290). 16 invalid sync headers in 64 lose block lock and the port leaves UP. -/
  | blockLockLoss (m : Moment) (p : Fin 32)
  /-- RIM_RECEIVED (R270). A module RIM block arrives, advancing RIM_LOCK or reporting module FAULT. -/
  | rimReceived (m : Moment) (p : Fin 32) (fault blockLock : Bool) (spaced : Bool)
  /-- RIM_MISSING (R290). No RIM block at the expected position in 2 rims; the port leaves UP. -/
  | rimMissing (m : Moment) (p : Fin 32)
  /-- TRAIN_TIMEOUT (R289). A training state times out and the port returns to DOWN. -/
  | trainTimeout (m : Moment) (p : Fin 32)
  /-- TRAIN_RESTART (R289). 10 ms after a timeout, training restarts. -/
  | trainRestart (m : Moment) (p : Fin 32)
  /-- STS_RECEIVED (R294). An STS frame updates module status and may decide HELLO. -/
  | stsReceived (m : Moment) (p : Fin 32) (sts : Sts)
  /-- HLT_RECEIVED (R293). An HLT frame's records are queued for assessment and acknowledged. -/
  | hltReceived (m : Moment) (p : Fin 32) (seq : Nat) (recs : List HltRec)
  /-- ACK_RECEIVED (R283). An ACK confirms frames, TSY exchanges and CONFIG completion. -/
  | ackReceived (m : Moment) (p : Fin 32) (seq : Nat) (tRx tTx t4 : Nat)
  /-- NAK_RECEIVED (R284). A NAK causes retransmission of the frame. -/
  | nakReceived (m : Moment) (p : Fin 32) (seq : Nat) (code : Nat)
  /-- ACK_TIMEOUT (R284). No ACK 4 µs after TERM retransmits, or a CFG frame exhausts max_retx. -/
  | ackTimeout (m : Moment) (p : Fin 32) (seq : Nat)
  /-- LINE_DEADLINE (R285). A line reaches its deadline with a NOZ frame unacknowledged; CANE_LATE is posted. -/
  | lineDeadline (m : Moment) (p : Fin 32) (b : Fin 16) (line : Word)
  /-- TSY_SEND (R288). Every tsy_period a TSY frame is sent with offset_adj. -/
  | tsySend (m : Moment) (p : Fin 32)
  /-- BANK_CATCHUP (R282). After the last fire naming the old bank, the commit's changes are written into it. -/
  | bankCatchup (m : Moment)
  /-- HEALTH_ASSESS (R302). A health engine assesses an HLT record, classifies it and updates the health record. -/
  | healthAssess (m : Moment)
  /-- HEALTH_REQ_TIMEOUT (R300). An unanswered request after req_timeout is withdrawn and the set reissued. -/
  | healthReqTimeout (m : Moment) (nozzle : Nat)
  /-- FW_AUTO_SUBMIT (R313). After 20 ms or 256 changes firmware submits the FW_AUTO set as a commit. -/
  | fwAutoSubmit (m : Moment)
  /-- HEATER_LOOP (R316). Every 10 ms firmware computes each head's heater duty and sends HEATER records. -/
  | heaterLoop (m : Moment)
  /-- PAIR_TRAIN_TIMEOUT (R324). Pairing not PAIRED within 5 ms in U7 lets U7 complete unpaired. -/
  | pairTrainTimeout (m : Moment)
  /-- PAIR_RETRAIN (R324). An unpaired unit retrains its Pairing link every 100 ms. -/
  | pairRetrain (m : Moment)
  /-- PAIR_HELLO (R324). The HELLO exchange sets roles or INCOMPATIBLE. -/
  | pairHello (m : Moment) (h : Hello)
  /-- HB_TOGGLE (R326). Every 400 TIME ticks unit P inverts PAIR_HB and sends a heartbeat message. -/
  | hbToggle (m : Moment)
  /-- HEARTBEAT_TIMEOUT (R342). A heartbeat path is silent for 20 µs, leading to promotion, withdrawal or an event. -/
  | heartbeatTimeout (m : Moment) (pinSilent : Bool)
  /-- FAULT_DECLARED (R342). Unit S receives FAULT_DECLARED and is promoted at once. -/
  | faultDeclared (m : Moment)
  /-- CONTROL_MESSAGE (R332). A CONTROL message delivers input stream, state events and other mirrored data. -/
  | controlMessage (m : Moment) (c : Control) (latency : Nat)
  /-- INPUT_FALLBACK (R332). No CONTROL message for 320 TIME ticks; S uses its own samples. -/
  | inputFallback (m : Moment)
  /-- STATE_EVENT_APPLY (R333). At t_s both units apply a mirrored system-state transition. -/
  | stateEventApply (m : Moment)
  /-- CEILING_APPLY (R334). At the apply tick both units use the combined ceiling. -/
  | ceilingApply (m : Moment)
  /-- TEMP_SNAPSHOT_SEND (R336). Every 1 ms unit P sends a head-temperature snapshot with apply lines. -/
  | tempSnapshotSend (m : Moment)
  /-- COMMIT_PREPARE (R335). Unit S receives PREPARE, validates, preloads banks and replies READY. -/
  | commitPrepare (m : Moment) (changes : List Change)
  /-- COMMIT_READY (R335). Unit P receives READY and accepts the commit, sending COMMIT with A_b. -/
  | commitReady (m : Moment) (ready : Bool)
  /-- COMMIT_MIRROR (R335). Unit S receives COMMIT and applies it from its PEER set at the same A_b. -/
  | commitMirror (m : Moment) (id : Word) (lines : List (Nat × Word))
  /-- READY_TIMEOUT (R335). No READY within 2 ms; P accepts and S resynchronises with MIRROR_FAILED. -/
  | readyTimeout (m : Moment)
  /-- DIGEST_RECEIVED (R339). A twin line digest arrives and is compared; mismatches count toward withdrawal. -/
  | digestReceived (m : Moment) (b : Fin 16) (p : Fin 32) (line digest : Word) (excluded : Bool)
  /-- DIGEST_ABSENT (R339). A digest absent 2 ms after the fire counts as a mismatch. -/
  | digestAbsent (m : Moment) (b : Fin 16) (p : Fin 32) (line : Word)
  /-- RESYNC_SNAPSHOT (R341). Unit S receives P's snapshot, installs it and prepares from J_b. -/
  | resyncSnapshot (m : Moment) (s : Snapshot)
  /-- RESYNC_TIMEOUT (R341). Resynchronisation not done within 50 ms fails and restarts. -/
  | resyncTimeout (m : Moment)
  /-- TIME_EXCHANGE (R330). Every 100 µs a round-trip exchange aligns S's tick counter; beyond ±5 ns S is withdrawn. -/
  | timeExchange (m : Moment) (t1 tRx tTx t4 : Nat)
  /-- BULK_FORWARD (R328). Forwarded plane-area bytes arrive in S and are written in order. -/
  | bulkForward (m : Moment) (address : Nat) (bytes : List Byte)
  /-- TWIN_LOG_ENTRY (R487). A twin log entry arrives and is stored with flag TWIN. -/
  | twinLogEntry (m : Moment) (seq : Word) (e : LogBody)
  /-- SCRUB_STEP (R362). The patrol scrub reads and corrects the next memory words. -/
  | scrubStep (m : Moment) (source : Fin 3) (found : List MemError) (passEnd : Bool)
  /-- POISON_REWRITE (R361). Firmware rewrites a poisoned Weave word from its HBM copy. -/
  | poisonRewrite (m : Moment) (address : Nat)
  /-- DMA_UNIT_ASSIGN (R374). A free execution unit takes the highest-priority waiting channel. -/
  | dmaUnitAssign (m : Moment)
  /-- DMA_PREEMPT (R375). A higher-priority waiting channel pre-empts the lowest-priority running one at a beat. -/
  | dmaPreempt (m : Moment)
  /-- DMA_YIELD (R374). A channel that has moved 64 KiB yields its unit to an equal-priority waiter. -/
  | dmaYield (m : Moment)
  /-- DMA_HOST_COMPLETION (R386). A host read completion arrives and is staged, or halts the channel on error. -/
  | dmaHostCompletion (m : Moment) (c : Fin 32) (r : HostReply)
  /-- DMA_MEM_TIMEOUT (R386). An HBM or on-chip request unanswered for 100 µs halts the channel. -/
  | dmaMemTimeout (m : Moment) (c : Fin 32)
  /-- DMA_HOST_TIMEOUT (R386). A host completion missing 50 ms after its request halts the channel. -/
  | dmaHostTimeout (m : Moment) (c : Fin 32)
  /-- DMA_TRANSFER_END (R385). The last write completes, DMA_DONE is posted and the channel goes IDLE. -/
  | dmaTransferEnd (m : Moment) (c : Fin 32)
  /-- CAL_DRIFT_DUE (R431). die_max drifts 10 °C from a target's calibration for 4 samples and it becomes due. -/
  | calDriftDue (m : Moment)
  /-- CAL_RUN_START (R431). A due calibration run starts at the first sample meeting its precondition. -/
  | calRunStart (m : Moment)
  /-- CAL_RUN_DONE (R433). A calibration run ends, checks and applies coefficients and posts CAL_DONE. -/
  | calRunDone (m : Moment) (coeffs : List (Nat × Coeff))
  /-- ADC_SCAN (R430). Every 1,024 AON ticks the monitor ADC scans its 16 channels. -/
  | adcScan (m : Moment) (raws : List Int)
  /-- OTP_RECHECK_DUE (R452). die_max changes 20 °C for 4 samples and a margin recheck runs. -/
  | otpRecheckDue (m : Moment) (margins : Table (Word × Word))
  /-- BIST_SLICE_START (R470). At a slice interval the resting unit of a pool starts its next slice. -/
  | bistSliceStart (m : Moment) (pool : Fin 5)
  /-- BIST_SLICE_END (R470). A slice ends; the last slice judges the test and rotates the pool or repeats it. -/
  | bistSliceEnd (m : Moment) (pool : Fin 5) (misr : BitVec 64)
  /-- BIST_REPEAT_DONE (R471). The repeat of a failed periodic test ends as transient or retires the unit. -/
  | bistRepeatDone (m : Moment) (pool : Fin 5) (misr : BitVec 64)
  /-- BIST_ON_DEMAND_DONE (R473). A test on demand ends and posts BIST_DONE and COMMAND_DONE. -/
  | bistOnDemandDone (m : Moment) (expected : Bool) (misr : BitVec 64)
  /-- RSTN_RELEASE (R405). Release of RSTN after an assertion in FAULT begins phase U1 of the Upsett sequence. -/
  | rstnRelease (m : Moment)
  /-- FIRE_TIME (R170). A line, spit or tickle reaches its fire time: the DAC starts its samples at tick s or blocks them within amp_on_delay, the line stops being outstanding, the line digest closes and an ejecting fire clears DRY_RISK. -/
  | fireTime (m : Moment) (b : Fin 16)
  /-- FIRE_END (R199). A fire ends, so an AMP_EN whose conditions lapsed falls, and on entry to FAULT HVEN falls once the last sent fire has ended. -/
  | fireEnd (m : Moment) (b : Fin 16)
  /-- SSI_DATA_HIGH (R139). During the wait at a frame start, the SSI data line goes high and the frame's first falling clock edge and latch follow. -/
  | ssiDataHigh (m : Moment) (n : Fin 8)
  /-- ANSWER_TIME (R93). A CFG.COMMIT, TRIG.ENABLE or PLANE.ENABLE whose outcome has not come within the R73 answer time answers ACCEPTED and counts in PENDING, or is refused with BUSY when PENDING is 8. -/
  | answerTime (m : Moment) (n : Fin 16)
  /-- FRAME_DISCARDED (R273). An upstream frame with a reserved type, a failing CRC or a wrong length, or an invalid control block, is discarded and counted, and a readable HLT header with a bad CRC is answered with a NAK. -/
  | frameDiscarded (m : Moment) (p : Fin 32) (d : FrameDefect)
  /-- DEBUG_TAP_ACCESS (R355). An access through the IEEE 1149.1 debug port reads or writes on-chip state and ends with an error response on a region violation, subject to life-cycle limits. -/
  | debugTapAccess (m : Moment) (address : Nat) (write : Option Word)
  /-- UNSUPPORTED_REQUEST (R47). A BAR0 read that is not a naturally aligned 4-byte or 8-byte access completes with Unsupported Request and is reported through AER. -/
  | unsupportedRequest (m : Moment) (offset size : Nat)
  deriving DecidableEq, Repr

end Sys2Proof
end

