-- ==== Sys2Proof/Config.lean ====
section
/-!
DEFINITION. What the manual leaves open: free values, as constants without a body.  A free value is
applied to the number of the free value (the state's counter `fresh`), or to the operands it depends
on.  Nothing can be proved of any of them.
-/

namespace Sys2Proof.Config

open Sys2Proof

/-- A digest of an object for which no command has a layout (R479). DESIGN CHOICE, log entry 10. -/
opaque openDigest : Nat → Word

/-- A nonce of the random source (R462). DESIGN CHOICE, log entry 125. -/
opaque nonce : Nat → BitVec 128

/-- The SHA-384 digest of a message (R456, R462). DESIGN CHOICE, log entry 125. -/
opaque sha384 : List Byte → BitVec 384

/-- Whether a P-384 signature over a SHA-384 digest verifies under the key with a given hash (R456).
DESIGN CHOICE, log entry 125. -/
opaque ecdsaP384 : (keyHash : BitVec 384) → (digest : BitVec 384) → (signature : List Byte) → Bool

/-- The SHA-384 digest of the Voljan return key in boot ROM (R456). DESIGN CHOICE, log entry 125. -/
opaque returnKeyHash : BitVec 384

/-- The token stream that the compressor chooses for a block (R260: the choice is not part of the
format): the body and END for a tile of raw bytes. DESIGN CHOICE, log entry 81. -/
opaque compressorTokens : (flags : Nat) → (raw : List Byte) → List Byte

/-- Stuck-at coverage, pattern count and MISR signature of a self-test (R465, R475).
DESIGN CHOICE, log entry 126. -/
opaque bistCoverage : Nat → Nat
opaque bistPatterns : Nat → Nat
opaque bistSignature : Nat → BitVec 64

/-- The seed and the expected signature of a standard count of a partition, which the firmware image holds, and what a
PRPG holds after so many patterns from a seed (R465): the manual gives neither the values nor the polynomial.
DESIGN CHOICE, log entry 165. -/
opaque bistSeed : (partition count : Nat) → BitVec 64
opaque bistExpected : (partition count : Nat) → BitVec 64
opaque prpgAfter : (seed : BitVec 64) → (patterns : Nat) → BitVec 64

/-- A value that the manual leaves open in a wide field or a word of memory.
DESIGN CHOICE, log entry 10. -/
opaque freeNat : Nat → Nat

/-- A byte of firmware's own part of HBM (R359), or of an area of the Weave pool whose inner layout (R353) is not in
the manual.  DESIGN CHOICE, log entries 97, 145. -/
opaque reservedByte : (free address : Nat) → Byte

/-- Voljan's PCI Express Vendor ID (R46). DESIGN CHOICE, log entry 141. -/
opaque vendorId : BitVec 16

/-- What the boot configuration at the start of the boot flash asks for: bus width, DTR and clock in kHz; none
where its CRC fails (R408): the manual gives its fields and no layout.  DESIGN CHOICE, log entry 151. -/
opaque bootBus : List (Nat × Byte) → Option (Nat × Bool × Nat)

/-- The level of the PAIR_ID pin (R324, R347): it is strapped, and no row drives it.
DESIGN CHOICE, log entry 155. -/
opaque pairIdPin : Bool

/-- Whether PAIR_HB has changed level, as a unit S sees it, since its last heartbeat interval (R342): no row
delivers the pin's edges.  DESIGN CHOICE, log entry 89. -/
opaque pairPinMoves : Nat → Bool

/-- Whether the twin's Cane port is down as well (R346): no message of the Pairing link says it.
DESIGN CHOICE, log entry 82. -/
opaque twinPortDown : Nat → Bool

/-- Whether a word of the Weave pool holds map, substitution or mask data of a nozzle (R361).
DESIGN CHOICE, log entry 79. -/
opaque weaveHolds : (address nozzle : Nat) → Bool

/-- Whether a word of the framer queues holds a part of the vector of a head for a line (R361): their layout is not in
the manual.  DESIGN CHOICE, log entry 79. -/
opaque queueHolds : (address head line : Nat) → Bool

/-- The maximum read request size and the maximum payload size that the host has set in the function's PCI Express
capability (R46, R382): 128 bytes times 2 to this power, as it stands at a tick.  No row carries that write.
DESIGN CHOICE, log entry 164. -/
opaque readRequestCode : Nat → Fin 6
opaque payloadCode : Nat → Fin 3

/-- The ball index of a ball (R490): TRIGOUT(0)–TRIGOUT(7), then GPIO[0]–GPIO[15].  The manual gives no ball map.
DESIGN CHOICE, log entry 55. -/
opaque pinBall : Nat → Nat

/-- Whether a higher AON trim code makes the AON clock faster (R395). DESIGN CHOICE, log entry 111. -/
opaque trimRises : Bool

end Sys2Proof.Config
end

