-- ==== Sys2Proof/Machine/Bytes.lean ====
section
/-!
DEFINITION. Little-endian fields (R5), signed fields (R6), position comparison (R132) and the CRC-32C
of R249.
-/

namespace Sys2Proof.Machine

open Sys2Proof

/-- The `n` low bytes of `v`, least significant first (R5). -/
def le : Nat → Nat → List Byte
  | 0, _ => []
  | n + 1, v => BitVec.ofNat 8 v :: le n (v / 256)

/-- `n` bytes of a two's complement value (R6). -/
def leInt (n : Nat) (v : Int) : List Byte := le n (v % (2 ^ (8 * n) : Int)).toNat

/-- `n` reserved bytes (R12). -/
def zeros (n : Nat) : List Byte := List.replicate n 0

/-- The number that a list of bytes spells, least significant first (R5). -/
def ofLE : List Byte → Nat
  | [] => 0
  | b :: bs => b.toNat + 256 * ofLE bs

/-- The field of `n` bytes at offset `off`. -/
def fld (bs : List Byte) (off n : Nat) : Nat := ofLE ((bs.drop off).take n)

/-- A number of `bits` bits read as two's complement (R6). -/
def signed (bits v : Nat) : Int :=
  if v % 2 ^ bits < 2 ^ (bits - 1) then (v % 2 ^ bits : Nat) else (v % 2 ^ bits : Nat) - (2 ^ bits : Int)

/-- The signed field of `n` bytes at offset `off`. -/
def fldInt (bs : List Byte) (off n : Nat) : Int := signed (8 * n) (fld bs off n)

/-- Bit `i` of a number. -/
def bit (v i : Nat) : Bool := v / 2 ^ i % 2 == 1

/-- The bits `lo` to `lo + n − 1` of a number. -/
def bitsOf (v lo n : Nat) : Nat := v / 2 ^ lo % 2 ^ n

/-- A Bool as a bit. -/
def b2n (b : Bool) : Nat := if b then 1 else 0

/-- The mask with a bit for each number of a list. -/
def maskOf (l : List Nat) : Nat := l.foldl (fun a i => if bit a i then a else a + 2 ^ i) 0

/-- The numbers below `n` whose bit is set in a mask, in ascending order. -/
def maskList (n mask : Nat) : List Nat := (List.range n).filter (bit mask)

/-- `q − p` by R132: the difference modulo 2^`bits`, read as signed. -/
def ahead (bits p q : Nat) : Int := signed bits (q + 2 ^ bits - p % 2 ^ bits)

/-- The signed difference `q − p` of two line indices or axis positions (R132). -/
def ahead32 (p q : Word) : Int := (q - p).toInt

/-- The signed difference `q − p` of two Q32.16 positions (R132). -/
def ahead48 (p q : Pos48) : Int := (q - p).toInt

/-- One bit of the reflected CRC-32C of R249. -/
def crcBit (c : Word) : Word := if c.getLsbD 0 then (c >>> 1) ^^^ 0x82F63B78#32 else c >>> 1

/-- One byte of the CRC-32C of R249. -/
def crcByte (c : Word) (b : Byte) : Word :=
  crcBit (crcBit (crcBit (crcBit (crcBit (crcBit (crcBit (crcBit (c ^^^ b.zeroExtend 32))))))))

/-- The CRC-32C of R249: initial value and final XOR 0xFFFF_FFFF. -/
def crc32c (bs : List Byte) : Word := bs.foldl crcByte 0xFFFFFFFF#32 ^^^ 0xFFFFFFFF#32

/-- Division rounded to the nearest integer, half up. -/
def divRound (a b : Int) : Int := (2 * a + b) / (2 * b)

/-- A number held to a range. -/
def clamp (lo hi v : Int) : Int := if v < lo then lo else if hi < v then hi else v

/-- Insertion into an ascending list without repeats. -/
def insertNat : List Nat → Nat → List Nat
  | [], k => [k]
  | i :: t, k => if k < i then k :: i :: t else if k = i then i :: t else i :: insertNat t k

/-- The first `n` of a list and the rest. -/
def chunks {α : Type} (n : Nat) : Nat → List α → List (List α)
  | 0, _ => []
  | _ + 1, [] => []
  | f + 1, l => l.take n :: chunks n f (l.drop n)

end Sys2Proof.Machine
end

