-- ==== Sys2Proof/Machine/Codes.lean ====
section
/-!
DEFINITION. The reason codes (R512), event codes (R514), object classes (R55) and opcodes (R511).
-/

namespace Sys2Proof.Machine

/-! ## Reason codes (R512) -/

/-- SUCCESS (0x0000). -/
def Rc.success : BitVec 16 := 0x0000
/-- BAD_OPCODE (0x0001). -/
def Rc.badOpcode : BitVec 16 := 0x0001
/-- BAD_LENGTH (0x0002). -/
def Rc.badLength : BitVec 16 := 0x0002
/-- BUSY (0x0003). -/
def Rc.busy : BitVec 16 := 0x0003
/-- WRONG_STATE (0x0004). -/
def Rc.wrongState : BitVec 16 := 0x0004
/-- NOT_PERMITTED_IN_LIFECYCLE (0x0005). -/
def Rc.notPermittedInLifecycle : BitVec 16 := 0x0005
/-- MAILBOX_RESTRICTED (0x0006). -/
def Rc.mailboxRestricted : BitVec 16 := 0x0006
/-- BAD_VALUE (0x0007). -/
def Rc.badValue : BitVec 16 := 0x0007
/-- PIN_CONFLICT (0x0010). -/
def Rc.pinConflict : BitVec 16 := 0x0010
/-- TRIGGER_GENERATOR_OWNED (0x0011). -/
def Rc.triggerGeneratorOwned : BitVec 16 := 0x0011
/-- ECHO_OUTPUT_OWNED (0x0012). -/
def Rc.echoOutputOwned : BitVec 16 := 0x0012
/-- DMA_CHANNEL_OWNED (0x0013). -/
def Rc.dmaChannelOwned : BitVec 16 := 0x0013
/-- STAKE_NOT_OWNER (0x0014). -/
def Rc.stakeNotOwner : BitVec 16 := 0x0014
/-- WAVE_CHANNEL_OWNED (0x0015). -/
def Rc.waveChannelOwned : BitVec 16 := 0x0015
/-- DP_BAD_RANGE (0x0020). -/
def Rc.dpBadRange : BitVec 16 := 0x0020
/-- DP_RANGE_OVERLAP (0x0021). -/
def Rc.dpRangeOverlap : BitVec 16 := 0x0021
/-- DP_NOT_IN_PLANE (0x0022). -/
def Rc.dpNotInPlane : BitVec 16 := 0x0022
/-- DP_SESSION_INVALID (0x0023). -/
def Rc.dpSessionInvalid : BitVec 16 := 0x0023
/-- DP_ALREADY_OPEN (0x0024). -/
def Rc.dpAlreadyOpen : BitVec 16 := 0x0024
/-- CHECK_CANCELLED (0x0025). -/
def Rc.checkCancelled : BitVec 16 := 0x0025
/-- DP_POISONED (0x0026). -/
def Rc.dpPoisoned : BitVec 16 := 0x0026
/-- NOTHING_STAGED (0x0101). -/
def Rc.nothingStaged : BitVec 16 := 0x0101
/-- SHADOW_FULL (0x0102). -/
def Rc.shadowFull : BitVec 16 := 0x0102
/-- BUDGET_LINE_ENGINE (0x0110). -/
def Rc.budgetLineEngine : BitVec 16 := 0x0110
/-- BUDGET_DECOMPRESSION (0x0111). -/
def Rc.budgetDecompression : BitVec 16 := 0x0111
/-- BUDGET_CANE_PORT (0x0112). -/
def Rc.budgetCanePort : BitVec 16 := 0x0112
/-- BUDGET_HBM (0x0113). -/
def Rc.budgetHbm : BitVec 16 := 0x0113
/-- BUDGET_WEAVE (0x0114). -/
def Rc.budgetWeave : BitVec 16 := 0x0114
/-- GEOM_REFERENCE (0x0120). -/
def Rc.geomReference : BitVec 16 := 0x0120
/-- WAVE_EXCEEDS_PERIOD (0x0121). -/
def Rc.waveExceedsPeriod : BitVec 16 := 0x0121
/-- AXIS_ASSIGNMENT (0x0122). -/
def Rc.axisAssignment : BitVec 16 := 0x0122
/-- NO_BAR_ENABLED (0x0123). -/
def Rc.noBarEnabled : BitVec 16 := 0x0123
/-- HEAD_ADDRESS_IN_USE (0x0201). -/
def Rc.headAddressInUse : BitVec 16 := 0x0201
/-- STATE_RESERVED_FOR_FIRMWARE (0x0202). -/
def Rc.stateReservedForFirmware : BitVec 16 := 0x0202
/-- BAR_FIELD_LOCKED (0x0203). -/
def Rc.barFieldLocked : BitVec 16 := 0x0203
/-- NOT_SCANNING (0x0204). -/
def Rc.notScanning : BitVec 16 := 0x0204
/-- STITCH_INVALID (0x0205). -/
def Rc.stitchInvalid : BitVec 16 := 0x0205
/-- SOURCE_RANGE (0x0206). -/
def Rc.sourceRange : BitVec 16 := 0x0206
/-- NMAP_ENTRY_INVALID (0x0207). -/
def Rc.nmapEntryInvalid : BitVec 16 := 0x0207
/-- ROW_NOT_IN_HEAD (0x0208). -/
def Rc.rowNotInHead : BitVec 16 := 0x0208
/-- AXIS_IN_USE (0x0301). -/
def Rc.axisInUse : BitVec 16 := 0x0301
/-- AXIS_FIELD_LOCKED (0x0302). -/
def Rc.axisFieldLocked : BitVec 16 := 0x0302
/-- SSI_TIMING (0x0303). -/
def Rc.ssiTiming : BitVec 16 := 0x0303
/-- INPUT_MISMATCH (0x0304). -/
def Rc.inputMismatch : BitVec 16 := 0x0304
/-- ECHO_RATIO (0x0305). -/
def Rc.echoRatio : BitVec 16 := 0x0305
/-- PRESET_NEEDS_INDEX (0x0306). -/
def Rc.presetNeedsIndex : BitVec 16 := 0x0306
/-- PRESET_CANCELLED (0x0307). -/
def Rc.presetCancelled : BitVec 16 := 0x0307
/-- ILLEGAL_EDGE_LIMIT (0x0310). -/
def Rc.illegalEdgeLimit : BitVec 16 := 0x0310
/-- SSI_FRAME_ERRORS (0x0311). -/
def Rc.ssiFrameErrors : BitVec 16 := 0x0311
/-- ECHO_QUEUE_FULL (0x0312). -/
def Rc.echoQueueFull : BitVec 16 := 0x0312
/-- TG_NOT_ENABLED (0x0401). -/
def Rc.tgNotEnabled : BitVec 16 := 0x0401
/-- BAR_MOVING (0x0402). -/
def Rc.barMoving : BitVec 16 := 0x0402
/-- SPIT_REQUIRED (0x0403). -/
def Rc.spitRequired : BitVec 16 := 0x0403
/-- NOT_HELD (0x0404). -/
def Rc.notHeld : BitVec 16 := 0x0404
/-- TG_FIELD_LOCKED (0x0405). -/
def Rc.tgFieldLocked : BitVec 16 := 0x0405
/-- ENTRY_RANGE (0x0406). -/
def Rc.entryRange : BitVec 16 := 0x0406
/-- OVERSPEED (0x0410). -/
def Rc.overspeed : BitVec 16 := 0x0410
/-- MISSED (0x0411). -/
def Rc.missed : BitVec 16 := 0x0411
/-- ENGINE_LATE (0x0412). -/
def Rc.engineLate : BitVec 16 := 0x0412
/-- DRY_HOLD (0x0413). -/
def Rc.dryHold : BitVec 16 := 0x0413
/-- LATE_FIRE (0x0414). -/
def Rc.lateFire : BitVec 16 := 0x0414
/-- HOLD_LATE (0x0415). -/
def Rc.holdLate : BitVec 16 := 0x0415
/-- DRY_RISK (0x0416). -/
def Rc.dryRisk : BitVec 16 := 0x0416
/-- WAVE_TOO_LONG (0x0501). -/
def Rc.waveTooLong : BitVec 16 := 0x0501
/-- WAVE_NOT_AT_REST (0x0502). -/
def Rc.waveNotAtRest : BitVec 16 := 0x0502
/-- WINDOW_INVALID (0x0503). -/
def Rc.windowInvalid : BitVec 16 := 0x0503
/-- CODE0_NOT_EMPTY (0x0504). -/
def Rc.code0NotEmpty : BitVec 16 := 0x0504
/-- DRIVE_OVERLAP (0x0505). -/
def Rc.driveOverlap : BitVec 16 := 0x0505
/-- CURVE_ORDER (0x0506). -/
def Rc.curveOrder : BitVec 16 := 0x0506
/-- AMP_NOT_READY (0x0510). -/
def Rc.ampNotReady : BitVec 16 := 0x0510
/-- SAMPLE_CLIPPED (0x0511). -/
def Rc.sampleClipped : BitVec 16 := 0x0511
/-- TEMP_UNKNOWN (0x0512). -/
def Rc.tempUnknown : BitVec 16 := 0x0512
/-- PLANE_BOUND (0x0601). -/
def Rc.planeBound : BitVec 16 := 0x0601
/-- AREA_RESERVED (0x0602). -/
def Rc.areaReserved : BitVec 16 := 0x0602
/-- AREA_OVERLAP (0x0603). -/
def Rc.areaOverlap : BitVec 16 := 0x0603
/-- RING_LOCKED (0x0604). -/
def Rc.ringLocked : BitVec 16 := 0x0604
/-- PLANE_RANGE_OVERLAP (0x0605). -/
def Rc.planeRangeOverlap : BitVec 16 := 0x0605
/-- TOO_MANY_PLANES (0x0606). -/
def Rc.tooManyPlanes : BitVec 16 := 0x0606
/-- INDEX_RANGE (0x0607). -/
def Rc.indexRange : BitVec 16 := 0x0607
/-- AREA_TOO_SMALL (0x0608). -/
def Rc.areaTooSmall : BitVec 16 := 0x0608
/-- PLANE_UNDEFINED (0x0609). -/
def Rc.planeUndefined : BitVec 16 := 0x0609
/-- INDEX_ENTRY_INVALID (0x0610). -/
def Rc.indexEntryInvalid : BitVec 16 := 0x0610
/-- BLOCK_READ_ERROR (0x0611). -/
def Rc.blockReadError : BitVec 16 := 0x0611
/-- PEER_UNAVAILABLE (0x0612). -/
def Rc.peerUnavailable : BitVec 16 := 0x0612
/-- RING_STARVED (0x0613). -/
def Rc.ringStarved : BitVec 16 := 0x0613
/-- RING_UNCORRECTABLE (0x0614). -/
def Rc.ringUncorrectable : BitVec 16 := 0x0614
/-- SESSION_IN_USE (0x0701). -/
def Rc.sessionInUse : BitVec 16 := 0x0701
/-- START_ROW_RANGE (0x0702). -/
def Rc.startRowRange : BitVec 16 := 0x0702
/-- SESSION_BOUND (0x0703). -/
def Rc.sessionBound : BitVec 16 := 0x0703
/-- SESSION_NOT_OPEN (0x0704). -/
def Rc.sessionNotOpen : BitVec 16 := 0x0704
/-- INDEX_NOT_VALID (0x0705). -/
def Rc.indexNotValid : BitVec 16 := 0x0705
/-- DEST_RANGE (0x0706). -/
def Rc.destRange : BitVec 16 := 0x0706
/-- HEADER_INVALID (0x0710). -/
def Rc.headerInvalid : BitVec 16 := 0x0710
/-- HEADER_MISMATCH (0x0711). -/
def Rc.headerMismatch : BitVec 16 := 0x0711
/-- TOKEN_INVALID (0x0712). -/
def Rc.tokenInvalid : BitVec 16 := 0x0712
/-- TOKEN_OVERRUN (0x0713). -/
def Rc.tokenOverrun : BitVec 16 := 0x0713
/-- REFERENCE_INVALID (0x0714). -/
def Rc.referenceInvalid : BitVec 16 := 0x0714
/-- STREAM_TRUNCATED (0x0715). -/
def Rc.streamTruncated : BitVec 16 := 0x0715
/-- LENGTH_MISMATCH (0x0716). -/
def Rc.lengthMismatch : BitVec 16 := 0x0716
/-- CRC_MISMATCH (0x0717). -/
def Rc.crcMismatch : BitVec 16 := 0x0717
/-- SESSION_OUTPUT_FULL (0x0720). -/
def Rc.sessionOutputFull : BitVec 16 := 0x0720
/-- SESSION_RANGE (0x0721). -/
def Rc.sessionRange : BitVec 16 := 0x0721
/-- PORT_IN_USE (0x0801). -/
def Rc.portInUse : BitVec 16 := 0x0801
/-- PORT_NOT_UP (0x0802). -/
def Rc.portNotUp : BitVec 16 := 0x0802
/-- MODULE_INCOMPATIBLE (0x0803). -/
def Rc.moduleIncompatible : BitVec 16 := 0x0803
/-- PORT_FAILED (0x0810). -/
def Rc.portFailed : BitVec 16 := 0x0810
/-- TRAIN_TIMEOUT (0x0811). -/
def Rc.trainTimeout : BitVec 16 := 0x0811
/-- LINE_LATE (0x0812). -/
def Rc.lineLate : BitVec 16 := 0x0812
/-- TSY_OFFSET (0x0813). -/
def Rc.tsyOffset : BitVec 16 := 0x0813
/-- MODULE_ERROR (0x0814). -/
def Rc.moduleError : BitVec 16 := 0x0814
/-- NOT_SUBSTITUTABLE (0x0901). -/
def Rc.notSubstitutable : BitVec 16 := 0x0901
/-- DONOR_INVALID (0x0902). -/
def Rc.donorInvalid : BitVec 16 := 0x0902
/-- DONOR_BUSY (0x0903). -/
def Rc.donorBusy : BitVec 16 := 0x0903
/-- SUBST_TABLE_FULL (0x0904). -/
def Rc.substTableFull : BitVec 16 := 0x0904
/-- HOST_HELD (0x0905). -/
def Rc.hostHeld : BitVec 16 := 0x0905
/-- NO_SUBSTITUTION (0x0906). -/
def Rc.noSubstitution : BitVec 16 := 0x0906
/-- HEAD_TEMP_LOST (0x0910). -/
def Rc.headTempLost : BitVec 16 := 0x0910
/-- HEAD_OVERTEMP (0x0911). -/
def Rc.headOvertemp : BitVec 16 := 0x0911
/-- HEAD_DEGRADED (0x0912). -/
def Rc.headDegraded : BitVec 16 := 0x0912
/-- HLT_OVERFLOW (0x0913). -/
def Rc.hltOverflow : BitVec 16 := 0x0913
/-- NO_DONOR (0x0914). -/
def Rc.noDonor : BitVec 16 := 0x0914
/-- NOT_PAIRED (0x0A01). -/
def Rc.notPaired : BitVec 16 := 0x0A01
/-- PAIR_INCOMPATIBLE (0x0A02). -/
def Rc.pairIncompatible : BitVec 16 := 0x0A02
/-- ROLE_CONFLICT (0x0A03). -/
def Rc.roleConflict : BitVec 16 := 0x0A03
/-- ROLE_SECONDARY (0x0A04). -/
def Rc.roleSecondary : BitVec 16 := 0x0A04
/-- ALREADY_ACTING (0x0A05). -/
def Rc.alreadyActing : BitVec 16 := 0x0A05
/-- TWIN_ALIVE (0x0A06). -/
def Rc.twinAlive : BitVec 16 := 0x0A06
/-- HEARTBEAT_LOST (0x0A10). -/
def Rc.heartbeatLost : BitVec 16 := 0x0A10
/-- TWIN_FAULT_DECLARED (0x0A11). -/
def Rc.twinFaultDeclared : BitVec 16 := 0x0A11
/-- LINK_LOST (0x0A12). -/
def Rc.linkLost : BitVec 16 := 0x0A12
/-- DIGEST_MISMATCH (0x0A13). -/
def Rc.digestMismatch : BitVec 16 := 0x0A13
/-- RESYNC_FAILED (0x0A14). -/
def Rc.resyncFailed : BitVec 16 := 0x0A14
/-- TIME_ALIGN_LOST (0x0A15). -/
def Rc.timeAlignLost : BitVec 16 := 0x0A15
/-- INPUT_MISMATCH (0x0A16). -/
def Rc.pairInputMismatch : BitVec 16 := 0x0A16
/-- HB_PIN_FAULT (0x0A17). -/
def Rc.hbPinFault : BitVec 16 := 0x0A17
/-- MIRROR_FAILED (0x0A18). -/
def Rc.mirrorFailed : BitVec 16 := 0x0A18
/-- STAKE_TOKEN (0x0B01). -/
def Rc.stakeToken : BitVec 16 := 0x0B01
/-- STAKE_FIXED (0x0B02). -/
def Rc.stakeFixed : BitVec 16 := 0x0B02
/-- BANK_ALREADY_RETIRED (0x0B03). -/
def Rc.bankAlreadyRetired : BitVec 16 := 0x0B03
/-- RETIRE_LIMIT (0x0B04). -/
def Rc.retireLimit : BitVec 16 := 0x0B04
/-- REPAIR_FULL (0x0B05). -/
def Rc.repairFull : BitVec 16 := 0x0B05
/-- NO_REPAIR_PENDING (0x0B06). -/
def Rc.noRepairPending : BitVec 16 := 0x0B06
/-- SRAM_UNCORRECTABLE (0x0B10). -/
def Rc.sramUncorrectable : BitVec 16 := 0x0B10
/-- HBM_UNCORRECTABLE (0x0B11). -/
def Rc.hbmUncorrectable : BitVec 16 := 0x0B11
/-- REGION_VIOLATION (0x0B12). -/
def Rc.regionViolation : BitVec 16 := 0x0B12
/-- CORRECTED_LIMIT (0x0B13). -/
def Rc.correctedLimit : BitVec 16 := 0x0B13
/-- SRAM_REPAIR_FAILED (0x0B14). -/
def Rc.sramRepairFailed : BitVec 16 := 0x0B14
/-- CHANNEL_ACTIVE (0x0C02). -/
def Rc.channelActive : BitVec 16 := 0x0C02
/-- LIST_INVALID (0x0C03). -/
def Rc.listInvalid : BitVec 16 := 0x0C03
/-- NOT_HALTED (0x0C04). -/
def Rc.notHalted : BitVec 16 := 0x0C04
/-- CHANNEL_NOT_OPEN (0x0C05). -/
def Rc.channelNotOpen : BitVec 16 := 0x0C05
/-- BUS_ERROR (0x0C10). -/
def Rc.busError : BitVec 16 := 0x0C10
/-- TIMEOUT (0x0C11). -/
def Rc.timeout : BitVec 16 := 0x0C11
/-- HOST_TIMEOUT (0x0C12). -/
def Rc.hostTimeout : BitVec 16 := 0x0C12
/-- LOOP (0x0C13). -/
def Rc.loop : BitVec 16 := 0x0C13
/-- ELEMENT_INVALID (0x0C14). -/
def Rc.elementInvalid : BitVec 16 := 0x0C14
/-- LENGTH_MISMATCH (0x0C15). -/
def Rc.dmaLengthMismatch : BitVec 16 := 0x0C15
/-- ABORTED (0x0C16). -/
def Rc.aborted : BitVec 16 := 0x0C16
/-- ACTION_NOT_ALLOWED (0x0C17). -/
def Rc.actionNotAllowed : BitVec 16 := 0x0C17
/-- POWER_BUSY (0x0D01). -/
def Rc.powerBusy : BitVec 16 := 0x0D01
/-- NO_PMBUS (0x0D02). -/
def Rc.noPmbus : BitVec 16 := 0x0D02
/-- PMBUS_ERROR (0x0D03). -/
def Rc.pmbusError : BitVec 16 := 0x0D03
/-- IMAGE_SLOT_ACTIVE (0x0D04). -/
def Rc.imageSlotActive : BitVec 16 := 0x0D04
/-- IMAGE_RANGE (0x0D05). -/
def Rc.imageRange : BitVec 16 := 0x0D05
/-- HV_ON_TIMEOUT (0x0D10). -/
def Rc.hvOnTimeout : BitVec 16 := 0x0D10
/-- HV_LOST (0x0D11). -/
def Rc.hvLost : BitVec 16 := 0x0D11
/-- HV_DISCHARGE (0x0D12). -/
def Rc.hvDischarge : BitVec 16 := 0x0D12
/-- PLL_UNLOCK (0x0D20). -/
def Rc.pllUnlock : BitVec 16 := 0x0D20
/-- REF_LOST (0x0D21). -/
def Rc.refLost : BitVec 16 := 0x0D21
/-- RAIL_LOST (0x0D22). -/
def Rc.railLost : BitVec 16 := 0x0D22
/-- RESET_PIN (0x0D23). -/
def Rc.resetPin : BitVec 16 := 0x0D23
/-- KEEPER_START (0x0D30). -/
def Rc.keeperStart : BitVec 16 := 0x0D30
/-- OTP_READ_TIMEOUT (0x0D31). -/
def Rc.otpReadTimeout : BitVec 16 := 0x0D31
/-- RAIL_FAILED (0x0D32). -/
def Rc.railFailed : BitVec 16 := 0x0D32
/-- PLL_LOCK_FAILED (0x0D33). -/
def Rc.pllLockFailed : BitVec 16 := 0x0D33
/-- BIST_TIMEOUT (0x0D34). -/
def Rc.bistTimeout : BitVec 16 := 0x0D34
/-- NO_VALID_IMAGE (0x0D35). -/
def Rc.noValidImage : BitVec 16 := 0x0D35
/-- HBM_TRAINING_FAILED (0x0D36). -/
def Rc.hbmTrainingFailed : BitVec 16 := 0x0D36
/-- LINK_PHASE_TIMEOUT (0x0D37). -/
def Rc.linkPhaseTimeout : BitVec 16 := 0x0D37
/-- NO_REFERENCE (0x0D38). -/
def Rc.noReference : BitVec 16 := 0x0D38
/-- VDDIO_LOST (0x0D24). -/
def Rc.vddioLost : BitVec 16 := 0x0D24
/-- THERM_ORDER (0x0D40). -/
def Rc.thermOrder : BitVec 16 := 0x0D40
/-- THERM_LIMIT (0x0D41). -/
def Rc.thermLimit : BitVec 16 := 0x0D41
/-- SENSORS_LOST (0x0D42). -/
def Rc.sensorsLost : BitVec 16 := 0x0D42
/-- DIE_TRIP (0x0D43). -/
def Rc.dieTrip : BitVec 16 := 0x0D43
/-- HBM_TRIP (0x0D44). -/
def Rc.hbmTrip : BitVec 16 := 0x0D44
/-- RESTART_LIMIT (0x0D45). -/
def Rc.restartLimit : BitVec 16 := 0x0D45
/-- SENSOR_INVALID (0x0D46). -/
def Rc.sensorInvalid : BitVec 16 := 0x0D46
/-- GRADIENT (0x0D47). -/
def Rc.gradient : BitVec 16 := 0x0D47
/-- CAL_BUSY (0x0E01). -/
def Rc.calBusy : BitVec 16 := 0x0E01
/-- DAC_NOT_IDLE (0x0E02). -/
def Rc.dacNotIdle : BitVec 16 := 0x0E02
/-- AMP_ENABLED (0x0E03). -/
def Rc.ampEnabled : BitVec 16 := 0x0E03
/-- TEMP_UNSTABLE (0x0E04). -/
def Rc.tempUnstable : BitVec 16 := 0x0E04
/-- FLASH_ERROR (0x0E05). -/
def Rc.flashError : BitVec 16 := 0x0E05
/-- CAL_OUT_OF_RANGE (0x0E10). -/
def Rc.calOutOfRange : BitVec 16 := 0x0E10
/-- REGION_LOCKED (0x0F01). -/
def Rc.regionLocked : BitVec 16 := 0x0F01
/-- CHECK_MISMATCH (0x0F03). -/
def Rc.checkMismatch : BitVec 16 := 0x0F03
/-- SOURCE_UNAVAILABLE (0x0F04). -/
def Rc.sourceUnavailable : BitVec 16 := 0x0F04
/-- TEMP_RANGE (0x0F05). -/
def Rc.tempRange : BitVec 16 := 0x0F05
/-- LC_TRANSITION (0x0F06). -/
def Rc.lcTransition : BitVec 16 := 0x0F06
/-- AUTH_FAILED (0x0F07). -/
def Rc.authFailed : BitVec 16 := 0x0F07
/-- LC_PRECONDITION (0x0F08). -/
def Rc.lcPrecondition : BitVec 16 := 0x0F08
/-- LAST_KEY (0x0F09). -/
def Rc.lastKey : BitVec 16 := 0x0F09
/-- PROGRAM_FAILED (0x0F10). -/
def Rc.programFailed : BitVec 16 := 0x0F10
/-- WORD_MARGINAL (0x0F11). -/
def Rc.wordMarginal : BitVec 16 := 0x0F11
/-- REGION_INVALID (0x0F12). -/
def Rc.regionInvalid : BitVec 16 := 0x0F12
/-- ID_INVALID (0x0F20). -/
def Rc.idInvalid : BitVec 16 := 0x0F20
/-- TRIM_INVALID (0x0F21). -/
def Rc.trimInvalid : BitVec 16 := 0x0F21
/-- KEY_INVALID (0x0F22). -/
def Rc.keyInvalid : BitVec 16 := 0x0F22
/-- BIST_BUSY (0x1001). -/
def Rc.bistBusy : BitVec 16 := 0x1001
/-- NOT_TESTABLE (0x1002). -/
def Rc.notTestable : BitVec 16 := 0x1002
/-- NO_SPARE (0x1003). -/
def Rc.noSpare : BitVec 16 := 0x1003
/-- BIST_FAILED (0x1010). -/
def Rc.bistFailed : BitVec 16 := 0x1010
/-- BIST_INCOMPLETE (0x1011). -/
def Rc.bistIncomplete : BitVec 16 := 0x1011
/-- BIST_TRANSIENT (0x1012). -/
def Rc.bistTransient : BitVec 16 := 0x1012
/-- LOG_FULL (0x1101). -/
def Rc.logFull : BitVec 16 := 0x1101
/-- LOG_RANGE (0x1102). -/
def Rc.logRange : BitVec 16 := 0x1102
/-- LOG_OVERWRITTEN (0x1103). -/
def Rc.logOverwritten : BitVec 16 := 0x1103

/-! ## Event codes (R514) -/

/-- RING_OVERRUN (0x0001). -/
def Ev.ringOverrun : BitVec 16 := 0x0001
/-- CHECK_DONE (0x0002). -/
def Ev.checkDone : BitVec 16 := 0x0002
/-- STATE_CHANGE (0x0003). -/
def Ev.stateChange : BitVec 16 := 0x0003
/-- COMMAND_DONE (0x0004). -/
def Ev.commandDone : BitVec 16 := 0x0004
/-- DP_STALLED (0x0010). -/
def Ev.dpStalled : BitVec 16 := 0x0010
/-- DP_RESUMED (0x0011). -/
def Ev.dpResumed : BitVec 16 := 0x0011
/-- DP_LIMIT (0x0012). -/
def Ev.dpLimit : BitVec 16 := 0x0012
/-- DP_CLOSED (0x0013). -/
def Ev.dpClosed : BitVec 16 := 0x0013
/-- DP_ERROR (0x0014). -/
def Ev.dpError : BitVec 16 := 0x0014
/-- COMMIT_APPLIED (0x0101). -/
def Ev.commitApplied : BitVec 16 := 0x0101
/-- AXIS_WRAP (0x0301). -/
def Ev.axisWrap : BitVec 16 := 0x0301
/-- AXIS_INDEX_MISMATCH (0x0302). -/
def Ev.axisIndexMismatch : BitVec 16 := 0x0302
/-- AXIS_FAULT (0x0303). -/
def Ev.axisFault : BitVec 16 := 0x0303
/-- AXIS_MOTION (0x0304). -/
def Ev.axisMotion : BitVec 16 := 0x0304
/-- ECHO_OVERRUN (0x0305). -/
def Ev.echoOverrun : BitVec 16 := 0x0305
/-- AXIS_WAKE (0x0306). -/
def Ev.axisWake : BitVec 16 := 0x0306
/-- AXIS_PRESET_DONE (0x0307). -/
def Ev.axisPresetDone : BitVec 16 := 0x0307
/-- TRIG_DROP (0x0401). -/
def Ev.trigDrop : BitVec 16 := 0x0401
/-- DRY_RISK (0x0402). -/
def Ev.dryRisk : BitVec 16 := 0x0402
/-- RUN_DONE (0x0403). -/
def Ev.runDone : BitVec 16 := 0x0403
/-- INDEX_ADJUSTED (0x0404). -/
def Ev.indexAdjusted : BitVec 16 := 0x0404
/-- WAVE_CLIP (0x0501). -/
def Ev.waveClip : BitVec 16 := 0x0501
/-- AMP_STATE (0x0502). -/
def Ev.ampState : BitVec 16 := 0x0502
/-- WAVE_TEMP_UNKNOWN (0x0503). -/
def Ev.waveTempUnknown : BitVec 16 := 0x0503
/-- DAC_BLOCKED (0x0504). -/
def Ev.dacBlocked : BitVec 16 := 0x0504
/-- BLOCK_BAD (0x0601). -/
def Ev.blockBad : BitVec 16 := 0x0601
/-- PEER_REPAIRED (0x0602). -/
def Ev.peerRepaired : BitVec 16 := 0x0602
/-- RING_STARVED (0x0603). -/
def Ev.ringStarved : BitVec 16 := 0x0603
/-- RING_PRIMED (0x0604). -/
def Ev.ringPrimed : BitVec 16 := 0x0604
/-- PLANE_CONSUMED (0x0605). -/
def Ev.planeConsumed : BitVec 16 := 0x0605
/-- LINE_MISPREDICTED (0x0606). -/
def Ev.lineMispredicted : BitVec 16 := 0x0606
/-- RING_ECC (0x0607). -/
def Ev.ringEcc : BitVec 16 := 0x0607
/-- SESSION_DONE (0x0701). -/
def Ev.sessionDone : BitVec 16 := 0x0701
/-- SESSION_FAILED (0x0702). -/
def Ev.sessionFailed : BitVec 16 := 0x0702
/-- CANE_PORT_STATE (0x0801). -/
def Ev.canePortState : BitVec 16 := 0x0801
/-- CANE_LATE (0x0802). -/
def Ev.caneLate : BitVec 16 := 0x0802
/-- CANE_TSY (0x0803). -/
def Ev.caneTsy : BitVec 16 := 0x0803
/-- CANE_MODULE (0x0804). -/
def Ev.caneModule : BitVec 16 := 0x0804
/-- CANE_SOURCE (0x0805). -/
def Ev.caneSource : BitVec 16 := 0x0805
/-- HEALTH_COMMIT (0x0901). -/
def Ev.healthCommit : BitVec 16 := 0x0901
/-- HEALTH_COMMIT_REFUSED (0x0902). -/
def Ev.healthCommitRefused : BitVec 16 := 0x0902
/-- NO_DONOR (0x0903). -/
def Ev.noDonor : BitVec 16 := 0x0903
/-- HEAD_DEGRADED (0x0904). -/
def Ev.headDegraded : BitVec 16 := 0x0904
/-- HEAD_TEMP (0x0905). -/
def Ev.headTemp : BitVec 16 := 0x0905
/-- HEALTH_OVERFLOW (0x0906). -/
def Ev.healthOverflow : BitVec 16 := 0x0906
/-- SWEEP_DONE (0x0907). -/
def Ev.sweepDone : BitVec 16 := 0x0907
/-- PAIR_STATE (0x0A01). -/
def Ev.pairState : BitVec 16 := 0x0A01
/-- PAIR_PROMOTED (0x0A02). -/
def Ev.pairPromoted : BitVec 16 := 0x0A02
/-- PAIR_DIVERGE (0x0A03). -/
def Ev.pairDiverge : BitVec 16 := 0x0A03
/-- PAIR_SYNCED (0x0A04). -/
def Ev.pairSynced : BitVec 16 := 0x0A04
/-- PAIR_INPUT_MISMATCH (0x0A05). -/
def Ev.pairInputMismatch : BitVec 16 := 0x0A05
/-- PAIR_TIME (0x0A06). -/
def Ev.pairTime : BitVec 16 := 0x0A06
/-- PAIR_HB_PIN (0x0A07). -/
def Ev.pairHbPin : BitVec 16 := 0x0A07
/-- MEM_CORRECTED (0x0B01). -/
def Ev.memCorrected : BitVec 16 := 0x0B01
/-- MEM_UNCORRECTABLE (0x0B02). -/
def Ev.memUncorrectable : BitVec 16 := 0x0B02
/-- MEM_VIOLATION (0x0B03). -/
def Ev.memViolation : BitVec 16 := 0x0B03
/-- WEAVE_BANK (0x0B04). -/
def Ev.weaveBank : BitVec 16 := 0x0B04
/-- MEM_REPAIR_NEEDED (0x0B05). -/
def Ev.memRepairNeeded : BitVec 16 := 0x0B05
/-- STAKE_HANDOVER (0x0B06). -/
def Ev.stakeHandover : BitVec 16 := 0x0B06
/-- DMA_DONE (0x0C01). -/
def Ev.dmaDone : BitVec 16 := 0x0C01
/-- DMA_HALTED (0x0C02). -/
def Ev.dmaHalted : BitVec 16 := 0x0C02
/-- DMA_ELEMENT (0x0C03). -/
def Ev.dmaElement : BitVec 16 := 0x0C03
/-- POWER_STATE (0x0D01). -/
def Ev.powerState : BitVec 16 := 0x0D01
/-- HV_STATE (0x0D02). -/
def Ev.hvState : BitVec 16 := 0x0D02
/-- PMBUS_ALERT (0x0D03). -/
def Ev.pmbusAlert : BitVec 16 := 0x0D03
/-- THERM_LEVEL (0x0D04). -/
def Ev.thermLevel : BitVec 16 := 0x0D04
/-- THERM_CEILING (0x0D05). -/
def Ev.thermCeiling : BitVec 16 := 0x0D05
/-- THERM_SENSOR (0x0D06). -/
def Ev.thermSensor : BitVec 16 := 0x0D06
/-- THERM_GRADIENT (0x0D07). -/
def Ev.thermGradient : BitVec 16 := 0x0D07
/-- THERM_TRIP (0x0D08). -/
def Ev.thermTrip : BitVec 16 := 0x0D08
/-- CAL_DONE (0x0E01). -/
def Ev.calDone : BitVec 16 := 0x0E01
/-- CAL_DUE (0x0E02). -/
def Ev.calDue : BitVec 16 := 0x0E02
/-- CAL_STORED (0x0E03). -/
def Ev.calStored : BitVec 16 := 0x0E03
/-- OTP_MARGINAL (0x0F01). -/
def Ev.otpMarginal : BitVec 16 := 0x0F01
/-- OTP_REGION (0x0F02). -/
def Ev.otpRegion : BitVec 16 := 0x0F02
/-- BIST_DONE (0x1001). -/
def Ev.bistDone : BitVec 16 := 0x1001
/-- BIST_RETIRED (0x1002). -/
def Ev.bistRetired : BitVec 16 := 0x1002
/-- LOG_THRESHOLD (0x1101). -/
def Ev.logThreshold : BitVec 16 := 0x1101
/-- LOG_GAP (0x1102). -/
def Ev.logGap : BitVec 16 := 0x1102

/-! ## Object classes (R55) -/

/-- Object class 0 of R55. -/
def Cls.none : BitVec 8 := 0
/-- Object class 1 of R55. -/
def Cls.bar : BitVec 8 := 1
/-- Object class 2 of R55. -/
def Cls.head : BitVec 8 := 2
/-- Object class 3 of R55. -/
def Cls.canePort : BitVec 8 := 3
/-- Object class 4 of R55. -/
def Cls.axis : BitVec 8 := 4
/-- Object class 5 of R55. -/
def Cls.triggerGenerator : BitVec 8 := 5
/-- Object class 6 of R55. -/
def Cls.waveform : BitVec 8 := 6
/-- Object class 7 of R55. -/
def Cls.waveChannel : BitVec 8 := 7
/-- Object class 8 of R55. -/
def Cls.plane : BitVec 8 := 8
/-- Object class 9 of R55. -/
def Cls.pin : BitVec 8 := 9
/-- Object class 10 of R55. -/
def Cls.dmaChannel : BitVec 8 := 10
/-- Object class 11 of R55. -/
def Cls.stakeBank : BitVec 8 := 11
/-- Object class 12 of R55. -/
def Cls.echoOutput : BitVec 8 := 12
/-- Object class 13 of R55. -/
def Cls.budget : BitVec 8 := 13
/-- Object class 14 of R55. -/
def Cls.dataPort : BitVec 8 := 14
/-- Object class 15 of R55. -/
def Cls.mailbox : BitVec 8 := 15
/-- Object class 16 of R55. -/
def Cls.system : BitVec 8 := 16

/-- The defined opcodes (R511). -/
def definedOpcodes : List (BitVec 16) :=
  [0x0000, 0x0001, 0x0002, 0x0003, 0x0004, 0x0005, 0x0006] ++ [
   0x0101, 0x0102, 0x0103, 0x0104, 0x0105] ++ [
   0x0200, 0x0201, 0x0202, 0x0203, 0x0204, 0x0205, 0x0206, 0x0207, 0x0208, 0x0209, 0x020A] ++ [
   0x0300, 0x0301, 0x0302, 0x0303, 0x0304, 0x0305, 0x0306, 0x0307, 0x0308] ++ [
   0x0400, 0x0401, 0x0402, 0x0403, 0x0404, 0x0405, 0x0406, 0x0407, 0x0408, 0x0409] ++ [
   0x0500, 0x0501, 0x0502, 0x0503, 0x0504, 0x0505, 0x0506, 0x0507, 0x0508] ++ [
   0x0600, 0x0601, 0x0602, 0x0603, 0x0604, 0x0605, 0x0606, 0x0607, 0x0608] ++ [
   0x0700, 0x0701, 0x0702, 0x0703, 0x0704, 0x0705, 0x0706, 0x0707] ++ [
   0x0800, 0x0801, 0x0802, 0x0803, 0x0804, 0x0805] ++ [
   0x0900, 0x0901, 0x0902, 0x0903, 0x0904, 0x0905, 0x0906, 0x0907, 0x0908, 0x0909, 0x090A, 0x090B] ++ [
   0x0A00, 0x0A01, 0x0A02, 0x0A03, 0x0A04, 0x0A05, 0x0A06] ++ [
   0x0B00, 0x0B01, 0x0B02, 0x0B03, 0x0B04, 0x0B05, 0x0B06, 0x0B07, 0x0B08, 0x0B09, 0x0B0A] ++ [
   0x0C00, 0x0C01, 0x0C02, 0x0C03, 0x0C04, 0x0C05, 0x0C06, 0x0C07] ++ [
   0x0D00, 0x0D01, 0x0D02, 0x0D03, 0x0D04, 0x0D05, 0x0D06] ++ [
   0x0D07, 0x0D08, 0x0D09, 0x0D0A] ++ [
   0x0E00, 0x0E01, 0x0E02, 0x0E03, 0x0E04] ++ [
   0x0F00, 0x0F01, 0x0F02, 0x0F03, 0x0F04, 0x0F05, 0x0F06, 0x0F07] ++ [
   0x1000, 0x1001, 0x1002, 0x1003, 0x1004, 0x1005] ++ [
   0x1100, 0x1101, 0x1102, 0x1103, 0x1104, 0x1105]

end Sys2Proof.Machine
end

