-- ==== Sys2Proof/Machine/State.lean ====
section
/-!
DEFINITION. The state of the DH2096, as plain data: one structure per block of the manual, then the
whole, and the state right after the Upsett sequence has completed (the manual's Reset columns).
-/

namespace Sys2Proof.Machine

open Sys2Proof

/-! ## States and origins -/

/-- The system states of R41, with the encoding of HST_STATUS.SYS_STATE. -/
inductive SysState where
  | off | upsett | ready | armed | printing | paused | fault | safe
  deriving DecidableEq, Repr

/-- The power states of R399, with the encoding of HST_STATUS.PWR_STATE. -/
inductive PwrState where
  | run | ready | doze | sleep | offAon
  deriving DecidableEq, Repr

/-- The life-cycle states of R455. -/
inductive LcState where
  | virgin | mfg | oem | field | return_ | scrapped
  deriving DecidableEq, Repr

/-- The originator of a change or a log entry (R480). -/
inductive Origin where
  | boot | mbx (n : Nat) | hostDirect | fwAuto | keeper | peer | debug
  deriving DecidableEq, Repr

/-! ## Host port -/

/-- What the device has set and counted at one moment (R11): the W1C bits it set then, those of them that
were 1 already, and the events it counted.  DESIGN CHOICE, log entry 142. -/
structure Cycle where
  at_ : Moment := ⟨0, 0⟩
  bits : BitVec 28 := 0
  again : BitVec 28 := 0
  count : Nat := 0
  deriving DecidableEq, Repr

/-- One entry of the event ring (R60). -/
structure EventEntry where
  code : BitVec 16
  phase : Bool
  objClass : Byte
  seq : Word
  aon : BitVec 48
  boot : BitVec 16
  objId : Word
  reason : Reason
  tag : BitVec 16
  detail : BitVec 64
  deriving DecidableEq, Repr

/-- The content of an event before it has a place in the ring. -/
structure EventBody where
  code : BitVec 16
  objClass : Byte
  objId : Nat
  reason : Reason := 0
  tag : BitVec 16 := 0
  detail : BitVec 64 := 0
  deriving DecidableEq, Repr

/-- The event ring's registers and what it has written to host memory (R59, R60, R515).  The first event
after a cold start has sequence number 0. DESIGN CHOICE, log entry 131. -/
structure Ring where
  baseLo : Word := 0
  baseHi : Word := 0
  enable : Bool := false
  prod : Nat := 0
  cons : Nat := 0
  phase : Bool := true
  lost : Word := 0
  /-- The sequence number of the next event. -/
  seq : Word := 0
  /-- Events lost since the previous RING_OVERRUN entry, and the last one's sequence number. -/
  unreported : Nat := 0
  lastLost : Word := 0
  /-- Host memory of the ring: the entry written last at each index. -/
  entries : Table EventEntry := []
  /-- The losses of this cycle (R11). -/
  cycle : Cycle := {}
  deriving DecidableEq, Repr

/-- One MSI-X table entry (PCI Express Base 5.0, R49). -/
structure MsixEntry where
  addrLo : Word := 0
  addrHi : Word := 0
  data : Word := 0
  masked : Bool := true
  deriving DecidableEq, Repr

/-- The interrupt registers (R56–R58). DESIGN CHOICE, log entry 141. -/
structure Ints where
  status : BitVec 28 := 0
  enable : BitVec 28 := 0
  holdoff : Nat := 0
  count : Nat := 1
  /-- Ring entries written since STATUS bit 0 was last cleared, and the AON time of the first. -/
  written : Nat := 0
  firstAt : Option Nat := none
  msix : Table MsixEntry := []
  pba : BitVec 64 := 0
  /-- MSI-X Enable and Function Mask of the capability (PCI Express Base 5.0).  DESIGN CHOICE, log entry 141. -/
  msixEnable : Bool := true
  functionMask : Bool := false
  /-- The STATUS bits set in this cycle (R11, R57). -/
  cycle : Cycle := {}
  deriving DecidableEq, Repr

/-- A rate-limited event (R133): until when the holdoff lasts, what was posted last, and what waits. -/
structure Holdoff where
  key : EventKey
  until_ : Nat
  last : EventBody
  waiting : Option EventBody
  deriving DecidableEq, Repr

/-- A data port (R62–R69). -/
structure DataPort where
  open_ : Bool := false
  compress : Bool := false
  closing : Bool := false
  stalled : Bool := false
  limitHit : Bool := false
  error : Bool := false
  poisoned : Bool := false
  framing : Bool := false
  closed : Bool := false
  base : Nat := 0
  limit : Nat := 0
  ptr : Nat := 0
  rptr : Nat := 0
  session : Nat := 0
  err : Reason := 0
  dropped : Word := 0
  count : Nat := 0
  /-- The bytes waiting in the merge buffer; they end at `ptr` (R64). -/
  merge : List Byte := []
  /-- Accepted bytes on their way to HBM, oldest first (R64). -/
  flight : List (Nat × Byte) := []
  /-- Block tracking of a DIRECT port (R65, R254): on, the header bytes gathered, the block's end. -/
  tracks : Bool := false
  header : List Byte := []
  blockEnd : Option Nat := none
  /-- AON time of the last accepted write, or of opening (R66). -/
  lastWrite : Nat := 0
  /-- The bits of DP_STATUS set, and the bytes counted in DROPPED, in this cycle (R11). -/
  cycle : Cycle := {}
  deriving DecidableEq, Repr

/-- A mailbox response (R71). -/
structure Response where
  reason : Reason := 0
  tag : BitVec 16 := 0
  accepted : Bool := false
  staged : Bool := false
  committed : Bool := false
  objClass : Byte := 0
  objId : Word := 0
  payload : List Byte := []
  deriving DecidableEq, Repr

/-- One COMMAND_DONE record of SYS.DONE_LIST (R92). -/
structure DoneRec where
  tag : BitVec 16
  reason : Reason
  objClass : Byte
  objId : Word
  deriving DecidableEq, Repr

/-- Who waits for a result: the mailbox, the opcode and the tag of a command that answered ACCEPTED, and a number
that tells it from the others of its mailbox that have not completed (R74).
DEDUCED, log entry 39. -/
structure Waiter where
  mbx : Nat
  opcode : BitVec 16
  tag : BitVec 16
  nth : Nat := 0
  deriving DecidableEq, Repr

/-- A mailbox (R70–R74). -/
structure Mailbox where
  busy : Bool := false
  respReady : Bool := false
  /-- The AON count at the last RING: commands are answered within 5 ms of it (R73). -/
  rungAt : Nat := 0
  overrun : Bool := false
  pending : Nat := 0
  doneTag : BitVec 16 := 0
  doneReason : Reason := 0
  request : Table Byte := []
  /-- What the host has written over the response half since the response was written. -/
  respOver : Table Byte := []
  response : Response := {}
  done : List DoneRec := []
  /-- Accepted commands that have not completed, in order of RING (R74). -/
  open_ : List Waiter := []
  /-- Results that wait for an earlier accepted command of their group (R74), in order of arrival. -/
  ended : List (Waiter × Reason × Byte × Nat) := []
  /-- The bits of MBX_STATUS set in this cycle (R11). -/
  cycle : Cycle := {}
  deriving DecidableEq, Repr

/-- The host-direct registers of R49–R52, the identity, and the PCI Express link.
DESIGN CHOICE, log entry 18. -/
structure HostRegs where
  tickHi : Word := 0
  aonHi : BitVec 16 := 0
  scratch : Word := 0
  printEn : Bool := false
  checkBusy : Bool := false
  refuse : Reason := 0
  refuseClass : Byte := 0
  refuseObj : Word := 0
  faultCode : Reason := 0
  faultPhase : Nat := 0xF
  upsettPhase : Nat := 7
  fw : BitVec 24 := 0x010000
  fwSlotB : Bool := false
  bootCount : Nat := 0
  linkUp : Bool := true
  /-- The value and the bytes that the latest read of the host returned (the model's own). -/
  readData : BitVec 64 := 0
  readBytes : List Byte := []
  /-- Accesses completed with Unsupported Request or discarded, as AER has reported them (R47). -/
  aer : Nat := 0
  /-- The function is in D3hot (R46).  DESIGN CHOICE, log entry 141. -/
  d3hot : Bool := false
  /-- The latest system-state transition: its cycle and its target (R43).  DESIGN CHOICE, log entry 142. -/
  moved : Option (Moment × SysState) := none
  deriving DecidableEq, Repr

/-! ## Shadow sets, checks and commits -/

/-- A shadow set (R80–R83): the changes that wait in it, and those a held commit has submitted.
DEDUCED, log entry 37. -/
structure ShadowSet where
  staged : List Change := []
  submitted : List Change := []
  /-- Its descriptors were lost to poison: the next command answers 0x0B10 once (R361). -/
  poisoned : Bool := false
  deriving DecidableEq, Repr

/-- What a consistency check was requested by (R87, R92). -/
inductive CheckKind where
  | printEn
  | resume (w : Waiter)
  | cfg (w : Waiter) (whole staged : Bool) (mask : BitVec 16)
  deriving DecidableEq, Repr

/-- What a commit is (R83, R180, R238). -/
inductive CommitKind where
  | set | trig (g : Nat) | plane (p : Nat)
  deriving DecidableEq, Repr

/-- A submitted commit that awaits acceptance (R83, R93).  `set` is the number of its shadow set:
0–15 a mailbox, 16 FW_AUTO, 17 PEER. -/
structure Held where
  set : Nat
  origin : Origin
  kind : CommitKind
  waiter : Option Waiter
  changes : List Change
  /-- It has answered ACCEPTED (R93). -/
  answered : Bool := false
  /-- Module delivery (R282 step 1) has begun, and the frames that it still waits for: port and sequence. -/
  begun : Bool := false
  awaits : List (Nat × Nat) := []
  /-- In a pair: PREPARE has been sent, and READY (or its timeout) has come (R335). -/
  prepared : Bool := false
  ready : Bool := false
  since : Moment
  deriving DecidableEq, Repr

/-- How one bar takes an accepted commit (R28, R29). -/
structure BarApply where
  bar : Nat
  line : Word
  dataDone : Bool
  ctlDone : Bool
  posted : Bool
  deriving DecidableEq, Repr

/-- An accepted commit that some bar has yet to take (R28–R30). -/
structure Commit where
  id : Word
  origin : Origin
  /-- The changes, each with the bars whose apply line decides when it is in force; none: at acceptance. -/
  changes : List (Change × List Nat)
  bars : List BarApply
  deriving DecidableEq, Repr

/-! ## Axes -/

/-- The motion states of R135, with AXIS.READ's encoding. -/
inductive Motion where
  | stopped | settling | forward | reverse | faulted | disabled
  deriving DecidableEq, Repr

/-- One history entry of an axis (R136): its timestamp, its sign or delta, and the counter after it. -/
structure Edge where
  tick : Nat
  delta : Int
  counter : Word
  deriving DecidableEq, Repr

/-- Where an SSI axis stands in its frame (R139). -/
inductive SsiPhase where
  | idle | waiting (start : Nat) | shifting (latch : Nat)
  deriving DecidableEq, Repr

/-- The running state of an axis (R128–R144). DEDUCED, log entry 19. -/
structure Axis where
  counter : Word := 0
  wraps : Word := 0
  speed : Int := 0
  motion : Motion := .disabled
  reverse : Bool := false
  referenced : Bool := false
  indexSeen : Bool := false
  indexMismatch : Bool := false
  configured : Bool := false
  /-- An armed AT_INDEX preset: its value and the mailbox that sent it (`none`: the twin). -/
  preset : Option (Word × Option Nat) := none
  faultReason : Reason := 0
  lastIndex : Word := 0
  /-- The previous index event since the check restarted: its counter and direction (R137). -/
  prevIndex : Option (Word × Bool) := none
  lastEdge : Nat := 0
  illegal : Word := 0
  windowIllegal : Nat := 0
  mismatches : Word := 0
  ssiErrors : Word := 0
  ssiConsec : Nat := 0
  ssiLastError : Nat := 0
  ssiRaw : BitVec 64 := 0
  ssiPrev : Option Nat := none
  ssiPhase : SsiPhase := .idle
  /-- The earliest tick of the next frame start (recovery of R139). -/
  ssiReady : Nat := 0
  levelA : Bool := true
  levelB : Bool := true
  levelZ : Bool := true
  history : List Edge := []
  /-- How many entries of the history were recorded since the axis last entered SETTLING (R164). -/
  fresh : Nat := 0
  runPositive : Bool := true
  windowNet : Int := 0
  windowEdges : Nat := 0
  emptyWindows : Nat := 0
  /-- The window length in use, in µs, the end of the current window, and whether it is a whole one. -/
  windowLen : Nat := 1000
  windowEnd : Nat := 0
  windowWhole : Bool := false
  /-- The length of the last completed window, 0 where there is none, and its net count: a frame that was
  latched in it may end later (R134). -/
  doneLen : Nat := 0
  doneNet : Int := 0
  wakeCount : Nat := 0
  deriving DecidableEq, Repr

/-- The running state of an echo output (R148, R149). -/
structure Echo where
  acc : Nat := 0
  pending : Int := 0
  /-- The step of the sequence 00, 10, 11, 01 that the pins hold. -/
  state : Fin 4 := 0
  lastStep : Nat := 0
  /-- The tick at which the input edge of the oldest pending step was accepted (R149). -/
  since : Nat := 0
  stopped : Bool := false
  /-- The user whose change enabled the output (R90, R147). -/
  owner : Option Origin := none
  deriving DecidableEq, Repr

/-! ## Triggers -/

/-- Strobe kinds, with the encoding of R276. -/
inductive StrobeKind where
  | line | correction | hold | release | cancel | spit | tickle
  deriving DecidableEq, Repr

/-- The kinds of fire (R168). -/
inductive FireKind where
  | line | spit | tickle
  deriving DecidableEq, Repr

/-- A line that has its ticket and has neither fired nor been cancelled (R171, R172). -/
structure TLine where
  line : Word
  hit : Pos48
  fire : Nat
  lineTime : Nat
  held : Bool := false
  corrections : Nat := 0
  /-- The period T of the line's own ticket (R168, R25). -/
  period : Nat
  /-- The line could not be held and has been counted in hold_late (R172). -/
  unheld : Bool := false
  /-- The module bank that its strobes name (R281, R282). -/
  bank : Nat := 0
  /-- Bytes 2 and 4–19 of its strobes, in order of emission (R339). -/
  strobes : List Byte := []
  deriving DecidableEq, Repr

/-- The waveform of one channel for one fire (R195, R197, R204). -/
structure PrepWave where
  channel : Nat
  samples : List Int
  factor : Nat
  temp : Int
  density : Nat
  clipped : Nat
  duration : Nat
  deriving DecidableEq, Repr

/-- A SPIT or TICKLE fire under way: its fire time and its samples, formed at its strobe (R196). -/
structure Pulse where
  kind : FireKind
  fire : Nat
  waves : List PrepWave
  deriving DecidableEq, Repr

/-- A running spit burst (R177). -/
structure Burst where
  waiter : Waiter
  left : Nat
  interval : Nat
  /-- The fire time of the burst's last spit; none before the first. -/
  lastFire : Option Nat := none
  /-- Why the rest are not fired (R177): the web moves, or the generator no longer runs. -/
  cut : Option Reason := none
  deriving DecidableEq, Repr

/-- The state of a trigger generator (R182). -/
inductive TgState where
  | disabled | idle | running
  deriving DecidableEq, Repr

/-- The running state of a trigger generator and of its bar's fire scheduler (R160–R182).
DEDUCED, log entry 11. -/
structure Trig where
  state : TgState := .disabled
  startEntry : Nat := 0
  entry : Nat := 0
  /-- The run being walked, as loaded (R162: a change takes effect at the next load). -/
  cur : RunEntry := {}
  remaining : Nat := 0
  li : Word := 0
  lastLi : Word := 0
  haveLast : Bool := false
  cmp : Pos48 := 0
  lastFire : Option Nat := none
  lastKind : FireKind := .line
  /-- The fire time and the kind of the latest fire that has passed. -/
  doneFire : Option Nat := none
  doneKind : FireKind := .line
  period : Nat := 0
  stalled : Bool := true
  lines : List TLine := []
  /-- Spit and tickle fires under way. -/
  pulses : List Pulse := []
  burst : Option Burst := none
  ticketed : Word := 0
  overspeed : Word := 0
  missed : Word := 0
  late : Word := 0
  engineLate : Word := 0
  suppressed : Word := 0
  dryDropped : Word := 0
  corrections : Word := 0
  clamped : Word := 0
  holdLate : Word := 0
  indexAdjusted : Word := 0
  spits : Word := 0
  deriving DecidableEq, Repr

/-- What the rows of one TIME tick have asked the fire scheduler to evaluate (R163): the axes that have
counted, whether the tick is a periodic one, and the bars already evaluated in it.
DESIGN CHOICE, log entry 150. -/
structure Evals where
  at_ : Nat := 0
  axes : List Nat := []
  periodic : Bool := false
  bars : List Nat := []
  deriving DecidableEq, Repr

/-- The running state of a TRIGOUT output (R179): its level and the pulses to come (start, end). -/
structure Trigout where
  asserted : Bool := false
  pulses : List (Nat × Nat) := []
  deriving DecidableEq, Repr

/-! ## Waveforms -/

/-- The running state of a waveform channel: 0–127 digital, 128–135 DAC (R200–R208). -/
structure Channel where
  tempUnknown : Bool := false
  lastFactor : Nat := 0
  lastTemp : Int := 0
  lastDensity : Nat := 0
  lastLine : Word := 0
  fires : Word := 0
  clipped : Word := 0
  blocked : Word := 0
  /-- AON time at which the binding in force applied (R205). -/
  boundAt : Nat := 0
  deriving DecidableEq, Repr

/-- An AMP_EN pin and its DAC (R199–R201): its level, when it last rose, the end of the fire in
progress, and the fires that still hold it up on entry to FAULT. -/
structure Amp where
  en : Bool := false
  rise : Nat := 0
  busyUntil : Nat := 0
  calOwned : Bool := false
  /-- The 14-bit code that the DAC puts out: the samples of the fire in progress. -/
  samples : List Int := []
  deriving DecidableEq, Repr

/-! ## Raster -/

/-- The head vector and wave data of one prepared line on one port (R231). -/
structure PrepPort where
  port : Nat
  /-- Per local head, ascending: its vector. -/
  vectors : List (Nat × List Byte)
  /-- A vector is withheld (R337, R361). -/
  withheld : Bool
  /-- Its NOZ frames, and its WAV frames, have gone to the port's framer. -/
  sent : Bool := false
  waved : Bool := false
  deriving DecidableEq, Repr

/-- A prepared line (R21, R230). -/
structure PrepLine where
  line : Word
  ext : Int
  /-- The run-table entry of the line and the hits left in it before the line (R223). -/
  seqEntry : Nat := 0
  seqLeft : Nat := 0
  ports : List PrepPort
  waves : List PrepWave
  /-- Its ticket has arrived (R21). -/
  ticketed : Bool := false
  deriving DecidableEq, Repr

/-- The state of a decompressor in a block, but for the block number (R256).  `input`: the next byte of the
block; `kind`, `left` and `operand`: the token under way, what is left of it, and its byte or distance (a
literal run reads its bytes from the block; kind 8: the body of a STORED block).
DEDUCED, log entry 78. -/
structure DecodeCtx where
  input : Nat := 0
  pos : Nat := 0
  kind : Nat := 0
  left : Nat := 0
  operand : Nat := 0
  crc : Word := 0xFFFFFFFF#32
  /-- The last 8,192 output bytes, newest first. -/
  last : List Byte := []
  deriving DecidableEq, Repr

/-- A decompressor's work: a block of a bar's plane, suspended or not (R227). DEDUCED, log entry 80. -/
structure Work where
  bar : Nat
  plane : Nat
  block : Nat
  suspended : Bool := false
  /-- The last line of the window at which it was suspended. -/
  at_ : Int := 0
  /-- The index entry as the unit read it when it scheduled the block (R215). -/
  entry : List Byte := []
  /-- How far the unit has come in the block (R256). -/
  ctx : DecodeCtx := {}
  /-- The compressed bytes that the twin sent for the block (R234). -/
  peerBytes : Option (List Byte) := none
  deriving DecidableEq, Repr

/-- The running state of a bar's ring and line preparation (R220–R229). -/
structure RasterBar where
  /-- L_b, the extended index of the next line to be prepared; none while no sequence is set (R223). -/
  next : Option Int := none
  /-- The run sequence of R162 as the engine follows it: entry and hits left in it. -/
  seqEntry : Nat := 0
  seqLeft : Nat := 0
  /-- Preparation has stopped after an END run (R223). -/
  seqEnded : Bool := false
  /-- The window's first line when L_b was last set: lines below it are discarded (R224). -/
  floor : Option Int := none
  /-- Blocks settled since validity was last cleared: plane and block number (R225). -/
  settled : List (Nat × Nat) := []
  /-- Those of them whose lines are all code 0 (R214, R233). -/
  blanked : List (Nat × Nat) := []
  prepared : List PrepLine := []
  /-- The newest line index prepared and whether any line is (R28, R29). -/
  newest : Option Int := none
  /-- Tickets that arrived for lines not yet prepared (R22), with their extended index. -/
  tickets : List Word := []
  lastTicket : Option Int := none
  parked : List Work := []
  primed : Bool := false
  /-- A bind found the lead at 128 or more: it has yet to fall below and to reach 128 again (R226). -/
  primeWaits : Bool := false
  starved : Word := 0
  mispredicted : Word := 0
  ringUncorrectable : Word := 0
  linesPrepared : Word := 0
  /-- The plane and block whose index entry read VALID = 0 (R215). -/
  waitsIndex : Option (Nat × Nat) := none
  /-- The lines counted in `starved` that have not been prepared since (R228: every starved line counts one). -/
  starvedLines : List Int := []
  /-- DRY_RISK is raised for the bar, and holds its hits (R176). -/
  dryRisk : Bool := false
  dryHold : Bool := false
  /-- A SPIT strobe has fired since DRY_RISK was raised (R176). -/
  spitSince : Bool := false
  /-- AON time of the latest ejecting fire (R176), and its TIME tick (R175). -/
  lastEject : Nat := 0
  lastEjectTick : Nat := 0
  deriving DecidableEq, Repr

/-- The running state of a plane (R233–R238). -/
structure Plane where
  halted : Option Nat := none
  consumed : Bool := false
  validated : Word := 0
  bad : Word := 0
  peerRepairs : Word := 0
  lastBad : Option Nat := none
  lastBadReason : Reason := 0
  /-- The halted block is to be decoded again (R235). -/
  retry : Bool := false
  /-- Bad blocks that wait, since the plane holds a halted block already (R235). -/
  waits : List Nat := []
  /-- The blocks requested from the twin (R234): the block, and the tick of the request. -/
  peer : List (Nat × Nat) := []
  deriving DecidableEq, Repr

/-- The states of a compressor session (R257). -/
inductive SessState where
  | closed | opened | done | failed
  deriving DecidableEq, Repr

/-- A compressor session (R257–R262). -/
structure Session where
  state : SessState := .closed
  plane : Nat := 0
  captured : Option PlaneRec := none
  port : Option Nat := none
  empties : Bool := false
  storedOnly : Bool := false
  excess : Bool := false
  failReason : Reason := 0
  nextRow : Nat := 0
  /-- Raw bytes of the row being assembled, and of complete rows not yet emitted, oldest first. -/
  raw : List Byte := []
  emitted : Word := 0
  rawIn : Nat := 0
  compOut : Nat := 0
  /-- The HBM offset of the next block (R258). -/
  out : Nat := 0
  limit : Nat := 0
  deriving DecidableEq, Repr

/-- The result of a PLAIT.VERIFY (R263). -/
structure VerifyRes where
  checked : Nat := 0
  bad : Nat := 0
  firstBad : Option Nat := none
  firstReason : Reason := 0
  deriving DecidableEq, Repr

/-- The Plait engines (R255–R263). -/
structure Plait where
  sessions : Table Session := []
  units : Table Work := []
  /-- PLAIT.VERIFY (plane, first block, count) and PLAIT.DECODE (plane, block, destination) under way, in
  order of acceptance. -/
  jobs : List (Waiter × Bool × Nat × Nat × Nat) := []
  results : Table VerifyRes := []
  /-- What the running verifications have found so far (R263). -/
  verifying : List (Waiter × VerifyRes) := []
  decoded : Word := 0
  failed : Word := 0
  suspensions : Word := 0
  parks : Word := 0
  compressed : Word := 0
  storedBlocks : Word := 0
  bytesDecoded : Nat := 0
  bytesIn : Nat := 0
  deriving DecidableEq, Repr

/-! ## Cane -/

/-- The training states of R289, with their codes. -/
inductive PortState where
  | down | electrical | blockLock | rimLock | hello | tsyAlign | config | up | incompatible | off
  deriving DecidableEq, Repr

/-- A 64-bit block of a lane: control or data, and its bytes (R266, R269). -/
structure Block where
  control : Bool
  bytes : List Byte
  deriving DecidableEq, Repr

/-- What a transmitted frame carries, as far as its acknowledgement matters (R273, R283). -/
inductive FrameBody where
  | noz (bar : Nat) (line : Word) (localHead offset : Nat) (bytes : List Byte)
  | wav (bar : Nat) (slot : Nat) (kind : FireKind) (line : Word) (first : Nat) (samples : List Int)
  | cfg (bank : Nat) (records : List Byte)
  | tsy (seq t1 : Nat) (adj : Int)
  | ack (seqs : List Nat)
  | nak (seq code : Nat)
  deriving DecidableEq, Repr

/-- A frame that waits in a port's framer, or has been sent and not acknowledged (R284, R286). -/
structure TxFrame where
  seq : Nat
  body : FrameBody
  /-- The tick at which it was queued, then that at which it left. -/
  sentAt : Nat
  retx : Nat := 0
  /-- Its place in the order of R286 while it waits: 3, 4 or 5. -/
  rank : Nat := 4
  deriving DecidableEq, Repr

/-- A strobe that waits in a port's framer (R23, R286). -/
structure TxStrobe where
  bar : Nat
  kind : StrobeKind
  line : Word
  fire : Nat
  lineTime : Nat
  bank : Nat
  /-- The tick of its emission. -/
  at_ : Nat
  deriving DecidableEq, Repr

/-- A line that the module buffers for a bar (R278): whether a LINE strobe has been sent for it. -/
structure Buffered where
  bar : Nat
  line : Word
  strobed : Bool
  deriving DecidableEq, Repr

/-- The running state of a Cane port (R266–R295). DEDUCED, log entries 11, 19. -/
structure Port where
  state : PortState := .down
  /-- The tick of entering the state (R289). -/
  since : Nat := 0
  /-- A timeout has returned the port to DOWN; training restarts 10 ms later (R289). -/
  retry : Bool := false
  /-- Training has timed out once since the ports were last switched on (R289). -/
  timedOut : Bool := false
  downReason : Reason := 0
  inverted : Bool := false
  aligned : Bool := false
  rims : Nat := 0
  alignGood : Nat := 0
  theta : Int := 0
  delta : Int := 0
  /-- The correction that the next TSY carries (R288). -/
  adj : Int := 0
  seq : Nat := 0
  strobeSeq : Nat := 0
  unacked : List TxFrame := []
  buffered : List Buffered := []
  /-- The samples of the latest SPIT and TICKLE WAV frames, by channel (R279). -/
  wavSent : List (Nat × FireKind × List Int) := []
  /-- The latest STS, when it arrived (AON), and whether the port has passed HELLO since Upsett. -/
  sts : Option Sts := none
  stsAt : Nat := 0
  passedHello : Bool := false
  /-- Sequence numbers of the CONFIG frames that are not acknowledged yet. -/
  configWaits : List Nat := []
  lastTsy : Nat := 0
  /-- The ticks at which the strobes that are queued or in transmission have gone (R24, R167). -/
  strobeQueue : List Nat := []
  /-- The framer (R286): the strobes and frames that wait, and the ticks at which the lane's latest strobe and
  frame end. -/
  strobes : List TxStrobe := []
  waiting : List TxFrame := []
  strobeFree : Nat := 0
  laneFree : Nat := 0
  /-- The rim in which the latest strobe left, and the blocks that strobes take of it (R270). -/
  strobeRim : Nat × Nat := (0, 0)
  /-- The latest WAV frame to leave: bar, kind, line and the tick of its end (R196, R279). -/
  lastWav : Option (Nat × FireKind × Word × Nat) := none
  /-- The tick since which rims run on the port (R270). DESIGN CHOICE, log entry 144. -/
  rimFrom : Nat := 0
  /-- The tsy_seq of the next TSY (R288). -/
  tsySeq : Nat := 0
  /-- The lines that have been counted late: bar and index (R285). -/
  lateFor : List (Nat × Word) := []
  /-- The frames of the last 1 ms: tick and blocks (frame_blocks of R295), newest first. -/
  recent : List (Nat × Nat) := []
  framesSent : Word := 0
  retransmissions : Word := 0
  naks : Word := 0
  lateLines : Word := 0
  crcErrors : Word := 0
  blockErrors : Word := 0
  strobesSent : Word := 0
  retrains : Word := 0
  source : Nat := 2
  deriving DecidableEq, Repr

/-- A commit whose changes are still to be written into the old bank (R282 step 4): the bars with their
apply lines and old banks, and the payloads to be sent, each with its port and bank. -/
structure CatchUp where
  bars : List (Nat × Word × Nat)
  frames : List (Nat × Nat × List Byte)
  /-- The frames of step 4 have been sent and these are not acknowledged yet. -/
  sent : Bool := false
  awaits : List (Nat × Nat) := []
  deriving DecidableEq, Repr

/-! ## Health -/

/-- The latest result of a nozzle (R302). -/
structure Result where
  amplitude : Nat
  period : Nat
  decay : Nat
  aon : Nat
  deriving DecidableEq, Repr

/-- A sweep of a bar (R300). -/
structure Sweep where
  active : Bool := false
  start : Nat := 0
  /-- Nozzles still to be requested, in order, and those already assessed or withdrawn. -/
  todo : List Nat := []
  finished : Nat := 0
  lastDuration : Nat := 0
  deriving DecidableEq, Repr

/-- Health counters of a bar or of a head (R319). DEDUCED, log entry 11. -/
structure HealthStat where
  assessed : Word := 0
  unfired : Word := 0
  unreferenced : Word := 0
  saturated : Word := 0
  dropped : Word := 0
  deriving DecidableEq, Repr

/-- A head's temperature regulation (R316). -/
structure Heater where
  duty : Nat := 0
  integ : Int := 0
  tempLost : Bool := false
  overTemp : Bool := false
  /-- The AON time and the duty of the last HEATER record. -/
  sentAt : Option Nat := none
  sentDuty : Nat := 0
  degraded : Bool := false
  deriving DecidableEq, Repr

/-- Nozzle and head health (R298–R319). -/
structure Health where
  records : Table Word := []
  results : Table Result := []
  queue : List (Nat × HltRec) := []
  overflow : Word := 0
  /-- Outstanding requests: global nozzle id and AON time of issue. -/
  requests : List (Nat × Nat) := []
  sweeps : Table Sweep := []
  barStats : Table HealthStat := []
  headStats : Table HealthStat := []
  heaters : Table Heater := []
  /-- AON time at which the first change was staged into FW_AUTO, and that of the last refusal (R313). -/
  autoSince : Option Nat := none
  refusedAt : Option Nat := none
  /-- AON time from which throttling suspends the request timeouts (R301). -/
  suspended : Option Nat := none
  lastLoop : Nat := 0
  deriving DecidableEq, Repr

/-! ## Pairing -/

/-- PAIR_STATE (R347). -/
inductive PairState where
  | unpaired | training | syncing | paired | withdrawn | incompatible
  deriving DecidableEq, Repr

/-- A line digest (R339). -/
structure Digest where
  bar : Nat
  port : Nat
  line : Word
  digest : Word
  excluded : Bool
  closed : Nat
  deriving DecidableEq, Repr

/-- A head-temperature snapshot (R336): its values by head, the apply line of each bar, and P's tick. -/
structure TempSnap where
  values : List (Nat × Option Int)
  apply : List (Nat × Word)
  tick : Nat
  deriving DecidableEq, Repr

/-- The pairing state of a unit (R322–R348). DEDUCED, log entry 19. -/
structure Pair where
  state : PairState := .unpaired
  /-- Unit S, or an unpaired unit with PAIR_ID high (the standby of R325). -/
  unitS : Bool := false
  promoted : Bool := false
  idHigh : Bool := false
  lanes : Byte := 0
  /-- A former unit S that is now unit P keeps src 1 until its twin has set WITHDRAWN (R343). -/
  srcKept : Bool := false
  /-- The strobes emitted in the last 80 ticks, by tick and bar (R332). -/
  strobes : List (Nat × Nat) := []
  twinSys : Nat := 0
  twinFault : Reason := 0
  offset : Int := 0
  pathDelay : Nat := 0
  /-- TIME ticks of the last PAIR_HB level change seen and of the last heartbeat message. -/
  lastPin : Nat := 0
  lastMsg : Nat := 0
  hbLevel : Bool := false
  lastToggle : Nat := 0
  change : BitVec 6 := 0
  divergences : Word := 0
  /-- The PAIR_CHANGE bits set, and the divergences counted, in this cycle (R11). -/
  cycle : Cycle := {}
  twinSerial : BitVec 64 := 0
  hostBoth : Bool := false
  actGpio : Nat := 0xFF
  actLow : Bool := false
  resyncMatch : Nat := 64
  selfWithdrawn : Bool := false
  fallback : Bool := false
  noRetrain : Bool := false
  trainFrom : Option Nat := none
  consec : Table Nat := []
  consecMax : Nat := 0
  resyncs : Nat := 0
  resyncFails : Nat := 0
  resyncFrom : Option Nat := none
  resyncWaiter : Option Waiter := none
  joins : List (Nat × Word) := []
  /-- Consecutive matching lines of each bar since J_b (R341). -/
  matches_ : Table Nat := []
  /-- The lines of each bar with a mismatch, newest first: the newest, and those with digests left (R340). -/
  badLines : Table (List Word) := []
  /-- The lines of each bar with a match whose other digests have not all been compared (R340). -/
  openLines : List (Nat × Word) := []
  /-- The latest line of each bar that has matched, and the consecutive count before it (R340). -/
  lastGood : Table (Word × Nat) := []
  /-- Unit S has installed the snapshot of the running resynchronisation. -/
  snapped : Bool := false
  inputMismatches : Word := 0
  latencyMax : Nat := 0
  peerRequests : Word := 0
  fwdBytes : Nat := 0
  ownDigests : List Digest := []
  twinDigests : List Digest := []
  /-- The tick through which P's input stream is closed, and the tick of the last CONTROL message. -/
  streamClosed : Nat := 0
  lastControl : Nat := 0
  /-- Unit P: edges counted since its last CONTROL message; unit S: its own edges not yet compared. -/
  edges : List StreamEdge := []
  /-- Unit P: the motion states entered since its last CONTROL message other than by an edge: tick, axis and
  code (R332). -/
  motions : List (Nat × Nat × Nat) := []
  /-- State events to be applied, with their tick and (in unit P) their origin (R333). -/
  stateEvents : List (StateEvent × Nat × Origin) := []
  ceilTwin : Nat := 0x8000
  /-- The combined ceilings that are to come into use, with their apply ticks, in order (R334). -/
  ceilNext : List (Nat × Nat) := []
  /-- The ceilings that were in use before, each with the tick at which the next one came into use (R334). -/
  ceilPast : List (Nat × Nat) := []
  /-- The head-temperature snapshots that some bar still uses, newest first (R336). -/
  temps : List TempSnap := []
  /-- Unit S: the set of a PREPARE whose banks are being preloaded: sent or not, and the frames whose
  acknowledgement is awaited (R282, R335). -/
  preparing : Option (List Change × Bool × List (Nat × Nat)) := none
  /-- Unit S: the set of a PREPARE that awaits its COMMIT (R335). -/
  prepared : Option (List Change) := none
  goodAlign : Nat := 0
  timeAligned : Bool := false
  /-- Unit S has set its tick counter to unit P's count since HELLO, and the offset, in fine ticks, that its
  TIME PLL is slewing away (R330). -/
  counterSet : Bool := false
  slew : Int := 0
  twinContiguous : Bool := false
  twinLogFree : Nat := 32768
  lastTempSend : Nat := 0
  deriving DecidableEq, Repr

/-! ## Memory and DMA -/

/-- A region register (R354). -/
structure Region where
  base : Nat := 0
  limit : Nat := 0
  r : Bool := false
  w : Bool := false
  x : Bool := false
  enable : Bool := false
  deriving DecidableEq, Repr

/-- A Stake bank (R356, R357): its owner (`none`: SYSTEM) and its token. -/
structure Stake where
  owner : Option Nat := none
  token : Word := 0
  deriving DecidableEq, Repr

/-- An error record (R360). -/
structure ErrRec where
  kind : Nat
  master : Nat
  unit : Nat
  count : Word
  address : Nat
  aon : Nat
  boot : Nat
  deriving DecidableEq, Repr

/-- A row of HBM: pseudo-channel, bank and row (R363). -/
structure HbmRow where
  pseudo : Nat
  bank : Nat
  row : Nat
  deriving DecidableEq, Repr

/-- A Weave bank that is to be retired: why, on whose behalf, and the command that asked (R365). -/
structure Retire where
  bank : Nat
  origin : Origin
  reason : Reason
  waiter : Option Waiter := none
  deriving DecidableEq, Repr

/-- A memory as a list of addresses and bytes, in ascending order of address; a byte that is not
listed reads 0x00, and no listed byte is 0x00. DESIGN CHOICE, log entry 24. -/
abbrev Memory := List Host.Cell

/-- Weave, Stake and HBM (R351–R369). -/
structure Mem where
  hbm : Memory := []
  onchip : Memory := []
  contiguous : Bool := false
  retired : List Nat := []
  /-- The bank whose retirement re-forms the pool, and those that wait for entry to READY (R365, R366). -/
  pendingRetire : List Retire := []
  reforming : Option Retire := none
  stakes : Table Stake := []
  regions : Table Region := []
  records : Table (List ErrRec) := []
  /-- Corrected errors of each Weave bank and of each HBM row: their AON times (R363, R365). -/
  bankErrors : Table (List Nat) := []
  rowErrors : List (HbmRow × List Nat) := []
  rowsPending : List HbmRow := []
  poison : List (Nat × Nat) := []
  /-- SRAM rows that the march test of U4 found failing (R364, R468), and HBM rows replaced at U6 (R363). -/
  failRows : List (Nat × Nat) := []
  repaired : List HbmRow := []
  weaveCorrected : Word := 0
  weaveUncorrectable : Word := 0
  hbmCorrected : Word := 0
  hbmUncorrectable : Word := 0
  violations : Word := 0
  scrubPassAt : Nat := 0
  deriving DecidableEq, Repr

/-- The states of a DMA channel (R373). -/
inductive DmaState where
  | closed | idle | running | preempted | halted
  deriving DecidableEq, Repr

/-- A list element as fetched (R377), and its position in fetch order. -/
structure Element where
  address : Nat
  length : Nat
  end_ : Bool
  link : Bool
  ring : Bool
  irq : Bool
  space : Nat
  pos : Nat
  deriving DecidableEq, Repr

/-- Where one list of a transfer stands (R378–R380). -/
structure ListPos where
  space : Nat := 0
  /-- The address of the next element to be fetched; none after END. -/
  next : Option Nat := none
  hops : Nat := 0
  fetched : Nat := 0
  cur : Option Element := none
  /-- Bytes of the current element already used. -/
  used : Nat := 0
  deriving DecidableEq, Repr

/-- What a read request of a channel has come to: outstanding since a tick, answered, failed, or to be issued again
(R386, R387). -/
inductive DmaReply where
  | out (tick : Nat)
  | got (bytes : List Byte)
  | failed (reason : Reason)
  | again
  deriving DecidableEq, Repr

/-- A read request of a channel in stream order: the bytes of the stream that it reads, `n` from `address` on, the
element that names them, and the whole words of the request (R382).  The bytes that have been read, and wait to be
written, are the channel's staging buffer (R375). -/
structure DmaRead where
  address : Nat := 0
  n : Nat := 0
  space : Nat := 0
  pos : Nat := 0
  irq : Bool := false
  base : Nat := 0
  len : Nat := 0
  reply : DmaReply := .again
  deriving DecidableEq, Repr

/-- A DMA channel (R372–R388). -/
structure DmaChan where
  state : DmaState := .closed
  /-- The owning mailbox; `none` in a channel that is not CLOSED: SYSTEM. -/
  owner : Option Nat := none
  priority : Nat := 0
  hopLimit : Nat := 65536
  gather : ListPos := {}
  scatter : ListPos := {}
  unit : Option Nat := none
  /-- TIME ticks since which the channel waits for a unit, and since which it holds one. -/
  waitsFrom : Nat := 0
  heldFrom : Nat := 0
  movedOnUnit : Nat := 0
  /-- The read requests whose bytes have not all been written, in stream order. -/
  reads : List DmaRead := []
  /-- The fetch of an element from the host: its list (0 gather, 1 scatter) and the request. -/
  fetching : Option (Nat × DmaReply) := none
  /-- A pair whose destination overlaps the end of its source is copied from its end (R383): the pair's length, and how
  many bytes of its tail have been copied. -/
  back : Option (Nat × Nat) := none
  /-- A request to on-chip memory or HBM outstanding since this tick. -/
  memRead : Option Nat := none
  ended : Bool := false
  /-- DMA.SKIP has left a gap in the stream, so that `bytesDone` grows no more (R387). -/
  gap : Bool := false
  haltReason : Reason := 0
  failDirection : Nat := 0
  failList : Nat := 0
  failAddress : Nat := 0
  failElement : Nat := 0
  failSpace : Nat := 0
  /-- The invalid element of the latest halt is a LINK (R386). -/
  failLink : Bool := false
  failEnd : Bool := false
  bytesDone : Nat := 0
  bytesSkipped : Nat := 0
  elementsDone : Word := 0
  preemptions : Word := 0
  deriving DecidableEq, Repr

/-! ## Power and start-up -/

/-- What the rail sequencer is doing (R397). -/
inductive RailSeq where
  | idle | up | down
  deriving DecidableEq, Repr

/-- A head supply's timing (R404): the AON time HVEN rose, or fell with HVOK still high. -/
structure Hv where
  riseAt : Option Nat := none
  fallAt : Option Nat := none
  deriving DecidableEq, Repr

/-- A requested entry to a lower power state (R399, R400): the target, its cause, when it begins, and
whether its steps have begun. -/
structure Entry where
  target : PwrState
  origin : Origin
  due : Nat
  begun : Bool := false
  /-- Step 1 of R400 has ended: AMP_EN, and HVEN, have fallen. -/
  unpowered : Bool := false
  deriving DecidableEq, Repr

/-- The Keeper's power and start-up state (R393–R411). DESIGN CHOICE, log entry 21. -/
structure Power where
  wakeSource : Nat := 0
  enP : Byte := 0x7F
  pg : Byte := 0x7F
  pgSince : Nat := 0
  /-- A trip lowers the EN_P lines one by one: its AON tick, and the lines that were high (R397, R422). -/
  tripRails : Option (Nat × Byte) := none
  seq : RailSeq := .idle
  hven : Byte := 0
  hvok : Byte := 0
  hvFailed : Byte := 0
  hv : Table Hv := []
  oscillator : Bool := false
  refRunning : Bool := true
  aonTrim : Byte := 0
  trimAt : Nat := 0
  trimmed : Bool := false
  restartKind : Nat := 0
  prevFault : Reason := 0
  prevPhase : Nat := 0xF
  /-- The Keeper holds a fault that the next restart reports in the log (R407, R508). -/
  prevReport : Bool := false
  wakes : Word := 0
  /-- The axes that the motion detector watches since PD_TIME was gated (R152). -/
  wakeAxes : Byte := 0
  stateAt : Nat := 0
  lastActivity : Nat := 0
  entry : Option Entry := none
  /-- The wake under way: its source's code, and the AON time at which it fired (R401). -/
  waking : Option Nat := none
  wakeTick : Nat := 0
  /-- PD_LINK and PD_TIME run again during a wake, before the power state reads READY (R402). -/
  linkOn : Bool := false
  reduced : Bool := false
  phase : Option Nat := none
  phaseAt : Nat := 0
  u2Fails : Nat := 0
  retryAt : Option Nat := none
  /-- SYS.RESET: when UPSETT is entered, and on behalf of which mailbox (R92). -/
  resetAt : Option (Nat × Nat) := none
  /-- RSTN is held low after an assertion in FAULT (R405). -/
  rstnHeld : Bool := false
  deriving DecidableEq, Repr

/-! ## Thermal -/

/-- One temperature domain, DIE or HBM (R416, R419). DESIGN CHOICE, log entry 20. -/
structure Domain where
  level : Nat := 0
  /-- The last samples, newest first, at most 4. -/
  last : List Int := []
  /-- Consecutive samples that meet the next level's condition, and the present level's leaving one. -/
  up : Nat := 0
  down : Nat := 0
  tracked : Int := 0
  ceiling : Nat := 0x8000
  deriving DecidableEq, Repr

/-- Temperature sensing, throttling and the Keeper's trips (R413–R427). DESIGN CHOICE, log entry 20. -/
structure Thermal where
  /-- The latest reading of T0–T15 (held where stale), and consecutive samples toward a validity change. -/
  die : Table Int := []
  valid : BitVec 16 := 0xFFFF
  validity : Table Nat := []
  dieMax : Int := 0
  gradient : Nat := 0
  gradCount : Nat := 0
  gradHigh : Bool := false
  tk0 : Option Int := some 0
  tk1 : Option Int := some 0
  /-- Consecutive samples of TK0 and TK1 toward a change of validity (R414, R421). -/
  tk0Run : Nat := 0
  tk1Run : Nat := 0
  hbm : Option Int := some 0
  hbmMissing : Nat := 0
  hbmLost : Bool := false
  domains : Table Domain := []
  ceiling : Nat := 0x8000
  /-- The period of SPDLIM in which the ceiling last changed, and the ceiling that it began with (R420). -/
  spdPeriod : Nat × Nat := (0, 0x8000)
  dieVotes : Nat := 0
  hbmVotes : Nat := 0
  /-- die_max of the last samples, newest first, at most 16 (R429). -/
  recent : List Int := []
  sampleAt : Nat := 0
  sensorFaults : Nat := 0
  trips : Word := 0
  tripCode : Reason := 0
  tripBoot : Nat := 0
  tripReport : Bool := false
  coolSince : Option Nat := none
  restarts : List Nat := []
  limited : Bool := false
  deriving DecidableEq, Repr

/-! ## Calibration -/

/-- A calibration record of the boot flash (R435): sequence, serial, coefficients, boot counter, die_max. -/
structure CalSlot where
  seq : Word
  serial : Nat
  coeffs : Table Coeff
  boot : Nat
  temp : Int
  deriving DecidableEq, Repr

/-- A calibration run (R431): its target (0 ADC, 1 TEMP, 8 + k DAC k), its cause, the command that
asked for it, and die_max at its start. -/
structure CalRun where
  target : Nat
  origin : Origin
  waiter : Option Waiter := none
  startTemp : Int := 0
  /-- AON time at which it started, and whether die_max has moved by more than 1 °C since (R433). -/
  start : Nat := 0
  moved : Bool := false
  deriving DecidableEq, Repr

/-- Calibration (R429–R439).  Coefficients: 0 ADC, 1–16 sensors, 17–24 DACs. -/
structure Cal where
  coeffs : Table Coeff := []
  /-- die_max at each target's last calibration (R431). -/
  lastTemp : Table Int := []
  driftCount : Table Nat := []
  fallback : Bool := false
  due : BitVec 16 := 0
  /-- The runs waiting (of commands or of start-up) and the runs in progress. -/
  queue : List CalRun := []
  running : List CalRun := []
  /-- The first failing reason of the commands whose runs have not all ended. -/
  fails : List (Waiter × Reason) := []
  /-- The latest scan: corrected codes, and its AON time (R430). -/
  adc : List Nat := []
  adcAt : Nat := 0
  lastBoot : Nat := 0
  lastRunTemp : Int := 0
  lastResult : Reason := 0
  deriving DecidableEq, Repr

/-! ## Boot flash -/

/-- A boot-flash operation (R408, R438): an image chunk at an address, or a calibration record, and once it is its
turn whether slot B takes it. -/
inductive FlashOp where
  | image (w : Waiter) (address : Nat) (bytes : List Byte)
  | store (w : Waiter) (rec_ : CalSlot) (slot : Option Bool)
  deriving DecidableEq, Repr

/-- The mode of the boot-flash bus (R408, R503): its width, DTR or SDR, and its clock in kHz.  Until the boot
configuration passes it is 1-bit SPI at 12.5 MHz. DESIGN CHOICE, log entry 151. -/
structure FlashBus where
  width : Nat := 1
  dtr : Bool := false
  khz : Nat := 12500
  deriving DecidableEq, Repr

/-- The mode that a boot configuration asks for: SDR runs at up to 100 MHz and DTR at up to 200 MHz (R503). -/
def FlashBus.of : Option (Nat × Bool × Nat) → FlashBus
  | none => {}
  | some (w, dtr, khz) => { width := w, dtr := dtr, khz := min khz (if dtr then 200000 else 100000) }

/-- The boot flash: its bytes, each held complemented, so that an erased byte (0xFF) is not listed; and the
operations, oldest first. DESIGN CHOICE, log entries 18, 25. -/
structure Flash where
  bytes : Memory := []
  /-- QSPI_RESETN is low (R503), and the mode of the bus. -/
  resetLow : Bool := false
  bus : FlashBus := {}
  ops : List FlashOp := []
  deriving DecidableEq, Repr

/-! ## OTP -/

/-- One word of the array as the three read modes see it (R442). -/
structure OtpWord where
  normal : Word := 0
  high : Word := 0
  low : Word := 0
  deriving DecidableEq, Repr

/-- The states of a region (R444). -/
inductive RegionState where
  | blank | opened | valid | invalid
  deriving DecidableEq, Repr

/-- What an OTP operation programs (R458–R461, R454, R456, R363): word, bits, source and duration. -/
inductive OtpOp where
  | program (word : Nat) (mask : Word) (vqps : Bool) (us : Nat)
  | repair (word : Nat) (vqps : Bool) (us : Nat)
  | advance (target : Nat) (record : List Word)
  | revoke (key : Nat)
  | rows (rs : List HbmRow)
  | margin
  deriving DecidableEq, Repr

/-- The OTP array, its shadow and the life-cycle (R441–R463). DESIGN CHOICE, log entry 15. -/
structure Otp where
  array : Table OtpWord := []
  shadow : Table Word := []
  regions : Table RegionState := []
  returnRec : RegionState := .blank
  lc : LcState := .virgin
  marginal : List Nat := []
  /-- The array as U1 read it (R452). -/
  boot : Table OtpWord := []
  recheck : List Nat := []
  recheckTemp : Int := 0
  recheckCount : Nat := 0
  ops : List (OtpOp × Waiter) := []
  /-- A recheck that came due during an operation comes before the next one (R452). -/
  recheckFirst : Bool := false
  /-- die_max has left 0–85 °C during the operation in progress (R460). -/
  tempLeft : Bool := false
  weakCells : Word := 0
  lastResult : Reason := 0
  nonce : Option (BitVec 128) := none
  deriving DecidableEq, Repr

/-! ## Self-test -/

/-- Why a test stopped early (R466), with its code. -/
inductive StopCause where
  | none | preempted | thermal | power | stopped
  deriving DecidableEq, Repr

/-- The latest test of a partition or unit (R475). -/
structure BistResult where
  result : Nat := 0
  kind : Nat := 0
  cause : StopCause := .none
  boot : Nat := 0
  aon : Nat := 0
  coverage : Nat := 0
  duration : Nat := 0
  patterns : Nat := 0
  signature : BitVec 64 := 0
  deriving DecidableEq, Repr

/-- A pool of R36: its retired units, its resting unit and the periodic test of it (R470). -/
structure Pool where
  retired : List Nat := []
  resting : Option Nat := none
  /-- The unit that is to rest next, once it has no work in flight (R37). -/
  wants : Option Nat := none
  /-- Slices completed, whether one is running, and whether the repeat of R471 is. -/
  slices : Nat := 0
  inSlice : Bool := false
  repeat_ : Bool := false
  nextSlice : Nat := 0
  sliceStart : Nat := 0
  transient : Table Nat := []
  deriving DecidableEq, Repr

/-- A test on demand (R473). -/
structure Demand where
  part : Nat
  unit : Nat
  /-- Patterns to be applied; once stopped, patterns applied. -/
  count : Nat
  custom : Bool
  /-- The seed of a custom test (R465). -/
  seed : BitVec 64 := 0
  waiter : Waiter
  start : Nat
  /-- The pool unit was taken from a pool without a resting unit (READY only). -/
  borrowed : Bool
  /-- A cause of R466 has stopped it. -/
  stopped : StopCause := .none
  deriving DecidableEq, Repr

/-- Built-in self-test (R464–R475).  Results are kept under `16 × partition + unit`. -/
structure Bist where
  pools : Table Pool := []
  demand : Option Demand := none
  results : Table BistResult := []
  failures : Word := 0
  /-- The PRPG and the MISR of each partition (R465). -/
  prpg : Table (BitVec 64) := []
  misr : Table (BitVec 64) := []
  deriving DecidableEq, Repr

/-! ## Change log -/

/-- The change log (R477–R488); its mode is `Cfg.logStrict`. -/
structure Log where
  /-- Entries from the oldest that survives to the newest, with their sequence. -/
  entries : List (Word × LogBody) := []
  /-- The next sequence. -/
  next : Word := 0
  ack : Word := 0xFFFFFFFF
  log75 : Bool := false
  /-- The sequence of the open GAP entry (R485). -/
  gap : Option Word := none
  lost : Word := 0
  refusals : Word := 0
  utc : BitVec 64 := 0
  deriving DecidableEq, Repr

/-! ## What leaves the block -/

/-- What the DH2096 puts on its pins and links, as the model records it. DESIGN CHOICE, log entry 9. -/
inductive Output where
  /-- An MSI-X message on a vector (R57). -/
  | msix (vector : Nat)
  /-- A strobe injected into the framer of a port (R23, R275). -/
  | strobe (port bar : Nat) (kind : StrobeKind) (line : Word) (fire lineTime : Nat) (bank : Nat) (blocks : List Block)
  /-- A frame on a Cane port, and its blocks (R271). -/
  | frame (port seq : Nat) (retx : Bool) (body : FrameBody) (blocks : List Block)
  /-- The RIM block of a port from now on, but for its count (R270). -/
  | rim (port : Nat) (block : Block)
  /-- A message to the twin on CONTROL, or the PEER request or response of a block (R323). -/
  | control (c : Control)
  | peerRequest (plane block : Nat)
  | peerResponse (plane block : Nat) (bytes : Option (List Byte))
  | prepare (changes : List Change)
  | ready (ok : Bool)
  | mirror (id : Word) (lines : List (Nat × Word))
  | faultDeclared
  | digest (d : Digest)
  | snapshot (s : Snapshot)
  | forward (address : Nat) (bytes : List Byte)
  | twinLog (seq : Word) (e : LogBody)
  /-- The 32-byte memory write of an event-ring entry (R60). -/
  | hostWrite32 (address : Nat) (bytes : List Byte)
  /-- A host read or write of a DMA channel (R381, R386). -/
  | hostRead (channel address length : Nat)
  | hostWrite (channel address : Nat) (bytes : List Byte)
  /-- A bus transaction of the Keeper (R398): address and command, the word that a write carries, and whether a PEC byte follows. -/
  | pmbus (address command : Nat) (word : Option Nat) (pec : Bool)
  /-- A step of an echo output, or the level of a TRIGOUT, PAIR_HB or act_gpio ball. -/
  | echo (k : Nat) (a b : Bool)
  | trigout (k : Nat) (level : Bool)
  | hbPin (level : Bool)
  | actGpio (k : Nat) (level : Bool)
  /-- The balls of an echo output, of a TRIGOUT output, PAIR_HB or an act_gpio are high-impedance
  (R147, R179, R325, R326). -/
  | echoOff (k : Nat)
  | trigoutOff (k : Nat)
  | hbOff
  | actGpioOff (k : Nat)
  /-- Every ball is high-impedance: POR_N is low (R493, R507). -/
  | allOff
  /-- The clock ball of an SSI axis is driven, at rest high, or is high-impedance (R124, R139). -/
  | ssiDrive (axis : Nat) (on : Bool)
  /-- The clock of one SSI frame: its first falling edge, its half period, and its rising edges (R139). -/
  | ssiClock (axis first half edges : Nat)
  /-- The RIM flag WITHDRAWN of every port (R270, R326). -/
  | withdrawn (w : Bool)
  /-- The DAC k starts the samples of a fire at a tick (R197). -/
  | dac (k start : Nat) (codes : List Int)
  /-- A debug access's response: the data read, or the error of a region violation (R355). -/
  | tap (data : Option Word) (error : Bool)
  deriving DecidableEq, Repr

/-! ## The whole -/

/-- The state of the DH2096.  `pending` is the queue of commands that wait, first in, first out. -/
structure State where
  sys : SysState
  pwr : PwrState
  /-- The TIME tick counter (R34) and the AON ticks since cold start. -/
  tick : Nat
  aon : Nat
  host : HostRegs
  ring : Ring
  ints : Ints
  holdoffs : List Holdoff
  dps : Table DataPort
  mboxes : Table Mailbox
  /-- Doorbells rung through the registers and not yet serviced, oldest first (R75). -/
  rung : List Nat
  /-- Commands of classes 1 and 2 serviced in a row while a class-3 doorbell waited, and the class-3
  mailbox serviced last (R75). -/
  classRun : Nat
  lastRound : Nat
  sets : Table ShadowSet
  checks : List CheckKind
  held : List Held
  base : Cfg
  commits : List Commit
  commitId : Word
  /-- GEOM.COVERAGE: results by bar, and the runs under way (R121). -/
  coverage : Table (List Nat)
  coverRuns : List (Waiter × Nat × List Nat)
  axes : Table Axis
  wakeAt : Nat
  echoes : Table Echo
  trigs : Table Trig
  evals : Evals
  trigouts : Table Trigout
  chans : Table Channel
  amps : Table Amp
  /-- Fires that have started and when they end (TIME tick), by bar (FIRE_END). -/
  fires : List (Nat × Nat)
  raster : Table RasterBar
  planes : Table Plane
  plait : Plait
  ports : Table Port
  banks : Table Nat
  catchUps : List CatchUp
  health : Health
  pair : Pair
  mem : Mem
  dma : Table DmaChan
  power : Power
  therm : Thermal
  cal : Cal
  flash : Flash
  otp : Otp
  bist : Bist
  log : Log
  /-- What has left the block, newest first (the model's own record). -/
  out : List Output
  /-- The number of the next free value (the model's own). -/
  fresh : Nat
  pending : List Instr
  deriving DecidableEq, Repr

/-- Why a command stops the machine.  No meaning of this model faults. DESIGN CHOICE, log entry 5. -/
inductive Fault where
  /-- Raised by nothing; kept so that the type names a reason.  Safe: no step answers it. -/
  | none
  deriving DecidableEq, Repr

/-- Why a command is refused by the model. DESIGN CHOICE, log entry 5. -/
inductive Refusal where
  /-- Raised by an arm of `exec` that has no meaning yet.  Safe: the run stops. -/
  | notModelled (mnemonic : String)
  deriving DecidableEq, Repr

/-- An entry of origin BOOT, whose digests are free values (R477, R479). DESIGN CHOICE, log entry 16. -/
def bootEntry (k : Nat) : LogBody :=
  { aon := 0, boot := 1, origin := 0, objClass := 0x10, reason := 0, objId := 0
    oldDigest := Config.openDigest (2 * k), newDigest := Config.openDigest (2 * k + 1), flags := 0x10, twinSeq := 0 }

/-- The result of a passed start-up test (R468): what the manual leaves open of it is free.
DESIGN CHOICE, log entry 17. -/
def startupPass (key patterns : Nat) : Nat × BistResult :=
  (key, { result := 1, boot := 1, coverage := Config.bistCoverage key, duration := patterns * 1024 / 1000
          patterns := patterns, signature := Config.bistSignature key })

/-- The results of the start-up tests (R464, R468): kept under `16 × partition + unit`; PART10 is not
tested. DESIGN CHOICE, log entry 17. -/
def startupResults : Table BistResult :=
  [(0, 9), (1, 5), (2, 3), (3, 3), (4, 5)].flatMap (fun p =>
      (List.range p.2).map (fun u => startupPass (16 * p.1 + u) 4096))
    ++ [5, 6, 7, 8, 9, 11, 12, 13, 14, 15, 16, 17, 18, 19, 20, 21, 22, 23].map (fun p => startupPass (16 * p) 16384)

/-- The calibration record in slot A after the first start (R435): sequence 1, serial 0, every set nominal.  Bytes are
held complemented. DESIGN CHOICE, log entry 18. -/
def recordAtReset : Memory :=
  let head : List Byte := [0xA6, 0xD2, 0x1B, 0xCA, 1, 0, 0, 0] ++ List.replicate 8 0 ++ [200, 0, 1, 0]
    ++ List.replicate 8 0 ++ [0x33, 0xB9, 0x4F, 0x5A]
  ((List.range 32).map (fun i => (0x900000 + i, ~~~(head.getD i 0))))
    ++ (List.range 200).map (fun i => (0x900020 + i, if i % 8 = 1 then 0xBF else 0xFF))

/-- The DH2096 right after the Upsett sequence has completed: system state READY, power state READY,
and every register at the value of its Reset column (chapter 02: "the value after the Upsett sequence
completes"). DESIGN CHOICE, log entries 3, 10, 14, 15, 16, 18, 23; DEDUCED, log entry 13. -/
def State.reset : State where
  sys := .ready
  pwr := .ready
  tick := 0
  aon := 0
  host := { bootCount := 1 }
  ring := {}
  ints := {}
  holdoffs := []
  dps := []
  mboxes := []
  rung := []
  classRun := 0
  lastRound := 14
  sets := []
  checks := []
  held := []
  base := {}
  commits := []
  commitId := 0
  coverage := []
  coverRuns := []
  axes := []
  wakeAt := 0
  echoes := []
  trigs := []
  evals := {}
  trigouts := []
  chans := []
  amps := []
  fires := []
  raster := []
  planes := []
  plait := {}
  ports := []
  banks := []
  catchUps := []
  health := {}
  pair := {}
  mem := {}
  dma := []
  power := {}
  therm := {}
  cal := {}
  flash := { bytes := recordAtReset, bus := FlashBus.of (Config.bootBus []) }
  otp := {}
  bist := { results := startupResults }
  log := { entries := [(0, bootEntry 0), (1, bootEntry 1), (2, bootEntry 2)], next := 3 }
  out := []
  fresh := 6
  pending := []

end Sys2Proof.Machine
end

