-- ==== Sys2Proof/Machine/Ops.lean ====
section
/-!
DEFINITION. The operations that every meaning is written over: access to the tables of State, the two
clocks, events and interrupts, the change log, mailbox responses and completions.
-/

namespace Sys2Proof.Machine

open Sys2Proof

/-! ## Access to the tables of State -/

/-- Reset wait interval of an axis: its level inputs are high while pulled up. -/
def State.axis (s : State) (n : Nat) : Axis := s.axes.get {} n
def State.setAxis (s : State) (n : Nat) (a : Axis) : State := { s with axes := s.axes.set n a }
def State.echo (s : State) (k : Nat) : Echo := s.echoes.get {} k
def State.setEcho (s : State) (k : Nat) (e : Echo) : State := { s with echoes := s.echoes.set k e }
def State.trig (s : State) (g : Nat) : Trig := s.trigs.get {} g
def State.setTrig (s : State) (g : Nat) (t : Trig) : State := { s with trigs := s.trigs.set g t }
def State.trigoutOf (s : State) (k : Nat) : Trigout := s.trigouts.get {} k
def State.setTrigout (s : State) (k : Nat) (t : Trigout) : State :=
  { s with trigouts := s.trigouts.set k t }
def State.chan (s : State) (c : Nat) : Channel := s.chans.get {} c
def State.setChan (s : State) (c : Nat) (x : Channel) : State := { s with chans := s.chans.set c x }
def State.amp (s : State) (k : Nat) : Amp := s.amps.get {} k
def State.setAmp (s : State) (k : Nat) (a : Amp) : State := { s with amps := s.amps.set k a }
def State.rbar (s : State) (b : Nat) : RasterBar := s.raster.get {} b
def State.setRbar (s : State) (b : Nat) (r : RasterBar) : State := { s with raster := s.raster.set b r }
def State.plane (s : State) (p : Nat) : Plane := s.planes.get {} p
def State.setPlane (s : State) (p : Nat) (x : Plane) : State := { s with planes := s.planes.set p x }
def State.port (s : State) (p : Nat) : Port := s.ports.get {} p
def State.setPort (s : State) (p : Nat) (x : Port) : State := { s with ports := s.ports.set p x }
def State.dp (s : State) (p : Nat) : DataPort := s.dps.get {} p
def State.setDp (s : State) (p : Nat) (x : DataPort) : State := { s with dps := s.dps.set p x }
def State.mbox (s : State) (n : Nat) : Mailbox := s.mboxes.get {} n
def State.setMbox (s : State) (n : Nat) (x : Mailbox) : State := { s with mboxes := s.mboxes.set n x }
def State.sset (s : State) (n : Nat) : ShadowSet := s.sets.get {} n
def State.setSset (s : State) (n : Nat) (x : ShadowSet) : State := { s with sets := s.sets.set n x }
/-- Channels 28–31 are never CLOSED: firmware owns them (R372). -/
def State.chan32 (s : State) (c : Nat) : DmaChan :=
  s.dma.get (if 28 ≤ c then { state := .idle } else {}) c
def State.setChan32 (s : State) (c : Nat) (x : DmaChan) : State := { s with dma := s.dma.set c x }
def State.session (s : State) (k : Nat) : Session := s.plait.sessions.get {} k
def State.setSession (s : State) (k : Nat) (x : Session) : State :=
  { s with plait := { s.plait with sessions := s.plait.sessions.set k x } }
def State.pool (s : State) (p : Nat) : Pool := s.bist.pools.get {} p
def State.setPool (s : State) (p : Nat) (x : Pool) : State :=
  { s with bist := { s.bist with pools := s.bist.pools.set p x } }
def State.dom (s : State) (d : Nat) : Domain := s.therm.domains.get {} d
def State.setDom (s : State) (d : Nat) (x : Domain) : State :=
  { s with therm := { s.therm with domains := s.therm.domains.set d x } }
def State.hvt (s : State) (k : Nat) : Hv := s.power.hv.get {} k
def State.setHvt (s : State) (k : Nat) (x : Hv) : State :=
  { s with power := { s.power with hv := s.power.hv.set k x } }

/-- Something leaves the block. DESIGN CHOICE, log entry 9. -/
def State.emit (s : State) (o : Output) : State := { s with out := o :: s.out }

/-! ## Clocks -/

/-- TIME is gated outside the running states and before the end of U3 (R19, R34, R396). -/
def State.timeRuns (s : State) : Bool :=
  (match s.sys with
    | .off => false
    | .safe => false
    | .upsett => match s.power.phase with
      | some p => decide (3 < p)
      | none => true
    | .fault => !s.power.reduced
    | _ => true)
  && (s.pwr == .run || s.pwr == .ready || s.power.linkOn)

/-- PD_LINK and PD_DATA run (R318, R396). -/
def State.linkRuns (s : State) : Bool := s.pwr == .run || s.pwr == .ready || s.power.linkOn

/-- Work that keeps the device from being idle goes on (R399): a DMA channel is RUNNING or PREEMPTED, or a
consistency check runs. -/
def State.working (s : State) : Bool :=
  !s.checks.isEmpty || List.any s.dma (fun (x : Nat × DmaChan) => x.2.state == .running || x.2.state == .preempted)

/-- Firmware runs and services mailboxes: from the completion of U5 on, while HOST and firmware run.
DEDUCED, log entry 8. -/
def State.firmwareRuns (s : State) : Bool :=
  decide (5 ≤ s.host.upsettPhase) && (match s.sys with
    | .off => false
    | .safe => false
    | .fault => !s.power.reduced
    | _ => true)
  && (s.pwr == .run || s.pwr == .ready || s.pwr == .doze)

/-- A partition is under test on demand: it does nothing (R467, R473). -/
def State.underTest (s : State) (part : Nat) : Bool :=
  match s.bist.demand with
  | some d => d.part == part
  | none => false

/-- The axes, their filters and SSI frames run (R151): in a wake they stand still until the power state reads READY. -/
def State.axesRun (s : State) : Bool := s.timeRuns && (s.pwr == .run || s.pwr == .ready) && !s.underTest 14

/-- The AON count at a moment: it does not run backward, and stands still in OFF. -/
def State.aonAt (s : State) (m : Moment) : Nat := if s.sys = .off then s.aon else max s.aon m.aon

/-- The highest of the lines that are high falls. -/
def dropTop (e : Byte) : Byte :=
  match (List.range 8).reverse.find? (fun k => e.getLsbD k) with
  | some k => e &&& ~~~(1#8 <<< k)
  | none => e

/-- Lines fall in reverse order. -/
def lowerTop (e : Byte) : Nat → Byte
  | 0 => e
  | n + 1 => dropTop (lowerTop e n)

/-- The EN_P lines at an AON tick: after a trip one line has fallen in each, without waiting for PG (R397, R422). -/
def Power.linesAt (p : Power) (aon : Nat) : Byte :=
  match p.tripRails with
  | some (t, e) => lowerTop e (min 8 (aon - t + 1))
  | none => p.enP

/-- SLEEP or OFF-AON is being entered. -/
def Entry.deep (e : Entry) : Bool := e.target == .sleep || e.target == .offAon

/-- Step 2 of an entry has lowered AMP_EN (R400). -/
def State.ampEnds (s : State) : Bool := s.power.entry.any (·.unpowered)

/-- Step 2 of an entry to SLEEP or OFF-AON has lowered HVEN (R400, R403). -/
def State.hvEnds (s : State) : Bool := s.power.entry.any (fun e => e.unpowered && e.deep)

/-- The clocks read `m`, whatever then leaves the framers: neither counter runs backward, and TIME keeps its value while gated.  Work under
way up to now counts as activity (R399). DESIGN CHOICE, log entry 1. -/
def State.setClock (m : Moment) (s : State) : State :=
  { s with
    tick := if s.timeRuns then max s.tick m.tick else s.tick
    aon := s.aonAt m
    power := { s.power with
      lastActivity := if s.working then s.aonAt m else s.power.lastActivity, enP := s.power.linesAt (s.aonAt m) } }

/-- A power state whose entry has begun (R400). -/
def State.entering (s : State) : Option PwrState :=
  match s.power.entry with
  | some e => if e.begun then some e.target else none
  | none => none

/-- A request that is outstanding counts from a later tick. -/
def DmaReply.shift (d : Nat) : DmaReply → DmaReply
  | .out t => .out (t + d)
  | r => r

/-- A channel's timeouts do not count `d` ticks, which DOZE or SLEEP has taken (R386). -/
def DmaChan.shift (d : Nat) (x : DmaChan) : DmaChan :=
  { x with
    reads := x.reads.map (fun r => { r with reply := r.reply.shift d })
    fetching := x.fetching.map (fun f => (f.1, f.2.shift d)), memRead := x.memRead.map (· + d) }

/-- TIME resumes: the counter is loaded from the AON count, and no value repeats (R396); what DMA waits for has not
aged (R386).  One AON tick is 390.625 TIME ticks. DEDUCED, log entry 102. -/
def State.loadTick (s : State) : State :=
  let t := max (s.tick + 1) (s.aon * 390625 / 1000)
  { s with tick := t, dma := s.dma.map (fun x => (x.1, x.2.shift (t - s.tick))) }

/-! ## One cycle (R11, R43) -/

/-- The moment that the clocks read: rows at one moment fall into one cycle.
DESIGN CHOICE, log entry 142. -/
def State.now (s : State) : Moment := ⟨s.tick, s.aon⟩

/-- The device sets bits, of which `was` were 1 already, and counts `n` events at a moment (R11). -/
def Cycle.note (m : Moment) (bits was : BitVec 28) (n : Nat) (c : Cycle) : Cycle :=
  if c.at_ = m then { c with bits := c.bits ||| bits, again := c.again ||| (bits &&& was), count := c.count + n }
  else { at_ := m, bits := bits, again := bits &&& was, count := n }

/-- The bits that the device set at this very moment: a host write does not clear them (R11). -/
def Cycle.set (m : Moment) (c : Cycle) : BitVec 28 := if c.at_ = m then c.bits else 0
/-- Those of them that were 1 already (R57). -/
def Cycle.renewed (m : Moment) (c : Cycle) : BitVec 28 := if c.at_ = m then c.again else 0
/-- The events counted at this very moment: a host read leaves them for the next one (R11). -/
def Cycle.counted (m : Moment) (c : Cycle) : Nat := if c.at_ = m then c.count else 0

/-- Bit `n` alone. -/
def bit28 (n : Nat) : BitVec 28 := 1#28 <<< n

/-! ## Interrupts (R56–R58) -/

/-- A message on a vector goes out, or is pended while its table entry or the function is masked, or the
link is down (R57).  DEDUCED, log entry 28; DESIGN CHOICE, log entry 141. -/
def State.sendMsix (n : Nat) (s : State) : State :=
  if !s.ints.msixEnable then s
  else if (s.ints.msix.get {} n).masked || s.ints.functionMask || !s.host.linkUp then
    { s with ints := { s.ints with pba := s.ints.pba ||| (1#64 <<< n) } }
  else s.emit (.msix n)

/-- A source of vector `n` occurs: STATUS bit `n` becomes 1, with a message when it was 0 and is
enabled (R57). -/
def State.raiseInt (n : Nat) (s : State) : State :=
  let was := s.ints.status
  let s := { s with ints := { s.ints with
    status := was ||| bit28 n, cycle := s.ints.cycle.note s.now (bit28 n) was 0 } }
  if !was.getLsbD n && s.ints.enable.getLsbD n then s.sendMsix n else s

/-- A ring entry has been written: vector 0 counts it (R58). -/
def State.countEntry (s : State) : State :=
  let i := s.ints
  let i := { i with written := i.written + 1, firstAt := i.firstAt <|> some s.aon }
  let s := { s with ints := i }
  if max 1 i.count ≤ i.written then s.raiseInt 0 else s

/-! ## The event ring (R59, R60, R515) -/

/-- The entries between CONS and PROD: u of R60. -/
def ringUsed (r : Ring) : Nat := (r.prod + 4096 - r.cons) % 4096

/-- The 32 bytes of an entry (R5, R60). -/
def entryBytes (e : EventEntry) : List Byte :=
  le 2 e.code.toNat ++ le 1 (b2n e.phase) ++ [e.objClass] ++ le 4 e.seq.toNat ++ le 6 e.aon.toNat ++ le 2 e.boot.toNat
    ++ le 4 e.objId.toNat ++ le 2 e.reason.toNat ++ le 2 e.tag.toNat ++ le 8 e.detail.toNat

/-- The host address of the entry that is written next (R59, R60). -/
def ringAddress (r : Ring) : Nat := r.baseLo.toNat + 2 ^ 32 * r.baseHi.toNat + 32 * r.prod

/-- One entry goes to host memory at PROD, and PROD advances (R60). -/
def ringWrite (e : EventEntry) (r : Ring) : Ring :=
  { r with
    entries := r.entries.set r.prod { e with phase := r.phase }
    prod := if r.prod = 4095 then 0 else r.prod + 1
    phase := if r.prod = 4095 then !r.phase else r.phase }

/-- The host can be written: the ring is enabled and the link is up. DEDUCED, log entry 28. -/
def State.ringOpen (s : State) : Bool := s.ring.enable && s.host.linkUp

/-- An entry is written to the ring: one 32-byte memory write to the host, which vector 0 counts (R58, R60). -/
def State.writeEntry (e : EventEntry) (s : State) : State :=
  { s.emit (.hostWrite32 (ringAddress s.ring) (entryBytes { e with phase := s.ring.phase })) with
    ring := ringWrite e s.ring }.countEntry

/-- A RING_OVERRUN entry is written once there is room and losses are unreported (R60, R515). -/
def State.reportLost (s : State) : State :=
  if s.ringOpen && s.ring.unreported != 0 && decide (ringUsed s.ring ≤ 4094) then
    let e : EventEntry :=
      { code := Ev.ringOverrun, phase := s.ring.phase, objClass := Cls.system, seq := s.ring.lastLost
        aon := BitVec.ofNat 48 s.aon, boot := BitVec.ofNat 16 s.host.bootCount, objId := 0, reason := 0
        tag := 0, detail := BitVec.ofNat 64 s.ring.unreported }
    State.writeEntry e { s with ring := { s.ring with unreported := 0 } }
  else s

/-- The entry of an event at this moment, with sequence number `q` (R60). -/
def State.entryOf (b : EventBody) (q : Word) (s : State) : EventEntry :=
  { code := b.code, phase := s.ring.phase, objClass := b.objClass, seq := q
    aon := BitVec.ofNat 48 s.aon, boot := BitVec.ofNat 16 s.host.bootCount
    objId := BitVec.ofNat 32 b.objId, reason := b.reason, tag := b.tag, detail := b.detail }

/-- An event is generated: it is stored when there is room, else lost (R60). -/
def State.post (b : EventBody) (s : State) : State :=
  let s := s.reportLost
  let q := s.ring.seq
  if s.ringOpen && decide (ringUsed s.ring ≤ 4093) then
    State.writeEntry (s.entryOf b q) { s with ring := { s.ring with seq := q + 1 } }
  else
    { s with ring := { s.ring with
        seq := q + 1, lost := s.ring.lost + 1, unreported := s.ring.unreported + 1
        lastLost := q, cycle := s.ring.cycle.note s.now 0 0 1 } }.reportLost

/-- An event's content. -/
def ev (code : BitVec 16) (cls : Byte) (obj : Nat) (reason : Reason := 0) (detail : Nat := 0) : EventBody :=
  { code := code, objClass := cls, objId := obj, reason := reason, detail := BitVec.ofNat 64 detail }

/-- The holdoff of R133, in AON ticks. DEDUCED, log entry 128. -/
def holdoffTicks : Nat := 1024

/-- A rate-limited event occurs (R133): it is posted at once and starts a holdoff, or waits in one.
DEDUCED, log entry 43. -/
def State.postLimited (k : EventKey) (b : EventBody) (s : State) : State :=
  match s.holdoffs.find? (fun h => h.key == k) with
  | none =>
    { s.post b with
      holdoffs := s.holdoffs ++ [{ key := k, until_ := s.aon + holdoffTicks, last := b, waiting := none }] }
  | some _ =>
    { s with holdoffs := s.holdoffs.map (fun h => if h.key == k then { h with waiting := some b } else h) }

/-! ## The change log (R477–R487) -/

/-- The code of an origin (R480), with the mailbox in bits [7:4]. -/
def originByte : Origin → Byte
  | .boot => 0
  | .mbx n => BitVec.ofNat 8 (1 + 16 * n)
  | .hostDirect => 2
  | .fwAuto => 3
  | .keeper => 4
  | .peer => 5
  | .debug => 6

/-- The log's capacity (R482). -/
def logCapacity : Nat := 32768

/-- Entries not acknowledged (R482): `newest − ack`, with newest the sequence before the next. -/
def logUnacked (l : Log) : Nat := (l.next - 1 - l.ack).toNat

/-- Free entries (R482). -/
def logFree (l : Log) : Nat := logCapacity - logUnacked l

/-- A twin takes part in this unit's work (R337). -/
def State.inPair (s : State) : Bool := s.pair.state == .paired || s.pair.state == .syncing

/-- The free count that the STRICT limit uses: in a pair, unit P uses the lower of the two (R487). -/
def State.strictFree (s : State) : Nat :=
  if s.inPair && !s.pair.unitS then min (logFree s.log) s.pair.twinLogFree else logFree s.log

/-- A STRICT refusal counts (R484). -/
def State.countRefusal (s : State) : State := { s with log := { s.log with refusals := s.log.refusals + 1 } }

/-- An entry takes the next sequence; the oldest entry goes when the log is full (R478, R482). -/
def logAppend (e : LogBody) (l : Log) : Log :=
  { l with
    entries := (if logCapacity ≤ l.entries.length then l.entries.drop 1 else l.entries) ++ [(l.next, e)]
    next := l.next + 1 }

/-- The open GAP entry counts one more entry overwritten, the oldest with sequence `first` (R485). -/
def logGapCount (l : Log) (first : Word) : Log :=
  match l.gap with
  | none => l
  | some g =>
    { l with
      lost := l.lost + 1
      entries := l.entries.map (fun p =>
        if p.1 = g then
          (p.1, { p.2 with
            oldDigest := if p.2.newDigest = 0 then first else p.2.oldDigest
            newDigest := p.2.newDigest + 1 })
        else p) }

/-- The sequence of the oldest surviving entry. -/
def logOldest (l : Log) : Word := match l.entries with
  | [] => l.next
  | p :: _ => p.1

/-- The flag AON_UNTRIMMED of R479. -/
def State.untrimmedFlag (s : State) : BitVec 16 := if s.power.trimmed then 0 else 0x10

/-- The GAP entry of R485 at this moment. -/
def State.gapEntry (s : State) : LogBody :=
  { aon := s.aon, boot := s.host.bootCount, origin := originByte .fwAuto, objClass := Cls.system
    reason := Rc.logOverwritten, objId := 0, oldDigest := 0, newDigest := 0
    flags := 0x2 ||| s.untrimmedFlag, twinSeq := 0 }

/-- A due entry is written: with a GAP entry before it at the first overwrite (R484, R485), and with
LOG_75 and LOG_THRESHOLD when 75 % is reached (R483). -/
def State.logPut (e : LogBody) (s : State) : State :=
  let full := logFree s.log == 0
  let openGap := full && s.log.gap.isNone
  let s := if openGap then
      let first := logOldest s.log
      let g := s.log.next
      let l := logAppend s.gapEntry s.log
      let s := { s with log := logGapCount { l with gap := some g } first }
      s.post (ev Ev.logGap Cls.system 0 Rc.logOverwritten g.toNat)
    else s
  let s := if full then
      let first := logOldest s.log
      { s with log := logGapCount (logAppend e s.log) first }
    else { s with log := logAppend e s.log }
  let s := if s.inPair then s.emit (.twinLog (s.log.next - 1) e) else s
  if decide (24576 ≤ logUnacked s.log) && !s.log.log75 then
    { s with log := { s.log with log75 := true } }.post
      (ev Ev.logThreshold Cls.system 0 0 (logUnacked s.log))
  else s

/-- What an entry records. -/
structure LogReq where
  origin : Origin
  cls : Byte := Cls.system
  obj : Nat := 0
  reason : Reason := 0
  old : Word := 0
  new : Word := 0
  flags : BitVec 16 := 0
  deriving DecidableEq, Repr

/-- A log entry with the digests given (R479). -/
def State.logEntry (q : LogReq) (s : State) : State :=
  s.logPut { aon := s.aon, boot := s.host.bootCount, origin := originByte q.origin, objClass := q.cls
             reason := q.reason, objId := BitVec.ofNat 32 q.obj, oldDigest := q.old, newDigest := q.new
             flags := q.flags ||| s.untrimmedFlag, twinSeq := 0 }

/-- A log entry about something that no command lays out: its two digests are free values (R479).
DESIGN CHOICE, log entries 35, 168. -/
def State.logOpen (q : LogReq) (s : State) : State :=
  { s with fresh := s.fresh + 2 }.logEntry
    { q with old := Config.openDigest s.fresh, new := Config.openDigest (s.fresh + 1) }

/-! ## Status codes -/

/-- The encoding of HST_STATUS.SYS_STATE. -/
def sysCode : SysState → Nat
  | .off => 0
  | .upsett => 1
  | .ready => 2
  | .armed => 3
  | .printing => 4
  | .paused => 5
  | .fault => 6
  | .safe => 7

/-- The encoding of HST_STATUS.PWR_STATE. -/
def pwrCode : PwrState → Nat
  | .run => 0
  | .ready => 1
  | .doze => 2
  | .sleep => 3
  | .offAon => 4

/-- The encoding of HST_LC.LC_STATE. -/
def lcCode : LcState → Nat
  | .virgin => 0
  | .mfg => 1
  | .oem => 2
  | .field => 3
  | .return_ => 4
  | .scrapped => 5

/-- The states in which a configuration is armed. -/
def SysState.armedState : SysState → Bool
  | .armed => true
  | .printing => true
  | .paused => true
  | _ => false

/-- READY, ARMED, PRINTING and PAUSED: the states marked OP (R511). -/
def SysState.operating : SysState → Bool
  | .ready => true
  | .armed => true
  | .printing => true
  | .paused => true
  | _ => false

/-- The state change is reported (R61): STATE_CHANGE and vector 26. -/
def State.postStateChange (old new : SysState) (fault : Reason) (s : State) : State :=
  (s.post (ev Ev.stateChange Cls.system 0 (if new = .fault then fault else 0)
    (sysCode new + 16 * sysCode old))).raiseInt 26

/-! ## Mailbox answers (R71, R73, R92, R94) -/

/-- A response is written, and the mailbox is released (step 5 of the exchange).  The rest of the response
half, whatever an earlier response left there, then reads 0. DESIGN CHOICE, log entry 136. -/
def State.respond (n : Nat) (r : Response) (s : State) : State :=
  let b := s.mbox n
  let s := s.setMbox n { b with
    busy := false, respReady := true, response := r, respOver := []
    cycle := b.cycle.note s.now (bit28 1) 0 0 }
  s.raiseInt (1 + n)

/-- A command that answered ACCEPTED counts in PENDING, and stands in its mailbox's order (R73, R74). -/
def State.addPending (w : Waiter) (s : State) : State :=
  let b := s.mbox w.mbx
  s.setMbox w.mbx { b with pending := b.pending + 1, open_ := b.open_ ++ [w] }

/-- The waiter of a request: later in number than every accepted command of its mailbox that has not completed.
DEDUCED, log entry 39. -/
def State.waiterOf (s : State) (rq : Request) (op : BitVec 16) : Waiter :=
  { mbx := rq.mbx.val, opcode := op, tag := rq.tag
    nth := (s.mbox rq.mbx.val).open_.foldl (fun (n : Nat) (w : Waiter) => max n (w.nth + 1)) 0 }

/-- An earlier accepted command of the mailbox that belongs to the same group has not completed (R74). -/
def Mailbox.blocked (b : Mailbox) (w : Waiter) : Bool :=
  b.open_.contains w && (b.open_.takeWhile (· != w)).any (fun v => v.opcode.toNat / 256 == w.opcode.toNat / 256)

/-- COMMAND_DONE (R94): the event, MBX_DONE, PENDING and the list of SYS.DONE_LIST.
DEDUCED, log entry 40. -/
def State.finishDone (w : Waiter) (reason : Reason) (cls : Byte) (obj : Nat) (s : State) : State :=
  let b := s.mbox w.mbx
  let s := s.setMbox w.mbx
    { b with
      open_ := b.open_.erase w
      pending := b.pending - 1
      doneTag := w.tag
      doneReason := reason
      done := ({ tag := w.tag, reason := reason, objClass := cls, objId := BitVec.ofNat 32 obj } :: b.done).take 16 }
  s.post { code := Ev.commandDone, objClass := Cls.mailbox, objId := w.mbx, reason := reason, tag := w.tag
           detail := BitVec.ofNat 64 (w.opcode.toNat + 65536 * cls.toNat + 16777216 * (obj % 2 ^ 32)) }

/-- The results of a mailbox that waited for an earlier command of their group complete (R74). -/
def State.drainDone (n : Nat) : Nat → State → State
  | 0, s => s
  | k + 1, s =>
    let b := s.mbox n
    match b.ended.find? (fun e => e.1.mbx == n && !b.blocked e.1) with
    | none => s
    | some e => State.drainDone n k ((s.setMbox n { b with ended := b.ended.erase e }).finishDone e.1 e.2.1 e.2.2.1 e.2.2.2)

/-- An accepted command has its result: it completes once every earlier accepted command of its mailbox
and group has completed (R74). DEDUCED, log entry 40. -/
def State.commandDone (w : Waiter) (reason : Reason) (cls : Byte) (obj : Nat) (s : State) : State :=
  let b := s.mbox w.mbx
  if b.blocked w then s.setMbox w.mbx { b with ended := b.ended ++ [(w, reason, cls, obj)] }
  else (s.finishDone w reason cls obj).drainDone w.mbx b.ended.length

/-! ## Memory (R351): bytes by address, listed in ascending order, none of them 0x00 -/

/-- A byte that is not listed reads 0x00. DESIGN CHOICE, log entry 24. -/
def memRead : Memory → Nat → Byte
  | [], _ => 0
  | (i, v) :: t, a => if i = a then v else memRead t a

/-- One byte is stored: storing 0x00 unlists it. -/
def memWrite : Memory → Nat → Byte → Memory
  | [], a, v => if v = 0 then [] else [(a, v)]
  | (i, w) :: t, a, v =>
    if a < i then (if v = 0 then (i, w) :: t else (a, v) :: (i, w) :: t)
    else if a = i then (if v = 0 then t else (a, v) :: t)
    else (i, w) :: memWrite t a v

/-- Bytes are stored from an address upward. -/
def memWriteN (m : Memory) (a : Nat) : List Byte → Memory
  | [] => m
  | b :: bs => memWriteN (memWrite m a b) (a + 1) bs

/-- `n` bytes from an address upward. -/
def memReadN (m : Memory) (a : Nat) : Nat → List Byte
  | 0 => []
  | n + 1 => memRead m a :: memReadN m (a + 1) n

/-- Every listed address is above `lo`, in ascending order, and no listed byte is 0x00. -/
def memAbove : Nat → Memory → Bool
  | _, [] => true
  | lo, (i, v) :: t => decide (lo ≤ i) && v != 0 && memAbove (i + 1) t

/-- The canonical form of a memory. -/
def Memory.wf (m : Memory) : Bool := memAbove 0 m

/-- The end of HBM: 24 GiB (R351). -/
def hbmEnd : Nat := 0x600000000

/-- The end of the part of HBM that the host may use (R359). -/
def hbmUserEnd : Nat := 0x5E0000000

/-- Bytes of HBM.  What firmware keeps in its own part (R359: staging areas, copies, records, the SLEEP save
area), and where, the manual does not say: a free value. DESIGN CHOICE, log entry 145. -/
def State.hbmRead (s : State) (a n : Nat) : List Byte :=
  if a + n ≤ hbmUserEnd then memReadN s.mem.hbm a n
  else (List.range n).map (fun i =>
    if a + i < hbmUserEnd || hbmEnd ≤ a + i then memRead s.mem.hbm (a + i) else Config.reservedByte s.fresh (a + i))

/-- A word of memory `src` is written whole, and is no longer poisoned (R360). -/
def unpoison (src a n : Nat) (l : List (Nat × Nat)) : List (Nat × Nat) :=
  l.filter (fun w => !(w.1 == src && decide (a ≤ w.2) && decide (w.2 + 8 ≤ a + n)))

/-- Bytes are written to HBM. -/
def State.hbmWrite (a : Nat) (bs : List Byte) (s : State) : State :=
  let m := { s.mem with hbm := memWriteN s.mem.hbm a bs, poison := unpoison 2 a bs.length s.mem.poison }
  { s with mem := m }

/-- `n` bytes of the free value number `k`. DESIGN CHOICE, log entry 10. -/
def freeBytes (n k : Nat) : List Byte := le n (Config.freeNat k)

/-- A word of a memory (0 Weave, 1 Stake, 2 HBM) in a range of bytes is marked poisoned (R360); words
are 8 bytes. -/
def State.poisoned (s : State) (src a n : Nat) : Bool :=
  s.mem.poison.any (fun w => w.1 == src && decide (w.2 < a + n) && decide (a < w.2 + 8))

/-! ## Verdicts: what firmware makes of a request that has passed the generic checks (R73, R78) -/

/-- The outcome of executing a command. -/
inductive Verdict where
  /-- Refused: nothing changes but the response (R78). -/
  | refuse (r : Reason) (cls : Byte) (obj : Nat) (payload : List Byte)
  /-- Done, with the response payload. -/
  | done (s : State) (payload : List Byte)
  /-- The change is staged into the mailbox's set (R80). -/
  | stage (c : Change)
  /-- The change is staged, and firmware has also changed its own state (R314). -/
  | stageWith (s : State) (c : Change)
  /-- ACCEPTED: the command completes later (R73). -/
  | accept (s : State)
  /-- CFG.COMMIT, TRIG.ENABLE, PLANE.ENABLE: a commit is submitted (R83, R93). -/
  | submit (kind : CommitKind) (changes : List Change)

/-- Refused with 0x0007 at a byte offset of the payload (R78). -/
def badValue (off : Nat) : Verdict := .refuse Rc.badValue 0 off []

/-- Refused with a code that names an object. -/
def refuseObj (r : Reason) (cls : Byte) (obj : Nat) : Verdict := .refuse r cls obj []

/-- Refused with a code that names no object. -/
def refuseAs (r : Reason) : Verdict := .refuse r 0 0 []

/-- The offset of the first field that is out of range. DEDUCED, log entry 44. -/
def firstBad : List (Bool × Nat) → Option Nat
  | [] => none
  | (ok, off) :: t => if ok then firstBad t else some off

/-- A command goes on when every field is in range (R78). DEDUCED, log entry 44. -/
def checked (fields : List (Bool × Nat)) (k : Verdict) : Verdict :=
  match firstBad fields with
  | some off => badValue off
  | none => k

/-! ## Units in service (R36, R38) -/

/-- The units of a pool and its nominal active count: line slices, decompressors, compressors, health
engines, DMA units (R36). -/
def poolSize : Nat → Nat × Nat
  | 0 => (9, 8)
  | 1 => (5, 4)
  | 2 => (3, 2)
  | 3 => (3, 2)
  | _ => (5, 4)

/-- The healthy units of a pool, ascending (R38). -/
def State.healthy (s : State) (p : Nat) : List Nat :=
  (List.range (poolSize p).1).filter (fun u => !(s.pool p).retired.contains u)

/-- The resting unit of a pool (R36): none once no healthy unit is left to rest (R38).  The unit that
rests first after the Upsett sequence is the model's choice: the last healthy one.
DEDUCED, log entry 127. -/
def State.restingOf (s : State) (p : Nat) : Option Nat :=
  if (s.healthy p).length ≤ (poolSize p).2 then none else (s.pool p).resting <|> (s.healthy p).getLast?

/-- The unit under test that a pool without a resting unit has lent (R473). -/
def State.lentUnit (s : State) (p : Nat) : Option Nat :=
  match s.bist.demand with
  | some d => if d.borrowed && d.part == p then some d.unit else none
  | none => none

/-- The active count of a pool (R38); a test on demand in READY may borrow a unit (R473). -/
def State.activeCount (s : State) (p : Nat) : Nat :=
  let n := min (poolSize p).2 (s.healthy p).length
  match s.bist.demand with
  | some d => if d.borrowed && d.part == p then n - 1 else n
  | none => n

/-- The owner layout of R91. -/
def ownerPayload (cls : Byte) (obj : Nat) : List Byte := [cls, 0, 0, 0] ++ le 4 obj

/-- A pool has no unit left to rest (R38). -/
def State.poolSpareLost (s : State) (p : Nat) : Bool := decide ((s.healthy p).length ≤ (poolSize p).2)
/-- Some pool has no unit left to rest (R38). -/
def State.spareLost (s : State) : Bool := (List.range 5).any s.poolSpareLost

end Sys2Proof.Machine
end

