-- ==== Sys2Proof/Machine/Shadow.lean ====
section
/-!
DEFINITION. The configuration and its shadow sets: what a change does to the configuration, which part
of it is data plane and which control plane (R28), what is in force, and what a set holds (R80–R82).
-/

namespace Sys2Proof

open Machine

/-- The reset value of a nozzle-map entry (R105). -/
def nmapReset : Word := 0x00100000

/-- The bits that a write mask selects (R108): column, state, trim, amp_class. -/
def nmapBits (mask : BitVec 4) : Word :=
  (if mask.getLsbD 0 then 0x0003FFFF else 0) ||| (if mask.getLsbD 1 then 0x001C0000 else 0)
    ||| (if mask.getLsbD 2 then 0x07E00000 else 0) ||| (if mask.getLsbD 3 then 0x18000000 else 0)

/-- One masked write of a nozzle-map entry (R108). -/
def nmapMerge (mask : BitVec 4) (old new : Word) : Word :=
  (old &&& ~~~(nmapBits mask)) ||| (new &&& nmapBits mask)

/-- Masked writes of the nozzle map, in order. -/
def nmapApply (mask : BitVec 4) (t : Table Word) : List (Nat × Word) → Table Word
  | [] => t
  | (i, v) :: es => nmapApply mask (t.set i (nmapMerge mask (t.get nmapReset i) v)) es

/-- Run entries from `first` on. -/
def runsApply (t : Table RunEntry) (g first : Nat) : List RunEntry → Table RunEntry
  | [] => t
  | e :: es => runsApply (t.set (g * 1024 + first) e) g (first + 1) es

/-- Substitutions, in order. -/
def substsApply (t : Table SubstRec) : List (Nat × SubstRec) → Table SubstRec
  | [] => t
  | (i, v) :: es => substsApply (t.set i v) es

/-- Which plane's part of a change is applied (R28). -/
inductive Part where
  | data | ctl
  deriving DecidableEq, Repr

/-- The state SUBSTITUTED of R106. -/
def stSubstituted : Nat := 5

/-- The state field of a nozzle-map entry (R105). -/
def nmapState (e : Word) : Nat := bitsOf e.toNat 18 3
/-- The column field (R105). -/
def nmapColumn (e : Word) : Nat := bitsOf e.toNat 0 18
/-- The trim field, signed (R105). -/
def nmapTrim (e : Word) : Int := signed 6 (bitsOf e.toNat 21 6)
/-- The amplitude class (R105). -/
def nmapClass (e : Word) : Nat := bitsOf e.toNat 27 2

/-- The substitutions that a host's nozzle-map write ends: those of SUBSTITUTED nozzles whose state it
writes (R107). DEDUCED, log entry 48. -/
def nmapEnds (mask : BitVec 4) (cfg : Cfg) (es : List (Nat × Word)) : Table SubstRec :=
  if mask.getLsbD 1 then
    cfg.substs.filter (fun p => !(es.any (fun e => e.1 == p.1 && nmapState e.2 != stSubstituted)))
  else cfg.substs

/-- Entries of the state field alone (R307). -/
def stateEntries (es : List (Nat × Nat)) : List (Nat × Word) :=
  es.map (fun e => (e.1, BitVec.ofNat 32 (e.2 * 2 ^ 18)))

/-- Lost nozzles whose substitution has ended become MISSING (R308). -/
def Cfg.endLost (cfg : Cfg) (ids : List Nat) : Cfg :=
  let ended := ids.filter (fun i => nmapState (cfg.nmap.get nmapReset i) == stSubstituted)
  { cfg with nmap := nmapApply 0x2 cfg.nmap (stateEntries (ended.map (fun i => (i, 3)))) }

/-- The bar of a nozzle's head. -/
def Cfg.nozzleBar (cfg : Cfg) (id : Nat) : Nat := (cfg.heads.get {} (id / 8192)).bar

/-- A donor has become MISSING, SUBSTITUTED or DISABLED, or its head has left the bar (R311). -/
def Cfg.donorLost (cfg : Cfg) (b d : Nat) : Bool :=
  [3, 4, 5].contains (nmapState (cfg.nmap.get nmapReset d)) || cfg.nozzleBar d != b

/-- Every substitution that a lost donor serves ends (R311). -/
def Cfg.dropLost (cfg : Cfg) : Cfg :=
  let bad : List (Nat × SubstRec) := List.filter (fun (p : Nat × SubstRec) => p.2.donors.any (cfg.donorLost (cfg.nozzleBar p.1))) cfg.substs
  if bad.isEmpty then cfg
  else
    let ids : List Nat := List.map (fun (p : Nat × SubstRec) => p.1) bad
    let kept := List.filter (fun (p : Nat × SubstRec) => !(ids.contains p.1)) cfg.substs
    Cfg.endLost { cfg with substs := kept } ids

/-- A change writes its data-plane or its control-plane part of the objects that it names (R28).  Objects of one
plane have one part; bar records, row records and nozzle-map entries have both.
DEDUCED, log entries 47, 48. -/
def Cfg.writePart (part : Part) (c : Change) (cfg : Cfg) : Cfg :=
  match part, c with
  | .data, .head h r => { cfg with heads := cfg.heads.set h r }
  | .data, .row h r v =>
    let o := cfg.rows.get {} (h * 8 + r)
    { cfg with rows := cfg.rows.set (h * 8 + r) { v with subDelay := o.subDelay } }
  | .ctl, .row h r v =>
    let o := cfg.rows.get {} (h * 8 + r)
    { cfg with rows := cfg.rows.set (h * 8 + r) { o with subDelay := v.subDelay } }
  | .data, .bar b v =>
    let o := cfg.bars.get (BarRec.reset b) b
    let n := { o with
      scanning := v.scanning, codeWidth := v.codeWidth, rasterWidth := v.rasterWidth
      passCount := v.passCount, passMask := v.passMask }
    { cfg with bars := cfg.bars.set b n }
  | .ctl, .bar b v =>
    let o := cfg.bars.get (BarRec.reset b) b
    let n := { o with
      trigger := v.trigger, axisA := v.axisA, axisB := v.axisB, blendW := v.blendW
      origin := v.origin, linePitch := v.linePitch }
    { cfg with bars := cfg.bars.set b n }
  | .data, .nmap _ mask es =>
    { cfg with
      substs := nmapEnds mask cfg es
      nmap := nmapApply (mask &&& 0x3) cfg.nmap es }
  | .ctl, .nmap _ mask es => { cfg with nmap := nmapApply (mask &&& 0xC) cfg.nmap es }
  | .data, .stitch z r => { cfg with stitches := cfg.stitches.set z r }
  | .data, .stitchMask k r => { cfg with stitchMasks := cfg.stitchMasks.set k r }
  | .data, .passMask k r => { cfg with passMasks := cfg.passMasks.set k r }
  | .data, .swath b r => { cfg with swaths := cfg.swaths.set b r }
  | .ctl, .axis n r => { cfg with axes := cfg.axes.set n r }
  | .ctl, .axisEnable n e => { cfg with axisEn := cfg.axisEn.set n e }
  | .ctl, .echo k r => { cfg with echoes := cfg.echoes.set k r }
  | .ctl, .wake r => { cfg with wake := r }
  | .ctl, .trig g r => { cfg with trigs := cfg.trigs.set g r }
  | .ctl, .run g first es => { cfg with runs := runsApply cfg.runs g first es }
  | .ctl, .trigout k r => { cfg with trigouts := cfg.trigouts.set k r }
  | .ctl, .trigEnable g e _ => { cfg with tgEn := cfg.tgEn.set g e }
  | .ctl, .wave w r => { cfg with waves := cfg.waves.set w r }
  | .ctl, .profile b k r => { cfg with profiles := cfg.profiles.set (b * 16 + k) r }
  | .ctl, .waveBar b r => { cfg with waveBars := cfg.waveBars.set b r }
  | .ctl, .channel c r => { cfg with channels := cfg.channels.set c r }
  | .ctl, .dac k r => { cfg with dacs := cfg.dacs.set k r }
  | .ctl, .curve c kind r => { cfg with curves := cfg.curves.set (c * 2 + kind) r }
  | .data, .plane p r => { cfg with planes := cfg.planes.set p r }
  | .data, .planeEnable p e => { cfg with bound := cfg.bound.set p e }
  | .data, .ring b r => { cfg with rings := cfg.rings.set b r }
  | .data, .port p r => { cfg with ports := cfg.ports.set p r }
  | .ctl, .policy b r => { cfg with policies := cfg.policies.set b r }
  | .ctl, .ref h r v => { cfg with refs := cfg.refs.set (h * 8 + r) v }
  | .data, .substs es =>
    let states : List (Nat × Nat) := List.map (fun (e : Nat × SubstRec) => (e.1, stSubstituted)) es
    { cfg with
      substs := substsApply cfg.substs es
      nmap := nmapApply 0x2 cfg.nmap (stateEntries states) }
  | .data, .outs states es =>
    let kept := List.filter (fun (p : Nat × SubstRec) => !(List.any states (fun (e : Nat × Nat) => e.1 == p.1 && e.2 != stSubstituted))) cfg.substs
    { cfg with
      substs := substsApply kept es
      nmap := nmapApply 0x2 cfg.nmap (stateEntries states) }
  | .data, .substClear ids =>
    { cfg with substs := List.filter (fun (p : Nat × SubstRec) => !(ids.contains p.1)) cfg.substs }.endLost ids
  | .ctl, .temp h r => { cfg with temps := cfg.temps.set h r }
  | .ctl, .scrub r => { cfg with scrub := r }
  | .ctl, .power r => { cfg with power := r }
  | .ctl, .hv k r => { cfg with hvs := cfg.hvs.set k r }
  | .ctl, .therm d r => { cfg with therms := cfg.therms.set d r }
  | .ctl, .bistPeriod m => { cfg with bistPeriod := m }
  | .ctl, .logMode st => { cfg with logStrict := st }
  | _, _ => cfg

/-- A change that can take a donor away (R311). -/
def Change.movesDonors : Change → Bool
  | .head .. => true
  | .nmap .. => true
  | .substs .. => true
  | .outs .. => true
  | _ => false

/-- A part of a change comes into force: substitutions whose donors it takes away end with it (R311).
DEDUCED, log entries 47, 48. -/
def Cfg.applyPart (part : Part) (c : Change) (cfg : Cfg) : Cfg :=
  if part == .data && c.movesDonors then (cfg.writePart part c).dropLost else cfg.writePart part c

/-- A change as a whole. -/
def Cfg.apply (cfg : Cfg) (c : Change) : Cfg := (cfg.applyPart .data c).applyPart .ctl c

/-- Changes in order. -/
def Cfg.applyAll (cfg : Cfg) (cs : List Change) : Cfg := cs.foldl Cfg.apply cfg

/-- The generator of a bar in a configuration (R100). -/
def Cfg.trigOf (cfg : Cfg) (b : Nat) : Nat := (cfg.bars.get (BarRec.reset b) b).trigger

/-- The bar that a generator follows (R158). -/
def Cfg.sourceBar (cfg : Cfg) (g : Nat) : Nat := (cfg.trigs.get (TrigRec.reset g) g).sourceBar

/-- A bar of a configuration is enabled when the generator that it names follows it and is enabled. -/
def Cfg.enabledBar (cfg : Cfg) (b : Nat) : Bool :=
  cfg.tgEn.get false (cfg.trigOf b) && cfg.sourceBar (cfg.trigOf b) == b

/-- The enabled bars of a configuration, ascending. -/
def Cfg.enabledBars (cfg : Cfg) : List Nat := (List.range 16).filter cfg.enabledBar

/-- The heads of a bar, ascending. -/
def Cfg.headsOf (cfg : Cfg) (b : Nat) : List (Nat × HeadRec) :=
  cfg.heads.filter (fun h => h.2.bar == b)

/-- The ports that serve a bar, ascending. -/
def Cfg.portsOf (cfg : Cfg) (b : Nat) : List Nat :=
  (cfg.headsOf b).foldl (fun l h => insertNat l h.2.port) []

/-- The object that a change sets, as a key: two changes with one key set the same object (R82). -/
def Change.key : Change → List Nat
  | .head h _ => [0, h]
  | .row h r _ => [1, h, r]
  | .bar b _ => [2, b]
  | .nmap _ mask es => 3 :: mask.toNat :: es.map (·.1)
  | .stitch z _ => [4, z]
  | .stitchMask k _ => [5, k]
  | .passMask k _ => [6, k]
  | .swath b _ => [7, b]
  | .axis n _ => [8, n]
  | .axisEnable n _ => [9, n]
  | .echo k _ => [10, k]
  | .wake _ => [11]
  | .trig g _ => [12, g]
  | .run g f es => [13, g, f, es.length]
  | .runStart g _ => [14, g]
  | .trigout k _ => [15, k]
  | .trigEnable g _ _ => [16, g]
  | .wave w _ => [17, w]
  | .profile b k _ => [18, b, k]
  | .waveBar b _ => [19, b]
  | .channel c _ => [20, c]
  | .dac k _ => [21, k]
  | .curve c k _ => [22, c, k]
  | .plane p _ => [23, p]
  | .planeEnable p _ => [24, p]
  | .ring b _ => [25, b]
  | .port p _ => [26, p]
  | .policy b _ => [27, b]
  | .ref h r _ => [28, h, r]
  | .substs es => 29 :: es.map (·.1)
  | .substClear ids => 30 :: ids
  | .outs states _ => 38 :: states.map (·.1)
  | .temp h _ => [31, h]
  | .scrub _ => [32]
  | .power _ => [33]
  | .hv k _ => [34, k]
  | .therm d _ => [35, d]
  | .bistPeriod _ => [36]
  | .logMode _ => [37]

/-- Every id of the second list stands in the first. -/
def namesAll (l m : List Nat) : Bool := m.all l.contains

/-- The later change sets every object that the earlier one sets (R82, R117): a nozzle-map write under the
masks of both, a run write all of the other's entries. -/
def Change.covers : Change → Change → Bool
  | .nmap _ mask es, .nmap _ m fs => m &&& ~~~mask == 0 && namesAll (es.map (·.1)) (fs.map (·.1))
  | .run g f es, .run k i fs => g == k && decide (f ≤ i ∧ i + fs.length ≤ f + es.length)
  | .substs es, .substs fs => namesAll (es.map (·.1)) (fs.map (·.1))
  | .substClear ids, .substClear js => namesAll ids js
  | .outs st es, .outs tt fs => namesAll (st.map (·.1)) (tt.map (·.1)) && namesAll (es.map (·.1)) (fs.map (·.1))
  | c, d => c.key == d.key

/-- What is left of a change once a later one has replaced its values of the objects that both set (R82, R83): a
nozzle-map write keeps its other entries, and of the shared ones the other fields.
DEDUCED, log entry 45. -/
def Change.minus (d : Change) : Change → List Change
  | .nmap load m fs => match d with
    | .nmap _ mask es =>
      let named (f : Nat × Word) : Bool := List.any es (fun (e : Nat × Word) => e.1 == f.1)
      let apart := List.filter (fun (f : Nat × Word) => !named f) fs
      let shared := List.filter named fs
      (if apart.isEmpty then [] else [.nmap load m apart])
        ++ (if shared.isEmpty || m &&& ~~~mask == 0 then [] else [.nmap load (m &&& ~~~mask) shared])
    | _ => [.nmap load m fs]
  | .run g f es => match d with
    | .run k i fs =>
      if g != k then [.run g f es]
      else
        let before := es.take (i - f)
        let after := es.drop (i + fs.length - f)
        if decide (i + fs.length ≤ f) || decide (f + es.length ≤ i) then [.run g f es]
        else (if before.isEmpty then [] else [.run g f before])
          ++ (if after.isEmpty then [] else [.run g (i + fs.length) after])
    | _ => [.run g f es]
  | .substs fs => match d with
    | .substs es =>
      let apart := List.filter (fun (f : Nat × SubstRec) => !List.any es (fun (e : Nat × SubstRec) => e.1 == f.1)) fs
      if apart.isEmpty then [] else [.substs apart]
    | _ => [.substs fs]
  | .substClear js => match d with
    | .substClear ids =>
      let apart := js.filter (fun j => !ids.contains j)
      if apart.isEmpty then [] else [.substClear apart]
    | _ => [.substClear js]
  | c => if d.covers c then [] else [c]

end Sys2Proof

namespace Sys2Proof.Machine

open Sys2Proof

/-! ## What is in force -/

/-- Bar `b` has taken a part of a commit (R28, R29). DEDUCED, log entry 47. -/
def Commit.taken (k : Commit) (part : Part) (b : Nat) : Bool :=
  match k.bars.find? (fun x => x.bar == b) with
  | none => true
  | some x => match part with
    | .data => x.dataDone
    | .ctl => x.ctlDone

/-- A commit's changes as far as their bars have taken them. -/
def applyTaken (k : Commit) (cfg : Cfg) : Cfg :=
  k.changes.foldl (fun cfg c =>
    let cfg := if c.2.all (k.taken .data) then cfg.applyPart .data c.1 else cfg
    if c.2.all (k.taken .ctl) then cfg.applyPart .ctl c.1 else cfg) cfg

/-- The configuration in force (R28, R82). DEDUCED, log entry 47. -/
def State.inForce (s : State) : Cfg := s.commits.foldl (fun cfg k => applyTaken k cfg) s.base

/-- The configuration in force for bar `b`: a change that several bars share is in force for each of them
from its own apply line on (R28, R192). -/
def State.inForceFor (s : State) (b : Nat) : Cfg :=
  s.commits.foldl (fun cfg k =>
    k.changes.foldl (fun cfg c =>
      let has (p : Part) : Bool := if c.2.contains b then k.taken p b else c.2.all (k.taken p)
      let cfg := if has .data then cfg.applyPart .data c.1 else cfg
      if has .ctl then cfg.applyPart .ctl c.1 else cfg) cfg) s.base

/-- The configuration that every accepted commit leaves. -/
def State.accepted (s : State) : Cfg :=
  s.commits.foldl (fun cfg k => cfg.applyAll (k.changes.map (·.1))) s.base

/-- Line `y` of bar `b` is printed under a change of a commit (R28): `y` lies at or after A_b. -/
def Commit.covers (k : Commit) (b : Nat) (y : Word) : Bool :=
  match k.bars.find? (fun x => x.bar == b) with
  | none => true
  | some x => (x.dataDone && x.ctlDone) || decide (0 ≤ ahead32 x.line y)

/-- The configuration of line `y` of bar `b` (R28, R30): every accepted change that concerns the bar and
whose apply line lies at or before `y`, and every other change as far as it is in force.
DEDUCED, log entry 47. -/
def State.cfgFor (s : State) (b : Nat) (y : Word) : Cfg :=
  s.commits.foldl (fun cfg k =>
    k.changes.foldl (fun cfg c =>
      if c.2.contains b then (if k.covers b y then cfg.apply c.1 else cfg)
      else
        let cfg := if c.2.all (k.taken .data) then cfg.applyPart .data c.1 else cfg
        if c.2.all (k.taken .ctl) then cfg.applyPart .ctl c.1 else cfg) cfg) s.base

/-- A bar counts as enabled from acceptance of its enable until its disabling change applies (R101). -/
def State.barEnabled (s : State) (b : Nat) : Bool :=
  s.inForce.enabledBar b || s.accepted.enabledBar b

/-- The bars enabled in force (SYS.STATE). -/
def State.enabledBars (s : State) : List Nat := (List.range 16).filter s.barEnabled

/-! ## Shadow sets (R80–R82) -/

/-- A later change replaces the earlier ones to the same objects, and comes after every change that it
replaces in part: applied in order, the latest value of each object prevails (R82, R117).
DEDUCED, log entry 45. -/
def stageInto (cs : List Change) (c : Change) : List Change := cs.filter (fun d => !c.covers d) ++ [c]

/-- Every change that a set holds: those of a submitted commit and those staged since (R83). -/
def ShadowSet.all (x : ShadowSet) : List Change := x.submitted ++ x.staged

/-- The submitted changes but for those of one commit. -/
def ShadowSet.without (x : ShadowSet) (cs : List Change) : List Change := cs.foldl List.erase x.submitted

/-- The configuration in force as a mailbox's own set would change it (R82). -/
def State.view (s : State) (n : Nat) : Cfg := s.inForce.applyAll (s.sset n).all

/-- What a read returns: with READ_SHADOW the set's value of the objects that its changes name, else the value in force
(R82). -/
def State.readCfg (s : State) (rq : Request) : Cfg :=
  if rq.readShadow then
    (s.sset rq.mbx.val).all.foldl (fun (cfg : Cfg) (c : Change) => (cfg.writePart .data c).writePart .ctl c) s.inForce
  else s.inForce

/-- A refusable change is refused: the STRICT mode in force with fewer than 64 free entries (R484).
DEDUCED, log entry 34. -/
def State.logRefuses (s : State) : Bool := s.inForce.logStrict && decide (s.strictFree < 64)

/-- The nozzle ids that a set's nozzle-map writes name (R117). -/
def nmapIds (cs : List Change) : List Nat :=
  cs.foldl (fun l c => match c with
    | .nmap _ _ es => es.foldl (fun l e => insertNat l e.1) l
    | .outs st _ => st.foldl (fun l e => insertNat l e.1) l
    | _ => l) []

end Sys2Proof.Machine
end

