-- ==== Sys2Proof/Machine/Operands.lean ====
section
/-!
DEFINITION. The operand forms: for each record of the configuration its layout in the command that
sets it, read from a payload, written to one, and the ranges of its fields in the order of their
offsets (R15, R78).
-/

namespace Sys2Proof.Machine

open Sys2Proof

/-- `v` is one of the listed values. -/
def oneOf (v : Nat) (l : List Nat) : Bool := l.contains v

/-! ## Geometry (R120) -/

/-- Fields of GEOM.HEAD_SET. -/
def headFields (p : List Byte) : List (Bool × Nat) :=
  [(decide (fld p 0 2 < 256), 0), (decide (fld p 2 1 < 16) || fld p 2 1 == 0xFF, 2),
   (decide (fld p 3 1 < 32), 3), (decide (fld p 4 1 < 8), 4),
   (decide (1 ≤ fld p 5 1 ∧ fld p 5 1 ≤ 8), 5),
   (decide (1 ≤ fld p 6 2 ∧ fld p 6 2 ≤ 8192 ∧ fld p 5 1 * fld p 6 2 ≤ 8192), 6)]

/-- The head record of a GEOM.HEAD_SET payload. -/
def headOf (p : List Byte) : HeadRec :=
  { bar := fld p 2 1, port := fld p 3 1, localHead := fld p 4 1, rows := fld p 5 1, perRow := fld p 6 2 }

/-- A head record in the layout of GEOM.HEAD_SET. -/
def headBytes (h : Nat) (r : HeadRec) : List Byte :=
  le 2 h ++ le 1 r.bar ++ le 1 r.port ++ le 1 r.localHead ++ le 1 r.rows ++ le 2 r.perRow

/-- Fields of GEOM.ROW_SET. -/
def rowFields (p : List Byte) : List (Bool × Nat) :=
  [(decide (fld p 0 2 < 256), 0), (decide (fld p 2 1 < 8), 2), (oneOf (fld p 3 1) [1, 2, 4, 8], 3),
   (decide (fld p 4 2 < 4096), 4), (decide (fld p 8 1 < fld p 3 1), 8)]

/-- The row record of a GEOM.ROW_SET payload. -/
def rowOf (p : List Byte) : RowRec :=
  { modulus := fld p 3 1, offset := fld p 4 2, subDelay := fld p 6 2, phase := fld p 8 1 }

/-- A row record in the layout of GEOM.ROW_SET. -/
def rowBytes (h r : Nat) (v : RowRec) : List Byte :=
  le 2 h ++ le 1 r ++ le 1 v.modulus ++ le 2 v.offset ++ le 2 v.subDelay ++ le 1 v.phase ++ zeros 3

/-- Fields of GEOM.BAR_SET. -/
def barFields (p : List Byte) : List (Bool × Nat) :=
  [(decide (fld p 0 1 < 16), 0), (decide (fld p 1 1 < 2), 1), (oneOf (fld p 2 1) [1, 2, 4], 2),
   (decide (fld p 3 1 < 16), 3), (decide (1 ≤ fld p 4 4 ∧ fld p 4 4 ≤ 262144), 4),
   (decide (fld p 8 1 < 8), 8), (decide (fld p 9 1 < 8), 9), (decide (1 ≤ fld p 20 4), 20),
   (decide (1 ≤ fld p 24 1 ∧ fld p 24 1 ≤ 16) && (fld p 1 1 == 1 || fld p 24 1 == 1), 24),
   (decide (fld p 25 1 < 16), 25)]

/-- The bar record of a GEOM.BAR_SET payload. -/
def barOf (p : List Byte) : BarRec :=
  { scanning := fld p 1 1 == 1, codeWidth := fld p 2 1, trigger := fld p 3 1, rasterWidth := fld p 4 4
    axisA := fld p 8 1, axisB := fld p 9 1, blendW := fld p 10 2, origin := BitVec.ofNat 48 (fld p 12 6)
    linePitch := fld p 20 4, passCount := fld p 24 1, passMask := fld p 25 1 }

/-- A bar record in the layout of GEOM.BAR_SET. -/
def barBytes (b : Nat) (r : BarRec) : List Byte :=
  le 1 b ++ le 1 (b2n r.scanning) ++ le 1 r.codeWidth ++ le 1 r.trigger ++ le 4 r.rasterWidth
    ++ le 1 r.axisA ++ le 1 r.axisB ++ le 2 r.blendW ++ le 6 r.origin.toNat ++ zeros 2
    ++ le 4 r.linePitch ++ le 1 r.passCount ++ le 1 r.passMask ++ zeros 2

/-- Nozzle-map entries in id order; reserved bits are ignored (R12). -/
def nmapEntriesOf (first : Nat) : List Byte → Nat → List (Nat × Word)
  | _, 0 => []
  | p, n + 1 => (first, BitVec.ofNat 32 (fld p 0 4) &&& 0x1FFFFFFF) :: nmapEntriesOf (first + 1) (p.drop 4) n

/-- A selected state 7 or trim 0b10_0000 is reserved (R105, R118). -/
def nmapReserved (mask : BitVec 4) (e : Word) : Bool :=
  (mask.getLsbD 1 && nmapState e == 7) || (mask.getLsbD 2 && nmapTrim e == -32)

/-- A selected state SUBSTITUTED (R107). -/
def nmapFirmwareOnly (mask : BitVec 4) (e : Word) : Bool :=
  mask.getLsbD 1 && nmapState e == stSubstituted

/-- Masked nozzle-map entries in the layout of GEOM.NMAP_WRITE. -/
def nmapBytes (mask : BitVec 4) (es : List (Nat × Word)) : List Byte :=
  le 4 (match es with | [] => 0 | e :: _ => e.1) ++ le 2 es.length ++ le 1 mask.toNat ++ zeros 1
    ++ es.flatMap (fun e => le 4 e.2.toNat)

/-- Fields of GEOM.STITCH_SET. -/
def stitchFields (p : List Byte) : List (Bool × Nat) :=
  [(decide (fld p 0 2 < 512), 0), (decide (fld p 2 1 < 16), 2), (decide (fld p 3 1 < 2), 3),
   (decide (1 ≤ fld p 6 1 ∧ fld p 6 1 ≤ 64), 6), (decide (fld p 8 4 < 262144), 8)]

/-- The stitch zone of a GEOM.STITCH_SET payload. -/
def stitchOf (p : List Byte) : StitchRec :=
  { bar := fld p 2 1, enable := fld p 3 1 == 1, left := fld p 4 1, right := fld p 5 1, width := fld p 6 1
    mask := fld p 7 1, xStart := fld p 8 4 }

/-- A stitch zone in the layout of GEOM.STITCH_SET. -/
def stitchBytes (z : Nat) (r : StitchRec) : List Byte :=
  le 2 z ++ le 1 r.bar ++ le 1 (b2n r.enable) ++ le 1 r.left ++ le 1 r.right ++ le 1 r.width
    ++ le 1 r.mask ++ le 4 r.xStart

/-- A swath in the layout of GEOM.SWATH. -/
def swathBytes (b : Nat) (r : SwathRec) : List Byte :=
  le 1 b ++ le 1 r.passIndex ++ zeros 2 ++ le 4 r.offset

/-! ## Axes (R155) -/

/-- Fields of AXIS.CONFIG; the ssi_ fields are ignored for QUADRATURE. -/
def axisFields (p : List Byte) : List (Bool × Nat) :=
  let q := fld p 1 1 == 0
  [(decide (fld p 0 1 < 8), 0), (decide (fld p 1 1 < 2), 1), (decide (fld p 2 1 < 8), 2),
   (decide (fld p 3 1 < 2), 3), (decide (1 ≤ fld p 4 2), 4), (decide (fld p 7 1 < 2), 7),
   (decide (1 ≤ fld p 8 4 ∧ fld p 8 4 ≤ 16777215), 8),
   (q || decide (8 ≤ fld p 16 1 ∧ fld p 16 1 ≤ 48), 16), (q || decide (fld p 17 1 < fld p 16 1), 17),
   (q || decide (fld p 18 1 < 2), 18), (q || decide (fld p 19 1 ≤ 2), 19), (q || decide (fld p 20 1 ≤ 3), 20),
   (q || oneOf (fld p 21 1) [0, 3, 4, 5, 6, 7, 8], 21),
   (q || decide (20 ≤ fld p 24 2 ∧ fld p 24 2 ≤ 2000), 24), (q || decide (1 ≤ fld p 27 1), 27),
   (q || decide (400 ≤ fld p 28 4), 28), (q || decide (1 ≤ fld p 34 2), 34),
   (q || decide (1 ≤ fld p 36 4 ∧ fld p 36 4 < 2 ^ 31), 36), (q || decide (fld p 40 1 < 2), 40)]

/-- The axis configuration of an AXIS.CONFIG payload; the ssi_ bytes of a QUADRATURE axis are kept.
DESIGN CHOICE, log entry 163. -/
def axisOf (p : List Byte) : AxisRec :=
  { ssi := fld p 1 1 == 1, filterDepth := fld p 2 1, invert := fld p 3 1 == 1, speedWindow := fld p 4 2
    illegalLimit := fld p 6 1, indexCheck := fld p 7 1 == 1, indexLines := fld p 8 4
    indexTolerance := fld p 12 2, ssiBits := fld p 16 1, ssiMulti := fld p 17 1, ssiGray := fld p 18 1 == 1
    ssiStatusBits := fld p 19 1, ssiStatusErr := fld p 20 1, ssiCrcBits := fld p 21 1
    ssiCrcPoly := fld p 22 1, ssiCrcInit := fld p 23 1, ssiHalf := fld p 24 2, ssiSample := fld p 26 1
    ssiErrLimit := fld p 27 1, ssiFrame := fld p 28 4, ssiRecovery := fld p 32 2, ssiTimeout := fld p 34 2
    ssiMaxStep := fld p 36 4, ssiCrcInvert := fld p 40 1 == 1 }

/-- An axis configuration in the layout of AXIS.CONFIG. -/
def axisBytes (n : Nat) (r : AxisRec) : List Byte :=
  le 1 n ++ le 1 (b2n r.ssi) ++ le 1 r.filterDepth ++ le 1 (b2n r.invert) ++ le 2 r.speedWindow
    ++ le 1 r.illegalLimit ++ le 1 (b2n r.indexCheck) ++ le 4 r.indexLines ++ le 2 r.indexTolerance ++ zeros 2
    ++ le 1 r.ssiBits ++ le 1 r.ssiMulti ++ le 1 (b2n r.ssiGray) ++ le 1 r.ssiStatusBits ++ le 1 r.ssiStatusErr
    ++ le 1 r.ssiCrcBits ++ le 1 r.ssiCrcPoly ++ le 1 r.ssiCrcInit ++ le 2 r.ssiHalf ++ le 1 r.ssiSample
    ++ le 1 r.ssiErrLimit ++ le 4 r.ssiFrame ++ le 2 r.ssiRecovery ++ le 2 r.ssiTimeout ++ le 4 r.ssiMaxStep
    ++ le 1 (b2n r.ssiCrcInvert) ++ zeros 3

/-- An axis enable in the layout of AXIS.ENABLE. -/
def axisEnableBytes (n : Nat) (e : Bool) : List Byte := le 1 n ++ le 1 (b2n e) ++ zeros 2

/-- Fields of AXIS.ECHO_SET. -/
def echoFields (p : List Byte) : List (Bool × Nat) :=
  [(decide (fld p 0 1 < 4), 0), (decide (fld p 1 1 < 2), 1), (decide (fld p 2 1 < 8), 2),
   (decide (1 ≤ fld p 4 2), 4), (decide (1 ≤ fld p 6 2), 6), (decide (8 ≤ fld p 8 2), 8)]

/-- The echo output of an AXIS.ECHO_SET payload. -/
def echoOf (p : List Byte) : EchoRec :=
  { enable := fld p 1 1 == 1, source := fld p 2 1, ratioM := fld p 4 2, ratioN := fld p 6 2, minEdge := fld p 8 2 }

/-- An echo output in the layout of AXIS.ECHO_SET. -/
def echoBytes (k : Nat) (r : EchoRec) : List Byte :=
  le 1 k ++ le 1 (b2n r.enable) ++ le 1 r.source ++ zeros 1 ++ le 2 r.ratioM ++ le 2 r.ratioN ++ le 2 r.minEdge
    ++ zeros 2

/-- Fields of AXIS.WAKE_SET. -/
def wakeFields (p : List Byte) : List (Bool × Nat) :=
  [(decide (1 ≤ fld p 2 2), 2), (decide (1 ≤ fld p 4 2), 4)]

/-- The wake settings of an AXIS.WAKE_SET payload. -/
def wakeOf (p : List Byte) : WakeRec :=
  { mask := BitVec.ofNat 8 (fld p 0 1), edges := fld p 2 2, window := fld p 4 2 }

/-- Wake settings in the layout of AXIS.WAKE_SET. -/
def wakeBytes (r : WakeRec) : List Byte := le 1 r.mask.toNat ++ zeros 1 ++ le 2 r.edges ++ le 2 r.window ++ zeros 2

/-! ## Trigger generators (R161, R182) -/

/-- Fields of TRIG.CONFIG. -/
def trigFields (p : List Byte) : List (Bool × Nat) :=
  [(decide (fld p 0 1 < 16), 0), (decide (fld p 1 1 < 16), 1), (decide (fld p 2 1 < 2), 2),
   (decide (3120 ≤ fld p 4 4 ∧ fld p 4 4 ≤ 16777215), 4), (decide (800 ≤ fld p 8 2 ∧ fld p 8 2 ≤ 20000), 8),
   (decide (1 ≤ fld p 10 2), 10), (decide (fld p 12 1 ≤ 15), 12), (decide (1 ≤ fld p 13 1), 13),
   (decide (1 ≤ fld p 14 2), 14), (decide (100 ≤ fld p 16 2), 16), (decide (1 ≤ fld p 18 2), 18)]

/-- The generator configuration of a TRIG.CONFIG payload. -/
def trigOfBytes (p : List Byte) : TrigRec :=
  { sourceBar := fld p 1 1, requireSpit := fld p 2 1 == 1, keepAlive := bit (fld p 3 1) 0
    minPeriod := fld p 4 4, strobeLead := fld p 8 2, tolerance := fld p 10 2, corrMax := fld p 12 1
    spitWindows := BitVec.ofNat 8 (fld p 13 1), idleTime := fld p 14 2, ticklePeriod := fld p 16 2
    dryTime := fld p 18 2 }

/-- A generator configuration in the layout of TRIG.CONFIG. -/
def trigBytes (g : Nat) (r : TrigRec) : List Byte :=
  le 1 g ++ le 1 r.sourceBar ++ le 1 (b2n r.requireSpit) ++ le 1 (b2n r.keepAlive) ++ le 4 r.minPeriod
    ++ le 2 r.strobeLead ++ le 2 r.tolerance ++ le 1 r.corrMax ++ le 1 r.spitWindows.toNat ++ le 2 r.idleTime
    ++ le 2 r.ticklePeriod ++ le 2 r.dryTime ++ zeros 4

/-- Fields of one run-table entry at an offset of the payload (R161). -/
def runFields (p : List Byte) (off : Nat) : List (Bool × Nat) :=
  [(decide (1 ≤ fld p (off + 8) 4), off + 8),
   (decide (1 ≤ fld p (off + 12) 4 ∧ fld p (off + 12) 4 ≤ 16777216), off + 12),
   (decide (fld p (off + 20) 2 < 1024), off + 20)]

/-- The run-table entry at an offset of the payload (R161). -/
def runOf (p : List Byte) (off : Nat) : RunEntry :=
  let f := fld p (off + 22) 2
  { start := BitVec.ofNat 48 (fld p off 6), pitch := fld p (off + 8) 4, count := fld p (off + 12) 4
    base := BitVec.ofNat 32 (fld p (off + 16) 4), next := fld p (off + 20) 2, spit := bit f 0
    continue_ := bit f 1, end_ := bit f 2, irq := bit f 3 }

/-- A run-table entry in the layout of R161. -/
def runBytes (r : RunEntry) : List Byte :=
  le 6 r.start.toNat ++ zeros 2 ++ le 4 r.pitch ++ le 4 r.count ++ le 4 r.base.toNat ++ le 2 r.next
    ++ le 2 (b2n r.spit + 2 * b2n r.continue_ + 4 * b2n r.end_ + 8 * b2n r.irq)

/-- Fields of TRIG.TRIGOUT_SET. -/
def trigoutFields (p : List Byte) : List (Bool × Nat) :=
  [(decide (fld p 0 1 < 8), 0), (decide (fld p 1 1 < 2), 1), (decide (fld p 2 1 < 16), 2),
   (decide (fld p 3 1 < 6), 3), (decide (fld p 4 1 < 2), 4), (decide (1 ≤ fld p 6 2), 6)]

/-- The TRIGOUT output of a TRIG.TRIGOUT_SET payload. -/
def trigoutOf (p : List Byte) : TrigoutRec :=
  { enable := fld p 1 1 == 1, source := fld p 2 1, event := fld p 3 1, activeLow := fld p 4 1 == 1
    width := fld p 6 2, delay := fld p 8 2 }

/-- A TRIGOUT output in the layout of TRIG.TRIGOUT_SET. -/
def trigoutBytes (k : Nat) (r : TrigoutRec) : List Byte :=
  le 1 k ++ le 1 (b2n r.enable) ++ le 1 r.source ++ le 1 r.event ++ le 1 (b2n r.activeLow) ++ zeros 1
    ++ le 2 r.width ++ le 2 r.delay ++ zeros 2

/-- A generator's enable in the layout of TRIG.ENABLE. -/
def trigEnableBytes (g : Nat) (e : Bool) (start : Nat) : List Byte := le 1 g ++ le 1 (b2n e) ++ le 2 start

/-- A start entry in the layout of TRIG.RUN_START. -/
def runStartBytes (g entry : Nat) : List Byte := le 1 g ++ zeros 1 ++ le 2 entry

/-- Run entries in the layout of TRIG.RUN_WRITE. -/
def runWriteBytes (g first : Nat) (es : List RunEntry) : List Byte :=
  le 1 g ++ zeros 1 ++ le 2 first ++ le 2 es.length ++ zeros 2 ++ es.flatMap runBytes

/-! ## Waveforms (R185, R208) -/

/-- A segment's end level (R185). -/
def segLevel (w : Word) : Int := signed 16 (bitsOf w.toNat 0 16)
/-- A segment's duration (R185). -/
def segTicks (w : Word) : Nat := bitsOf w.toNat 16 14
/-- A segment's shape (R185). -/
def segShape (w : Word) : Nat := bitsOf w.toNat 30 2

/-- The duration D of a waveform (R186). -/
def waveTicks (r : WaveRec) : Nat := (r.segs.map segTicks).sum

/-- The waveform of a WAVE.WAVE_SET payload. -/
def waveOf (p : List Byte) : WaveRec :=
  { segs := (List.range (fld p 1 1)).map (fun i => BitVec.ofNat 32 (fld p (36 + 4 * i) 4))
    windows := (List.range (fld p 2 1)).map (fun k => (fld p (4 + 4 * k) 2, fld p (6 + 4 * k) 2)) }

/-- Fields of WAVE.WAVE_SET. -/
def waveFields (p : List Byte) : List (Bool × Nat) :=
  [(decide (1 ≤ fld p 1 1 ∧ fld p 1 1 ≤ 64), 1), (decide (fld p 2 1 ≤ 8), 2)]
    ++ (List.range (fld p 1 1)).map (fun i =>
      let w := BitVec.ofNat 32 (fld p (36 + 4 * i) 4)
      (decide (1 ≤ segTicks w) && decide (segShape w ≤ 2), 36 + 4 * i))

/-- A waveform in the layout of WAVE.WAVE_SET. -/
def waveBytes (w : Nat) (r : WaveRec) : List Byte :=
  le 1 w ++ le 1 r.segs.length ++ le 1 r.windows.length ++ zeros 1
    ++ (r.windows.flatMap (fun x => le 2 x.1 ++ le 2 x.2) ++ zeros 32).take 32
    ++ r.segs.flatMap (fun v => le 4 v.toNat)

/-- Fields of WAVE.PROFILE_SET. -/
def profileFields (p : List Byte) : List (Bool × Nat) :=
  [(decide (fld p 0 1 < 16), 0), (decide (fld p 1 1 < 4), 1)]

/-- The profile of a WAVE.PROFILE_SET payload. -/
def profileOf (p : List Byte) : ProfileRec := { wave := fld p 2 1, masks := (p.drop 4).take 16 }

/-- A profile in the layout of WAVE.PROFILE_SET. -/
def profileBytes (b k : Nat) (r : ProfileRec) : List Byte := le 1 b ++ le 1 k ++ le 1 r.wave ++ zeros 1 ++ r.masks

/-- A bar drive record in the layout of WAVE.BAR_SET. -/
def waveBarBytes (b : Nat) (r : WaveBarRec) : List Byte :=
  le 1 b ++ le 1 r.tickleWave ++ le 1 r.tickleWindows.toNat ++ zeros 1

/-- Fields of WAVE.CHANNEL_SET. -/
def channelFields (p : List Byte) : List (Bool × Nat) :=
  [(decide (fld p 0 1 < 128), 0), (decide (fld p 1 1 < 2), 1), (decide (fld p 2 1 < 16), 2),
   (decide (fld p 3 1 < 4), 3), (decide (1 ≤ fld p 4 1), 4)]

/-- The binding of a WAVE.CHANNEL_SET payload. -/
def channelOf (p : List Byte) : ChannelRec :=
  { enable := fld p 1 1 == 1, bar := fld p 2 1, ampClass := fld p 3 1, headMask := BitVec.ofNat 8 (fld p 4 1) }

/-- A binding in the layout of WAVE.CHANNEL_SET. -/
def channelBytes (c : Nat) (r : ChannelRec) : List Byte :=
  le 1 c ++ le 1 (b2n r.enable) ++ le 1 r.bar ++ le 1 r.ampClass ++ le 1 r.headMask.toNat ++ zeros 3

/-- Fields of WAVE.DAC_SET. -/
def dacFields (p : List Byte) : List (Bool × Nat) :=
  [(decide (fld p 0 1 < 8), 0), (decide (fld p 1 1 < 2), 1), (decide (fld p 2 1 < 16), 2),
   (decide (fld p 3 1 < 4), 3), (decide (1 ≤ fld p 4 1), 4), (decide (fld p 5 1 < 2), 5),
   (decide (1 ≤ fld p 8 4), 8)]

/-- The binding of a WAVE.DAC_SET payload. -/
def dacOf (p : List Byte) : DacRec :=
  { enable := fld p 1 1 == 1, bar := fld p 2 1, ampClass := fld p 3 1, localMask := BitVec.ofNat 8 (fld p 4 1)
    ampEnable := fld p 5 1 == 1, ampOnDelay := fld p 6 2, portMask := BitVec.ofNat 32 (fld p 8 4) }

/-- A DAC binding in the layout of WAVE.DAC_SET. -/
def dacBytes (k : Nat) (r : DacRec) : List Byte :=
  le 1 k ++ le 1 (b2n r.enable) ++ le 1 r.bar ++ le 1 r.ampClass ++ le 1 r.localMask.toNat
    ++ le 1 (b2n r.ampEnable) ++ le 2 r.ampOnDelay ++ le 4 r.portMask.toNat

/-- The x of point `i` of a WAVE.CURVE_SET payload: signed for TEMP. -/
def curveX (p : List Byte) (i : Nat) : Int :=
  if fld p 1 1 == 0 then fldInt p (4 + 8 * i) 4 else fld p (4 + 8 * i) 4

/-- Fields of WAVE.CURVE_SET. -/
def curveFields (p : List Byte) : List (Bool × Nat) :=
  [(decide (fld p 0 1 < 136), 0), (decide (fld p 1 1 < 2), 1)]
    ++ (List.range 16).map (fun i =>
      ((if fld p 1 1 == 0 then decide (-400 ≤ curveX p i) && decide (curveX p i ≤ 800)
        else decide (curveX p i ≤ 2097152)), 4 + 8 * i))

/-- The curve of a WAVE.CURVE_SET payload. -/
def curveOf (p : List Byte) : CurveRec :=
  { points := (List.range 16).map (fun i => (curveX p i, fld p (8 + 8 * i) 2)) }

/-- A curve in the layout of WAVE.CURVE_SET. -/
def curveBytes (c kind : Nat) (r : CurveRec) : List Byte :=
  le 1 c ++ le 1 kind ++ zeros 2 ++ r.points.flatMap (fun q => leInt 4 q.1 ++ le 2 q.2 ++ zeros 2)

/-! ## Planes and rings (R238) -/

/-- Fields of PLANE.DEFINE; the area is judged by R217. -/
def planeFields (p : List Byte) : List (Bool × Nat) :=
  [(decide (fld p 0 1 < 64), 0), (decide (fld p 1 1 < 16), 1), (oneOf (fld p 2 1) [1, 2, 4], 2),
   (decide (fld p 3 1 ≤ 2), 3), (decide (fld p 4 1 ≤ 1), 4), (decide (fld p 5 1 ≤ 1), 5),
   (decide (1 ≤ fld p 8 4 ∧ fld p 8 4 ≤ 262144), 8), (decide (1 ≤ fld p 12 4 ∧ fld p 12 4 ≤ 16777216), 12)]

/-- The plane descriptor of a PLANE.DEFINE payload. -/
def planeOf (p : List Byte) : PlaneRec :=
  { bar := fld p 1 1, codeWidth := fld p 2 1, policy := fld p 3 1, fallbackHalt := fld p 4 1 == 1
    starveHalt := fld p 5 1 == 1, width := fld p 8 4, height := fld p 12 4
    yFirst := BitVec.ofNat 32 (fld p 16 4), areaBase := fld p 24 8, areaLimit := fld p 32 8 }

/-- A plane descriptor in the layout of PLANE.DEFINE. -/
def planeBytes (n : Nat) (r : PlaneRec) : List Byte :=
  le 1 n ++ le 1 r.bar ++ le 1 r.codeWidth ++ le 1 r.policy ++ le 1 (b2n r.fallbackHalt)
    ++ le 1 (b2n r.starveHalt) ++ zeros 2 ++ le 4 r.width ++ le 4 r.height ++ le 4 r.yFirst.toNat ++ zeros 4
    ++ le 8 r.areaBase ++ le 8 r.areaLimit

/-- A plane's enable in the layout of PLANE.ENABLE. -/
def planeEnableBytes (n : Nat) (e : Bool) : List Byte := le 1 n ++ le 1 (b2n e) ++ zeros 2

/-- Fields of PLANE.RING_SET; ring_base is judged by R217. -/
def ringFields (p : List Byte) : List (Bool × Nat) :=
  [(decide (fld p 0 1 < 16), 0),
   (decide (64 ≤ fld p 2 2 ∧ fld p 2 2 ≤ 8192) && fld p 2 2 % 64 == 0, 2)]

/-- A line ring in the layout of PLANE.RING_SET. -/
def ringBytes (b : Nat) (r : RingRec) : List Byte := le 1 b ++ zeros 1 ++ le 2 r.depth ++ zeros 4 ++ le 8 r.base

/-! ## Cane ports (R295) -/

/-- Fields of CANE.PORT_SET. -/
def portFields (p : List Byte) : List (Bool × Nat) :=
  [(decide (fld p 0 1 < 32), 0), (decide (fld p 1 1 < 2), 1), (decide (fld p 2 1 < 2), 2),
   (decide (fld p 3 1 ≤ 7), 3), (decide (1 ≤ fld p 4 2 ∧ fld p 4 2 ≤ 1000), 4)]

/-- The port configuration of a CANE.PORT_SET payload. -/
def portOf (p : List Byte) : PortRec :=
  { enable := fld p 1 1 == 1, failFault := fld p 2 1 == 1, maxRetx := fld p 3 1, tsyPeriod := fld p 4 2 }

/-- A port configuration in the layout of CANE.PORT_SET. -/
def portBytes (n : Nat) (r : PortRec) : List Byte :=
  le 1 n ++ le 1 (b2n r.enable) ++ le 1 (b2n r.failFault) ++ le 1 r.maxRetx ++ le 2 r.tsyPeriod ++ zeros 2

/-! ## Memory (R369) -/

/-- Fields of MEM.SCRUB_SET. -/
def scrubFields (p : List Byte) : List (Bool × Nat) :=
  [(decide (60 ≤ fld p 0 2 ∧ fld p 0 2 ≤ 1440), 0), (decide (1 ≤ fld p 2 2), 2)]

/-- The scrub settings of a MEM.SCRUB_SET payload. -/
def scrubOf (p : List Byte) : ScrubRec := { period := fld p 0 2, correctedLimit := fld p 2 2 }

/-- Scrub settings in the layout of MEM.SCRUB_SET. -/
def scrubBytes (r : ScrubRec) : List Byte := le 2 r.period ++ le 2 r.correctedLimit ++ zeros 4

/-! ## Health (R319) -/

/-- Fields of HEALTH.POLICY_SET. -/
def policyFields (p : List Byte) : List (Bool × Nat) :=
  [(decide (fld p 0 1 < 16), 0), (decide (1 ≤ fld p 2 1 ∧ fld p 2 1 ≤ 15), 2), (decide (fld p 3 1 < 16), 3),
   (oneOf (fld p 9 1) [0, 2, 4], 9), (decide (fld p 10 2 ≤ 8192), 10),
   (decide (1 ≤ fld p 12 2 ∧ fld p 12 2 ≤ 512), 12), (decide (10 ≤ fld p 14 2), 14)]

/-- The policy of a HEALTH.POLICY_SET payload. -/
def policyOf (p : List Byte) : PolicyRec :=
  let f := fld p 1 1
  { sweep := bit f 0, autoState := bit f 1, autoSubst := bit f 2, autoRecover := bit f 3
    confirmCount := fld p 2 1, substClasses := BitVec.ofNat 4 (fld p 3 1), ampMissing := fld p 4 1
    ampWeak := fld p 5 1, airShift := fld p 6 1, periodTol := fld p 7 1, decayTol := fld p 8 1
    neighbours := fld p 9 1, substLimit := fld p 10 2, reqPerHead := fld p 12 2, reqTimeout := fld p 14 2 }

/-- A policy in the layout of HEALTH.POLICY_SET. -/
def policyBytes (b : Nat) (r : PolicyRec) : List Byte :=
  le 1 b ++ le 1 (b2n r.sweep + 2 * b2n r.autoState + 4 * b2n r.autoSubst + 8 * b2n r.autoRecover)
    ++ le 1 r.confirmCount ++ le 1 r.substClasses.toNat ++ le 1 r.ampMissing ++ le 1 r.ampWeak ++ le 1 r.airShift
    ++ le 1 r.periodTol ++ le 1 r.decayTol ++ le 1 r.neighbours ++ le 2 r.substLimit ++ le 2 r.reqPerHead
    ++ le 2 r.reqTimeout

/-- Fields of HEALTH.REF_SET. -/
def refFields (p : List Byte) : List (Bool × Nat) :=
  [(decide (fld p 1 1 < 8), 1), (decide (fld p 4 2 ≤ 2048), 4), (decide (fld p 6 2 ≤ 496), 6)]

/-- The reference of a HEALTH.REF_SET payload. -/
def refOf (p : List Byte) : RefRec := { decay := fld p 2 1, amp := fld p 4 2, period := fld p 6 2 }

/-- A reference in the layout of HEALTH.REF_SET. -/
def refBytes (h r : Nat) (v : RefRec) : List Byte :=
  le 1 h ++ le 1 r ++ le 1 v.decay ++ zeros 1 ++ le 2 v.amp ++ le 2 v.period

/-- Fields of the entry of HEALTH.SUBST_SET at an offset. -/
def substFields (p : List Byte) (off : Nat) : List (Bool × Nat) :=
  [(decide (fld p off 4 < 2097152), off), (decide (fld p (off + 4) 1 < 2), off + 4),
   (decide (1 ≤ fld p (off + 5) 1 ∧ fld p (off + 5) 1 ≤ 4), off + 5)]
    ++ (List.range (min 4 (fld p (off + 5) 1))).map (fun i =>
      (decide (fld p (off + 8 + 4 * i) 4 < 2097152), off + 8 + 4 * i))

/-- The entry of HEALTH.SUBST_SET at an offset. -/
def substOf (p : List Byte) (off : Nat) : Nat × SubstRec :=
  (fld p off 4, { neighbour := fld p (off + 4) 1 == 1
                  donors := (List.range (fld p (off + 5) 1)).map (fun i => fld p (off + 8 + 4 * i) 4) })

/-- A substitution in the layout of an entry of HEALTH.SUBST_SET. -/
def substBytes (lost : Nat) (r : SubstRec) : List Byte :=
  le 4 lost ++ le 1 (b2n r.neighbour) ++ le 1 r.donors.length ++ zeros 2
    ++ (r.donors.flatMap (le 4) ++ zeros 16).take 16

/-- Fields of HEALTH.TEMP_SET. -/
def tempFields (p : List Byte) : List (Bool × Nat) :=
  [(decide (fld p 1 1 < 2), 1), (decide (-400 ≤ fldInt p 4 2) && decide (fldInt p 4 2 ≤ 800), 4),
   (decide (1 ≤ fld p 6 2 ∧ fld p 6 2 ≤ 400), 6)]

/-- The settings of a HEALTH.TEMP_SET payload. -/
def tempOf (p : List Byte) : HeadTempRec :=
  { enable := fld p 1 1 == 1, setpoint := fldInt p 4 2, overMargin := fld p 6 2, kp := fld p 8 2, ki := fld p 10 2
    maxDuty := fld p 12 2 }

/-- Temperature settings in the layout of HEALTH.TEMP_SET. -/
def tempBytes (h : Nat) (r : HeadTempRec) : List Byte :=
  le 1 h ++ le 1 (b2n r.enable) ++ zeros 2 ++ leInt 2 r.setpoint ++ le 2 r.overMargin ++ le 2 r.kp ++ le 2 r.ki
    ++ le 2 r.maxDuty ++ zeros 2

/-! ## Power, thermal, self-test, log (R410, R426, R475, R488) -/

/-- The policy of a POWER.POLICY_SET payload; reserved mask bits are ignored. -/
def powerOf (p : List Byte) : PowerPolicyRec :=
  { wakeMask := BitVec.ofNat 8 (fld p 0 1) &&& 0x1B, dozeAfter := fld p 2 2, sleepAfter := fld p 4 2
    aonTimer := fld p 8 4 }

/-- A power policy in the layout of POWER.POLICY_SET. -/
def powerBytes (r : PowerPolicyRec) : List Byte :=
  le 1 r.wakeMask.toNat ++ zeros 1 ++ le 2 r.dozeAfter ++ le 2 r.sleepAfter ++ zeros 2 ++ le 4 r.aonTimer

/-- Fields of POWER.HV_SET. -/
def hvFields (p : List Byte) : List (Bool × Nat) :=
  [(decide (fld p 0 1 < 8), 0), (decide (fld p 1 1 < 2), 1), (decide (fld p 2 1 < 2), 2),
   (decide (1 ≤ fld p 4 2), 4), (decide (1 ≤ fld p 6 2), 6)]

/-- The supply of a POWER.HV_SET payload. -/
def hvOf (p : List Byte) : HvRec :=
  { enable := fld p 1 1 == 1, failFault := fld p 2 1 == 1, onTimeout := fld p 4 2, dischargeTimeout := fld p 6 2 }

/-- A supply in the layout of POWER.HV_SET. -/
def hvBytes (k : Nat) (r : HvRec) : List Byte :=
  le 1 k ++ le 1 (b2n r.enable) ++ le 1 (b2n r.failFault) ++ zeros 1 ++ le 2 r.onTimeout ++ le 2 r.dischargeTimeout

/-- The thresholds of a POWER.THERM_SET payload. -/
def thermOf (p : List Byte) : ThermRec :=
  { warning := fld p 2 2, throttle := fld p 4 2, shutdown := fld p 6 2, gradient := fld p 8 2 }

/-- Thresholds in the layout of POWER.THERM_SET. -/
def thermBytes (d : Nat) (r : ThermRec) : List Byte :=
  le 1 d ++ zeros 1 ++ le 2 r.warning ++ le 2 r.throttle ++ le 2 r.shutdown ++ le 2 r.gradient ++ zeros 2

/-- The rotation period in the layout of BIST.CONFIG. -/
def bistConfigBytes (minutes : Nat) : List Byte := le 2 minutes ++ zeros 2

/-- The log mode in the layout of LOG.CONFIG. -/
def logConfigBytes (strict : Bool) : List Byte := le 1 (b2n strict) ++ zeros 3

/-! ## Staged descriptors (R81, R479) -/

/-- A list of nozzles in the layout of HEALTH.SUBST_CLEAR. -/
def nozzleListBytes (ids : List Nat) : List Byte := le 2 ids.length ++ zeros 6 ++ ids.flatMap (le 4)

/-- Substitutions in the layout of HEALTH.SUBST_SET. -/
def substsBytes (es : List (Nat × SubstRec)) : List Byte :=
  le 2 es.length ++ zeros 6 ++ es.flatMap (fun e => substBytes e.1 e.2)

/-- The bytes of a pass mask and of a stitch mask, after the fields of GEOM.MASK_LOAD that name them. -/
def passMaskBytes (k : Nat) (r : PassMask) : List Byte :=
  le 1 1 ++ le 1 k ++ le 2 256 ++ zeros 4 ++ (List.range 32768).map (fun i => r.bytes.get 0 i)
def stitchMaskBytes (k : Nat) (r : StitchMask) : List Byte :=
  le 1 0 ++ le 1 k ++ le 2 r.height ++ zeros 4 ++ (List.range r.height).flatMap (fun i => le 8 (r.lines.get 0 i).toNat)

/-- The descriptor of a staged change, in the layout of the command that sets its object (R479).
DESIGN CHOICE, log entry 35. -/
def changeBytes : Change → List Byte
  | .head h r => headBytes h r
  | .row h r v => rowBytes h r v
  | .bar b r => barBytes b r
  | .nmap _ mask es => nmapBytes mask es
  | .stitch z r => stitchBytes z r
  | .stitchMask k r => stitchMaskBytes k r
  | .passMask k r => passMaskBytes k r
  | .swath b r => swathBytes b r
  | .axis n r => axisBytes n r
  | .axisEnable n e => axisEnableBytes n e
  | .echo k r => echoBytes k r
  | .wake r => wakeBytes r
  | .trig g r => trigBytes g r
  | .run g f es => runWriteBytes g f es
  | .runStart g e => runStartBytes g e
  | .trigout k r => trigoutBytes k r
  | .trigEnable g e start => trigEnableBytes g e start
  | .wave w r => waveBytes w r
  | .profile b k r => profileBytes b k r
  | .waveBar b r => waveBarBytes b r
  | .channel c r => channelBytes c r
  | .dac k r => dacBytes k r
  | .curve c k r => curveBytes c k r
  | .plane p r => planeBytes p r
  | .planeEnable p e => planeEnableBytes p e
  | .ring b r => ringBytes b r
  | .port p r => portBytes p r
  | .policy b r => policyBytes b r
  | .ref h r v => refBytes h r v
  | .substs es => substsBytes es
  | .substClear ids => nozzleListBytes ids
  | .outs states es => nmapBytes 0x2 (stateEntries states) ++ substsBytes es
  | .temp h r => tempBytes h r
  | .scrub r => scrubBytes r
  | .power r => powerBytes r
  | .hv k r => hvBytes k r
  | .therm d r => thermBytes d r
  | .bistPeriod m => bistConfigBytes m
  | .logMode st => logConfigBytes st

/-- Substitutions in force among some nozzles. -/
def substsAmong (cfg : Cfg) (ids : List Nat) : List (Nat × SubstRec) :=
  List.filter (fun (p : Nat × SubstRec) => ids.contains p.1) cfg.substs

/-- The object that a change would change, as a configuration has it; a plane that is not defined has
no value. DESIGN CHOICE, log entry 35. -/
def changeBefore (cfg : Cfg) : Change → List Byte
  | .head h _ => headBytes h (cfg.heads.get {} h)
  | .row h r _ => rowBytes h r (cfg.rows.get {} (h * 8 + r))
  | .bar b _ => barBytes b (cfg.bars.get (BarRec.reset b) b)
  | .nmap _ mask es => nmapBytes mask (es.map (fun e => (e.1, cfg.nmap.get nmapReset e.1)))
  | .stitch z _ => stitchBytes z (cfg.stitches.get {} z)
  | .stitchMask k _ => stitchMaskBytes k (cfg.stitchMasks.get {} k)
  | .passMask k _ => passMaskBytes k (cfg.passMasks.get {} k)
  | .swath b _ => swathBytes b (cfg.swaths.get {} b)
  | .axis n _ => axisBytes n (cfg.axes.get {} n)
  | .axisEnable n _ => axisEnableBytes n (cfg.axisEn.get false n)
  | .echo k _ => echoBytes k (cfg.echoes.get {} k)
  | .wake _ => wakeBytes cfg.wake
  | .trig g _ => trigBytes g (cfg.trigs.get (TrigRec.reset g) g)
  | .run g f es => runWriteBytes g f ((List.range es.length).map (fun i => cfg.runs.get {} (g * 1024 + f + i)))
  | .runStart g e => runStartBytes g e
  | .trigout k _ => trigoutBytes k (cfg.trigouts.get {} k)
  | .trigEnable g _ start => trigEnableBytes g (cfg.tgEn.get false g) start
  | .wave w _ => waveBytes w (cfg.waves.get {} w)
  | .profile b k _ => profileBytes b k (cfg.profiles.get {} (b * 16 + k))
  | .waveBar b _ => waveBarBytes b (cfg.waveBars.get {} b)
  | .channel c _ => channelBytes c (cfg.channels.get {} c)
  | .dac k _ => dacBytes k (cfg.dacs.get {} k)
  | .curve c k _ => curveBytes c k (cfg.curves.get {} (c * 2 + k))
  | .plane p _ => match Table.find? cfg.planes p with
    | some r => planeBytes p r
    | none => []
  | .planeEnable p _ => planeEnableBytes p (cfg.bound.get false p)
  | .ring b _ => ringBytes b (cfg.rings.get {} b)
  | .port p _ => portBytes p (cfg.ports.get {} p)
  | .policy b _ => policyBytes b (cfg.policies.get {} b)
  | .ref h r _ => refBytes h r (cfg.refs.get {} (h * 8 + r))
  | .substs es => substsBytes (substsAmong cfg (es.map (·.1)))
  | .substClear ids => nozzleListBytes ((substsAmong cfg ids).map (·.1))
  | .outs states _ =>
    nmapBytes 0x2 (states.map (fun e => (e.1, cfg.nmap.get nmapReset e.1)))
      ++ substsBytes (substsAmong cfg (states.map (·.1)))
  | .temp h _ => tempBytes h (cfg.temps.get {} h)
  | .scrub _ => scrubBytes cfg.scrub
  | .power _ => powerBytes cfg.power
  | .hv k _ => hvBytes k (cfg.hvs.get {} k)
  | .therm d _ => thermBytes d (cfg.therms.get (ThermRec.reset d) d)
  | .bistPeriod _ => bistConfigBytes cfg.bistPeriod
  | .logMode _ => logConfigBytes cfg.logStrict

end Sys2Proof.Machine
end

