-- ==== Sys2Proof/Machine/Geom.lean ====
section
/-!
DEFINITION. Print geometry: the GEOM commands (R120, R121), the effective stitch zones (R112) and the
selection of a nozzle for a pixel (R115).
-/

namespace Sys2Proof.Machine

open Sys2Proof

/-! ## Geometry of a configuration -/

/-- A head's record. -/
def headRec (cfg : Cfg) (h : Nat) : HeadRec := cfg.heads.get {} h
/-- A row's record. -/
def rowRec (cfg : Cfg) (h r : Nat) : RowRec := cfg.rows.get {} (h * 8 + r)
/-- A bar's record. -/
def barRec (cfg : Cfg) (b : Nat) : BarRec := cfg.bars.get (BarRec.reset b) b
/-- A nozzle's map entry. -/
def nmapRec (cfg : Cfg) (id : Nat) : Word := cfg.nmap.get nmapReset id

/-- A head holds a head address while its record names a bar, unless another head holds the same
address in force (R99). -/
def headHasAddress (cfg : Cfg) (h : Nat) : Bool :=
  let r := headRec cfg h
  r.bar != 0xFF
    && !(cfg.heads.any (fun x => x.1 != h && x.2.bar != 0xFF && x.2.port == r.port && x.2.localHead == r.localHead))

/-- A stitch zone is effective when it is enabled and both its heads belong to its bar (R112). -/
def stitchEffective (cfg : Cfg) (r : StitchRec) : Bool :=
  r.enable && (headRec cfg r.left).bar == r.bar && (headRec cfg r.right).bar == r.bar

/-- The effective zone of a bar that governs a column: the one with the lowest id (R112). -/
def stitchAt (cfg : Cfg) (b x : Nat) : Option StitchRec :=
  (List.find? (fun (z : Nat × StitchRec) => stitchEffective cfg z.2 && z.2.bar == b
    && decide (z.2.xStart ≤ x) && decide (x < z.2.xStart + z.2.width)) cfg.stitches).map (·.2)

/-- Row `r` of head `h` admits line index `y` (R104). -/
def rowAdmits (cfg : Cfg) (h r y : Nat) : Bool :=
  let v := rowRec cfg h r
  y % v.modulus == v.phase

/-- The nozzles that a head has: number, row and map entry, in ascending order (R98). -/
def headNozzles (cfg : Cfg) (h : Nat) : List (Nat × Nat × Word) :=
  let r := headRec cfg h
  (List.range (r.rows * r.perRow)).map (fun n => (n, n / r.perRow, nmapRec cfg (h * 8192 + n)))

/-- A state other than DISABLED (4) and SPARE (6) is selected for a pixel (R106). -/
def stateSelected (st : Nat) : Bool := st != 4 && st != 6

/-- A head is eligible for a column and a line: it has a selected nozzle there (R112). -/
def headEligible (cfg : Cfg) (h x y : Nat) : Bool :=
  (headNozzles cfg h).any (fun n => nmapColumn n.2.2 == x && stateSelected (nmapState n.2.2)
    && rowAdmits cfg h n.2.1 y)

/-- The head that a zone's mask selects: bit 1 the left, bit 0 the right (R111). -/
def stitchSelected (cfg : Cfg) (z : StitchRec) (y x : Nat) : Nat :=
  let mk := cfg.stitchMasks.get {} z.mask
  if (mk.lines.get 0 (y % mk.height)).getLsbD (x - z.xStart) then z.left else z.right

/-- The pass-mask cell of a raster line and a column (R113). -/
def passCell (cfg : Cfg) (b y x : Nat) : Nat :=
  let j := (x + (cfg.swaths.get {} b).offset) % 256
  let byte := ((cfg.passMasks.get {} (barRec cfg b).passMask).bytes.get 0 (y % 256 * 128 + j / 2)).toNat
  if j % 2 = 0 then byte % 16 else byte / 16

/-- A pixel of a SCANNING bar prints in the pass in force: where the mask's cell is its pass_index, and lies below
pass_count (R113). -/
def passPrints (cfg : Cfg) (b y x : Nat) : Bool :=
  let cell := passCell cfg b y x
  cell == (cfg.swaths.get {} b).passIndex && decide (cell < (barRec cfg b).passCount)

/-- The pixel that nozzle entry `e` of row `r` of head `h` prints on line `y`: none when its code is 0
without a pixel, else its raster line and column (R115). -/
def nozzlePixel (cfg : Cfg) (b h r : Nat) (e : Word) (y : Word) : Option (Nat × Nat) :=
  if !stateSelected (nmapState e) then none
  else if !rowAdmits cfg h r y.toNat then none
  else
    let raster := (y - BitVec.ofNat 32 (rowRec cfg h r).offset).toNat
    let x := nmapColumn e
    let passes := !(barRec cfg b).scanning || passPrints cfg b raster x
    match stitchAt cfg b x with
    | some z =>
      if headEligible cfg z.left x y.toNat && headEligible cfg z.right x y.toNat
          && h != stitchSelected cfg z raster x then none
      else if passes then some (raster, x) else none
    | none => if passes then some (raster, x) else none

/-! ## The GEOM commands -/

/-- GEOM.HEAD_SET (R98, R99): refused when another head holds the address, in force or in the set; the refusal names the
head of the request. DESIGN CHOICE, log entry 162. -/
def geomHeadSetBody (rq : Request) (s : State) : Verdict :=
  let p := rq.payload
  checked (headFields p) <|
    let h := fld p 0 2
    let r := headOf p
    let held (cfg : Cfg) : Bool := cfg.heads.any (fun x =>
      x.1 != h && x.2.bar != 0xFF && x.2.port == r.port && x.2.localHead == r.localHead)
    if r.bar != 0xFF && (held s.inForce || held (s.view rq.mbx.val)) then
      refuseObj Rc.headAddressInUse Cls.head h
    else .stage (.head h r)

/-- GEOM.ROW_SET (R102, R120): refused for a row that the head does not have. -/
def geomRowSetBody (rq : Request) (s : State) : Verdict :=
  let p := rq.payload
  checked (rowFields p) <|
    let h := fld p 0 2
    if (headRec (s.view rq.mbx.val) h).rows ≤ fld p 2 1 then refuseObj Rc.rowNotInHead Cls.head h
    else .stage (.row h (fld p 2 1) (rowOf p))

/-- A change of a locked field of a bar record (R101). -/
def barLockedChange (old new : BarRec) : Bool :=
  old.scanning != new.scanning || old.codeWidth != new.codeWidth || old.rasterWidth != new.rasterWidth
    || old.trigger != new.trigger

/-- GEOM.BAR_SET (R100, R101, R114). -/
def geomBarSetBody (rq : Request) (s : State) : Verdict :=
  let p := rq.payload
  checked (barFields p) <|
    let b := fld p 0 1
    let r := barOf p
    if !r.scanning && r.passMask != 0 then refuseObj Rc.notScanning Cls.bar b
    else if s.barEnabled b && barLockedChange (barRec s.inForce b) r then refuseObj Rc.barFieldLocked Cls.bar b
    else .stage (.bar b r)

/-- The offset of the first entry that `bad` holds of. -/
def nmapFirst (bad : Word → Bool) (es : List (Nat × Word)) : Option Nat := (es.find? (fun e => bad e.2)).map (·.1)

/-- GEOM.NMAP_WRITE (R107, R108).  The refusal of a state reserved for firmware reports class 0x00 with the
first nozzle that asks for one. DESIGN CHOICE, log entry 140. -/
def geomNmapWriteBody (rq : Request) (_s : State) : Verdict :=
  let p := rq.payload
  let first := fld p 0 4
  let count := fld p 4 2
  let mask := BitVec.ofNat 4 (fld p 6 1)
  checked [(decide (first < 2097152), 0),
           (decide (1 ≤ count ∧ count ≤ 248 ∧ first + count ≤ 2097152), 4),
           (decide (1 ≤ fld p 6 1 ∧ fld p 6 1 ≤ 15), 6)] <|
    let es := nmapEntriesOf first (p.drop 8) count
    match nmapFirst (nmapReserved mask) es with
    | some i => badValue (8 + 4 * (i - first))
    | none =>
      match nmapFirst (nmapFirmwareOnly mask) es with
      | some i => refuseObj Rc.stateReservedForFirmware 0 i
      | none => .stage (.nmap false mask es)

/-- The HBM source of a load is 32-byte aligned and lies below 0x6_0000_0000 (R118). -/
def sourceOk (src bytes : Nat) : Bool := src % 32 == 0 && decide (src + bytes ≤ hbmEnd)

/-- GEOM.NMAP_LOAD (R118). -/
def geomNmapLoadBody (rq : Request) (s : State) : Verdict :=
  let p := rq.payload
  let first := fld p 0 4
  let count := fld p 4 4
  let src := fld p 8 8
  let mask := BitVec.ofNat 4 (fld p 16 1)
  checked [(decide (first < 2097152), 0),
           (decide (1 ≤ count ∧ count ≤ 262144 ∧ first + count ≤ 2097152), 4),
           (decide (1 ≤ fld p 16 1 ∧ fld p 16 1 ≤ 15), 16)] <|
    if !sourceOk src (count * 4) then refuseAs Rc.sourceRange
    else
      let es := nmapEntriesOf first (s.hbmRead src (count * 4)) count
      match nmapFirst (fun e => nmapReserved mask e || nmapFirmwareOnly mask e) es with
      | some i => .refuse Rc.nmapEntryInvalid 0 i []
      | none => .stage (.nmap true mask es)

/-- GEOM.NMAP_READ (R120). -/
def geomNmapReadBody (rq : Request) (s : State) : Verdict :=
  let p := rq.payload
  let first := fld p 0 4
  let count := fld p 4 2
  checked [(decide (first < 2097152), 0),
           (decide (1 ≤ count ∧ count ≤ 248 ∧ first + count ≤ 2097152), 4)] <|
    let cfg := s.readCfg rq
    .done s ((List.range count).flatMap (fun i => le 4 (nmapRec cfg (first + i)).toNat))

/-- GEOM.STITCH_SET (R110); a refusal names the zone's bar. DESIGN CHOICE, log entry 162. -/
def geomStitchSetBody (rq : Request) (s : State) : Verdict :=
  let p := rq.payload
  checked (stitchFields p) <|
    let r := stitchOf p
    let cfg := s.view rq.mbx.val
    if r.enable && ((headRec cfg r.left).bar != r.bar || (headRec cfg r.right).bar != r.bar || r.left == r.right
        || decide ((barRec cfg r.bar).rasterWidth < r.xStart + r.width)) then
      refuseObj Rc.stitchInvalid Cls.bar r.bar
    else .stage (.stitch (fld p 0 2) r)

/-- The lines of a stitch mask, 8 bytes each (R111). -/
def maskLines (first : Nat) : Nat → List Byte → Table (BitVec 64)
  | 0, _ => []
  | n + 1, bs => (first, BitVec.ofNat 64 (fld bs 0 8)) :: maskLines (first + 1) n (bs.drop 8)

/-- GEOM.MASK_LOAD (R111, R113, R118). -/
def geomMaskLoadBody (rq : Request) (s : State) : Verdict :=
  let p := rq.payload
  let pass := fld p 0 1 == 1
  let k := fld p 1 1
  let height := fld p 2 2
  let src := fld p 8 8
  checked [(decide (fld p 0 1 < 2), 0), (!pass || decide (k < 16), 1),
           (if pass then height == 256 else oneOf height [1, 2, 4, 8, 16, 32, 64, 128, 256], 2)] <|
    if !sourceOk src (if pass then 32768 else height * 8) then refuseAs Rc.sourceRange
    else if pass then
      .stage (.passMask k { bytes := (List.range 32768).zip (s.hbmRead src 32768) })
    else .stage (.stitchMask k { height := height, lines := maskLines 0 height (s.hbmRead src (height * 8)) })

/-- GEOM.SWATH (R114). -/
def geomSwathBody (rq : Request) (s : State) : Verdict :=
  let p := rq.payload
  let b := fld p 0 1
  let r := barRec (s.view rq.mbx.val) b
  checked [(decide (b < 16), 0)] <|
    if !r.scanning then refuseObj Rc.notScanning Cls.bar b
    else checked [(decide (fld p 1 1 < r.passCount), 1)]
      (.stage (.swath b { passIndex := fld p 1 1, offset := fld p 4 4 }))

/-- The COVERAGE result before any run (R119). -/
def coverageReset : List Nat := [0, 0, 0xFFFFFFFF, 0xFFFFFFFF, 0]

/-- GEOM.GET (R120). -/
def geomGetBody (rq : Request) (s : State) : Verdict :=
  let p := rq.payload
  let id := fld p 2 2
  let cfg := s.readCfg rq
  checked [(decide (fld p 0 1 < 6), 0), (fld p 0 1 != 1 || decide (fld p 1 1 < 8), 1),
           (decide (id < match fld p 0 1 with | 0 => 256 | 1 => 256 | 3 => 512 | _ => 16), 2)] <|
    .done s (match fld p 0 1 with
      | 0 => headBytes id (headRec cfg id)
      | 1 => rowBytes id (fld p 1 1) (rowRec cfg id (fld p 1 1))
      | 2 => barBytes id (barRec cfg id)
      | 3 => stitchBytes id (cfg.stitches.get {} id)
      | 4 => swathBytes id (cfg.swaths.get {} id)
      | _ => (s.coverage.get coverageReset id).flatMap (le 4))

/-! ## Coverage (R121) -/

/-- How many nozzles of a bar select a column on a line residue modulo 8 (R121). -/
def coverCount (cfg : Cfg) (b x k : Nat) : Nat :=
  ((cfg.headsOf b).map (fun h => ((headNozzles cfg h.1).filter (fun n => nmapColumn n.2.2 == x
    && stateSelected (nmapState n.2.2) && rowAdmits cfg h.1 n.2.1 k)).length)).sum

/-- The cells of a bar's pass mask at or above pass_count (R121). -/
def neverPrinted (cfg : Cfg) (b : Nat) : Nat :=
  let r := barRec cfg b
  if r.scanning then
    let mk := cfg.passMasks.get {} r.passMask
    ((List.range 32768).map (fun i =>
      let v := (mk.bytes.get 0 i).toNat
      b2n (decide (r.passCount ≤ v % 16)) + b2n (decide (r.passCount ≤ v / 16)))).sum
  else 0

/-- The result of GEOM.COVERAGE on the bar in force (R121). -/
def coverageOf (cfg : Cfg) (b : Nat) : List Nat :=
  let cols := List.range (barRec cfg b).rasterWidth
  let un := cols.filter (fun x => (List.range 8).any (fun k => coverCount cfg b x k == 0))
  let db := cols.filter (fun x => (stitchAt cfg b x).isNone
    && (List.range 8).any (fun k => decide (2 ≤ coverCount cfg b x k)))
  [un.length, db.length, un.headD 0xFFFFFFFF, db.headD 0xFFFFFFFF, neverPrinted cfg b]

/-- GEOM.COVERAGE (R121): the result describes the configuration at the start of the command. -/
def geomCoverageBody (rq : Request) (s : State) : Verdict :=
  let b := fld rq.payload 0 1
  checked [(decide (b < 16), 0)] <|
    .accept { s with coverRuns := s.coverRuns ++
      [((s.waiterOf rq 0x020A), b, coverageOf s.inForce b)] }

/-- COVERAGE_DONE (R121): the oldest run stores its result and posts COMMAND_DONE. -/
def coverageDone (s : State) : State :=
  match s.coverRuns with
  | [] => s
  | (w, b, r) :: rest =>
    { s with coverRuns := rest, coverage := s.coverage.set b r }.commandDone w 0 0 0

end Sys2Proof.Machine
end

