-- ==== Sys2Proof/Machine/Axis.lean ====
section
/-!
DEFINITION. Position axes and echo outputs: filtering, counting, index checks and presets, speed
windows and motion (R123–R138), SSI frames (R139–R143), faults (R144), bar positions (R145, R146),
echo outputs (R147–R150) and the AXIS commands (R155).
-/

namespace Sys2Proof.Machine

open Sys2Proof

/-- The configuration of an axis. -/
def axisRec (cfg : Cfg) (n : Nat) : AxisRec := cfg.axes.get {} n
/-- The configuration of an echo output. -/
def echoRec (cfg : Cfg) (k : Nat) : EchoRec := cfg.echoes.get {} k

/-- The codes of AXIS.READ motion (R155). -/
def motionCode : Motion → Nat
  | .stopped => 0
  | .settling => 1
  | .forward => 2
  | .reverse => 3
  | .faulted => 4
  | .disabled => 5

/-- An axis is in use while an enabled bar names it (R153). -/
def State.axisInUse (s : State) (n : Nat) : Bool :=
  (List.range 16).any (fun b => s.barEnabled b
    && ((barRec s.inForce b).axisA == n || (barRec s.inForce b).axisB == n))

/-! ## Bar position synthesis (R145, R146) -/

/-- The position of a bar from the positions of its axes (R145). -/
def barPosition (r : BarRec) (pa pb : Pos48) : Pos48 :=
  pa + BitVec.ofInt 48 ((r.blendW : Int) * ahead48 pa pb / 65536) - r.origin

/-- The contributing axes of a bar (R146). -/
def contributing (r : BarRec) : List Nat := if r.blendW = 0 || r.axisA == r.axisB then [r.axisA] else [r.axisA, r.axisB]

/-- The motion of a bar from the motions of its contributing axes (R146). -/
def motionOf (ms : List Motion) : Motion :=
  if ms.contains .disabled then .disabled
  else if ms.contains .faulted then .faulted
  else if ms.contains .stopped then .stopped
  else if ms.all (· == .forward) then .forward
  else if ms.all (· == .reverse) then .reverse
  else .settling

/-- The motion of bar `b` (R146). -/
def State.barMotion (s : State) (b : Nat) : Motion :=
  motionOf ((contributing (barRec s.inForce b)).map (fun n => (s.axis n).motion))

/-! ## The units of a pair (R124, R332) -/

/-- This unit is unit P of a pair that runs. -/
def State.leadsPair (s : State) : Bool :=
  !s.pair.unitS && (s.pair.state == .paired || s.pair.state == .syncing)

/-- This unit is unit S and takes its inputs from unit P (R332). -/
def State.follows (s : State) : Bool :=
  s.pair.unitS && !s.pair.promoted && (s.pair.state == .paired || s.pair.state == .syncing) && !s.pair.fallback

/-- Unit S of a pair, which follows its twin's commits also in input fallback (R332, R335). -/
def State.mirrors (s : State) : Bool :=
  s.pair.unitS && !s.pair.promoted && (s.pair.state == .paired || s.pair.state == .syncing)

/-- A unit whose balls for echo, TRIGOUT and SSI clock are high-impedance: an unpromoted unit S
(R124, R150, R179). -/
def State.pinsHeld (s : State) : Bool := s.pair.unitS && !s.pair.promoted

/-- Unit P sends a motion state that an axis has entered other than by an edge (R332).
DEDUCED, log entry 94. -/
def State.noteMotion (n : Nat) (s : State) : State :=
  if s.leadsPair then
    { s with pair := { s.pair with motions := s.pair.motions ++ [(s.tick, n, motionCode (s.axis n).motion)] } }
  else s

/-- A counted position as Q32.16 (R145). -/
def countedPos (a : Axis) : Pos48 := BitVec.ofNat 48 (a.counter.toNat * 65536)

/-! ## Events of an axis (R133, R156) -/

/-- AXIS_WRAP with the current position and wrap count. -/
def axisWrapBody (n : Nat) (a : Axis) : EventBody :=
  ev Ev.axisWrap Cls.axis n 0 (a.counter.toNat + 2 ^ 32 * a.wraps.toNat)

/-- AXIS_MOTION with the current motion and the speed of the last window. -/
def axisMotionBody (n : Nat) (a : Axis) : EventBody :=
  ev Ev.axisMotion Cls.axis n 0 (motionCode a.motion + 256 * (BitVec.ofInt 32 a.speed).toNat)

/-- AXIS_MOTION is posted, rate limited (R133, R135). -/
def State.postMotion (n : Nat) (s : State) : State :=
  s.postLimited ⟨Ev.axisMotion, n, 0⟩ (axisMotionBody n (s.axis n))

/-- The axis enters FAULTED (R144).  A unit S that follows its twin keeps the twin's motion state (R332).
DEDUCED, log entry 94. -/
def State.faultAxis (n : Nat) (reason : Reason) (count : Nat) (s : State) : State :=
  let a := s.axis n
  if a.motion == .faulted || a.motion == .disabled || (s.follows && a.faultReason != 0) then s
  else
    let s := s.logOpen { origin := .fwAuto, cls := Cls.axis, obj := n, reason := reason }
    let s := (s.setAxis n { a with motion := if s.follows then a.motion else .faulted, faultReason := reason }).noteMotion n
    s.post (ev Ev.axisFault Cls.axis n reason count)

/-! ## Echo outputs (R148, R149) -/

/-- One counted edge divided (R148). DEDUCED, log entry 60. -/
def echoEdge (r : EchoRec) (forward : Bool) (e : Echo) : Echo :=
  if forward then
    let acc := e.acc + r.ratioM
    if r.ratioN ≤ acc then { e with acc := acc - r.ratioN, pending := e.pending + 1 } else { e with acc := acc }
  else if e.acc < r.ratioM then { e with acc := e.acc + r.ratioN - r.ratioM, pending := e.pending - 1 }
  else { e with acc := e.acc - r.ratioM }

/-- An echo output takes one counted edge: past 65,535 pending steps it stops (R149). -/
def State.echoCount (k : Nat) (forward : Bool) (s : State) : State :=
  let r := echoRec s.inForce k
  let e := s.echo k
  if !r.enable || e.stopped then s
  else
    let e' := echoEdge r forward e
    let e' := if e.pending = 0 then { e' with since := s.tick } else e'
    if 65535 < e'.pending.natAbs then
      (s.setEcho k { e with stopped := true }).post
        (ev Ev.echoOverrun Cls.echoOutput k Rc.echoQueueFull r.source)
    else s.setEcho k e'

/-- `n` counted edges of an axis reach the echo outputs that regenerate it (R148). -/
def State.echoEdges (axis : Nat) (forward : Bool) : Nat → State → State
  | 0, s => s
  | n + 1, s =>
    State.echoEdges axis forward n ((List.range 4).foldl (fun s k =>
      if (echoRec s.inForce k).source == axis then s.echoCount k forward else s) s)

/-- The pins of an echo state, in the order 00, 10, 11, 01 (R128, R148). -/
def echoPins (e : Fin 4) : Bool × Bool :=
  match e with
  | 0 => (false, false)
  | 1 => (true, false)
  | 2 => (true, true)
  | _ => (false, true)

/-- ECHO_STEP: one pending step once the spacing allows, while TIME runs (R149, R151).
DEDUCED, log entry 60. -/
def echoStep (k : Nat) (s : State) : State :=
  let r := echoRec s.inForce k
  let e := s.echo k
  if s.axesRun && r.enable && !e.stopped && e.pending != 0
      && decide (max (e.lastStep + r.minEdge) (e.since + 3) ≤ s.tick) then
    let st : Fin 4 := if 0 < e.pending then e.state + 1 else e.state - 1
    let s := s.setEcho k { e with
      state := st, lastStep := s.tick, pending := if 0 < e.pending then e.pending - 1 else e.pending + 1 }
    if s.pinsHeld then s else s.emit (.echo k (echoPins st).1 (echoPins st).2)
  else s

/-! ## Counting (R128–R136) -/

/-- The counter moves by a delta: its value and its wraps (R131). -/
def countBy (a : Axis) (delta : Int) : Axis :=
  let v := (a.counter.toNat : Int) + delta
  { a with
    counter := BitVec.ofInt 32 v
    wraps := if v < 0 then a.wraps - 1 else if (2 ^ 32 : Int) ≤ v then a.wraps + 1 else a.wraps }

/-- The motion of an axis after a counted edge (R135); a new run starts the entries that the fire
scheduler may use (R164). -/
def motionEdge (a : Axis) (positive : Bool) : Axis :=
  match a.motion with
  | .stopped => { a with motion := .settling, runPositive := positive, fresh := 1 }
  | .settling =>
    if positive == a.runPositive then
      { a with motion := if positive then .forward else .reverse, fresh := a.fresh + 1 }
    else { a with runPositive := positive, fresh := a.fresh + 1 }
  | .forward =>
    if positive then { a with fresh := a.fresh + 1 }
    else { a with motion := .settling, runPositive := false, fresh := 1 }
  | .reverse =>
    if positive then { a with motion := .settling, runPositive := true, fresh := 1 }
    else { a with fresh := a.fresh + 1 }
  | .faulted => a
  | .disabled => a

/-- The speed of a completed window (R134). -/
def windowSpeed (net : Int) (us : Nat) : Int := (net * 1000000).tdiv us

/-- A count enters the current window; that of an SSI frame enters the window in which it was latched, which
may have completed meanwhile (R134). DEDUCED, log entry 59. -/
def windowCount (ssi : Bool) (delta : Int) (ts : Nat) (a : Axis) : Axis :=
  if ssi && decide (ts + a.windowLen * 400 < a.windowEnd) then
    if a.doneLen = 0 || decide (ts + (a.windowLen + a.doneLen) * 400 < a.windowEnd) then a
    else { a with doneNet := a.doneNet + delta, speed := windowSpeed (a.doneNet + delta) a.doneLen }
  else if a.windowWhole then { a with windowNet := a.windowNet + delta, windowEdges := a.windowEdges + 1 }
  else a

/-- A counted edge, or an SSI frame with non-zero delta, with its timestamp (R128, R131, R134–R136). -/
def State.countEdge (n : Nat) (delta : Int) (ts : Nat) (s : State) : State :=
  let a := s.axis n
  let positive := decide (0 < delta)
  let c := countBy a delta
  let c := { c with
    reverse := !positive, lastEdge := ts
    history := ((⟨ts, delta, c.counter⟩ : Edge) :: a.history).take 16 }
  let c := windowCount (axisRec s.inForce n).ssi delta ts c
  let c := motionEdge { c with emptyWindows := 0 } positive
  let s := s.setAxis n c
  let s := if c.wraps != a.wraps then s.postLimited ⟨Ev.axisWrap, n, 0⟩ (axisWrapBody n c) else s
  let s := if c.motion != a.motion && (c.motion == .forward || c.motion == .reverse) then s.postMotion n else s
  s.echoEdges n positive delta.natAbs

/-- The filter of R125 over raw samples, newest first: the filtered level after sample t. -/
def filtered (k : Nat) (level : Bool) (raw : List Bool) : Bool :=
  if decide (k < raw.length) && (raw.take (k + 1)).all (· != level) then !level else level

/-- The change of the counter of R128, before `invert`: none where both inputs change. -/
def quadDelta (a0 b0 a1 b1 : Bool) : Option Int :=
  if a0 != a1 && b0 != b1 then none
  else if a0 == a1 && b0 == b1 then some 0
  else if a0 != a1 then some (if a1 != b0 then 1 else -1)
  else some (if b1 == a0 then 1 else -1)

/-- An illegal edge (R129): the interval before the first window boundary is no window (R134). -/
def State.illegalEdge (n : Nat) (s : State) : State :=
  let r := axisRec s.inForce n
  let a := s.axis n
  let w := if a.windowWhole then a.windowIllegal + 1 else 0
  let s := s.setAxis n { a with illegal := a.illegal + 1, windowIllegal := w }
  if r.illegalLimit != 0 && decide (r.illegalLimit ≤ w) then s.faultAxis n Rc.illegalEdgeLimit w else s

/-- What an axis has recorded, as an element of the input stream (R332). -/
def State.recorded (s : State) (n ts : Nat) (delta : Int) : StreamEdge :=
  { axis := n, tick := ts, counter := (s.axis n).counter, delta := delta }

/-- QUADRATURE_EDGE: the samples of A and B up to this tick, newest first.  The result gives the counted
edge, upon which the fire scheduler evaluates the bars of the axis (R163). -/
def quadratureEdge (n : Nat) (rawA rawB : List Bool) (s : State) : State × Option StreamEdge :=
  let r := axisRec s.inForce n
  let a := s.axis n
  if !s.axesRun || r.ssi || a.motion == .disabled then (s, none)
  else
    let la := filtered r.filterDepth a.levelA rawA
    let lb := filtered r.filterDepth a.levelB rawB
    let s1 := s.setAxis n { a with levelA := la, levelB := lb }
    match quadDelta a.levelA a.levelB la lb with
    | none => (s1.illegalEdge n, none)
    | some 0 => (s1, none)
    | some d =>
      let d := if r.invert then -d else d
      let s := s1.countEdge n d (s.tick - r.filterDepth)
      (s, some (s.recorded n (s.tick - r.filterDepth) d))

/-! ## Index and presets (R130, R137, R138) -/

/-- The expected index distance of R137 and whether the check passes. -/
def indexCheck (r : AxisRec) (prevReverse nowReverse : Bool) (d : Int) : Int × Bool :=
  let l : Int := 4 * r.indexLines
  let e : Int := if prevReverse != nowReverse then 0 else if nowReverse then -l else l
  (e, decide (e - r.indexTolerance ≤ d) && decide (d ≤ e + r.indexTolerance))

/-- The counter of an axis is preset (R131, R138). DEDUCED, log entry 58. -/
def presetAxis (a : Axis) (v : Word) : Axis :=
  { a with counter := v, wraps := 0, referenced := true, preset := none, prevIndex := none }

/-- The origin of an armed preset (R138). -/
def presetOrigin : Option Nat → Origin
  | some n => .mbx n
  | none => .peer

/-- AXIS_PRESET_DONE with its log entry (R138). -/
def State.presetDone (n : Nat) (v : Word) (reason : Reason) (o : Origin) (s : State) : State :=
  (s.logOpen { origin := o, cls := Cls.axis, obj := n, reason := reason }).post
    (ev Ev.axisPresetDone Cls.axis n reason v.toNat)

/-- INDEX_EVENT: the samples of Z up to this tick, newest first (R130). -/
def indexEvent (n : Nat) (rawZ : List Bool) (s : State) : State :=
  let r := axisRec s.inForce n
  let a := s.axis n
  if !s.axesRun || r.ssi || a.motion == .disabled then s
  else
    let lz := filtered r.filterDepth a.levelZ rawZ
    let s := s.setAxis n { a with levelZ := lz }
    if lz == a.levelZ || lz == a.reverse then s
    else match a.preset with
      | some (v, o) =>
        let c := presetAxis { a with levelZ := lz } v
        (s.setAxis n { c with lastIndex := v, indexSeen := true, prevIndex := some (v, a.reverse) }).presetDone
          n v 0 (presetOrigin o)
      | none =>
        let c := { a with
          levelZ := lz, lastIndex := a.counter, indexSeen := true, prevIndex := some (a.counter, a.reverse) }
        match a.prevIndex with
        | some (p, pr) =>
          let d := ahead32 p a.counter
          let e := indexCheck r pr a.reverse d
          if r.indexCheck && !e.2 then
            (s.setAxis n { c with indexMismatch := true, mismatches := a.mismatches + 1 }).postLimited
              ⟨Ev.axisIndexMismatch, n, 0⟩
              (ev Ev.axisIndexMismatch Cls.axis n 0
                ((BitVec.ofInt 32 d).toNat + 2 ^ 32 * (BitVec.ofInt 32 e.1).toNat))
          else s.setAxis n c
        | none => s.setAxis n c

/-- An armed preset is disarmed and reported (R138). -/
def State.cancelPreset (n : Nat) (o : Origin) (s : State) : State :=
  let a := s.axis n
  match a.preset with
  | none => s
  | some (v, _) => (s.setAxis n { a with preset := none }).presetDone n v Rc.presetCancelled o

/-! ## Speed windows (R134, R135) -/

/-- The next multiple of a window length after a tick (R134). -/
def nextBoundary (us tick : Nat) : Nat := (tick / (us * 400) + 1) * (us * 400)

/-- Windows of a new length begin at its next multiple: the time up to there is no window (R134). -/
def newWindows (us tick : Nat) (a : Axis) : Axis :=
  { a with
    windowLen := us, windowEnd := nextBoundary us tick, windowWhole := false
    windowNet := 0, windowEdges := 0, windowIllegal := 0, doneLen := 0, doneNet := 0 }

/-- An axis starts its windows afresh: when enabled, or on return to READY (R134, R151).
DEDUCED, log entry 59. -/
def startWindows (us tick : Nat) (a : Axis) : Axis :=
  { newWindows us tick a with speed := 0, emptyWindows := 0 }

/-- SPEED_WINDOW_END (R134, R135).  A unit S that follows its twin keeps the twin's motion state (R332).
DEDUCED, log entries 59, 94. -/
def speedWindowEnd (n : Nat) (s : State) : State :=
  let a := s.axis n
  if !s.axesRun || a.motion == .disabled || decide (s.tick < a.windowEnd) then s
  else
    let r := axisRec s.inForce n
    let a := if a.windowWhole then
        { a with
          speed := windowSpeed a.windowNet a.windowLen, doneLen := a.windowLen, doneNet := a.windowNet
          emptyWindows := if a.windowEdges == 0 then a.emptyWindows + 1 else 0 }
      else a
    let stops := decide (2 ≤ a.emptyWindows) && a.motion != .faulted && a.motion != .stopped && !s.follows
    let s := s.setAxis n { a with
      windowNet := 0, windowEdges := 0, windowIllegal := 0, windowWhole := true, windowLen := r.speedWindow
      windowEnd := a.windowEnd + r.speedWindow * 400
      motion := if stops then .stopped else a.motion }
    if stops then (s.noteMotion n).postMotion n else s

/-- An axis of TIME starts again on return to READY: a QUADRATURE axis unreferenced and in STOPPED
(R134, R151); its filtered levels stand. DEDUCED, log entry 59; DESIGN CHOICE, log entry 163. -/
def State.restartAxis (s : State) (n : Nat) : State :=
  let a := s.axis n
  let r := axisRec s.inForce n
  let w := startWindows r.speedWindow s.tick a
  if a.motion == .disabled then s
  else if r.ssi then s.setAxis n { w with ssiPhase := .idle }
  else
    let s := s.setAxis n { w with motion := .stopped, referenced := false, faultReason := 0, fresh := 0 }
    if a.motion == .stopped then s else s.postMotion n

/-- The axes of TIME start again. DEDUCED, log entry 59. -/
def State.axesRestart (s : State) : State := (List.range 8).foldl State.restartAxis s

/-! ## SSI frames (R139–R143) -/

/-- The bits of a frame (R139). -/
def ssiBitsTotal (r : AxisRec) : Nat := r.ssiBits + r.ssiStatusBits + r.ssiCrcBits

/-- Bits, most significant first, as a number. DEDUCED, log entry 56. -/
def ofBits (bs : List Bool) : Nat := bs.foldl (fun v b => 2 * v + b2n b) 0

/-- A Gray-coded field, most significant first, as binary bits (R140). -/
def grayDecode : Bool → List Bool → List Bool
  | _, [] => []
  | p, b :: bs => (p != b) :: grayDecode (p != b) bs

/-- The CRC of R140 over bits in the order sent. -/
def ssiCrc (r : AxisRec) (bs : List Bool) : Nat :=
  let top := 2 ^ (r.ssiCrcBits - 1)
  bs.foldl (fun c b =>
    let fb := bit c (r.ssiCrcBits - 1) != b
    let c := c % top * 2
    if fb then Nat.xor c (r.ssiCrcPoly % (2 * top)) else c) (r.ssiCrcInit % (2 * top))

/-- The value of the position word (R140). DEDUCED, log entries 56, 57. -/
def ssiValue (r : AxisRec) (bs : List Bool) : Nat :=
  let multi := bs.take r.ssiMulti
  let single := (bs.take r.ssiBits).drop r.ssiMulti
  let multi := if r.ssiGray then grayDecode false multi else multi
  let single := if r.ssiGray then grayDecode false single else single
  ofBits multi * 2 ^ (r.ssiBits - r.ssiMulti) + ofBits single

/-- The first falling clock edge of a frame latches the encoder's position, and its clock runs on the ball
that this unit drives (R124, R139, R143). -/
def State.ssiLatch (n : Nat) (s : State) : State :=
  let r := axisRec s.inForce n
  let a := s.axis n
  let s := s.setAxis n { a with ssiPhase := .shifting s.tick, lastEdge := if s.follows then a.lastEdge else s.tick }
  if s.pinsHeld then s else s.emit (.ssiClock n s.tick r.ssiHalf (ssiBitsTotal r))

/-- SSI_FRAME_START: at a multiple of the frame period, past the recovery time (R139, R151). -/
def ssiFrameStart (n : Nat) (dataHigh : Bool) (s : State) : State :=
  let r := axisRec s.inForce n
  let a := s.axis n
  if s.axesRun && r.ssi && a.motion != .disabled && a.ssiPhase == .idle && s.tick % r.ssiFrame == 0
      && decide (a.ssiReady ≤ s.tick) then
    if dataHigh then s.ssiLatch n else s.setAxis n { a with ssiPhase := .waiting s.tick }
  else s

/-- SSI_DATA_HIGH: the wait ends and the frame's first falling clock edge latches (R139). -/
def ssiDataHigh (n : Nat) (s : State) : State :=
  let r := axisRec s.inForce n
  match (s.axis n).ssiPhase with
  | .waiting start => if s.axesRun && decide (s.tick < start + r.ssiTimeout * 400) then s.ssiLatch n else s
  | _ => s

/-- A failed frame (R141). -/
def State.ssiFail (n kind : Nat) (s : State) : State :=
  let r := axisRec s.inForce n
  let a := s.axis n
  let c := a.ssiConsec + 1
  let s := s.setAxis n { a with ssiErrors := a.ssiErrors + 1, ssiLastError := kind, ssiConsec := c }
  if decide (r.ssiErrLimit ≤ c) then s.faultAxis n Rc.ssiFrameErrors c else s

/-- The first condition of R141 that fails a shifted frame. -/
def ssiDefect (r : AxisRec) (prev : Option Nat) (bits : List Bool) (endLow : Bool) : Option Nat :=
  let word := bits.take (r.ssiBits + r.ssiStatusBits)
  let status := ofBits ((bits.drop r.ssiBits).take r.ssiStatusBits)
  let crc := ofBits (bits.drop (r.ssiBits + r.ssiStatusBits))
  let crc := if r.ssiCrcInvert then 2 ^ r.ssiCrcBits - 1 - crc else crc
  let jump := match prev with
    | none => false
    | some p => decide (r.ssiMaxStep < (ahead r.ssiBits p (ssiValue r bits)).natAbs)
  if !endLow then some 2
  else if r.ssiCrcBits != 0 && crc != ssiCrc r word then some 3
  else if (List.range r.ssiStatusBits).any (fun i => bit r.ssiStatusErr i && bit status i) then some 4
  else if jump then some 5
  else none

/-- SSI_FRAME_END (R141, R142).  The result gives the good frame; a delta of 0 counts nothing.
DEDUCED, log entry 57. -/
def ssiFrameEnd (n : Nat) (bits : List Bool) (endLow : Bool) (s : State) : State × Option StreamEdge :=
  let r := axisRec s.inForce n
  let a := s.axis n
  match a.ssiPhase with
  | .idle => (s, none)
  | .waiting start =>
    if !s.axesRun || decide (s.tick < start + r.ssiTimeout * 400) then (s, none)
    else ((s.setAxis n { a with ssiPhase := .idle }).ssiFail n 1, none)
  | .shifting latch =>
    let nf := ssiBitsTotal r
    if !s.axesRun || decide (s.tick < latch + 2 * r.ssiHalf * (nf + 1) + r.ssiSample) || bits.length != nf then (s, none)
    else
      let a := { a with
        ssiPhase := .idle, ssiReady := latch + 2 * r.ssiHalf * (nf + 1) + r.ssiRecovery
        ssiRaw := BitVec.ofNat 64 (ofBits bits) }
      let s := s.setAxis n a
      match ssiDefect r a.ssiPrev bits endLow with
      | some kind => (s.ssiFail n kind, none)
      | none =>
        let v := ssiValue r bits
        let a := { a with ssiConsec := 0 }
        if a.motion == .faulted then (s.setAxis n a, none)
        else match a.ssiPrev with
          | none =>
            let s := s.setAxis n { a with counter := BitVec.ofNat 32 v, wraps := 0, referenced := true, ssiPrev := some v }
            (s, some (s.recorded n latch 0))
          | some p =>
            let d := ahead r.ssiBits p v
            let s := s.setAxis n { a with ssiPrev := some v }
            let s := if d = 0 then s else s.countEdge n d latch
            (s, some (s.recorded n latch d))

/-! ## The AXIS commands (R155) -/

/-- A change of input, invert or an ssi_ field (R153), those that a QUADRATURE axis ignores among them.
DESIGN CHOICE, log entry 163. -/
def axisLockedChange (o n : AxisRec) : Bool :=
  { o with filterDepth := 0, speedWindow := 0, illegalLimit := 0, indexCheck := false, indexLines := 0, indexTolerance := 0 }
    != { n with filterDepth := 0, speedWindow := 0, illegalLimit := 0, indexCheck := false, indexLines := 0, indexTolerance := 0 }

/-- The SSI frame fits (R139). -/
def ssiTimingOk (r : AxisRec) : Bool :=
  !r.ssi || (decide (ssiBitsTotal r ≤ 58) && decide (r.ssiSample < 2 * r.ssiHalf)
    && decide (2 * r.ssiHalf * (ssiBitsTotal r + 1) + r.ssiRecovery ≤ r.ssiFrame))

/-- AXIS.CONFIG (R139, R153). -/
def axisConfigBody (rq : Request) (s : State) : Verdict :=
  let p := rq.payload
  checked (axisFields p) <|
    let n := fld p 0 1
    let r := axisOf p
    if !ssiTimingOk r then refuseObj Rc.ssiTiming Cls.axis n
    else if s.axisInUse n && axisLockedChange (axisRec s.inForce n) r then refuseObj Rc.axisFieldLocked Cls.axis n
    else .stage (.axis n r)

/-- AXIS.ENABLE (R153). -/
def axisEnableBody (rq : Request) (s : State) : Verdict :=
  let p := rq.payload
  let n := fld p 0 1
  checked [(decide (n < 8), 0), (decide (fld p 1 1 < 2), 1)] <|
    if fld p 1 1 == 0 && s.axisInUse n then refuseObj Rc.axisInUse Cls.axis n
    else .stage (.axisEnable n (fld p 1 1 == 1))

/-- AXIS.READ (R155). -/
def axisReadBody (rq : Request) (s : State) : Verdict :=
  let n := fld rq.payload 0 1
  checked [(decide (n < 8), 0)] <|
    let a := s.axis n
    .done s (le 4 a.counter.toNat ++ le 4 a.wraps.toNat ++ leInt 4 a.speed ++ le 1 (motionCode a.motion)
      ++ le 1 (b2n a.reverse + 2 * b2n a.referenced + 4 * b2n a.indexSeen + 8 * b2n a.indexMismatch
        + 16 * b2n a.preset.isSome + 32 * b2n a.configured)
      ++ le 1 a.ssiLastError ++ zeros 1 ++ le 2 (if a.motion == .faulted then a.faultReason.toNat else 0) ++ zeros 2 ++ le 4 a.lastIndex.toNat
      ++ le 8 a.lastEdge ++ le 4 a.illegal.toNat ++ le 4 a.mismatches.toNat ++ le 4 a.ssiErrors.toNat ++ zeros 4
      ++ le 8 (if (axisRec s.inForce n).ssi then a.ssiRaw.toNat else 0))

/-- AXIS.PRESET (R138).  NOW leaves an armed load armed; AT_INDEX replaces it and reports nothing.
DEDUCED, log entry 58; DESIGN CHOICE, log entry 163. -/
def axisPresetBody (rq : Request) (s : State) : Verdict :=
  let p := rq.payload
  let n := fld p 0 1
  let mode := fld p 1 1
  let v := BitVec.ofNat 32 (fld p 4 4)
  let paired := s.pair.state == .paired || s.pair.state == .syncing
  checked [(decide (n < 8), 0), (decide (mode < 3), 1)] <|
    if s.axisInUse n then refuseObj Rc.axisInUse Cls.axis n
    else if (axisRec s.inForce n).ssi then refuseObj Rc.inputMismatch Cls.axis n
    else if mode == 0 && s.pair.state == .paired then refuseObj Rc.presetNeedsIndex Cls.axis n
    else if mode == 0 then
      .done ((s.setAxis n { presetAxis (s.axis n) v with preset := (s.axis n).preset }).logOpen { origin := .mbx rq.mbx.val, cls := Cls.axis, obj := n }) []
    else if mode == 1 then
      let s := s.setAxis n { s.axis n with preset := some (v, some rq.mbx.val) }
      .done (if paired then s.emit (.control (.preset n (some v))) else s) []
    else
      let s := s.cancelPreset n (.mbx rq.mbx.val)
      .done (if paired then s.emit (.control (.preset n none)) else s) []

/-- AXIS.CLEAR (R137, R144, R155).  A unit S that follows its twin keeps the twin's motion state (R332).
DEDUCED, log entry 94. -/
def axisClearBody (rq : Request) (s : State) : Verdict :=
  let p := rq.payload
  let n := fld p 0 1
  let what := fld p 1 1
  checked [(decide (n < 8), 0), (decide (1 ≤ what ∧ what ≤ 3), 1)] <|
    let a := { s.axis n with prevIndex := none }
    let a := if bit what 0 then { a with illegal := 0, mismatches := 0, ssiErrors := 0, indexMismatch := false } else a
    if !bit what 1 then .done (s.setAxis n a) []
    else
      let s := s.logOpen { origin := .mbx rq.mbx.val, cls := Cls.axis, obj := n }
      let cleared := { a with
        referenced := false, faultReason := 0, ssiPrev := none, ssiConsec := 0, emptyWindows := 0, fresh := 0 }
      if s.follows && (a.motion == .faulted || a.faultReason != 0) then .done (s.setAxis n cleared) []
      else if a.motion == .faulted then
        .done (((s.setAxis n { cleared with motion := .stopped }).noteMotion n).postMotion n) []
      else .done (s.setAxis n a) []

/-- AXIS.ECHO_SET (R147). -/
def axisEchoSetBody (rq : Request) (_s : State) : Verdict :=
  let p := rq.payload
  checked (echoFields p) <|
    let r := echoOf p
    if r.ratioN < r.ratioM then refuseObj Rc.echoRatio Cls.echoOutput (fld p 0 1)
    else .stage (.echo (fld p 0 1) r)

/-- AXIS.WAKE_SET (R152). -/
def axisWakeSetBody (rq : Request) (s : State) : Verdict :=
  let p := rq.payload
  checked (wakeFields p) <|
    let r := wakeOf p
    match (List.range 8).find? (fun n => r.mask.getLsbD n && (axisRec (s.view rq.mbx.val) n).ssi) with
    | some n => refuseObj Rc.inputMismatch Cls.axis n
    | none => .stage (.wake r)

/-- AXIS.BAR_POSITION (R145, R146). -/
def axisBarPositionBody (rq : Request) (s : State) : Verdict :=
  let b := fld rq.payload 0 1
  checked [(decide (b < 16), 0)] <|
    let r := barRec s.inForce b
    .done s (le 6 (barPosition r (countedPos (s.axis r.axisA)) (countedPos (s.axis r.axisB))).toNat ++ zeros 2
      ++ le 1 (motionCode (s.barMotion b)) ++ zeros 3)

/-- AXIS.GET (R155). -/
def axisGetBody (rq : Request) (s : State) : Verdict :=
  let p := rq.payload
  let id := fld p 1 1
  let cfg := s.readCfg rq
  checked [(decide (fld p 0 1 < 3), 0), (decide (id < match fld p 0 1 with | 0 => 8 | 1 => 4 | _ => 1), 1)] <|
    .done s (match fld p 0 1 with
      | 0 => axisBytes id (axisRec cfg id)
      | 1 => echoBytes id (echoRec cfg id)
      | _ => wakeBytes cfg.wake)

end Sys2Proof.Machine
end

