-- ==== Sys2Proof/Machine/Trig.lean ====
section
/-!
DEFINITION. Trigger generators: run tables (R160–R162), counters and TRIG_DROP (R168, R183), and the
TRIG commands (R182).
-/

namespace Sys2Proof.Machine

open Sys2Proof

/-- The configuration of a generator. -/
def trigRec (cfg : Cfg) (g : Nat) : TrigRec := cfg.trigs.get (TrigRec.reset g) g
/-- An entry of a generator's run table. -/
def runRec (cfg : Cfg) (g n : Nat) : RunEntry := cfg.runs.get {} (g * 1024 + n)
/-- The configuration of a TRIGOUT output. -/
def trigoutRec (cfg : Cfg) (k : Nat) : TrigoutRec := cfg.trigouts.get {} k

/-- A generator counts as enabled from the acceptance of its enable until its disable applies (R101). -/
def State.tgEnabled (s : State) (g : Nat) : Bool := s.inForce.tgEn.get false g || s.accepted.tgEn.get false g

/-- Hits are evaluated in ARMED, PRINTING and PAUSED (R160). -/
def State.evaluates (s : State) : Bool := s.sys.armedState

/-! ## Drops (R168, R183) -/

/-- TRIG_DROP with the counter of its reason. -/
def trigDropBody (g : Nat) (reason : Reason) (count : Word) (line : Word) : EventBody :=
  ev Ev.trigDrop Cls.triggerGenerator g reason (count.toNat + 2 ^ 32 * line.toNat)

/-- The counter of a reason of TRIG_DROP (R183). -/
def dropCount (t : Trig) (reason : Reason) : Word :=
  if reason = Rc.overspeed then t.overspeed
  else if reason = Rc.missed then t.missed
  else if reason = Rc.engineLate then t.engineLate
  else if reason = Rc.dryHold then t.dryDropped
  else if reason = Rc.lateFire then t.late
  else t.holdLate

/-- A drop counts and posts TRIG_DROP, rate limited for its generator and reason (R183). -/
def State.countDrop (g : Nat) (reason : Reason) (line : Word) (s : State) : State :=
  let t := s.trig g
  let t :=
    if reason = Rc.overspeed then { t with overspeed := t.overspeed + 1 }
    else if reason = Rc.missed then { t with missed := t.missed + 1 }
    else if reason = Rc.engineLate then { t with engineLate := t.engineLate + 1 }
    else if reason = Rc.dryHold then { t with dryDropped := t.dryDropped + 1 }
    else if reason = Rc.lateFire then { t with late := t.late + 1 }
    else { t with holdLate := t.holdLate + 1 }
  (s.setTrig g t).postLimited ⟨Ev.trigDrop, g, reason.toNat⟩ (trigDropBody g reason (dropCount t reason) line)

/-! ## Walking the run table (R162) -/

/-- `load(n)` of R162. -/
def State.loadRun (g n : Nat) (s : State) : State :=
  let r := runRec s.inForce g n
  let t := s.trig g
  let t := { t with
    entry := n, cur := r, remaining := r.count, state := .running
    cmp := if r.continue_ then t.cmp else r.start }
  if r.spit then s.setTrig g t
  else if t.haveLast && decide (ahead32 t.lastLi r.base ≤ 0) then
    let li := t.lastLi + 1
    (s.setTrig g { t with li := li, indexAdjusted := t.indexAdjusted + 1 }).post
      (ev Ev.indexAdjusted Cls.triggerGenerator g 0 (n + 65536 * li.toNat))
  else s.setTrig g { t with li := r.base }

/-- The start entry is loaded with a fresh line index (R160). -/
def State.loadFresh (g : Nat) (s : State) : State :=
  let t := s.trig g
  (s.setTrig g { t with haveLast := false }).loadRun g t.startEntry

/-- `consume()` of R162. -/
def State.consume (g : Nat) (s : State) : State :=
  let t := s.trig g
  let r := t.cur
  let t := { t with cmp := t.cmp + BitVec.ofNat 48 r.pitch, remaining := t.remaining - 1 }
  let t := if r.spit then t else { t with lastLi := t.li, haveLast := true, li := t.li + 1 }
  let s := s.setTrig g t
  if t.remaining = 0 then
    let s := if r.irq then
        s.post (ev Ev.runDone Cls.triggerGenerator g 0 (t.entry + 65536 * t.lastLi.toNat))
      else s
    if r.end_ then s.setTrig g { s.trig g with state := .idle } else s.loadRun g r.next
  else s

/-! ## TRIGOUT levels (R179) -/

/-- The levels of every TRIGOUT follow their sources (R179): events 4 and 5 are levels. -/
def State.trigoutLevels (s : State) : State :=
  (List.range 8).foldl (fun s k =>
    let r := trigoutRec s.inForce k
    let t := s.trig r.source
    let want := r.enable && ((r.event == 4 && (s.rbar (s.inForce.sourceBar r.source)).dryRisk) || (r.event == 5 && t.lines.any (·.held)))
    let x := s.trigoutOf k
    if r.enable && r.event < 4 || want == x.asserted then s
    else
      let s := s.setTrigout k { x with asserted := want }
      if s.pinsHeld then s else s.emit (.trigout k (want != r.activeLow))) s

/-! ## The TRIG commands (R182) -/

/-- TRIG.CONFIG (R158). -/
def trigConfigBody (rq : Request) (s : State) : Verdict :=
  let p := rq.payload
  checked (trigFields p) <|
    let g := fld p 0 1
    let r := trigOfBytes p
    if s.tgEnabled g && (trigRec s.inForce g).sourceBar != r.sourceBar then
      refuseObj Rc.tgFieldLocked Cls.triggerGenerator g
    else .stage (.trig g r)

/-- TRIG.ENABLE (R180): no effect when the generator already is as asked. -/
def trigEnableBody (rq : Request) (s : State) : Verdict :=
  let p := rq.payload
  let g := fld p 0 1
  let e := fld p 1 1 == 1
  checked [(decide (g < 16), 0), (decide (fld p 1 1 < 2), 1), (decide (fld p 2 2 < 1024), 2)] <|
    if s.accepted.tgEn.get false g == e then .done s (zeros 8)
    else .submit (.trig g) [.trigEnable g e (fld p 2 2)]

/-- TRIG.RUN_WRITE (R161). -/
def trigRunWriteBody (rq : Request) (_s : State) : Verdict :=
  let p := rq.payload
  let first := fld p 2 2
  let count := fld p 4 2
  checked [(decide (fld p 0 1 < 16), 0), (decide (first < 1024), 2), (decide (1 ≤ count ∧ count ≤ 41), 4)] <|
    if 1024 < first + count then refuseObj Rc.entryRange Cls.triggerGenerator (fld p 0 1)
    else checked ((List.range count).flatMap (fun i => runFields p (8 + 24 * i)))
      (.stage (.run (fld p 0 1) first ((List.range count).map (fun i => runOf p (8 + 24 * i)))))

/-- TRIG.RUN_START (R160). -/
def trigRunStartBody (rq : Request) (_s : State) : Verdict :=
  let p := rq.payload
  checked [(decide (fld p 0 1 < 16), 0), (decide (fld p 2 2 < 1024), 2)]
    (.stage (.runStart (fld p 0 1) (fld p 2 2)))

/-- The bar of a generator is idle: its latest ejecting fire lies idle_time ms or more in the past (R175).
DEDUCED, log entry 71. -/
def State.barIdle (s : State) (g : Nat) : Bool :=
  decide ((s.rbar (s.inForce.sourceBar g)).lastEjectTick + (trigRec s.inForce g).idleTime * 400000 ≤ s.tick)

/-- Keep-alive is active: the flag, the enable, an operating state and an idle bar (R175).
DEDUCED, log entry 71. -/
def State.keepAliveActive (s : State) (g : Nat) : Bool :=
  (trigRec s.inForce g).keepAlive && s.inForce.tgEn.get false g && s.sys.operating && s.barIdle g

/-- The codes of tg_state (R182). -/
def tgCode : TgState → Nat
  | .disabled => 0
  | .idle => 1
  | .running => 2

/-- TRIG.STATUS (R182). DEDUCED, log entry 61.  Before any load, fire or evaluation since reset the fields of
the run and of the latest fire read 0, and stalled reads 1. DESIGN CHOICE, log entry 157. -/
def trigStatusBody (rq : Request) (s : State) : Verdict :=
  let g := fld rq.payload 0 1
  checked [(decide (g < 16), 0)] <|
    let t := s.trig g
    let x := s.rbar (s.inForce.sourceBar g)
    .done s (le 1 (tgCode t.state) ++ le 1 (motionCode (s.barMotion (trigRec s.inForce g).sourceBar))
      ++ le 1 (b2n t.stalled + 2 * b2n x.dryRisk + 4 * b2n x.dryHold + 8 * b2n (s.keepAliveActive g)) ++ zeros 1
      ++ le 2 t.entry ++ zeros 2 ++ le 4 t.remaining ++ le 4 t.li.toNat ++ le 6 t.cmp.toNat ++ zeros 2
      ++ le 8 (t.lastFire.getD 0) ++ le 4 t.period
      ++ le 1 (t.lines.filter (fun l => !l.held)).length ++ le 1 (t.lines.filter (·.held)).length ++ zeros 2
      ++ [t.ticketed, t.overspeed, t.missed, t.late, t.engineLate, t.suppressed, t.dryDropped, t.corrections,
          t.clamped, t.holdLate, t.indexAdjusted, t.spits].flatMap (fun w => le 4 w.toNat))

/-- TRIG.SPIT (R177). DEDUCED, log entry 62.  The refusals 0x0401–0x0406 name the generator.
DESIGN CHOICE, log entry 158. -/
def trigSpitBody (rq : Request) (s : State) : Verdict :=
  let p := rq.payload
  let g := fld p 0 1
  checked [(decide (g < 16), 0), (decide (1 ≤ fld p 2 2), 2), (decide (3120 ≤ fld p 4 4), 4)] <|
    let m := s.barMotion (trigRec s.inForce g).sourceBar
    if !s.tgEnabled g then refuseObj Rc.tgNotEnabled Cls.triggerGenerator g
    else if m == .forward || m == .settling then refuseObj Rc.barMoving Cls.triggerGenerator g
    else if (s.trig g).burst.isSome then refuseAs Rc.busy
    else .accept (s.setTrig g { s.trig g with
      burst := some { waiter := (s.waiterOf rq 0x0405), left := fld p 2 2, interval := fld p 4 4 } })

/-- SPIT_BURST_DONE: every spit has fired, or motion has cut the burst (R177). DEDUCED, log entry 63.  The
completion of a burst that was cut names the generator. DESIGN CHOICE, log entry 158. -/
def spitBurstDone (g : Nat) (s : State) : State :=
  let t := s.trig g
  match t.burst with
  | none => s
  | some u =>
    if (u.left = 0 || u.cut.isSome) && t.pulses.all (fun p => p.kind != .spit) then
      (s.setTrig g { t with burst := none }).commandDone u.waiter (u.cut.getD 0)
        (if u.cut.isSome then Cls.triggerGenerator else 0) (if u.cut.isSome then g else 0)
    else s

/-- TRIG.SPIT_RESUME (R176). -/
def trigSpitResumeBody (rq : Request) (s : State) : Verdict :=
  let g := fld rq.payload 0 1
  checked [(decide (g < 16), 0)] <|
    let b := s.inForce.sourceBar g
    let x := s.rbar b
    if !s.tgEnabled g then refuseObj Rc.tgNotEnabled Cls.triggerGenerator g
    else if !x.dryHold then refuseObj Rc.notHeld Cls.triggerGenerator g
    else if !x.spitSince then refuseObj Rc.spitRequired Cls.triggerGenerator g
    else .done ((s.setRbar b { x with dryHold := false, dryRisk := false, spitSince := false }).trigoutLevels.logOpen
      { origin := .mbx rq.mbx.val, cls := Cls.triggerGenerator, obj := g }) []

/-- TRIG.TRIGOUT_SET (R179). -/
def trigTrigoutSetBody (rq : Request) (_s : State) : Verdict :=
  checked (trigoutFields rq.payload) (.stage (.trigout (fld rq.payload 0 1) (trigoutOf rq.payload)))

/-- TRIG.GET (R182). -/
def trigGetBody (rq : Request) (s : State) : Verdict :=
  let p := rq.payload
  let id := fld p 2 2
  let cfg := s.readCfg rq
  checked [(decide (fld p 0 1 < 3), 0), (decide (id < match fld p 0 1 with | 0 => 16 | 1 => 16384 | _ => 8), 2)] <|
    .done s (match fld p 0 1 with
      | 0 => trigBytes id (trigRec cfg id)
      | 1 => runBytes (runRec cfg (id / 1024) (id % 1024))
      | _ => trigoutBytes id (trigoutRec cfg id))

/-- TRIG.CLEAR (R182). -/
def trigClearBody (rq : Request) (s : State) : Verdict :=
  let p := rq.payload
  let g := fld p 0 1
  checked [(decide (g < 16), 0), (fld p 1 1 == 1, 1)] <|
    .done (s.setTrig g { s.trig g with
      ticketed := 0, overspeed := 0, missed := 0, late := 0, engineLate := 0, suppressed := 0, dryDropped := 0
      corrections := 0, clamped := 0, holdLate := 0, indexAdjusted := 0, spits := 0 }) []

end Sys2Proof.Machine
end

