-- ==== Sys2Proof/Machine/Predict.lean ====
section
/-!
DEFINITION. Fire-time prediction in exact rational arithmetic (R163–R166).
-/

namespace Sys2Proof.Machine

open Sys2Proof

/-- What R164 returns: position, speed and acceleration, or a stalled model. -/
structure AxisModel where
  pos : ℚ
  vel : ℚ
  acc : ℚ

/-- The difference of two counter values by R132, as a rational. -/
def countDiff (p q : Word) : ℚ := (ahead32 q p : ℚ)

/-- The leading entries whose sign equals that of the newest (R164). -/
def leadingRun : List Edge → List Edge
  | [] => []
  | e :: es => e :: es.takeWhile (fun x => decide (0 < x.delta) == decide (0 < e.delta))

/-- The speed between two entries, and the middle of their times (R164). -/
def meanSpeed (a b : Edge) : ℚ × ℚ :=
  (countDiff a.counter b.counter / ((a.tick : ℚ) - b.tick), ((a.tick : ℚ) + b.tick) / 2)

/-- `v0` and `a` of R164 for the leading entries `es`, newest first. -/
def speedOf (s : Nat) (es : List Edge) : Option (ℚ × ℚ) :=
  match es[0]? with
  | none => none
  | some e0 =>
    if 2 * s + 1 ≤ es.length then
      match es[s]?, es[2 * s]? with
      | some e1, some e2 =>
        let m1 := meanSpeed e0 e1
        let m2 := meanSpeed e1 e2
        let a := (m1.1 - m2.1) / (m1.2 - m2.2)
        some (m1.1 + a * ((e0.tick : ℚ) - m1.2), a)
      | _, _ => none
    else if s + 1 ≤ es.length then (es[s]?).map (fun e1 => ((meanSpeed e0 e1).1, 0))
    else (es[es.length - 1]?).map (fun e1 => ((meanSpeed e0 e1).1, 0))

/-- `axis_model` of R164; none where it is stalled. -/
def axisModel (r : AxisRec) (x : Axis) (te : Nat) : Option AxisModel :=
  let es := leadingRun (x.history.take x.fresh)
  if es.length < 2 then none
  else match es[0]?, speedOf (if r.ssi then 1 else 4) es with
    | some e0, some (v0, a) =>
      if v0 ≤ 0 then none
      else
        let d : ℚ := (te : ℚ) - e0.tick
        let gap : ℚ := if r.ssi then max (1 / v0) r.ssiFrame else 1 / v0
        if d > 3 / 2 * gap ∨ v0 + a * d ≤ 0 then none
        else some { pos := e0.counter.toNat + v0 * d + a * d * d / 2, vel := v0 + a * d, acc := a }
    | _, _ => none

/-- A rational position as Q32.16, rounded down, modulo 2^48 (R165). -/
def posOf (q : ℚ) : Pos48 := BitVec.ofInt 48 (q * 65536).floor

/-- A prediction of R165 that is not stalled: dp in counts, and the fire and line times where dp > 0. -/
structure Prediction where
  dp : ℚ
  fire : Option (Nat × Nat)

/-- The blended model of a bar: position, speed and acceleration (R165); none where stalled. -/
def barModel (s : State) (b te : Nat) : Option (Pos48 × ℚ × ℚ) :=
  let r := barRec s.inForce b
  let single := r.blendW = 0 || r.axisA == r.axisB
  match axisModel (axisRec s.inForce r.axisA) (s.axis r.axisA) te with
  | none => none
  | some ma =>
    if single then
      if ma.vel ≤ 0 then none else some (barPosition { r with blendW := 0 } (posOf ma.pos) (posOf ma.pos), ma.vel, ma.acc)
    else match axisModel (axisRec s.inForce r.axisB) (s.axis r.axisB) te with
      | none => none
      | some mb =>
        let w : ℚ := (r.blendW : ℚ) / 65536
        let v := (1 - w) * ma.vel + w * mb.vel
        if v ≤ 0 then none
        else some (barPosition r (posOf ma.pos) (posOf mb.pos), v, (1 - w) * ma.acc + w * mb.acc)

/-- The fire of a hit from the bar's model (R165). -/
def fireOf (linePitch te : Nat) (dp v a : ℚ) : Nat × Nat :=
  let d1 := dp / v
  let den := max (v + a * d1 / 2) (v / 2)
  let dt := dp / den
  let vf := max (v + a * dt) (v / 2)
  ((16 * ((te : ℚ) + dt)).floor.toNat,
   min (16 * ((linePitch : ℚ) / 65536) / vf).floor.toNat (2 ^ 32 - 1))

/-- `predict(hit)` of R165 at the tick of the evaluation; none where stalled. DEDUCED, log entry 65. -/
def predict (s : State) (b te : Nat) (hit : Pos48) : Option Prediction :=
  (barModel s b te).map (fun m =>
    let dp : ℚ := (ahead48 m.1 hit : ℚ) / 65536
    { dp := dp
      fire := if dp ≤ 0 then none else some (fireOf (barRec s.inForce b).linePitch te dp m.2.1 m.2.2) })

/-- A bar may be ticketed and corrected: its motion is FORWARD and its model is not stalled (R166). -/
def State.barMoves (s : State) (b te : Nat) : Bool := s.barMotion b == .forward && (barModel s b te).isSome

end Sys2Proof.Machine
end

