-- ==== Sys2Proof/Machine/Wave.lean ====
section
/-!
DEFINITION. Drive waveforms: synthesis (R186), channels and DACs (R193–R197), AMP_EN (R199, R200),
per-line adaptation (R203–R206) and the WAVE commands (R208).
-/

namespace Sys2Proof.Machine

open Sys2Proof

/-- A library waveform. -/
def waveRec (cfg : Cfg) (w : Nat) : WaveRec := cfg.waves.get {} w
/-- The profile of a bar and an amplitude class. -/
def profileRec (cfg : Cfg) (b k : Nat) : ProfileRec := cfg.profiles.get {} (b * 16 + k)
/-- A bar drive record. -/
def waveBarRec (cfg : Cfg) (b : Nat) : WaveBarRec := cfg.waveBars.get {} b
/-- A digital channel's binding. -/
def channelRec (cfg : Cfg) (c : Nat) : ChannelRec := cfg.channels.get {} c
/-- A DAC's binding. -/
def dacRec (cfg : Cfg) (k : Nat) : DacRec := cfg.dacs.get {} k

/-! ## Synthesis (R186) -/

/-- Sample j (from 1) of a segment of `d` ticks from level `prev` to `level` (R186). -/
def segSample (shape : Nat) (prev level : Int) (d j : Nat) : Int :=
  let delta := level - prev
  match shape with
  | 0 => level
  | 1 => prev + (2 * delta * j + d) / (2 * d : Int)
  | _ => prev + (2 * delta * (3 * j * j * d - 2 * j * j * j) + d * d * d) / (2 * d * d * d : Int)

/-- The samples of the segments from a level on (R186). -/
def synthFrom (prev : Int) : List Word → List Int
  | [] => []
  | w :: ws =>
    (List.range (segTicks w)).map (fun i => segSample (segShape w) prev (segLevel w) (segTicks w) (i + 1))
      ++ synthFrom (segLevel w) ws

/-- The synthesised samples v of a waveform (R186). -/
def synth (r : WaveRec) : List Int := synthFrom 0 r.segs

/-- Decimation by `n` with rounding (R195, R197): ticks beyond D count as level 0. -/
def decimate (n : Nat) (r : WaveRec) : List Int :=
  let v := synth r
  (chunks n (v.length + 1) v).map (fun c => (c.sum + n / 2) / (n : Int))

/-! ## Adaptation (R203, R204) -/

/-- The last point whose x does not exceed the argument, with its successor (R203). -/
def curveSpan (x : Int) : List (Int × Nat) → Option ((Int × Nat) × (Int × Nat))
  | [] => none
  | [_] => none
  | a :: b :: t =>
    match curveSpan x (b :: t) with
    | some r => some r
    | none => if a.1 ≤ x ∧ x < b.1 then some (a, b) else none

/-- A curve at x (R203). -/
def curveAt (r : CurveRec) (x : Int) : Int :=
  match r.points.head?, r.points.getLast? with
  | some a, some z =>
    if x ≤ a.1 then a.2
    else if z.1 ≤ x then z.2
    else match curveSpan x r.points with
      | some (p, q) => p.2 + ((q.2 : Int) - p.2) * (x - p.1) / (q.1 - p.1)
      | none => a.2
  | _, _ => 0x8000

/-- The factor of a fire (R204). -/
def factorOf (ft fd : Int) : Nat := (min ((ft * fd + 16384) / 32768) 0xFFFF).toNat

/-- One sample scaled and clamped, and whether it was clamped (R204). -/
def scaleSample (factor : Nat) (u : Int) : Int × Bool :=
  let x := (u * factor + 16384) / 32768
  (clamp (-32768) 32767 x, decide (x < -32768) || decide (32767 < x))

/-- One sample reduced to the 14 bits of a DAC, and whether it was clamped (R197). -/
def dacSample (x : Int × Bool) : Int × Bool :=
  let y := (x.1 + 2) / 4
  (clamp (-8192) 8191 y, x.2 || decide (y < -8192) || decide (8191 < y))

/-! ## Channels and what they drive (R193, R197) -/

/-- The head at a head address that belongs to a bar (R99). -/
def headAt (cfg : Cfg) (port l : Nat) : Option (Nat × HeadRec) :=
  List.find? (fun (h : Nat × HeadRec) => h.2.bar != 0xFF && h.2.port == port && h.2.localHead == l) cfg.heads

/-- Channel numbers: 0–127 digital, 128–135 DAC (R55). -/
def chanEnabled (cfg : Cfg) (c : Nat) : Bool :=
  if c < 128 then (channelRec cfg c).enable else (dacRec cfg (c - 128)).enable

/-- The bar that a channel is bound to. -/
def chanBar (cfg : Cfg) (c : Nat) : Nat :=
  if c < 128 then (channelRec cfg c).bar else (dacRec cfg (c - 128)).bar

/-- The amplitude class that a channel drives. -/
def chanClass (cfg : Cfg) (c : Nat) : Nat :=
  if c < 128 then (channelRec cfg c).ampClass else (dacRec cfg (c - 128)).ampClass

/-- What a change makes of the owner of a channel: an enabling binding reserves it at acceptance, and a
disabling one releases it when it has applied (R90, R193). -/
def ownerAfter (c : Nat) (applied : Bool) (o : Option Nat) : Change → Option Nat
  | .channel d r => if d = c then (if r.enable then some r.bar else if applied then none else o) else o
  | .dac k r => if 128 + k = c then (if r.enable then some r.bar else if applied then none else o) else o
  | _ => o

/-- The bar that owns a waveform channel, from the acceptance of its enabling binding until its
disabling applies (R193). -/
def State.chanOwner (s : State) (c : Nat) : Option Nat :=
  s.commits.foldl (fun o k => k.changes.foldl (fun o x => ownerAfter c (x.2.all (k.taken .ctl)) o x.1) o)
    (if chanEnabled s.base c then some (chanBar s.base c) else none)

/-- The head addresses that a binding names, in ascending order of port and local head. -/
def chanNamed (cfg : Cfg) (c : Nat) : List (Nat × Nat) :=
  if c < 128 then (maskList 8 (channelRec cfg c).headMask.toNat).map (fun l => (c / 4, l))
  else
    let r := dacRec cfg (c - 128)
    (maskList 32 r.portMask.toNat).flatMap (fun p => (maskList 8 r.localMask.toNat).map (fun l => (p, l)))

/-- The heads that a channel drives: those of its drive set (R193). -/
def chanHeads (cfg : Cfg) (c : Nat) : List (Nat × HeadRec) :=
  (chanNamed cfg c).filterMap (fun a => match headAt cfg a.1 a.2 with
    | some h => if h.2.bar == chanBar cfg c then some h else none
    | none => none)

/-- The channels whose binding is enabled, ascending. -/
def enabledChans (cfg : Cfg) : List Nat := (List.range 136).filter (chanEnabled cfg)

/-- The channels that drive a bar, ascending. -/
def chansOf (cfg : Cfg) (b : Nat) : List Nat := (enabledChans cfg).filter (fun c => chanBar cfg c == b)

/-- Another enabled channel that drives the first pair of channel `c` to overlap (R194). -/
def overlapOf (cfg : Cfg) (c : Nat) : Option Nat :=
  (chanHeads cfg c).findSome? (fun h => (enabledChans cfg).find? (fun d => d != c
    && chanClass cfg d == chanClass cfg c && (chanHeads cfg d).any (fun x => x.1 == h.1)))

/-- The present nozzles of a head with an amplitude class (R98). -/
def headClassCount (cfg : Cfg) (h k : Nat) : Nat :=
  ((headNozzles cfg h).filter (fun n => nmapClass n.2.2 == k)).length

/-- The present nozzles in a channel's drive (R206). -/
def drivePresent (cfg : Cfg) (c : Nat) : Nat :=
  ((chanHeads cfg c).map (fun h => headClassCount cfg h.1 (chanClass cfg c))).sum

/-- The nozzles of a bar whose pair no enabled channel drives (R194). -/
def undriven (cfg : Cfg) (b : Nat) : Nat :=
  ((cfg.headsOf b).map (fun h => ((List.range 4).map (fun k =>
    if (chansOf cfg b).any (fun c => chanClass cfg c == k && (chanHeads cfg c).any (fun x => x.1 == h.1)) then 0
    else headClassCount cfg h.1 k)).sum)).sum

/-- The waveforms selected for a bar, with their library numbers (R192). -/
def barWaves (cfg : Cfg) (b : Nat) : List Nat :=
  (List.range 4).map (fun k => (profileRec cfg b k).wave) ++ [(waveBarRec cfg b).tickleWave]

/-- The longest waveform selected for a bar (R192). -/
def longestWave (cfg : Cfg) (b : Nat) : Nat := ((barWaves cfg b).map (fun w => waveTicks (waveRec cfg w))).foldl max 0

/-- The reference head of a channel (R205): the first driven local head of a digital channel, the
lowest global head id of a DAC. -/
def refHead (cfg : Cfg) (c : Nat) : Option (Nat × HeadRec) :=
  if c < 128 then (chanHeads cfg c).head?
  else (chanHeads cfg c).foldl (fun b h => match b with
    | none => some h
    | some x => if h.1 < x.1 then some h else some x) none

/-! ## The temperature of a fire (R205, R336) -/

/-- The last STS temperature of a head, while it is current: at most 1 s (1,024,000 AON ticks) old and
received since the binding applied. DEDUCED, log entry 85. -/
def State.stsTemp (s : State) (h : HeadRec) (since : Nat) : Option Int :=
  let p := s.port h.port
  match p.sts with
  | none => none
  | some x =>
    if p.stsAt < since || decide (p.stsAt + 1024000 < s.aon) then none
    else (x.heads[h.localHead]?).bind (·.temperature)

/-- A snapshot is in use for a bar from its apply line on (R336). -/
def TempSnap.comesFor (x : TempSnap) (b : Nat) (line : Option Word) : Bool :=
  match line, x.apply.find? (fun a => a.1 == b) with
  | some y, some a => decide (0 ≤ ahead32 a.2 y)
  | _, _ => true

/-- The temperature that a channel uses for a line: from the latest STS, or in a pair from the latest
snapshot whose apply line has come (R205, R336). -/
def State.fireTemp (s : State) (cfg : Cfg) (c b : Nat) (line : Option Word) : Option Int :=
  match refHead cfg c with
  | none => none
  | some h =>
    let t := s.trig (cfg.trigOf b)
    let at_ := line <|> (if t.haveLast then some t.lastLi else none)
    let snap := if s.pair.state == .paired || s.pair.state == .syncing then
        s.pair.temps.find? (fun (x : TempSnap) => x.comesFor b at_)
      else none
    match snap with
    | some x =>
      if x.tick + 400000000 < s.tick then none
      else (x.values.find? (fun (v : Nat × Option Int) => v.1 == h.1)).bind (·.2)
    | none => s.stsTemp h.2 (s.chan c).boundAt

/-- The samples of one channel for one fire (R195, R197, R204). -/
def State.waveFor (s : State) (cfg : Cfg) (c b : Nat) (wave : Nat) (density : Nat) (line : Option Word) : PrepWave :=
  let r := waveRec cfg wave
  let temp := s.fireTemp cfg c b line
  let ft : Int := match temp with
    | none => 0x8000
    | some t => curveAt (cfg.curves.get {} (c * 2)) t
  let f := factorOf ft (curveAt (cfg.curves.get {} (c * 2 + 1)) density)
  let u := (decimate (if c < 128 then 20 else 4) r).map (scaleSample f)
  let u := if c < 128 then u else u.map dacSample
  { channel := c, samples := u.map (·.1), factor := f, temp := temp.getD 0, density := density
    clipped := (u.filter (·.2)).length, duration := waveTicks r }

/-- WAVE_CLIP, WAVE_TEMP_UNKNOWN and DAC_BLOCKED (R209). -/
def waveClipBody (c : Nat) (x : Channel) : EventBody :=
  ev Ev.waveClip Cls.waveChannel c Rc.sampleClipped (x.clipped.toNat + 2 ^ 32 * x.lastLine.toNat)
def dacBlockedBody (c : Nat) (x : Channel) : EventBody :=
  ev Ev.dacBlocked Cls.waveChannel c Rc.ampNotReady (x.blocked.toNat + 2 ^ 32 * x.lastLine.toNat)

/-- A channel's adaptation for a fire is recorded: clipped samples and temp_unknown (R204, R205). -/
def State.noteWave (w : PrepWave) (tempKnown : Bool) (head : Nat) (s : State) : State :=
  let x := s.chan w.channel
  let y := { x with clipped := x.clipped + BitVec.ofNat 32 w.clipped, tempUnknown := !tempKnown }
  let s := s.setChan w.channel y
  let s := if w.clipped = 0 then s else s.postLimited ⟨Ev.waveClip, w.channel, 0⟩ (waveClipBody w.channel y)
  if !tempKnown && !x.tempUnknown then
    s.postLimited ⟨Ev.waveTempUnknown, w.channel, 0⟩
      (ev Ev.waveTempUnknown Cls.waveChannel w.channel Rc.tempUnknown head)
  else s

/-- A fire of a channel is counted, with its line where it has one (R208). DEDUCED, log entry 68. -/
def State.noteFire (w : PrepWave) (line : Option Word) (s : State) : State :=
  let x := s.chan w.channel
  s.setChan w.channel { x with
    fires := x.fires + 1, lastFactor := w.factor, lastTemp := w.temp, lastDensity := w.density
    lastLine := line.getD x.lastLine }

/-! ## Calibrated output (R430) -/

/-- A coefficient set: 0 ADC, 1–16 sensors, 17–24 DACs; the nominal set is a gain of 1 and no offset. -/
def State.coeff (s : State) (k : Nat) : Coeff := s.cal.coeffs.get ⟨0x4000, 0⟩ k

/-- What DAC k puts out for a code. -/
def State.dacCode (s : State) (k : Nat) (x : Int) : Int :=
  let c := s.coeff (17 + k)
  clamp (-8192) 8191 (x * c.gain / 16384 + c.offset)

/-! ## AMP_EN (R199, R200) -/

/-- The conditions of R199. -/
def State.ampWanted (s : State) (k : Nat) : Bool :=
  let r := dacRec s.inForce k
  r.enable && r.ampEnable && s.sys.operating && (s.pwr == .run || s.pwr == .ready) && !s.ampEnds
    && !(s.amp k).calOwned

/-- Strobes that have been sent have still to fire, or a fire is in progress (R44). -/
def State.firesLeft (s : State) : Bool :=
  s.fires.any (fun f => decide (s.tick < f.2))
    || s.trigs.any (fun t => t.2.lines.any (fun l => !l.held) || !t.2.pulses.isEmpty)

/-- AMP_EN[k] changes level (R200): the cause is 0 binding, 1 system state, 2 power state, 3 calibration. -/
def State.setAmpEn (k : Nat) (v : Bool) (cause : Nat) (s : State) : State :=
  let a := s.amp k
  let s := s.setAmp k { a with en := v, rise := if v then s.tick + 1 else a.rise }
  let s := s.logOpen { origin := .fwAuto, cls := Cls.waveChannel, obj := 128 + k }
  s.postLimited ⟨Ev.ampState, 128 + k, 0⟩
    (ev Ev.ampState Cls.waveChannel (128 + k) 0 (b2n v + 256 * cause))

/-- AMP_EN[k] may fall now (R199): at once outside the running states, in FAULT after the last fire
sent, otherwise when the DAC is at rest. -/
def State.ampMayFall (s : State) (k : Nat) : Bool :=
  match s.sys with
  | .fault => !s.firesLeft
  | .off => true
  | .upsett => true
  | .safe => true
  | _ => decide ((s.amp k).busyUntil ≤ s.tick) || s.pwr == .doze || s.pwr == .sleep || s.pwr == .offAon

/-- Every AMP_EN follows its conditions (R199, R200). -/
def State.ampUpdate (cause : Nat) (s : State) : State :=
  (List.range 8).foldl (fun s k =>
    let en := (s.amp k).en
    if s.ampWanted k && !en then s.setAmpEn k true cause
    else if !s.ampWanted k && en && s.ampMayFall k then s.setAmpEn k false cause
    else s) s

/-! ## The WAVE commands (R208) -/

/-- The size of a WAVE.WAVE_SET request. -/
def waveSetSize (rq : Request) : Nat := 36 + 4 * fld rq.payload 1 1

/-- A window is valid in a waveform of D ticks (R187). -/
def windowOk (d : Nat) (w : Nat × Nat) : Bool := decide (w.1 < w.2) && decide (w.2 ≤ d)

/-- WAVE.WAVE_SET (R187). -/
def waveWaveSetBody (rq : Request) (_s : State) : Verdict :=
  let p := rq.payload
  checked (waveFields p) <|
    let r := waveOf p
    let w := fld p 0 1
    if 65535 < waveTicks r then refuseObj Rc.waveTooLong Cls.waveform w
    else if (r.segs.getLast?.map segLevel).getD 0 != 0 then refuseObj Rc.waveNotAtRest Cls.waveform w
    else if !r.windows.all (windowOk (waveTicks r)) then refuseObj Rc.windowInvalid Cls.waveform w
    else .stage (.wave w r)

/-- WAVE.PROFILE_SET (R189). -/
def waveProfileSetBody (rq : Request) (_s : State) : Verdict :=
  let p := rq.payload
  checked (profileFields p) <|
    if fld p 4 1 != 0 then refuseObj Rc.code0NotEmpty Cls.bar (fld p 0 1)
    else .stage (.profile (fld p 0 1) (fld p 1 1) (profileOf p))

/-- WAVE.BAR_SET (R191). -/
def waveBarSetBody (rq : Request) (_s : State) : Verdict :=
  let p := rq.payload
  checked [(decide (fld p 0 1 < 16), 0)]
    (.stage (.waveBar (fld p 0 1) { tickleWave := fld p 1 1, tickleWindows := BitVec.ofNat 8 (fld p 2 1) }))

/-- WAVE.CHANNEL_SET (R193, R194). -/
def waveChannelSetBody (rq : Request) (s : State) : Verdict :=
  let p := rq.payload
  checked (channelFields p) <|
    let c := fld p 0 1
    let ch := Change.channel c (channelOf p)
    match if (channelOf p).enable then overlapOf ((s.view rq.mbx.val).apply ch) c else none with
    | some d => refuseObj Rc.driveOverlap Cls.waveChannel d
    | none => .stage ch

/-- WAVE.DAC_SET (R194, R197). -/
def waveDacSetBody (rq : Request) (s : State) : Verdict :=
  let p := rq.payload
  checked (dacFields p) <|
    let k := fld p 0 1
    let ch := Change.dac k (dacOf p)
    match if (dacOf p).enable then overlapOf ((s.view rq.mbx.val).apply ch) (128 + k) else none with
    | some d => refuseObj Rc.driveOverlap Cls.waveChannel d
    | none => .stage ch

/-- The x of a curve do not decrease (R203). -/
def curveOrdered : List (Int × Nat) → Bool
  | a :: b :: t => decide (a.1 ≤ b.1) && curveOrdered (b :: t)
  | _ => true

/-- WAVE.CURVE_SET (R203). -/
def waveCurveSetBody (rq : Request) (_s : State) : Verdict :=
  let p := rq.payload
  checked (curveFields p) <|
    if !curveOrdered (curveOf p).points then refuseObj Rc.curveOrder Cls.waveChannel (fld p 0 1)
    else .stage (.curve (fld p 0 1) (fld p 1 1) (curveOf p))

/-- WAVE.GET (R208). -/
def waveGetBody (rq : Request) (s : State) : Verdict :=
  let p := rq.payload
  let rec_ := fld p 0 1
  let sub := fld p 1 1
  let id := fld p 2 2
  let cfg := s.readCfg rq
  checked [(decide (rec_ < 6), 0), (decide (sub < match rec_ with | 1 => 4 | 5 => 2 | _ => 1), 1),
           (decide (id < match rec_ with | 0 => 256 | 1 => 16 | 2 => 16 | 3 => 128 | 4 => 8 | _ => 136), 2)] <|
    .done s (match rec_ with
      | 0 => waveBytes id (waveRec cfg id)
      | 1 => profileBytes id sub (profileRec cfg id sub)
      | 2 => waveBarBytes id (waveBarRec cfg id)
      | 3 => channelBytes id (channelRec cfg id)
      | 4 => dacBytes id (dacRec cfg id)
      | _ => curveBytes id sub (cfg.curves.get {} (id * 2 + sub)))

/-- WAVE.STATUS (R208). -/
def waveStatusBody (rq : Request) (s : State) : Verdict :=
  let p := rq.payload
  let id := fld p 2 2
  let cfg := s.inForce
  checked [(decide (fld p 0 1 < 2), 0), (decide (id < if fld p 0 1 = 0 then 136 else 16), 2)] <|
    if fld p 0 1 = 1 then
      .done s (le 4 (if s.barEnabled id then undriven cfg id else 0) ++ le 4 (longestWave (s.inForceFor id) id))
    else
      let x := s.chan id
      let cal := decide (128 ≤ id) && (s.amp (id - 128)).calOwned
      .done s (le 1 (b2n (chanEnabled cfg id)) ++ le 1 ((s.chanOwner id).getD 0xFF)
        ++ le 1 (chanClass cfg id)
        ++ le 1 (b2n x.tempUnknown + 2 * b2n (decide (128 ≤ id) && (s.amp (id - 128)).en) + 4 * b2n cal)
        ++ le 2 x.lastFactor ++ leInt 2 x.lastTemp ++ le 4 x.lastDensity ++ le 4 x.lastLine.toNat
        ++ le 4 x.fires.toNat ++ le 4 x.clipped.toNat ++ le 4 x.blocked.toNat)

/-- WAVE.CLEAR (R208). -/
def waveClearBody (rq : Request) (s : State) : Verdict :=
  let p := rq.payload
  let c := fld p 0 1
  checked [(decide (c < 136), 0), (fld p 1 1 == 1, 1)] <|
    .done (s.setChan c { s.chan c with fires := 0, clipped := 0, blocked := 0 }) []

end Sys2Proof.Machine
end

