-- ==== Sys2Proof/Machine/Plane.lean ====
section
/-!
DEFINITION. Raster planes and line rings: their geometry (R211–R213, R221), the block index (R214), the
checks of areas (R217), the window, validity and lead of a bar (R223–R226), and the PLANE commands
(R238).
-/

namespace Sys2Proof.Machine

open Sys2Proof

/-! ## Planes (R211–R213) -/

/-- The tiles of a width (R211). -/
def tilesOf (width : Nat) : Nat := (width + 8191) / 8192
/-- The block rows of a plane (R212). -/
def planeRows (r : PlaneRec) : Nat := (r.height + 63) / 64
/-- The blocks of a plane (R212). -/
def planeBlocks (r : PlaneRec) : Nat := planeRows r * tilesOf r.width
/-- The bytes of a plane's index region (R213). -/
def indexBytes (r : PlaneRec) : Nat := (16 * planeBlocks r + 4095) / 4096 * 4096
/-- The pixels of tile `t` (R211). -/
def tilePx (width t : Nat) : Nat := min 8192 (width - 8192 * t)
/-- The bytes of one line of tile `t` (R211). -/
def tileBytes (r : PlaneRec) (t : Nat) : Nat := (tilePx r.width t * r.codeWidth + 7) / 8
/-- The lines of a block (R212). -/
def blockLines (r : PlaneRec) (block : Nat) : Nat := min 64 (r.height - 64 * (block / tilesOf r.width))
/-- The uncompressed bytes of a block: U of R241. -/
def blockBytes (r : PlaneRec) (block : Nat) : Nat := tileBytes r (block % tilesOf r.width) * blockLines r block

/-- The stride of a bar's ring (R221). -/
def ringStride (r : BarRec) : Nat := 1024 * r.codeWidth * tilesOf r.rasterWidth
/-- A bar's ring. -/
def ringRec (cfg : Cfg) (b : Nat) : RingRec := cfg.rings.get {} b
/-- A ring's range of HBM under the bar records of a configuration (R221). -/
def ringSpan (sizes : Cfg) (b : Nat) (r : RingRec) : Nat × Nat :=
  (r.base, r.base + r.depth * ringStride (barRec sizes b))

/-- The planes bound to a bar in a configuration, ascending. -/
def barPlanes (cfg : Cfg) (b : Nat) : List (Nat × PlaneRec) :=
  List.filter (fun (p : Nat × PlaneRec) => cfg.bound.get false p.1 && p.2.bar == b) cfg.planes

/-- A plane counts as bound from the acceptance of its bind until its unbind applies. -/
def State.planeBound (s : State) (p : Nat) : Bool := s.inForce.bound.get false p || s.accepted.bound.get false p

/-! ## Areas and rings (R217) -/

/-- An area or ring is unaligned, or not wholly below the firmware-reserved part (R217, R359). -/
def areaReserved (base limit : Nat) : Bool :=
  base % 4096 != 0 || limit % 4096 != 0 || decide (hbmUserEnd < limit) || decide (hbmUserEnd ≤ base)

/-- Two ranges intersect. -/
def rangesMeet (lo hi lo' hi' : Nat) : Bool := decide (lo < hi) && decide (lo' < hi') && decide (lo < hi') && decide (lo' < hi)

/-- The plane whose area, or else the bar whose ring, a range intersects (R217): object class and id.
Ring sizes are those of the bar records of `sizes`. -/
def areaHit (cfg sizes : Cfg) (lo hi : Nat) (skipPlane skipBar : Option Nat) : Option (Byte × Nat) :=
  match List.find? (fun (p : Nat × PlaneRec) => some p.1 != skipPlane
      && rangesMeet lo hi p.2.areaBase p.2.areaLimit) cfg.planes with
  | some p => some (Cls.plane, p.1)
  | none =>
    match List.find? (fun (r : Nat × RingRec) => some r.1 != skipBar
        && rangesMeet lo hi (ringSpan sizes r.1 r.2).1 (ringSpan sizes r.1 r.2).2) cfg.rings with
    | some r => some (Cls.bar, r.1)
    | none => none

/-- The raster-line ranges of two planes intersect (R216). -/
def linesMeet (a b : PlaneRec) : Bool :=
  decide ((a.yFirst - b.yFirst).toNat < b.height) || decide ((b.yFirst - a.yFirst).toNat < a.height)

/-! ## Index entries (R214) -/

/-- An index entry. -/
structure IndexEntry where
  offset : Nat
  length : Nat
  lines : Nat
  valid : Bool
  empty : Bool
  deriving DecidableEq, Repr

/-- An index entry's fields; reserved bits are ignored. -/
def indexEntryOf (bs : List Byte) : IndexEntry :=
  { offset := fld bs 0 8 % 2 ^ 35, length := fld bs 8 4, lines := fld bs 12 1
    valid := bit (fld bs 13 1) 0, empty := bit (fld bs 13 1) 1 }

/-- An index entry in the layout of R214. -/
def indexEntryBytes (offset length lines flags : Nat) : List Byte :=
  le 8 offset ++ le 4 length ++ le 1 lines ++ le 1 flags ++ zeros 2

/-- The entry of a block (R213). -/
def State.indexBytesOf (s : State) (r : PlaneRec) (block : Nat) : List Byte :=
  s.hbmRead (r.areaBase + 16 * block) 16

/-- A valid, non-empty entry that fails R215. -/
def indexInvalid (r : PlaneRec) (block : Nat) (e : IndexEntry) : Bool :=
  decide (e.length < 1) || decide (266240 < e.length) || e.lines != blockLines r block
    || decide (e.offset < r.areaBase + indexBytes r) || decide (r.areaLimit < e.offset + e.length)

/-! ## The window of a bar (R220–R226) -/

/-- The line offsets of the rows of a bar's heads. -/
def barOffsets (cfg : Cfg) (b : Nat) : List Nat :=
  (cfg.headsOf b).flatMap (fun h => (List.range h.2.rows).map (fun r => (rowRec cfg h.1 r).offset))

/-- max_offset and min_offset of R222; 0 for a bar without rows. -/
def maxOffset (cfg : Cfg) (b : Nat) : Nat := (barOffsets cfg b).foldl max 0
def minOffset (cfg : Cfg) (b : Nat) : Nat := match barOffsets cfg b with
  | [] => 0
  | o :: os => os.foldl min o

/-- The bound plane that holds raster line `y` of a bar, with its plane line (R216). -/
def planeAt (cfg : Cfg) (b : Nat) (y : Word) : Option (Nat × PlaneRec × Nat) :=
  (barPlanes cfg b).findSome? (fun p =>
    let j := (y - p.2.yFirst).toNat
    if j < p.2.height then some (p.1, p.2, j) else none)

/-- A raster line is valid: blank, or every tile of its block row is settled (R224, R225). -/
def State.lineValid (s : State) (cfg : Cfg) (b : Nat) (y : Int) : Bool :=
  match planeAt cfg b (BitVec.ofInt 32 y) with
  | none => true
  | some (p, r, j) =>
    let t := tilesOf r.width
    (List.range t).all (fun i => (s.rbar b).settled.contains (p, j / 64 * t + i))

/-- The first of `n` lines from `y` that is not valid, or the line after them. -/
def State.firstInvalid (s : State) (cfg : Cfg) (b : Nat) (y : Int) : Nat → Int
  | 0 => y
  | n + 1 => if s.lineValid cfg b y then s.firstInvalid cfg b (y + 1) n else y

/-- The line a bar prepares next (R223): after an END run none, though the window keeps its place. -/
def RasterBar.due (x : RasterBar) : Option Int := if x.seqEnded then none else x.next

/-- The origin o of a bar's window (R224); none while no line is to be prepared. -/
def State.windowStart (s : State) (b : Nat) : Option Int :=
  (s.rbar b).next.map (fun l => l - maxOffset s.inForce b)

/-- The extended raster line of the first line of a block, placed by the window (R220). -/
def blockFirst (r : PlaneRec) (block : Nat) (o : Int) : Int :=
  o + ahead32 (BitVec.ofInt 32 o) (r.yFirst + BitVec.ofNat 32 (64 * (block / tilesOf r.width)))

/-- A unit's work on a plane or a bar ends. -/
def State.dropWork (f : Work → Bool) (s : State) : State :=
  { s with plait := { s.plait with units := List.filter (fun (u : Nat × Work) => !f u.2) s.plait.units } }

/-- PLANE_CONSUMED: the window has passed the last raster line of a bound plane (R237).
DEDUCED, log entry 73. -/
def State.consumedCheck (b : Nat) (o : Int) (s : State) : State :=
  (barPlanes s.inForce b).foldl (fun s p =>
    let last : Word := p.2.yFirst + BitVec.ofNat 32 (p.2.height - 1)
    if !(s.plane p.1).consumed && decide (0 < ahead32 last (BitVec.ofInt 32 o)) then
      (s.setPlane p.1 { s.plane p.1 with consumed := true }).post
        (ev Ev.planeConsumed Cls.plane p.1 0 last.toNat)
    else s) s

/-- A settled block stays settled while its lines lie in the window that begins at `o` (R224): none has been
discarded before a jump back, and none shares its slot with a line of the window.
DEDUCED, log entry 149. -/
def State.keepsBlock (s : State) (b : Nat) (o : Int) (back : Bool) (q : Nat × Nat) : Bool :=
  let x := s.rbar b
  match Table.find? s.inForce.planes q.1 with
  | none => false
  | some r =>
    let first := blockFirst r q.2 o
    let last := first + blockLines r q.2 - 1
    decide (o ≤ last) && (x.blanked.contains q
      || ((!back || decide ((x.floor.getD o) ≤ first)) && decide (last < o + (ringRec s.inForce b).depth)))

/-- The fill line F_b (R224). -/
def State.fillLine (s : State) (b : Nat) : Option Int :=
  (s.windowStart b).map (fun o => s.firstInvalid s.inForce b o (ringRec s.inForce b).depth)

/-- The lead of a bar (R226). -/
def State.lead (s : State) (b : Nat) : Option Int :=
  match s.fillLine b, (s.rbar b).next with
  | some f, some l => some (f - (l + 8 - minOffset s.inForce b))
  | _, _ => none

/-- RING_PRIMED is posted when a bar's lead first reaches 128 after binding or arming (R226); a lead that stands there
already at a bind has not reached it since. DEDUCED, log entry 74. -/
def State.primeCheck (b : Nat) (s : State) : State :=
  match s.lead b with
  | some l =>
    if (s.rbar b).primeWaits && decide (l < 128) then s.setRbar b { s.rbar b with primeWaits := false }
    else if 128 ≤ l && !(s.rbar b).primed && !(s.rbar b).primeWaits then
      (s.setRbar b { s.rbar b with primed := true }).post
        (ev Ev.ringPrimed Cls.bar b 0 (((s.rbar b).next.getD 0) % 2 ^ 32).toNat)
    else s
  | none => s

/-- The window has moved: lines that leave it are discarded and their slots free, and planes may be consumed
(R224, R237).  After a jump back what was under way begins anew. DEDUCED, log entry 149. -/
def State.moveWindow (b : Nat) (s : State) : State :=
  match s.windowStart b with
  | none => s
  | some o =>
    let x := s.rbar b
    let back := match x.floor with
      | some f => decide (o < f)
      | none => false
    let keep := s.keepsBlock b o back
    let s := s.setRbar b { x with
      floor := some o, settled := x.settled.filter keep, blanked := x.blanked.filter keep
      parked := if back then [] else x.parked, waitsIndex := if back then none else x.waitsIndex }
    let s := if back then s.dropWork (fun w => w.bar == b) else s
    (s.consumedCheck b o).primeCheck b

/-! ## Pairs: forwarding (R328) -/

/-- An address lies in the area of a plane defined in force (R213). -/
def inPlaneArea (cfg : Cfg) (a : Nat) : Bool :=
  cfg.planes.any (fun p => decide (p.2.areaBase ≤ a) && decide (a < p.2.areaLimit))

/-- The runs of consecutive bytes that lie in plane areas, with their addresses. -/
def areaRuns (cfg : Cfg) : Nat → List Byte → List (Nat × List Byte)
  | _, [] => []
  | a, b :: bs =>
    let rest := areaRuns cfg (a + 1) bs
    if inPlaneArea cfg a then
      match rest with
      | (x, l) :: t => if x = a + 1 then (a, b :: l) :: t else (a, [b]) :: rest
      | [] => [(a, [b])]
    else rest

/-- Bytes are stored in HBM by a path of the host: unit P forwards what lands in a plane area (R328). -/
def State.areaWrite (a : Nat) (bs : List Byte) (s : State) : State :=
  let s := s.hbmWrite a bs
  if s.leadsPair && !s.pair.hostBoth then
    (areaRuns s.inForce a bs).foldl (fun s r =>
      { s.emit (.forward r.1 r.2) with pair := { s.pair with fwdBytes := s.pair.fwdBytes + r.2.length } }) s
  else s

/-! ## The PLANE commands (R238) -/

/-- PLANE.DEFINE (R217). -/
def planeDefineBody (rq : Request) (s : State) : Verdict :=
  let p := rq.payload
  checked (planeFields p) <|
    let n := fld p 0 1
    let r := planeOf p
    if s.planeBound n then refuseObj Rc.planeBound Cls.plane n
    else if areaReserved r.areaBase r.areaLimit then refuseObj Rc.areaReserved Cls.plane n
    else if r.areaLimit ≤ r.areaBase + indexBytes r then refuseObj Rc.areaTooSmall Cls.plane n
    else match areaHit (s.view rq.mbx.val) s.inForce r.areaBase r.areaLimit (some n) none with
      | some (c, i) => refuseObj Rc.areaOverlap c i
      | none => .stage (.plane n r)

/-- PLANE.ENABLE (R217, R238): no effect when the plane already is as asked. -/
def planeEnableBody (rq : Request) (s : State) : Verdict :=
  let p := rq.payload
  let n := fld p 0 1
  let e := fld p 1 1 == 1
  let cfg := s.accepted
  checked [(decide (n < 64), 0), (decide (fld p 1 1 < 2), 1)] <|
    match Table.find? s.inForce.planes n with
    | none => refuseObj Rc.planeUndefined Cls.plane n
    | some r =>
      if cfg.bound.get false n == e then .done s (zeros 8)
      else if e then
        match (barPlanes cfg r.bar).find? (fun q => linesMeet q.2 r) with
        | some q => refuseObj Rc.planeRangeOverlap Cls.plane q.1
        | none =>
          if 8 ≤ (barPlanes cfg r.bar).length then refuseObj Rc.tooManyPlanes Cls.bar r.bar
          else .submit (.plane n) [.planeEnable n true]
      else .submit (.plane n) [.planeEnable n false]

/-- PLANE.RING_SET (R217, R221). -/
def planeRingSetBody (rq : Request) (s : State) : Verdict :=
  let p := rq.payload
  checked (ringFields p) <|
    let b := fld p 0 1
    let r : RingRec := { depth := fld p 2 2, base := fld p 8 8 }
    let span := ringSpan s.inForce b r
    if s.barEnabled b then refuseObj Rc.ringLocked Cls.bar b
    else if areaReserved r.base (r.base + 4096) || decide (hbmUserEnd < span.2) then
      refuseObj Rc.areaReserved Cls.bar b
    else match areaHit (s.view rq.mbx.val) s.inForce span.1 span.2 none (some b) with
      | some (c, i) => refuseObj Rc.areaOverlap c i
      | none => .stage (.ring b r)

/-- The size of a PLANE.INDEX_WRITE request. -/
def planeIndexWriteSize (rq : Request) : Nat := 8 + 16 * fld rq.payload 2 2

/-- A command on a range of a plane's entries goes on when the plane and the entries exist. -/
def onEntries (s : State) (n first count : Nat) (k : PlaneRec → Verdict) : Verdict :=
  match Table.find? s.inForce.planes n with
  | none => refuseObj Rc.planeUndefined Cls.plane n
  | some r => if planeBlocks r < first + count then refuseAs Rc.indexRange else k r

/-- PLANE.INDEX_WRITE: the entries are in HBM when the response is written; unit P forwards them.
DEDUCED, log entry 77. -/
def planeIndexWriteBody (rq : Request) (s : State) : Verdict :=
  let p := rq.payload
  let count := fld p 2 2
  checked [(decide (fld p 0 1 < 64), 0), (decide (1 ≤ count ∧ count ≤ 62), 2)] <|
    onEntries s (fld p 0 1) (fld p 4 4) count fun r =>
      .done (s.areaWrite (r.areaBase + 16 * fld p 4 4) ((p.drop 8).take (16 * count))) []

/-- PLANE.INDEX_READ. DEDUCED, log entry 77. -/
def planeIndexReadBody (rq : Request) (s : State) : Verdict :=
  let p := rq.payload
  let count := fld p 2 2
  checked [(decide (fld p 0 1 < 64), 0), (decide (1 ≤ count ∧ count ≤ 63), 2)] <|
    onEntries s (fld p 0 1) (fld p 4 4) count fun r =>
      .done s (s.hbmRead (r.areaBase + 16 * fld p 4 4) (16 * count))

/-- PLANE.STATUS of a plane; the block count of an undefined plane is a free value. -/
def planeStatusBytes (s : State) (n : Nat) : List Byte :=
  let x := s.plane n
  let r := Table.find? s.inForce.planes n
  let bound := s.inForce.bound.get false n
  le 1 (if r.isNone then 0 else if bound then 2 else 1)
    ++ le 1 (match r with | some r => (if bound then r.bar else 0xFF) | none => 0xFF)
    ++ le 1 (b2n x.halted.isSome + 2 * b2n x.consumed) ++ zeros 1
    ++ le 4 x.validated.toNat ++ le 4 x.bad.toNat ++ le 4 x.peerRepairs.toNat
    ++ le 4 (x.lastBad.getD 0xFFFFFFFF) ++ le 2 x.lastBadReason.toNat ++ zeros 2
    ++ le 4 (x.halted.getD 0xFFFFFFFF)
    ++ (match r with | some r => le 4 (planeBlocks r) | none => freeBytes 4 s.fresh)

/-- PLANE.STATUS of a bar's ring; L_b, F_b and the lead are free values while no line is to be prepared. -/
def ringStatusBytes (s : State) (b : Nat) : List Byte :=
  let x := s.rbar b
  le 1 b
    ++ le 1 (b2n x.primed
        + 2 * b2n (s.plait.units.any (fun u => u.2.bar == b && u.2.suspended))
        + 4 * b2n (!x.parked.isEmpty)
        + 8 * b2n ((barPlanes s.inForce b).any (fun p => (s.plane p.1).halted.isSome)))
    ++ le 2 (ringRec s.inForce b).depth
    ++ (match x.next, s.fillLine b, s.lead b with
        | some l, some f, some d => leInt 4 l ++ leInt 4 f ++ leInt 4 d
        | _, _, _ => freeBytes 12 s.fresh)
    ++ le 8 (maskOf ((barPlanes s.inForce b).map (·.1)))
    ++ le 4 x.starved.toNat ++ le 4 x.mispredicted.toNat ++ le 4 x.ringUncorrectable.toNat
    ++ le 4 x.linesPrepared.toNat

/-- PLANE.STATUS. -/
def planeStatusBody (rq : Request) (s : State) : Verdict :=
  let p := rq.payload
  let id := fld p 2 2
  checked [(decide (fld p 0 1 < 2), 0), (decide (id < if fld p 0 1 = 0 then 64 else 16), 2)] <|
    .done { s with fresh := s.fresh + 1 } (if fld p 0 1 = 0 then planeStatusBytes s id else ringStatusBytes s id)

/-- A plane's halted block is to be decoded again (R235). -/
def State.retryPlane (n : Nat) (s : State) : State :=
  let x := s.plane n
  if x.halted.isSome then s.setPlane n { x with retry := true } else s

/-- PLANE.RETRY (R235). -/
def planeRetryBody (rq : Request) (s : State) : Verdict :=
  let n := fld rq.payload 0 1
  checked [(decide (n < 64), 0)] (.done (s.retryPlane n) [])

/-- PLANE.GET; the descriptor of an undefined plane is a free value. -/
def planeGetBody (rq : Request) (s : State) : Verdict :=
  let p := rq.payload
  let id := fld p 2 2
  let cfg := s.readCfg rq
  checked [(decide (fld p 0 1 < 2), 0), (decide (id < if fld p 0 1 = 0 then 64 else 16), 2)] <|
    if fld p 0 1 = 0 then
      match Table.find? cfg.planes id with
      | some r => .done s (planeBytes id r)
      | none => .done { s with fresh := s.fresh + 1 } (le 1 id ++ freeBytes 39 s.fresh)
    else .done s (ringBytes id (ringRec cfg id))

/-- PLANE.CLEAR. -/
def planeClearBody (rq : Request) (s : State) : Verdict :=
  let p := rq.payload
  let id := fld p 2 2
  checked [(decide (fld p 0 1 < 2), 0), (fld p 1 1 == 1, 1), (decide (id < if fld p 0 1 = 0 then 64 else 16), 2)] <|
    .done (if fld p 0 1 = 0 then
        s.setPlane id { s.plane id with validated := 0, bad := 0, peerRepairs := 0 }
      else s.setRbar id { s.rbar id with
        starved := 0, mispredicted := 0, ringUncorrectable := 0, linesPrepared := 0 }) []

end Sys2Proof.Machine
end

