-- ==== Sys2Proof/Machine/Plait.lean ====
section
/-!
DEFINITION. Plait: the block decoder (R241–R253), the compressor sessions (R257–R262) and the PLAIT
commands (R263).
-/

namespace Sys2Proof.Machine

open Sys2Proof

/-! ## The block header (R242–R244) -/

/-- A block header's fields. -/
structure BlockHeader where
  magic : Nat
  version : Nat
  flags : Nat
  length : Nat
  lineBytes : Nat
  lines : Nat
  codeWidth : Nat
  number : Nat
  deriving DecidableEq, Repr

/-- The header of a block (R242). -/
def blockHeaderOf (bs : List Byte) : BlockHeader :=
  { magic := fld bs 0 2, version := fld bs 2 1, flags := fld bs 3 1, length := fld bs 4 4
    lineBytes := fld bs 8 2, lines := fld bs 10 1, codeWidth := fld bs 11 1, number := fld bs 12 4 }

/-- A block header's bytes (R242). -/
def blockHeaderBytes (h : BlockHeader) : List Byte :=
  le 2 h.magic ++ le 1 h.version ++ le 1 h.flags ++ le 4 h.length ++ le 2 h.lineBytes ++ le 1 h.lines
    ++ le 1 h.codeWidth ++ le 4 h.number

/-- A header is self-consistent (R243). -/
def headerConsistent (h : BlockHeader) : Bool :=
  h.magic == 0xD2A6 && h.version == 1 && decide (h.flags ≤ 1) && decide (21 ≤ h.length ∧ h.length ≤ 266240)
    && decide (1 ≤ h.lineBytes ∧ h.lineBytes ≤ 4096) && decide (1 ≤ h.lines ∧ h.lines ≤ 64)
    && oneOf h.codeWidth [1, 2, 4] && decide (h.lineBytes ≤ 1024 * h.codeWidth)
    && (h.flags == 0 || h.length == 20 + h.lineBytes * h.lines)

/-- What a block must match (R244): its entry's length and lines, and its place in its plane. -/
structure BlockPlace where
  length : Nat
  lines : Nat
  codeWidth : Nat
  lineBytes : Nat
  number : Nat
  deriving DecidableEq, Repr

/-- A header matches its block (R244). -/
def headerMatches (h : BlockHeader) (p : BlockPlace) : Bool :=
  h.length == p.length && h.lines == p.lines && h.codeWidth == p.codeWidth && h.lineBytes == p.lineBytes
    && h.number == p.number

/-! ## Tokens (R245–R248) -/

/-- What a decoding has produced from where it began: its output, newest byte first, the failure (0: none), the
kind and size of each token, where it stands, and whether the block has come to its end or its failure. -/
structure Decoded where
  rev : List Byte
  err : Reason
  toks : List (Nat × Nat)
  ctx : DecodeCtx
  ended : Bool
  deriving DecidableEq, Repr

/-- The operand bytes of a token of a kind and size (R246). -/
def operandBytes (kind n : Nat) : Nat :=
  match kind with
  | 1 => 1
  | 2 => n
  | 4 => 2
  | 5 => 1
  | _ => 0

/-- The distance of a match (R246): none for a distance below 1. -/
def matchDistance (kind lineBytes : Nat) (operand : List Byte) : Nat :=
  match kind with
  | 3 => lineBytes
  | 4 => fld operand 0 2
  | _ => ((lineBytes : Int) - fldInt operand 0 1).toNat

/-- The head of the token that begins at `rest`, with the bytes it takes; none at a proper END (R251 rows 4–9).
`readable`: the offset of the first byte that cannot be read (R233). -/
def nextToken (p : BlockPlace) (readable : Nat) (rest : List Byte) (c : DecodeCtx) :
    Except Reason (Option (Nat × DecodeCtx)) :=
  let total := p.lineBytes * p.lines
  let e := p.length - 4
  if e ≤ c.input then .error Rc.streamTruncated
  else if readable ≤ c.input then .error Rc.blockReadError
  else
    let kind := fld rest 0 1 / 32
    let len := fld rest 0 1 % 32
    if kind = 7 then .error Rc.tokenInvalid
    else if kind = 6 then
      if len ≠ 0 then .error Rc.tokenInvalid
      else if c.pos < total then .error Rc.streamTruncated
      else if c.input + 1 ≠ e then .error Rc.lengthMismatch
      else .ok none
    else
      let head := if len = 31 then 3 else 1
      if e < c.input + head then .error Rc.streamTruncated
      else if readable < c.input + head then .error Rc.blockReadError
      else
        let n := if len = 31 then 32 + fld rest 1 2 else len + 1
        let more := operandBytes kind n
        let used := if kind = 2 then head else head + more
        if e < c.input + head + more then .error Rc.streamTruncated
        else if readable < c.input + used then .error Rc.blockReadError
        else
          let operand := (rest.drop head).take more
          let d := matchDistance kind p.lineBytes operand
          if kind = 4 ∧ d = 0 then .error Rc.tokenInvalid
          else if total - c.pos < n then .error Rc.tokenOverrun
          else if 3 ≤ kind ∧ (d < 1 ∨ 8192 < d ∨ c.pos < d) then .error Rc.referenceInvalid
          else .ok (some (used, { c with
            input := c.input + used, kind := kind, left := n, operand := if 3 ≤ kind then d else fld operand 0 1 }))

/-- The token under way takes its bytes from the block. -/
def literal (c : DecodeCtx) : Bool := c.kind == 2 || c.kind == 8

/-- The next output byte of the token under way (R246, R247). -/
def tokenByte (rest : List Byte) (c : DecodeCtx) : Byte :=
  if c.kind = 0 then 0
  else if c.kind = 1 then BitVec.ofNat 8 c.operand
  else if literal c then rest.headD 0
  else (c.last[c.operand - 1]?).getD 0

/-- One output byte has been produced (R256). -/
def DecodeCtx.take (b : Byte) (c : DecodeCtx) : DecodeCtx :=
  { c with
    input := if literal c then c.input + 1 else c.input
    pos := c.pos + 1, left := c.left - 1, crc := crcByte c.crc b, last := (b :: c.last).take 8192 }

/-- The stored CRC is compared with that of the output (R251 row 10). -/
def crcEnd (p : BlockPlace) (readable : Nat) (stored : List Byte) (c : DecodeCtx) : Reason :=
  if readable < p.length then Rc.blockReadError
  else if c.crc ^^^ 0xFFFFFFFF#32 ≠ BitVec.ofNat 32 (fld stored 0 4) then Rc.crcMismatch
  else 0

/-- Decoding goes on from where it stands, up to the output offset `limit` (R251, R256): `rest` holds the bytes
of the block from there. -/
def decodeRun (p : BlockPlace) (readable limit : Nat) :
    Nat → List Byte → DecodeCtx → List Byte → List (Nat × Nat) → Decoded
  | 0, _, c, out, toks => ⟨out, Rc.streamTruncated, toks, c, true⟩
  | fuel + 1, rest, c, out, toks =>
    if c.left = 0 then
      if c.kind = 8 then ⟨out, crcEnd p readable rest c, toks, c, true⟩
      else match nextToken p readable rest c with
        | .error r => ⟨out, r, toks, c, true⟩
        | .ok none => ⟨out, crcEnd p readable (rest.drop 1) c, toks, c, true⟩
        | .ok (some (used, c)) => decodeRun p readable limit fuel (rest.drop used) c out ((c.kind, c.left) :: toks)
    else if limit ≤ c.pos then ⟨out, 0, toks, c, false⟩
    else if literal c && decide (readable ≤ c.input) then ⟨out, Rc.blockReadError, toks, c, true⟩
    else
      let b := tokenByte rest c
      decodeRun p readable limit fuel (if literal c then rest.drop 1 else rest) (c.take b) (b :: out) toks

/-- A block is decoded and checked in the order of R251, from its beginning or from where it was suspended. -/
def decodeFrom (p : BlockPlace) (readable limit : Nat) (c : DecodeCtx) (bs : List Byte) : Decoded :=
  let u := p.lineBytes * p.lines
  let go (c : DecodeCtx) : Decoded := decodeRun p readable limit (u + p.length + 2) (bs.drop c.input) c [] []
  let fails (r : Reason) : Decoded := ⟨[], r, [], c, true⟩
  let h := blockHeaderOf bs
  if c.input ≠ 0 then go c
  else if p.length < 21 then fails Rc.headerMismatch
  else if readable < 16 then fails Rc.blockReadError
  else if !headerConsistent h then fails Rc.headerInvalid
  else if !headerMatches h p then fails Rc.headerMismatch
  else go { c with input := 16, kind := if h.flags = 1 then 8 else 0, left := if h.flags = 1 then u else 0 }

/-- A block that can be read is decoded whole. -/
def decodeBlock (p : BlockPlace) (bs : List Byte) : Decoded := decodeFrom p bs.length (p.lineBytes * p.lines) {} bs

/-- The place of a block of a plane, with the length and the line count of its entry (R244). -/
def placeOf (r : PlaneRec) (block length lines : Nat) : BlockPlace :=
  { length := length, lines := lines, codeWidth := r.codeWidth
    lineBytes := tileBytes r (block % tilesOf r.width), number := block }

/-! ## Reading a block of a plane from HBM (R215, R233) -/

/-- What reading a block gave: not yet loaded, empty, or a decoding (or its failure). -/
inductive BlockRead where
  | notLoaded
  | empty
  | bad (reason : Reason)
  | decoded (d : Decoded)

/-- How many bytes of a range of HBM can be read before the first poisoned word (R233, R360). -/
def State.readableBytes (s : State) (a n : Nat) : Nat :=
  ((s.mem.poison.filter (fun w => w.1 == 2 && decide (w.2 < a + n) && decide (a < w.2 + 8))).map (fun w => w.2 - a)).foldl
    min n

/-- A block is read and decoded as its entry `e` says, from where it stands up to an output offset (R215, R233,
R251, R256): the bytes from there are read now. DEDUCED, log entry 78. -/
def State.readFrom (s : State) (r : PlaneRec) (block : Nat) (e : IndexEntry) (limit : Nat) (c : DecodeCtx) : BlockRead :=
  if !e.valid then .notLoaded
  else if e.empty then .empty
  else if indexInvalid r block e then .bad Rc.indexEntryInvalid
  else .decoded (decodeFrom (placeOf r block e.length e.lines) (s.readableBytes e.offset e.length) limit c
    (s.hbmRead e.offset e.length))

/-- A block is read and decoded whole. -/
def State.readBlock (s : State) (r : PlaneRec) (block : Nat) (e : IndexEntry) : BlockRead :=
  s.readFrom r block e (blockBytes r block) {}

/-- A decoding counts in the counters of PLAIT.STATUS (R263): an unreadable block is no failure of R251. -/
def State.countDecoded (d : Decoded) (s : State) : State :=
  let q := s.plait
  let q := { q with bytesDecoded := q.bytesDecoded + d.rev.length }
  { s with plait :=
      if d.err = 0 then { q with decoded := q.decoded + 1 }
      else if d.err = Rc.blockReadError then q
      else { q with failed := q.failed + 1 } }

/-- An active decompressor without work (R36, R226); one that is to rest takes no more (R37). -/
def State.freeUnit (s : State) : Option Nat :=
  if s.activeCount 1 ≤ s.plait.units.length then none
  else (s.healthy 1).find? (fun u => s.restingOf 1 != some u && (s.pool 1).wants != some u && s.lentUnit 1 != some u
    && (Table.find? s.plait.units u).isNone)

/-! ## Compressor sessions (R257–R262) -/

/-- The bytes of one plane line in a session's stream (R258). -/
def sessionLine (r : PlaneRec) : Nat := (r.width * r.codeWidth + 7) / 8

/-- The content of tile `t` in raw lines of `n` bytes (R259). DESIGN CHOICE, log entry 81. -/
def tileContent (r : PlaneRec) (t : Nat) (lines : List (List Byte)) : List Byte :=
  lines.flatMap (fun l => (l.drop (1024 * r.codeWidth * t)).take (tileBytes r t))

/-- A stream obeys R260: every token before END makes at least 8 bytes, except a final LIT. -/
def tokensLong : List (Nat × Nat) → Bool
  | [] => true
  | t :: ts => (decide (8 ≤ t.2) || t.1 == 2) && ts.all (fun x => decide (8 ≤ x.2))

/-- The header of a block that a session writes. -/
def sessionHeader (r : PlaneRec) (block flags bytes lines : Nat) : BlockHeader :=
  { magic := 0xD2A6, version := 1, flags := flags, length := bytes, lineBytes := tileBytes r (block % tilesOf r.width)
    lines := lines, codeWidth := r.codeWidth, number := block }

/-- The block that a session writes for a content, and whether it is STORED (R260): the compressor's
stream where that is valid, obeys R260 and does not exceed the content. -/
def sessionBlock (r : PlaneRec) (block flags lines : Nat) (storedOnly : Bool) (raw : List Byte) : Bool × List Byte :=
  let body := Config.compressorTokens flags raw
  let crc := le 4 (crc32c raw).toNat
  let bs := blockHeaderBytes (sessionHeader r block 0 (20 + body.length) lines) ++ body ++ crc
  let d := decodeBlock (placeOf r block bs.length lines) bs
  if !storedOnly && decide (body.length ≤ raw.length) && d.err == 0 && d.rev.reverse == raw && tokensLong d.toks then
    (false, bs)
  else (true, blockHeaderBytes (sessionHeader r block 1 (20 + raw.length) lines) ++ raw ++ crc)

/-- A session fails (R258, R261). -/
def State.failSession (k : Nat) (reason : Reason) (s : State) : State :=
  let x := s.session k
  (s.setSession k { x with state := .failed, failReason := reason }).post
    (ev Ev.sessionFailed Cls.plane x.plane reason (k + 256 * x.nextRow))

/-- The port of a session shows where the next block goes (R258). -/
def State.showOut (k : Nat) (s : State) : State :=
  match (s.session k).port with
  | some p => s.setDp p { s.dp p with ptr := (s.session k).out }
  | none => s

/-- The bits of DP_STATUS that the device sets in this cycle, and the bytes it counts in DROPPED (R11). -/
def State.notePort (s : State) (bits n : Nat) (x : DataPort) : DataPort :=
  { x with cycle := x.cycle.note s.now (BitVec.ofNat 28 bits) 0 n }

/-- One block of a row is emitted and its index entry written (R259, R261); nothing happens once the
session has failed. -/
def State.emitBlock (k : Nat) (r : PlaneRec) (lines : List (List Byte)) (s : State) (t : Nat) : State :=
  let x := s.session k
  if x.state != .opened then s
  else
    let block := x.nextRow * tilesOf r.width + t
    let raw := tileContent r t lines
    let entry := r.areaBase + 16 * block
    if x.empties && raw.all (· == 0) then
      (s.setSession k { x with emitted := x.emitted + 1 }).areaWrite entry (indexEntryBytes 0 0 lines.length 3)
    else
      let out := sessionBlock r block (b2n x.empties + 2 * b2n x.storedOnly) lines.length x.storedOnly raw
      if x.limit ≤ x.out + out.2.length then
        let s := match x.port with
          | some p =>
            let was := (s.dp p).limitHit
            let s := s.setDp p (s.notePort 8 0 { s.dp p with limitHit := true })
            if was then s else s.raiseInt (17 + p)
          | none => s
        s.failSession k Rc.sessionOutputFull
      else
        let s := s.areaWrite x.out out.2
        let s := s.areaWrite entry (indexEntryBytes x.out out.2.length lines.length 1)
        let s := s.setSession k { x with
          emitted := x.emitted + 1, compOut := x.compOut + out.2.length, out := x.out + out.2.length }
        let q := { s.plait with
          compressed := s.plait.compressed + 1
          storedBlocks := if out.1 then s.plait.storedBlocks + 1 else s.plait.storedBlocks }
        { s with plait := q }.showOut k

/-- Raw bytes that no session takes are discarded and counted (R261). -/
def State.dropRaw (k n : Nat) (s : State) : State :=
  match (s.session k).port with
  | some p => s.setDp p (s.notePort 0 n { s.dp p with dropped := (s.dp p).dropped + BitVec.ofNat 32 n })
  | none => s

/-- The lines of the block row that a session assembles. -/
def sessionRowLines (x : Session) (r : PlaneRec) : Nat := min 64 (r.height - 64 * x.nextRow)

/-- A complete block row waits to be emitted (R259). -/
def rowWaits (x : Session) : Bool :=
  match x.captured with
  | none => false
  | some r => x.state == .opened && decide (sessionRowLines x r * sessionLine r ≤ x.raw.length)

/-- SESSION_BLOCK_EMIT: an active compressor emits the blocks of the complete row, and ends the session
after the plane's last line (R259). -/
def sessionBlockEmit (k : Nat) (s : State) : State :=
  let x := s.session k
  match x.captured with
  | none => s
  | some r =>
    if !rowWaits x || s.activeCount 2 == 0 || !s.linkRuns || s.underTest 19 then s
    else
      let n := sessionRowLines x r
      let lines := chunks (sessionLine r) n x.raw
      let s := (List.range (tilesOf r.width)).foldl (fun s t => s.emitBlock k r lines t) s
      let x := s.session k
      let left := x.raw.drop (n * sessionLine r)
      if x.state != .opened then (s.setSession k { x with raw := [] }).dropRaw k left.length
      else if planeRows r ≤ x.nextRow + 1 then
        let s := (s.setSession k { x with
          state := .done, nextRow := x.nextRow + 1, raw := [], excess := x.excess || !left.isEmpty }).dropRaw k left.length
        s.post (ev Ev.sessionDone Cls.plane x.plane 0 (k + 256 * x.emitted.toNat))
      else s.setSession k { x with nextRow := x.nextRow + 1, raw := left }

/-- Raw bytes of a COMPRESS port reach its session (R258, R261). -/
def State.feedSession (k : Nat) (bs : List Byte) (s : State) : State :=
  let x := s.session k
  if x.state == .opened then
    let s := s.setSession k { x with raw := x.raw ++ bs, rawIn := x.rawIn + bs.length }
    { s with plait := { s.plait with bytesIn := s.plait.bytesIn + bs.length } }
  else (s.setSession k { x with excess := x.excess || x.state == .done }).dropRaw k bs.length

/-- A session ends (R262). -/
def State.endSession (k : Nat) (s : State) : State := s.setSession k {}

/-! ## The PLAIT commands (R263) -/

/-- PLAIT.SESSION_OPEN (R257). -/
def plaitSessionOpenBody (rq : Request) (s : State) : Verdict :=
  let p := rq.payload
  let k := fld p 0 1
  let n := fld p 1 1
  let f := fld p 2 1
  checked [(decide (k < 16), 0), (decide (n < 64), 1)] <|
    if (s.session k).state != .closed then refuseAs Rc.sessionInUse
    else match Table.find? s.inForce.planes n with
      | none => refuseObj Rc.planeUndefined Cls.plane n
      | some r =>
        if planeRows r ≤ fld p 4 4 then refuseAs Rc.startRowRange
        else .done (s.setSession k
          { state := .opened, plane := n, captured := some r, empties := bit f 0, storedOnly := bit f 1
            nextRow := fld p 4 4 }) []

/-- PLAIT.SESSION_END (R262). -/
def plaitSessionEndBody (rq : Request) (s : State) : Verdict :=
  let k := fld rq.payload 0 1
  checked [(decide (k < 16), 0)] <|
    let x := s.session k
    if x.state == .closed then refuseAs Rc.sessionNotOpen
    else if x.port.isSome then refuseAs Rc.sessionBound
    else .done (s.endSession k) (le 4 x.raw.length)

/-- The codes of a session's state. -/
def sessCode : SessState → Nat
  | .closed => 0
  | .opened => 1
  | .done => 2
  | .failed => 3

/-- PLAIT.SESSION_STATUS. -/
def plaitSessionStatusBody (rq : Request) (s : State) : Verdict :=
  let k := fld rq.payload 0 1
  checked [(decide (k < 16), 0)] <|
    let x := s.session k
    let line := match x.captured with
      | some r => sessionLine r
      | none => 1
    .done s (le 1 (sessCode x.state) ++ le 1 (if x.state == .closed then 0xFF else x.plane)
      ++ le 1 (x.port.getD 0xFF) ++ le 1 (b2n x.empties + 2 * b2n x.storedOnly + 4 * b2n x.excess)
      ++ le 2 x.failReason.toNat ++ zeros 2 ++ le 4 x.nextRow ++ le 4 (min 63 (x.raw.length / line))
      ++ le 4 (x.raw.length % line) ++ le 4 x.emitted.toNat ++ le 8 x.rawIn ++ le 8 x.compOut)

/-- PLAIT.VERIFY. -/
def plaitVerifyBody (rq : Request) (s : State) : Verdict :=
  let p := rq.payload
  let n := fld p 0 1
  checked [(decide (n < 64), 0), (decide (1 ≤ fld p 8 4), 8)] <|
    onEntries s n (fld p 4 4) (fld p 8 4) fun _ =>
      .accept { s with plait := { s.plait with
        jobs := s.plait.jobs ++ [((s.waiterOf rq 0x0703), true, n, fld p 4 4, fld p 8 4)] } }

/-- The state, and the result so far, of a verification (R263). -/
def verifyBlock (r : PlaneRec) (acc : State × VerifyRes) (block : Nat) : State × VerifyRes :=
  let (s, v) := acc
  let v := { v with checked := v.checked + 1 }
  let bad (reason : Reason) : VerifyRes :=
    { v with
      bad := v.bad + 1
      firstReason := if v.firstBad.isSome then v.firstReason else reason
      firstBad := v.firstBad <|> some block }
  match s.readBlock r block (indexEntryOf (s.indexBytesOf r block)) with
  | .notLoaded => (s, bad Rc.indexNotValid)
  | .empty => (s, v)
  | .bad c => (s, bad c)
  | .decoded d => (s.countDecoded d, if d.err = 0 then v else bad d.err)

/-- The first job of a kind that no earlier job of its mailbox holds back (R74, R263). -/
def jobOf (verify : Bool) (seen : List Nat) :
    List (Waiter × Bool × Nat × Nat × Nat) → Option (Waiter × Bool × Nat × Nat × Nat)
  | [] => none
  | j :: js =>
    if seen.contains j.1.mbx then jobOf verify seen js
    else if j.2.1 == verify then some j
    else jobOf verify (j.1.mbx :: seen) js

/-- What a verification has found so far. -/
def State.verified (s : State) (w : Waiter) : VerifyRes := ((s.plait.verifying.find? (fun x => x.1 == w)).map (·.2)).getD {}

/-- A verification has found this so far. -/
def State.setVerified (w : Waiter) (v : Option VerifyRes) (s : State) : State :=
  let others := s.plait.verifying.filter (fun x => x.1 != w)
  { s with plait := { s.plait with verifying := others ++ (v.map (fun v => (w, v))).toList } }

/-- A decompressor that the rings leave free takes the next block of the first verification (R226, R263). -/
def State.verifyNext (s : State) : State :=
  if s.freeUnit.isNone then s
  else match jobOf true [] s.plait.jobs with
    | none => s
    | some (w, _, n, first, count) =>
      match Table.find? s.inForce.planes n with
      | none => s
      | some r =>
        let v := s.verified w
        if count ≤ v.checked then s
        else
          let x := verifyBlock r (s, v) (first + v.checked)
          x.1.setVerified w (some x.2)

/-- VERIFY_DONE: the blocks that are left are decoded, once a decompressor is free; the result is stored and
COMMAND_DONE posted (R263). DEDUCED, log entry 40. -/
def verifyDone (s : State) : State :=
  match jobOf true [] s.plait.jobs with
  | none => s
  | some (w, b, n, first, count) =>
    if s.freeUnit.isNone || !s.linkRuns || s.underTest 19 then s
    else
    let v := s.verified w
    let s := ({ s with plait := { s.plait with jobs := s.plait.jobs.erase (w, b, n, first, count) } }).setVerified w none
    match Table.find? s.inForce.planes n with
    | none => s
    | some r =>
      let left := (List.range count).drop v.checked
      let (s, v) := left.foldl (fun acc i => verifyBlock r acc (first + i)) (s, v)
      let s := { s with plait := { s.plait with results := s.plait.results.set w.mbx v } }
      s.commandDone w v.firstReason (if v.bad = 0 then 0 else Cls.plane) (if v.bad = 0 then 0 else n)

/-- PLAIT.VERIFY_RESULT. -/
def plaitVerifyResultBody (rq : Request) (s : State) : Verdict :=
  let v := s.plait.results.get {} rq.mbx.val
  .done s (le 4 v.checked ++ le 4 v.bad ++ le 4 (v.firstBad.getD 0xFFFFFFFF) ++ le 2 v.firstReason.toNat ++ zeros 2)

/-- The destination of a PLAIT.DECODE is aligned, and clear of reserved parts, areas and rings (R263). -/
def destOk (cfg : Cfg) (dst u : Nat) : Bool :=
  dst % 32 == 0 && decide (dst + u ≤ hbmUserEnd) && (areaHit cfg cfg dst (dst + u) none none).isNone

/-- PLAIT.DECODE. -/
def plaitDecodeBody (rq : Request) (s : State) : Verdict :=
  let p := rq.payload
  let n := fld p 0 1
  checked [(decide (n < 64), 0)] <|
    onEntries s n (fld p 4 4) 1 fun r =>
      if !destOk s.inForce (fld p 8 8) (blockBytes r (fld p 4 4)) then refuseAs Rc.destRange
      else .accept { s with plait := { s.plait with
        jobs := s.plait.jobs ++ [((s.waiterOf rq 0x0705), false, n, fld p 4 4, fld p 8 8)] } }

/-- DECODE_DONE: a decompressor that was free has decoded the block, the bytes produced are in HBM, and
COMMAND_DONE is posted (R263). DEDUCED, log entry 40. -/
def decodeDone (s : State) : State :=
  match jobOf false [] s.plait.jobs with
  | none => s
  | some (w, b, n, block, dst) =>
    if s.freeUnit.isNone || !s.linkRuns || s.underTest 19 then s
    else
    let s := { s with plait := { s.plait with jobs := s.plait.jobs.erase (w, b, n, block, dst) } }
    match Table.find? s.inForce.planes n with
    | none => s
    | some r =>
      match s.readBlock r block (indexEntryOf (s.indexBytesOf r block)) with
      | .notLoaded => s.commandDone w Rc.indexNotValid 0 0
      | .empty => (s.hbmWrite dst (zeros (blockBytes r block))).commandDone w 0 0 0
      | .bad c => s.commandDone w c 0 0
      | .decoded d => ((s.countDecoded d).hbmWrite dst d.rev.reverse).commandDone w d.err 0 0

/-- PLAIT.STATUS. -/
def plaitStatusBody (_rq : Request) (s : State) : Verdict :=
  let q := s.plait
  .done s (le 1 (s.activeCount 1) ++ le 1 (5 - (s.pool 1).retired.length) ++ le 1 (s.activeCount 2)
    ++ le 1 (3 - (s.pool 2).retired.length)
    ++ le 1 ((List.range 16).filter (fun k => (s.session k).state != .closed)).length ++ zeros 3
    ++ le 4 q.decoded.toNat ++ le 4 q.failed.toNat ++ le 4 q.suspensions.toNat ++ le 4 q.parks.toNat
    ++ le 4 q.compressed.toNat ++ le 4 q.storedBlocks.toNat ++ le 8 q.bytesDecoded ++ le 8 q.bytesIn)

/-- PLAIT.CLEAR. -/
def plaitClearBody (rq : Request) (s : State) : Verdict :=
  checked [(fld rq.payload 0 1 == 1, 0)] <|
    .done { s with plait := { s.plait with
      decoded := 0, failed := 0, suspensions := 0, parks := 0, compressed := 0, storedBlocks := 0
      bytesDecoded := 0, bytesIn := 0 } } []

end Sys2Proof.Machine
end

