-- ==== Sys2Proof/Machine/Cane.lean ====
section
/-!
DEFINITION. The Cane link: frames and strobes (R271–R279), the module-resident configuration (R280),
port states (R289) and the CANE commands (R295).
-/

namespace Sys2Proof.Machine

open Sys2Proof

/-- A port's configuration. -/
def portRec (cfg : Cfg) (p : Nat) : PortRec := cfg.ports.get {} p

/-- A port carries NOZ, WAV and strobes while it is enabled and UP (R290, R291). -/
def State.portServes (s : State) (p : Nat) : Bool := (portRec s.inForce p).enable && (s.port p).state == .up

/-- A port carries a head of an enabled bar (R291). -/
def State.portInUse (s : State) (p : Nat) : Bool :=
  s.inForce.heads.any (fun h => h.2.bar != 0xFF && h.2.port == p && s.barEnabled h.2.bar)

/-! ## Blocks and frames (R269–R273, R283, R288) -/

/-- A control block of a type (R269). -/
def controlBlock (type : Byte) (bytes : List Byte) : Block := { control := true, bytes := (type :: bytes ++ zeros 7).take 8 }

/-- The IDLE block of a lane with nothing to send (R269). -/
def idleBlock : Block := controlBlock 0x00 []

/-- The frames and RIM blocks of this unit carry src 1: those of unit S, of a unit in standby, and of a former
unit S until its twin has withdrawn (R325, R343). -/
def State.srcOne (s : State) : Bool := s.pair.unitS || s.pair.srcKept

/-- The RIM block of a port now (R270): rims last 256 ticks. DESIGN CHOICE, log entry 144. -/
def State.rimBlock (s : State) (p : Nat) : Block :=
  controlBlock 0x1E (le 1 p ++ le 1 (b2n s.pair.selfWithdrawn + 2 * b2n s.srcOne)
    ++ le 4 ((s.tick - (s.port p).rimFrom) / 256))

/-- The RIM blocks of the ports that transmit have new flags (R270, R326).
DESIGN CHOICE, log entry 144. -/
def State.emitRims (s : State) : State :=
  (List.range 32).foldl (fun s p => if (s.port p).state == .off then s else s.emit (.rim p (s.rimBlock p))) s

/-- The code of a frame type (R273). -/
def frameType : FrameBody → Nat
  | .noz .. => 0x01
  | .wav .. => 0x02
  | .cfg .. => 0x03
  | .tsy .. => 0x04
  | .ack .. => 0x05
  | .nak .. => 0x06

/-- One entry of an ACK or NAK that the DH2096 sends: it answers HLT frames, which carry no times (R283). -/
def ackEntry (seq code : Nat) : List Byte := le 2 seq ++ le 1 0x11 ++ le 1 code ++ zeros 20

/-- A frame's payload (R278–R280, R283, R288). -/
def framePayload : FrameBody → List Byte
  | .noz _ _ _ _ bytes => bytes
  | .wav _ _ _ _ _ samples => samples.flatMap (leInt 2)
  | .cfg _ records => records
  | .tsy seq t1 adj => le 2 seq ++ zeros 6 ++ le 8 t1 ++ leInt 8 adj
  | .ack seqs => seqs.flatMap (fun n => ackEntry n 0)
  | .nak seq code => ackEntry seq code

/-- The code of a fire kind in a WAV header (R272). -/
def fireCode : FireKind → Nat
  | .line => 0
  | .spit => 1
  | .tickle => 2

/-- bar, sub, line_index and offset of a header (R272). -/
def framePlace : FrameBody → Nat × Nat × Nat × Nat
  | .noz b line l offset _ => (b, l, line.toNat, offset)
  | .wav b slot kind line first _ => (b, slot + 4 * fireCode kind, line.toNat, first)
  | _ => (0, 0, 0, 0)

/-- The bank flag of a header: CFG only (R272). -/
def frameBank : FrameBody → Nat
  | .cfg k _ => k
  | _ => 0

/-- The 16 bytes of a frame header (R272). -/
def frameHeader (src retx : Bool) (seq : Nat) (f : FrameBody) : List Byte :=
  let x := framePlace f
  le 1 (frameType f) ++ le 1 (b2n src + 2 * b2n retx + 4 * frameBank f) ++ le 2 (framePayload f).length ++ le 2 seq
    ++ le 1 x.1 ++ le 1 x.2.1 ++ le 4 x.2.2.1 ++ le 4 x.2.2.2

/-- Bytes in data blocks, the last one padded with zero bytes (R271). -/
def dataBlocks (bs : List Byte) : List Block :=
  (chunks 8 (bs.length + 1) bs).map (fun c => { control := false, bytes := (c ++ zeros 8).take 8 })

/-- A frame as its lane carries it (R271). -/
def frameImage (src retx : Bool) (seq : Nat) (f : FrameBody) : List Block :=
  let h := frameHeader src retx seq f
  [controlBlock 0xA5 []] ++ dataBlocks h ++ dataBlocks (framePayload f)
    ++ [controlBlock 0xC3 (le 4 (crc32c (h ++ framePayload f)).toNat)]

/-- The blocks of a frame (R271). -/
def frameBlocks (f : FrameBody) : Nat := 4 + ((framePayload f).length + 7) / 8

/-- The module acknowledges NOZ, WAV, CFG and TSY frames (R283). -/
def isAcked : FrameBody → Bool
  | .ack _ => false
  | .nak _ _ => false
  | _ => true

/-- The frames of the last 1 ms (400,000 ticks). DEDUCED, log entry 84. -/
def recentFrames (tick : Nat) (l : List (Nat × Nat)) : List (Nat × Nat) :=
  l.filter (fun x => decide (tick < x.1 + 400000))

/-- The mean of frame_blocks over the last 1 ms: 1 ms is 1,562.5 rims of 256 ticks (R270, R295).
DEDUCED, log entry 84. -/
def frameBlocksMean (tick : Nat) (l : List (Nat × Nat)) : Nat :=
  ((recentFrames tick l).map (·.2)).sum * 256 / 400000

/-- The ticks that a frame takes of its lane: 149 blocks of frames in each rim of 256 ticks (R270).
DEDUCED, log entry 143. -/
def frameTicks (f : FrameBody) : Nat := (frameBlocks f * 256 + 148) / 149

/-! ## The framer: frames (R284, R286) -/

/-- The fire time in force of an outstanding line of a bar, as strobed; a held line has none until its RELEASE
(R276, R284). -/
def State.lineFire (s : State) (b : Nat) (line : Word) : Option Nat :=
  ((s.trig (s.inForce.trigOf b)).lines.find? (fun l => l.line == line && !l.held)).map (·.fire)

/-- The line of a NOZ frame, or of a WAV frame of a line fire. -/
def frameLine : FrameBody → Option (Nat × Word)
  | .noz b line _ _ _ => some (b, line)
  | .wav b _ .line line _ _ => some (b, line)
  | _ => none

/-- The fire in force of the line of a frame. -/
def State.frameFire (s : State) (f : FrameBody) : Option Nat := (frameLine f).bind (fun x => s.lineFire x.1 x.2)

/-- A frame sent from a tick on is complete before its deadline, 2 µs (12,800 fine ticks) before the fire of
its line (R284). -/
def State.inTimeAt (s : State) (t : Nat) (f : FrameBody) : Bool := match s.frameFire f with
  | none => true
  | some fire => decide (16 * (t + frameTicks f) + 12800 ≤ fire)

/-- The order of R286 among frames: by rank; within it by deadline, those without one after the others, and
then as they came. DEDUCED, log entry 143. -/
def State.goesBefore (s : State) (f g : TxFrame) : Bool :=
  if f.rank ≠ g.rank then decide (f.rank < g.rank)
  else match s.frameFire f.body, s.frameFire g.body with
    | some a, some b => decide (a < b)
    | some _, none => true
    | _, _ => false

/-- The frame that leaves next of those that wait at a tick. -/
def State.nextFrame (s : State) (t : Nat) (l : List TxFrame) : Option TxFrame :=
  (l.filter (fun f => decide (f.sentAt ≤ t))).foldl (fun m f => match m with
    | none => some f
    | some g => if s.goesBefore f g then some f else some g) none

/-- A WAV frame and the tick of its end. -/
def wavEnd (t : Nat) : FrameBody → Option (Nat × FireKind × Word × Nat)
  | .wav b _ kind line _ _ => some (b, kind, line, t)
  | _ => none

/-- A TSY carries the time at which its START block leaves (R288). -/
def stampFrame (t : Nat) : FrameBody → FrameBody
  | .tsy seq _ adj => .tsy seq (16 * t) adj
  | f => f

/-- A frame leaves its port at a tick (R271, R272, R284); a retransmission only when it can still complete in
time. -/
def State.leaveFrame (p t : Nat) (f : TxFrame) (s : State) : State :=
  let x := s.port p
  let x := { x with waiting := x.waiting.erase f }
  let f := { f with body := stampFrame t f.body }
  if f.rank = 3 && !(s.inTimeAt t f.body && x.unacked.any (fun g => g.seq == f.seq)) then s.setPort p x
  else
    let end_ := t + frameTicks f.body
    let y := { x with
      framesSent := x.framesSent + 1, laneFree := end_
      retransmissions := if f.rank = 3 then x.retransmissions + 1 else x.retransmissions
      lastWav := wavEnd end_ f.body <|> x.lastWav
      unacked := if f.rank = 3 then
          x.unacked.map (fun g => if g.seq == f.seq then { g with sentAt := t, retx := g.retx + 1 } else g)
        else if isAcked f.body then x.unacked ++ [{ f with sentAt := t }] else x.unacked
      recent := (t, frameBlocks f.body) :: recentFrames t x.recent }
    (s.setPort p y).emit (.frame p f.seq (f.rank == 3) f.body (frameImage s.srcOne (f.rank == 3) f.seq f.body))

/-- The frames of a port leave one after another up to now (R286): a frame in transmission ends before the
next begins. DEDUCED, log entry 143. -/
def State.pumpFrames (p : Nat) : Nat → State → State
  | 0, s => s
  | n + 1, s =>
    let x := s.port p
    match x.waiting with
    | [] => s
    | f :: l =>
      let t := max x.laneFree (l.foldl (fun m g => min m g.sentAt) f.sentAt)
      if s.tick < t then s
      else match s.nextFrame t x.waiting with
        | none => s
        | some g => State.pumpFrames p n (s.leaveFrame p t g)

/-- The rank of a frame among those of R286: what is not of a line is of rank 5. -/
def frameRank (f : FrameBody) : Nat := match f with
  | .noz .. => 4
  | .wav .. => 4
  | _ => 5

/-- A new frame goes to its port's framer and takes the next frame_seq (R272, R286); one that finds the lane
free leaves at once. DEDUCED, log entry 143. -/
def State.sendAs (rank p : Nat) (f : FrameBody) (s : State) : State :=
  let x := s.port p
  let y := { x with
    seq := (x.seq + 1) % 65536
    waiting := x.waiting ++ [{ seq := x.seq, body := f, sentAt := s.tick, rank := rank }] }
  (s.setPort p y).pumpFrames p (y.waiting.length)

/-- A new frame. -/
def State.sendFrame (p : Nat) (f : FrameBody) (s : State) : State := s.sendAs (frameRank f) p f

/-- A frame is to leave again with retx set (R284). -/
def State.resendFrame (p : Nat) (f : TxFrame) (s : State) : State :=
  let x := s.port p
  if x.waiting.any (fun g => g.rank == 3 && g.seq == f.seq) then s
  else
    let y := { x with waiting := x.waiting ++ [{ f with sentAt := s.tick, rank := 3 }] }
    (s.setPort p y).pumpFrames p y.waiting.length

/-! ## The framer: strobes (R23, R24, R167, R275, R276) -/

/-- The strobes that are queued or in transmission at a tick. DEDUCED, log entry 70. -/
def strobesQueued (tick : Nat) (l : List Nat) : List Nat := l.filter (fun e => decide (tick < e))

/-- The units of a pair count strobes alike (R332). -/
def State.inPairTiming (s : State) : Bool := s.pair.state == .paired || s.pair.state == .syncing

/-- q of R167: on the port of the bar with the most strobes; in a pair, the strobes emitted to any port
of the bar in the last 80 ticks (R332). DEDUCED, log entry 70. -/
def State.strobeDepth (s : State) (b : Nat) : Nat :=
  let ports := s.inForce.portsOf b
  if s.inPairTiming then
    (s.pair.strobes.filter (fun e => decide (s.tick < e.1 + 80) && (s.inForce.portsOf e.2).any ports.contains)).length
  else (ports.map (fun p => (strobesQueued s.tick (s.port p).strobeQueue).length)).foldl max 0

/-- The notice of R167, and of R332 in a pair, in TIME ticks. -/
def State.notice (s : State) (b : Nat) : Nat := (if s.inPairTiming then 800 else 480) + 10 * s.strobeDepth b

/-- When a strobe emitted now has left its port: 200 ns (80 ticks) after emission or after the strobe
before it, and 24 ns (10 ticks) of transmission (R24). DEDUCED, log entry 70. -/
def strobeGone (tick : Nat) (l : List Nat) : Nat := max (tick + 80) (l.getLast?.getD 0) + 10

/-- The code of a strobe kind (R276). -/
def strobeCode : StrobeKind → Nat
  | .line => 0
  | .correction => 1
  | .hold => 2
  | .release => 3
  | .cancel => 4
  | .spit => 5
  | .tickle => 6

/-- Bytes 2 and 4–19 of a strobe (R275, R339). -/
def strobeBytes (b : Nat) (line : Word) (fire lineTime : Nat) : List Byte :=
  le 1 b ++ le 4 line.toNat ++ le 8 fire ++ le 4 lineTime

/-- A strobe as its lane carries it: an STB block and two data blocks (R269, R275). -/
def strobeImage (src : Bool) (seq : Nat) (x : TxStrobe) : List Block :=
  let body := le 1 (strobeCode x.kind + 16 * b2n src + 32 * x.bank) ++ le 1 x.bar ++ le 1 seq
    ++ le 4 x.line.toNat ++ le 8 x.fire ++ le 4 x.lineTime
  let bs := body ++ le 4 (crc32c body).toNat
  controlBlock 0x5A (bs.take 7) :: dataBlocks (bs.drop 7)

/-- The fire kind whose samples a strobe starts (R279). -/
def strobeFire : StrobeKind → Option FireKind
  | .line => some .line
  | .spit => some .spit
  | .tickle => some .tickle
  | _ => none

/-- A WAV frame holds samples that a strobe starts (R196, R279). -/
def wavFeeds (x : TxStrobe) : FrameBody → Bool
  | .wav b _ kind line _ _ => b == x.bar && strobeFire x.kind == some kind && line == x.line
  | _ => false

/-- The tick at which the samples of a strobe that have left have all arrived at the pins. -/
def wavsGone (x : TxStrobe) (y : Port) : Nat := match y.lastWav with
  | some (b, kind, line, t) => if b = x.bar ∧ strobeFire x.kind = some kind ∧ line = x.line then t else 0
  | none => 0

/-- The strobe with the earliest fire time of those emitted by a tick (R23). -/
def nextStrobe (t : Nat) (l : List TxStrobe) : Option TxStrobe :=
  (l.filter (fun x => decide (x.at_ ≤ t))).foldl (fun m x => match m with
    | none => some x
    | some y => if x.fire < y.fire then some x else some y) none

/-- A strobe of 3 blocks leaves its lane at a tick: of the non-RIM blocks of its rim 10 are in reserve, and what goes
beyond them holds up the frame in transmission by as many frame positions (R270). DEDUCED, log entry 143. -/
def takeBlocks (t : Nat) (y : Port) : Port :=
  let rim := (t - y.rimFrom) / 256
  let n := if y.strobeRim.1 = rim then y.strobeRim.2 else 0
  let late := ((n + 3 - 10) - (n - 10)) * 256 / 149
  { y with
    strobeRim := (rim, n + 3)
    laneFree := if t < y.laneFree then y.laneFree + late else y.laneFree
    lastWav := y.lastWav.map (fun w => (w.1, w.2.1, w.2.2.1, if t < w.2.2.2 then w.2.2.2 + late else w.2.2.2)) }

/-- A strobe leaves its port at a tick (R275). -/
def State.leaveStrobe (p t : Nat) (x : TxStrobe) (s : State) : State :=
  let y := takeBlocks t (s.port p)
  (s.setPort p { y with
    strobes := y.strobes.erase x, strobeFree := t + 10
    strobeSeq := (y.strobeSeq + 1) % 256, strobesSent := y.strobesSent + 1 }).emit
    (.strobe p x.bar x.kind x.line x.fire x.lineTime x.bank (strobeImage s.srcOne y.strobeSeq x))

/-- The strobes of a port leave up to now, 200 ns (80 ticks) after emission, in the order of their fire times
(R23, R24), each after its samples (R196, R279). DEDUCED, log entry 143. -/
def State.pumpStrobes (p : Nat) : Nat → State → State
  | 0, s => s
  | n + 1, s =>
    let y := s.port p
    match y.strobes with
    | [] => s
    | x :: l =>
      let t := max y.strobeFree (l.foldl (fun m z => min m z.at_) x.at_ + 80)
      if s.tick < t then s
      else match nextStrobe t y.strobes with
        | none => s
        | some z =>
          let t := max t (wavsGone z y)
          if s.tick < t || y.waiting.any (fun f => wavFeeds z f.body) then s
          else State.pumpStrobes p n (s.leaveStrobe p t z)

/-- What a port's framer has sent by now (R286). -/
def State.pumpPort (s : State) (p : Nat) : State :=
  let x := s.port p
  (s.pumpFrames p x.waiting.length).pumpStrobes p x.strobes.length

/-- What the framers have sent by now (R286). -/
def State.transmit (s : State) : State := (s.ports.map (·.1)).foldl State.pumpPort s

/-- The clocks read the moment of a row, and what was due to leave the framers by then has left.
DESIGN CHOICE, log entry 1. -/
def State.clock (m : Moment) (s : State) : State := (s.setClock m).transmit

/-- A line of a bar that is cancelled or fired has nothing more to send on a port (R44, R278, R284). -/
def dropLine (b : Nat) (line : Word) (x : Port) : Port :=
  let other (f : TxFrame) : Bool := frameLine f.body != some (b, line)
  { x with
    unacked := x.unacked.filter other, waiting := x.waiting.filter other
    lateFor := x.lateFor.filter (fun y => y != (b, line)) }

/-- A strobe goes to the framer of a port (R23). -/
def State.strobePort (b : Nat) (kind : StrobeKind) (line : Word) (fire lineTime bank : Nat) (s : State) (p : Nat) :
    State :=
  if s.portServes p then
    let x := s.port p
    let q := strobesQueued s.tick x.strobeQueue
    let x := if kind == .cancel then dropLine b line x else x
    s.setPort p { x with
      strobes := x.strobes ++ [{ bar := b, kind := kind, line := line, fire := fire, lineTime := lineTime, bank := bank, at_ := s.tick }]
      strobeQueue := q ++ [strobeGone s.tick q]
      buffered := match kind with
        | .line => x.buffered.map (fun y => if y.bar == b && y.line == line then { y with strobed := true } else y)
        | .cancel => x.buffered.filter (fun y => !(y.bar == b && y.line == line))
        | _ => x.buffered }
  else s

/-- A strobe that the scheduler emits for a bar counts in q of R332 for 80 ticks. -/
def State.noteStrobe (b : Nat) (s : State) : State :=
  if s.inPairTiming then
    { s with pair := { s.pair with
      strobes := s.pair.strobes.filter (fun e => decide (s.tick < e.1 + 80)) ++ [(s.tick, b)] } }
  else s

/-- A strobe is emitted on every port of the bar (R23). -/
def State.strobe (b : Nat) (kind : StrobeKind) (line : Word) (fire lineTime bank : Nat) (s : State) : State :=
  ((s.inForce.portsOf b).foldl (State.strobePort b kind line fire lineTime bank) s).noteStrobe b

/-- The bank that the strobes of a bar name for its next line (R281). -/
def State.bankOf (s : State) (b : Nat) : Nat := s.banks.get 0 b

/-! ## Lines in the module's buffer (R278) -/

/-- The lines of a bar that a port's module buffers. -/
def bufferedLines (x : Port) (b : Nat) : List Buffered := x.buffered.filter (fun y => y.bar == b)

/-- The frames of a head vector: at most 4,096 bytes each (R278). -/
def nozFrames (b : Nat) (line : Word) (v : Nat × List Byte) : List FrameBody :=
  (chunks 4096 (v.2.length + 1) v.2).mapIdx (fun i c => .noz b line v.1 (4096 * i) c)

/-- The frames of a channel's samples: at most 2,048 samples each (R279). -/
def wavFrames (b : Nat) (kind : FireKind) (line : Word) (w : PrepWave) : List FrameBody :=
  (chunks 2048 (w.samples.length + 1) w.samples).mapIdx (fun i c => .wav b (w.channel % 4) kind line (2048 * i) c)

/-- The WAV frames of a prepared line go to a port's framer, once (R196, R279). -/
def State.sendWaves (b p : Nat) (l : PrepLine) (s : State) : State :=
  if !s.portServes p || !l.ports.any (fun q => q.port == p && !q.waved) then s
  else
    let x := s.rbar b
    let mark (m : PrepLine) : PrepLine :=
      if m.ext = l.ext then { m with ports := m.ports.map (fun q => if q.port == p then { q with waved := true } else q) }
      else m
    let s := s.setRbar b { x with prepared := x.prepared.map mark }
    let waves := l.waves.filter (fun w => decide (w.channel < 128) && w.channel / 4 == p)
    (waves.flatMap (wavFrames b .line l.line)).foldl (fun s f => s.sendFrame p f) s

/-- The samples of a line precede its LINE strobe on every port of the bar (R196, R279). -/
def State.wavesFirst (b : Nat) (line : Word) (s : State) : State :=
  match (s.rbar b).prepared.find? (fun l => l.line == line) with
  | none => s
  | some l => (s.inForce.portsOf b).foldl (fun s p => s.sendWaves b p l) s

/-- The poisoned words of the framer queues that hold a part of a vector: of local head `v` of a port, for a line
(R361). DESIGN CHOICE, log entry 79. -/
def State.queuePoison (s : State) (p v : Nat) (line : Word) : List (Nat × Nat) :=
  s.mem.poison.filter (fun w => w.1 == 0 && decide (0xC00000 ≤ w.2) && decide (w.2 < 0x1500000)
    && Config.queueHolds w.2 (8 * p + v) line.toNat)

/-- NOZ_SEND: the frames of the bar's first prepared line that is not sent on the port go to its framer, while
fewer than 8 lines of the bar are buffered there (R278, R279, R286).  A vector with a poisoned word is withheld (R361);
its place is written whole with a later line. -/
def nozSend (b p : Nat) (s : State) : State :=
  let r := s.rbar b
  match r.prepared.find? (fun l => l.ports.any (fun q => q.port == p && !q.sent)) with
  | none => s
  | some l =>
    if !s.portServes p || decide (8 ≤ (bufferedLines (s.port p) b).length) then s
    else
      let sent := r.prepared.map (fun m =>
        if m.ext = l.ext then { m with ports := m.ports.map (fun q => if q.port == p then { q with sent := true } else q) }
        else m)
      let s := s.setRbar b { r with prepared := sent }
      let all := (l.ports.filter (fun q => q.port == p)).flatMap (·.vectors)
      let vectors := all.filter (fun v => (s.queuePoison p v.1 l.line).isEmpty)
      let read := all.flatMap (fun v => s.queuePoison p v.1 l.line)
      let s := { s with mem := { s.mem with poison := s.mem.poison.filter (fun w => !read.contains w) } }
      let s := (vectors.flatMap (nozFrames b l.line)).foldl (fun s f => s.sendFrame p f) (s.sendWaves b p l)
      let x := s.port p
      s.setPort p { x with buffered := x.buffered ++ [{ bar := b, line := l.line, strobed := l.ticketed }] }

/-! ## Module-resident configuration (R280, R281) -/

/-- A CFG record (R280). -/
def cfgRecord (space local_ address : Nat) (data : List Byte) : List Byte :=
  le 1 space ++ le 1 local_ ++ le 2 data.length ++ le 4 address ++ data ++ zeros ((4 - data.length % 4) % 4)

/-- The channel_map byte of class `k` of a head: its slot, 4 EXTERNAL or 0xFF NONE (R280). -/
def channelMap (cfg : Cfg) (h k : Nat) : Nat :=
  match (enabledChans cfg).find? (fun c => chanClass cfg c == k && (chanHeads cfg c).any (fun x => x.1 == h)) with
  | some c => if c < 128 then c % 4 else 4
  | none => 0xFF

/-- Eight pulse windows, 4 bytes each (R280). -/
def windowBytes (w : WaveRec) : List Byte :=
  (w.windows.flatMap (fun x => le 2 x.1 ++ le 2 x.2) ++ zeros 32).take 32

/-- The HEAD record's data (R280). -/
def headData (cfg : Cfg) (h : Nat) (r : HeadRec) : List Byte :=
  le 1 r.bar ++ le 1 r.rows ++ le 2 r.perRow ++ le 1 (barRec cfg r.bar).codeWidth
    ++ le 1 (trigRec cfg (cfg.trigOf r.bar)).spitWindows.toNat ++ le 1 (waveBarRec cfg r.bar).tickleWindows.toNat
    ++ zeros 1 ++ (List.range 4).flatMap (fun k => le 1 (channelMap cfg h k))
    ++ (List.range 8).flatMap (fun i => le 2 (rowRec cfg h i).subDelay) ++ zeros 4

/-- The NOZZLE bytes of a head: trim and amplitude class of each present nozzle (R280). -/
def nozzleData (cfg : Cfg) (h : Nat) : List Byte :=
  (headNozzles cfg h).map (fun n => BitVec.ofNat 8 (bitsOf n.2.2.toNat 21 6 + 64 * nmapClass n.2.2))

/-- NOZZLE records that write `data` from nozzle `first` on (R280). DESIGN CHOICE, log entry 52. -/
def nozzleRecords (l first : Nat) (data : List Byte) : List (List Byte) :=
  (chunks 4088 8193 data).mapIdx (fun i c => cfgRecord 1 l (first + 4088 * i) c)

/-- The banked records of a head under a configuration, but for its nozzles' (R280). -/
def headRecords (cfg : Cfg) (h : Nat) : List (List Byte) :=
  let r := headRec cfg h
  let l := r.localHead
  [cfgRecord 2 l 0 (headData cfg h r)]
    ++ (List.range 4).map (fun k => cfgRecord 3 l k (windowBytes (waveRec cfg (profileRec cfg r.bar k).wave)))
    ++ (List.range 4).map (fun k => cfgRecord 4 l k (profileRec cfg r.bar k).masks)
    ++ [cfgRecord 5 l 0 (windowBytes (waveRec cfg (waveBarRec cfg r.bar).tickleWave))]

/-- Records are gathered into payloads of at most 4,096 bytes (R272). DESIGN CHOICE, log entry 52. -/
def packRecords : List (List Byte) → List (List Byte)
  | [] => []
  | r :: rs =>
    match packRecords rs with
    | [] => [r]
    | q :: qs => if r.length + q.length ≤ 4096 then (r ++ q) :: qs else r :: q :: qs

/-- The length of the longest common start of two lists. -/
def commonStart : List Byte → List Byte → Nat
  | x :: xs, y :: ys => if x = y then commonStart xs ys + 1 else 0
  | _, _ => 0

/-- The NOZZLE records that turn a head's old nozzle bytes into the new ones: from the first byte that
changes to the last (R282: the changes are written). DESIGN CHOICE, log entry 52. -/
def nozzleChanges (l : Nat) (old new : List Byte) : List (List Byte) :=
  if old.length = new.length then
    let k := commonStart old new
    let m := commonStart (old.drop k).reverse (new.drop k).reverse
    nozzleRecords l k ((new.drop k).take (new.length - k - m))
  else nozzleRecords l 0 new

/-- The heads whose records differ between two configurations, with the records that differ: the
module-resident part of a commit (R282).  A head that leaves its bar has its HEAD record written with bar
0xFF. -/
def residentChanges (old new : Cfg) : List (Nat × HeadRec × List (List Byte)) :=
  (List.range 256).filterMap (fun h =>
    let r := headRec new h
    let o := headRec old h
    if r.bar = 0xFF then
      (if o.bar = 0xFF then none else some (h, o, [cfgRecord 2 o.localHead 0 (headData new h { o with bar := 0xFF })]))
    else
      let kept := o.bar != 0xFF && o.port == r.port && o.localHead == r.localHead
      let before := if kept then headRecords old h else []
      let d := (headRecords new h).filter (fun x => !before.contains x)
        ++ nozzleChanges r.localHead (if kept then nozzleData old h else []) (nozzleData new h)
      if d.isEmpty then none else some (h, r, d))

/-- A port writes both banks with the configuration in force in CONFIG (R289). -/
def State.sendConfig (p : Nat) (s : State) : State :=
  let cfg := s.inForce
  let heads := cfg.heads.filter (fun h => h.2.bar != 0xFF && h.2.port == p)
  let payloads := heads.flatMap (fun h =>
    packRecords (headRecords cfg h.1 ++ nozzleRecords h.2.localHead 0 (nozzleData cfg h.1)))
  let first := (s.port p).seq
  let s := ([0, 1].flatMap (fun k => payloads.map (fun d => FrameBody.cfg k d))).foldl (fun s f => s.sendFrame p f) s
  s.setPort p { s.port p with configWaits := (List.range (2 * payloads.length)).map (fun i => (first + i) % 65536) }

/-- A CFG frame goes to a port that is UP, where its acknowledgement is awaited; a port in CONFIG receives it after
the configuration in force, and is UP only once it has acknowledged it as well (R282, R289). -/
def State.sendBanked (rank : Nat) (acc : State × List (Nat × Nat)) (f : Nat × Nat × List Byte) : State × List (Nat × Nat) :=
  let s := acc.1
  let seq := (s.port f.1).seq
  match (s.port f.1).state with
  | .up => (s.sendAs rank f.1 (.cfg f.2.1 f.2.2), acc.2 ++ [(f.1, seq)])
  | .config =>
    let s := s.sendAs 5 f.1 (.cfg f.2.1 f.2.2)
    (s.setPort f.1 { s.port f.1 with configWaits := (s.port f.1).configWaits ++ [seq] }, acc.2)
  | _ => acc

/-- CFG frames go out: port, bank and payload; the frames awaited are answered.  `first`: those of a commit
that is not accepted, which precede catch-up (R286). -/
def State.sendCfg (first : Bool) (frames : List (Nat × Nat × List Byte)) (s : State) : State × List (Nat × Nat) :=
  frames.foldl (State.sendBanked (if first then 4 else 5)) (s, [])

/-! ## Port states (R289, R290, R296) -/

/-- The code of a port state (R289). -/
def portCode : PortState → Nat
  | .down => 0
  | .electrical => 1
  | .blockLock => 2
  | .rimLock => 3
  | .hello => 4
  | .tsyAlign => 5
  | .config => 6
  | .up => 7
  | .incompatible => 8
  | .off => 9

/-- A port enters a state; entries to DOWN, UP and INCOMPATIBLE are posted (R296). -/
def State.enterPort (p : Nat) (st : PortState) (reason : Reason) (s : State) : State :=
  let x := s.port p
  let s := s.setPort p { x with
    state := st, since := s.tick, rims := 0, alignGood := 0
    retrains := if st == .down then x.retrains + 1 else x.retrains }
  if st == .down || st == .up || st == .incompatible then
    s.post (ev Ev.canePortState Cls.canePort p reason (portCode st + 16 * portCode x.state))
  else s

/-- What is under way on a port ends: its lines are no longer buffered (R278, R290). -/
def dropTraffic (x : Port) : Port :=
  { x with
    unacked := [], buffered := [], configWaits := [], wavSent := [], strobeQueue := [], adj := 0, aligned := false
    strobes := [], waiting := [], lastWav := none, lateFor := [] }

/-- Frames that a commit or a catch-up awaits on a port that is no longer UP are no longer awaited: the
port receives the whole configuration when it trains (R282). DEDUCED, log entry 53. -/
def State.forgetAwaits (p : Nat) (s : State) : State :=
  { s with
    held := s.held.map (fun h => { h with awaits := h.awaits.filter (fun a => a.1 != p) })
    pair := { s.pair with preparing := s.pair.preparing.map (fun x => (x.1, x.2.1, x.2.2.filter (fun a => a.1 != p))) }
    catchUps := s.catchUps.map (fun c => { c with awaits := c.awaits.filter (fun a => a.1 != p) }) }

/-- An UP port leaves UP (R290), apart from the fault of its fail_policy. -/
def State.leaveUp (p : Nat) (s : State) : State :=
  let s := s.setPort p { dropTraffic (s.port p) with downReason := Rc.portFailed, retry := true }
  ((s.forgetAwaits p).enterPort p .down Rc.portFailed).logOpen
    { origin := .fwAuto, cls := Cls.canePort, obj := p, reason := Rc.portFailed }

/-- Training starts (R289). -/
def State.startTraining (p : Nat) (s : State) : State :=
  (s.setPort p { dropTraffic (s.port p) with retry := false }).enterPort p .electrical 0

/-- Every port is OFF while LINK is gated, and starts in DOWN when it runs again (R289). -/
def State.portsOff (s : State) : State :=
  (List.range 32).foldl (fun s p =>
    (s.setPort p { dropTraffic (s.port p) with retry := false, timedOut := false }).forgetAwaits p |>.enterPort p .off 0) s
def State.portsOn (s : State) : State :=
  (List.range 32).foldl (fun s p =>
    let s := s.setPort p { s.port p with rimFrom := s.tick, timedOut := false }
    ((s.emit (.rim p (s.rimBlock p))).enterPort p .down 0).startTraining p) s

/-- The timeout of a training state, in µs (R289). -/
def trainTimeoutUs : PortState → Option Nat
  | .electrical => some 600
  | .blockLock => some 100
  | .rimLock => some 20
  | .hello => some 100
  | .tsyAlign => some 200
  | .config => some 180
  | _ => none

/-- RX_LOCKED (R289). -/
def rxLocked (p : Nat) (s : State) : State :=
  if (s.port p).state == .electrical then s.enterPort p .blockLock 0 else s

/-- BLOCK_LOCK_ACQUIRED: block lock and polarity (R266, R267). -/
def blockLockAcquired (p : Nat) (inverted : Bool) (s : State) : State :=
  if (s.port p).state == .blockLock then
    (s.setPort p { s.port p with inverted := inverted }).enterPort p .rimLock 0
  else s

/-- TSY_SEND: every tsy_period ms, and every 10 µs in TSY_ALIGN (R288, R289). -/
def tsySend (p : Nat) (s : State) : State :=
  let x := s.port p
  let period := match x.state with
    | .up => some ((portRec s.inForce p).tsyPeriod * 400000)
    | .config => some ((portRec s.inForce p).tsyPeriod * 400000)
    | .tsyAlign => some 4000
    | _ => none
  match period with
  | none => s
  | some t =>
    if s.tick < x.lastTsy + t then s
    else
      (s.setPort p { x with lastTsy := s.tick, adj := 0, tsySeq := (x.tsySeq + 1) % 65536 }).sendFrame p
        (.tsy x.tsySeq 0 x.adj)

/-- FRAME_DISCARDED (R269, R273, R283). -/
def frameDiscarded (p : Nat) (d : FrameDefect) (s : State) : State :=
  let x := s.port p
  match d with
  | .invalidBlock _ => s.setPort p { x with blockErrors := x.blockErrors + 1 }
  | .reservedType => s.setPort p { x with crcErrors := x.crcErrors + 1 }
  | .length => s.setPort p { x with crcErrors := x.crcErrors + 1 }
  | .crc seq =>
    let s := s.setPort p { x with crcErrors := x.crcErrors + 1 }
    match seq with
    | some n => s.sendFrame p (.nak n 1)
    | none => s

/-- CANE_LATE (R285). -/
def caneLateBody (p : Nat) (x : Port) (line : Word) : EventBody :=
  ev Ev.caneLate Cls.canePort p Rc.lineLate (x.lateLines.toNat + 2 ^ 32 * line.toNat)

/-- A NOZ frame of a line on a port has not been acknowledged: it was sent, or waits, or the line is not even
prepared (R285). -/
def State.nozOpen (s : State) (p b : Nat) (line : Word) : Bool :=
  let noz (f : TxFrame) : Bool := match f.body with
    | .noz c y _ _ _ => c == b && y == line
    | _ => false
  (s.port p).unacked.any noz || (s.port p).waiting.any noz
    || (match (s.rbar b).prepared.find? (fun l => l.line == line) with
      | none => true
      | some l => l.ports.any (fun q => q.port == p && !q.sent))

/-- LINE_DEADLINE: 2 µs (12,800 fine ticks) before the fire a NOZ frame is not acknowledged; a line counts once
on each port that serves the bar (R284, R285). -/
def lineDeadline (p b : Nat) (line : Word) (s : State) : State :=
  let x := s.port p
  match s.lineFire b line with
  | none => s
  | some fire =>
    if fire ≤ 16 * s.tick + 12800 ∧ s.portServes p ∧ (s.inForce.portsOf b).contains p ∧ !x.lateFor.contains (b, line) ∧ s.nozOpen p b line then
      let y := { x with
        unacked := x.unacked.filter (fun f => frameLine f.body != some (b, line))
        lateLines := x.lateLines + 1, lateFor := (b, line) :: x.lateFor }
      (s.setPort p y).postLimited ⟨Ev.caneLate, p, 0⟩ (caneLateBody p y line)
    else s

/-- BANK_CATCHUP: once the last fire that names an old bank is over, the commit's changes are written
into it (R282 step 4). DEDUCED, log entry 53. -/
def bankCatchup (s : State) : State :=
  let quiet (x : Nat × Word × Nat) : Bool :=
    let t := s.trig (s.inForce.trigOf x.1)
    s.bankOf x.1 != x.2.2
      && t.lines.all (fun l => l.bank != x.2.2) && t.pulses.isEmpty
      && s.fires.all (fun f => f.1 != x.1 || decide (f.2 ≤ s.tick))
  match s.catchUps.find? (fun c => !c.sent && c.bars.all quiet) with
  | none => s
  | some c =>
    let (s, awaits) := s.sendCfg false c.frames
    let marked := s.catchUps.map (fun d => if d = c then { d with sent := true, awaits := awaits } else d)
    { s with catchUps := marked.filter (fun d => !(d.sent && d.awaits.isEmpty)) }

/-! ## The CANE commands (R295) -/

/-- CANE.PORT_SET (R291). -/
def canePortSetBody (rq : Request) (s : State) : Verdict :=
  let p := rq.payload
  checked (portFields p) <|
    let n := fld p 0 1
    let r := portOf p
    if !r.enable && (portRec s.inForce n).enable && s.portInUse n then refuseObj Rc.portInUse Cls.canePort n
    else .stage (.port n r)

/-- CANE.PORT_STATUS. -/
def canePortStatusBody (rq : Request) (s : State) : Verdict :=
  let n := fld rq.payload 0 1
  checked [(decide (n < 32), 0)] <|
    let x := s.port n
    .done s (le 1 (portCode x.state)
      ++ le 1 (b2n (portRec s.inForce n).enable + 2 * b2n (s.portInUse n) + 4 * b2n x.inverted + 8 * b2n x.aligned)
      ++ le 2 x.downReason.toNat ++ leInt 4 x.theta ++ leInt 4 x.delta
      ++ [x.framesSent, x.retransmissions, x.naks, x.lateLines, x.crcErrors, x.blockErrors, x.strobesSent,
          x.retrains].flatMap (fun w => le 4 w.toNat)
      ++ le 2 (frameBlocksMean s.tick x.recent) ++ zeros 2)

/-- module_flags of an STS (R294). -/
def moduleFlags (x : Sts) : Nat := b2n x.fault + 2 * b2n x.hvGood

/-- CANE.MODULE_INFO. -/
def caneModuleInfoBody (rq : Request) (s : State) : Verdict :=
  let n := fld rq.payload 0 1
  checked [(decide (n < 32), 0)] <|
    match (s.port n).passedHello, (s.port n).sts with
    | true, some x =>
      .done s (le 2 x.protocol ++ le 2 x.vendor ++ le 2 x.moduleType ++ le 1 x.headsPresent.toNat
        ++ le 1 x.bufferLines ++ le 4 x.moduleFw.toNat ++ le 1 x.source ++ le 1 (moduleFlags x) ++ zeros 2)
    | _, _ => refuseObj Rc.portNotUp Cls.canePort n

/-- CANE.CLEAR. -/
def caneClearBody (rq : Request) (s : State) : Verdict :=
  let p := rq.payload
  let n := fld p 0 1
  checked [(decide (n < 32), 0), (fld p 1 1 == 1, 1)] <|
    .done (s.setPort n { s.port n with
      framesSent := 0, retransmissions := 0, naks := 0, lateLines := 0, crcErrors := 0, blockErrors := 0
      strobesSent := 0, retrains := 0 }) []

/-- CANE.GET. -/
def caneGetBody (rq : Request) (s : State) : Verdict :=
  let n := fld rq.payload 0 1
  checked [(decide (n < 32), 0)] (.done s (portBytes n (portRec (s.readCfg rq) n)))

end Sys2Proof.Machine
end

