-- ==== Sys2Proof/Machine/Health.lean ====
section
/-!
DEFINITION. Nozzle and head health: requests and sweeps (R298–R301), features and classes (R302–R306),
substitution (R307–R312), head temperature (R315, R316) and the HEALTH commands (R319).
-/

namespace Sys2Proof.Machine

open Sys2Proof

/-- The policy of a bar. -/
def policyRec (cfg : Cfg) (b : Nat) : PolicyRec := cfg.policies.get {} b
/-- The reference of a row (R303). -/
def refRec (cfg : Cfg) (h r : Nat) : RefRec := cfg.refs.get {} (h * 8 + r)
/-- The temperature settings of a head (R316). -/
def tempRec (cfg : Cfg) (h : Nat) : HeadTempRec := cfg.temps.get {} h

/-- The record of a nozzle before any result: class, candidate and last_raw UNKNOWN (R305). -/
def recordReset : Word := 0xE03F
/-- A nozzle's health record. -/
def State.record (s : State) (id : Nat) : Word := s.health.records.get recordReset id
def State.setRecord (id : Nat) (r : Word) (s : State) : State :=
  { s with health := { s.health with records := s.health.records.set id r } }
/-- The health counters of a bar and of a head. -/
def State.barStat (s : State) (b : Nat) : HealthStat := s.health.barStats.get {} b
def State.headStat (s : State) (h : Nat) : HealthStat := s.health.headStats.get {} h
def State.setBarStat (b : Nat) (x : HealthStat) (s : State) : State :=
  { s with health := { s.health with barStats := s.health.barStats.set b x } }
def State.setHeadStat (h : Nat) (x : HealthStat) (s : State) : State :=
  { s with health := { s.health with headStats := s.health.headStats.set h x } }
/-- A count of a nozzle's bar and of its head. -/
def State.countHealth (b h : Nat) (f : HealthStat → HealthStat) (s : State) : State :=
  (s.setBarStat b (f (s.barStat b))).setHeadStat h (f (s.headStat h))
/-- A head's regulation. -/
def State.heater (s : State) (h : Nat) : Heater := s.health.heaters.get {} h
def State.setHeater (h : Nat) (x : Heater) (s : State) : State :=
  { s with health := { s.health with heaters := s.health.heaters.set h x } }
/-- A bar's sweep. -/
def State.sweep (s : State) (b : Nat) : Sweep := s.health.sweeps.get {} b
def State.setSweep (b : Nat) (x : Sweep) (s : State) : State :=
  { s with health := { s.health with sweeps := s.health.sweeps.set b x } }

/-- The throttle stage (HST_CEIL.STAGE): 1 and 2 stand for STAGE1 and STAGE2 of either domain (R416). -/
def State.stage (s : State) : Nat := max ((s.dom 0).level - 1) ((s.dom 1).level - 1)

/-- The unit whose strobes the modules use runs sweeps, regulation and FW_AUTO (R317). -/
def State.healthLeads (s : State) : Bool := !s.pinsHeld

/-! ## Features and raw classes (R302, R304) -/

/-- The zero crossings of a sample list, with their positions (R302). -/
def crossings : Nat → List Int → List Nat
  | i, a :: b :: t =>
    if decide (a < 0) != decide (b < 0) then
      (16 * i + 16 * a.natAbs / (a.natAbs + b.natAbs)) :: crossings (i + 1) (b :: t)
    else crossings (i + 1) (b :: t)
  | _, _ => []

/-- The largest magnitude of a list. -/
def peak (l : List Int) : Nat := (l.map Int.natAbs).foldl max 0

/-- Amplitude, period and decay of 32 samples (R302). -/
def features (samples : List Nat) : Nat × Nat × Nat :=
  let v : List Int := samples.map (fun (x : Nat) => (x : Int) - 2048)
  let a1 := peak (v.take 16)
  let a2 := peak (v.drop 16)
  let c := crossings 0 v
  let period := if 3 ≤ c.length then 2 * (c.getLast?.getD 0 - c.headD 0) / (c.length - 1) else 0
  (peak v, period, if a1 = 0 then 0 else min (256 * a2 / a1) 255)

/-- The raw class of a result: 0 GOOD, 1 WEAK, 2 SHIFTED, 3 MISSING, 4 AIR (R304). -/
def rawClass (q : PolicyRec) (r : RefRec) (amp period decay : Nat) : Nat :=
  if period = 0 ∨ amp * 256 < q.ampMissing * r.amp then 3
  else if period * 256 < r.period * (256 - q.airShift) then 4
  else if r.period * (256 + q.periodTol) < period * 256 ∨ q.decayTol < max decay r.decay - min decay r.decay then 2
  else if amp * 256 < q.ampWeak * r.amp then 1
  else 0

/-! ## Records (R305, R306) -/

/-- The fields of a health record. -/
def recClass (r : Word) : Nat := bitsOf r.toNat 0 3
def recCandidate (r : Word) : Nat := bitsOf r.toNat 3 3
def recCount (r : Word) : Nat := bitsOf r.toNat 6 4
def recHeld (r : Word) : Bool := bit r.toNat 10
def recLastRaw (r : Word) : Nat := bitsOf r.toNat 13 3

/-- A record from its fields; donor and lost follow the substitutions in force. -/
def mkRecord (cls cand count : Nat) (held : Bool) (last : Nat) : Word :=
  BitVec.ofNat 32 (cls + 8 * cand + 64 * count + 1024 * b2n held + 8192 * last)

/-- The update of R305, and the class that is confirmed. -/
def updateRecord (confirm raw : Nat) (r : Word) : Word × Option Nat :=
  let (cand, count) :=
    if raw = recClass r then (recCandidate r, 0)
    else if raw = recCandidate r ∧ 0 < recCount r then (recCandidate r, recCount r + 1)
    else (raw, 1)
  if confirm ≤ count then (mkRecord cand cand 0 (recHeld r) raw, some cand)
  else (mkRecord (recClass r) cand count (recHeld r) raw, none)

/-- A record returns to UNKNOWN: host_held and last_raw are kept (R306). -/
def forgetClass (r : Word) : Word := mkRecord 7 7 0 (recHeld r) (recLastRaw r)

/-- A record as HEALTH.NOZZLE_READ returns it (R305). -/
def recordBits (cfg : Cfg) (id : Nat) (r : Word) : Nat :=
  r.toNat + 2048 * b2n (List.any cfg.substs (fun (p : Nat × SubstRec) => p.2.donors.contains id))
    + 4096 * b2n (Table.find? cfg.substs id).isSome

/-! ## Substitution (R308, R310) -/

/-- A nozzle is present: its head has it (R98). -/
def nozzlePresent (cfg : Cfg) (id : Nat) : Bool :=
  let r := headRec cfg (id / 8192)
  decide (id % 8192 < r.rows * r.perRow)

/-- The state of a nozzle in a configuration. -/
def stateOf (cfg : Cfg) (id : Nat) : Nat := nmapState (nmapRec cfg id)
/-- The column of a nozzle in a configuration. -/
def columnOf (cfg : Cfg) (id : Nat) : Nat := nmapColumn (nmapRec cfg id)

/-- How many substitutions other than that of `lost` a donor serves. -/
def serves (cfg : Cfg) (lost d : Nat) : Nat :=
  (List.filter (fun (p : Nat × SubstRec) => p.1 != lost && p.2.donors.contains d) cfg.substs).length

/-- Two columns differ by 1 to 4. -/
def nearColumns (a b : Nat) : Bool := a != b && decide (a ≤ b + 4) && decide (b ≤ a + 4)

/-- The first condition of R308 that a substitution fails: `force` is the configuration in force, `cfg`
the one with the set's changes. -/
def substDefect (force cfg : Cfg) (lost : Nat) (r : SubstRec) : Option Reason :=
  let b := cfg.nozzleBar lost
  let isDonor := List.any force.substs (fun (p : Nat × SubstRec) => p.2.donors.contains lost)
  let others := List.filter (fun (p : Nat × SubstRec) => p.1 != lost) cfg.substs
  if !nozzlePresent cfg lost || b == 0xFF || [4, 6].contains (stateOf cfg lost) || isDonor then
    some Rc.notSubstitutable
  else if r.donors.any (fun d => !nozzlePresent cfg d || cfg.nozzleBar d != b || d == lost
      || !([0, 1, 2, 6].contains (stateOf cfg d)) || others.any (fun p => p.1 == d)) then some Rc.donorInvalid
  else if !(if r.neighbour then
        decide (1 ≤ r.donors.length ∧ r.donors.length ≤ 4) && decide r.donors.Nodup
          && r.donors.all (fun d => nearColumns (columnOf cfg d) (columnOf cfg lost))
      else decide (r.donors.length = 1) && r.donors.all (fun d => columnOf cfg d == columnOf cfg lost)) then
    some Rc.donorInvalid
  else if r.donors.any (fun d => decide (2 ≤ serves cfg lost d)) then some Rc.donorBusy
  else if 65536 ≤ others.length then some Rc.substTableFull
  else none

/-- The first substitution of a list that fails R308, each judged with those before it applied. -/
def substsDefect (force : Cfg) : Cfg → List (Nat × SubstRec) → Option (Nat × Reason)
  | _, [] => none
  | cfg, e :: es =>
    match substDefect force cfg e.1 e.2 with
    | some r => some (e.1, r)
    | none => substsDefect force (cfg.apply (.substs [e])) es

/-- The eligible donors of a column, SPARE nozzles first, then in ascending id (R310). -/
def State.donorsAt (s : State) (cfg : Cfg) (lost b x : Nat) : List Nat :=
  let all := (cfg.headsOf b).flatMap (fun h =>
    if (s.heater h.1).degraded then []
    else ((headNozzles cfg h.1).filter (fun n => nmapColumn n.2.2 == x && [0, 6].contains (nmapState n.2.2)
      && h.1 * 8192 + n.1 != lost && decide (serves cfg lost (h.1 * 8192 + n.1) < 2))).map
      (fun n => h.1 * 8192 + n.1))
  all.filter (fun d => stateOf cfg d == 6) ++ all.filter (fun d => stateOf cfg d != 6)

/-- The substitution that automatic selection finds for a lost nozzle (R310). -/
def State.selectDonors (s : State) (cfg : Cfg) (lost : Nat) : Option SubstRec :=
  let b := cfg.nozzleBar lost
  let x := columnOf cfg lost
  match s.donorsAt cfg lost b x with
  | d :: _ => some { neighbour := false, donors := [d] }
  | [] =>
    let n := (policyRec cfg b).neighbours
    let cols := (if 0 < n then (if 1 ≤ x then [x - 1] else []) ++ [x + 1] else [])
      ++ (if n = 4 then (if 2 ≤ x then [x - 2] else []) ++ [x + 2] else [])
    match cols.filterMap (fun c => (s.donorsAt cfg lost b c).head?) with
    | [] => none
    | ds => some { neighbour := true, donors := ds }

/-- The lost nozzles of a head in a configuration (R312). -/
def lostOfHead (cfg : Cfg) (h : Nat) : Nat :=
  (List.filter (fun (p : Nat × SubstRec) => p.1 / 8192 == h) cfg.substs).length

/-- The lost nozzles of a nozzle's head other than it (R312). -/
def lostBeside (cfg : Cfg) (id : Nat) : Nat :=
  (List.filter (fun (p : Nat × SubstRec) => p.1 / 8192 == id / 8192 && p.1 != id) cfg.substs).length

/-- NO_DONOR (R320). -/
def State.postNoDonor (id : Nat) (s : State) : State :=
  s.postLimited ⟨Ev.noDonor, id / 8192, 0⟩ (ev Ev.noDonor Cls.head (id / 8192) Rc.noDonor id)

/-- A head reaches its limit of lost nozzles (R312). -/
def State.degrade (h lost : Nat) (s : State) : State :=
  let x := s.heater h
  if x.degraded then s
  else (s.setHeater h { x with degraded := true }).post (ev Ev.headDegraded Cls.head h Rc.headDegraded lost)

/-- The degraded flag of a head clears once its lost nozzles, in force and with those that firmware has staged,
fall below the limit (R312). -/
def State.undegrade (s : State) : State :=
  let view := s.view 16
  { s with health := { s.health with heaters := s.health.heaters.map (fun x =>
      if x.2.degraded && decide (max (lostOfHead s.inForce x.1) (lostOfHead view x.1)
          < (policyRec s.inForce (headRec s.inForce x.1).bar).substLimit) then
        (x.1, { x.2 with degraded := false })
      else x) } }

/-! ## From class to state (R307) -/

/-- What a confirmed class stages for a nozzle, seen through a set: its state and its substitution, unless the
set gives it both already (R307, R310, R312).  `auto`: by classification, with the policy's switches and limit.
DEDUCED, log entry 87. -/
def State.classOut (auto : Bool) (cfg : Cfg) (id cls : Nat) (s : State) : State × Option (Nat × Option SubstRec) :=
  let b := s.inForce.nozzleBar id
  let q := policyRec s.inForce b
  let st := stateOf s.inForce id
  let seen := stateOf cfg id
  if [4, 6].contains st || b == 0xFF then (s, none)
  else if cls = 0 then
    (s, if seen = 0 ∨ (auto = true ∧ (st = 3 ∨ st = 5) ∧ q.autoRecover = false) then none else some (0, none))
  else
    let plain := if cls = 4 then 3 else cls
    let keep := fun (s : State) => (s, if seen = plain then none else some (plain, none))
    if !(q.substClasses.getLsbD (cls - 1)) || (auto && !q.autoSubst) then keep s
    else if List.any s.inForce.substs (fun (p : Nat × SubstRec) => p.2.donors.contains id) then keep s
    else if auto && decide (q.substLimit ≤ lostBeside cfg id) then
      keep (s.degrade (id / 8192) (lostOfHead cfg (id / 8192)))
    else match s.selectDonors cfg id with
      | none => keep (s.postNoDonor id)
      | some r =>
        (s, if seen = stSubstituted ∧ Table.find? cfg.substs id = some r then none else some (stSubstituted, some r))

/-- A change is staged into the FW_AUTO set; the first change of an empty set starts the 20 ms (R80, R313). -/
def State.stageAuto (c : Change) (s : State) : State :=
  let x := s.sset 16
  let s := s.setSset 16 { x with staged := stageInto x.staged c }
  if x.staged.isEmpty then { s with health := { s.health with autoSince := some s.aon, refusedAt := none } }
  else s

/-- The change that gives one nozzle a state and perhaps a substitution. -/
def outChange (id : Nat) (o : Nat × Option SubstRec) : Change :=
  .outs [(id, o.1)] (match o.2 with | some r => [(id, r)] | none => [])

/-- The consequence of a confirmed class (R305, R307). DEDUCED, log entry 87. -/
def State.stageClass (id cls : Nat) (s : State) : State :=
  let q := policyRec s.inForce (s.inForce.nozzleBar id)
  if !q.autoState then s
  else match s.classOut true (s.view 16) id cls with
    | (s, none) => s
    | (s, some o) => s.stageAuto (outChange id o)

/-- One raw result of a nozzle (R305). -/
def State.rawResult (id raw : Nat) (s : State) : State :=
  let q := policyRec s.inForce (s.inForce.nozzleBar id)
  let (r, confirmed) := updateRecord q.confirmCount raw (s.record id)
  let s := s.setRecord id r
  match confirmed with
  | some c => if recHeld r then s else s.stageClass id c
  | none => s

/-- Substitutions that a lost donor served have ended: each is formed again where auto_subst is set
(R311).  `ended` are their lost nozzles. -/
def State.reform (ended : List Nat) (s : State) : State :=
  ended.foldl (fun s id =>
    let q := policyRec s.inForce (s.inForce.nozzleBar id)
    if !q.autoSubst || stateOf s.inForce id != 3 then s
    else if decide (q.substLimit ≤ lostBeside (s.view 16) id) then
      s.degrade (id / 8192) (lostOfHead (s.view 16) (id / 8192))
    else match s.selectDonors (s.view 16) id with
      | none => s.postNoDonor id
      | some r => s.stageAuto (outChange id (stSubstituted, some r))) s

/-! ## Requests and sweeps (R298–R301) -/

/-- A CFG frame of unbanked records to a port (R280). -/
def State.sendRecords (p : Nat) (records : List Byte) (s : State) : State :=
  if s.portServes p then s.sendFrame p (.cfg 0 records) else s

/-- A HEALTH_REQ record with entries for nozzles of a head (R280). -/
def reqRecord (localHead : Nat) (nozzles : List Nat) : List Byte :=
  cfgRecord 7 localHead 0 (nozzles.flatMap (fun n => le 2 n ++ zeros 2))

/-- The outstanding requests of a head, oldest first. -/
def State.headRequests (s : State) (h : Nat) : List (Nat × Nat) := s.health.requests.filter (fun r => r.1 / 8192 == h)

/-- The present nozzles that a sweep of a bar visits, in order (R300). -/
def sweepNozzles (cfg : Cfg) (b : Nat) : List Nat :=
  (cfg.headsOf b).flatMap (fun h =>
    ((headNozzles cfg h.1).filter (fun n => nmapState n.2.2 != 4 && (refRec cfg h.1 n.2.1).amp != 0)).map
      (fun n => h.1 * 8192 + n.1))

/-- A bar is swept now (R300, R317, R318). -/
def State.sweepsBar (s : State) (b : Nat) : Bool :=
  (policyRec s.inForce b).sweep && s.barEnabled b && s.healthLeads && s.linkRuns

/-- Requests of a head are issued up to req_per_head (R300). -/
def State.issueHead (b h : Nat) (s : State) : State :=
  let w := s.sweep b
  let r := headRec s.inForce h
  let n := (policyRec s.inForce b).reqPerHead - (s.headRequests h).length
  let ids := (w.todo.filter (fun id => id / 8192 == h)).take n
  if ids.isEmpty || !s.portServes r.port then s
  else
    let s := s.setSweep b { w with todo := w.todo.filter (fun id => !ids.contains id) }
    let s := { s with health := { s.health with requests := s.health.requests ++ ids.map (fun id => (id, s.aon)) } }
    s.sendRecords r.port (reqRecord r.localHead (ids.map (· % 8192)))

/-- A sweep visits a nozzle still: its head serves the bar, its state in force is not DISABLED, and its row has a
reference (R300). -/
def sweeps (cfg : Cfg) (b id : Nat) : Bool :=
  cfg.nozzleBar id == b && nozzlePresent cfg id && nmapState (nmapRec cfg id) != 4
    && (refRec cfg (id / 8192) (id % 8192 / max 1 (headRec cfg (id / 8192)).perRow)).amp != 0

/-- Nozzles that a sweep has yet to visit and visits no more leave it (R300). -/
def State.trimSweep (b : Nat) (s : State) : State :=
  s.setSweep b { s.sweep b with todo := (s.sweep b).todo.filter (sweeps s.inForce b) }

/-- A sweep that has visited every nozzle ends, with SWEEP_DONE (R300). -/
def State.endSweep (b : Nat) (s : State) : State :=
  let w := s.sweep b
  let waits := s.health.requests.any (fun r => s.inForce.nozzleBar (r.1) == b)
  if w.active && w.todo.isEmpty && !waits then
    let d := (s.aon - w.start) / 1024
    (s.setSweep b { w with active := false, lastDuration := d }).post
      (ev Ev.sweepDone Cls.bar b 0 (d % 2 ^ 32 + 2 ^ 32 * w.finished))
  else s

/-- A bar's sweep goes on: the next begins when the last has ended, and requests are issued unless the
throttle stage sheds them (R300, R301). -/
def State.sweepPump (b : Nat) (s : State) : State :=
  let s := (s.trimSweep b).endSweep b
  if !s.sweepsBar b then
    s.setSweep b { s.sweep b with active := false, todo := [] }
  else
    let s := if (s.sweep b).active then s
      else
        let l := sweepNozzles s.inForce b
        s.setSweep b { s.sweep b with active := !l.isEmpty, start := s.aon, todo := l, finished := 0 }
    if s.stage != 0 then s
    else (s.inForce.headsOf b).foldl (fun s h => s.issueHead b h.1) s

/-- A nozzle of a sweep has returned a result or has been withdrawn. -/
def State.settleRequest (id : Nat) (result : Bool) (s : State) : State :=
  let b := s.inForce.nozzleBar id
  let w := s.sweep b
  let visited := w.todo.contains id || s.health.requests.any (fun r => r.1 == id)
  let s := { s with health := { s.health with requests := s.health.requests.filter (fun r => r.1 != id) } }
  let s := if visited then
      s.setSweep b { w with
        todo := w.todo.filter (fun i => i != id), finished := if result then w.finished + 1 else w.finished }
    else s
  s.sweepPump b

/-- The outstanding requests of a port's heads are sent again (R318). -/
def State.reissue (p : Nat) (s : State) : State :=
  (s.inForce.heads.filter (fun h => h.2.bar != 0xFF && h.2.port == p)).foldl (fun s h =>
    let l := s.headRequests h.1
    if l.isEmpty || !s.healthLeads then s else s.sendRecords p (reqRecord h.2.localHead (l.map (fun r => r.1 % 8192)))) s

/-- HEALTH_REQ_TIMEOUT: an unanswered request is withdrawn (R300) by the unit that issues requests (R317);
throttling suspends it (R301). -/
def healthReqTimeout (id : Nat) (s : State) : State :=
  let h := id / 8192
  let r := headRec s.inForce h
  let q := policyRec s.inForce r.bar
  match s.health.requests.find? (fun x => x.1 == id) with
  | none => s
  | some x =>
    if s.stage != 0 || !s.linkRuns || !s.healthLeads || decide (s.aon < x.2 + q.reqTimeout * 1024) then s
    else
      let left := (s.headRequests h).filter (fun y => y.1 != id)
      let s := s.sendRecords r.port (reqRecord r.localHead (0xFFFF :: left.map (fun y => y.1 % 8192)))
      let s := s.countHealth r.bar h (fun c => { c with unfired := c.unfired + 1 })
      s.settleRequest id false

/-- HEALTH_ASSESS: an engine assesses the oldest record of the queue while PD_DATA runs (R19, R301–R305).  A record that names no
present nozzle of a bar is discarded. DEDUCED, log entry 86. -/
def healthAssess (s : State) : State :=
  match s.health.queue with
  | [] => s
  | (p, rec_) :: rest =>
    if s.activeCount 3 = 0 || !s.linkRuns then s
    else
      let s := { s with health := { s.health with queue := rest } }
      let cfg := s.inForce
      match headAt cfg p rec_.localHead with
      | none => s
      | some (h, r) =>
        if r.rows * r.perRow ≤ rec_.nozzle then s
        else
          let id := h * 8192 + rec_.nozzle
          let ref := refRec cfg h (rec_.nozzle / r.perRow)
          let s := if ref.amp = 0 then
              s.countHealth r.bar h (fun c => { c with unreferenced := c.unreferenced + 1 })
            else
              let f := features rec_.samples
              let s := s.countHealth r.bar h (fun c => { c with assessed := c.assessed + 1 })
              let s := { s with health := { s.health with
                results := s.health.results.set id { amplitude := f.1, period := f.2.1, decay := f.2.2, aon := s.aon } } }
              s.rawResult id (rawClass (policyRec cfg r.bar) ref f.1 f.2.1 f.2.2)
          s.settleRequest id (ref.amp != 0)

/-- The records of an HLT frame join the queue; what finds it full is discarded (R301).
DEDUCED, log entry 86. -/
def State.queueHlt (p : Nat) (recs : List HltRec) (s : State) : State :=
  let free := 65536 - s.health.queue.length
  let s := { s with health := { s.health with queue := s.health.queue ++ (recs.take free).map (fun r => (p, r)) } }
  (recs.drop free).foldl (fun s _ =>
    let n := s.health.overflow + 1
    { s with health := { s.health with overflow := n } }.post (ev Ev.healthOverflow Cls.system 0 Rc.hltOverflow n.toNat)) s

/-! ## Head temperature (R315, R316) -/

/-- A head's temperature: from the latest STS on its port (R315). -/
def State.lastTemp (s : State) (h : Nat) : Option Int :=
  let r := headRec s.inForce h
  match (s.port r.port).sts with
  | none => none
  | some x => if r.bar = 0xFF then none else (x.heads[r.localHead]?).bind (·.temperature)

/-- A head's temperature for regulation: from an STS at most 50 ms (51,200 AON ticks) old (R315). -/
def State.headTemp (s : State) (h : Nat) : Option Int :=
  if (s.port (headRec s.inForce h).port).stsAt + 51200 < s.aon then none else s.lastTemp h

/-- HEAD_TEMP (R320). -/
def headTempBody (h : Nat) (reason : Reason) (t : Option Int) (setpoint : Int) : EventBody :=
  ev Ev.headTemp Cls.head h reason
    ((BitVec.ofInt 16 (t.getD (-32768))).toNat + 65536 * (BitVec.ofInt 16 setpoint).toNat)

/-- The loop of R316 for one head: duty, integ, temp_lost and overtemp. -/
def heaterStep (r : HeadTempRec) (t : Option Int) (x : Heater) : Heater :=
  match t with
  | none => { x with duty := 0, integ := 0, tempLost := true }
  | some v =>
    if r.setpoint + r.overMargin < v then { x with duty := 0, integ := 0, overTemp := true }
    else
      let e := r.setpoint - v
      let u := (r.kp * e + r.ki * (x.integ + e)) / 256
      let x := { x with tempLost := false, overTemp := false }
      if u < 0 then { x with duty := 0 }
      else if (r.maxDuty : Int) < u then { x with duty := r.maxDuty }
      else { x with duty := u.toNat, integ := x.integ + e }

/-- A HEATER record goes out (R280, R316). -/
def State.sendHeater (h : Nat) (s : State) : State :=
  let r := headRec s.inForce h
  let x := s.heater h
  if r.bar = 0xFF || !s.portServes r.port then s
  else
    (s.setHeater h { x with sentAt := some s.aon, sentDuty := x.duty }).sendRecords r.port
      (cfgRecord 6 r.localHead 0 (le 2 x.duty ++ zeros 2))

/-- The loop for one regulated head, with its record and its event (R316). -/
def State.heaterHead (h : Nat) (s : State) : State :=
  let r := tempRec s.inForce h
  let x := s.heater h
  let t := s.headTemp h
  let y := heaterStep r t x
  let s := s.setHeater h y
  let due := match x.sentAt with
    | none => true
    | some at_ => decide (at_ + 1024000 ≤ s.aon)
  let s := if y.duty != x.sentDuty || due then s.sendHeater h else s
  let reason := if y.tempLost && !x.tempLost then some Rc.headTempLost
    else if y.overTemp && !x.overTemp then some Rc.headOvertemp
    else if (x.tempLost && !y.tempLost) || (x.overTemp && !y.overTemp) then some Rc.success
    else none
  match reason with
  | some c => s.postLimited ⟨Ev.headTemp, h, 0⟩ (headTempBody h c t r.setpoint)
  | none => s

/-- HEATER_LOOP: every 10,240 AON ticks (R316). -/
def heaterLoop (s : State) : State :=
  if !s.healthLeads || !s.linkRuns || decide (s.aon < s.health.lastLoop + 10240) then s
  else
    let s := { s with health := { s.health with lastLoop := s.aon } }
    (List.range 256).foldl (fun s h => if (tempRec s.inForce h).enable then s.heaterHead h else s) s

/-! ## The HEALTH commands (R319) -/

/-- HEALTH.POLICY_SET. -/
def healthPolicySetBody (rq : Request) (_s : State) : Verdict :=
  checked (policyFields rq.payload) (.stage (.policy (fld rq.payload 0 1) (policyOf rq.payload)))

/-- HEALTH.REF_SET: refused for a row that the head does not have. -/
def healthRefSetBody (rq : Request) (s : State) : Verdict :=
  let p := rq.payload
  checked (refFields p) <|
    if (headRec (s.view rq.mbx.val) (fld p 0 1)).rows ≤ fld p 1 1 then
      refuseObj Rc.rowNotInHead Cls.head (fld p 0 1)
    else .stage (.ref (fld p 0 1) (fld p 1 1) (refOf p))

/-- The size of a HEALTH.SUBST_SET request. -/
def healthSubstSetSize (rq : Request) : Nat := 8 + 24 * fld rq.payload 0 2
/-- The size of a request that lists nozzles. -/
def nozzleListSize (rq : Request) : Nat := 8 + 4 * fld rq.payload 0 2

/-- HEALTH.SUBST_SET (R308). -/
def healthSubstSetBody (rq : Request) (s : State) : Verdict :=
  let p := rq.payload
  let count := fld p 0 2
  checked ((decide (1 ≤ count ∧ count ≤ 41), 0) :: (List.range count).flatMap (fun i => substFields p (8 + 24 * i))) <|
    let es := (List.range count).map (fun i => substOf p (8 + 24 * i))
    match substsDefect s.inForce (s.view rq.mbx.val) es with
    | some (lost, r) => refuseObj r Cls.head (lost / 8192)
    | none => .stage (.substs es)

/-- The nozzle ids that a request lists. -/
def nozzleIds (p : List Byte) : List Nat := (List.range (fld p 0 2)).map (fun i => fld p (8 + 4 * i) 4)

/-- The fields of a request that lists nozzles. -/
def nozzleListFields (p : List Byte) : List (Bool × Nat) :=
  (decide (1 ≤ fld p 0 2 ∧ fld p 0 2 ≤ 250), 0)
    :: (List.range (fld p 0 2)).map (fun i => (decide (fld p (8 + 4 * i) 4 < 2097152), 8 + 4 * i))

/-- The fields of a request that lists nozzles and reports nothing: its kind is 0 (R13, R319). -/
def plainListFields (p : List Byte) : List (Bool × Nat) :=
  (decide (1 ≤ fld p 0 2 ∧ fld p 0 2 ≤ 250), 0) :: (fld p 2 1 == 0, 2) :: (nozzleListFields p).drop 1

/-- HEALTH.SUBST_CLEAR (R311). -/
def healthSubstClearBody (rq : Request) (s : State) : Verdict :=
  let p := rq.payload
  checked (plainListFields p) <|
    let cfg := s.view rq.mbx.val
    let bad := (nozzleIds p).findSome? (fun id =>
      if (Table.find? cfg.substs id).isNone && (Table.find? s.inForce.substs id).isNone then
        some (id, Rc.noSubstitution)
      else if recHeld (s.record id) then some (id, Rc.hostHeld)
      else none)
    match bad with
    | some (id, r) => refuseObj r Cls.head (id / 8192)
    | none => .stage (.substClear (nozzleIds p))

/-- The raw class of a reported kind (R314). -/
def reportClass (kind : Nat) : Nat := if kind = 0 then 3 else if kind = 1 then 2 else 1

/-- A report that is not advisory: the records at once, and the change for the mailbox's set (R314).
DEDUCED, log entry 87. -/
def State.reportOuts (mbx cls : Nat) (ids : List Nat) (s : State) :
    State × List (Nat × Nat) × List (Nat × SubstRec) :=
  ids.foldl (fun (acc : State × List (Nat × Nat) × List (Nat × SubstRec)) id =>
    let s := acc.1.setRecord id (mkRecord cls (recCandidate (acc.1.record id)) 0 true (recLastRaw (acc.1.record id)))
    match s.classOut false ((s.view mbx).apply (.outs acc.2.1 acc.2.2)) id cls with
    | (s, none) => (s, acc.2)
    | (s, some (st, none)) => (s, acc.2.1 ++ [(id, st)], acc.2.2)
    | (s, some (st, some r)) => (s, acc.2.1 ++ [(id, st)], acc.2.2 ++ [(id, r)])) (s, [], [])

/-- HEALTH.REPORT_OUT (R314). DEDUCED, log entry 87. -/
def healthReportOutBody (rq : Request) (s : State) : Verdict :=
  let p := rq.payload
  let kind := fld p 2 1
  checked ((decide (1 ≤ fld p 0 2 ∧ fld p 0 2 ≤ 250), 0) :: (decide (kind < 3), 2) :: (nozzleListFields p).drop 1) <|
    let cls := reportClass kind
    if bit (fld p 3 1) 0 then .done ((nozzleIds p).foldl (fun s id => s.rawResult id cls) s) []
    else
      let (s', states, es) := s.reportOuts rq.mbx.val cls (nozzleIds p)
      .stageWith s' (.outs states es)

/-- HEALTH.RELEASE_OUT (R314). -/
def healthReleaseOutBody (rq : Request) (s : State) : Verdict :=
  let p := rq.payload
  checked (plainListFields p) <|
    .done ((nozzleIds p).foldl (fun s id =>
      let r := s.record id
      s.setRecord id (mkRecord 7 (recCandidate r) (recCount r) false (recLastRaw r))) s) []

/-- HEALTH.TEMP_SET. -/
def healthTempSetBody (rq : Request) (_s : State) : Verdict :=
  checked (tempFields rq.payload) (.stage (.temp (fld rq.payload 0 1) (tempOf rq.payload)))

/-- One entry of HEALTH.NOZZLE_READ; a result's age saturates below the value that says no result.
DEDUCED, log entry 85. -/
def nozzleReadEntry (s : State) (id : Nat) : List Byte :=
  le 4 (recordBits s.inForce id (s.record id)) ++
    match Table.find? s.health.results id with
    | none => zeros 6 ++ le 2 0xFFFF
    | some r => le 2 r.amplitude ++ le 2 r.period ++ le 1 r.decay ++ zeros 1
        ++ le 2 (min 0xFFFE ((s.aon - r.aon) / 1024000))

/-- HEALTH.NOZZLE_READ. -/
def healthNozzleReadBody (rq : Request) (s : State) : Verdict :=
  let p := rq.payload
  let first := fld p 0 4
  let count := fld p 4 2
  checked [(decide (first < 2097152), 0), (decide (1 ≤ count ∧ count ≤ 80 ∧ first + count ≤ 2097152), 4)] <|
    .done s ((List.range count).flatMap (fun i => nozzleReadEntry s (first + i)))

/-- HEALTH.SUBST_READ. -/
def healthSubstReadBody (rq : Request) (s : State) : Verdict :=
  let p := rq.payload
  let first := fld p 0 4
  let count := fld p 4 2
  checked [(decide (first < 2097152), 0), (decide (1 ≤ count ∧ count ≤ 41), 4)] <|
    let l := (List.filter (fun (x : Nat × SubstRec) => decide (first ≤ x.1)) (s.readCfg rq).substs).take count
    .done s ((l.flatMap (fun x => substBytes x.1 x.2) ++ zeros (24 * count)).take (24 * count))

/-- The counters of HEALTH.STATUS. -/
def healthCounters (x : HealthStat) (substs saturated : Nat) : List Byte :=
  le 4 x.assessed.toNat ++ le 4 x.unfired.toNat ++ le 4 x.unreferenced.toNat ++ le 4 substs ++ le 4 saturated

/-- HEALTH.STATUS. -/
def healthStatusBody (rq : Request) (s : State) : Verdict :=
  let p := rq.payload
  let id := fld p 2 2
  let cfg := s.inForce
  checked [(decide (fld p 0 1 < 2), 0), (decide (id < if fld p 0 1 = 0 then 16 else 256), 2)] <|
    if fld p 0 1 = 0 then
      let w := s.sweep id
      let n := (List.filter (fun (x : Nat × SubstRec) => cfg.nozzleBar x.1 == id) cfg.substs).length
      .done s (le 1 (b2n w.active + 2 * b2n (w.active && s.stage != 0)) ++ zeros 7
        ++ healthCounters (s.barStat id) n (s.barStat id).saturated.toNat ++ le 4 w.lastDuration)
    else
      let x := s.heater id
      .done s (le 1 (b2n x.degraded + 2 * b2n (tempRec cfg id).enable + 4 * b2n x.tempLost + 8 * b2n x.overTemp)
        ++ zeros 1 ++ leInt 2 ((s.lastTemp id).getD (-32768)) ++ le 2 x.sentDuty ++ zeros 2
        ++ healthCounters (s.headStat id) (lostOfHead cfg id) (s.headStat id).saturated.toNat
        ++ le 4 (s.headStat id).dropped.toNat)

/-- HEALTH.GET. -/
def healthGetBody (rq : Request) (s : State) : Verdict :=
  let p := rq.payload
  let id := fld p 2 2
  let cfg := s.readCfg rq
  checked [(decide (fld p 0 1 < 3), 0), (decide (id < match fld p 0 1 with | 0 => 16 | 1 => 2048 | _ => 256), 2)] <|
    .done s (match fld p 0 1 with
      | 0 => policyBytes id (policyRec cfg id)
      | 1 => refBytes (id / 8) (id % 8) (refRec cfg (id / 8) (id % 8))
      | _ => tempBytes id (tempRec cfg id))

/-- HEALTH.CLEAR: bit 0 clears the counters, bit 1 a head's degraded flag; the other bits are ignored (R12). -/
def healthClearBody (rq : Request) (s : State) : Verdict :=
  let p := rq.payload
  let what := fld p 1 1
  let id := fld p 2 2
  checked [(decide (fld p 0 1 < 2), 0), (decide (id < if fld p 0 1 = 0 then 16 else 256), 2)] <|
    if fld p 0 1 = 0 then .done (if bit what 0 then s.setBarStat id {} else s) []
    else
      let s := if bit what 0 then s.setHeadStat id {} else s
      .done (if bit what 1 then s.setHeater id { s.heater id with degraded := false } else s) []

end Sys2Proof.Machine
end

