-- ==== Sys2Proof/Machine/Twin.lean ====
section
/-!
DEFINITION. The state of a twin pair: PAIR_STATE and its change bits (R347), withdrawal and
resynchronisation (R341), digests (R339, R340), promotion (R343) and the end of a pair (R344).
-/

namespace Sys2Proof.Machine

open Sys2Proof

/-- The codes of PAIR_STATE (R347). -/
def pairCode : PairState → Nat
  | .unpaired => 0
  | .training => 1
  | .syncing => 2
  | .paired => 3
  | .withdrawn => 4
  | .incompatible => 5

/-- A bit of PAIR_CHANGE becomes 1; a change from 0 sets vector 27 (R347). -/
def State.pairChange (i : Nat) (s : State) : State :=
  let old := s.pair.change
  let s := { s with pair := { s.pair with
    change := old ||| (1#6 <<< i), cycle := s.pair.cycle.note s.now (bit28 i) 0 0 } }
  if old.getLsbD i then s else s.raiseInt 27

/-- PAIR_STATE changes and is posted (R349). DEDUCED, log entry 88. -/
def State.setPair (st : PairState) (reason : Reason) (s : State) : State :=
  if s.pair.state == st then s
  else
    let old := s.pair.state
    ({ s with pair := { s.pair with state := st } }.post
      (ev Ev.pairState Cls.system 0 reason (pairCode st + 16 * pairCode old))).pairChange 0

/-- A pair runs: it is PAIRED, or resynchronises (R341). -/
def State.pairRuns (s : State) : Bool :=
  s.pair.state == .paired || s.pair.state == .syncing || s.pair.state == .withdrawn

/-- The flag WITHDRAWN of the RIM blocks of every Cane port (R326, R341). -/
def State.flagWithdrawn (w : Bool) (s : State) : State :=
  ({ s with pair := { s.pair with selfWithdrawn := w } }.emit (.withdrawn w)).emitRims

/-- Unit S withdraws and its PEER set is emptied (R341 step 1). -/
def State.withdraw (s : State) : State :=
  let s := s.flagWithdrawn true
  (({ s with pair := { s.pair with
      snapped := false, prepared := none, preparing := none, joins := [], matches_ := [], badLines := [], openLines := [], lastGood := []
      ownDigests := [], twinDigests := [], consec := [] } }).setSset 17 {})

/-- Unit S starts resynchronisation, and asks unit P for its snapshot once its time is aligned (R341).
DEDUCED, log entry 95. -/
def State.startResync (reason : Reason) (s : State) : State :=
  let s := if s.follows then s else { s with pair := { s.pair with streamClosed := s.tick, edges := [] } }
  let s := s.withdraw.setPair .syncing (if reason = Rc.mirrorFailed then reason else 0)
  let s := if s.pair.timeAligned then s.emit (.control (.withdrawn true)) else s
  { s with pair := { s.pair with resyncFrom := some s.tick, fallback := false } }

/-- The pair ends in this unit and it goes on alone, or in standby (R325, R344); a state event already stamped
still applies at its tick (R333). DEDUCED, log entry 95. -/
def State.unpair (reason : Reason) (s : State) : State :=
  let s := { s with pair := { s.pair with
    resyncFrom := none, trainFrom := none, snapped := false, prepared := none, preparing := none, joins := [], ownDigests := []
    twinDigests := [], ceilNext := [], ceilPast := [], temps := [], edges := [], motions := []
    fallback := false, goodAlign := 0, timeAligned := false, resyncFails := 0 } }
  s.setPair .unpaired reason

/-- The command that asked for a resynchronisation completes (R348). DEDUCED, log entry 90. -/
def State.resyncDone (reason : Reason) (s : State) : State :=
  match s.pair.resyncWaiter with
  | none => s
  | some w => { s with pair := { s.pair with resyncWaiter := none } }.commandDone w reason 0 0

/-- This unit leaves the pair by its own state: unit P declares it, unit S withdraws (R326, R344).
DEDUCED, log entry 95. -/
def State.leavePair (s : State) : State :=
  let s := if s.pair.state == .training then s.setPair .unpaired 0 else s
  if !s.pairRuns then s
  else
    let s := s.flagWithdrawn true
    let s := if s.pinsHeld then s else (s.emit .hbOff).emit .faultDeclared
    (s.unpair 0).resyncDone Rc.resyncFailed

/-- This unit drives the shared outputs and leads health (R347): unit P, a promoted unit, and a unit alone
with PAIR_ID low. -/
def State.acting (s : State) : Bool := !s.pinsHeld

/-- The level of the act_gpio ball: it is asserted while the unit is acting (R343, R348). -/
def State.driveActGpio (s : State) : State :=
  if s.pair.actGpio = 0xFF then s else s.emit (.actGpio s.pair.actGpio (s.acting != s.pair.actLow))

/-- The act_gpio ball is high-impedance in SLEEP, OFF-AON and SAFE (R493). DEDUCED, log entry 169. -/
def State.releaseGpio (s : State) : State :=
  if s.pair.actGpio = 0xFF then s else s.emit (.actGpioOff s.pair.actGpio)

/-- The balls that this unit drives as SSI clocks: an enabled SSI axis each (R124). -/
def State.ssiBalls (s : State) : List Nat :=
  if s.pinsHeld then []
  else (List.range 8).filter (fun n => (axisRec s.inForce n).ssi && (s.axis n).motion != .disabled)

/-- The SSI clock balls are driven, at rest high, or are high-impedance, as in SLEEP (R139, R493).
DEDUCED, log entry 169. -/
def State.driveSsi (on : Bool) (s : State) : State := s.ssiBalls.foldl (fun s n => s.emit (.ssiDrive n on)) s

/-- The balls of the echo and TRIGOUT outputs and of the SSI clocks that this unit drives become
high-impedance (R124, R147, R151, R179). -/
def State.releaseBalls (s : State) : State :=
  if s.pinsHeld then s
  else
    let s := (List.range 4).foldl (fun s k => if (echoRec s.inForce k).enable then s.emit (.echoOff k) else s) s
    let s := (List.range 8).foldl (fun s k => if (trigoutRec s.inForce k).enable then s.emit (.trigoutOff k) else s) s
    s.driveSsi false

/-- Every echo output and TRIGOUT ball is driven at its present level (R343). -/
def State.driveBalls (s : State) : State :=
  let s := (List.range 4).foldl (fun s k =>
    if (echoRec s.inForce k).enable then s.emit (.echo k (echoPins (s.echo k).state).1 (echoPins (s.echo k).state).2)
    else s) s
  (List.range 8).foldl (fun s k =>
    if (trigoutRec s.inForce k).enable then
      s.emit (.trigout k ((s.trigoutOf k).asserted != (trigoutRec s.inForce k).activeLow))
    else s) s

/-- Promotion (R343). DEDUCED, log entry 91; DESIGN CHOICE, log entry 168. -/
def State.promote (reason : Reason) (s : State) : State :=
  let s := { s with pair := { s.pair with promoted := true } }
  let s := s.driveBalls.driveActGpio
  let s := s.logOpen { origin := .fwAuto, reason := reason }
  let s := (s.post (ev Ev.pairPromoted Cls.system 0 reason s.tick)).pairChange 1
  let s := (s.unpair 0).resyncDone Rc.resyncFailed
  (List.range 16).foldl (fun s b => s.sweepPump b) s

/-! ## Digests (R339, R340) -/

/-- Digests of one line and port. -/
def sameLine (d e : Digest) : Bool := d.bar == e.bar && d.port == e.port && d.line == e.line

/-- Unit S has matched enough lines, or no bar prints: it is PAIRED again (R341 step 5). -/
def State.trySynced (s : State) : State :=
  let bars := if s.sys == .printing then s.enabledBars else []
  if s.pair.unitS && !s.pair.promoted && s.pair.state == .syncing && s.pair.snapped && s.pair.timeAligned
      && bars.all (fun b => decide (s.pair.resyncMatch ≤ s.pair.matches_.get 0 b)) then
    let n := (s.pair.resyncs + 1) % 65536
    let s := { s with pair := { s.pair with resyncFrom := none, resyncFails := 0, resyncs := n } }
    let s := ((s.flagWithdrawn false).emit (.control (.withdrawn false))).setPair .paired 0
    (s.post (ev Ev.pairSynced Cls.system 0 0 n)).resyncDone 0
  else s

/-- Some digest of a line of a bar has not been compared yet. -/
def State.digestsLeft (s : State) (b : Nat) (line : Word) : Bool :=
  (s.pair.ownDigests ++ s.pair.twinDigests).any (fun d => d.bar == b && d.line == line)

/-- A digest of this line of a bar has mismatched. -/
def State.lineBad (s : State) (b : Nat) (line : Word) : Bool := (s.pair.badLines.get [] b).contains line

/-- A mismatch of a line digest (R340): each counts in divergences; a line counts once towards the
consecutive lines, also where one of its digests has matched before. DEDUCED, log entry 153. -/
def State.mismatch (b p : Nat) (line : Word) (s : State) : State :=
  let before := match Table.find? s.pair.lastGood b with
    | some (y, n) => if y == line then n else s.pair.consec.get 0 b
    | none => s.pair.consec.get 0 b
  let n := before + (if s.lineBad b line then 0 else 1)
  let bad := line :: (s.pair.badLines.get [] b).filter (fun y => y != line && s.digestsLeft b y)
  let s := { s with pair := { s.pair with
    consec := s.pair.consec.set b n, consecMax := min 65535 (max s.pair.consecMax n)
    divergences := s.pair.divergences + 1, cycle := s.pair.cycle.note s.now 0 0 1, matches_ := s.pair.matches_.set b 0
    badLines := s.pair.badLines.set b bad, openLines := s.pair.openLines.filter (fun y => y != (b, line))
    lastGood := s.pair.lastGood.filter (fun x => x.1 != b) } }
  let s := s.pairChange 3
  let s := s.postLimited ⟨Ev.pairDiverge, b, 0⟩
    (ev Ev.pairDiverge Cls.bar b Rc.digestMismatch (line.toNat + 2 ^ 32 * p))
  if 3 ≤ n ∧ s.pair.unitS ∧ s.pair.state = .paired then
    s.startResync Rc.digestMismatch
  else s

/-- A line with a match, of whose digests none is left to compare and none has mismatched, matches: it ends the
consecutive count (R340, R341). DEDUCED, log entry 153. -/
def State.settleLine (b : Nat) (line : Word) (s : State) : State :=
  if !s.pair.openLines.contains (b, line) || s.digestsLeft b line then s
  else
    let p := s.pair
    ({ s with pair := { p with
      openLines := p.openLines.filter (fun y => y != (b, line)), lastGood := p.lastGood.set b (line, p.consec.get 0 b)
      consec := p.consec.set b 0, matches_ := p.matches_.set b (p.matches_.get 0 b + 1) } }).trySynced

/-- A match of a line digest (R340). DEDUCED, log entry 153. -/
def State.lineMatch (b : Nat) (line : Word) (s : State) : State :=
  let counted := match Table.find? s.pair.lastGood b with
    | some (y, _) => y == line
    | none => false
  if s.lineBad b line || counted then s
  else
    let p := s.pair
    ({ s with pair := { p with
      openLines := (b, line) :: p.openLines.filter (fun y => y != (b, line)) } }).settleLine b line

/-- Two digests of one line meet (R339): an excluded one is not compared, and the line's others decide. -/
def State.compareDigests (own twin : Digest) (s : State) : State :=
  let keep := fun (l : List Digest) => l.filter (fun d => !sameLine d own)
  let s := { s with pair := { s.pair with
    ownDigests := keep s.pair.ownDigests, twinDigests := keep s.pair.twinDigests } }
  if own.excluded || twin.excluded then s.settleLine own.bar own.line
  else if own.digest = twin.digest then s.lineMatch own.bar own.line
  else s.mismatch own.bar own.port own.line

/-- A line from its join line on is compared (R341 step 4): none is while a resynchronisation has no join
lines yet. -/
def State.comparesLine (s : State) (b : Nat) (line : Word) : Bool :=
  match s.pair.joins.find? (fun j => j.1 == b) with
  | some j => decide (0 ≤ ahead32 j.2 line)
  | none => s.pair.state == .paired || !s.pair.joins.isEmpty

/-- This unit closes a line digest and sends it (R339). -/
def State.closeDigest (d : Digest) (s : State) : State :=
  if s.pair.state == .paired || s.pair.state == .syncing then
    let s := s.emit (.digest d)
    if !s.comparesLine d.bar d.line then s
    else match s.pair.twinDigests.find? (sameLine d) with
      | some t => s.compareDigests d t
      | none => { s with pair := { s.pair with ownDigests := s.pair.ownDigests ++ [d] } }
  else s

/-- DIGEST_RECEIVED (R339). -/
def digestReceived (b p : Nat) (line digest : Word) (excluded : Bool) (s : State) : State :=
  let d : Digest := { bar := b, port := p, line := line, digest := digest, excluded := excluded, closed := s.tick }
  if !(s.pair.state == .paired || s.pair.state == .syncing) || !s.comparesLine b line then s
  else match s.pair.ownDigests.find? (sameLine d) with
    | some o => s.compareDigests o d
    | none => { s with pair := { s.pair with twinDigests := s.pair.twinDigests ++ [d] } }

/-- DIGEST_ABSENT: one unit's digest is absent 2 ms after the fire (R339). -/
def digestAbsent (b p : Nat) (line : Word) (s : State) : State :=
  let old (d : Digest) : Bool :=
    d.bar == b && d.port == p && d.line == line && decide (d.closed + 800000 ≤ s.tick)
  match (s.pair.ownDigests ++ s.pair.twinDigests).find? old with
  | none => s
  | some d =>
    let keep := fun (l : List Digest) => l.filter (fun e => !sameLine e d)
    let s := { s with pair := { s.pair with
      ownDigests := keep s.pair.ownDigests, twinDigests := keep s.pair.twinDigests } }
    if d.excluded then s.settleLine b line else s.mismatch b p line

end Sys2Proof.Machine
end

