-- ==== Sys2Proof/Machine/Apply.lean ====
section
/-!
DEFINITION. What happens when a change comes into force (R28–R30, R85, R517): the run sequence that the
line engine follows (R223), the head supplies (R403), and the effect of each kind of change on the
running state.
-/

namespace Sys2Proof.Machine

open Sys2Proof

/-! ## The run sequence of the line engine (R223) -/

/-- The first entry from `n` on that makes tickets: SPIT runs are passed over, and an END run ends the
sequence. -/
def lineEntry (cfg : Cfg) (g n : Nat) : Nat → Option Nat
  | 0 => none
  | f + 1 =>
    let r := runRec cfg g n
    if !r.spit then some n else if r.end_ then none else lineEntry cfg g r.next f

/-- The extended index of a run's first line (R220, R223): its base, placed relative to the line before it.
A base that is not ahead of that line is adjusted by the generator alone (R162, R229). -/
def runFirst (last : Option Int) (base : Word) : Int :=
  match last with
  | none => base.toNat
  | some l => l + ahead32 (BitVec.ofInt 32 l) base

/-- The engine follows the run sequence of bar `b` from entry `n` on, after line `last`. -/
def State.seqFrom (b n : Nat) (last : Option Int) (s : State) : State :=
  let g := s.inForce.trigOf b
  let x := s.rbar b
  match lineEntry s.inForce g n 1024 with
  | none => (s.setRbar b { x with next := last.map (· + 1), seqEnded := true }).moveWindow b
  | some e =>
    let r := runRec s.inForce g e
    (s.setRbar b { x with
      next := some (runFirst last r.base), seqEntry := e, seqLeft := r.count, seqEnded := false }).moveWindow b

/-- L_b is set from the start entry, with a fresh line index (R220, R223). -/
def State.seqStart (b : Nat) (s : State) : State :=
  let t := s.trig (s.inForce.trigOf b)
  let x := s.rbar b
  (s.setRbar b { x with newest := none, lastTicket := none, tickets := [], prepared := x.prepared.filter (·.ticketed) }).seqFrom b t.startEntry none

/-- L_b moves past a line (R223); after an END run it stays on the line that would come next.
DEDUCED, log entry 72. -/
def State.seqAdvance (b : Nat) (s : State) : State :=
  let x := s.rbar b
  match x.due with
  | none => s
  | some l =>
    if 1 < x.seqLeft then (s.setRbar b { x with next := some (l + 1), seqLeft := x.seqLeft - 1 }).moveWindow b
    else
      let r := runRec s.inForce (s.inForce.trigOf b) x.seqEntry
      if r.end_ then (s.setRbar b { x with next := some (l + 1), seqEnded := true }).moveWindow b
      else s.seqFrom b r.next (some l)

/-- A bar whose generator is enabled in force (R101). -/
def State.runsBar (s : State) (g : Nat) : Bool := s.inForce.tgEn.get false g

/-! ## The head supplies (R403, R404) -/

/-- The conditions of R403. -/
def State.hvWanted (s : State) (k : Nat) : Bool :=
  (s.inForce.hvs.get {} k).enable && !s.power.hvFailed.getLsbD k && s.sys.operating
    && (s.pwr == .run || s.pwr == .ready || s.pwr == .doze) && !s.hvEnds

/-- A bit of a byte takes a value. -/
def putBit (v : Byte) (k : Nat) (b : Bool) : Byte :=
  if b then v ||| (1#8 <<< k) else v &&& ~~~(1#8 <<< k)

/-- HV_STATE (R411). -/
def State.postHv (k : Nat) (reason : Reason) (s : State) : State :=
  s.post (ev Ev.hvState Cls.system 0 reason
    (k + 256 * b2n (s.power.hven.getLsbD k) + 512 * b2n (s.power.hvok.getLsbD k)
      + 1024 * b2n (s.power.hvFailed.getLsbD k)))

/-- HVOK[k] as HVEN[k] changes: high once `hv_on_timeout` has passed without its condition (R404), before that what
the pin reads, a free value. DESIGN CHOICE, log entry 166. -/
def State.hvokNow (s : State) (k : Nat) : Bool :=
  s.power.hvok.getLsbD k || (match (s.hvt k).riseAt with
    | some t => decide (t + (s.inForce.hvs.get {} k).onTimeout * 1024 ≤ s.aon) || Config.freeNat s.fresh % 2 == 1
    | none => false)

/-- HVEN[k] takes a level (R403): its supply then rises, or discharges. DEDUCED, log entry 106. -/
def State.driveHven (k : Nat) (v : Bool) (s : State) : State :=
  let t : Hv := if v then { riseAt := some s.aon } else { fallAt := some s.aon }
  let p := s.power
  let p := { p with hven := putBit p.hven k v, hvok := putBit p.hvok k (s.hvokNow k) }
  ({ s with power := p, fresh := s.fresh + 1 }.setHvt k t).postHv k 0

/-- Every HVEN follows its conditions (R403); on entry to FAULT they fall after the last fire (R44). -/
def State.hvUpdate (s : State) : State :=
  if s.sys == .fault && s.firesLeft then s
  else (List.range 8).foldl (fun s k =>
    let high := s.power.hven.getLsbD k
    if s.hvWanted k == high then s else s.driveHven k (!high)) s

/-- HVEN[7:0] is low (R403: from U0 on, and at once in SAFE). -/
def State.hvLow (s : State) : State :=
  (List.range 8).foldl (fun s k => if s.power.hven.getLsbD k then s.driveHven k false else s) s

/-! ## Held lines, bursts and sequences that end -/

/-- A held line is cancelled with a CANCEL strobe on every port of its bar (R173). -/
def State.cancelLine (b g : Nat) (s : State) (l : TLine) : State :=
  let s := if s.linkRuns then s.strobe b .cancel l.line l.fire 0 l.bank else s
  s.countDrop g Rc.holdLate l.line

/-- The held lines of a generator's bar are lost (R173). -/
def State.cancelHeld (g : Nat) (s : State) : State :=
  let b := s.inForce.sourceBar g
  let t := s.trig g
  let gone := t.lines.filter (·.held)
  let s := s.setTrig g { t with lines := t.lines.filter (fun l => !l.held) }
  let s := gone.foldl (State.cancelLine b g) s
  let r := s.rbar b
  let s := s.setRbar b { r with prepared := r.prepared.filter (fun y => !gone.any (fun l => l.line == y.line)) }
  (List.range 32).foldl (fun s p =>
    let x := s.port p
    s.setPort p { x with buffered := x.buffered.filter (fun y => !(y.bar == b && gone.any (fun l => l.line == y.line))) }) s

/-- The rest of a spit burst is not fired (R177). DEDUCED, log entry 63. -/
def State.cutBurst (g : Nat) (reason : Reason) (s : State) : State :=
  let t := s.trig g
  s.setTrig g { t with burst := t.burst.map (fun u => { u with cut := u.cut <|> some reason }) }

/-! ## The effect of a change as it comes into force -/

/-- An enabled generator's sequence is followed anew from its start entry (R160, R223). -/
def State.enterSequence (g : Nat) (s : State) : State :=
  let b := s.inForce.sourceBar g
  let s := if s.evaluates then s.loadFresh g else s.setTrig g { s.trig g with state := .idle }
  (s.seqStart b).primeCheck b

/-- TRIG.ENABLE applies (R160, R173, R180). -/
def State.hookTrigEnable (g : Nat) (e : Bool) (start : Nat) (s : State) : State :=
  if e then (s.setTrig g { s.trig g with startEntry := start }).enterSequence g
  else
    let b := s.inForce.sourceBar g
    let s := (s.cancelHeld g).cutBurst g Rc.tgNotEnabled
    let s := s.setTrig g { s.trig g with state := .disabled }
    let x := s.rbar b
    s.setRbar b { x with
      next := none, seqEnded := true, prepared := x.prepared.filter (·.ticketed), tickets := [], newest := none }

/-- TRIG.RUN_START applies (R160). -/
def State.hookRunStart (g entry : Nat) (s : State) : State :=
  let s := s.setTrig g { s.trig g with startEntry := entry }
  let b := s.inForce.sourceBar g
  if !s.runsBar g then s
  else if s.evaluates then (s.loadRun g entry).seqFrom b entry (s.rbar b).newest
  else if s.sys == .ready then s.seqStart b
  else s

/-- A run table changes while its generator waits in READY: the engine follows the table in force (R223). -/
def State.hookRun (g : Nat) (s : State) : State :=
  if s.sys == .ready && s.runsBar g then s.seqStart (s.inForce.sourceBar g) else s

/-- AXIS.ENABLE applies (R134, R135, R137, R138, R142); the filtered levels stand. DESIGN CHOICE, log entry 163. -/
def State.hookAxisEnable (n : Nat) (e : Bool) (s : State) : State :=
  let r := axisRec s.inForce n
  let a := s.axis n
  if e && a.motion != .disabled then s
  else if e then
    let s := s.setAxis n { startWindows r.speedWindow s.tick a with
      motion := .stopped, faultReason := 0, ssiPrev := none, prevIndex := none, fresh := 0, ssiConsec := 0
      ssiPhase := .idle }
    (if r.ssi && !s.pinsHeld then s.emit (.ssiDrive n true) else s).postMotion n
  else
    let s := s.setAxis n { a with motion := .disabled, faultReason := 0, ssiPhase := .idle }
    if r.ssi && !s.pinsHeld then s.emit (.ssiDrive n false) else s

/-- AXIS.CONFIG applies: the axis has a configured input (R153), a frame of another format does not go on,
the windows of another length begin at its next multiple (R134), and an input of the other mode takes or
leaves the clock ball (R124). -/
def State.hookAxis (n : Nat) (old : AxisRec) (s : State) : State :=
  let r := axisRec s.inForce n
  let a := s.axis n
  let w := if r.speedWindow == old.speedWindow || a.motion == .disabled then a else newWindows r.speedWindow s.tick a
  let s := s.setAxis n { w with configured := true, ssiPhase := if axisLockedChange old r then .idle else a.ssiPhase }
  if r.ssi == old.ssi || a.motion == .disabled || s.pinsHeld then s else s.emit (.ssiDrive n r.ssi)

/-- AXIS.ECHO_SET applies (R147–R150): an output that becomes enabled starts from state 00, one that stays
enabled keeps its pins, and a disabled one leaves its balls. -/
def State.hookEcho (k : Nat) (old : EchoRec) (s : State) : State :=
  let r := echoRec s.inForce k
  let e := s.echo k
  if r.enable && old.enable then
    if r.source == old.source && r.ratioM == old.ratioM && r.ratioN == old.ratioN then s
    else s.setEcho k { e with acc := 0, pending := 0 }
  else
    let s := s.setEcho k { e with acc := 0, pending := 0, state := 0, stopped := false }
    if s.pinsHeld then s
    else if r.enable then s.emit (.echo k false false)
    else if old.enable then s.emit (.echoOff k) else s

/-- TRIG.CONFIG applies: the dry policy in force decides whether a dry risk holds the bar (R176). -/
def State.hookTrig (g : Nat) (s : State) : State :=
  let b := s.inForce.sourceBar g
  let x := s.rbar b
  if s.inForce.trigOf b != g then s
  else s.setRbar b { x with dryHold := x.dryRisk && (trigRec s.inForce g).requireSpit }

/-- TRIG.TRIGOUT_SET applies: the output drives its ball at its level, or leaves it (R179). -/
def State.hookTrigout (k : Nat) (old : TrigoutRec) (s : State) : State :=
  let r := trigoutRec s.inForce k
  let s := if r.enable && old.enable && r.event == old.event && r.source == old.source then s
    else s.setTrigout k {}
  let s := s.trigoutLevels
  if s.pinsHeld then s
  else if r.enable then s.emit (.trigout k ((s.trigoutOf k).asserted != r.activeLow))
  else if old.enable then s.emit (.trigoutOff k) else s

/-- A channel or DAC binding applies: adaptation begins anew (R205), and AMP_EN follows (R199). -/
def State.hookBinding (c : Nat) (s : State) : State :=
  (s.setChan c { s.chan c with boundAt := s.aon, tempUnknown := false }).ampUpdate 0

/-- PLANE.ENABLE applies (R226, R235). -/
def State.hookPlane (p : Nat) (e : Bool) (s : State) : State :=
  match Table.find? s.inForce.planes p with
  | none => s
  | some r =>
    let b := r.bar
    let x := s.rbar b
    if e then
      let low := match s.lead b with
        | some l => decide (l < 128)
        | none => true
      ((s.setPlane p { s.plane p with consumed := false }).setRbar b
        { x with primed := false, primeWaits := !low }).moveWindow b
    else
      let s := s.setPlane p { s.plane p with halted := none, retry := false, peer := [], waits := [] }
      ((s.setRbar b { x with
        parked := x.parked.filter (fun w => w.plane != p)
        settled := x.settled.filter (fun q => q.1 != p)
        blanked := x.blanked.filter (fun q => q.1 != p)
        waitsIndex := x.waitsIndex.filter (fun q => q.1 != p) }).dropWork (fun w => w.plane == p)).primeCheck b

/-- A bar's health policy applies: a sweep may begin (R300). -/
def State.hookPolicy (b : Nat) (s : State) : State := (s.sweepPump b).undegrade

/-- The nozzles whose state or substitution a change names. -/
def nozzlesNamed : Change → List Nat
  | .nmap _ _ es => es.map (fun (e : Nat × Word) => e.1)
  | .substs es => es.map (fun (e : Nat × SubstRec) => e.1)
  | .substClear ids => ids
  | .outs states es => states.map (fun (e : Nat × Nat) => e.1) ++ es.map (fun (e : Nat × SubstRec) => e.1)
  | _ => []

/-- A host has given a nozzle a state: what firmware had staged for it before is dropped and counted
(R306, R313). -/
def State.dropAuto (i : Nat) (s : State) : State :=
  let x := s.sset 16
  if !x.staged.any (fun c => (nozzlesNamed c).contains i) then s
  else
    let s := s.setSset 16 { x with staged := x.staged.filter (fun c => !(nozzlesNamed c).contains i) }
    s.countHealth (s.inForce.nozzleBar i) (i / 8192) (fun y => { y with dropped := y.dropped + 1 })

/-- Geometry or the nozzle map applies: substitutions that a lost donor served end, and are formed again
(R311); those that the commit itself names are not.  The states that a host's commit changes make their
nozzles' health UNKNOWN, and stand (R306). DEDUCED, log entry 50. -/
def State.hookNozzles (host : Bool) (cs : List Change) (old : Cfg) (s : State) : State :=
  let new := s.inForce
  let named := cs.flatMap nozzlesNamed
  let gone : List Nat := (List.filter (fun (p : Nat × SubstRec) =>
      (Table.find? new.substs p.1).isNone && nmapState (nmapRec new p.1) == 3) old.substs).map (fun (p : Nat × SubstRec) => p.1)
  let ended := gone.filter (fun i => !named.contains i)
  let ids : List Nat := if host then ((named ++ ended).foldl insertNat []).filter (fun i =>
    nmapState (nmapRec old i) != nmapState (nmapRec new i)) else []
  let s : State := ids.foldl (fun (s : State) (i : Nat) => (s.setRecord i (forgetClass (s.record i))).dropAuto i) s
  let s := (s.reform ended).undegrade
  (List.range 16).foldl (fun s b => s.sweepPump b) s

/-- HEALTH.TEMP_SET applies: disabling sends duty 0 once, by the unit that regulates, and clears the head's
flags (R316, R317, R320). -/
def State.hookTemp (h : Nat) (old : HeadTempRec) (s : State) : State :=
  let r := tempRec s.inForce h
  let x := s.heater h
  if r.enable || !old.enable then s
  else
    let was := x.tempLost || x.overTemp
    let s := s.setHeater h { x with duty := 0, integ := 0, tempLost := false, overTemp := false }
    let s := if s.healthLeads then s.sendHeater h else s
    if was then s.postLimited ⟨Ev.headTemp, h, 0⟩ (headTempBody h 0 (s.headTemp h) r.setpoint) else s

/-- POWER.HV_SET applies: disabling a supply ends FAILED (R404). -/
def State.hookHv (k : Nat) (s : State) : State :=
  let s := if (s.inForce.hvs.get {} k).enable then s
    else { s with power := { s.power with hvFailed := putBit s.power.hvFailed k false } }
  s.hvUpdate

/-- POWER.THERM_SET applies: every count of consecutive samples that the thresholds judge restarts (R417). -/
def State.hookTherm (d : Nat) (s : State) : State :=
  let s := s.setDom d { s.dom d with up := 0, down := 0 }
  let t := s.therm
  { s with therm := if d = 0 then { t with dieVotes := 0, gradCount := 0 } else { t with hbmVotes := 0 } }

/-- A change has come into force: what it does to the running state.  `old` is the configuration before it. -/
def State.hook (old : Cfg) (c : Change) (s : State) : State :=
  match c with
  | .row h _ _ => s.moveWindow (headRec s.inForce h).bar
  | .axis n _ => s.hookAxis n (axisRec old n)
  | .axisEnable n e => s.hookAxisEnable n e
  | .echo k _ => s.hookEcho k (echoRec old k)
  | .run g _ _ => s.hookRun g
  | .runStart g entry => s.hookRunStart g entry
  | .trigEnable g e start => ((s.hookTrigEnable g e start).sweepPump (s.inForce.sourceBar g)).trySynced
  | .ref h _ _ => s.sweepPump (headRec s.inForce h).bar
  | .trig g _ => s.hookTrig g
  | .head h _ => (s.moveWindow (headRec old h).bar).moveWindow (headRec s.inForce h).bar
  | .trigout k _ => s.hookTrigout k (trigoutRec old k)
  | .channel c _ => s.hookBinding c
  | .dac k _ => s.hookBinding (128 + k)
  | .planeEnable p e => s.hookPlane p e
  | .ring b _ => s.setRbar b { s.rbar b with settled := [], blanked := [] }
  | .policy b _ => s.hookPolicy b
  | .temp h _ => s.hookTemp h (tempRec old h)
  | .hv k _ => s.hookHv k
  | .therm d _ => s.hookTherm d
  | _ => s

/-- The plane whose part of a change brings the change into force whole. -/
def hookPart : Change → Part
  | .head .. => .data
  | .row .. => .data
  | .nmap .. => .data
  | .planeEnable .. => .data
  | .ring .. => .data
  | .substs .. => .data
  | .substClear .. => .data
  | .outs .. => .data
  | .port .. => .data
  | _ => .ctl

/-- The commit's origin is a host's mailbox. -/
def Origin.fromHost : Origin → Bool
  | .mbx _ => true
  | _ => false

/-- The finished commits at the head of the list become part of the base configuration. -/
def foldDone (base : Cfg) : List Commit → Cfg × List Commit
  | [] => (base, [])
  | k :: ks =>
    if k.bars.all (fun x => x.dataDone && x.ctlDone) then
      foldDone (base.applyAll (k.changes.map (·.1))) ks
    else (base, k :: ks)

/-- Finished commits leave the list, in order (R30). -/
def State.foldCommits (s : State) : State :=
  let r := foldDone s.base s.commits
  { s with base := r.1, commits := r.2 }

/-- A commit marks that bar `b` has taken a part. -/
def Commit.mark (part : Part) (b : Nat) (k : Commit) : Commit :=
  { k with bars := k.bars.map (fun x =>
      if x.bar = b then
        match part with
        | .data => { x with dataDone := true }
        | .ctl => { x with ctlDone := true }
      else x) }

/-- A commit's changes of one part that bars outside `pre` newly bring into force, in order. -/
def newlyTaken (part : Part) (pre post : Commit) : List Change :=
  (post.changes.filter (fun c =>
    hookPart c.1 == part && c.2.all (post.taken part) && !c.2.all (pre.taken part))).map (·.1)

/-- A change of geometry or of nozzle states. -/
def movesNozzles : Change → Bool
  | .head .. => true
  | .nmap .. => true
  | .substs .. => true
  | .substClear .. => true
  | .outs .. => true
  | _ => false

/-- Hooks of the changes of a commit that have come into force (R30: in order); what becomes of nozzles is judged for all
of them at once (R306, R311).  `host`: the commit comes from a host's mailbox. -/
def State.runHooks (host : Bool) (old : Cfg) (cs : List Change) (s : State) : State :=
  let s := cs.foldl (fun s c => s.hook old c) s
  if cs.any movesNozzles then s.hookNozzles host cs old else s

/-- COMMIT_APPLIED (R85). -/
def State.postApplied (id : Word) (b : Nat) (line : Word) (s : State) : State :=
  s.post (ev Ev.commitApplied Cls.bar b 0 (id.toNat + 2 ^ 32 * line.toNat))

/-- Both parts of a commit have been taken by a bar: COMMIT_APPLIED is posted once (R85). -/
def State.appliedBy (id : Word) (b : Nat) (s : State) : State :=
  match s.commits.find? (fun k => k.id == id) with
  | none => s
  | some k => match k.bars.find? (fun x => x.bar == b) with
    | none => s
    | some x =>
      if x.dataDone && x.ctlDone && !x.posted then
        let mark (k : Commit) : Commit :=
          if k.id == id then
            { k with bars := k.bars.map (fun y => if y.bar = b then { y with posted := true } else y) }
          else k
        { s with commits := s.commits.map mark }.postApplied id b x.line
      else s

/-- Bar `b` takes a part of commit `k` (R28). -/
def State.takePart (part : Part) (b : Nat) (s : State) (k : Commit) : State :=
  let old := s.inForce
  let post : Commit := k.mark part b
  let s : State := { s with commits := s.commits.map (fun (x : Commit) => if x.id == k.id then post else x) }
  (s.runHooks k.origin.fromHost old (newlyTaken part k post)).appliedBy k.id b

/-- Bar `b` takes the parts of the commits whose apply line lies at or before `y` (R28, R30). -/
def State.takeParts (part : Part) (b : Nat) (y : Word) (s : State) : State :=
  let due (k : Commit) : Bool := k.bars.any (fun x => x.bar == b && decide (0 ≤ ahead32 x.line y))
    && !k.taken part b
  ((s.commits.filter due).foldl (fun s k =>
    match s.commits.find? (fun x => x.id == k.id) with
    | some k => s.takePart part b k
    | none => s) s).foldCommits

/-- Pending parts apply at a transition out of the printing states (R517). -/
def State.applyPending (s : State) : State :=
  (s.commits.foldl (fun s k =>
    k.bars.foldl (fun s x =>
      let s := match s.commits.find? (fun j => j.id == k.id) with
        | some j => if j.taken .data x.bar then s else s.takePart .data x.bar j
        | none => s
      match s.commits.find? (fun j => j.id == k.id) with
      | some j => if j.taken .ctl x.bar then s else s.takePart .ctl x.bar j
      | none => s) s) s).foldCommits

end Sys2Proof.Machine
end

