-- ==== Sys2Proof/Machine/Bist.lean ====
section
/-!
DEFINITION. Built-in self-test: results, periodic slices and their repeat (R464–R472), tests on demand
(R473), and the BIST commands (R475).
-/

namespace Sys2Proof.Machine

open Sys2Proof

/-! ## Results (R465, R466, R475) -/

/-- The patterns that fit in a span of TIME ticks: one pattern takes 409.6 ticks (R465). -/
def patternsIn (ticks : Nat) : Nat := ticks * 10 / 4096

/-- The span that a count of patterns takes, in TIME ticks. -/
def patternTicks (n : Nat) : Nat := (n * 4096 + 9) / 10

/-- The latest result of a partition or unit. -/
def State.bistResult (s : State) (part unit : Nat) : BistResult := s.bist.results.get {} (16 * part + unit)

/-- The codes of the causes of R466. -/
def causeCode : StopCause → Nat
  | .none => 0
  | .preempted => 1
  | .thermal => 2
  | .power => 3
  | .stopped => 4

/-- BIST_DONE (R476). -/
def State.postBist (part unit kind : Nat) (reason : Reason) (cause : StopCause) (s : State) : State :=
  s.post (ev Ev.bistDone Cls.system 0 reason (part + 256 * unit + 65536 * kind + 262144 * causeCode cause))

/-- What a test with a standard count ends in: PASS where the MISR is the expected signature, else FAIL (R465). -/
def bistVerdict (part count : Nat) (misr : BitVec 64) : Nat := if misr = Config.bistExpected part count then 1 else 2

/-- A test ends: its result is recorded (R475), and the PRPG and the MISR stand where it left them (R465).  The coverage,
and the signature of a test that has been cut, are free values. -/
def State.recordTest (part unit kind result patterns : Nat) (cause : StopCause) (sig : Option (BitVec 64))
    (seed : BitVec 64) (s : State) : State :=
  let r : BistResult :=
    { result := result, kind := kind, cause := cause, boot := s.host.bootCount, aon := s.aon
      coverage := Config.bistCoverage s.fresh % 10001, duration := patterns * 1024 / 1000, patterns := patterns
      signature := sig.getD (Config.bistSignature s.fresh) }
  { s with
    fresh := s.fresh + 1
    bist := { s.bist with
      results := s.bist.results.set (16 * part + unit) r
      prpg := s.bist.prpg.set part (Config.prpgAfter seed patterns), misr := s.bist.misr.set part r.signature
      failures := if result = 2 then s.bist.failures + 1 else s.bist.failures } }

/-! ## Stopping a test (R466) -/

/-- A pool's periodic test runs: a slice, the repeat of R471, or the time between two slices. -/
def periodicRuns (x : Pool) : Bool := x.inSlice || x.repeat_ || x.slices != 0

/-- A pool's periodic test stops INCOMPLETE, within 2 patterns of the cause (R466). -/
def State.stopPeriodic (p : Nat) (cause : StopCause) (s : State) : State :=
  let x := s.pool p
  if !periodicRuns x then s
  else
    let unit := (s.restingOf p).getD 0
    let extra := if x.inSlice || x.repeat_ then
        patternsIn (s.tick - x.sliceStart) + Config.bistPatterns s.fresh % 3 else 0
    let cap := if x.repeat_ then 65536 else 4096
    let n := (if x.repeat_ then 0 else 4096 * x.slices) + min cap extra
    let s := s.setPool p { x with inSlice := false, repeat_ := false, slices := 0 }
    ({ s with fresh := s.fresh + 1 }.recordTest p unit 1 3 n cause none (Config.bistSeed p 65536)).postBist p unit 1
      Rc.bistIncomplete cause

/-- Every periodic test stops. -/
def State.stopAllPeriodic (cause : StopCause) (s : State) : State :=
  (List.range 5).foldl (fun s p => s.stopPeriodic p cause) s

/-- A test on demand waits for its unit to come to rest (R37, R473). -/
def State.demandWaits (s : State) (d : Demand) : Bool := decide (d.part < 5) && (s.pool d.part).wants == some d.unit

/-- The seed that a test on demand starts from (R465). -/
def Demand.from_ (d : Demand) : BitVec 64 :=
  if d.custom then d.seed else Config.bistSeed d.part (if d.part < 5 then 65536 else 16384)

/-- The test on demand stops (R466); its end is BIST_ON_DEMAND_DONE. DESIGN CHOICE, log entry 126. -/
def State.stopDemand (cause : StopCause) (s : State) : State :=
  match s.bist.demand with
  | none => s
  | some d =>
    if d.stopped != .none then s
    else
      let n := if s.demandWaits d then 0 else min d.count (patternsIn (s.tick - d.start) + Config.bistPatterns s.fresh % 3)
      { s with fresh := s.fresh + 1, bist := { s.bist with demand := some { d with stopped := cause, count := n } } }

/-- A fixed partition is under test, or not yet re-initialised after its test (R466). -/
def State.testsFixed (s : State) : Bool := match s.bist.demand with
  | some d => decide (5 ≤ d.part)
  | none => false

/-- PRINT_EN is written 1 during a test of a fixed partition (R466). -/
def State.preemptFixed (s : State) : State := if s.testsFixed then s.stopDemand .preempted else s

/-! ## Periodic slices (R469–R472) -/

/-- A cause of R466 holds a pool's periodic test, or the states and settings of R470 do not. -/
def State.periodicHeld (s : State) (p : Nat) : Bool :=
  !(s.sys.operating || (s.sys == .fault && !s.power.reduced)) || !s.linkRuns || s.otp.lc == .scrapped
    || decide (0 < s.stage) || s.inForce.bistPeriod == 0
    || (match s.bist.demand with | some d => d.part == p | none => false)

/-- The interval between the slices of a pool, in AON ticks (R470). -/
def State.sliceInterval (s : State) (p : Nat) : Nat :=
  s.inForce.bistPeriod * 61440000 / (16 * max 1 (s.healthy p).length)

/-- The healthy unit after `u` in unit order (R470). -/
def nextUnit (l : List Nat) (u : Nat) : Option Nat := (l.find? (fun v => decide (u < v))) <|> l.head?

/-- A unit of a pool has work in flight (R37): a block, suspended or not, or a running channel.  A line slice, a
compressor or a health engine completes its work within a row. -/
def State.unitBusy (s : State) (p u : Nat) : Bool :=
  if p = 1 then (Table.find? s.plait.units u).isSome
  else if p = 4 then (List.range 32).any (fun c => (s.chan32 c).state == .running && (s.chan32 c).unit == some u)
  else false

/-- A test on demand of a pool unit starts as its unit comes to rest (R473). -/
def State.demandRests (p u : Nat) (s : State) : State :=
  match s.bist.demand with
  | some d => if d.part = p ∧ d.unit = u then { s with bist := { s.bist with demand := some { d with start := s.tick } } } else s
  | none => s

/-- The rotation of a pool takes place once the unit that leaves service has no work in flight (R37). -/
def State.tryRotate (s : State) (p : Nat) : State :=
  let x := s.pool p
  match x.wants with
  | none => s
  | some u =>
    if s.unitBusy p u then s else (s.setPool p { x with resting := some u, wants := none }).demandRests p u

/-- A unit is to rest (R37). DEDUCED, log entry 127. -/
def State.restUnit (p u : Nat) (s : State) : State := (s.setPool p { s.pool p with wants := some u }).tryRotate p

/-- The rotations that wait for units to end their work. -/
def State.rotateWaiting (s : State) : State := [1, 4].foldl State.tryRotate s

/-- BIST_SLICE_START (R470, R472). -/
def bistSliceStart (p : Nat) (s : State) : State :=
  let s := s.tryRotate p
  let x := s.pool p
  if s.aon < x.nextSlice || s.inForce.bistPeriod = 0 || x.inSlice || x.repeat_ then s
  else
    let next := x.nextSlice + s.sliceInterval p
    let s := s.setPool p { x with nextSlice := if next ≤ s.aon then s.aon + s.sliceInterval p else next }
    if s.periodicHeld p || (s.restingOf p).isNone || x.wants.isSome then s
    else s.setPool p { s.pool p with inSlice := true, sliceStart := s.tick }

/-- A pool rotates: the next healthy unit is to rest (R37, R470). -/
def State.rotate (p : Nat) (s : State) : State :=
  match s.restingOf p with
  | none => s
  | some u =>
    let s := s.setPool p { s.pool p with slices := 0, inSlice := false, repeat_ := false }
    match nextUnit (s.healthy p) u with
    | some v => s.restUnit p v
    | none => s

/-- BIST_SLICE_END (R470, R471): the signature counts with the last slice. DEDUCED, log entry 127. -/
def bistSliceEnd (p : Nat) (misr : BitVec 64) (s : State) : State :=
  let x := s.pool p
  if !x.inSlice || decide (s.tick < x.sliceStart + patternTicks 4096) then s
  else
    let unit := (s.restingOf p).getD 0
    if x.slices < 15 then s.setPool p { x with inSlice := false, slices := x.slices + 1 }
    else if bistVerdict p 65536 misr = 1 then
      ((s.recordTest p unit 1 1 65536 .none (some misr) (Config.bistSeed p 65536)).postBist p unit 1 0 .none).rotate p
    else
      let s := s.recordTest p unit 1 2 65536 .none (some misr) (Config.bistSeed p 65536)
      s.setPool p { x with inSlice := false, slices := 0, repeat_ := true, sliceStart := s.tick }

/-- A pool unit is retired (R38). DESIGN CHOICE, log entry 168. -/
def State.retireUnit (p unit : Nat) (s : State) : State :=
  let x := s.pool p
  let s := s.setPool p { x with
    retired := insertNat x.retired unit, resting := none, wants := none, slices := 0, inSlice := false, repeat_ := false }
  let s := s.post (ev Ev.bistRetired Cls.system 0 Rc.bistFailed
    (p + 256 * unit + 65536 * b2n (s.restingOf p).isNone))
  s.logOpen { origin := .fwAuto, reason := Rc.bistFailed }

/-- BIST_REPEAT_DONE (R471). -/
def bistRepeatDone (p : Nat) (misr : BitVec 64) (s : State) : State :=
  let x := s.pool p
  if !x.repeat_ || decide (s.tick < x.sliceStart + patternTicks 65536) then s
  else
    let unit := (s.restingOf p).getD 0
    if bistVerdict p 65536 misr = 1 then
      let s := s.recordTest p unit 1 1 65536 .none (some misr) (Config.bistSeed p 65536)
      let s := s.setPool p { x with repeat_ := false, transient := x.transient.set unit (x.transient.get 0 unit + 1) }
      (s.postBist p unit 1 Rc.bistTransient .none).rotate p
    else (s.recordTest p unit 1 2 65536 .none (some misr) (Config.bistSeed p 65536)).retireUnit p unit

/-! ## Tests on demand (R473) -/

/-- The pulses of the trigger generators and their outputs end. -/
def State.dropPulses (s : State) : State :=
  { s with
    trigs := s.trigs.map (fun x => (x.1, { x.2 with pulses := [] }))
    trigouts := s.trigouts.map (fun x => (x.1, { x.2 with pulses := [] })) }

/-- The functions of a fixed partition stop (R473), and its outputs hold their reset values (R467).
DEDUCED, log entry 127. -/
def State.stopPart (part : Nat) (s : State) : State :=
  if part = 11 ∨ part = 12 then
    ((List.range 16).map (fun i => 16 * (part - 11) + i)).foldl (fun s p =>
      if (s.port p).state == .up then s.leaveUp p
      else if (s.port p).state == .off then s
      else (s.setPort p { dropTraffic (s.port p) with retry := true }).enterPort p .down 0) s
  else if part = 13 then { s with pair := { s.pair with state := .unpaired, lanes := 0, trainFrom := none } }
  else if part = 15 ∨ part = 16 then s.dropPulses
  else s

/-- After its test a fixed partition is reset, and firmware reloads it from the configuration in force, and the Weave
contents from their copies in HBM (R467): its running state is lost, and what had been asked of it goes on from its start.
DEDUCED, log entry 127. -/
def State.reloadPart (part : Nat) (s : State) : State :=
  if part = 7 then { s with mem := { s.mem with poison := s.mem.poison.filter (fun w => w.1 != 0) } }
  else if part = 14 then
    let s := { s with axes := s.axes.map (fun x => (x.1, { ({} : Axis) with configured := x.2.configured })), echoes := [] }
    (List.range 8).foldl (fun s n => if s.inForce.axisEn.get false n then s.hookAxisEnable n true else s) s
  else if part = 15 then
    let s := { s with
      trigs := s.trigs.map (fun x => (x.1, { ({} : Trig) with startEntry := x.2.startEntry, burst := x.2.burst }))
      trigouts := [] }
    (List.range 16).foldl (fun s g => if s.runsBar g then s.enterSequence g else s) s
  else if part = 16 then { s with chans := [] }
  else if part = 17 ∨ part = 21 then
    { s with
      amps := s.amps.map (fun x => (x.1, { x.2 with samples := [] }))
      cal := { s.cal with running := s.cal.running.map (fun r => { r with start := s.aon }) } }
  else if part = 19 then { s with plait := { s.plait with units := [], verifying := [] } }
  else s

/-- A unit that was taken from a pool without a resting unit returns to service (R473). -/
def State.returnUnit (d : Demand) (s : State) : State :=
  if d.borrowed then s.setPool d.part { s.pool d.part with resting := none, wants := none } else s

/-- BIST_ON_DEMAND_DONE (R473): the MISR of a test with a standard count that has run to its end holds the expected
signature, or else `misr` (R465). -/
def bistOnDemandDone (expected : Bool) (misr : BitVec 64) (s : State) : State :=
  let s := s.rotateWaiting
  match s.bist.demand with
  | none => s
  | some d =>
    if d.stopped == .none && (s.demandWaits d || decide (s.tick < d.start + patternTicks d.count)) then s
    else
      let misr := if expected && d.stopped == .none && !d.custom then Config.bistExpected d.part d.count else misr
      let r : Nat × Reason :=
        if d.stopped != .none then (3, Rc.bistIncomplete)
        else if d.custom then (4, 0)
        else if bistVerdict d.part d.count misr = 1 then (1, 0) else (2, Rc.bistFailed)
      let s := ({ s with bist := { s.bist with demand := none } }).returnUnit d
      let s := (s.recordTest d.part d.unit 2 r.1 d.count d.stopped (some misr) d.from_).reloadPart d.part
      let s := if r.1 = 2 then s.logOpen { origin := .mbx d.waiter.mbx, reason := Rc.bistFailed } else s
      (s.postBist d.part d.unit 2 r.2 d.stopped).commandDone d.waiter r.2 0 0

/-- The partitions that no command may test (R464). -/
def neverTested (part : Nat) : Bool := part == 8 || part == 9 || part == 10

/-- A test on demand begins (R473): its pool unit is to rest, or the functions of its fixed partition stop, and its PRPG
takes the seed (R465).  From stage 2 on it stops at once (R466). DEDUCED, log entry 127. -/
def State.beginDemand (d : Demand) (s : State) : State :=
  let s := if 5 ≤ d.part then s.stopPart d.part
    else
      let s := s.stopPeriodic d.part .preempted
      if (s.pool d.part).retired.contains d.unit then s else s.restUnit d.part d.unit
  let s := { s with bist := { s.bist with demand := some d, prpg := s.bist.prpg.set d.part d.from_ } }
  if 2 ≤ s.stage then s.stopDemand .thermal else s

/-- BIST.RUN (R473–R475). DEDUCED, log entry 127. -/
def bistRunBody (rq : Request) (s : State) : Verdict :=
  let p := rq.payload
  let part := fld p 0 1
  let unit := fld p 1 1
  let custom := bit (fld p 2 1) 0
  let count := fld p 4 4
  if custom && s.otp.lc == .oem then refuseAs Rc.notPermittedInLifecycle
  else checked [(decide (part < 24), 0), (!custom || decide (1 ≤ count ∧ count ≤ 16777216), 4),
      (!custom || fld p 8 8 != 0, 8)] <|
    if (if part < 5 then (poolSize part).1 ≤ unit else unit ≠ 0) then badValue 1
    else if s.bist.demand.isSome then refuseAs Rc.bistBusy
    else if 5 ≤ part && (neverTested part || !(s.sys == .ready || s.sys == .fault)) then refuseAs Rc.notTestable
    else if part == 13 && s.pair.state == .paired then refuseAs Rc.notTestable
    else if part < 5 && (s.restingOf part).isNone && s.sys != .ready then refuseAs Rc.noSpare
    else match (s.mem.stakes.get {} 6).owner with
      | some n => .refuse Rc.stakeNotOwner Cls.stakeBank 6 (ownerPayload Cls.mailbox n)
      | none =>
        let std := if part < 5 then 65536 else 16384
        let borrowed := decide (part < 5) && (s.restingOf part).isNone && !(s.pool part).retired.contains unit
        let d : Demand :=
          { part := part, unit := unit, count := if custom then count else std, custom := custom
            seed := BitVec.ofNat 64 (fld p 8 8)
            waiter := (s.waiterOf rq 0x1001), start := s.tick, borrowed := borrowed }
        .accept ((s.beginDemand d).logOpen { origin := .mbx rq.mbx.val })

/-- BIST.STOP (R475). -/
def bistStopBody (_rq : Request) (s : State) : Verdict := .done (s.stopDemand .stopped) []

/-- BIST.STATUS (R475). -/
def bistStatusBody (_rq : Request) (s : State) : Verdict :=
  let d := s.bist.demand
  let held := (List.range 5).any (fun p => s.periodicHeld p)
  .done s (le 1 ((d.map (·.part)).getD 0xFF) ++ le 1 ((d.map (·.unit)).getD 0)
    ++ le 1 (b2n (s.inForce.bistPeriod != 0) + 2 * b2n (s.inForce.bistPeriod != 0 && held)) ++ zeros 1
    ++ (List.range 5).flatMap (fun p => le 1 ((s.restingOf p).getD 0xFF)) ++ zeros 3 ++ le 4 s.bist.failures.toNat)

/-- A partition or unit is under test now (result RUNNING of R475). -/
def State.testRuns (s : State) (part unit : Nat) : Option Nat :=
  match s.bist.demand with
  | some d => if d.part == part && d.unit == unit then some 2
    else if part < 5 && periodicRuns (s.pool part) && s.restingOf part == some unit then some 1 else none
  | none => if part < 5 && periodicRuns (s.pool part) && s.restingOf part == some unit then some 1 else none

/-- BIST.RESULT (R474, R475). -/
def bistResultBody (rq : Request) (s : State) : Verdict :=
  let p := rq.payload
  let part := fld p 0 1
  let unit := fld p 1 1
  let detail := fld p 2 1 == 1
  if detail && s.otp.lc == .field then refuseAs Rc.notPermittedInLifecycle
  else checked [(decide (part < 24), 0), (decide (unit < if part < 5 then (poolSize part).1 else 1), 1),
      (decide (fld p 2 1 < 2), 2)] <|
    let r := s.bistResult part unit
    let r := match s.testRuns part unit with
      | some k => { r with result := 5, kind := k, cause := .none }
      | none => r
    .done s (le 1 r.result ++ le 1 r.kind ++ le 1 (causeCode r.cause) ++ zeros 1 ++ le 2 r.boot ++ zeros 2
      ++ le 8 (r.aon % 2 ^ 48 + 2 ^ 48 * r.boot)
      ++ (if detail then le 2 r.coverage ++ zeros 2 ++ le 4 r.duration ++ le 4 r.patterns ++ zeros 4 ++ le 8 r.signature.toNat
          else zeros 24))

/-- BIST.CONFIG (R474, R475). -/
def bistConfigBody (rq : Request) (s : State) : Verdict :=
  let m := fld rq.payload 0 2
  if m == 0 && (s.otp.lc == .oem || s.otp.lc == .field) then refuseAs Rc.notPermittedInLifecycle
  else checked [(m == 0 || decide (5 ≤ m ∧ m ≤ 1440), 0)] (.stage (.bistPeriod m))

/-- BIST.GET (R475). -/
def bistGetBody (rq : Request) (s : State) : Verdict := .done s (bistConfigBytes (s.readCfg rq).bistPeriod)

end Sys2Proof.Machine
end

