-- ==== Sys2Proof/Machine/OtpArray.lean ====
section
/-!
DEFINITION. The OTP array (R441–R455): its regions, check words and life-cycle decoding, the shadow that
U1 latches, what the shadow's users read from it, and an operation that is cut short.
-/

namespace Sys2Proof.Machine

open Sys2Proof

/-- The lock word (R443). -/
def lockWord : Nat := 0x1FF
/-- The thermometer of the life-cycle (R455). -/
def lcWord : Nat := 0x0D0
/-- The revocation bits (R454). -/
def revokeWord : Nat := 0x0D1

/-- The regions in the order of their lock bits (R443): the first word, and how many there are. -/
def regionSpan : Nat → Nat × Nat
  | 0 => (0x000, 0x10)
  | 1 => (0x010, 0x20)
  | 2 => (0x030, 0x50)
  | 3 => (0x080, 0x28)
  | 4 => (0x0A8, 0x28)
  | 5 => (0x0E0, 0x80)
  | 6 => (0x160, 0x80)
  | _ => (0x1E0, 0x1A)

/-- The lockable region that holds a word. -/
def regionOf (w : Nat) : Option Nat :=
  (List.range 8).find? (fun i => decide ((regionSpan i).1 ≤ w) && decide (w < (regionSpan i).1 + (regionSpan i).2))

/-- The word belongs to the life-cycle region (R443). -/
def isLcWord (w : Nat) : Bool := decide (0x0D0 ≤ w) && decide (w ≤ 0x0DF)

/-- A check word (R444). -/
def checkWordOf (ws : List Word) : Word := crc32c (ws.flatMap (fun w => le 4 w.toNat))

/-- Consecutive words. -/
def wordsFrom (val : Nat → Word) (first n : Nat) : List Word := (List.range n).map (fun i => val (first + i))

/-- The record word of a REPAIR record (R446). -/
def repairSlot (j : Nat) : Nat := 0x030 + 2 * j

/-- A REPAIR record's check word is correct (R446). -/
def repairGood (val : Nat → Word) (j : Nat) : Bool := val (repairSlot j + 1) == checkWordOf [val (repairSlot j)]

/-- The region's check is correct; REPAIR is complete (R444, R446). -/
def regionGood (val : Nat → Word) (i : Nat) : Bool :=
  if i = 2 then (List.range 40).all (fun j => val (repairSlot j) == 0 || repairGood val j)
  else
    let sp := regionSpan i
    val (sp.1 + sp.2 - 1) == checkWordOf (wordsFrom val sp.1 (sp.2 - 1))

/-- The state of a region (R444). -/
def regionStateOf (val : Nat → Word) (locks : Word) (i : Nat) : RegionState :=
  let sp := regionSpan i
  if locks.getLsbD i then (if regionGood val i then .valid else .invalid)
  else if (wordsFrom val sp.1 sp.2).all (fun w => w == 0) then .blank
  else .opened

/-- A word with its marginal bits taken as programmed (R450). -/
def OtpWord.effective (w : OtpWord) : Word := w.normal ||| (w.low &&& ~~~w.high)

/-- A word is marginal (R442). -/
def OtpWord.isMarginal (w : OtpWord) : Bool := w.low &&& ~~~w.high != 0

/-- A word of an array. -/
def otpAt (t : Table OtpWord) (i : Nat) : OtpWord := t.get {} i

/-- The value at which a word of an array is used (R444, R450): the lock word and words 0x0D0–0x0D1
with their marginal bits, every other word at NORMAL. -/
def otpValue (t : Table OtpWord) (i : Nat) : Word :=
  if i == lockWord || i == lcWord || i == revokeWord then (otpAt t i).effective else (otpAt t i).normal

/-- The check word of the return record is correct (R455). DEDUCED, log entry 123. -/
def returnGood (t : Table OtpWord) : Bool := otpValue t 0x0DF == checkWordOf (wordsFrom (otpValue t) 0x0D2 13)

/-- The state of the return record (R462): bit 3 of the thermometer stands for its lock. -/
def returnStateOf (t : Table OtpWord) : RegionState :=
  if (wordsFrom (otpValue t) 0x0D2 14).all (fun w => w == 0) then .blank
  else if returnGood t then .valid
  else if (otpValue t lcWord).getLsbD 3 then .invalid
  else .opened

/-- The life-cycle state of an array (R455). -/
def lcOf (t : Table OtpWord) : LcState :=
  let w := otpValue t lcWord
  if w.getLsbD 4 then .scrapped
  else if w.getLsbD 3 then (if returnGood t then .return_ else .field)
  else if w.getLsbD 2 then .field
  else if w.getLsbD 1 then .oem
  else if w.getLsbD 0 then .mfg
  else .virgin

/-- The array with what its words read now at MARGIN_HIGH and MARGIN_LOW.  A bit that reads 1 at a
threshold reads 1 at every looser one (R442). DEDUCED, log entry 122. -/
def withMargins (t : Table OtpWord) : Table (Word × Word) → Table OtpWord
  | [] => t
  | (i, h, l) :: ms =>
    let w := otpAt t i
    let w' : OtpWord := { w with high := h &&& w.normal, low := l ||| w.normal }
    withMargins (if i < 512 then t.set i w' else t) ms

/-- The words that U1 flags as marginal (R449, R450). DEDUCED, log entry 122. -/
def marginalWords (t : Table OtpWord) : List Nat :=
  (List.range 512).filter (fun i => (otpAt t i).isMarginal && i != lockWord && i != lcWord && i != revokeWord)

/-- U1 reads the array and latches the shadow (R449). -/
def State.latchOtp (margins : Table (Word × Word)) (s : State) : State :=
  let t := withMargins s.otp.array margins
  { s with otp := { s.otp with
    array := t, boot := t, shadow := t.map (fun x => (x.1, x.2.normal))
    regions := (List.range 8).map (fun i => (i, regionStateOf (otpValue t) (otpValue t lockWord) i))
    returnRec := returnStateOf t, lc := lcOf t, marginal := marginalWords t
    recheck := [], recheckTemp := s.therm.dieMax, recheckCount := 0
    ops := [], tempLeft := false, recheckFirst := false, nonce := none } }

/-- The state of a region as latched (R449). -/
def State.region8 (s : State) (i : Nat) : RegionState := s.otp.regions.get .blank i

/-- A word of the shadow. -/
def State.shadowWord (s : State) (i : Nat) : Word := s.otp.shadow.get 0 i

/-- The fault of U1, if any (R451). -/
def State.otpFault (s : State) : Option Reason :=
  if !(s.otp.lc == .oem || s.otp.lc == .field || s.otp.lc == .return_) then none
  else if s.region8 0 != .valid then some Rc.idInvalid
  else if s.region8 1 != .valid then some Rc.trimInvalid
  else if s.region8 3 != .valid && s.region8 4 != .valid then some Rc.keyInvalid
  else none

/-- The events of U1 (R449, R463): a marginal word, and a region that is INVALID, by its row of R443. -/
def State.postOtpBoot (s : State) : State :=
  let s := s.otp.marginal.foldl (fun (s : State) (i : Nat) =>
    s.post (ev Ev.otpMarginal Cls.system 0 Rc.wordMarginal (i + 512))) s
  (List.range 8).foldl (fun (s : State) (i : Nat) =>
    if s.region8 i == .invalid then
      s.post (ev Ev.otpRegion Cls.system 0 Rc.regionInvalid ((if i < 5 then i else i + 1) + 48))
    else s) s

/-! ## What is read from the shadow -/

/-- The first word of the OEM slot in use (R445). -/
def State.oemBase (s : State) : Option Nat :=
  if s.region8 5 == .valid then some 0x0E0 else if s.region8 6 == .valid then some 0x160 else none

/-- The first word of the KEY slot in use (R445). -/
def State.keyBase (s : State) : Option Nat :=
  if s.region8 3 == .valid then some 0x080 else if s.region8 4 == .valid then some 0x0A8 else none

/-- The rail record of a line (R398, R447). -/
structure RailRec where
  addr : Nat
  pec : Bool
  pgTimeout : Nat
  vout : Nat
  deriving DecidableEq, Repr

/-- The rail record of EN_P line k; defaults where no OEM slot is VALID. -/
def State.railRec (s : State) (k : Nat) : RailRec :=
  let w := match s.oemBase with
    | some b => (s.shadowWord (b + 1 + k)).toNat
    | none => 0
  let t := bitsOf w 8 8
  { addr := bitsOf w 0 7, pec := bit w 7, pgTimeout := if t = 0 then 5 else t, vout := bitsOf w 16 16 }

/-- Words from the shadow as one hash (R447, R453); the order of its words is the model's choice.
DEDUCED, log entry 123. -/
def State.hashAt (s : State) (first : Nat) : BitVec 384 :=
  BitVec.ofNat 384 (ofLE ((wordsFrom s.shadowWord first 12).flatMap (fun w => le 4 w.toNat)))

/-- The hash of the OEM authority's key, where an OEM slot is VALID and it is not 0 (R447, R456). -/
def State.oemKeyHash (s : State) : Option (BitVec 384) :=
  match s.oemBase with
  | some b => if s.hashAt (b + 9) = 0 then none else some (s.hashAt (b + 9))
  | none => none

/-- The serial (R443): 0 where ID is not VALID. -/
def State.serial (s : State) : Nat :=
  if s.region8 0 == .valid then (s.shadowWord 0).toNat + 2 ^ 32 * (s.shadowWord 1).toNat else 0

/-- A factory calibration word (R448): gain in its low half, offset in its high half. -/
def State.factoryCoeff (s : State) (k : Nat) : Option Coeff :=
  if s.region8 7 == .valid then
    let w := (s.shadowWord (0x1E0 + k)).toNat
    some { gain := bitsOf w 0 16, offset := signed 16 (bitsOf w 16 16) }
  else none

/-- The keys of the KEY slot in use that are present (R453). -/
def State.keysPresent (s : State) : List Nat :=
  match s.keyBase with
  | some b => (List.range 2).filter (fun k => s.hashAt (b + 12 * k) != 0)
  | none => []

/-- The key is revoked in the array (R454). -/
def State.keyRevoked (s : State) (k : Nat) : Bool := (otpAt s.otp.array revokeWord).effective.getLsbD k

/-- The boot ROM accepts a signature (R453, R457): under a present key of the KEY slot in use that is not revoked, and
in VIRGIN and MFG without a VALID slot under the ROM key alone. -/
def State.signerAccepted (s : State) : Signer → Bool
  | .unsigned => false
  | .rom => (s.otp.lc == .virgin || s.otp.lc == .mfg) && s.keyBase.isNone
  | .key h => s.keysPresent.any (fun k => s.hashAt (s.keyBase.getD 0 + 12 * k) == h && !s.keyRevoked k)

/-- An image is a candidate (R408): it is signed, and at most 3 MiB long. -/
def State.candidate (s : State) (x : BootImage) : Bool := s.signerAccepted x.signer && decide (x.length ≤ 0x300000)

/-- The image that U5 loads, and whether it is image B (R408): of the candidates the one with the higher sequence, A on
a tie; where its load meets a read error, the other. -/
def State.bootChoice (s : State) (a b : Option BootImage) : Option (Bool × BootImage) :=
  let slot (isB : Bool) (x : Option BootImage) : List (Bool × BootImage) :=
    ((x.filter s.candidate).map (fun y => (isB, y))).toList
  let bFirst := match a.filter s.candidate, b.filter s.candidate with
    | some x, some y => decide (x.sequence < y.sequence)
    | _, _ => false
  let order := if bFirst then slot true b ++ slot false a else slot false a ++ slot true b
  order.find? (fun x => !x.2.readError)

/-! ## Programming (R456, R458, R460, R461) -/

/-- The record word of an HBM row (R446). -/
def rowRecord (r : HbmRow) : Word := BitVec.ofNat 32 (2 ^ 30 + r.pseudo * 2 ^ 25 + r.bank * 2 ^ 19 + r.row)

/-- The lowest blank REPAIR slots (R446): both words read 0, at MARGIN_LOW. -/
def blankSlots (t : Table OtpWord) : List Nat :=
  (List.range 40).filter (fun j => (otpAt t (repairSlot j)).low == 0 && (otpAt t (repairSlot j + 1)).low == 0)

/-- The words that the records of rows program, in order, and the REPAIR lock when they fill the region. -/
def rowWrites (t : Table OtpWord) (rs : List HbmRow) : List (Nat × Word) :=
  let slots := blankSlots t
  (slots.zip rs).flatMap (fun x => [(repairSlot x.1, rowRecord x.2), (repairSlot x.1 + 1, checkWordOf [rowRecord x.2])])
    ++ (if slots.length ≤ rs.length then [(lockWord, 0x4)] else [])

/-- What an operation programs: words and masks, in order. -/
def opWrites (o : Otp) : OtpOp → List (Nat × Word)
  | .program w mask _ _ => [(w, mask)]
  | .repair w _ _ =>
    let x := otpAt o.array w
    [(w, x.low &&& ~~~x.high &&& (if w == lockWord || isLcWord w then 0xFFFFFFFF else x.normal))]
  | .advance target record =>
    ((List.range record.length).zip record).map (fun x => (0x0D2 + x.1, x.2))
      ++ (if target = 5 then [(lcWord, 0x10)]
          else ((List.range target).filter (fun b => decide (lcCode o.lc ≤ b))).map (fun b =>
            (lcWord, BitVec.ofNat 32 (2 ^ b))))
  | .revoke k => [(revokeWord, BitVec.ofNat 32 (2 ^ k))]
  | .rows rs => rowWrites o.array rs
  | .margin => []

/-- The bits an operation has pulses for, in order: those not already reading 1 at MARGIN_HIGH (R458). -/
def opBits (o : Otp) (op : OtpOp) : List (Nat × Nat) :=
  (opWrites o op).flatMap (fun x =>
    ((List.range 32).filter (fun b => x.2.getLsbD b && !(otpAt o.array x.1).high.getLsbD b)).map (fun b => (x.1, b)))

/-- Bits that read 1 stay 1 (R441). -/
def programBits (t : Table OtpWord) (w : Nat) (normal high low : Word) : Table OtpWord :=
  let x := otpAt t w
  t.set w { normal := x.normal ||| normal, high := x.high ||| high, low := x.low ||| low }

/-- A programmed bit. -/
def programBit (t : Table OtpWord) (w b : Nat) : Table OtpWord :=
  let m := BitVec.ofNat 32 (2 ^ b)
  programBits t w m m m

/-- A bit left as the pulse found or left it: blank, or marginal at either NORMAL value, or programmed
where `full` allows it (R458, R460). DESIGN CHOICE, log entry 124. -/
def leaveBit (t : Table OtpWord) (w b k : Nat) (full : Bool) : Table OtpWord :=
  let m := BitVec.ofNat 32 (2 ^ b)
  match Config.freeNat k % (if full then 4 else 3) with
  | 0 => t
  | 1 => programBits t w 0 0 m
  | 2 => programBits t w m 0 m
  | _ => programBits t w m m m

/-- An operation is cut short by a trip, a reset or a power loss (R460): the bits before some bit are
programmed, and that bit is blank, marginal or programmed. DESIGN CHOICE, log entry 124. -/
def State.interruptOtp (s : State) : State :=
  match s.otp.ops with
  | [] => s
  | (op, _) :: _ =>
    let bits := opBits s.otp op
    let n := Config.freeNat s.fresh % (bits.length + 1)
    let t := (bits.take n).foldl (fun (t : Table OtpWord) (x : Nat × Nat) => programBit t x.1 x.2) s.otp.array
    let t := match bits[n]? with
      | some x => leaveBit t x.1 x.2 (s.fresh + 1) true
      | none => t
    { s with
      otp := { s.otp with array := t, ops := [], tempLeft := false, recheckFirst := false }
      power := { s.power with enP := s.power.enP &&& 0x7F, pg := s.power.pg &&& 0x7F }
      fresh := s.fresh + 2 }

end Sys2Proof.Machine
end

