-- ==== Sys2Proof/Machine/Flash.lean ====
section
/-!
DEFINITION. The boot flash (R408, R435–R438): erasing and programming, which calibration slot is current
and which is written next, and an operation that is cut short.
-/

namespace Sys2Proof.Machine

open Sys2Proof

/-- A sector of 64 KiB is erased: every byte of it reads 0xFF again. DESIGN CHOICE, log entry 25. -/
def flashErase (m : Memory) (a : Nat) : Memory :=
  List.filter (fun (c : Host.Cell) => !(decide (a ≤ c.1) && decide (c.1 < a + 0x10000))) m

/-- Programming clears bits (SPI NOR). DESIGN CHOICE, log entry 25. -/
def flashProgram (m : Memory) (a : Nat) : List Byte → Memory
  | [] => m
  | b :: bs => flashProgram (memWrite m a (memRead m a ||| ~~~b)) (a + 1) bs

/-- An image chunk is written: a sector is erased before the first write that starts at its beginning
(R410). -/
def flashImage (m : Memory) (a : Nat) (bs : List Byte) : Memory :=
  flashProgram (if a % 0x10000 = 0 then flashErase m a else m) a bs

/-! ## The calibration records (R435, R436) -/

/-- A calibration slot in the flash: slot B or slot A. -/
def slotBase (b : Bool) : Nat := if b then 0x910000 else 0x900000

/-- A byte of the flash. -/
def State.flashByte (s : State) (a : Nat) : Byte := ~~~(memRead s.flash.bytes a)

/-- Bytes of the flash. -/
def State.flashRead (s : State) (a n : Nat) : List Byte := (List.range n).map (fun i => s.flashByte (a + i))

/-- New sets replace the old ones. -/
def applyCoeffs (t : Table Coeff) : List (Nat × Coeff) → Table Coeff
  | [] => t
  | (k, c) :: l => applyCoeffs (t.set k c) l

/-- A coefficient set in a record: its gain, its offset, and 4 reserved bytes. -/
def coeffBytes (c : Coeff) : List Byte := le 2 c.gain ++ leInt 2 c.offset ++ zeros 4

/-- A record as bytes (R435): the CRC covers bytes 0–27 and the body. -/
def recordBytes (r : CalSlot) : List Byte :=
  let head := le 4 0xCA1BD2A6 ++ le 4 r.seq.toNat ++ le 8 r.serial ++ le 2 200 ++ le 2 1 ++ le 2 r.boot ++ leInt 2 r.temp
    ++ zeros 4
  let body := (List.range 25).flatMap (fun k => coeffBytes (r.coeffs.get ⟨0x4000, 0⟩ k))
  head ++ le 4 (crc32c (head ++ body)).toNat ++ body

/-- What a slot holds (R435, R436): a record whose magic, length, version and CRC are correct. -/
def State.slotRecord (s : State) (b : Bool) : Option CalSlot :=
  let h := s.flashRead (slotBase b) 32
  if fld h 0 4 != 0xCA1BD2A6 || fld h 16 2 != 200 || fld h 18 2 != 1 then none
  else
    let body := s.flashRead (slotBase b + 32) 200
    if fld h 28 4 != (crc32c (h.take 28 ++ body)).toNat then none
    else some { seq := BitVec.ofNat 32 (fld h 4 4), serial := fld h 8 8, boot := fld h 20 2, temp := fldInt h 22 2
                coeffs := applyCoeffs [] ((List.range 25).map (fun k =>
                  (k, ⟨fld body (8 * k) 2, fldInt body (8 * k + 2) 2⟩))) }

/-- A valid slot's record, which belongs to this device (R436). -/
def State.validRecord (s : State) (b : Bool) : Option CalSlot :=
  (s.slotRecord b).filter (fun (r : CalSlot) => r.serial == s.serial)

/-- A slot is valid (R436). -/
def State.slotValid (s : State) (b : Bool) : Bool := (s.validRecord b).isSome

/-- The current calibration slot (R436): whether it is slot B; none where neither is valid. -/
def State.currentSlot (s : State) : Option Bool :=
  match s.validRecord false, s.validRecord true with
  | some a, some b => some (decide (0 < ahead32 a.seq b.seq))
  | some _, none => some false
  | none, some _ => some true
  | none, none => none

/-- The current record. -/
def State.currentRecord (s : State) : Option CalSlot := s.currentSlot.bind s.validRecord

/-- The older slot, which a store writes (R438): whether it is slot B. -/
def State.olderSlot (s : State) : Bool :=
  match s.currentSlot with
  | some b => !b
  | none => false

/-- The sequence that a store writes (R438). -/
def State.nextSeq (s : State) : Word :=
  match s.currentRecord with
  | some r => if r.seq = 0xFFFFFFFF then 1 else r.seq + 1
  | none => 1

/-- The next operation's turn (R438): a store chooses the older slot and its sequence, and erases the slot's sector. -/
def State.startFlash (s : State) : State :=
  match s.flash.ops with
  | .store w r none :: rest =>
    let b := s.olderSlot
    { s with flash := { s.flash with
      bytes := flashErase s.flash.bytes (slotBase b)
      ops := .store w { r with seq := s.nextSeq } (some b) :: rest } }
  | _ => s

/-- An operation waits for its turn, or begins at once where none is in progress (R438). -/
def State.queueFlash (op : FlashOp) (s : State) : State :=
  { s with flash := { s.flash with ops := s.flash.ops ++ [op] } }.startFlash

/-- The operation in progress has ended, and the next one begins. -/
def State.endFlash (bytes : Memory) (s : State) : State :=
  { s with flash := { s.flash with bytes := bytes, ops := s.flash.ops.tail } }.startFlash

/-- A record cut short at a free length: it fails its CRC (R438). DESIGN CHOICE, log entry 121. -/
def State.cutRecord (s : State) (b : Bool) (r : CalSlot) (k : Nat) : Memory :=
  flashProgram s.flash.bytes (slotBase b) ((recordBytes r).take (Config.freeNat k % 232))

/-- The operation in progress is cut short, and those that wait are dropped: an image chunk may be
written in part (R408), and the record of a store too (R438).
DESIGN CHOICE, log entry 121. -/
def State.interruptFlash (s : State) : State :=
  let s' := match s.flash.ops with
    | [] => s
    | .image _ a bs :: _ =>
      let n := Config.freeNat (s.fresh + 1) % (bs.length + 1)
      if Config.freeNat s.fresh % 2 = 0 then s
      else { s with flash := { s.flash with bytes := flashImage s.flash.bytes a (bs.take n) } }
    | .store _ _ none :: _ => s
    | .store _ r (some b) :: _ => { s with flash := { s.flash with bytes := s.cutRecord b r s.fresh } }
  { s' with flash := { s'.flash with ops := [] }, fresh := s.fresh + 2 }

/-- Runs in progress or waiting are abandoned (R434); the coefficients stay in Stake4. -/
def Cal.dropRuns (c : Cal) : Cal :=
  { c with due := 0, queue := [], running := [], fails := [], adc := [], adcAt := 0, driftCount := [] }

end Sys2Proof.Machine
end

