-- ==== Sys2Proof/Machine/Rails.lean ====
section
/-!
DEFINITION. The external rails (R397, R398): their order up and down, their PMBus voltages, and the start
of a wake (R402).
-/

namespace Sys2Proof.Machine

open Sys2Proof

/-- The power state is DOZE, SLEEP or OFF-AON. -/
def State.gatedPower (s : State) : Bool := s.pwr == .doze || s.pwr == .sleep || s.pwr == .offAon

/-- The lines that stay up in the present state when rails go down: EN_P1, EN_P4 and EN_P5 in SLEEP. -/
def State.railsKept (s : State) : Byte := if s.sys == .ready && s.pwr == .sleep then 0x32 else 0

/-- The line to be raised next: the first in up order that is low. -/
def State.nextUp (s : State) : Option Nat := (List.range 7).find? (fun k => !s.power.enP.getLsbD k)

/-- The line to be lowered next, in reverse order; EN_P7 is not in the order and falls with the rest. -/
def State.nextDown (s : State) : Option Nat :=
  (List.range 7).reverse.find? (fun k => s.power.enP.getLsbD k && !s.railsKept.getLsbD k)

/-- The LINEAR16 word of a voltage in mV for the exponent of a VOUT_MODE byte (PMBus 1.3).
DESIGN CHOICE, log entry 107. -/
def linear16 (mv mode : Nat) : Nat :=
  let n := signed 5 (mode % 32)
  if 0 ≤ n then mv / (1000 * 2 ^ n.toNat) else mv * 2 ^ n.natAbs / 1000

/-- The voltage of a rail is written before its line rises (R398).  VOUT_MODE is what the device answers:
where it is not LINEAR16, the rail keeps its default voltage, and that is logged.
DESIGN CHOICE, log entry 107. -/
def State.writeVout (k : Nat) (s : State) : State :=
  let r := s.railRec k
  if r.addr = 0 ∨ r.vout = 0 then s
  else
    let mode := Config.freeNat s.fresh % 256
    let s := { s with fresh := s.fresh + 1 }.emit (.pmbus r.addr 0x20 none r.pec)
    if mode / 32 = 0 then s.emit (.pmbus r.addr 0x21 (some (linear16 r.vout mode)) r.pec)
    else s.logOpen { origin := .keeper, obj := k }

/-- A line rises; after the last, power-up is over. -/
def State.raiseNext (s : State) : State :=
  match s.nextUp with
  | some k =>
    let s := s.writeVout k
    { s with power := { s.power with enP := s.power.enP ||| (1#8 <<< k), pgSince := s.aon } }
  | none => { s with power := { s.power with seq := .idle } }

/-- Power-up begins with the first line that is low (R397). -/
def State.railsUp (s : State) : State := { s with power := { s.power with seq := .up } }.raiseNext

/-- The rails begin to rise, or the phases of an OFF-AON wake begin (R397, R402, R407). -/
def State.beginWake (s : State) : State :=
  match s.pwr with
  | .sleep => s.railsUp
  | .offAon => { s with power := { s.power with
      phase := some 2, phaseAt := s.aon, restartKind := 4, u2Fails := 0 } }.railsUp
  | _ => s

/-- Power-down is over: a failed U2 waits 100 ms (R406), and a wake that has fired meanwhile begins
(R400). -/
def State.railsDone (s : State) : State :=
  let s := { s with power := { s.power with seq := .idle } }
  if s.power.u2Fails != 0 && s.power.phase == some 2 then
    { s with power := { s.power with retryAt := some (s.aon + 102400) } }
  else if s.sys == .ready && s.power.waking.isSome then s.beginWake else s

/-- Lines fall in reverse order as far as none has to wait: the Keeper waits for a PG that is still high; after the
last line, power-down is over (R397). -/
def State.lowerFrom : Nat → State → State
  | 0, s => s
  | n + 1, s => match s.nextDown with
    | some k =>
      let s := { s with power := { s.power with enP := s.power.enP &&& ~~~(1#8 <<< k), pgSince := s.aon } }
      if s.power.pg.getLsbD k then s else s.lowerFrom n
    | none => s.railsDone

/-- The next line falls. -/
def State.lowerNext (s : State) : State := s.lowerFrom 8

/-- Power-down begins with the last line that is high (R397). -/
def State.railsDown (s : State) : State :=
  let p := s.power
  { s with power := { p with seq := .down, enP := p.enP &&& 0x7F, pg := p.pg &&& 0x7F } }.lowerNext

end Sys2Proof.Machine
end

