-- ==== Sys2Proof/Machine/Transition.lean ====
section
/-!
DEFINITION. System-state transitions (R41–R45, R160, R235, R237, R517), entry to FAULT, SAFE, UPSETT and
OFF, and what each of them clears.
-/

namespace Sys2Proof.Machine

open Sys2Proof

/-- The power state that a system state takes on entry (R41, R399). -/
def pwrOf (reduced : Bool) : SysState → PwrState
  | .off => .offAon
  | .upsett => .run
  | .ready => .ready
  | .armed => .ready
  | .printing => .run
  | .paused => .ready
  | .fault => if reduced then .offAon else .ready
  | .safe => .offAon

/-! ## Events of one cycle (R43) -/

/-- The order of R43. -/
def moveRank : SysState → Nat
  | .off => 0
  | .safe => 1
  | .fault => 2
  | _ => 3

/-- The system state has changed in this very cycle. DESIGN CHOICE, log entry 142. -/
def State.movedNow (s : State) : Bool := match s.host.moved with
  | some x => x.1 == s.now
  | none => false

/-- A transition to a state that R43 places later has lost to one of this very cycle. -/
def State.outranked (s : State) (new : SysState) : Bool := match s.host.moved with
  | some x => x.1 == s.now && decide (moveRank x.2 < moveRank new)
  | none => false

/-! ## Leaving the armed states (R44, R173, R237, R517) -/

/-- A CANCEL strobe for a line that was sent and never strobed (R44, R276). -/
def State.cancelSent (p : Nat) (s : State) (y : Buffered) : State :=
  s.strobePort y.bar .cancel y.line (16 * (s.tick + s.notice y.bar)) 0 (s.bankOf y.bar) p

/-- Every line that has been sent and has received no LINE strobe is cancelled (R44). -/
def State.cancelUnstrobed (s : State) : State :=
  (List.range 32).foldl (fun s p =>
    let x := s.port p
    let gone := x.buffered.filter (fun y => !y.strobed)
    let s := s.setPort p { x with buffered := x.buffered.filter (·.strobed) }
    if s.linkRuns then gone.foldl (State.cancelSent p) s else s) s

/-- Ring validity, halted blocks and parked decompressor state are cleared (R237). -/
def State.clearRings (s : State) : State :=
  let bar (x : RasterBar) : RasterBar :=
    { x with
      next := none, seqEnded := false, settled := [], blanked := [], prepared := x.prepared.filter (·.ticketed), newest := none, tickets := []
      lastTicket := none, parked := [], floor := none, waitsIndex := none, starvedLines := [] }
  let plane (x : Plane) : Plane := { x with halted := none, retry := false, peer := [], waits := [] }
  { s with
    raster := s.raster.map (fun x => (x.1, bar x.2))
    planes := s.planes.map (fun x => (x.1, plane x.2))
    plait := { s.plait with units := [] } }

/-- Every bar's sequence starts at its generator's start entry (R223). -/
def State.startSequences (s : State) : State :=
  (List.range 16).foldl (fun s g => if s.runsBar g then s.seqStart (s.inForce.sourceBar g) else s) s

/-- The checks that a transition ends (R51, R52, R89): SYS.RESUME's completes, PRINT_EN's does not.
DEDUCED, log entry 42. -/
def State.endChecks (resume : Reason) (s : State) : State :=
  let waiters := s.checks.filterMap (fun c => match c with
    | .resume w => some w
    | _ => none)
  let kept := s.checks.filter (fun c => match c with
    | .cfg _ _ _ _ => true
    | _ => false)
  let s := { s with checks := kept, host := { s.host with checkBusy := false } }
  waiters.foldl (fun s w => s.commandDone w resume 0 0) s

/-- ARMED, PRINTING or PAUSED is left for READY or FAULT.  What R517 applies then still applies in the state that
is left: a TRIG.RUN_START loads its entry (R160). DESIGN CHOICE, log entry 156. -/
def State.leaveArmed (s : State) : State :=
  if !s.sys.armedState then s
  else
    let s := (List.range 16).foldl (fun s g => s.cancelHeld g) s.cancelUnstrobed
    s.applyPending.clearRings

/-! ## A transition -/

/-- The system state changes: the log entry comes first (R477), then the state, then what follows it; once no bar
prints, a resynchronisation may be complete (R341). `obj` is what the entry names besides, `list` what it lists (R364).
DEDUCED, log entry 33; DESIGN CHOICE, log entries 159, 168. -/
def State.setSysFor (new : SysState) (o : Origin) (code : Reason) (obj : Nat) (s : State) (list : Option Word := none) :
    State :=
  let old := s.sys
  let s := match list with
    | none => s.logOpen { origin := o, reason := code, obj := obj }
    | some m => s.logEntry { origin := o, reason := code, obj := obj, new := m }
  let pwr := pwrOf s.power.reduced new
  let at_ := if pwr == s.pwr then s.power.stateAt else s.aon
  let s := { s with
    sys := new, pwr := pwr
    host := { s.host with printEn := new.armedState, moved := some (s.now, new) }
    power := { s.power with stateAt := at_, lastActivity := s.aon } }
  let s := s.trigoutLevels
  let s := ((s.ampUpdate 1).hvUpdate).postStateChange old new code
  if old == .printing then s.trySynced else s

/-- The system state changes. -/
def State.setSys (new : SysState) (o : Origin) (code : Reason) (s : State) : State := s.setSysFor new o code 0

/-- In READY the first pending retirement of a Weave bank starts to re-form the pool (R365, R366). -/
def State.startReform (s : State) : State :=
  match s.mem.reforming, s.mem.pendingRetire with
  | none, r :: rest => { s with mem := { s.mem with reforming := some r, pendingRetire := rest } }
  | _, _ => s

/-- Entry to READY from an armed state (R42, R44). -/
def State.enterReady (o : Origin) (s : State) : State :=
  ((s.leaveArmed.endChecks Rc.checkCancelled).setSys .ready o 0).startSequences.startReform

/-- Halted blocks are decoded again at each entry to ARMED (R235). -/
def State.retryAll (s : State) : State :=
  (List.range 64).foldl (fun s p => s.retryPlane p) s

/-- A bar is armed: RING_PRIMED is due again, at once where the lead is 128 or more (R226). DEDUCED, log entry 74. -/
def State.arming (b : Nat) (s : State) : State := s.setRbar b { s.rbar b with primed := false, primeWaits := false }

/-- Entry to ARMED from READY, or from PAUSED (R160, R223, R235). -/
def State.enterArmed (o : Origin) (s : State) : State :=
  let fresh := s.sys == .ready
  let s := s.setSys .armed o 0
  let s := if fresh then
      (List.range 16).foldl (fun s g => if s.runsBar g then (s.arming (s.inForce.sourceBar g)).enterSequence g else s) s
    else s
  s.retryAll

/-- Entry to PAUSED (R42). -/
def State.enterPaused (o : Origin) (s : State) : State := s.setSys .paused o 0

/-- A state event takes effect in this unit (R333). -/
def State.applyEvent (e : StateEvent) (o : Origin) (s : State) : State :=
  match e with
  | .armed => if s.sys == .ready then s.enterArmed o else s
  | .paused => if s.sys == .printing then s.enterPaused o else s
  | .ready => if s.sys.armedState then s.enterReady o else s
  | .resumed => if s.sys == .paused then s.enterArmed o else s

/-- A transition that unit P of a pair stamps 400 ticks ahead, and that a unit alone takes at once (R333). -/
def State.requestEvent (e : StateEvent) (o : Origin) (s : State) : State :=
  if s.leadsPair then
    let t := s.tick + 400
    { s.emit (.control (.stateEvent e t)) with
      pair := { s.pair with stateEvents := s.pair.stateEvents ++ [(e, t, o)] } }
  else s.applyEvent e o

/-- A state event takes effect and leaves the list (R333). -/
def State.takeEvent (s : State) (e : StateEvent × Nat × Origin) : State :=
  { s with pair := { s.pair with stateEvents := s.pair.stateEvents.erase e } }.applyEvent e.1 e.2.2

/-- STATE_EVENT_APPLY: the oldest state event that is due takes effect (R333).  In unit S the lines before t_s
come first: its clock is the closure of unit P's stream (R331, R332). DEDUCED, log entry 154. -/
def stateEventApply (s : State) : State :=
  let now := if s.follows then min s.tick s.pair.streamClosed else s.tick
  match s.pair.stateEvents.find? (fun e => decide (e.2.1 ≤ now)) with
  | none => s
  | some e => s.takeEvent e

/-- A HALT of any plane (R42, R228, R233): in a pair unit S reports it, also in input fallback, and unit P stamps
it (R333). -/
def State.haltPrinting (s : State) : State :=
  if s.sys != .printing then s
  else if s.mirrors then s.emit (.control .haltReport)
  else s.requestEvent .paused .fwAuto

/-- The first ticket on any bar: ARMED becomes PRINTING (R42). -/
def State.firstTicket (s : State) : State :=
  if s.sys == .armed then s.setSys .printing .fwAuto 0 else s

/-! ## What entries to UPSETT, SAFE, OFF-AON and OFF clear -/

/-- What Stake3 and Stake4 hold stays in every state but OFF (R368); the other memories are lost or cleared. -/
def Mem.keepStakes (m : Mem) : Mem :=
  let kept (a : Nat) : Bool := decide (0x2300000 ≤ a) && decide (a < 0x2500000)
  { ({} : Mem) with
    onchip := List.filter (fun (c : Host.Cell) => kept c.1) m.onchip
    poison := m.poison.filter (fun w => w.1 == 1 && kept w.2), failRows := m.failRows }

/-- Configuration, shadow sets, and everything that runs on them return to reset (R86, R119, R207, R237,
R262, R318, R368, R389, R426, R434, R517).  What the Keeper, the OTP, the boot flash, the change log and
the counters from cold start keep stays. DESIGN CHOICE, log entry 24; DEDUCED, log entry 26. -/
def State.wipe (s : State) : State :=
  { State.reset with
    sys := s.sys
    pwr := s.pwr
    tick := s.tick
    aon := s.aon
    host := { s.host with
      tickHi := 0, aonHi := 0, scratch := 0, printEn := false, checkBusy := false
      refuse := 0, refuseClass := 0, refuseObj := 0 }
    ring := { ({} : Ring) with
      seq := s.ring.seq, lost := s.ring.lost, unreported := s.ring.unreported, lastLost := s.ring.lastLost
      entries := s.ring.entries }
    base := { ({} : Cfg) with logStrict := s.inForce.logStrict }
    commitId := s.commitId
    pair := { ({} : Pair) with idHigh := s.pair.idHigh, unitS := s.pair.idHigh, lastPin := s.pair.lastPin }
    mem := s.mem.keepStakes
    power := { s.power with
      hvFailed := 0, hv := [], entry := none, waking := none }
    therm := s.therm
    cal := s.cal.dropRuns
    flash := s.flash
    otp := { s.otp with ops := [], recheckFirst := false }
    bist := { ({} : Bist) with
      results := s.bist.results, failures := s.bist.failures
      pools := s.bist.pools.map (fun x => (x.1, { retired := x.2.retired })) }
    log := { s.log with utc := 0 }
    out := s.releaseBalls.releaseGpio.out
    fresh := s.fresh
    pending := s.pending }

/-- What temperature has brought about is at reset with the settings (R426); the readings, the trips and the restarts
stay. DEDUCED, log entry 26. -/
def Thermal.restart (x : Thermal) : Thermal :=
  { x with
    domains := [], ceiling := 0x8000, gradHigh := false, gradCount := 0, hbmMissing := 0, hbmLost := false
    validity := [], recent := [], sensorFaults := 0, dieVotes := 0, hbmVotes := 0 }

/-- Every AMP_EN is low (R199). -/
def State.ampLow (cause : Nat) (s : State) : State :=
  (List.range 8).foldl (fun s k => if (s.amp k).en then s.setAmpEn k false cause else s) s

/-- Tests stop with the given causes: the periodic ones and the one on demand. -/
def State.stopTests (c : StopCause) (s : State) : State :=
  let s := s.stopAllPeriodic c
  match s.bist.demand with
  | none => s
  | some d =>
    let s := s.stopDemand c
    let n := match s.bist.demand with
      | some e => e.count
      | none => 0
    ({ s with bist := { s.bist with demand := none } }.recordTest d.part d.unit 2 3 n c none d.from_).postBist
      d.part d.unit 2 Rc.bistIncomplete c

/-! ## FAULT (R41, R42, R44, R407) -/

/-- FAULT holds only PD_AON (R407): the power state is OFF-AON (R399), where nothing of the gated domains is left
(R151, R434), tests stop (R466) and the rails go down; the Keeper keeps the code, the phase and the thresholds.
DEDUCED, log entry 109. -/
def State.reduce (code : Reason) (phase : Nat) (s : State) : State :=
  let s := (((s.ampLow 1).hvLow.stopTests .power).interruptOtp).interruptFlash
  let at_ := if s.pwr == .offAon then s.power.stateAt else s.aon
  let w := s.wipe
  let p := { w.power with
    reduced := true, prevFault := code, prevPhase := phase, prevReport := true, refRunning := false, trimmed := false
    stateAt := at_ }
  ({ w with
    pwr := .offAon, power := p, host := { w.host with linkUp := false }
    base := { w.base with therms := s.inForce.therms } }.portsOff).railsDown

/-- An uncorrectable fault, with its code; `reduced`: no CORE clock or no VDD_CORE is left (R407). -/
def State.enterFaultFor (reduced : Bool) (code : Reason) (o : Origin) (obj : Nat) (s : State) (list : Option Word := none) :
    State :=
  match s.sys with
  | .off => s
  | .safe => s
  | .fault => s
  | old =>
    let o := if old == .upsett then .boot else o
    let phase := match old, s.power.phase with
      | .upsett, some p => p
      | _, _ => 0xF
    let red := reduced || (old == .upsett && decide (phase ≤ 2))
    let stopped := !s.timeRuns
    let s := { s with
      host := { s.host with faultCode := code, faultPhase := phase }
      power := { s.power with
        reduced := red, phase := none, retryAt := none, entry := none, waking := none, linkOn := false, rstnHeld := false } }
    let s := s.leavePair
    let s := (List.range 16).foldl (fun s g => s.cutBurst g Rc.wrongState) s
    let s := (s.leaveArmed.clearRings.endChecks Rc.wrongState).setSysFor .fault o code obj list
    if red then s.reduce code phase
    else if stopped then s.loadTick.axesRestart else s

/-- An uncorrectable fault. -/
def State.enterFaultAs (reduced : Bool) (code : Reason) (o : Origin) (s : State) : State := s.enterFaultFor reduced code o 0

/-- An uncorrectable fault. -/
def State.enterFault (code : Reason) (o : Origin) (s : State) : State := s.enterFaultAs false code o

/-! ## SAFE, UPSETT and OFF -/

/-- Entry to SAFE (R42, R44): HVEN falls at once, and the EN_P lines one by one (R422).  HOST is gated there, so no event is posted.
DEDUCED, log entries 26, 118. -/
def State.enterSafe (code : Reason) (s : State) : State :=
  match s.sys with
  | .off => s
  | .safe => s
  | _ =>
    let s := s.leavePair
    let s := ((s.hvLow.ampLow 1).stopTests .thermal).interruptOtp.interruptFlash
    let s := s.logOpen { origin := .keeper, reason := code }
    let lines := s.power.enP
    let s := { s.wipe with sys := .safe, pwr := .offAon, therm := s.therm.restart }
    let h := { s.host with
      faultCode := code, faultPhase := 0xF, upsettPhase := 7, linkUp := false, moved := some (s.now, .safe) }
    { s with
      host := h
      power := { s.power with
        reduced := false, phase := none, retryAt := none, stateAt := s.aon, seq := .idle, tripRails := some (s.aon, lines)
        enP := lowerTop lines 1, pg := 0, refRunning := false, trimmed := false, prevFault := code, prevPhase := 0xF, prevReport := false } }.portsOff

/-- Entry to UPSETT at a phase (R42, R407): every pending command is discarded (R77).
DEDUCED, log entries 26, 27. -/
def State.enterUpsett (first kind : Nat) (o : Origin) (s : State) : State :=
  let old := s.sys
  let s := ((s.leavePair.stopTests .stopped).hvLow.ampLow 1).interruptOtp.interruptFlash
  let s := s.logOpen { origin := o }
  let prev := if old == .fault || old == .safe then
      (if s.power.prevReport then (s.power.prevFault, s.power.prevPhase) else (s.host.faultCode, s.host.faultPhase))
    else (0, 0xF)
  let s := { s.wipe with sys := .upsett, pwr := .run, therm := s.therm.restart }
  let s := { s with bist := { s.bist with pools := [] } }
  let h := { s.host with
    faultCode := 0, faultPhase := 0xF, upsettPhase := first - 1, linkUp := false, moved := some (s.now, .upsett) }
  let s := { s with
    host := h
    flash := { s.flash with resetLow := true, bus := {} }
    power := { s.power with
      reduced := false, tripRails := none, phase := some first, phaseAt := s.aon, u2Fails := 0, retryAt := none, resetAt := none
      linkOn := false, rstnHeld := false, restartKind := kind, prevFault := prev.1, prevPhase := prev.2
      stateAt := s.aon } }
  (s.postStateChange old .upsett 0).portsOff

/-- OFF: VDD_AON is absent or POR_N asserted (R41); only the OTP and the boot flash keep their content.
DEDUCED, log entries 26, 112, 169. -/
def State.enterOff (s : State) : State :=
  let s := s.interruptOtp.interruptFlash
  { State.reset with
    sys := .off
    pwr := .offAon
    tick := 0
    aon := 0
    host := { ({} : HostRegs) with
      bootCount := s.host.bootCount, readData := s.host.readData, readBytes := s.host.readBytes
      linkUp := false, upsettPhase := 0 }
    log := {}
    ring := { entries := s.ring.entries }
    power := { ({} : Power) with enP := 0, pg := s.power.pg, refRunning := false }
    flash := s.flash
    otp := { ({} : Otp) with array := s.otp.array }
    pair := { ({} : Pair) with idHigh := s.pair.idHigh, unitS := s.pair.idHigh }
    bist := {}
    out := .allOff :: s.out
    fresh := s.fresh
    pending := s.pending }

end Sys2Proof.Machine
end

