-- ==== Sys2Proof/Machine/Check.lean ====
section
/-!
DEFINITION. Ownership (R90, R91), the checks that a commit repeats (R83) and the consistency check
(R87, R88) with its budgets (R39, R236, R287).
-/

namespace Sys2Proof.Machine

open Sys2Proof

/-- A refusal of a commit or of a check: the code, the object reported, and the response payload. -/
structure Refused where
  code : Reason
  cls : Byte
  obj : Nat
  payload : List Byte := []
  deriving DecidableEq, Repr

/-- The first refusal of a list. -/
def firstRefusal : List (Option Refused) → Option Refused
  | [] => none
  | some r :: _ => some r
  | none :: t => firstRefusal t

/-! ## Ownership (R90, R91) -/

/-- The least of a list of class and id. -/
def leastObj (l : List (Nat × Nat)) : Option (Nat × Nat) :=
  l.foldl (fun m x => match m with
    | none => some x
    | some y => if x.1 < y.1 || (x.1 == y.1 && decide (x.2 < y.2)) then some x else some y) none

/-- The ball index of a TRIGOUT output's ball (R490): the manual gives no ball map.
DESIGN CHOICE, log entry 55. -/
def trigoutBall (j : Nat) : Nat := Config.pinBall j % 2209
/-- The ball index of a GPIO ball. DESIGN CHOICE, log entry 55. -/
def gpioBall (k : Nat) : Nat := Config.pinBall (8 + k) % 2209

/-- A generator that two bar records name (R158): the second bar's change is refused.  The record of a bar that is
disabled still names its generator (R90). DEDUCED, log entry 146. -/
def trigConflict (cfg : Cfg) (b g : Nat) : Option Nat :=
  (List.find? (fun (x : Nat × BarRec) => x.1 != b && x.2.trigger == g) cfg.bars).map (fun (x : Nat × BarRec) => x.1)

/-- The settings under which an echo output regenerates (R147). -/
def State.echoOwner (s : State) (k : Nat) : Option EchoRec :=
  if (echoRec s.inForce k).enable then some (echoRec s.inForce k)
  else if (echoRec s.accepted k).enable then some (echoRec s.accepted k) else none

/-- The generator whose events a TRIGOUT output reports, while it owns its ball (R179). -/
def State.trigoutOwner (s : State) (j : Nat) : Option Nat :=
  if (trigoutRec s.inForce j).enable then some (trigoutRec s.inForce j).source
  else if (trigoutRec s.accepted j).enable then some (trigoutRec s.accepted j).source else none

/-- A refusal that names a resource and its owner (R91). -/
def owned (code : Reason) (cls : Byte) (obj : Nat) (ocls : Byte) (owner : Nat) : Option Refused :=
  some ⟨code, cls, obj, ownerPayload ocls owner⟩

/-- A binding that names a bar claims its channel (R193, R201). -/
def State.claimChannel (s : State) (c b : Nat) : Option Refused :=
  if 128 ≤ c && (s.amp (c - 128)).calOwned then owned Rc.waveChannelOwned Cls.waveChannel c Cls.system 0
  else match s.chanOwner c with
    | some o => if o = b then none else owned Rc.waveChannelOwned Cls.waveChannel c Cls.bar o
    | none => none

/-- A claim of a TRIGOUT ball that an echo output owns, or will own (R147, R179). -/
def State.claimTrigout (s : State) (after : Cfg) (j : Nat) : Option Refused :=
  if (s.echoOwner (j / 2)).isSome || (echoRec after (j / 2)).enable then
    owned Rc.pinConflict Cls.pin (trigoutBall j) Cls.echoOutput (j / 2)
  else none

/-- A claim of an echo output and its two balls (R147).  The user that enabled the output may change its
source and ratio (R150); another user's change to another axis or ratio is refused (R90, R91).
DEDUCED, log entry 147. -/
def State.claimEcho (s : State) (by_ : Origin) (k : Nat) (r : EchoRec) : Option Refused :=
  match s.echoOwner k with
  | some o =>
    if (s.echo k).owner = some by_ ∨ (o.source = r.source ∧ o.ratioM = r.ratioM ∧ o.ratioN = r.ratioN) then none
    else owned Rc.echoOutputOwned Cls.echoOutput k Cls.axis o.source
  | none => match [2 * k, 2 * k + 1].find? (fun j => (s.trigoutOwner j).isSome) with
    | some j => owned Rc.pinConflict Cls.pin (trigoutBall j) Cls.triggerGenerator ((s.trigoutOwner j).getD 0)
    | none => none

/-- What a change claims (R90): the object class of the resource, for the order of R87, and the refusal. -/
def State.claim (s : State) (by_ : Origin) (after : Cfg) : Change → Nat × Option Refused
  | .bar b r => (5, match trigConflict after b r.trigger with
      | some o => owned Rc.triggerGeneratorOwned Cls.triggerGenerator r.trigger Cls.bar o
      | none => none)
  | .channel c r => (7, if r.enable then s.claimChannel c r.bar else none)
  | .dac k r => (7, if r.enable then s.claimChannel (128 + k) r.bar else none)
  | .trigout j r => (9, if r.enable then s.claimTrigout after j else none)
  | .echo k r => (12, if r.enable then s.claimEcho by_ k r else none)
  | _ => (0, none)

/-- Step 1 of R83: ownership, in ascending class of the resource. DEDUCED, log entry 54. -/
def State.ownership (s : State) (by_ : Origin) (after : Cfg) (cs : List Change) : Option Refused :=
  firstRefusal ([5, 7, 9, 12].flatMap (fun k => cs.map (fun c =>
    let x := s.claim by_ after c
    if x.1 = k then x.2 else none)))

/-! ## The checks repeated at commit (R83 step 2) -/

/-- An axis is in use under the configuration that a commit would leave (R153). -/
def State.usedAfter (s : State) (after : Cfg) (n : Nat) : Bool :=
  (List.range 16).any (fun b => (s.barEnabled b || after.enabledBar b)
    && ((barRec after b).axisA == n || (barRec after b).axisB == n))

/-- A commit binds a channel. -/
def bindsChan (cs : List Change) (c : Nat) : Bool :=
  cs.any (fun x => match x with
    | .channel d r => r.enable && d == c
    | .dac k r => r.enable && 128 + k == c
    | _ => false)

/-- Two enabled channels overlap after a commit that moves a head (R194). -/
def overlapAfter (after : Cfg) (cs : List Change) : Option Refused :=
  (enabledChans after).findSome? (fun c => (overlapOf after c).map (fun d =>
    (⟨Rc.driveOverlap, Cls.waveChannel, if bindsChan cs c then d else c, []⟩ : Refused)))

/-- A refusal naming an object. -/
def refusedObj (code : Reason) (cls : Byte) (obj : Nat) : Option Refused := some ⟨code, cls, obj, []⟩

/-- The area or ring of a change intersects another (R217). -/
def areaRefusal (after sizes : Cfg) (lo hi : Nat) (p b : Option Nat) : Option Refused :=
  (areaHit after sizes lo hi p b).map (fun x => ⟨Rc.areaOverlap, x.1, x.2, []⟩)

/-- The checks that its chapter repeats for one change at commit. -/
def State.recheck (s : State) (after : Cfg) (cs : List Change) : Change → Option Refused
  | .axis n r =>
    if s.usedAfter after n && axisLockedChange (axisRec s.inForce n) r then refusedObj Rc.axisFieldLocked Cls.axis n
    else none
  | .axisEnable n e => if !e && s.usedAfter after n then refusedObj Rc.axisInUse Cls.axis n else none
  | .bar b r =>
    if s.barEnabled b && barLockedChange (barRec s.inForce b) r then refusedObj Rc.barFieldLocked Cls.bar b else none
  | .trig g r =>
    if s.tgEnabled g && (trigRec s.inForce g).sourceBar != r.sourceBar then
      refusedObj Rc.tgFieldLocked Cls.triggerGenerator g
    else none
  | .head _ _ => overlapAfter after cs
  | .channel c r =>
    if r.enable then (overlapOf after c).map (fun d => ⟨Rc.driveOverlap, Cls.waveChannel, d, []⟩) else none
  | .dac k r =>
    if r.enable then (overlapOf after (128 + k)).map (fun d => ⟨Rc.driveOverlap, Cls.waveChannel, d, []⟩) else none
  | .plane p r =>
    if s.planeBound p then refusedObj Rc.planeBound Cls.plane p
    else areaRefusal after s.inForce r.areaBase r.areaLimit (some p) none
  | .ring b r =>
    let span := ringSpan s.inForce b r
    if s.barEnabled b then refusedObj Rc.ringLocked Cls.bar b
    else areaRefusal after s.inForce span.1 span.2 none (some b)
  | .substs es => firstRefusal (es.map (fun e =>
      (substDefect after after e.1 e.2).map (fun r => ⟨r, Cls.head, e.1 / 8192, []⟩)))
  | .outs _ es => firstRefusal (es.map (fun e =>
      (substDefect after after e.1 e.2).map (fun r => ⟨r, Cls.head, e.1 / 8192, []⟩)))
  | .planeEnable p e =>
    let others (b : Nat) : List (Nat × PlaneRec) := (barPlanes s.accepted b).filter (fun q => q.1 != p)
    match Table.find? after.planes p with
    | none => none
    | some r =>
      if !e then none
      else match (others r.bar).find? (fun q => linesMeet q.2 r) with
        | some q => refusedObj Rc.planeRangeOverlap Cls.plane q.1
        | none => if 8 ≤ (others r.bar).length then refusedObj Rc.tooManyPlanes Cls.bar r.bar else none
  | .port p r =>
    if !r.enable && (List.range 16).any (fun b => (s.barEnabled b || after.enabledBar b)
        && (after.portsOf b).contains p) then refusedObj Rc.portInUse Cls.canePort p
    else none
  | _ => none

/-! ## The consistency check (R87, R88) -/

/-- Step 4: a resource in use with two owners, in ascending class and id (R87).  A bar record that no change
has set is no user of the generator that its reset value names. DEDUCED, log entry 146. -/
def contested (cfg : Cfg) : Option Refused :=
  let named (g : Nat) : List Nat :=
    (List.filter (fun (x : Nat × BarRec) => x.2.trigger == g) cfg.bars).map (fun (x : Nat × BarRec) => x.1)
  let tg := (List.range 16).findSome? (fun g =>
    let bs := named g
    if 2 ≤ bs.length && bs.any cfg.enabledBar then
      owned Rc.triggerGeneratorOwned Cls.triggerGenerator g Cls.bar ((bs.find? cfg.enabledBar).getD 0)
    else none)
  let balls := ((List.range 8).filter (fun j => (trigoutRec cfg j).enable && (echoRec cfg (j / 2)).enable)).map
    (fun j => (trigoutBall j, j))
  let pin := (leastObj balls).bind (fun x => owned Rc.pinConflict Cls.pin x.1 Cls.echoOutput (x.2 / 2))
  firstRefusal [tg, pin]

/-- An axis is enabled and has a configured input (step 5). -/
def axisReady (cfg : Cfg) (n : Nat) : Bool :=
  cfg.axisEn.get false n && (Table.find? cfg.axes n).isSome

/-- Step 5 passes for a bar: its record names a generator that follows it, and no other enabled generator
does (R158). -/
def axesOk (cfg : Cfg) (b : Nat) : Bool :=
  let r := barRec cfg b
  cfg.sourceBar r.trigger == b
    && (List.range 16).all (fun g => g == r.trigger || !cfg.tgEn.get false g || cfg.sourceBar g != b)
    && axisReady cfg r.axisA && axisReady cfg r.axisB

/-- A bar's ring obeys R222. -/
def ringOk (cfg : Cfg) (b : Nat) : Bool :=
  match Table.find? cfg.rings b with
  | none => false
  | some r =>
    let span := ringSpan cfg b r
    decide (maxOffset cfg b - minOffset cfg b + 200 ≤ r.depth)
      && (areaHit cfg cfg span.1 span.2 none (some b)).isNone

/-- A head's columns lie within a width (R109). -/
def columnsOk (cfg : Cfg) (h width : Nat) : Bool :=
  (headNozzles cfg h).all (fun n => nmapState n.2.2 == 4 || decide (nmapColumn n.2.2 < width))

/-- The objects of a bar that fail step 6: class and id (R87, R99, R109, R222, R238, R291). -/
def State.geomFails (s : State) (cfg : Cfg) (b : Nat) : List (Nat × Nat) :=
  let r := barRec cfg b
  (if (barPlanes cfg b).isEmpty || !ringOk cfg b || r.rasterWidth == 0 then [(1, b)] else [])
    ++ ((cfg.headsOf b).filter (fun h => !headHasAddress cfg h.1 || !(portRec cfg h.2.port).enable
        || (s.port h.2.port).state != .up || !columnsOk cfg h.1 r.rasterWidth)).map (fun h => (2, h.1))
    ++ ((barPlanes cfg b).filter (fun p => p.2.codeWidth != r.codeWidth || p.2.width != r.rasterWidth)).map
        (fun p => (8, p.1))

/-- The least waveform that step 7 refuses: longer than its bar's period allows (R159, R192). -/
def waveTooSlow (cfg : Cfg) (bars : List Nat) : Option Nat :=
  (leastObj (bars.flatMap (fun b => ((barWaves cfg b).filter (fun w =>
    decide ((trigRec cfg (cfg.trigOf b)).minPeriod < waveTicks (waveRec cfg w) + 400))).map (fun w => (6, w))))).map (·.2)

/-! ## Budgets (R39, R236, R287) -/

/-- The present nozzles of a head (R98). -/
def headCount (r : HeadRec) : Nat := r.rows * r.perRow

/-- r_b of R236, in lines/s. -/
def lineRate (cfg : Cfg) (b : Nat) : ℚ := 400000000 / (trigRec cfg (cfg.trigOf b)).minPeriod

/-- W_b: the bar line size in bytes (R100). -/
def barLineBytes (r : BarRec) : Nat := (r.rasterWidth * r.codeWidth + 7) / 8

/-- S of a row (R236). -/
def rowSpan (cfg : Cfg) (w h row : Nat) : Nat :=
  let cols := ((headNozzles cfg h).filter (fun n => n.2.1 == row && stateSelected (nmapState n.2.2))).map
    (fun n => nmapColumn n.2.2)
  match cols with
  | [] => 0
  | c :: cs =>
    let lo := cs.foldl min c * w / 8 / 32
    let hi := ((cs.foldl max c + 1) * w + 7) / 8
    (hi + 31) / 32 * 32 - lo * 32

/-- The bytes of HBM that a line of a bar moves (R39). -/
def barHbmBytes (cfg : Cfg) (b : Nat) : ℚ :=
  let r := barRec cfg b
  let spans := ((cfg.headsOf b).map (fun h => ((List.range h.2.rows).map (rowSpan cfg r.codeWidth h.1)).sum)).sum
  (barLineBytes r : ℚ) + spans + (barLineBytes r : ℚ) * 260 / 256

/-- V_h of R287. -/
def vectorBytes (r : HeadRec) (w : Nat) : Nat := (headCount r * w + 255) / 256 * 32

/-- The charge of a port (R287), in bit/s. -/
def portCharge (cfg : Cfg) (bars : List Nat) (p : Nat) : ℚ :=
  (bars.map (fun b =>
    let bytes := (((cfg.headsOf b).filter (fun h => h.2.port == p)).map (fun h =>
      let v := vectorBytes h.2 (barRec cfg b).codeWidth
      v + 32 * ((v + 4095) / 4096))).sum
    lineRate cfg b * 8 * bytes)).sum

/-- N_b (R236). -/
def barNozzles (cfg : Cfg) (b : Nat) : Nat := ((cfg.headsOf b).map (fun h => headCount h.2)).sum

/-- Step 8 (R39): the first budget row that is exceeded. -/
def State.budgets (s : State) (cfg : Cfg) (bars : List Nat) : Option Refused :=
  let sum (f : Nat → ℚ) : ℚ := (bars.map f).sum
  let codes := sum (fun b => barNozzles cfg b * lineRate cfg b)
  let codeLimit : ℚ := 10000000000 * s.activeCount 0 / (if s.mem.contiguous || (s.leadsPair && s.pair.twinContiguous) then 2 else 1)
  let dec := sum (fun b => barLineBytes (barRec cfg b) * lineRate cfg b)
  let hbm := sum (fun b => lineRate cfg b * barHbmBytes cfg b) + 32000000000
  let weave := sum (fun b => barNozzles cfg b * lineRate cfg b * (4 + 2 * ((barRec cfg b).codeWidth : ℚ) / 8)) + 64000000000
  if codeLimit < codes then refusedObj Rc.budgetLineEngine Cls.budget 0
  else if 16000000000 * (s.activeCount 1 : ℚ) < dec then refusedObj Rc.budgetDecompression Cls.budget 1
  else match (List.range 32).find? (fun p => decide (11900000000 < portCharge cfg bars p)) with
    | some p => refusedObj Rc.budgetCanePort Cls.budget (0x100 + p)
    | none =>
      if 573440000000 < hbm then refusedObj Rc.budgetHbm Cls.budget 3
      else if 768000000000 < weave then refusedObj Rc.budgetWeave Cls.budget 4
      else none

/-- Steps 1, 3 and 4 of the consistency check, and step 2 of a check of the whole (R87). -/
def State.checkFirst (s : State) (cfg : Cfg) (whole : Bool) : Option Refused :=
  if s.otp.lc == .virgin || s.otp.lc == .scrapped then refusedObj Rc.notPermittedInLifecycle Cls.system 0
  else if whole && cfg.enabledBars.isEmpty then refusedObj Rc.noBarEnabled Cls.system 0
  else if s.logRefuses then refusedObj Rc.logFull Cls.system 0
  else contested cfg

/-- The bars that step 8 charges (R88): those enabled in the configuration, and those that an earlier commit disables
whose disable has not applied (R101). -/
def State.charged (s : State) (cfg : Cfg) : List Nat :=
  (List.range 16).filter (fun b => cfg.enabledBar b || (s.inForce.enabledBar b && !s.accepted.enabledBar b))

/-- Steps 5–7 of the consistency check for the bars in scope, and step 8 for every bar enabled (R87, R88). -/
def State.checkBars (s : State) (cfg : Cfg) (bars : List Nat) : Option Refused :=
  match bars.find? (fun b => !axesOk cfg b) with
  | some b => refusedObj Rc.axisAssignment Cls.bar b
  | none => match leastObj (bars.flatMap (s.geomFails cfg)) with
    | some o => some ⟨Rc.geomReference, BitVec.ofNat 8 o.1, o.2, []⟩
    | none => match waveTooSlow cfg bars with
      | some w => refusedObj Rc.waveExceedsPeriod Cls.waveform w
      | none => s.budgets cfg (s.charged cfg)

/-- The consistency check of a configuration (R87).  `scope` none: the whole armed configuration; a list:
the bars of a scoped check (R88).  Steps 5–7 judge each bar that the scope names, enabled or not; step 8
charges the enabled bars. DESIGN CHOICE, log entry 137. -/
def State.check (s : State) (cfg : Cfg) (scope : Option (List Nat)) : Option Refused :=
  firstRefusal [s.checkFirst cfg scope.isNone, s.checkBars cfg (scope.getD cfg.enabledBars)]

/-- The consistency check of a commit: only its steps 1, 3 and 4 where no enabled bar is in scope (R83). -/
def State.checkCommit (s : State) (cfg : Cfg) (scope : List Nat) : Option Refused :=
  if scope.isEmpty then s.checkFirst cfg false else s.check cfg (some scope)

/-- The bars of a 16-bit mask, ascending. -/
def barsOfMask (m : Nat) : List Nat := maskList 16 m
/-- The 16-bit mask of bars. -/
def maskOfBars (l : List Nat) : Nat := maskOf l

end Sys2Proof.Machine
end

