-- ==== Sys2Proof/Machine/Commit.lean ====
section
/-!
DEFINITION. Commits: which bars a change concerns (R28), submission, module delivery (R282), acceptance
and refusal (R83–R85, R93), the firmware's own commits (R313) and the commits of a pair (R335).
-/

namespace Sys2Proof.Machine

open Sys2Proof

/-! ## The bars that a change concerns (R28, R29) -/

/-- The bar of a head in two configurations. -/
def headBars (old new : Cfg) (h : Nat) : List Nat :=
  ([(headRec old h).bar, (headRec new h).bar]).filter (· != 0xFF)

/-- The enabled bars that name an axis. -/
def State.axisBars (s : State) (new : Cfg) (n : Nat) : List Nat :=
  (List.range 16).filter (fun b => s.barEnabled b
    && ([barRec s.inForce b, barRec new b].any (fun r => r.axisA == n || r.axisB == n)))

/-- The bars of a channel's enabled bindings. -/
def chanBars (old new : Cfg) (c : Nat) : List Nat :=
  (if chanEnabled old c then [chanBar old c] else []) ++ (if chanEnabled new c then [chanBar new c] else [])

/-- The bars that a change concerns; none: it applies at acceptance (R29). -/
def State.barsOf (s : State) (new : Cfg) (c : Change) : List Nat :=
  let old := s.accepted
  let l : List Nat := match c with
    | .head h _ => headBars old new h
    | .row h _ _ => headBars old new h
    | .bar b _ => [b]
    | .nmap _ _ es => es.flatMap (fun e => headBars old new (e.1 / 8192))
    | .stitch z _ => ([old, new].flatMap (fun cfg =>
        (List.filter (fun (x : Nat × StitchRec) => x.1 == z && x.2.enable) cfg.stitches).map (fun (x : Nat × StitchRec) => x.2.bar)))
    | .stitchMask k _ =>
      (List.filter (fun (x : Nat × StitchRec) => x.2.enable && x.2.mask == k) new.stitches).map (fun (x : Nat × StitchRec) => x.2.bar)
    | .passMask k _ =>
      (List.filter (fun (x : Nat × BarRec) => x.2.scanning && x.2.passMask == k) new.bars).map (fun (x : Nat × BarRec) => x.1)
    | .swath b _ => [b]
    | .axis n _ => s.axisBars new n
    | .axisEnable n _ => s.axisBars new n
    | .echo _ _ => []
    | .wake _ => []
    | .trig g _ => if s.tgEnabled g then [old.sourceBar g, new.sourceBar g] else []
    | .run g _ _ => if s.tgEnabled g then [new.sourceBar g] else []
    | .runStart g _ => if s.tgEnabled g then [new.sourceBar g] else []
    | .trigout _ r => if s.tgEnabled r.source then [new.sourceBar r.source] else []
    | .trigEnable g _ _ => [new.sourceBar g]
    | .wave w _ => (List.range 16).filter (fun b => (barWaves old b).contains w || (barWaves new b).contains w)
    | .profile b _ _ => [b]
    | .waveBar b _ => [b]
    | .channel c _ => chanBars old new c
    | .dac k _ => chanBars old new (128 + k)
    | .curve c _ _ => chanBars old new c
    | .plane _ _ => []
    | .planeEnable p _ => match Table.find? new.planes p with
      | some r => [r.bar]
      | none => []
    | .ring b _ => [b]
    | .port p _ => (List.range 16).filter (fun b => (new.portsOf b).contains p)
    | .policy b _ => [b]
    | .ref h _ _ => headBars old new h
    | .substs es => es.flatMap (fun e => headBars old new (e.1 / 8192))
    | .substClear ids => ids.flatMap (fun i => headBars old new (i / 8192))
    | .outs states es => (states.map (·.1) ++ es.map (·.1)).flatMap (fun i => headBars old new (i / 8192))
    | .temp h _ => headBars old new h
    | .scrub _ => []
    | .power _ => []
    | .hv _ _ => []
    | .therm _ _ => []
    | .bistPeriod _ => []
    | .logMode _ => []
  l.foldl insertNat []

/-- Every bar that a list of changes concerns, ascending. -/
def State.barsOfAll (s : State) (new : Cfg) (cs : List Change) : List Nat :=
  (cs.flatMap (s.barsOf new)).foldl insertNat []

/-! ## Evaluation (R83) -/

/-- The scope of a commit's consistency check (R83, R180, R238): the enabled bars that it affects, and
the bar of a generator that it enables. -/
def State.commitScope (s : State) (after : Cfg) (kind : CommitKind) (cs : List Change) : List Nat :=
  match kind with
  | .trig g => if after.tgEn.get false g then [after.sourceBar g] else []
  | _ => (s.barsOfAll after cs).filter (fun b => after.enabledBar b)

/-- Steps 1–3 of R83 for the changes of a submitted commit. DEDUCED, log entry 49. -/
def State.judge (s : State) (by_ : Origin) (kind : CommitKind) (cs : List Change) : Option Refused :=
  let after := s.accepted.applyAll cs
  firstRefusal (s.ownership by_ after cs :: cs.map (s.recheck after cs)
    ++ [s.checkCommit after (s.commitScope after kind cs)])

/-- A run of the consistency check restarts the idle timer, whoever's commit it is (R399). -/
def State.noteCheck (s : State) : State := { s with power := { s.power with lastActivity := s.aon } }

/-- The digest of the affected objects in force before a commit, and of its descriptors (R479).
DEDUCED, log entry 51. -/
def State.commitDigests (s : State) (cs : List Change) : Word × Word :=
  (crc32c (cs.flatMap (changeBefore s.inForce)), crc32c (cs.flatMap changeBytes))

/-! ## Module delivery (R282) -/

/-- The bank of a head that a commit to `after` leaves for its bar's next fires (R281): that of the bar
that it joins, or of the one that it leaves. DEDUCED, log entry 148. -/
def State.headBank (s : State) (before after : Cfg) (h : Nat) : Nat :=
  s.bankOf (if (headRec after h).bar = 0xFF then (headRec before h).bar else (headRec after h).bar)

/-- The frames that deliver changes from one configuration to another: port, bank and payload, into the
bank that `bank` gives for each head. -/
def deliveries (old new : Cfg) (bank : Nat → Nat) : List (Nat × Nat × List Byte) :=
  (residentChanges old new).flatMap (fun h => (packRecords h.2.2).map (fun d => (h.2.1.port, bank h.1, d)))

/-- The frames of step 1 of R282: into the bank that the strobes of the head's bar will name. -/
def State.preload (s : State) (before after : Cfg) : List (Nat × Nat × List Byte) :=
  deliveries before after (fun h => 1 - s.headBank before after h)

/-- A fire of a bar is outstanding. -/
def State.barFires (s : State) (b : Nat) : Bool :=
  let t := s.trig (s.inForce.trigOf b)
  !t.lines.isEmpty || !t.pulses.isEmpty || s.fires.any (fun f => f.1 == b && decide (s.tick < f.2))

/-- A head that moves between bars of unlike banks would be preloaded in the bank that an outstanding fire
of its old bar names: the delivery waits for the last of them (R282). DEDUCED, log entry 148. -/
def State.bankBusy (s : State) (before after : Cfg) : Bool :=
  (residentChanges before after).any (fun h =>
    let o := (headRec before h.1).bar
    o != 0xFF && s.bankOf o != s.headBank before after h.1 && s.barFires o)

/-- The bars whose heads' resident records change. -/
def residentBars (old new : Cfg) : List Nat :=
  ((residentChanges old new).flatMap (fun h => headBars old new h.1)).foldl insertNat []

/-- A catch-up of an earlier commit is still due on a module that these frames address (R282). -/
def State.catchUpDue (s : State) (frames : List (Nat × Nat × List Byte)) : Bool :=
  s.catchUps.any (fun c => c.frames.any (fun f => frames.any (fun g => f.1 == g.1)))

/-- From a commit's apply line on, the strobes of a bar name the new bank (R282 step 3).
DEDUCED, log entry 53. -/
def State.flipBanks (b : Nat) (y : Option Word) (s : State) : State :=
  let due := s.catchUps.any (fun c => c.bars.any (fun x => x.1 == b && x.2.2 == s.bankOf b
    && (match y with
      | none => true
      | some y => decide (0 ≤ ahead32 x.2.1 y))))
  if due then { s with banks := s.banks.set b (1 - s.bankOf b) } else s

/-! ## Answers (R84, R93) -/

/-- The opcodes whose outcome is waited for. -/
def isEnable (op : BitVec 16) : Bool := op == 0x0401 || op == 0x0601

/-- The payload of an accepted commit's response (R92, R180). -/
def acceptPayload (op : BitVec 16) (id : Word) (bars : List BarApply) : List Byte :=
  let imm (x : BarApply) : Bool := x.posted
  if op = 0x0101 then
    le 4 id.toNat ++ le 2 (maskOfBars (bars.map (·.bar))) ++ le 2 (maskOfBars ((bars.filter imm).map (·.bar)))
      ++ (List.range 16).flatMap (fun b => le 4 (match bars.find? (fun x => x.bar == b && !imm x) with
        | some x => x.line.toNat
        | none => 0))
  else if isEnable op then
    le 4 id.toNat ++ le 4 (match bars with
      | x :: _ => if imm x then 0 else x.line.toNat
      | [] => 0)
  else []

/-- A staged command that commits at once is answered with STAGED (R84). -/
def isAuto (op : BitVec 16) : Bool := !(op == 0x0101 || isEnable op)

/-- The command learns of the acceptance. -/
def State.answerAccepted (h : Held) (id : Word) (bars : List BarApply) (s : State) : State :=
  match h.waiter with
  | none => s
  | some w =>
    if h.answered then s.commandDone w 0 0 id.toNat
    else s.respond w.mbx
      { tag := w.tag, staged := isAuto w.opcode, committed := isAuto w.opcode
        payload := acceptPayload w.opcode id bars }

/-- The command learns of the refusal. -/
def State.answerRefused (h : Held) (r : Refused) (s : State) : State :=
  match h.waiter with
  | none => s
  | some w =>
    if h.answered then s.commandDone w r.code r.cls r.obj
    else s.respond w.mbx
      { reason := r.code, tag := w.tag, staged := isAuto w.opcode, objClass := r.cls
        objId := BitVec.ofNat 32 r.obj, payload := r.payload }

/-! ## Refusal and acceptance -/

/-- A later change to the same object replaces a refused one (R82, R83). -/
def restage (cs later : List Change) (x : ShadowSet) : ShadowSet :=
  let kept := later.foldl (fun (l : List Change) (d : Change) => l.flatMap d.minus) cs
  { x with staged := x.staged.foldl stageInto kept, submitted := x.without cs }

/-- The changes of the same set that later commits have submitted (R83). -/
def State.submittedAfter (s : State) (h : Held) : List Change :=
  (((s.held.dropWhile (fun x => x != h)).drop 1).filter (fun x => x.set == h.set && x.kind == .set)).flatMap (·.changes)

/-- The submitted changes of a commit are in its set again, but for those that a later change of the set
replaces (R82, R83). -/
def State.returnSet (h : Held) (later : List Change) (s : State) : State :=
  match h.kind with
  | .set => s.setSset h.set (restage h.changes later (s.sset h.set))
  | _ => s

/-- The frames that undo the preload of a configuration (R282). -/
def State.restored (s : State) (after : Cfg) : List (Nat × Nat × List Byte) :=
  deliveries after s.accepted (fun i => 1 - s.headBank s.accepted after i)

/-- Banks that a refused commit has preloaded are restored (R282). -/
def State.restoreBanks (h : Held) (s : State) : State :=
  if !h.begun then s else (s.sendCfg true (s.restored (s.accepted.applyAll h.changes))).1

/-- HEALTH_COMMIT_REFUSED (R313): firmware tries again 20 ms later. -/
def State.healthRefused (h : Held) (code : Reason) (s : State) : State :=
  if h.set = 16 then
    { s with health := { s.health with autoSince := some s.aon, refusedAt := some s.aon } }.post
      (ev Ev.healthCommitRefused Cls.system 0 code h.changes.length)
  else s

/-- A commit is refused (R83, R93, R484): the refusal is logged, unless it is the log itself that is full,
or the mailbox that has too many pending commands. -/
def State.refuseCommit (h : Held) (r : Refused) (s : State) : State :=
  let d := s.commitDigests h.changes
  let later := s.submittedAfter h
  let s := { s with held := s.held.erase h }
  let s := if r.code = Rc.logFull then s.countRefusal
    else if r.code = Rc.busy then s
    else s.logEntry
      { origin := h.origin, cls := if r.cls = 0 then Cls.system else r.cls, obj := r.obj, reason := r.code
        old := d.1, new := d.2, flags := 0xC }
  (((s.restoreBanks h).returnSet h later).healthRefused h r.code).answerRefused h r

/-- The line `n` places after line `last` along the run sequence that the generator of bar `b` walks, with
the run table in force (R335). -/
def placesAfter (cfg : Cfg) (g : Nat) : Nat → Nat → Nat → Word → Word
  | 0, _, _, y => y
  | n + 1, e, left, y =>
    if 1 < left then placesAfter cfg g n e (left - 1) (y + 1)
    else
      let r := runRec cfg g e
      if r.end_ then placesAfter cfg g n e left (y + 1)
      else match lineEntry cfg g r.next 1024 with
        | none => placesAfter cfg g n e left (y + 1)
        | some k =>
          let q := runRec cfg g k
          placesAfter cfg g n k q.count (BitVec.ofInt 32 (runFirst (some y.toNat) q.base))

/-- The apply line of a bar in a pair: 10 places after the newest line that unit P has ticketed (R335). -/
def State.pairApplyLine (s : State) (b : Nat) : Word :=
  let g := s.inForce.trigOf b
  let t := s.trig g
  if !t.cur.spit then placesAfter s.inForce g 9 t.entry t.remaining t.li
  else match (if t.cur.end_ then none else lineEntry s.inForce g t.cur.next 1024) with
    | none => t.li + 9
    | some k =>
      let q := runRec s.inForce g k
      let last := if t.haveLast then some (t.lastLi.toNat : Int) else none
      placesAfter s.inForce g 9 k q.count (BitVec.ofInt 32 (runFirst last q.base))

/-- A bar that has a prepared line, or an earlier commit that waits for one (R28, R29): so also in ARMED
after a resume, while prepared lines exist. DEDUCED, log entries 49, 129. -/
def State.barWaits (s : State) (b : Nat) : Bool :=
  (s.sys.armedState && s.runsBar (s.inForce.trigOf b) && !(s.rbar b).prepared.isEmpty)
    || s.commits.any (fun k => k.bars.any (fun x => x.bar == b && !(x.dataDone && x.ctlDone)))

/-- A_b at acceptance (R28, R335): none where R29 applies. -/
def State.applyLine (s : State) (b : Nat) : Option Word :=
  if !s.barWaits b then none
  else if s.leadsPair then some (s.pairApplyLine b)
  else (s.rbar b).newest.map (fun y => BitVec.ofInt 32 (y + 1))

/-- The presets of the axes of newly enabled bars are cancelled at acceptance (R138). -/
def State.disarm (o : Origin) (was : List Nat) (s : State) : State :=
  (s.accepted.enabledBars.filter (fun b => !was.contains b)).foldl (fun s b =>
    let r := barRec s.accepted b
    let s := s.cancelPreset r.axisA o
    s.cancelPreset r.axisB o) s

/-- HEALTH_COMMIT for each bar of a firmware commit (R313, R320): the nozzles of the bar whose state it
changes, and the substitutions that it forms or ends. DEDUCED, log entry 50. -/
def State.healthCommits (h : Held) (before : Cfg) (id : Word) (bars : List BarApply) (s : State) : State :=
  if h.set != 16 then s
  else
    let after := s.accepted
    let lost := ((before.substs ++ after.substs).map (fun (p : Nat × SubstRec) => p.1)).foldl insertNat []
    let ids := (h.changes.flatMap nozzlesNamed).foldl insertNat lost
    bars.foldl (fun s x =>
      let mine (i : Nat) : Bool := after.nozzleBar i == x.bar
      let states := ids.filter (fun i => mine i && nmapState (nmapRec before i) != nmapState (nmapRec after i))
      let substs := lost.filter (fun i => mine i && Table.find? before.substs i != Table.find? after.substs i)
      s.post (ev Ev.healthCommit Cls.bar x.bar 0
        (id.toNat + 2 ^ 32 * (states.length % 65536) + 2 ^ 48 * (substs.length % 65536)))) s

/-- The user that enables an echo output owns it until it is disabled (R90, R147).
DEDUCED, log entry 147. -/
def State.ownEcho (o : Origin) (s : State) : Change → State
  | .echo k r => s.setEcho k { s.echo k with owner := if r.enable then (s.echo k).owner <|> some o else none }
  | _ => s

/-- A commit comes to hold with given apply lines: its record, its banks, and what applies at once.
DEDUCED, log entry 51. -/
def State.installCommit (id : Word) (o : Origin) (changes : List Change) (lines : List (Nat × Option Word)) (s : State) :
    State :=
  let old := s.inForce
  let before := s.accepted
  let after := before.applyAll changes
  let was := s.enabledBars
  let bars : List BarApply := lines.map (fun x =>
    { bar := x.1, line := x.2.getD 0, dataDone := x.2.isNone, ctlDone := x.2.isNone, posted := x.2.isNone })
  let k : Commit := { id := id, origin := o, changes := changes.map (fun c => (c, s.barsOf after c)), bars := bars }
  let frames := deliveries before after (s.headBank before after)
  let resident := (residentBars before after).map (fun b =>
    (b, ((bars.find? (fun x => x.bar == b)).map (·.line)).getD 0, s.bankOf b))
  let s := { s with commits := s.commits ++ [k], commitId := id }
  let s := changes.foldl (State.ownEcho o) s
  let s := if frames.isEmpty then s
    else { s with catchUps := s.catchUps ++ [{ bars := resident, frames := frames }] }
  let now := (k.changes.filter (fun c => c.2.all (fun b => lines.any (fun x => x.1 == b && x.2.isNone)))).map (·.1)
  let s := s.runHooks o.fromHost old now
  let s := (resident.filter (fun x => lines.all (fun l => l.1 != x.1 || l.2.isNone))).foldl
    (fun s x => s.flipBanks x.1 none) s
  let s := s.disarm o was
  let s := (bars.filter (·.posted)).foldl (fun s x => s.postApplied id x.bar 0) s
  s.foldCommits

/-- A commit is accepted (R28–R30, R85). -/
def State.acceptCommit (h : Held) (s : State) : State :=
  let before := s.accepted
  let after := before.applyAll h.changes
  let id := s.commitId + 1
  let d := s.commitDigests h.changes
  let lines := (s.barsOfAll after h.changes).map (fun b => (b, s.applyLine b))
  let s := { s with held := s.held.erase h }
  let s := s.logEntry { origin := h.origin, obj := id.toNat, old := d.1, new := d.2, flags := 0x8 }
  let s := match h.kind with
    | .set => s.setSset h.set { s.sset h.set with submitted := (s.sset h.set).without h.changes }
    | _ => s
  let s := s.installCommit id h.origin h.changes lines
  let s := if s.leadsPair then
      s.emit (.mirror id (lines.filterMap (fun x => x.2.map (fun y => (x.1, y)))))
    else s
  let bars : List BarApply := lines.map (fun x =>
    { bar := x.1, line := x.2.getD 0, dataDone := x.2.isNone, ctlDone := x.2.isNone, posted := x.2.isNone })
  ((s.healthCommits h before id bars).answerAccepted h id bars)

/-- A commit that unit P has prepared with its twin waits for READY (R335). -/
def State.pairPrepares (s : State) (h : Held) : Bool :=
  s.leadsPair && h.set != 17 && !h.ready

/-- An enable or disable that an earlier commit has meanwhile brought about (R180, R238). -/
def State.hasNoEffect (s : State) (h : Held) : Bool :=
  match h.kind, h.changes with
  | .trig _, [.trigEnable g e _] => s.accepted.tgEn.get false g == e
  | .plane _, [.planeEnable p e] => s.accepted.bound.get false p == e
  | _, _ => false

/-- The commit at the front of the order goes as far as it can (R83, R93, R282, R335); what has no
effect is no commit (R180, R238).  What another command has come to own during the delivery is not given twice
(R90, R201). -/
def State.serveFront (s : State) : State :=
  match s.held with
  | [] => s
  | h :: rest =>
    if !s.checks.isEmpty then s
    else if !h.begun && s.hasNoEffect h then { s with held := s.held.erase h }.answerAccepted h 0 []
    else if !h.begun then
      let s := s.noteCheck
      match s.judge h.origin h.kind h.changes with
      | some r => s.refuseCommit h r
      | none =>
        let after := s.accepted.applyAll h.changes
        let frames := s.preload s.accepted after
        if s.catchUpDue frames || s.bankBusy s.accepted after then s
        else
          let (s, awaits) := s.sendCfg true frames
          { s with held := { h with begun := true, awaits := awaits } :: rest }
    else if !h.awaits.isEmpty then s
    else if s.pairPrepares h then
      if h.prepared then s
      else { s.emit (.prepare h.changes) with
             held := { h with prepared := true, since := ⟨s.tick, s.aon⟩ } :: rest }
    else if s.logRefuses then s.refuseCommit h ⟨Rc.logFull, Cls.system, 0, []⟩
    else match s.ownership h.origin (s.accepted.applyAll h.changes) h.changes with
      | some r => s.refuseCommit h r
      | none => s.acceptCommit h

/-- COMMIT_ACCEPT: held commits are served in order of arrival until one must wait (R93).  A commit takes
at most three turns: evaluation and delivery, PREPARE, acceptance. -/
def serveHeld : Nat → State → State
  | 0, s => s
  | n + 1, s =>
    let t := s.serveFront
    if t.held == s.held then t else serveHeld n t

/-- A PREPARE of unit P goes as far as it can in unit S (R335 step 2): the set is validated and its banks are
preloaded as in R282, and READY is sent once the module has acknowledged every frame. -/
def State.servePrepare (s : State) : State :=
  match s.pair.preparing with
  | none => s
  | some (cs, false, _) =>
    let s := s.noteCheck
    (match s.judge .peer .set cs with
    | some _ => { s with pair := { s.pair with preparing := none } }.emit (.ready false)
    | none =>
      let after := s.accepted.applyAll cs
      let frames := s.preload s.accepted after
      if s.catchUpDue frames || s.bankBusy s.accepted after then s
      else
        let (s, awaits) := s.sendCfg true frames
        if awaits.isEmpty then
          (({ s with pair := { s.pair with preparing := none, prepared := some cs } }).setSset 17 { staged := cs }).emit
            (.ready true)
        else { s with pair := { s.pair with preparing := some (cs, true, awaits) } })
  | some (cs, true, []) =>
    (({ s with pair := { s.pair with preparing := none, prepared := some cs } }).setSset 17 { staged := cs }).emit
      (.ready true)
  | some (_, true, _ :: _) => s

/-- COMMIT_ACCEPT. -/
def commitAccept (s : State) : State := serveHeld (3 * s.held.length + 3) s.servePrepare

/-- A commit is submitted (R83): the changes of a set leave its staged list, and the outcome is sought at
once. DEDUCED, log entry 39. -/
def State.submitCommit (set : Nat) (o : Origin) (kind : CommitKind) (w : Option Waiter) (cs : List Change) (s : State) :
    State :=
  let s := match kind with
    | .set => s.setSset set { s.sset set with staged := [], submitted := (s.sset set).submitted ++ cs }
    | _ => s
  let h : Held := { set := set, origin := o, kind := kind, waiter := w, changes := cs, since := ⟨s.tick, s.aon⟩ }
  commitAccept { s with held := s.held ++ [h] }

/-- ANSWER_TIME: 5 ms (5,120 AON ticks), in DOZE 40 ms, after RING without an outcome, the command answers
ACCEPTED, or BUSY when its mailbox has 8 commands pending (R73, R93). DEDUCED, log entry 39. -/
def answerTime (n : Nat) (s : State) : State :=
  let limit := if s.pwr == .doze then 40960 else 5120
  match s.held.find? (fun h => !h.answered && (match h.waiter with | some w => w.mbx == n | none => false)) with
  | none => s
  | some h => match h.waiter with
    | none => s
    | some w =>
      if s.aon < (s.mbox n).rungAt + limit then s
      else if 8 ≤ (s.mbox n).pending then s.refuseCommit h ⟨Rc.busy, 0, 0, []⟩
      else
        let s := { s with held := s.held.map (fun x => if x == h then { x with answered := true } else x) }
        (s.addPending w).respond n { tag := w.tag, accepted := true, staged := isAuto w.opcode }

/-! ## Firmware commits (R313) -/

/-- The changes of the FW_AUTO set that are still valid, and how many are dropped, by head.
DEDUCED, log entry 87. -/
def State.validAuto (s : State) (cs : List Change) : List Change × List Nat :=
  cs.foldl (fun acc c =>
    let after := s.accepted.applyAll (acc.1 ++ [c])
    match c with
    | .outs st es =>
      let bad := st.any (fun e => !nozzlePresent after e.1 || after.nozzleBar e.1 == 0xFF
          || [4, 6].contains (stateOf s.accepted e.1))
        || es.any (fun e => (substDefect after after e.1 e.2).isSome)
      if bad then (acc.1, acc.2 ++ (st.map (fun e => e.1 / 8192))) else (acc.1 ++ [c], acc.2)
    | .substs es =>
      if es.any (fun e => (substDefect after after e.1 e.2).isSome) then
        (acc.1, acc.2 ++ (es.map (fun e => e.1 / 8192)))
      else (acc.1 ++ [c], acc.2)
    | _ => (acc.1 ++ [c], acc.2)) ([], [])

/-- FW_AUTO_SUBMIT: 20 ms (20,480 AON ticks) after the first staged change, or with 256 of them, and after a
refusal in 20 ms (R313);
the unit whose strobes the modules use submits (R317). -/
def fwAutoSubmit (s : State) : State :=
  let x := s.sset 16
  let aged := match s.health.autoSince with
    | some t => decide (t + 20480 ≤ s.aon)
    | none => false
  let due := match s.health.refusedAt with
    | some t => decide (t + 20480 ≤ s.aon)
    | none => aged || decide (256 ≤ x.staged.length)
  if x.staged.isEmpty || !x.submitted.isEmpty || !s.healthLeads || !due then s
  else
    let (keep, dropped) := s.validAuto x.staged
    let s := dropped.foldl (fun s h =>
      s.countHealth (headRec s.inForce h).bar h (fun y => { y with dropped := y.dropped + 1 })) s
    let s := { s with health := { s.health with autoSince := none, refusedAt := none } }
    if keep.isEmpty then s.setSset 16 { x with staged := [] }
    else s.submitCommit 16 .fwAuto .set none keep

/-! ## The commits of a pair (R335) -/

/-- A set that unit S has preloaded and unit P has not committed was refused there: its banks are restored (R282, R335).
DEDUCED, log entry 148. -/
def State.undoPrepare (s : State) : State :=
  let undo (cs : List Change) : State := (s.sendCfg true (s.restored (s.accepted.applyAll cs))).1
  match s.pair.preparing, s.pair.prepared with
  | some (cs, true, _), _ => undo cs
  | _, some cs => undo cs
  | _, _ => s

/-- COMMIT_PREPARE in unit S: it validates the set against its configuration, preloads its banks and
replies READY; it refuses by READY with a failure. -/
def commitPrepare (changes : List Change) (s : State) : State :=
  if !s.mirrors then s
  else
    let s := s.undoPrepare
    ({ s with pair := { s.pair with preparing := some (changes, false, []), prepared := none } }).servePrepare

/-- The commit at the front is accepted by unit P, whatever its twin replied (R335). -/
def State.readyFront (s : State) : State :=
  match s.held with
  | h :: rest => if h.prepared && !h.ready then commitAccept { s with held := { h with ready := true } :: rest } else s
  | [] => s

/-- COMMIT_READY in unit P (R335). -/
def commitReady (_ok : Bool) (s : State) : State := if s.leadsPair then s.readyFront else s

/-- READY_TIMEOUT: 2 ms (800,000 ticks) after PREPARE (R335). -/
def readyTimeout (s : State) : State :=
  match s.held with
  | h :: _ => if h.prepared && !h.ready && decide (h.since.tick + 800000 ≤ s.tick) then s.readyFront else s
  | [] => s

/-- The lines that unit S has prepared at or after an apply line are discarded and prepared again (R335). -/
def State.unprepare (b : Nat) (y : Word) (s : State) : State :=
  let x := s.rbar b
  let gone := x.prepared.filter (fun l => decide (0 ≤ ahead32 y l.line))
  match gone with
  | [] => s
  | l :: _ =>
    let first := gone.foldl (fun m z => if z.ext < m.ext then z else m) l
    (s.setRbar b { x with
      prepared := x.prepared.filter (fun l => decide (ahead32 y l.line < 0))
      newest := some (first.ext - 1), next := some first.ext
      seqEntry := first.seqEntry, seqLeft := first.seqLeft, seqEnded := false }).moveWindow b

/-- Unit S has already ticketed line A_b or a later one. -/
def State.ticketedPast (s : State) (lines : List (Nat × Word)) : Bool :=
  lines.any (fun x =>
    let t := s.trig (s.inForce.trigOf x.1)
    t.haveLast && decide (0 ≤ ahead32 x.2 t.lastLi))

/-- COMMIT_MIRROR in unit S: COMMIT gives the commit_id and every A_b (R335); a bar that is not named
applies on receipt. -/
def commitMirror (id : Word) (lines : List (Nat × Word)) (s : State) : State :=
  if !s.mirrors then s
  else match s.pair.prepared with
    | none => s.startResync Rc.mirrorFailed
    | some cs =>
      if s.ticketedPast lines then s.startResync Rc.mirrorFailed
      else
        let after := s.accepted.applyAll cs
        let d := s.commitDigests cs
        let at_ := (s.barsOfAll after cs).map (fun b => (b, (lines.find? (fun x => x.1 == b)).map (·.2)))
        let s := ({ s with pair := { s.pair with prepared := none, preparing := none } }).setSset 17 {}
        let s := s.logEntry { origin := .peer, obj := id.toNat, old := d.1, new := d.2, flags := 0x8 }
        let s := lines.foldl (fun s x => s.unprepare x.1 x.2) s
        s.installCommit id .peer cs at_

end Sys2Proof.Machine
end

