-- ==== Sys2Proof/Machine/LineEngine.lean ====
section
/-!
DEFINITION. The line engine and the decompressors: codes and packing (R115, R230–R232, R309), the
preparation of lines, tickets and starvation (R21, R22, R228, R229), block decoding into the ring
(R215, R224–R227) and bad input (R233–R235, R337).
-/

namespace Sys2Proof.Machine

open Sys2Proof

/-! ## Pixels and codes (R115, R211, R221, R309) -/

/-- The address of the ring slot of extended raster line `y` of a bar (R221). -/
def ringSlot (cfg : Cfg) (b : Nat) (y : Int) : Nat :=
  let r := ringRec cfg b
  r.base + (y % r.depth).toNat * ringStride (barRec cfg b)

/-- A pixel of a valid raster line, and the ring word that could not be read (R211, R216, R232). -/
def State.pixelAt (s : State) (cfg : Cfg) (b : Nat) (y : Int) (x : Nat) : Nat × Option (Int × Nat) :=
  match planeAt cfg b (BitVec.ofInt 32 y) with
  | none => (0, none)
  | some (p, r, j) =>
    if (s.rbar b).blanked.contains (p, j / 64 * tilesOf r.width + x / 8192) then (0, none)
    else
      let w := (barRec cfg b).codeWidth
      let a := ringSlot cfg b y + 1024 * w * (x / 8192) + x % 8192 * w / 8
      if s.poisoned 2 (a / 32 * 32) 32 then (0, some (y, a / 32 * 32))
      else (bitsOf (memRead s.mem.hbm a).toNat (x % 8192 * w % 8) w, none)

/-- What the packing of a line has met: donors saturated, and ring words that could not be read. -/
structure PackNotes where
  saturated : List Nat
  unread : List (Int × Nat)
  deriving DecidableEq, Repr

/-- A nozzle's code by R115 with a map entry; its raster line is extended line `base` of the row that
prints it. -/
def State.codeOf (s : State) (cfg : Cfg) (b h r : Nat) (e : Word) (line : Word) (base : Int) : Nat × Option (Int × Nat) :=
  match nozzlePixel cfg b h r e line with
  | none => (0, none)
  | some (_, x) => s.pixelAt cfg b base x

/-- A map entry taken as ACTIVE (R309). -/
def asActive (e : Word) : Word := nmapMerge 2 e 0

/-- The position of a donor among the donors of a substitution. -/
def donorPlace (d : Nat) : List Nat → Nat
  | [] => 0
  | x :: xs => if x = d then 0 else donorPlace d xs + 1

/-- What a donor adds for one substitution (R309): `y` is the donor's raster line. -/
def State.donated (s : State) (cfg : Cfg) (b d : Nat) (y : Int) (code : Nat) (q : Nat × SubstRec) :
    Nat × Option (Int × Nat) :=
  let hl := q.1 / 8192
  let rl := q.1 % 8192 / max 1 (headRec cfg hl).perRow
  let line := BitVec.ofInt 32 (y + (rowRec cfg hl rl).offset)
  let c := s.codeOf cfg b hl rl (asActive (nmapRec cfg q.1)) line y
  let n := q.2.donors.length
  (if q.2.neighbour then code + (c.1 + (donorPlace d q.2.donors + (y % 2 ^ 32).toNat) % n) / n else max code c.1, c.2)

/-- A poisoned word of the Weave pool holds data of a nozzle (R353, R361): entry `i` of the map at `4i`, two in a word; of
the substitution table and the masks, whose inner layout the manual leaves open, a free value.
DESIGN CHOICE, log entry 79. -/
def weaveTouches (a id : Nat) : Bool :=
  if a < 0x800000 then id / 2 * 8 == a else decide (a < 0xB80000) && Config.weaveHolds a id

/-- The code that a present nozzle fires on extended line `ext`, after substitution (R231, R309): 0 in a
row whose raster line is not valid (R228), or where its data in the Weave pool is poisoned (R361). -/
def State.firedCode (s : State) (cfg : Cfg) (b h : Nat) (ext : Int) (n : Nat × Nat × Word) (acc : PackNotes) :
    Nat × PackNotes :=
  let id := h * 8192 + n.1
  let y := ext - (rowRec cfg h n.2.1).offset
  if !s.lineValid cfg b y || s.mem.poison.any (fun w => w.1 == 0 && weaveTouches w.2 id) then (0, acc)
  else
    let own := s.codeOf cfg b h n.2.1 n.2.2 (BitVec.ofInt 32 ext) y
    let st := nmapState n.2.2
    let start : Nat := if st == 3 || st == 5 then 0 else own.1
    let subs : List (Nat × SubstRec) := List.filter (fun (q : Nat × SubstRec) => q.2.donors.contains id) cfg.substs
    let r := subs.foldl (fun (v : Nat × List (Int × Nat)) q =>
      let d := s.donated cfg b id y v.1 q
      (d.1, v.2 ++ d.2.toList)) (start, own.2.toList)
    let top := 2 ^ (barRec cfg b).codeWidth - 1
    (min r.1 top, { saturated := if top < r.1 then acc.saturated ++ [id] else acc.saturated
                    unread := r.2.foldl (fun (l : List (Int × Nat)) u => if l.contains u then l else l ++ [u]) acc.unread })

/-- Codes packed as in R211, padded with zeros to a multiple of 32 bytes (R231). -/
def packCodes (w : Nat) (codes : List Nat) : List Byte :=
  let bytes := (chunks (8 / w) (codes.length + 1) codes).map (fun c =>
    BitVec.ofNat 8 (c.reverse.foldl (fun v k => v * 2 ^ w + k) 0))
  bytes ++ zeros ((32 - bytes.length % 32) % 32)

/-- The codes of the present nozzles of a head on a line, with the notes. -/
def State.headCodes (s : State) (cfg : Cfg) (b h : Nat) (ext : Int) (acc : PackNotes) : List Nat × PackNotes :=
  (headNozzles cfg h).foldl (fun (v : List Nat × PackNotes) n =>
    let r := s.firedCode cfg b h ext n v.2
    (v.1 ++ [r.1], r.2)) ([], acc)

/-- The codes of every head of a bar on a line. -/
def State.barCodes (s : State) (cfg : Cfg) (b : Nat) (ext : Int) : List (Nat × List Nat) × PackNotes :=
  (cfg.headsOf b).foldl (fun (v : List (Nat × List Nat) × PackNotes) h =>
    let r := s.headCodes cfg b h.1 ext v.2
    (v.1 ++ [(h.1, r.1)], r.2)) ([], ⟨[], []⟩)

/-- The mask of a code: the drop-code table of a profile (R189). -/
def maskOfCode (r : ProfileRec) (code : Nat) : Byte := r.masks.getD code 0

/-- The density count of a channel (R206): nozzles of its drive whose mask is not 0x00. -/
def densityOf (cfg : Cfg) (b c : Nat) (codes : List (Nat × List Nat)) : Nat :=
  let k := chanClass cfg c
  ((chanHeads cfg c).map (fun h =>
    match codes.find? (fun x => x.1 == h.1) with
    | none => 0
    | some x => (((headNozzles cfg h.1).zip x.2).filter (fun n =>
        nmapClass n.1.2.2 == k && maskOfCode (profileRec cfg b k) n.2 != 0)).length)).sum

/-- The samples of every channel that drives a bar, for a line (R196). -/
def State.lineWaves (s : State) (cfg : Cfg) (b : Nat) (line : Word) (codes : List (Nat × List Nat)) : List PrepWave :=
  (chansOf cfg b).map (fun c =>
    s.waveFor cfg c b (profileRec cfg b (chanClass cfg c)).wave (densityOf cfg b c codes) (some line))

/-- The adaptation of the waves of a fire is recorded (R204, R205). -/
def State.noteWaves (cfg : Cfg) (b : Nat) (line : Option Word) (ws : List PrepWave) (s : State) : State :=
  ws.foldl (fun s w =>
    s.noteWave w (s.fireTemp cfg w.channel b line).isSome (((refHead cfg w.channel).map (·.1)).getD 0)) s

/-! ## Preparing a line (R228, R230–R232, R337) -/

/-- The rows of a bar's heads whose raster line is not valid, with the plane and the block row that hold the
line. DEDUCED, log entry 75. -/
def State.badRows (s : State) (cfg : Cfg) (b : Nat) (ext : Int) : List (Nat × Nat × Nat) :=
  (cfg.headsOf b).flatMap (fun h => (List.range h.2.rows).filterMap (fun r =>
    let y := ext - (rowRec cfg h.1 r).offset
    if s.lineValid cfg b y then none
    else (planeAt cfg b (BitVec.ofInt 32 y)).map (fun p => (h.1, p.1, p.2.2 / 64))))

/-- The heads of a bar with a row that reads an unreadable ring word. -/
def headsUnread (cfg : Cfg) (b : Nat) (ext : Int) (unread : List (Int × Nat)) : List Nat :=
  ((cfg.headsOf b).filter (fun h => (List.range h.2.rows).any (fun r =>
    unread.any (fun u => u.1 == ext - (rowRec cfg h.1 r).offset)))).map (·.1)

/-- A prepared line takes its place among the others. -/
def insertLine (l : PrepLine) : List PrepLine → List PrepLine
  | [] => [l]
  | m :: ms => if l.ext ≤ m.ext then l :: m :: ms else m :: insertLine l ms

/-- RING_ECC for each ring word that could not be read (R232). DEDUCED, log entry 75. -/
def State.noteUnread (b : Nat) (us : List (Int × Nat)) (s : State) : State :=
  us.foldl (fun s u =>
    let x := s.rbar b
    let n := x.ringUncorrectable + 1
    (s.setRbar b { x with ringUncorrectable := n }).postLimited ⟨Ev.ringEcc, b, 0⟩
      (ev Ev.ringEcc Cls.bar b Rc.ringUncorrectable (n.toNat + 2 ^ 32 * (u.1 % 2 ^ 32).toNat))) s

/-- The heads of a port in the order of their local heads (R231). -/
def byLocal (hs : List (Nat × HeadRec)) : List (Nat × HeadRec) :=
  (List.range 8).flatMap (fun l => hs.filter (fun h => h.2.localHead == l))

/-- Line L_b of a bar is prepared with whatever of it is valid (R230–R232). DEDUCED, log entry 74. -/
def State.prepareNext (b : Nat) (s : State) : State :=
  match (s.rbar b).due with
  | none => s
  | some ext =>
    let y := BitVec.ofInt 32 ext
    if (s.rbar b).prepared.any (fun l => l.ext == ext) then s.seqAdvance b
    else
      let cfg := s.cfgFor b y
      let r := s.barCodes cfg b ext
      let lost : List Nat := if s.inPair then (s.badRows cfg b ext).map (·.1) ++ headsUnread cfg b ext r.2.unread else []
      let port (p : Nat) : PrepPort :=
        let hs := byLocal ((cfg.headsOf b).filter (fun h => h.2.port == p))
        { port := p
          vectors := (hs.filter (fun h => !lost.contains h.1)).map (fun h =>
            (h.2.localHead, packCodes (barRec cfg b).codeWidth ((r.1.find? (fun c => c.1 == h.1)).map (·.2) |>.getD [])))
          withheld := hs.any (fun h => lost.contains h.1) }
      let waves := s.lineWaves cfg b y r.1
      let s := s.noteWaves cfg b (some y) waves
      let s := s.noteUnread b r.2.unread
      let s := r.2.saturated.foldl (fun s d => s.countHealth b (d / 8192) (fun c => { c with saturated := c.saturated + 1 })) s
      let x := s.rbar b
      let line : PrepLine :=
        { line := y, ext := ext, seqEntry := x.seqEntry, seqLeft := x.seqLeft, ports := (cfg.portsOf b).map port
          waves := waves, ticketed := x.tickets.contains y }
      let s := s.setRbar b { x with
        prepared := insertLine line x.prepared, linesPrepared := x.linesPrepared + 1
        newest := some (match x.newest with | some m => max m ext | none => ext)
        tickets := x.tickets.filter (· != y)
        starvedLines := x.starvedLines.filter (· != ext) }
      s.seqAdvance b

/-- Before a line is looked at, the bar takes the data-plane changes that apply from it (R28). -/
def State.takeData (b : Nat) (s : State) : State :=
  match (s.rbar b).due with
  | some ext => s.takeParts .data b (BitVec.ofInt 32 ext)
  | none => s

/-- Prepared lines ahead of the newest ticket (R21); where the sequence has gone back behind that ticket,
the unticketed lines that it has reached. -/
def linesAhead (x : RasterBar) : Nat :=
  (x.prepared.filter (fun l => match x.lastTicket, x.next with
    | some t, some n => decide (t < l.ext) || (!l.ticketed && decide (n ≤ t) && decide (l.ext < n))
    | some t, none => decide (t < l.ext)
    | none, _ => true)).length

/-- LINE_PREPARE: once the bar has its first ticket since it was loaded, fewer than 8 lines are prepared
ahead and the next line's raster lines are valid (R21, R29, R230). DEDUCED, log entry 74. -/
def linePrepare (b : Nat) (s : State) : State :=
  let x := s.rbar b
  if !(s.sys == .printing || s.sys == .paused) || x.lastTicket.isNone || decide (8 ≤ linesAhead x) then s
  else
    let s := s.takeData b
    match (s.rbar b).due with
    | none => s
    | some ext =>
      if (s.badRows (s.cfgFor b (BitVec.ofInt 32 ext)) b ext).isEmpty then s.prepareNext b else s

/-! ## Tickets (R21, R22, R228, R229) -/

/-- A starved line counts once (R228). -/
def State.countStarved (b : Nat) (ext : Int) (post : Bool) (s : State) : State :=
  let x := s.rbar b
  let known := x.starvedLines.contains ext
  let n := if known then x.starved else x.starved + 1
  let s := s.setRbar b { x with starved := n, starvedLines := if known then x.starvedLines else x.starvedLines ++ [ext] }
  if post then
    s.postLimited ⟨Ev.ringStarved, b, 0⟩
      (ev Ev.ringStarved Cls.bar b Rc.ringStarved (n.toNat + 2 ^ 32 * (ext % 2 ^ 32).toNat))
  else s

/-- A plane halts printing where a line of a block row is missing at its deadline: by its policy, or because a
block of that row or of one before it is halted (R228, R235). -/
def State.planeHalts (s : State) (p row : Nat) : Bool :=
  match Table.find? s.inForce.planes p with
  | none => false
  | some r => r.starveHalt || (match (s.plane p).halted with
    | some h => decide (h / tilesOf r.width ≤ row)
    | none => false)

/-- The lines after L_b in the run sequence whose deadline has come with it: up to `last`. -/
def State.linesThrough (b : Nat) (last : Int) : Nat → State → List Int
  | 0, _ => []
  | n + 1, s =>
    let t := s.seqAdvance b
    match (t.rbar b).due with
    | some ext => if ext ≤ last then ext :: State.linesThrough b last n t else []
    | none => []

/-- A line that needs a line which is not valid. -/
def State.lineStarves (s : State) (b : Nat) (ext : Int) : Bool :=
  !(s.badRows (s.cfgFor b (BitVec.ofInt 32 ext)) b ext).isEmpty

/-- Line L_b has reached its deadline: it is prepared at once, or printing halts (R228); the starved lines behind it,
up to `last`, then count too. DEDUCED, log entry 74. -/
def State.prepareDue (b : Nat) (last : Int) (s : State) : State × Bool :=
  let s := s.takeData b
  match (s.rbar b).due with
  | none => (s, false)
  | some ext =>
    let bad := s.badRows (s.cfgFor b (BitVec.ofInt 32 ext)) b ext
    if bad.isEmpty then (s.prepareNext b, true)
    else if bad.any (fun p => s.planeHalts p.2.1 p.2.2) then
      let more := (s.linesThrough b last 3).filter (s.lineStarves b)
      ((more.foldl (fun (s : State) (e : Int) => s.countStarved b e false) (s.countStarved b ext false)).haltPrinting, false)
    else ((s.countStarved b ext true).prepareNext b, true)

/-- Every line whose deadline a ticket has brought is prepared, in order (R228). -/
def State.prepareThrough (b : Nat) (last : Int) : Nat → State → State
  | 0, s => s
  | n + 1, s =>
    match (s.rbar b).due with
    | none => s
    | some ext =>
      if ext ≤ last then
        let r := s.prepareDue b last
        if r.2 then State.prepareThrough b last n r.1 else r.1
      else s

/-- TICKET_ARRIVAL (R21, R22, R228, R229). DEDUCED, log entry 72. -/
def State.ticketArrives (b : Nat) (y : Word) (s : State) : State :=
  let x := s.rbar b
  let ext : Int := match x.lastTicket with
    | none => y.toNat
    | some l => l + ahead32 (BitVec.ofInt 32 l) y
  let x := { x with lastTicket := some ext }
  let s := s.setRbar b x
  if x.prepared.any (fun l => l.ext == ext) then
    (s.setRbar b { x with
      prepared := x.prepared.map (fun l => if l.ext = ext then { l with ticketed := true } else l) }).prepareThrough b (ext + 3) 4
  else
    let x := { x with tickets := x.tickets ++ [y] }
    let s := if x.due == some ext then s.setRbar b x
      else
        let t := s.trig (s.inForce.trigOf b)
        let n := x.mispredicted + 1
        ((s.setRbar b { x with
          prepared := x.prepared.filter (fun l => decide (ext < l.ext)), next := some ext, seqEnded := false
          seqEntry := t.entry, seqLeft := t.remaining, mispredicted := n }).moveWindow b).postLimited
            ⟨Ev.lineMispredicted, b, 0⟩
          (ev Ev.lineMispredicted Cls.bar b 0 y.toNat)
    s.prepareThrough b (ext + 3) 4

/-! ## The ring's window (R224, R226) -/

/-- The last line of a bar's window. -/
def State.windowEnd (s : State) (b : Nat) : Option Int :=
  (s.windowStart b).map (fun o => o + (ringRec s.inForce b).depth - 1)

/-- A block is under way: in a unit, parked, or requested from the twin. -/
def State.underWay (s : State) (b p block : Nat) : Bool :=
  s.plait.units.any (fun u => u.2.bar == b && u.2.plane == p && u.2.block == block)
    || (s.rbar b).parked.any (fun w => w.plane == p && w.block == block)
    || (s.plane p).peer.any (fun q => q.1 == block)

/-- What the next row of blocks gives: a block to take, nothing because a halted block holds the plane,
or the line after the row. -/
inductive NextBlock where
  | take (p block : Nat)
  | held
  | after (y : Int)
  deriving DecidableEq, Repr

/-- The row of blocks that holds a raster line of a bar (R225, R226, R235). -/
def State.rowBlock (s : State) (b : Nat) (y : Int) : NextBlock :=
  match planeAt s.inForce b (BitVec.ofInt 32 y) with
  | none => .after (y + 1)
  | some (p, r, j) =>
    let t := tilesOf r.width
    let k := j / 64
    let x := s.plane p
    let blocks := (List.range t).map (fun i => k * t + i)
    let free (c : Nat) : Bool := !(s.rbar b).settled.contains (p, c) && !s.underWay b p c
      && (x.halted != some c || x.retry) && !x.waits.contains c
    match x.halted with
    | some h => if h / t < k then .held
      else match blocks.find? free with
        | some c => .take p c
        | none => .after (y + blockLines r (k * t) - j % 64)
    | none => match blocks.find? free with
      | some c => .take p c
      | none => .after (y + blockLines r (k * t) - j % 64)

/-- The next block of a bar, from a line of its window on (R226). -/
def State.nextBlockFrom (s : State) (b : Nat) (last : Int) : Nat → Int → Option (Nat × Nat)
  | 0, _ => none
  | n + 1, y =>
    if last < y then none
    else match s.rowBlock b y with
      | .take p c => some (p, c)
      | .held => none
      | .after z => s.nextBlockFrom b last n z

/-- A halted block of a bar that is to be decoded again, though the window has passed it (R235). -/
def State.passedBlock (s : State) (b : Nat) (o : Int) : Option (Nat × Nat) :=
  (barPlanes s.inForce b).findSome? (fun p =>
    let x := s.plane p.1
    match x.halted with
    | some c =>
      if x.retry && !s.underWay b p.1 c && decide (blockFirst p.2 c o + blockLines p.2 c ≤ o) then some (p.1, c) else none
    | none => none)

/-- The next block of a bar that can start inside its window (R226), or one behind it that is decoded again. -/
def State.nextBlock (s : State) (b : Nat) : Option (Nat × Nat) :=
  match s.fillLine b, s.windowEnd b with
  | some f, some e =>
    (s.passedBlock b ((s.windowStart b).getD f)) <|> s.nextBlockFrom b e ((ringRec s.inForce b).depth + 1) f
  | _, _ => none

/-- The decompressors work while TIME and the system run (R41, R237). -/
def State.decodes (s : State) : Bool := s.sys.operating && s.linkRuns && !s.underTest 19

/-- The bars that a decompressor may serve, with lead × min_line_period and their next block (R226). -/
def State.claims (s : State) : List (Nat × Int × Nat × Nat) :=
  (List.range 16).filterMap (fun b =>
    if !s.inForce.enabledBar b then none
    else match s.lead b, s.nextBlock b with
      | some l, some (p, c) =>
        if (s.rbar b).waitsIndex == some (p, c) then none
        else some (b, l * (trigRec s.inForce (s.inForce.trigOf b)).minPeriod, p, c)
      | _, _ => none)

/-- The claim with the smallest product, ties going to the lower bar (R226). -/
def leastClaim : List (Nat × Int × Nat × Nat) → Option (Nat × Int × Nat × Nat)
  | [] => none
  | c :: cs => match leastClaim cs with
    | none => some c
    | some d => if c.2.1 ≤ d.2.1 then some c else some d

/-- A unit that holds a suspended block of another bar. -/
def State.parkable (s : State) (b : Nat) : Option (Nat × Work) :=
  List.find? (fun (u : Nat × Work) => u.2.suspended && u.2.bar != b) s.plait.units

/-- A suspended unit parks its state (R227). -/
def State.park (u : Nat) (w : Work) (s : State) : State :=
  let x := s.rbar w.bar
  let s := s.setRbar w.bar { x with parked := x.parked ++ [w] }
  { s with plait := { s.plait with units := s.plait.units.erase u, parks := s.plait.parks + 1 } }

/-- A unit takes work. -/
def State.giveWork (u : Nat) (w : Work) (s : State) : State :=
  { s with plait := { s.plait with units := s.plait.units.set u w } }

/-- A unit for a bar (R226, R227): a free one, or, where the bar's lead is below 128, one whose suspended block
of another bar is parked. -/
def State.takeUnit (b : Nat) (s : State) : Option (Nat × State) :=
  match s.freeUnit with
  | some u => some (u, s)
  | none =>
    if (match s.lead b with | some l => decide (l < 128) | none => false) then
      (s.parkable b).map (fun u => (u.1, s.park u.1 u.2))
    else none

/-- A block is settled: its lines count as valid, all code 0 where `blank` (R225). -/
def State.settle (b p block : Nat) (blank : Bool) (s : State) : State :=
  let x := s.rbar b
  let s := s.setRbar b { x with
    settled := x.settled ++ [(p, block)]
    blanked := if blank then x.blanked ++ [(p, block)] else x.blanked
    waitsIndex := if x.waitsIndex == some (p, block) then none else x.waitsIndex }
  let y := s.plane p
  (s.setPlane p (if y.halted = some block then { y with halted := none, retry := false, waits := [] } else y)).primeCheck b

/-- DECOMP_SCHEDULE (R215, R226, R227): the least claim of those that a unit can be given; a unit that no bar claims serves a verification (R263). -/
def decompSchedule (s : State) : State :=
  let s := s.rotateWaiting
  if !s.decodes then s
  else match leastClaim (s.claims.filter (fun (c : Nat × Int × Nat × Nat) => (s.takeUnit c.1).isSome)) with
    | none => s.verifyNext
    | some (b, _, p, c) =>
      match Table.find? s.inForce.planes p with
      | none => s
      | some r =>
        let bytes := s.indexBytesOf r c
        let e := indexEntryOf bytes
        if !e.valid then s.setRbar b { s.rbar b with waitsIndex := some (p, c) }
        else match s.takeUnit b with
          | none => s
          | some (u, s) =>
            if e.empty then s.settle b p c true
            else
              let x := s.plane p
              (s.setPlane p { x with retry := x.retry && x.halted != some c }).giveWork u
                { bar := b, plane := p, block := c, entry := bytes }

/-- INDEX_REREAD: an entry that read VALID = 0 is read again (R215). -/
def indexReread (b : Nat) (s : State) : State :=
  match (s.rbar b).waitsIndex with
  | none => s
  | some (p, c) => match Table.find? s.inForce.planes p with
    | none => s
    | some r =>
      if (indexEntryOf (s.indexBytesOf r c)).valid then s.setRbar b { s.rbar b with waitsIndex := none } else s

/-! ## Bad input (R233–R235, R337) -/

/-- BLOCK_BAD (R239). -/
def State.postBad (p block : Nat) (reason : Reason) (action : Nat) (fallback : Bool) (s : State) : State :=
  s.postLimited ⟨Ev.blockBad, p, 0⟩
    (ev Ev.blockBad Cls.plane p reason (block + 2 ^ 32 * action + 2 ^ 34 * b2n fallback))

/-- HALT finds another block of the plane halted: the bad block waits until that one is settled (R235), and printing
pauses now (R233).
DEDUCED, log entry 76. -/
def State.mustWait (s : State) (p block action : Nat) : Bool :=
  action == 1 && (match (s.plane p).halted with
    | some h => h != block
    | none => false)

/-- A bad block waits, to be decoded again later (R235). DEDUCED, log entry 76. -/
def State.letWait (p block : Nat) (s : State) : State :=
  s.setPlane p { s.plane p with waits := block :: (s.plane p).waits }

/-- The action of a policy on a block that no twin can repair: 0 BLANK, 1 HALT. -/
def State.badAction (b p block action : Nat) (s : State) : State :=
  if s.mustWait p block action then (s.letWait p block).haltPrinting
  else if action = 1 then (s.setPlane p { s.plane p with halted := some block, retry := false }).haltPrinting
  else s.settle b p block true

/-- The fallback of a plane without an answer of its twin (R234, R337): its policy, or peer_fallback. -/
def peerFallback (r : PlaneRec) : Nat := if r.policy = 2 then b2n r.fallbackHalt else r.policy

/-- A block is bad input (R233, R234, R337). -/
def State.badBlock (b p : Nat) (r : PlaneRec) (block : Nat) (reason : Reason) (s : State) : State :=
  let x := s.plane p
  let s := s.setPlane p { x with bad := x.bad + 1, lastBad := some block, lastBadReason := reason }
  if s.pair.state == .paired then
    let s := s.setPlane p { s.plane p with peer := (s.plane p).peer ++ [(block, s.tick)] }
    let s := ({ s with pair := { s.pair with peerRequests := s.pair.peerRequests + 1 } }).emit (.peerRequest p block)
    s.postBad p block reason 2 false
  else
    let s := s.postBad p block reason (peerFallback r) (r.policy == 2)
    s.badAction b p block (peerFallback r)

/-- A request to the twin has failed (R234). -/
def State.peerFails (p : Nat) (r : PlaneRec) (block : Nat) (s : State) : State :=
  let x := s.plane p
  let s := s.setPlane p { x with peer := x.peer.filter (fun q => q.1 != block) }
  (s.postBad p block Rc.peerUnavailable (peerFallback r) true).badAction r.bar p block (peerFallback r)

/-! ## Decoding into the ring (R224, R225, R227) -/

/-- Output bytes from offset `pos` of a block with lines of `n` bytes: line, offset in it, bytes. -/
def linePieces (n pos : Nat) (raw : List Byte) : List (Nat × Nat × List Byte) :=
  let h := n - pos % n
  (pos / n, pos % n, raw.take h)
    :: (chunks n (raw.length + 1) (raw.drop h)).mapIdx (fun i c => (pos / n + 1 + i, 0, c))

/-- Output bytes of a block, from offset `pos` on, go to the ring where their lines lie in the window (R221,
R224). -/
def State.writeBlock (b : Nat) (r : PlaneRec) (block : Nat) (o : Int) (pos : Nat) (raw : List Byte) (s : State) : State :=
  let first := blockFirst r block o
  (linePieces (tileBytes r (block % tilesOf r.width)) pos raw).foldl (fun s x =>
    if first + x.1 < o then s
    else s.hbmWrite (ringSlot s.inForce b (first + x.1)
      + 1024 * (barRec s.inForce b).codeWidth * (block % tilesOf r.width) + x.2.1) x.2.2) s

/-- A block's work gives its output, its end, or a stop at the window's end. -/
inductive DecodeStep where
  | suspend (d : Decoded)
  | empty
  | bad (reason : Reason)
  | done (d : Decoded)

/-- How far a unit gets with its block (R224, R227, R233): it suspends before it writes beyond the window. -/
def State.decodeStep (s : State) (r : PlaneRec) (w : Work) : DecodeStep :=
  match s.windowStart w.bar, s.windowEnd w.bar with
  | some o, some e =>
    let room := (e + 1 - blockFirst r w.block o).toNat * tileBytes r (w.block % tilesOf r.width)
    let reach (d : Decoded) : DecodeStep := if d.ended then .done d else .suspend d
    match w.peerBytes with
    | some bs => reach (decodeFrom (placeOf r w.block bs.length (blockLines r w.block)) bs.length room w.ctx bs)
    | none => match s.readFrom r w.block (indexEntryOf w.entry) room w.ctx with
      | .notLoaded => .empty
      | .empty => .empty
      | .bad c => .bad c
      | .decoded d => reach d
  | _, _ => .suspend ⟨[], 0, [], w.ctx, false⟩

/-- What a unit has produced since it began or went on is counted and goes to the ring. -/
def State.keepOutput (r : PlaneRec) (w : Work) (d : Decoded) (s : State) : State :=
  match s.windowStart w.bar with
  | some o => s.writeBlock w.bar r w.block o w.ctx.pos d.rev.reverse
  | none => s

/-- A work that stops at the end of the window (R227, R256). -/
def State.suspended (s : State) (w : Work) (d : Decoded) : Work :=
  { w with suspended := true, at_ := (s.windowEnd w.bar).getD 0, ctx := d.ctx }

/-- A block has been decoded to its end, or to its failure. -/
def State.finishBlock (r : PlaneRec) (w : Work) (d : Decoded) (s : State) : State :=
  let s := s.countDecoded d
  if d.err ≠ 0 then
    if w.peerBytes.isSome then s.peerFails w.plane r w.block else s.badBlock w.bar w.plane r w.block d.err
  else
    let s := s.keepOutput r w d
    let x := s.plane w.plane
    if w.peerBytes.isSome then
      let s := s.setPlane w.plane { x with peerRepairs := x.peerRepairs + 1 }
      (s.post (ev Ev.peerRepaired Cls.plane w.plane 0 w.block)).settle w.bar w.plane w.block false
    else (s.setPlane w.plane { x with validated := x.validated + 1 }).settle w.bar w.plane w.block false

/-- BLOCK_DECODE_DONE: unit `u` comes to the end of its block, to bad input, or to the end of the window
(R225, R227, R233). DEDUCED, log entry 78. -/
def blockDecodeDone (u : Nat) (s : State) : State :=
  match Table.find? s.plait.units u with
  | none => s
  | some w =>
    if w.suspended || !s.decodes then s
    else
      let freed := { s with plait := { s.plait with units := s.plait.units.erase u } }
      match Table.find? s.inForce.planes w.plane with
      | none => freed
      | some r =>
        match s.decodeStep r w with
        | .suspend d =>
          let stopped := (s.keepOutput r w d).giveWork u (s.suspended w d)
          { stopped with plait := { stopped.plait with
            suspensions := s.plait.suspensions + 1, bytesDecoded := s.plait.bytesDecoded + d.rev.length } }
        | .empty => freed.settle w.bar w.plane w.block true
        | .bad c => freed.badBlock w.bar w.plane r w.block c
        | .done d => freed.finishBlock r w d

/-- The window has moved past the line at which a block was suspended. -/
def State.windowMoved (s : State) (w : Work) : Bool :=
  match s.windowEnd w.bar with
  | some e => decide (w.at_ < e)
  | none => false

/-- DECOMP_RESUME: a suspended unit goes on, and a free unit, or one whose block of another bar is parked for it,
takes a parked block, once the window has moved (R227). -/
def decompResume (b : Nat) (s : State) : State :=
  if !s.decodes then s
  else
    let units := s.plait.units.map (fun u =>
      if u.2.bar = b && u.2.suspended && s.windowMoved u.2 then (u.1, { u.2 with suspended := false }) else u)
    let s := { s with plait := { s.plait with units := units } }
    match (s.rbar b).parked.find? (fun w => s.windowMoved w), s.takeUnit b with
    | some w, some (u, s) =>
      (s.setRbar b { s.rbar b with parked := (s.rbar b).parked.erase w }).giveWork u { w with suspended := false }
    | _, _ => s

/-! ## The twin's blocks (R234, R323) -/

/-- PEER_BLOCK_RESPONSE (R234). DEDUCED, log entry 80. -/
def peerBlockResponse (p block : Nat) (bytes : Option (List Byte)) (s : State) : State :=
  let x := s.plane p
  match Table.find? s.inForce.planes p with
  | none => s
  | some r =>
    if !x.peer.any (fun q => q.1 == block) then s
    else match bytes with
      | none => s.peerFails p r block
      | some bs =>
        let s := s.setPlane p { x with peer := x.peer.filter (fun q => q.1 != block) }
        let w : Work := { bar := r.bar, plane := p, block := block, peerBytes := some bs }
        match s.decodeStep r w with
        | .done d => s.finishBlock r w d
        | .suspend d =>
          let s := s.keepOutput r w d
          let s := { s with plait := { s.plait with bytesDecoded := s.plait.bytesDecoded + d.rev.length } }
          s.setRbar r.bar { s.rbar r.bar with parked := (s.rbar r.bar).parked ++ [s.suspended w d] }
        | _ => s

/-- PEER_REQUEST_TIMEOUT: 100 µs (40,000 ticks) without an answer (R234). -/
def peerRequestTimeout (p : Nat) (s : State) : State :=
  match (s.plane p).peer.find? (fun q => decide (q.2 + 40000 ≤ s.tick)), Table.find? s.inForce.planes p with
  | some q, some r => s.peerFails p r q.1
  | _, _ => s

/-- PEER_BLOCK_REQUEST: this unit sends its copy of a block, where its entry is valid and it can be read
(R323). -/
def peerBlockRequest (p block : Nat) (s : State) : State :=
  let copy : Option (List Byte) := match Table.find? s.inForce.planes p with
    | none => none
    | some r =>
      let e := indexEntryOf (s.indexBytesOf r block)
      if planeBlocks r ≤ block || !e.valid || e.empty || indexInvalid r block e || s.poisoned 2 e.offset e.length then none
      else some (s.hbmRead e.offset e.length)
  s.emit (.peerResponse p block copy)

end Sys2Proof.Machine
end

