-- ==== Sys2Proof/Machine/Scheduler.lean ====
section
/-!
DEFINITION. The fire scheduler: evaluations (R163, R166), tickets (R168, R169), corrections, holds and
releases (R171–R173), spit and tickle strobes (R174, R175, R177), dry risk (R176), fires (R170, R190,
R197–R200, R339) and the TRIGOUT outputs (R179).
-/

namespace Sys2Proof.Machine

open Sys2Proof

/-! ## Times (R25, R165, R167, R168) -/

/-- T of R168: the enforced period in fine ticks. -/
def State.enforced (s : State) (g : Nat) : Nat :=
  let c := max 1 s.therm.ceiling
  ((trigRec s.inForce g).minPeriod * 16 * 32768 + c - 1) / c

/-- The earliest feasible fire time of a strobe emitted now (R167). -/
def State.earliest (s : State) (b : Nat) : Nat := 16 * (s.tick + s.notice b)

/-- A prediction as the scheduler uses it: dp, the fire time where dp > 0, and the line time (with
dp ≤ 0: at the present speed, as the manual's example of R171 computes it). -/
structure Aim where
  dp : ℚ
  fire : Option Nat
  lineTime : Nat

/-- The prediction of a hit; none where stalled (R165). -/
def State.aim (s : State) (b : Nat) (hit : Pos48) : Option Aim :=
  match barModel s b s.tick, predict s b s.tick hit with
  | some m, some p =>
    some { dp := p.dp, fire := p.fire.map (·.1)
           lineTime := match p.fire with
             | some f => f.2
             | none => (fireOf (barRec s.inForce b).linePitch s.tick 0 m.2.1 m.2.2).2 }
  | _, _ => none

/-- A prediction raised to the earliest feasible time, and whether it was raised (R168). -/
def raise (a : Aim) (early : Nat) : Nat × Bool :=
  match a.fire with
  | none => (early, true)
  | some f => if f < early then (early, true) else (f, false)

/-! ## Strobes of lines, spits and tickles -/

/-- A strobe of an outstanding line leaves on every port of the bar (R23, R170, R339).
DEDUCED, log entry 65. -/
def State.strobeLine (b : Nat) (kind : StrobeKind) (l : TLine) (s : State) : State × TLine :=
  let l := { l with strobes := l.strobes ++ strobeBytes b l.line l.fire l.lineTime }
  (s.strobe b kind l.line l.fire l.lineTime l.bank, l)

/-- The samples of a SPIT or TICKLE fire (R191, R196, R206). -/
def State.fireWaves (s : State) (b wave : Nat) (windows : Byte) : List PrepWave :=
  let cfg := s.inForceFor b
  (chansOf cfg b).map (fun c => s.waveFor cfg c b wave (if windows = 0 then 0 else drivePresent cfg c) none)

/-- A channel's samples go to the module before a SPIT or TICKLE strobe when they differ from the last
ones sent (R279). -/
def State.sendWav (b : Nat) (kind : FireKind) (s : State) (w : PrepWave) : State :=
  let p := w.channel / 4
  let x := s.port p
  let old := x.wavSent.find? (fun y => y.1 == w.channel && y.2.1 == kind)
  if decide (128 ≤ w.channel) || !s.portServes p || old.map (fun y => y.2.2) == some w.samples then s
  else
    let s := (wavFrames b kind 0 w).foldl (fun s f => s.sendFrame p f) s
    let y := s.port p
    s.setPort p { y with
      wavSent := (w.channel, kind, w.samples) :: y.wavSent.filter (fun z => !(z.1 == w.channel && z.2.1 == kind)) }

/-- A SPIT or TICKLE strobe leaves (R174, R175, R191). -/
def State.emitPulse (b g : Nat) (kind : FireKind) (fire : Nat) (s : State) : State :=
  let spit := kind == .spit
  let cfg := s.inForceFor b
  let wave := if spit then (profileRec cfg b 0).wave else (waveBarRec cfg b).tickleWave
  let windows := if spit then (trigRec cfg g).spitWindows else (waveBarRec cfg b).tickleWindows
  let ws := s.fireWaves b wave windows
  let s := s.noteWaves cfg b none ws
  let s := ws.foldl (State.sendWav b kind) s
  let s := s.strobe b (if spit then .spit else .tickle) 0 fire 0 (s.bankOf b)
  let t := s.trig g
  s.setTrig g { t with
    pulses := t.pulses ++ [⟨kind, fire, ws⟩], lastFire := some fire, lastKind := kind
    spits := if spit then t.spits + 1 else t.spits }

/-- The latest fire of the bar as last strobed: of the fires that have passed, the pulses under way and the
outstanding lines that are not held (R168). -/
def latestFire (t : Trig) : Trig :=
  let done := t.doneFire.toList.map (fun f => (f, t.doneKind))
  let ls := (t.lines.filter (fun l => !l.held)).map (fun l => (l.fire, FireKind.line))
  let ps := t.pulses.map (fun p => (p.fire, p.kind))
  match done ++ ls ++ ps with
  | [] => { t with lastFire := none }
  | x :: xs =>
    let m := xs.foldl (fun (a : Nat × FireKind) y => if a.1 < y.1 then y else a) x
    { t with lastFire := some m.1, lastKind := m.2 }

/-! ## Holds (R172) -/

/-- One outstanding line of a bar that stands, or whose model is stalled, is held, or counts in
hold_late when it cannot be. DEDUCED, log entry 64. -/
def State.holdOne (b g : Nat) (acc : State × List TLine) (l : TLine) : State × List TLine :=
  let s := acc.1
  if l.held then (s, acc.2 ++ [l])
  else if s.earliest b ≤ l.fire then
    let r := s.strobeLine b .hold l
    (r.1, acc.2 ++ [{ r.2 with held := true }])
  else if l.unheld then (s, acc.2 ++ [l])
  else (s.countDrop g Rc.holdLate l.line, acc.2 ++ [{ l with unheld := true }])

/-- Every correctable outstanding line is held (R172): it has no fire time until its release. -/
def State.holdAll (b g : Nat) (s : State) : State :=
  let r := (s.trig g).lines.foldl (State.holdOne b g) (s, [])
  r.1.setTrig g (latestFire { r.1.trig g with lines := r.2 })

/-! ## Corrections (R171) -/

/-- The fire time of the fire that precedes an outstanding line: of those that have passed, of the
pulses before it, and of the lines before it as they now stand. DEDUCED, log entry 64. -/
def fireBefore (t : Trig) (l : TLine) (before : List TLine) : Option Nat :=
  let fs := t.doneFire.toList ++ (t.pulses.filter (fun p => decide (p.fire < l.fire))).map (·.fire)
    ++ (before.filter (fun m => !m.held)).map (·.fire)
  match fs with
  | [] => none
  | f :: r => some (r.foldl max f)

/-- One outstanding line is revisited at an edge evaluation (R171).  A correction that the spacing term
raises is always sent. DEDUCED, log entry 64. -/
def State.correctOne (b g : Nat) (acc : State × List TLine) (l : TLine) : State × List TLine :=
  let s := acc.1
  let c := trigRec s.inForce g
  let keep := (s, acc.2 ++ [l])
  if l.held || decide (l.fire < s.earliest b) then keep
  else match s.aim b l.hit with
    | none => keep
    | some a =>
      let r := raise a (s.earliest b)
      let floor := match fireBefore (s.trig g) l acc.2 with
        | some f => f + l.period
        | none => 0
      let f := max r.1 floor
      let spaced := decide (r.1 < floor)
      let forced := spaced && l.fire != f
      let moved := c.tolerance < (max f l.fire - min f l.fire)
      if !forced && (!moved || decide (c.corrMax ≤ l.corrections)) then keep
      else
        let out := s.strobeLine b .correction { l with fire := f, lineTime := a.lineTime, corrections := l.corrections + 1 }
        let s := out.1
        let t := s.trig g
        let s := s.setTrig g { t with
          corrections := t.corrections + 1, clamped := if spaced then t.clamped + 1 else t.clamped }
        let s := if r.2 then s.countDrop g Rc.lateFire l.line else s
        (s, acc.2 ++ [out.2])

/-- The outstanding lines are revisited in ascending order (R171). DEDUCED, log entry 64. -/
def State.correctAll (b g : Nat) (s : State) : State :=
  let r := (s.trig g).lines.foldl (State.correctOne b g) (s, [])
  r.1.setTrig g (latestFire { r.1.trig g with lines := r.2 })

/-! ## Releases (R172, R173) -/

/-- The earliest fire of a released line: the enforced period of its own ticket after the latest fire of its
bar, whatever its kind (R168, R172). -/
def releaseFloor (t : Trig) (l : TLine) : Nat :=
  match (latestFire t).lastFire with
  | some f => f + l.period
  | none => 0

/-- Held lines are released in order, from the first on, while their prediction is due. -/
def State.releaseFrom (b g : Nat) : List TLine → List TLine → State → State
  | _, [], s => s
  | before, l :: rest, s =>
    if !l.held then State.releaseFrom b g (before ++ [l]) rest s
    else
      let c := trigRec s.inForce g
      match s.aim b l.hit with
      | none => s
      | some a =>
        if (match a.fire with | some f => decide (16 * (s.tick + c.strobeLead) < f) | none => false) then s
        else
          let r := raise a (s.earliest b)
          let floor := releaseFloor (s.trig g) l
          let spaced := decide (r.1 < floor)
          let f := max r.1 floor
          let out := s.strobeLine b .release { l with fire := f, lineTime := a.lineTime, held := false, unheld := false }
          let s := out.1
          let t := s.trig g
          let s := s.setTrig g { latestFire { t with lines := before ++ out.2 :: rest } with
            clamped := if spaced then t.clamped + 1 else t.clamped }
          let s := if r.2 then s.countDrop g Rc.lateFire l.line else s
          State.releaseFrom b g (before ++ [out.2]) rest s

/-- Held lines are released as they come due (R172); in PAUSED they stay held (R173). -/
def State.releaseDue (b g : Nat) (s : State) : State :=
  if s.sys == .paused then s else s.releaseFrom b g [] (s.trig g).lines

/-! ## Hits (R168, R169) -/

/-- A commit or a bank change waits for a line of the bar that is not later than `y`. -/
def State.lineChanges (s : State) (b : Nat) (y : Word) : Bool :=
  s.commits.any (fun k => k.bars.any (fun x => x.bar == b && decide (0 ≤ ahead32 x.line y) && !(x.dataDone && x.ctlDone)))
    || s.catchUps.any (fun c => c.bars.any (fun x => x.1 == b && x.2.2 == s.bankOf b && decide (0 ≤ ahead32 x.2.1 y)))

/-- The ticket of line `y` takes the changes that apply from it (R28, R169, R282).
DEDUCED, log entry 49. -/
def State.takeLine (b : Nat) (y : Word) (s : State) : State :=
  ((s.takeParts .data b y).takeParts .ctl b y).flipBanks b (some y)

/-- A line is ticketed, and its LINE strobe leaves (R168). -/
def State.issueTicket (b g f lineTime period : Nat) (s : State) : State :=
  let y := (s.trig g).li
  let s := (s.firstTicket.ticketArrives b y).wavesFirst b y
  let l : TLine := { line := y, hit := (s.trig g).cmp, fire := f, lineTime := lineTime, period := period, bank := s.bankOf b }
  let out := s.strobeLine b .line l
  let s := out.1
  let t := s.trig g
  s.setTrig g { t with lines := t.lines ++ [out.2], ticketed := t.ticketed + 1, lastFire := some f, lastKind := .line }

/-- A hit that is due: spacing, then a spit, a drop or a ticket, and the hit is consumed (R168).
DEDUCED, log entry 49. -/
def State.dueHit (b g : Nat) (a : Aim) (s : State) : State :=
  let y := (s.trig g).li
  let r := raise a (s.earliest b)
  let s := if r.2 then s.countDrop g Rc.lateFire y else s
  let t := s.trig g
  let period := s.enforced g
  let near := match t.lastFire with
    | some f => decide (r.1 < f + period)
    | none => false
  if near && t.lastKind != .tickle then (s.countDrop g Rc.overspeed y).consume g
  else
    let f := if near then t.lastFire.getD 0 + period else r.1
    let s := if near then s.setTrig g { t with clamped := t.clamped + 1 } else s
    if t.cur.spit then (s.emitPulse b g .spit f).consume g
    else if s.sys == .paused then (s.setTrig g { s.trig g with suppressed := t.suppressed + 1 }).consume g
    else if (s.rbar b).dryHold then (s.countDrop g Rc.dryHold y).consume g
    else if 64 ≤ (s.rbar b).tickets.length then (s.countDrop g Rc.engineLate y).consume g
    else (s.issueTicket b g f a.lineTime period).consume g

/-- The loop of R168 at this evaluation; a new ticket waits for the held lines (R172).
DESIGN CHOICE, log entry 66. -/
def State.hits (b g : Nat) : Nat → State → State
  | 0, s => s
  | n + 1, s =>
    let t := s.trig g
    if t.state != .running || !s.barMoves b s.tick then s
    else match s.aim b t.cmp with
      | none => s
      | some a =>
        let missed := decide (a.dp ≤ -((t.cur.pitch : ℚ) / 65536))
        let later := match a.fire with
          | some f => decide (16 * (s.tick + (trigRec s.inForce g).strobeLead) < f)
          | none => false
        if !missed && later then s
        else if !t.cur.spit && s.lineChanges b t.li then State.hits b g n (s.takeLine b t.li)
        else if missed then State.hits b g n ((s.countDrop g Rc.missed t.li).consume g)
        else if !t.cur.spit && s.sys != .paused && !(s.rbar b).dryHold && t.lines.any (·.held) then s
        else State.hits b g n (s.dueHit b g a)

/-- The loop ends by itself before this many hits, one for each position of R132, unless the run table
never lets it. DESIGN CHOICE, log entry 66. -/
def hitFuel : Nat := 2 ^ 48

/-! ## Spit bursts (R177) -/

/-- A burst is cut short when its bar moves, and its next spit leaves at a periodic evaluation.
DEDUCED, log entry 63. -/
def State.burstStep (b g : Nat) (periodic : Bool) (s : State) : State :=
  let t := s.trig g
  match t.burst with
  | none => s
  | some u =>
    let m := s.barMotion b
    if u.cut.isSome || u.left = 0 then s
    else if m == .forward || m == .settling then s.cutBurst g Rc.barMoving
    else if !periodic || s.underTest 15 || s.underTest 16 then s
    else
      let period := s.enforced g
      let want := match u.lastFire with
        | none => s.earliest b
        | some f => max (s.earliest b) (f + max (16 * u.interval) period)
      let f := match t.lastFire with
        | some l => max want (l + period)
        | none => want
      if u.lastFire.isSome && decide (16 * (s.tick + (trigRec s.inForce g).strobeLead) < f) then s
      else
        let s := if want < f then s.setTrig g { t with clamped := t.clamped + 1 } else s
        let s := s.emitPulse b g .spit f
        s.setTrig g { s.trig g with burst := some { u with left := u.left - 1, lastFire := some f } }

/-! ## Evaluations (R160, R163, R166) -/

/-- One bar is evaluated: edge or periodic. DEDUCED, log entry 61. -/
def State.evalBar (b : Nat) (edge : Bool) (s : State) : State :=
  let g := s.inForce.trigOf b
  if !s.runsBar g then s
  else
    let s := s.burstStep b g (!edge)
    let s := s.setTrig g { s.trig g with stalled := (barModel s b s.tick).isNone, period := s.enforced g }
    if !s.evaluates then s
    else
      if !s.barMoves b s.tick then s.holdAll b g
      else
        let s := if edge then s.correctAll b g else s
        (s.releaseDue b g).hits b g hitFuel

/-- The enabled bars that an axis contributes to (R146, R163). -/
def State.barsOnAxis (s : State) (n : Nat) : List Nat :=
  s.inForce.enabledBars.filter (fun b => (contributing (barRec s.inForce b)).contains n)

/-- What this tick has asked for so far (R163). -/
def State.evalsNow (s : State) : Evals := if s.evals.at_ = s.tick then s.evals else { at_ := s.tick }

/-- A row that waits in the queue may still ask for an evaluation at this tick (R163).
DESIGN CHOICE, log entry 150. -/
def State.moreAt (s : State) : Bool :=
  s.pending.any (fun i => match i with
    | .quadratureEdge m _ _ _ => decide (m.tick ≤ s.tick)
    | .ssiFrameEnd m _ _ _ => decide (m.tick ≤ s.tick)
    | .periodicEvaluation m => decide (m.tick ≤ s.tick)
    | _ => false)

/-- One enabled bar at a tick: an edge evaluation where one of its axes has counted, otherwise a periodic one
where the tick is a multiple of 64 and none has run (R163). -/
def State.evalOnce (e : Evals) (s : State) (b : Nat) : State :=
  if e.axes.any (contributing (barRec s.inForce b)).contains then s.evalBar b true
  else if e.periodic && !e.bars.contains b then s.evalBar b false
  else s

/-- The evaluations of this tick run once every row of the tick has been taken, each bar's once (R163).
DESIGN CHOICE, log entry 150. -/
def State.settleEvals (s : State) : State :=
  let e := s.evalsNow
  if s.moreAt || (e.axes.isEmpty && !e.periodic) then s
  else
    let s := { s with evals := { e with axes := [], periodic := false, bars := e.bars ++ s.inForce.enabledBars } }
    (s.inForce.enabledBars.foldl (State.evalOnce e) s).trigoutLevels

/-- An axis has counted (R163). -/
def State.askEdge (n : Nat) (s : State) : State :=
  { s with evals := { s.evalsNow with axes := insertNat s.evalsNow.axes n } }

/-- The tick is a periodic one (R163). -/
def State.askPeriodic (s : State) : State := { s with evals := { s.evalsNow with periodic := true } }

/-- The ceiling that an evaluation at a tick uses: the one whose apply tick has come by then (R334). -/
def State.ceilingAt (s : State) (te : Nat) : Nat :=
  match s.pair.ceilPast.find? (fun x => decide (te < x.2)), (s.pair.ceilNext.filter (fun x => decide (x.2 ≤ te))).getLast? with
  | some x, _ => x.1
  | none, some x => x.1
  | none, none => s.therm.ceiling

/-- An evaluation at an earlier tick of the twin's input stream (R332): the clock reads that tick
meanwhile, and the ceiling is the one of that tick (R334). -/
def State.atTick (te : Nat) (f : State → State) (s : State) : State :=
  let now := s.tick
  let c := s.therm.ceiling
  let r := f { s with tick := te, therm := { s.therm with ceiling := s.ceilingAt te } }
  { r with tick := max now r.tick, therm := { r.therm with ceiling := c } }

/-- Unit P sends what it has recorded, and closes its input stream through this tick (R332). -/
def State.sendStream (s : State) : State :=
  if !s.leadsPair then s
  else
    let p := s.pair
    ({ s with pair := { p with edges := [], motions := [], streamClosed := s.tick, lastControl := s.tick } }).emit
      (.control (.stream p.edges p.motions s.tick))

/-- PERIODIC_EVALUATION, at a tick that is a multiple of 64 (R163).  Unit P closes its input stream
through this tick; unit S evaluates as the stream closes (R332). -/
def periodicEvaluation (s : State) : State :=
  if s.tick % 64 ≠ 0 || !s.linkRuns then s.settleEvals
  else if s.follows then s
  else s.sendStream.askPeriodic.settleEvals

/-! ## Counted edges (R128, R141, R163, R332) -/

/-- Unit S keeps its own reading of an input and not the position it would count (R332). -/
def keepCount (a own : Axis) : Axis :=
  { own with
    counter := a.counter, wraps := a.wraps, speed := a.speed, motion := a.motion, reverse := a.reverse
    referenced := a.referenced, lastEdge := a.lastEdge, history := a.history, fresh := a.fresh
    runPositive := a.runPositive, windowNet := a.windowNet, windowEdges := a.windowEdges
    emptyWindows := a.emptyWindows, doneNet := a.doneNet }

/-- What follows a sample of an axis (R163, R332): unit S keeps what it has recorded for comparison, unit P
sends it on, and the bars of an axis that has counted are evaluated. -/
def State.afterSample (n : Nat) (old : State) (r : State × Option StreamEdge) : State :=
  match r.2 with
  | none => r.1.settleEvals
  | some e =>
    if old.follows then
      let s := old.setAxis n (keepCount (old.axis n) (r.1.axis n))
      { s with pair := { s.pair with edges := s.pair.edges ++ [e] } }
    else
      let s := r.1
      let s := if s.leadsPair then { s with pair := { s.pair with edges := s.pair.edges ++ [e] } } else s
      (if e.delta = 0 then s else s.askEdge n).settleEvals

/-- The tick at which an element of the stream was recorded (R125, R139): its evaluation. -/
def recordTick (r : AxisRec) (e : StreamEdge) : Nat :=
  if r.ssi then e.tick + 2 * r.ssiHalf * (ssiBitsTotal r + 1) + r.ssiSample else e.tick + r.filterDepth

/-- PAIR_INPUT_MISMATCH (R332). -/
def State.inputMismatch (n : Nat) (s : State) : State :=
  let c := s.pair.inputMismatches + 1
  (({ s with pair := { s.pair with inputMismatches := c } }).pairChange 5).postLimited
    ⟨Ev.pairInputMismatch, n, 0⟩ (ev Ev.pairInputMismatch Cls.axis n Rc.pairInputMismatch c.toNat)

/-- An own sample agrees with an element of unit P's stream: same sign, and timestamps within ±2 ticks (R332). -/
def agrees (e o : StreamEdge) : Bool :=
  o.axis == e.axis && o.delta.sign == e.delta.sign && decide (o.tick ≤ e.tick + 2) && decide (e.tick ≤ o.tick + 2)

/-- The elements of unit P's stream and unit S's own samples that agree are paired off; those of the stream that
are left are returned (R332). -/
def pairOff : List StreamEdge → List StreamEdge → List StreamEdge × List StreamEdge
  | [], own => ([], own)
  | e :: es, own => match own.find? (agrees e) with
    | some o => pairOff es (own.erase o)
    | none => let r := pairOff es own; (e :: r.1, r.2)

/-- One disagreement counts once (R332): an element of the stream takes with it the own sample of its axis, at
most 64 ticks from it, that stands in its place. DEDUCED, log entry 94. -/
def State.disagree (s : State) (e : StreamEdge) : State :=
  let stands (o : StreamEdge) : Bool := o.axis == e.axis && decide (o.tick ≤ e.tick + 64) && decide (e.tick ≤ o.tick + 64)
  let left := match s.pair.edges.find? stands with
    | some o => s.pair.edges.erase o
    | none => s.pair.edges
  { s with pair := { s.pair with edges := left } }.inputMismatch e.axis

/-- Unit P's stream is compared with unit S's own samples (R332). -/
def State.compareEdges (es : List StreamEdge) (s : State) : State :=
  let r := pairOff es s.pair.edges
  r.1.foldl State.disagree { s with pair := { s.pair with edges := r.2 } }

/-- Unit S's own samples that the closed stream does not hold disagree with it (R332).
DEDUCED, log entry 94. -/
def State.dropUnmatched (closed : Nat) (s : State) : State :=
  let gone := s.pair.edges.filter (fun o => decide (o.tick + 2 < closed))
  let s := { s with pair := { s.pair with edges := s.pair.edges.filter (fun o => !decide (o.tick + 2 < closed)) } }
  gone.foldl (fun s o => s.inputMismatch o.axis) s

/-- The motion of a code (R155). -/
def motionOfCode : Nat → Motion
  | 1 => .settling
  | 2 => .forward
  | 3 => .reverse
  | 4 => .faulted
  | 5 => .disabled
  | _ => .stopped

/-- Unit S takes an element of unit P's stream: its counter value, and its edge (R332). -/
def State.streamEdge (s : State) (e : StreamEdge) : State :=
  let a := s.axis e.axis
  if e.delta = 0 then s.setAxis e.axis { a with counter := e.counter, referenced := true, lastEdge := e.tick }
  else (s.setAxis e.axis { a with counter := e.counter - BitVec.ofInt 32 e.delta }).countEdge e.axis e.delta e.tick

/-- Unit S takes a motion state of unit P's axis (R332). -/
def State.streamMotion (s : State) (x : Nat × Nat × Nat) : State :=
  let a := s.axis x.2.1
  let m := motionOfCode x.2.2
  if a.motion == .disabled || a.motion == m then s
  else
    let s := s.setAxis x.2.1 { a with motion := m }
    if m == .stopped then s.postMotion x.2.1 else s

/-- The state events stamped at or before a tick take effect, each at its own (R333). DEDUCED, log entry 154. -/
def State.eventsThrough (te : Nat) (s : State) : State :=
  (s.pair.stateEvents.filter (fun e => decide (e.2.1 ≤ te))).foldl (fun s e => s.atTick e.2.1 (fun s => s.takeEvent e)) s

/-- The state events up to a tick take effect, the motion states of unit P's axes at it are taken, its edges that were recorded at it are counted, and
the bars are evaluated (R163, R332). DEDUCED, log entry 94. -/
def State.streamTick (edges : List StreamEdge) (motions : List (Nat × Nat × Nat)) (te : Nat) (s : State) : State :=
  let s := s.eventsThrough te
  let due := edges.filter (fun e => recordTick (axisRec s.inForce e.axis) e == te)
  s.atTick te (fun s =>
    let s := (motions.filter (fun x => x.1 == te)).foldl State.streamMotion s
    let s := due.foldl State.streamEdge s
    let hit := s.inForce.enabledBars.filter (fun b =>
      (contributing (barRec s.inForce b)).any (fun n => due.any (fun e => e.axis == n && e.delta != 0)))
    let s := s.inForce.enabledBars.foldl (fun s b =>
      if hit.contains b then s.evalBar b true else if te % 64 = 0 then s.evalBar b false else s) s
    s.trigoutLevels)

/-- The ticks of a stream at which unit S evaluates, ascending. -/
def streamTicks (cfg : Cfg) (edges : List StreamEdge) (motions : List (Nat × Nat × Nat)) (start closed : Nat) : List Nat :=
  let periodic := (List.range (closed / 64 - start / 64)).map (fun i => (start / 64 + 1 + i) * 64)
  (edges.map (fun e => recordTick (axisRec cfg e.axis) e) ++ motions.map (·.1)).foldl insertNat periodic

/-- Unit S takes a closed part of the stream (R332). DEDUCED, log entry 94. -/
def State.takeStream (edges : List StreamEdge) (motions : List (Nat × Nat × Nat)) (closed : Nat) (s : State) : State :=
  let s := (s.compareEdges edges).dropUnmatched closed
  let s := (streamTicks s.inForce edges motions s.pair.streamClosed closed).foldl
    (fun s te => s.streamTick edges motions te) s
  let s := s.eventsThrough closed
  { s with pair := { s.pair with streamClosed := max s.pair.streamClosed closed } }

/-! ## Keep-alive and dry risk (R175, R176) -/

/-- TICKLE_EMIT, at a multiple of tickle_period (R175), for an enabled bar: its generator follows it (R158). -/
def tickleEmit (b : Nat) (s : State) : State :=
  let g := s.inForce.trigOf b
  let c := trigRec s.inForce g
  let t := s.trig g
  let near := s.barMotion b == .forward && t.state == .running && (match s.aim b t.cmp with
    | some a => (match a.fire with
      | some f => decide (f < 16 * (s.tick + s.notice b + c.strobeLead) + s.enforced g)
      | none => true)
    | none => false)
  if !s.linkRuns || s.underTest 15 || s.underTest 16 || s.tick % (c.ticklePeriod * 400) ≠ 0 || !s.inForce.enabledBar b || !s.keepAliveActive g
      || !t.lines.isEmpty || near then s
  else s.emitPulse b g .tickle (s.earliest b)

/-- DRY_RISK: dry_time seconds without an ejecting fire on an enabled bar (R176).
DEDUCED, log entry 69; DESIGN CHOICE, log entry 168. -/
def dryRisk (b : Nat) (s : State) : State :=
  let x := s.rbar b
  let c := trigRec s.inForce (s.inForce.trigOf b)
  if !s.barEnabled b || x.dryRisk || decide (s.aon < x.lastEject + c.dryTime * 1024000) then s
  else
    let s := s.setRbar b { x with dryRisk := true, dryHold := c.requireSpit, spitSince := false }
    let s := s.post (ev Ev.dryRisk Cls.bar b Rc.dryRisk ((s.aon - x.lastEject) / 1024000))
    (s.logOpen { origin := .fwAuto, cls := Cls.bar, obj := b, reason := Rc.dryRisk }).trigoutLevels

/-! ## Fires (R170, R190, R197–R200) -/

/-- The TIME tick at which a DAC starts a fire (R197). -/
def dacStart (f : Nat) : Nat := 4 * ((f + 63) / 64)

/-- One channel plays its samples for a fire; a DAC within amp_on_delay of its amplifier's rise holds code
0 instead (R195, R197, R200). -/
def State.playWave (f : Nat) (line : Option Word) (s : State) (w : PrepWave) : State :=
  let s := s.noteFire w line
  if w.channel < 128 then s
  else
    let k := w.channel - 128
    let a := s.amp k
    let start := dacStart f
    if a.en && decide (start < a.rise + (dacRec s.inForce k).ampOnDelay * 400) then
      let x := { s.chan w.channel with blocked := (s.chan w.channel).blocked + 1 }
      (s.setChan w.channel x).postLimited ⟨Ev.dacBlocked, w.channel, 0⟩ (dacBlockedBody w.channel x)
    else
      let codes := w.samples.map (s.dacCode k)
      (s.setAmp k { a with busyUntil := start + 4 * codes.length, samples := codes }).emit (.dac k start codes)

/-- The latest start of a nozzle of a bar after the fire time, in fine ticks (R170).
DEDUCED, log entry 68. -/
def lastStart (cfg : Cfg) (b lineTime : Nat) : Nat :=
  (cfg.headsOf b).foldl (fun m h =>
    let rows := (List.range h.2.rows).map (fun r => (rowRec cfg h.1 r).subDelay * lineTime / 65536)
    let trims := (headNozzles cfg h.1).map (fun n => (256 * nmapTrim n.2.2).toNat)
    max m (rows.foldl max 0 + trims.foldl max 0)) 0

/-- The tick at which a fire of a bar has ended: the last nozzle's waveform, and the DACs' (R44, R199).
DEDUCED, log entry 68. -/
def fireEndTick (cfg : Cfg) (b f lineTime : Nat) (ws : List PrepWave) : Nat :=
  let d := (ws.map (·.duration)).foldl max 0
  max ((f + lastStart cfg b lineTime + 15) / 16 + d) (dacStart f + 4 * ((d + 3) / 4))

/-- A fire schedules the pulses of the TRIGOUT outputs that report it (R179). DEDUCED, log entry 67. -/
def State.pulseTrigouts (g f : Nat) (kind : FireKind) (s : State) : State :=
  (List.range 8).foldl (fun s k =>
    let r := trigoutRec s.inForce k
    let reports := match r.event, kind with
      | 0, .line => true
      | 1, .spit => true
      | 2, .line => true
      | 2, .spit => true
      | 3, .line => true
      | _, _ => false
    if r.enable && r.source == g && reports then
      let x := s.trigoutOf k
      let start := f / 16 + r.delay
      s.setTrigout k { x with pulses := x.pulses ++ [(start, start + r.width)] }
    else s) s

/-- An ejecting fire restarts the bar's idle and dry times (R175, R176). DEDUCED, log entry 69. -/
def State.ejected (b g f : Nat) (spit : Bool) (s : State) : State :=
  let x := s.rbar b
  let clears := !(trigRec s.inForce g).requireSpit
  (s.setRbar b { x with
    lastEject := s.aon, lastEjectTick := f / 16
    dryRisk := x.dryRisk && !clears, dryHold := x.dryHold && !clears
    spitSince := x.spitSince || spit }).trigoutLevels

/-- A fire passes: what all kinds do (R168, R199). -/
def State.firePasses (b g f lineTime : Nat) (kind : FireKind) (line : Option Word) (ws : List PrepWave) (s : State) : State :=
  let s := ws.foldl (State.playWave f line) s
  let t := s.trig g
  let later := match t.doneFire with
    | some d => decide (d ≤ f)
    | none => true
  let s := if later then s.setTrig g { t with doneFire := some f, doneKind := kind } else s
  let s := { s with fires := s.fires ++ [(b, fireEndTick s.inForce b f lineTime ws)] }
  let s := if kind == .tickle then s else s.ejected b g f (kind == .spit)
  s.pulseTrigouts g f kind

/-- The module has fired a line: it, and the unstrobed lines before it, are no longer buffered (R278). -/
def firedLine (b : Nat) (line : Word) (x : Port) : Port :=
  dropLine b line { x with buffered := x.buffered.filter (fun y =>
      !(y.bar == b && (y.line == line || (decide (0 < ahead32 y.line line) && !y.strobed)))) }

/-- The line digest of one port closes at the line's fire (R339). -/
def State.digestPort (b : Nat) (l : TLine) (ws : List PrepWave) (s : State) (q : PrepPort) : State :=
  let slots := (ws.filter (fun w => decide (w.channel < 128) && w.channel / 4 == q.port)).flatMap
    (fun w => w.samples.flatMap (leInt 2))
  let bytes := q.vectors.flatMap (·.2) ++ slots ++ l.strobes
  s.closeDigest { bar := b, port := q.port, line := l.line, digest := crc32c bytes, excluded := q.withheld, closed := s.tick }

/-- A line reaches its fire time (R170, R171, R278, R339). -/
def State.fireLine (b g : Nat) (l : TLine) (s : State) : State :=
  let t := s.trig g
  let s := s.setTrig g { t with lines := t.lines.filter (fun m => m.line != l.line) }
  let x := s.rbar b
  let prep := x.prepared.find? (fun m => m.line == l.line)
  let ws := match prep with
    | some m => m.waves
    | none => []
  let s := s.setRbar b { x with prepared := x.prepared.filter (fun m => decide (0 < ahead32 l.line m.line)) }
  let s := (s.inForce.portsOf b).foldl (fun s p => s.setPort p (firedLine b l.line (s.port p))) s
  let s := match prep with
    | some m => if s.inPair then m.ports.foldl (State.digestPort b l ws) s else s
    | none => s
  s.firePasses b g l.fire l.lineTime .line (some l.line) ws

/-- A SPIT or TICKLE fire reaches its time. -/
def State.firePulse (b g : Nat) (p : Pulse) (s : State) : State :=
  let t := s.trig g
  (s.setTrig g { t with pulses := t.pulses.erase p }).firePasses b g p.fire 0 p.kind none p.waves

/-- FIRE_TIME: the earliest fire of a bar whose time has come passes. DESIGN CHOICE, log entry 4. -/
def fireTime (b : Nat) (s : State) : State :=
  let g := s.inForce.trigOf b
  let t := s.trig g
  let due (f : Nat) : Bool := decide (f < 16 * (s.tick + 1))
  let line := t.lines.find? (fun l => !l.held && due l.fire)
  let pulse := t.pulses.find? (fun p => due p.fire)
  match line, pulse with
  | some l, some p => if l.fire ≤ p.fire then s.fireLine b g l else s.firePulse b g p
  | some l, none => s.fireLine b g l
  | none, some p => s.firePulse b g p
  | none, none => s

/-- FIRE_END: a fire of a bar has ended; what waited for it falls (R44, R199, R403). -/
def fireEnd (b : Nat) (s : State) : State :=
  let s := { s with fires := s.fires.filter (fun f => f.1 != b || decide (s.tick < f.2)) }
  (s.ampUpdate (if s.sys == .fault then 1 else 0)).hvUpdate

/-- TRIGOUT_PULSE: an output asserts at the start of a pulse and releases at the end of the last (R179).
DEDUCED, log entry 67. -/
def trigoutPulse (k : Nat) (s : State) : State :=
  let r := trigoutRec s.inForce k
  let x := s.trigoutOf k
  if 4 ≤ r.event then s
  else
    let left := x.pulses.filter (fun p => r.enable && decide (s.tick < p.2))
    let want := left.any (fun p => decide (p.1 ≤ s.tick))
    let s := s.setTrigout k { asserted := want, pulses := left }
    if want == x.asserted || s.pinsHeld then s else s.emit (.trigout k (want != r.activeLow))

end Sys2Proof.Machine
end

