-- ==== Sys2Proof/Machine/CanePorts.lean ====
section
/-!
DEFINITION. What a Cane port receives: block lock, RIM blocks and frames (R266, R270, R283, R284,
R288–R290, R293, R294), and CANE.RETRAIN (R295).
-/

namespace Sys2Proof.Machine

open Sys2Proof

/-! ## Leaving UP (R290) -/

/-- A port's loss is an uncorrectable fault (R290): by its fail_policy and the bars it carries.  In a pair
it is one only where the twin's port is down too, which is a free value (R346). -/
def State.portFaults (s : State) (p : Nat) : Bool :=
  (portRec s.inForce p).failFault && s.portInUse p && (!s.inPair || Config.twinPortDown s.fresh)

/-- A port leaves UP, with the consequence of its fail_policy (R290). DESIGN CHOICE, log entry 82. -/
def State.losePort (p : Nat) (s : State) : State :=
  if (s.port p).state != .up then s
  else
    let faults := s.portFaults p
    let s := { s with fresh := s.fresh + 1 }.leaveUp p
    if faults then s.enterFault Rc.portFailed .fwAuto else s

/-- BLOCK_LOCK_LOSS (R290). -/
def blockLockLoss (p : Nat) (s : State) : State := s.losePort p

/-- RIM_MISSING: no RIM block at the expected position in 2 consecutive rims (R290).
DEDUCED, log entry 83. -/
def rimMissing (p : Nat) (s : State) : State := s.losePort p

/-- A port of a pair that has left UP and not come back is judged again: the twin's port may have gone down
meanwhile (R346). DESIGN CHOICE, log entry 82. -/
def State.judgeDown (p : Nat) (s : State) : State :=
  let x := s.port p
  if !s.inPair || x.state == .up || x.downReason != Rc.portFailed then s
  else
    let faults := s.portFaults p
    let s := { s with fresh := s.fresh + 1 }
    if faults then s.enterFault Rc.portFailed .fwAuto else s

/-- TRAIN_TIMEOUT: a training state has lasted its timeout (R289). -/
def trainTimeout (p : Nat) (s : State) : State :=
  match trainTimeoutUs (s.port p).state with
  | none => s
  | some us =>
    if s.tick < (s.port p).since + us * 400 then s
    else ((s.setPort p { dropTraffic (s.port p) with retry := true, timedOut := true }).enterPort p .down Rc.trainTimeout).judgeDown p

/-- TRAIN_RESTART: a port in DOWN trains, 10 ms after a timeout or a loss (R289). -/
def trainRestart (p : Nat) (s : State) : State :=
  let x := s.port p
  let due := !x.retry || decide (x.since + 4000000 ≤ s.tick)
  if x.state == .down && !s.underTest (11 + p / 16) && due then (s.startTraining p).judgeDown p else s

/-- RIM_RECEIVED: the fourth spaced RIM block ends RIM_LOCK; FAULT takes the port out of UP, and a module
without block lock has discarded what it buffered (R270, R289, R290). -/
def rimReceived (p : Nat) (fault blockLock spaced : Bool) (s : State) : State :=
  let x := s.port p
  match x.state with
  | .rimLock =>
    let n := if spaced then x.rims + 1 else 1
    let s := s.setPort p { x with rims := n }
    if 4 ≤ n then s.enterPort p .hello 0 else s
  | .up =>
    let s := if blockLock then s else s.setPort p { x with buffered := [] }
    if fault then s.losePort p else s
  | _ => s

/-! ## STS and HLT (R293, R294) -/

/-- The OR of an STS frame's head_flags. -/
def headFlags (x : Sts) : Nat :=
  b2n (x.heads.any (·.overTemp)) + 2 * b2n (x.heads.any (·.driveFault))

/-- STS_RECEIVED: the latest module status; in HELLO it decides the training (R289, R292, R294, R296). -/
def stsReceived (p : Nat) (sts : Sts) (s : State) : State :=
  let x := s.port p
  let hears := match x.state with
    | .hello => true
    | .tsyAlign => true
    | .config => true
    | .up => true
    | _ => false
  if !hears then s
  else
    let s := s.setPort p { x with sts := some sts, stsAt := s.aon, source := sts.source }
    let s := if sts.source != x.source then
        s.postLimited ⟨Ev.caneSource, p, 0⟩ (ev Ev.caneSource Cls.canePort p 0 sts.source)
      else s
    let s := if sts.fault || headFlags sts != 0 then
        s.postLimited ⟨Ev.caneModule, p, 0⟩
          (ev Ev.caneModule Cls.canePort p Rc.moduleError (moduleFlags sts + 256 * headFlags sts))
      else s
    if x.state != .hello then s
    else if sts.protocol = 1 ∧ 8 ≤ sts.bufferLines then
      (s.setPort p { s.port p with passedHello := true, lastTsy := 0 }).enterPort p .tsyAlign 0
    else
      s.enterPort p .incompatible Rc.moduleIncompatible

/-- HLT_RECEIVED: the frame is acknowledged and its records are queued by the unit that assesses them
(R283, R293, R301, R317). -/
def hltReceived (p seq : Nat) (recs : List HltRec) (s : State) : State :=
  if (s.port p).state != .up then s
  else
    let s := s.sendFrame p (.ack [seq])
    if s.healthLeads then s.queueHlt p recs else s

/-! ## ACK and NAK (R282–R284, R288, R289) -/

/-- A port that has its whole configuration enters UP, and its requests are sent again (R289, R318). -/
def State.portUp (p : Nat) (s : State) : State :=
  let s := (s.enterPort p .up 0).reissue p
  (List.range 16).foldl (fun s b => s.sweepPump b) s

/-- CANE_TSY (R288). -/
def caneTsyBody (p : Nat) (theta : Int) : EventBody :=
  ev Ev.caneTsy Cls.canePort p Rc.tsyOffset (theta % 2 ^ 32).toNat

/-- What commits write into a bank that no fire names yet: the delivery of one that is not accepted, and the changes of
accepted ones whose old bank has not caught up (R282). -/
def State.pendingBanks (s : State) : List (Nat × Nat × List Byte) :=
  let begun := match s.held with
    | h :: _ => if h.begun then s.preload s.accepted (s.accepted.applyAll h.changes) else []
    | [] => []
  let prepared := match s.pair.preparing, s.pair.prepared with
    | some (cs, true, _), _ => s.preload s.accepted (s.accepted.applyAll cs)
    | _, some cs => s.preload s.accepted (s.accepted.applyAll cs)
    | _, _ => []
  (s.catchUps.flatMap (fun c => c.frames.map (fun f => (f.1, 1 - f.2.1, f.2.2)))) ++ begun ++ prepared

/-- A port in CONFIG receives the configuration in force in both banks, and what is under delivery in its bank (R282,
R289). -/
def State.configurePort (p : Nat) (s : State) : State :=
  let s := s.sendConfig p
  (s.sendCfg false (s.pendingBanks.filter (fun f => f.1 == p))).1

/-- The exchange of a TSY frame (R288, R289). -/
def State.tsyExchange (p t1 tRx tTx t4 : Nat) (s : State) : State :=
  let out : Int := (tRx : Int) - t1
  let back : Int := (t4 : Int) - tTx
  let theta := (out - back).tdiv 2
  let delta := (out + back).tdiv 2
  let x := s.port p
  let good := if theta.natAbs ≤ 8 then x.alignGood + 1 else 0
  let s := s.setPort p { x with theta := theta, delta := delta, adj := -theta, alignGood := good }
  let s := if 13 < theta.natAbs then s.postLimited ⟨Ev.caneTsy, p, 0⟩ (caneTsyBody p theta) else s
  if x.state == .tsyAlign && decide (2 ≤ good) then
    let s := ((s.setPort p { s.port p with aligned := true }).enterPort p .config 0).configurePort p
    if (s.port p).configWaits.isEmpty then s.portUp p else s
  else s

/-- The frames of commits and catch-ups that wait for an acknowledgement (R282). -/
def State.frameAcked (p seq : Nat) (s : State) : State :=
  let cut (l : List (Nat × Nat)) : List (Nat × Nat) := l.filter (fun a => !(a.1 == p && a.2 == seq))
  let done := s.catchUps.map (fun c => { c with awaits := cut c.awaits })
  { s with
    held := s.held.map (fun h => { h with awaits := cut h.awaits })
    pair := { s.pair with preparing := s.pair.preparing.map (fun x => (x.1, x.2.1, cut x.2.2)) }
    catchUps := done.filter (fun c => !(c.sent && c.awaits.isEmpty)) }

/-- ACK_RECEIVED (R283). -/
def ackReceived (p seq tRx tTx t4 : Nat) (s : State) : State :=
  let x := s.port p
  match x.unacked.find? (fun f => f.seq == seq) with
  | none => s
  | some f =>
    let s := s.setPort p { x with unacked := x.unacked.filter (fun g => g.seq != seq) }
    match f.body with
    | .tsy _ t1 _ => s.tsyExchange p t1 tRx tTx t4
    | .cfg _ _ =>
      let s := (s.frameAcked p seq).servePrepare
      let x := s.port p
      let waits := x.configWaits.filter (· != seq)
      let s := s.setPort p { x with configWaits := waits }
      if x.state == .config && waits.isEmpty then s.portUp p else s
    | _ => s

/-- A frame sent now can still complete before its deadline (R284). -/
def State.inTime (s : State) (f : TxFrame) : Bool := s.inTimeAt s.tick f.body

/-- A frame is retransmitted, or has exhausted max_retx (R284, R290). -/
def State.retransmit (p : Nat) (f : TxFrame) (s : State) : State :=
  let x := s.port p
  match f.body with
  | .tsy _ _ _ => s.setPort p { x with unacked := x.unacked.filter (fun g => g.seq != f.seq) }
  | .cfg _ _ =>
    if f.retx < (portRec s.inForce p).maxRetx then s.resendFrame p f else s.losePort p
  | _ =>
    if f.retx < (portRec s.inForce p).maxRetx && s.inTime f then s.resendFrame p f else s

/-- NAK_RECEIVED (R284). -/
def nakReceived (p seq : Nat) (_code : Nat) (s : State) : State :=
  let x := s.port p
  let s := s.setPort p { x with naks := x.naks + 1 }
  match x.unacked.find? (fun f => f.seq == seq) with
  | some f => s.retransmit p f
  | none => s

/-- ACK_TIMEOUT: 4 µs (1,600 ticks) after the frame's TERM block (R284). DESIGN CHOICE, log entry 4. -/
def ackTimeout (p seq : Nat) (s : State) : State :=
  let x := s.port p
  match x.unacked.find? (fun f => f.seq == seq) with
  | none => s
  | some f => if s.tick < f.sentAt + frameTicks f.body + 1600 || x.waiting.any (fun g => g.rank == 3 && g.seq == seq) then s else s.retransmit p f

/-! ## CANE.RETRAIN (R295) -/

/-- CANE.RETRAIN: the port goes through DOWN into training at once. -/
def caneRetrainBody (rq : Request) (s : State) : Verdict :=
  let n := fld rq.payload 0 1
  checked [(decide (n < 32), 0)] <|
    let s := s.logOpen { origin := .mbx rq.mbx.val, cls := Cls.canePort, obj := n }
    if (s.port n).state == .off then .done s []
    else
      let s := if (s.port n).state == .up && s.portInUse n then s.losePort n
        else
          let x := s.port n
          let x := { dropTraffic x with downReason := if x.state == .up then 0 else x.downReason }
          (s.setPort n x).forgetAwaits n |>.enterPort n .down 0
      .done (if s.linkRuns then s.startTraining n else s) []

end Sys2Proof.Machine
end

