-- ==== Sys2Proof/Machine/Wake.lean ====
section
/-!
DEFINITION. Wake from DOZE, SLEEP and OFF-AON (R151, R396, R401, R402): its start by a source, and the
return to power state READY.
-/

namespace Sys2Proof.Machine

open Sys2Proof

/-- DOZE, SLEEP or OFF-AON has been entered, or its entry has begun (R399, R400). -/
def State.lowPower (s : State) : Bool := s.sys == .ready && (s.gatedPower || s.entering.isSome)

/-- A wake source fires (R401).  Of several in one AON tick, the lowest code is reported.  A source
that fires during entry takes effect when the entry completes (R400). DEDUCED, log entry 103. -/
def State.startWake (src : Nat) (s : State) : State :=
  if !s.lowPower then s
  else match s.power.waking with
    | some c =>
      if s.power.wakeTick = s.aon ∧ src < c then
        { s with power := { s.power with waking := some src, wakeSource := src } }
      else s
    | none =>
      let s := { s with power := { s.power with
        waking := some src, wakeTick := s.aon, wakeSource := src, wakes := s.power.wakes + 1 } }
      if !s.gatedPower || s.power.seq != .idle then s else s.beginWake

/-- POWER_STATE (R411). -/
def State.postPower (old : PwrState) (s : State) : State :=
  s.post (ev Ev.powerState Cls.system 0 0 (pwrCode s.pwr + 16 * pwrCode old + 256 * s.power.wakeSource))

/-- T0–T15 hold fewer than 8 valid sensors (R414). DEDUCED, log entry 116. -/
def State.sensorsLost (s : State) : Bool :=
  decide (((List.range 16).filter (fun i => s.therm.valid.getLsbD i)).length < 8)

/-- PD_TIME and PD_LINK run again: the tick counter is loaded and the ports train (R396, R402). -/
def State.runLink (s : State) : State :=
  if s.power.linkOn then s
  else
    let s := s.loadTick
    { s with power := { s.power with linkOn := true } }.portsOn

/-- The power state returns to READY (R402), where the rings refill from their start entries (R223, R237), on behalf of a wake source or of POWER.SET_STATE (R401). -/
def State.finishWakeAs (o : Origin) (s : State) : State :=
  let old := s.pwr
  let s := s.runLink
  let s := { s with
    pwr := .ready
    power := { s.power with
      waking := none, phase := none, linkOn := false, stateAt := s.aon, lastActivity := s.aon } }
  let s := if old == .sleep then (s.driveSsi true).driveActGpio else s
  let s := ((s.axesRestart.startSequences.ampUpdate 2).hvUpdate).logOpen { origin := o }
  let s := s.postPower old
  if s.sensorsLost then s.enterFault Rc.sensorsLost .fwAuto else s

/-- The power state returns to READY after a wake source. DEDUCED, log entries 104, 116. -/
def State.finishWake (s : State) : State := s.finishWakeAs .keeper

/-- A port is UP or INCOMPATIBLE, or has timed out once since it began to train (R402). -/
def portSettled (x : Port) : Bool := x.state == .up || x.state == .incompatible || x.timedOut

/-- The wake can complete (R402): from DOZE at once; from SLEEP and OFF-AON with every switched rail up, the
phases of an OFF-AON wake passed, and every port trained. -/
def State.wakeReady (s : State) : Bool :=
  s.pwr == .doze || (s.power.seq == .idle && s.power.phase.isNone && s.power.enP &&& 0x7F == 0x7F && s.power.linkOn
    && (List.range 32).all (fun p => portSettled (s.port p)))

/-- WAKE_COMPLETE (R402). DESIGN CHOICE, log entry 4. -/
def wakeComplete (s : State) : State :=
  if s.sys == .ready && s.gatedPower && s.entering.isNone && s.power.waking.isSome && s.wakeReady then s.finishWake else s

/-- A command or an access that needs a gated domain wakes the device from DOZE (R68, R73, R401). -/
def State.hostAccess (s : State) : State :=
  if s.sys == .ready && s.pwr == .doze && s.entering.isNone then (s.startWake 6).finishWake else s

end Sys2Proof.Machine
end

