-- ==== Sys2Proof/Machine/Thermal.lean ====
section
/-!
DEFINITION. Temperature sensing, levels, throttling and the Keeper's trips (R26, R413–R427).
Temperatures are in units of 0.25 °C.
-/

namespace Sys2Proof.Machine

open Sys2Proof

/-- A domain's thresholds in force: 0 DIE, 1 HBM (R426). -/
def thermRec (cfg : Cfg) (d : Nat) : ThermRec := cfg.therms.get (ThermRec.reset d) d

/-- The threshold of a level: 1 WARNING, 2 STAGE 1, 3 STAGE 2 (R416). -/
def levelThreshold (r : ThermRec) : Nat → Int
  | 0 => r.warning
  | 1 => r.warning
  | 2 => r.throttle
  | _ => r.throttle + 8

/-! ## The ceiling (R419, R26, R27, R334) -/

/-- The ceiling of R419 for an excess q over the knee, in 0.25 °C: 5 % per °C, with its floor. -/
def ceilingOf (q : Nat) : Nat := max (32768 - q * 32768 / 80) 6554

/-- A domain's ceiling: 0x199A while the stack sensor is lost, below STAGE 2 0x8000 (R419, R421). -/
def State.domCeiling (s : State) (d : Nat) : Nat :=
  let x := s.dom d
  if d == 1 && s.therm.hbmLost then 6554
  else if x.level = 3 then ceilingOf (x.tracked - levelThreshold (thermRec s.inForce d) 3).toNat
  else 0x8000

/-- This unit's own ceiling: the lower of its two domains' (R419). -/
def State.ownCeiling (s : State) : Nat := min (s.dom 0).ceiling (s.dom 1).ceiling

/-- THERM_CEILING (R427). -/
def State.ceilingBody (s : State) : EventBody :=
  ev Ev.thermCeiling Cls.system 0 0 (s.therm.ceiling + 65536 * s.stage)

/-- The period of SPDLIM that runs now, and the ceiling that it began with (R420).
DEDUCED, log entry 119. -/
def State.spdlimNow (s : State) : Nat × Nat :=
  if s.therm.spdPeriod.1 = s.aon / 1024 then s.therm.spdPeriod else (s.aon / 1024, s.therm.ceiling)

/-- The ceiling in use changes: it is logged and posted (R26, R419). -/
def State.setCeiling (c : Nat) (s : State) : State :=
  if s.therm.ceiling = c then s
  else
    let s := s.logOpen { origin := .fwAuto }
    let s := { s with therm := { s.therm with ceiling := c, spdPeriod := s.spdlimNow } }
    s.postLimited ⟨Ev.thermCeiling, 0, 0⟩ s.ceilingBody

/-- Unit P combines the two ceilings and sends the result, for use from 400 ticks on (R334). -/
def State.combineCeilings (s : State) : State :=
  let x := (min s.ownCeiling s.pair.ceilTwin, s.tick + 400)
  { s.emit (.control (.combined x.1 x.2)) with pair := { s.pair with ceilNext := s.pair.ceilNext ++ [x] } }

/-- A change that the latest sample brings about has not been taken yet: a domain's level, or the loss of the stack
sensor (R416, R421). DEDUCED, log entry 152. -/
def State.levelsDue (s : State) : Bool :=
  let due (x : Domain) : Bool := (decide (4 ≤ x.up) && decide (x.level < 3)) || (decide (4 ≤ x.down) && decide (0 < x.level))
  due (s.dom 0) || due (s.dom 1) || (decide (4 ≤ s.therm.hbmMissing) && !s.therm.hbmLost)

/-- The domains' ceilings are formed anew once a sample's changes have all been taken, so that c changes once per
sample and is the lower of the two (R26, R419); a changed one goes to the twin, or into use (R334).
DEDUCED, log entry 152. -/
def State.refreshCeiling (s : State) : State :=
  if s.levelsDue then s
  else
    let old := s.ownCeiling
    let s := s.setDom 0 { s.dom 0 with ceiling := s.domCeiling 0 }
    let s := s.setDom 1 { s.dom 1 with ceiling := s.domCeiling 1 }
    if !s.inPair || s.pair.fallback then s.setCeiling s.ownCeiling
    else if s.ownCeiling = old then s
    else
      let s := s.emit (.control (.ceiling s.ownCeiling))
      if s.leadsPair then s.combineCeilings else s

/-! ## A sample (R413–R416, R419, R421) -/

/-- Outside −40–150 °C, or not oscillating (R414). -/
def outOfRange : Reading → Bool
  | none => true
  | some v => decide (v < -160) || decide (600 < v)

/-- A list in ascending order with one more element. -/
def insertInt (v : Int) : List Int → List Int
  | [] => [v]
  | w :: t => if v ≤ w then v :: w :: t else w :: insertInt v t

/-- Twice the median. DEDUCED, log entry 114. -/
def median2 (l : List Int) : Int :=
  let l := l.foldr insertInt []
  l.getD (l.length / 2) 0 + l.getD ((l.length - 1) / 2) 0

/-- Die sensors that are valid. -/
def validDie (x : Thermal) : List Nat := (List.range 16).filter (fun i => x.valid.getLsbD i)

/-- The readings of the valid sensors. -/
def validReadings (x : Thermal) : List Int := (validDie x).map (fun i => x.die.get 0 i)

/-- The sensor that calibration holds: one at a time, 2 ms each (R429, R432). DEDUCED, log entry 117. -/
def State.heldSensor (s : State) : Option Nat :=
  (s.cal.running.find? (fun (r : CalRun) => r.target == 1)).map (fun r => min 15 ((s.aon - r.start) / 2048))

/-- A calibrated sensor's reading (R430). -/
def sensorReading (c : Coeff) (raw : Int) : Int := raw * c.gain / 16384 + c.offset

/-- The readings of T0–T15 at a sample: the held sensor keeps its last (R432). -/
def State.dieReadings (s : State) (raw : List Reading) : List Reading :=
  (List.range 16).map (fun i =>
    if s.heldSensor == some i then some (s.therm.die.get 0 i)
    else (raw.getD i none).map (sensorReading (s.coeff (i + 1))))

/-- A die sensor's sample: its reading is kept, and it counts toward a change of validity (R414). -/
def sampleDie (median : Option Int) (x : Thermal) (i : Nat) (r : Reading) : Thermal :=
  let far := match median, r with
    | some m, some v => decide (240 < (2 * v - m).natAbs)
    | _, _ => false
  let bad := outOfRange r || far
  let toward := if x.valid.getLsbD i then bad else !bad
  { x with
    die := match r with
      | some v => x.die.set i v
      | none => x.die
    validity := x.validity.set i (if toward then x.validity.get 0 i + 1 else 0) }

/-- Twice the median of this sample's readings of the valid sensors (R414). DEDUCED, log entry 114. -/
def sampleMedian (x : Thermal) (rs : List Reading) : Option Int :=
  match (validDie x).filterMap (fun i => rs.getD i none) with
  | [] => none
  | l => some (median2 l)

/-- The sixteen die sensors' samples. DEDUCED, log entry 114. -/
def sampleDies (x : Thermal) (rs : List Reading) : Thermal :=
  let median := sampleMedian x rs
  (rs.zip (List.range 16)).foldl (fun (x : Thermal) (p : Reading × Nat) => sampleDie median x p.2 p.1) x

/-- die_max and the gradient over the valid sensors (R414, R415). -/
def formMax (x : Thermal) : Thermal :=
  match validReadings x with
  | [] => x
  | v :: t =>
    let hi := t.foldl max v
    let lo := t.foldl min v
    { x with dieMax := hi, gradient := (hi - lo).toNat, recent := (hi :: x.recent).take 16 }

/-- Consecutive samples toward a change of the gradient's condition (R415). -/
def countGradient (limit : Nat) (x : Thermal) : Thermal :=
  let toward := if x.gradHigh then decide (x.gradient ≤ limit) else decide (limit < x.gradient)
  { x with gradCount := if toward then x.gradCount + 1 else 0 }

/-- T_c of R419 at a sample in STAGE 2. -/
def track (x : Domain) : Int :=
  match x.last with
  | [] => x.tracked
  | v :: t =>
    let lo := t.foldl min v
    let hi := t.foldl max v
    if x.tracked < lo then lo else if hi ≤ x.tracked - 4 then hi else x.tracked

/-- A domain's sample: its last readings, the counts of R416, and the tracked temperature of R419. -/
def sampleDomain (r : ThermRec) (v : Int) (x : Domain) : Domain :=
  let y := { x with
    last := (v :: x.last).take 4
    up := if x.level < 3 ∧ levelThreshold r (x.level + 1) ≤ v then x.up + 1 else 0
    down := if 0 < x.level ∧ v < levelThreshold r x.level - 16 then x.down + 1 else 0 }
  if x.level = 3 then { y with tracked := track y } else y

/-- The stack is powered, so its sensor can be read (R413): from U6 on, outside OFF-AON and SAFE. -/
def State.hbmPowered (s : State) : Bool :=
  s.pwr != .offAon && (match s.sys with
    | .off => false
    | .safe => false
    | .upsett => match s.power.phase with
      | some p => decide (6 ≤ p)
      | none => true
    | _ => true)

/-- THERM_SENSOR of a sensor: 0–15 T, 16 TK0, 17 TK1, 18 HBM (R427). -/
def sensorBody (k : Nat) (valid : Bool) : EventBody :=
  ev Ev.thermSensor Cls.system 0 (if valid then 0 else Rc.sensorInvalid) (k + 256 * b2n valid)

/-- A sensor's validity has changed: THERM_SENSOR, and a count of the faults. -/
def State.postSensor (k : Nat) (valid : Bool) (s : State) : State :=
  let s := if valid then s
    else { s with therm := { s.therm with sensorFaults := min 65535 (s.therm.sensorFaults + 1) } }
  s.postLimited ⟨Ev.thermSensor, 0, 0⟩ (sensorBody k valid)

/-- A dedicated sensor's reading, none while it is invalid, and its samples toward a change: one that does
not oscillate is invalid at once; the range test of R414 takes 4 consecutive samples either way (R421).
DEDUCED, log entry 115. -/
def tkAfter (old : Reading) (run : Nat) (r : Reading) : Reading × Nat :=
  match old, r with
  | _, none => (none, 0)
  | some _, some v => if outOfRange r then (if 3 ≤ run then (none, 0) else (some v, run + 1)) else (some v, 0)
  | none, some v => if outOfRange r then (none, 0) else if 3 ≤ run then (some v, 0) else (none, run + 1)

/-- A dedicated sensor's sample: its reading while it is valid, and THERM_SENSOR when that changes (R421).
DEDUCED, log entry 115. -/
def State.sampleTk (k : Nat) (r : Reading) (s : State) : State :=
  let old := if k = 16 then s.therm.tk0 else s.therm.tk1
  let (now, run) := tkAfter old (if k = 16 then s.therm.tk0Run else s.therm.tk1Run) r
  let s := { s with therm :=
    if k = 16 then { s.therm with tk0 := now, tk0Run := run } else { s.therm with tk1 := now, tk1Run := run } }
  if now.isSome == old.isSome then s else s.postSensor k now.isSome

/-- The threshold that the Keeper compares TK0 and TK1 with: 102 °C until U1 has latched the OTP shadow,
and for the whole boot without a VALID TRIM region (R413, R451). DEDUCED, log entry 114. -/
def State.tkThreshold (s : State) : Int :=
  let early := match s.sys, s.power.phase with
    | .upsett, some p => decide (p ≤ 1)
    | _, _ => false
  if early || s.otp.regions.get .blank 1 != .valid then 408 else (thermRec s.inForce 0).shutdown

/-- A dedicated sensor votes for a die trip (R421). -/
def tkVotes (threshold : Int) : Reading → Bool
  | none => true
  | some v => decide (threshold ≤ v)

/-- The Keeper votes (R421). -/
def State.vote (s : State) : State :=
  let t := s.tkThreshold
  let votes := b2n (tkVotes t s.therm.tk0) + b2n (tkVotes t s.therm.tk1)
    + b2n (decide ((thermRec s.inForce 0).shutdown ≤ s.therm.dieMax))
  let hot := match s.therm.hbm with
    | some v => s.hbmPowered && decide ((thermRec s.inForce 1).shutdown ≤ v)
    | none => false
  { s with therm := { s.therm with
    dieVotes := if 2 ≤ votes then s.therm.dieVotes + 1 else 0
    hbmVotes := if hot then s.therm.hbmVotes + 1 else 0 } }

/-- The stack sensor's sample (R413, R421). DEDUCED, log entry 114. -/
def State.sampleHbm (r : Reading) (s : State) : State :=
  if !s.hbmPowered then { s with therm := { s.therm with hbm := none, hbmMissing := 0 } }
  else match r with
    | none => { s with therm := { s.therm with hbm := none, hbmMissing := s.therm.hbmMissing + 1 } }
    | some v =>
      let lost := s.therm.hbmLost
      let s := { s with therm := { s.therm with hbm := some v, hbmMissing := 0, hbmLost := false } }
      let s := s.setDom 1 (sampleDomain (thermRec s.inForce 1) v (s.dom 1))
      if lost then s.postSensor 18 true else s

/-- What else follows die_max: drift of calibration (R431), a TEMP run that is to be abandoned (R433),
the margin recheck (R452) and an OTP operation outside 0–85 °C (R460). -/
def State.followDieMax (s : State) : State :=
  let v := s.therm.dieMax
  let drift (k : Nat) : Nat :=
    if 40 < (v - s.cal.lastTemp.get 0 k).natAbs then s.cal.driftCount.get 0 k + 1 else 0
  let counts := ([0, 1] ++ (List.range 8).map (· + 8)).foldl
    (fun (t : Table Nat) (k : Nat) => t.set k (drift k)) s.cal.driftCount
  let run := s.cal.running.map (fun (r : CalRun) =>
    { r with moved := r.moved || (r.target == 1 && decide (4 < (v - r.startTemp).natAbs)) })
  let far := decide (80 < (v - s.otp.recheckTemp).natAbs)
  { s with
    cal := { s.cal with driftCount := counts, running := run }
    otp := { s.otp with
      recheckCount := if far then s.otp.recheckCount + 1 else 0
      tempLeft := s.otp.tempLeft || (!s.otp.ops.isEmpty && (decide (v < 0) || decide (340 < v))) } }

/-- THERMAL_SAMPLE (R413): every 1,024 AON ticks; in SAFE of TK0 and TK1 only (R423). -/
def thermalSample (r : TempReadings) (s : State) : State :=
  if s.sys == .off || decide (s.aon < s.therm.sampleAt + 1024) then s
  else
    let s := { s with therm := { s.therm with sampleAt := s.aon } }
    let s := (s.sampleTk 16 r.tk0).sampleTk 17 r.tk1
    if s.sys == .safe then
      let cool (t : Reading) : Bool := match t with
        | some v => decide (v < 360)
        | none => false
      let since := if cool s.therm.tk0 && cool s.therm.tk1 then s.therm.coolSince <|> some s.aon else none
      { s with therm := { s.therm with coolSince := since } }
    else if s.underTest 21 then s
    else
      let x := countGradient (thermRec s.inForce 0).gradient (formMax (sampleDies s.therm (s.dieReadings r.die)))
      let s := { s with therm := x }
      let s := s.setDom 0 (sampleDomain (thermRec s.inForce 0) s.therm.dieMax (s.dom 0))
      (s.sampleHbm r.hbm).followDieMax.vote.refreshCeiling

/-! ## What four consecutive samples bring about -/

/-- SENSOR_VALIDITY_CHANGE (R414).  Fewer than 8 valid sensors are an uncorrectable fault, which first
wakes the device. -/
def sensorValidityChange (i : Nat) (s : State) : State :=
  if s.therm.validity.get 0 i < 4 then s
  else
    let valid := !s.therm.valid.getLsbD i
    let mask := if valid then s.therm.valid ||| (1#16 <<< i) else s.therm.valid &&& ~~~(1#16 <<< i)
    let s := { s with therm := { s.therm with valid := mask, validity := s.therm.validity.set i 0 } }
    let s := s.postSensor i valid
    if valid || !s.sensorsLost then s
    else if s.lowPower then
      if s.pwr == .doze then (s.startWake 5).finishWake else s.startWake 5
    else s.enterFault Rc.sensorsLost .fwAuto

/-- THERM_GRADIENT's content (R427). -/
def State.gradientBody (s : State) : EventBody :=
  ev Ev.thermGradient Cls.system 0 (if s.therm.gradHigh then Rc.gradient else 0) s.therm.gradient

/-- THERM_GRADIENT (R415). -/
def thermGradient (s : State) : State :=
  if s.therm.gradCount < 4 then s
  else
    let high := !s.therm.gradHigh
    let s := { s with therm := { s.therm with gradHigh := high, gradCount := 0 } }
    s.postLimited ⟨Ev.thermGradient, 0, 0⟩ s.gradientBody

/-- The request timeouts go on where they were suspended (R301). -/
def State.resumeTimeouts (s : State) : State :=
  match s.health.suspended with
  | none => s
  | some t =>
    { s with health := { s.health with
      suspended := none, requests := s.health.requests.map (fun r => (r.1, r.2 + (s.aon - t))) } }

/-- Background load is shed from STAGE 1 on, and a test on demand stops at STAGE 2 (R418, R466). -/
def State.shed (old : Nat) (s : State) : State :=
  let n := s.stage
  let s := if old = 0 ∧ 0 < n then s.stopAllPeriodic .thermal else s
  let s := if old < 2 ∧ n = 2 then s.stopDemand .thermal else s
  if old = 0 ∧ 0 < n then { s with health := { s.health with suspended := some s.aon } }
  else if 0 < old ∧ n = 0 then (List.range 16).foldl (fun (s : State) (b : Nat) => s.sweepPump b) s.resumeTimeouts
  else s

/-- THERM_LEVEL's content (R427). -/
def State.levelBody (s : State) (d previous : Nat) : EventBody :=
  let x := s.dom d
  ev Ev.thermLevel Cls.system 0 0
    (d + 4 * x.level + 16 * previous + 65536 * (BitVec.ofInt 16 (x.last.headD 0)).toNat)

/-- A domain takes a level (R416): entry to a higher one is a wake source (R424), and entry to STAGE 2 starts the tracked temperature (R419). -/
def State.setLevel (d n : Nat) (s : State) : State :=
  let x := s.dom d
  let lo := match x.last with
    | [] => x.tracked
    | v :: t => t.foldl min v
  let old := s.stage
  let s := s.setDom d { x with level := n, up := 0, down := 0, tracked := if n = 3 then lo else x.tracked }
  let s := s.postLimited ⟨Ev.thermLevel, 0, 0⟩ (s.levelBody d x.level)
  let s := (s.shed old).refreshCeiling
  if x.level < n ∧ s.inForce.power.wakeMask.getLsbD 4 then s.startWake 5 else s

/-- THERM_LEVEL (R416): one level at most per sample. -/
def thermLevel (d : Nat) (s : State) : State :=
  let x := s.dom d
  if 4 ≤ x.up ∧ x.level < 3 then s.setLevel d (x.level + 1)
  else if 4 ≤ x.down ∧ 0 < x.level then s.setLevel d (x.level - 1)
  else s

/-- HBM_SENSOR_LOST (R421). -/
def hbmSensorLost (s : State) : State :=
  if s.therm.hbmMissing < 4 || s.therm.hbmLost then s
  else (({ s with therm := { s.therm with hbmLost := true } }).postSensor 18 false).refreshCeiling

/-! ## Shutdown (R421–R423) -/

/-- KEEPER_TRIP (R422): on the fourth consecutive counting sample; a die trip is reported first. -/
def keeperTrip (s : State) : State :=
  if s.sys == .off || s.sys == .safe || (decide (s.therm.dieVotes < 4) && decide (s.therm.hbmVotes < 4)) then s
  else
    let code := if 4 ≤ s.therm.dieVotes then Rc.dieTrip else Rc.hbmTrip
    let s := s.enterSafe code
    { s with therm := { s.therm with
      trips := s.therm.trips + 1, tripCode := code, tripBoot := s.host.bootCount, tripReport := true
      dieVotes := 0, hbmVotes := 0, coolSince := none, limited := false } }

/-- The automatic restarts of the last 60 minutes (R423). -/
def State.recentRestarts (s : State) : List Nat :=
  s.therm.restarts.filter (fun t => decide (s.aon < t + 3686400000))

/-- SAFE_RESTART (R423): after 10,240,000 AON ticks of cooling, with fewer than 3 automatic restarts;
otherwise the Keeper records RESTART_LIMIT once. DEDUCED, log entry 118; DESIGN CHOICE, log entry 168. -/
def safeRestart (s : State) : State :=
  match s.sys, s.therm.coolSince with
  | .safe, some t =>
    if s.aon < t + 10240000 ∨ s.therm.limited then s
    else
      let l := s.recentRestarts
      if l.length < 3 then
        let s := s.enterUpsett 1 3 .keeper
        { s with therm := { s.therm with restarts := s.aon :: l, coolSince := none } }
      else
        ({ s with therm := { s.therm with limited := true } }).logOpen
          { origin := .keeper, reason := Rc.restartLimit }
  | _, _ => s

/-- THERM_TRIP, once the event ring is enabled (R423, R427). -/
def State.reportTrip (s : State) : State :=
  if s.therm.tripReport && s.ringOpen then
    ({ s with therm := { s.therm with tripReport := false } }).post
      (ev Ev.thermTrip Cls.system 0 s.therm.tripCode (s.therm.tripBoot % 65536 + 65536 * s.recentRestarts.length))
  else s

/-! ## The Keeper's output pins (R405, R420, R422) -/

/-- FAULTN is driven low (R405). DEDUCED, log entry 119. -/
def State.faultLow (s : State) : Bool := s.sys == .fault || s.sys == .safe

/-- THERMTRIPN is driven low: from a trip until U1 of the restart (R422). DEDUCED, log entry 119. -/
def State.thermtripLow (s : State) : Bool := s.sys == .safe

/-- SPDLIM (R420): its level now.  A period is 1,024 AON ticks, the first from AON 0 on, and the pin is high at its
start for c / 32 ticks, with c as the period began; none while it is unpowered. DEDUCED, log entry 119. -/
def State.spdlim (s : State) : Option Bool :=
  match s.sys with
  | .off => none
  | .upsett => some false
  | .fault => some false
  | .safe => some false
  | _ => some (decide (s.aon % 1024 < s.spdlimNow.2 / 32))

/-! ## The POWER commands for temperature (R425, R426) -/

/-- A reading in a response: 0x8000 where there is none. -/
def readingBytes : Reading → List Byte
  | none => le 2 0x8000
  | some v => leInt 2 v

/-- POWER.THERM_READ. -/
def powerThermReadBody (_rq : Request) (s : State) : Verdict :=
  let x := s.therm
  .done s
    ((List.range 16).flatMap (fun i => readingBytes (if x.valid.getLsbD i then some (x.die.get 0 i) else none))
      ++ readingBytes x.tk0 ++ readingBytes x.tk1 ++ readingBytes x.hbm ++ leInt 2 x.dieMax ++ le 2 x.gradient
      ++ le 2 x.valid.toNat ++ le 1 (s.dom 0).level ++ le 1 (s.dom 1).level ++ le 2 x.ceiling
      ++ le 1 (b2n s.heldSensor.isSome + 2 * b2n x.gradHigh + 4 * b2n (decide (0 < s.stage)))
      ++ le 1 s.recentRestarts.length ++ le 2 x.sensorFaults ++ le 4 x.trips.toNat)

/-- The ranges of POWER.THERM_SET for a domain: warning, throttle, shutdown and gradient_limit (R425). -/
def thermInRange (d : Nat) (r : ThermRec) : Bool :=
  if d = 0 then
    decide (160 ≤ r.warning ∧ r.warning ≤ 448 ∧ 160 ≤ r.throttle ∧ r.throttle ≤ 438)
      && decide (320 ≤ r.shutdown ∧ r.shutdown ≤ 448 ∧ 20 ≤ r.gradient ∧ r.gradient ≤ 160)
  else
    decide (160 ≤ r.warning ∧ r.warning ≤ 380 ∧ 160 ≤ r.throttle ∧ r.throttle ≤ 370)
      && decide (280 ≤ r.shutdown ∧ r.shutdown ≤ 380 ∧ r.gradient = 0)

/-- POWER.THERM_SET. -/
def powerThermSetBody (rq : Request) (_s : State) : Verdict :=
  let d := fld rq.payload 0 1
  let r := thermOf rq.payload
  checked [(decide (d < 2), 0)]
    (if !thermInRange d r then refuseAs Rc.thermLimit
     else if !(decide (r.warning ≤ r.throttle) && decide (r.throttle + 8 < r.shutdown)) then refuseAs Rc.thermOrder
     else .stage (.therm d r))

/-- POWER.THERM_GET. -/
def powerThermGetBody (rq : Request) (s : State) : Verdict :=
  let d := fld rq.payload 0 1
  checked [(decide (d < 2), 0)] (.done s (thermBytes d (thermRec (s.readCfg rq) d)))

/-- POWER.THERM_CLEAR. -/
def powerThermClearBody (rq : Request) (s : State) : Verdict :=
  checked [(fld rq.payload 0 1 == 1, 0)]
    (.done { s with therm := { s.therm with trips := 0, sensorFaults := 0 } } [])

end Sys2Proof.Machine
end

