-- ==== Sys2Proof/Machine/Pairing.lean ====
section
/-!
DEFINITION. The pairing link (R322–R348): training and roles, heartbeat and takeover, what CONTROL and BULK
carry, resynchronisation, time alignment, and the PAIR commands.
-/

namespace Sys2Proof.Machine

open Sys2Proof

/-! ## Training and roles (R324, R325) -/

/-- HST_REV: silicon 0xB0 in package 0x01 (R48). -/
def hstRev : Word := 0x000001B0

/-- This unit is in ARMED, PRINTING or PAUSED without a twin (R324). -/
def State.actingAlone (s : State) : Bool := s.sys.armedState && !s.pairRuns

/-- Training of the link may run: PD_LINK runs, and no fault has ended the pair (R324, R344). -/
def State.mayTrain (s : State) : Bool :=
  s.linkRuns && (s.sys.operating || s.sys == .upsett) && !s.pair.noRetrain && !s.underTest 13

/-- PAIR_TRAIN_TIMEOUT: 5 ms (2,000,000 ticks) after training began: an attempt that has not reached HELLO
ends, and in U7 so does a link that is not PAIRED (R324). DEDUCED, log entry 88. -/
def pairTrainTimeout (s : State) : State :=
  match s.pair.trainFrom with
  | none => s
  | some t =>
    if s.tick < t + 2000000 then s
    else if s.pair.state == .training then s.setPair .unpaired 0
    else if s.pair.state == .syncing && s.sys == .upsett then
      (({ s with pair := { s.pair with lanes := 0 } }).unpair 0).resyncDone Rc.resyncFailed
    else s

/-- PAIR_RETRAIN: every 100 ms (40,000,000 ticks) while the link is down and nothing forbids it (R324); a unit
without a pair is then in TRAINING. DEDUCED, log entry 88. -/
def pairRetrain (s : State) : State :=
  let down := (s.pair.state == .withdrawn || s.pair.state == .syncing) && s.pair.lanes == 0
  let due := match s.pair.trainFrom with
    | some t => decide (t + 40000000 ≤ s.tick)
    | none => true
  if (s.pair.state == .unpaired || down) && due && s.mayTrain && s.sys.operating then
    let s := { s with pair := { s.pair with trainFrom := some s.tick } }
    if down then s else s.setPair .training 0
  else s

/-- The result of R324 for what the two units say at HELLO: a refusal, or whether this unit is unit P. -/
def State.helloRole (s : State) (h : Hello) : Except Reason Bool :=
  let closed (lc : Nat) : Bool := lc == 0 || lc == 5
  if h.rev != hstRev || h.fw != s.host.fw || h.hostBoth != s.pair.hostBoth || closed h.lc || closed (lcCode s.otp.lc) then
    .error Rc.pairIncompatible
  else if h.acting && s.actingAlone then .error Rc.roleConflict
  else if !h.acting && !s.actingAlone && h.pairIdHigh == s.pair.idHigh then .error Rc.roleConflict
  else if h.acting || s.actingAlone then .ok s.actingAlone
  else .ok !s.pair.idHigh

/-- A role that has changed takes over or leaves the shared balls, and the RIM blocks carry the new flags
(R325, R343, R347). -/
def State.takeRole (old s : State) : State :=
  let s := if old.pinsHeld && s.acting then s.driveBalls else s
  (if old.pinsHeld == s.pinsHeld then s else s.driveActGpio).emitRims

/-- PAIR_HELLO (R324): roles are set, and unit S resynchronises (R341).  A promoted unit that is now unit P
keeps src 1 until its twin has withdrawn (R343). -/
def pairHello (h : Hello) (s : State) : State :=
  if s.pairRuns && s.pair.lanes != 0 || s.pair.trainFrom.isNone || !s.mayTrain then s
  else match s.helloRole h with
    | .error code =>
      ({ s with pair := { s.pair with trainFrom := none, twinSerial := h.serial } }).setPair .incompatible code
    | .ok leads =>
      let old := s
      let s := if leads then s else s.releaseBalls
      let p := { s.pair with
        unitS := !leads, promoted := false, lanes := 0xFF, twinSerial := h.serial
        trainFrom := if s.sys == .upsett then s.pair.trainFrom else none
        srcKept := leads && (s.pair.promoted || s.pair.srcKept), counterSet := false, slew := 0, motions := []
        ceilPast := []
        twinContiguous := h.contiguous, twinSys := h.sysState, twinFault := 0, lastMsg := s.tick, lastPin := s.tick
        lastControl := s.tick, streamClosed := s.tick, edges := [], consec := [], consecMax := 0, resyncFails := 0
        fallback := false, timeAligned := false, goodAlign := 0, selfWithdrawn := false
        ceilTwin := 0x8000, ceilNext := [], temps := [], joins := [], ownDigests := [], twinDigests := [] }
      let s := State.takeRole old { s with pair := p }
      let s := (if leads then s.setPair .syncing 0 else s.startResync 0).emit (.control (.ceiling s.ownCeiling))
      s.emit (.control (.status s.mem.contiguous (logFree s.log) (sysCode s.sys) s.host.faultCode))

/-! ## Heartbeat (R326, R342) -/

/-- HB_TOGGLE, every 400 ticks: unit P inverts PAIR_HB, which unit S may see change, and each unit sends its
heartbeat message (R326, R342). DESIGN CHOICE, log entry 89. -/
def hbToggle (s : State) : State :=
  if !s.pairRuns || decide (s.tick < s.pair.lastToggle + 400) then s
  else
    let s := { s with pair := { s.pair with lastToggle := s.tick } }
    let s := if s.pinsHeld then
        let seen := Config.pairPinMoves s.fresh
        { s with
          fresh := s.fresh + 1
          pair := { s.pair with lastPin := if seen then s.tick else s.pair.lastPin } }
      else ({ s with pair := { s.pair with hbLevel := !s.pair.hbLevel } }).emit (.hbPin (!s.pair.hbLevel))
    if s.inPair then s.emit (.control .heartbeat) else s

/-- The latest sign of the twin: its message, or a change of PAIR_HB (R342, R347). -/
def State.lastHeartbeat (s : State) : Nat := max s.pair.lastPin s.pair.lastMsg

/-- AGE of PAIR_HB_AGE: µs since the last twin heartbeat, saturating (R347). -/
def State.hbAge (s : State) : Nat := min 65535 ((s.tick - s.lastHeartbeat) / 400)

/-- The twin's heartbeat is present (R342). -/
def State.hbPresent (s : State) : Bool := s.pairRuns && decide (s.tick < s.lastHeartbeat + 8000)

/-- An axis that this unit's own samples have faulted is FAULTED once it goes on with them (R144, R332). -/
def State.ownFault (s : State) (n : Nat) : State :=
  let a := s.axis n
  if a.faultReason = 0 || a.motion == .disabled then s else s.setAxis n { a with motion := .faulted }

/-- This unit goes on from the closure tick with its own samples, and with its own ceiling (R332, R334). -/
def State.ownInputs (s : State) : State :=
  let es := s.pair.edges
  let start := s.pair.streamClosed
  let follows := s.follows
  let p := { s.pair with ceilNext := [], ceilPast := [] }
  let s := ({ s with pair := if follows then { p with fallback := true, edges := [] } else p }).setCeiling s.ownCeiling
  if !follows then s
  else
    let s := (streamTicks s.inForce es [] start s.tick).foldl (fun (s : State) (te : Nat) => s.streamTick es [] te) s
    (List.range 8).foldl State.ownFault (s.eventsThrough s.tick)

/-- Unit S has lost the link while PAIR_HB toggles (R342). -/
def State.loseLink (s : State) : State :=
  let s := s.ownInputs.withdraw
  let s := { s with pair := { s.pair with resyncFrom := none, lanes := 0, fallback := false, edges := [] } }
  (s.setPair .withdrawn Rc.linkLost).resyncDone Rc.resyncFailed

/-- HEARTBEAT_TIMEOUT: 20 µs (8,000 ticks) without a heartbeat message; the operand tells whether PAIR_HB
has been silent as long (R342). DEDUCED, log entry 91. -/
def heartbeatTimeout (pinSilent : Bool) (s : State) : State :=
  let pin := if pinSilent then min s.pair.lastPin (s.tick - 8000) else s.tick
  let s := if s.pairRuns then { s with pair := { s.pair with lastPin := pin } } else s
  if !s.inPair then s
  else
    let linkSilent := decide (s.pair.lastMsg + 8000 ≤ s.tick)
    if !s.pinsHeld then
      if linkSilent then
        let s := { s with pair := { s.pair with lanes := 0 } }
        s.ownInputs.unpair Rc.linkLost
      else s
    else if linkSilent && pinSilent then s.ownInputs.promote Rc.heartbeatLost
    else if linkSilent then s.loseLink
    else if pinSilent then
      (s.post (ev Ev.pairHbPin Cls.system 0 Rc.hbPinFault s.hbAge)).pairChange 4
    else s

/-- FAULT_DECLARED: unit S is promoted at once (R342). -/
def faultDeclared (s : State) : State :=
  if s.inPair && s.pinsHeld then (s.pairChange 2).ownInputs.promote Rc.twinFaultDeclared else s

/-! ## The generators as of a join line (R341 step 2) -/

/-- A generator loads an entry of its run table (R162). -/
def walkLoad (cfg : Cfg) (g n : Nat) (t : Trig) : Trig :=
  let r := runRec cfg g n
  let t := { t with entry := n, cur := r, remaining := r.count, cmp := if r.continue_ then t.cmp else r.start }
  if r.spit then t
  else if t.haveLast && decide (ahead32 t.lastLi r.base ≤ 0) then { t with li := t.lastLi + 1 }
  else { t with li := r.base }

/-- A generator `n` ticketed lines later (R162), the hits of SPIT runs on the way included; it passes at
most `fuel` runs. DEDUCED, log entry 92. -/
def walkLines (cfg : Cfg) (g : Nat) : Nat → Nat → Trig → Trig
  | 0, _, t => t
  | fuel + 1, n, t =>
    if n = 0 || t.state != .running then t
    else
      let k := if t.cur.spit then t.remaining else min n t.remaining
      let w := BitVec.ofNat 32 k
      let t := { t with cmp := t.cmp + BitVec.ofNat 48 (k * t.cur.pitch), remaining := t.remaining - k }
      let t := if t.cur.spit then t else { t with lastLi := t.li + w - 1, haveLast := true, li := t.li + w }
      let left := if t.cur.spit then n else n - k
      if t.remaining ≠ 0 then t
      else if t.cur.end_ then { t with state := .idle }
      else walkLines cfg g fuel left (walkLoad cfg g t.cur.next t)

/-- The snapshot of a generator as of its bar's join line (R341). -/
def State.trigSnap (s : State) (cfg : Cfg) (g : Nat) : TrigSnap :=
  let t := walkLines cfg g 1040 9 (s.trig g)
  { gen := g, running := t.state == .running, last := if t.haveLast then some t.lastLi else none, entry := t.entry
    remaining := t.remaining, compare := t.cmp, lineIndex := t.li, lastFire := (s.trig g).lastFire
    held := ((s.trig g).lines.filter (·.held)).map (fun l => (l.line, l.hit)) }

/-- The snapshot that unit P sends (R341 step 2). DEDUCED, log entry 92. -/
def State.snapshot (s : State) : Snapshot :=
  let cfg := s.accepted
  { cfg := cfg, health := s.health.records
    gens := ((List.range 16).filter (fun g => cfg.tgEn.get false g)).map (s.trigSnap cfg)
    joins := cfg.enabledBars.map (fun b => (b, s.pairApplyLine b))
    histories := (List.range 8).map (fun n => (n, (s.axis n).history.map (fun e => (e.tick, e.delta, e.counter))))
    banks := s.banks }

/-- Unit P answers a withdrawal with join lines and a snapshot (R341), and with the ceiling that both use (R334). -/
def State.sendSnapshot (s : State) : State :=
  let x := s.snapshot
  let s := { s with pair := { s.pair with
    joins := x.joins, consec := [], matches_ := [], badLines := [], openLines := [], lastGood := []
    ownDigests := [], twinDigests := [] } }
  ((s.setPair .syncing 0).emit (.snapshot x)).combineCeilings

/-! ## CONTROL messages (R323, R327, R332–R336) -/

/-- The snapshots that some bar still uses (R336): none older than the newest that has come for every bar. -/
def State.usedTemps (s : State) : List TempSnap → List TempSnap
  | [] => []
  | x :: rest =>
    let all := s.enabledBars.all (fun b =>
      let t := s.trig (s.inForce.trigOf b)
      x.comesFor b (if t.haveLast then some t.lastLi else none))
    if all then [x] else x :: s.usedTemps rest

/-- A snapshot of the head temperatures comes into use (R336). -/
def State.pushTemps (x : TempSnap) (s : State) : State :=
  { s with pair := { s.pair with temps := s.usedTemps (x :: s.pair.temps) } }

/-- The twin's state changes (R343, R347): its fault sets PAIR_CHANGE bit 2. -/
def State.twinStatus (contiguous : Bool) (free sysState : Nat) (fault : Reason) (s : State) : State :=
  let new := fault != 0 && s.pair.twinFault != fault
  let s := { s with pair := { s.pair with
    twinContiguous := contiguous, twinLogFree := free, twinSys := sysState, twinFault := fault } }
  if new then s.pairChange 2 else s

/-- The pairing settings take effect: an act_gpio ball is left or driven (R348). -/
def State.takePairConfig (both : Bool) (gpio : Nat) (low : Bool) (m : Nat) (s : State) : State :=
  let k := s.pair.actGpio
  let s := if k = 0xFF || k = gpio then s else s.emit (.actGpioOff k)
  { s with pair := { s.pair with hostBoth := both, actGpio := gpio, actLow := low, resyncMatch := m } }.driveActGpio

/-- What a message does to unit S (R327, R332–R336). -/
def State.toUnitS (c : Control) (s : State) : State :=
  match c with
  | .stream edges motions closed => if s.follows then s.takeStream edges motions closed else s
  | .stateEvent e t => { s with pair := { s.pair with stateEvents := s.pair.stateEvents ++ [(e, t, .peer)] } }
  | .combined c t => { s with pair := { s.pair with ceilNext := s.pair.ceilNext ++ [(c, t)] } }
  | .temps values apply tick => s.pushTemps { values := values, apply := apply, tick := tick }
  | .preset n (some v) => s.setAxis n { s.axis n with preset := some (v, none) }
  | .preset n none => s.cancelPreset n .peer
  | .pairConfig both gpio low m => (s.logOpen { origin := .peer }).takePairConfig both gpio low m
  | _ => s

/-- What a message does to unit P (R333, R334, R341). -/
def State.toUnitP (c : Control) (s : State) : State :=
  match c with
  | .haltReport => if s.sys == .printing then s.requestEvent .paused .fwAuto else s
  | .withdrawn true =>
    (if s.pair.srcKept then { s with pair := { s.pair with srcKept := false } }.emitRims else s).sendSnapshot
  | .withdrawn false => s.setPair .paired 0
  | _ => s

/-- CONTROL_MESSAGE (R323), with its latency in ticks. -/
def controlMessage (c : Control) (latency : Nat) (s : State) : State :=
  if !s.inPair then s
  else
    let s := { s with pair := { s.pair with
      lastControl := s.tick, latencyMax := min 65535 (max s.pair.latencyMax latency) } }
    match c with
    | .heartbeat => { s with pair := { s.pair with lastMsg := s.tick } }
    | .ceiling v =>
      let s := { s with pair := { s.pair with ceilTwin := v } }
      if s.leadsPair then s.combineCeilings else s
    | .status contiguous free sysState fault => s.twinStatus contiguous free sysState fault
    | .unpair =>
      let s := { s with pair := { s.pair with noRetrain := true, lanes := 0 } }
      (s.ownInputs.unpair 0).resyncDone Rc.resyncFailed
    | c => if s.leadsPair then s.toUnitP c else s.toUnitS c

/-- INPUT_FALLBACK: 320 ticks without a CONTROL message; unit S goes on from the closure tick with its own
samples and its own ceiling (R332). DEDUCED, log entry 95. -/
def inputFallback (s : State) : State :=
  if !s.follows || decide (s.tick < s.pair.lastControl + 320) then s else s.ownInputs

/-- CEILING_APPLY: the oldest combined ceiling's apply tick has come (R334); the one before it is kept for the
evaluations before that tick. -/
def ceilingApply (s : State) : State :=
  match s.pair.ceilNext with
  | (c, t) :: rest =>
    if t ≤ s.tick then
      let past := (s.pair.ceilPast ++ [(s.therm.ceiling, t)]).filter (fun x => decide (s.pair.streamClosed < x.2))
      ({ s with pair := { s.pair with ceilNext := rest, ceilPast := past } }).setCeiling c
    else s
  | [] => s

/-- TEMP_SNAPSHOT_SEND: unit P, every 1 ms (R336). -/
def tempSnapshotSend (s : State) : State :=
  if !s.leadsPair || decide (s.tick < s.pair.lastTempSend + 400000) then s
  else
    let cfg := s.inForce
    let values := (cfg.heads.filter (fun (h : Nat × HeadRec) => h.2.bar != 0xFF)).map
      (fun (h : Nat × HeadRec) => (h.1, s.stsTemp h.2 0))
    let apply := cfg.enabledBars.map (fun b => (b, s.pairApplyLine b))
    let s := { s with pair := { s.pair with lastTempSend := s.tick } }
    (s.pushTemps { values := values, apply := apply, tick := s.tick }).emit (.control (.temps values apply s.tick))

/-! ## Resynchronisation in unit S (R341) -/

/-- The changes of inputs (R134), enables and outputs by which unit S follows an installed configuration. -/
def followChanges (old new : Cfg) : List Change :=
  ((List.range 8).filter (fun n => axisRec old n != axisRec new n)).map (fun n => Change.axis n (axisRec new n))
    ++ ((List.range 8).filter (fun n => old.axisEn.get false n != new.axisEn.get false n)).map
      (fun n => Change.axisEnable n (new.axisEn.get false n))
    ++ ((List.range 4).filter (fun k => echoRec old k != echoRec new k)).map (fun k => Change.echo k (echoRec new k))
    ++ ((List.range 64).filter (fun p => old.bound.get false p != new.bound.get false p)).map
      (fun p => Change.planeEnable p (new.bound.get false p))
    ++ ((List.range 128).filter (fun c => channelRec old c != channelRec new c)).map
      (fun c => Change.channel c (channelRec new c))
    ++ ((List.range 8).filter (fun k => dacRec old k != dacRec new k)).map (fun k => Change.dac k (dacRec new k))
    ++ ((List.range 8).filter (fun k => old.hvs.get {} k != new.hvs.get {} k)).map
      (fun k => Change.hv k (new.hvs.get {} k))

/-- A generator takes its snapshot. -/
def State.installTrig (s : State) (x : TrigSnap) : State :=
  let t := s.trig x.gen
  s.setTrig x.gen { t with
    state := if x.running then .running else .idle
    entry := x.entry, cur := runRec s.inForce x.gen x.entry, remaining := x.remaining, cmp := x.compare
    li := x.lineIndex, haveLast := x.last.isSome, lastLi := x.last.getD 0, lastFire := x.lastFire
    lines := x.held.map (fun (h : Word × Pos48) =>
      { line := h.1, hit := h.2, fire := 0, lineTime := 0, held := true, period := s.enforced x.gen }) }

/-- A bar's engine prepares from its join line (R341 step 3). -/
def State.installJoin (s : State) (j : Nat × Word) : State :=
  let t := s.trig (s.inForce.trigOf j.1)
  (s.setRbar j.1 { s.rbar j.1 with
    next := some j.2.toNat, seqEntry := t.entry, seqLeft := t.remaining, seqEnded := t.state != .running
    newest := none, lastTicket := none, tickets := [], floor := none }).moveWindow j.1

/-- An axis takes unit P's history. -/
def State.installHistory (s : State) (h : Nat × List (Nat × Int × Word)) : State :=
  match h.2 with
  | [] => s
  | e :: _ =>
    s.setAxis h.1 { s.axis h.1 with
      history := h.2.map (fun x => { tick := x.1, delta := x.2.1, counter := x.2.2 }), counter := e.2.2
      lastEdge := e.1, fresh := h.2.length }

/-- A system state by its code (HST_STATUS.SYS_STATE). -/
def sysOfCode : Nat → SysState
  | 3 => .armed
  | 4 => .printing
  | 5 => .paused
  | _ => .ready

/-- Unit S takes the transitions that it has missed on the way to its twin's system state, each as R42 and R327
have it: the state events, and the first ticket.  DESIGN CHOICE, log entry 130. -/
def State.followTwin (target : SysState) (s : State) : State :=
  let arm (s : State) : State :=
    if s.sys == .printing then (s.applyEvent .paused .peer).applyEvent .resumed .peer
    else (s.applyEvent .armed .peer).applyEvent .resumed .peer
  if !s.sys.operating || s.sys == target then s
  else match target with
    | .armed => arm s
    | .printing => (arm s).firstTicket
    | .paused => (if s.sys == .printing then s else (arm s).firstTicket).applyEvent .paused .peer
    | _ => s.applyEvent .ready .peer

/-- RESYNC_SNAPSHOT: unit S installs the snapshot, discards its prepared lines and prepares from J_b (R341).
The snapshot holds no system state: unit S takes the transitions that it has missed here.
DESIGN CHOICE, log entry 130. -/
def resyncSnapshot (x : Snapshot) (s : State) : State :=
  if !(s.pinsHeld && s.pair.state == .syncing) then s
  else
    let old := s.inForce
    let s := { s with
      base := x.cfg, commits := [], catchUps := [], banks := x.banks
      health := { s.health with records := x.health }
      raster := s.raster.map (fun (r : Nat × RasterBar) =>
        (r.1, { r.2 with prepared := [], settled := [], blanked := [], parked := [], primed := false, waitsIndex := none }))
      plait := { s.plait with units := [] } }
    let s := (s.runHooks false old (followChanges old x.cfg)).followTwin (sysOfCode s.pair.twinSys)
    let s := x.histories.foldl State.installHistory s
    let s := x.gens.foldl State.installTrig s
    let s := x.joins.foldl State.installJoin s
    ({ s with pair := { s.pair with
      snapped := true, joins := x.joins, matches_ := [], badLines := [], openLines := [], lastGood := [] } }).trySynced

/-- RESYNC_TIMEOUT: 50 ms (20,000,000 ticks); after 3 failures in a row unit S stays withdrawn (R341).
DEDUCED, log entry 90. -/
def resyncTimeout (s : State) : State :=
  match s.pair.resyncFrom with
  | none => s
  | some t =>
    if s.pair.state != .syncing || decide (s.tick < t + 20000000) then s
    else
      let n := s.pair.resyncFails + 1
      let s := ({ s with pair := { s.pair with resyncFails := n } }).resyncDone Rc.resyncFailed
      if n < 3 then s.startResync Rc.resyncFailed
      else ({ s with pair := { s.pair with resyncFrom := none } }).setPair .withdrawn 0

/-! ## Time alignment (R330) -/

/-- Unit S sets its tick counter to unit P's count (R330): the ticks that the pair keeps move with it, and the
speed windows, whose boundaries the two units share, begin anew (R134). DEDUCED, log entry 93. -/
def State.setCounter (d : Int) (s : State) : State :=
  let move (t : Nat) : Nat := (t + d).toNat
  let p := s.pair
  let s := { s with
    tick := move s.tick
    pair := { p with
      counterSet := true, lastPin := move p.lastPin, lastMsg := move p.lastMsg, lastToggle := move p.lastToggle
      lastControl := move p.lastControl, streamClosed := move p.streamClosed, lastTempSend := move p.lastTempSend
      resyncFrom := p.resyncFrom.map move, trainFrom := p.trainFrom.map move } }
  (List.range 8).foldl (fun s n =>
    let a := s.axis n
    if a.motion == .disabled then s
    else s.setAxis n (newWindows (axisRec s.inForce n).speedWindow s.tick a)) s

/-- TIME_EXCHANGE in unit S, in fine ticks: 1 ns is 6.4 of them.  The first after HELLO sets the counter; later
offsets are slewed away (R330). DEDUCED, log entry 93. -/
def timeExchange (t1 tRx tTx t4 : Nat) (s : State) : State :=
  if !(s.inPair && s.pinsHeld) then s
  else
    let out : Int := (tRx : Int) - t1
    let back : Int := (t4 : Int) - tTx
    let theta := (out - back).tdiv 2
    let d := if s.pair.counterSet then 0 else (theta + 8) / 16
    let s := if s.pair.counterSet then s else s.setCounter d
    let theta := theta - 16 * d
    let n := theta.natAbs
    let good := if n ≤ 6 then s.pair.goodAlign + 1 else 0
    let was := s.pair.timeAligned
    let s := { s with pair := { s.pair with
      offset := theta, pathDelay := ((out + back).tdiv 2).toNat, goodAlign := good
      slew := if 13 ≤ n then theta else 0 } }
    let s := if 13 ≤ n then
        s.postLimited ⟨Ev.pairTime, 0, 0⟩ (ev Ev.pairTime Cls.system 0 Rc.timeAlignLost (BitVec.ofInt 16 theta).toNat)
      else s
    if 32 < n ∧ was then
      ({ s with pair := { s.pair with timeAligned := false, goodAlign := 0 } }).startResync Rc.timeAlignLost
    else if !was && decide (2 ≤ good) then
      let s := { s with pair := { s.pair with timeAligned := true } }
      if s.pair.state == .syncing then s.emit (.control (.withdrawn true)) else s
    else s

/-- BULK_FORWARD: unit S stores forwarded bytes (R328). -/
def bulkForward (a : Nat) (bytes : List Byte) (s : State) : State :=
  if s.inPair && s.pinsHeld && !s.pair.hostBoth && decide (a + bytes.length ≤ hbmUserEnd) then
    let s := s.hbmWrite a bytes
    { s with pair := { s.pair with fwdBytes := s.pair.fwdBytes + bytes.length } }
  else s

/-! ## The PAIR commands (R348) -/

/-- The settings in the layout of PAIR.CONFIG. -/
def pairConfigBytes (x : Pair) : List Byte :=
  le 1 (b2n x.hostBoth) ++ le 1 x.actGpio ++ le 1 (b2n x.actLow) ++ le 1 x.resyncMatch ++ zeros 4

/-- PAIR.CONFIG: one log entry, and in a pair unit S takes the same (R327). -/
def pairConfigBody (rq : Request) (s : State) : Verdict :=
  let p := rq.payload
  let gpio := fld p 1 1
  checked [(decide (fld p 0 1 < 2), 0), (decide (gpio < 16 ∨ gpio = 0xFF), 1), (decide (fld p 2 1 < 2), 2),
      (decide (16 ≤ fld p 3 1), 3)] <|
    let t := s.takePairConfig (fld p 0 1 == 1) gpio (fld p 2 1 == 1) (fld p 3 1)
    let x := t.pair
    let s := t.logEntry
      { origin := .mbx rq.mbx.val, old := crc32c (pairConfigBytes s.pair), new := crc32c (pairConfigBytes x) }
    .done (if s.inPair then s.emit (.control (.pairConfig x.hostBoth x.actGpio x.actLow x.resyncMatch)) else s) []

/-- PAIR.STATUS. -/
def pairStatusBody (_rq : Request) (s : State) : Verdict :=
  let x := s.pair
  .done s
    (le 1 (pairCode x.state)
      ++ le 1 (b2n x.unitS + 2 * b2n s.acting + 4 * b2n x.promoted + 8 * b2n x.selfWithdrawn + 16 * b2n x.fallback)
      ++ le 1 (b2n x.hostBoth) ++ zeros 1 ++ le 4 x.divergences.toNat ++ le 2 x.consecMax ++ le 2 x.resyncs
      ++ le 4 x.inputMismatches.toNat ++ le 2 x.latencyMax ++ zeros 2 ++ le 4 x.peerRequests.toNat
      ++ le 8 x.fwdBytes)

/-- PAIR.PROMOTE. DEDUCED, log entry 91. -/
def pairPromoteBody (_rq : Request) (s : State) : Verdict :=
  if s.acting then refuseAs Rc.alreadyActing
  else if s.hbPresent then refuseAs Rc.twinAlive
  else .done (s.promote Rc.heartbeatLost) []

/-- PAIR.RESYNC; without the link it fails as R341 fails. -/
def pairResyncBody (rq : Request) (s : State) : Verdict :=
  if s.pair.unitS && !s.pair.promoted && (s.pair.state == .paired || s.pair.state == .withdrawn) then
    let w := s.waiterOf rq 0x0A03
    let s := ({ s with pair := { s.pair with resyncFails := 0 } }).startResync 0
    .accept { s with pair := { s.pair with resyncWaiter := some w } }
  else refuseAs Rc.notPaired

/-- PAIR.UNPAIR. -/
def pairUnpairBody (rq : Request) (s : State) : Verdict :=
  let s := s.logOpen { origin := .mbx rq.mbx.val }
  let s := if s.pairRuns then s.emit (.control .unpair) else s
  let s := { s with pair := { s.pair with noRetrain := true, lanes := 0 } }
  .done ((s.ownInputs.unpair 0).resyncDone Rc.resyncFailed) []

/-- PAIR.GET. -/
def pairGetBody (_rq : Request) (s : State) : Verdict := .done s (pairConfigBytes s.pair)

/-- PAIR.REJOIN writes its log entry; where neither condition holds it has no further effect.
DEDUCED, log entry 90. -/
def pairRejoinBody (rq : Request) (s : State) : Verdict :=
  let s := s.logOpen { origin := .mbx rq.mbx.val }
  if !s.pair.noRetrain && s.pair.state != .incompatible then .done s []
  else
    let s := { s with pair := { s.pair with noRetrain := false, trainFrom := some s.tick } }
    .done (if s.pair.state == .unpaired || s.pair.state == .incompatible then s.setPair .training 0 else s) []

end Sys2Proof.Machine
end

