-- ==== Sys2Proof/Machine/Mem.lean ====
section
/-!
DEFINITION. The Weave pool, the Stake banks and HBM (R351–R369): regions and violations, errors and their
consumers, bank retirement, Stake ownership, the debug port, and the MEM commands.
-/

namespace Sys2Proof.Machine

open Sys2Proof

/-! ## The on-chip address space (R351, R353, R354) -/

/-- The first Stake address, and the first beyond the Stake banks (R351). -/
def stakeBase : Nat := 0x2000000
def stakeEnd : Nat := 0x2800000

/-- The end of the Weave pool: 768 KiB for each bank in service (R351, R366). -/
def State.weaveTop (s : State) : Nat :=
  if s.mem.contiguous then (32 - s.mem.retired.length) * 0xC0000 else 0x1800000

/-- The physical Weave bank of an address (R352, R366). -/
def State.weaveBank (s : State) (a : Nat) : Nat :=
  if s.mem.contiguous then
    ((List.range 32).filter (fun b => !s.mem.retired.contains b)).getD (a / 0xC0000) 0
  else a / 32 % 32

/-- A region with its permissions. -/
def region (base limit : Nat) (r w x : Bool) : Region :=
  { base := base, limit := limit, r := r, w := w, x := x, enable := true }

/-- The regions that firmware sets for a master: one register for each row of R353 that the master may
access, in table order, then the Stake banks it reaches (R355–R358, R381). DESIGN CHOICE, log entry 97. -/
def regionInit (top : Nat) : Nat → List Region
  | 2 => [region 0 0x800000 true false false, region 0x800000 0xA80000 true false false,
          region 0xA80000 0xBC0000 true false false, region 0xC00000 0x1500000 false true false]
  | 3 => [region 0xBC0000 0xC00000 true true false]
  | 4 => []
  | 5 => [region 0 top true true false, region stakeBase stakeEnd true true false]
  | 6 => [region 0 0x800000 true false false]
  | 7 => [region 0xC00000 0x1500000 true false false]
  | 8 => [region 0xC00000 0x1500000 true false false]
  | 9 => [region 0xA80000 0xBC0000 true false false, region 0xC00000 0x1500000 false true false]
  | 10 => [region 0 top true true false, region stakeBase stakeEnd true true false]
  | 11 => [region 0x2600000 0x2700000 true true false]
  | _ => [region 0 0x800000 true true false, region 0x800000 0xA80000 true true false,
          region 0xA80000 0xBC0000 true true false, region 0xBC0000 0xC00000 true false false,
          region 0x1500000 top true true true, region stakeBase stakeEnd true true true]

/-- Region register `i` of a master. -/
def State.region (s : State) (master i : Nat) : Region :=
  s.mem.regions.get ((regionInit 0x1800000 master).getD i {}) (8 * master + i)

/-- Firmware sets every region register after re-forming the pool (R354, R366). -/
def State.resetRegions (s : State) : State :=
  let all := (List.range 12).flatMap (fun m => (List.range 8).map (fun i => (8 * m + i, (regionInit s.weaveTop m).getD i {})))
  { s with mem := { s.mem with regions := all } }

/-- An address is mapped (R351). DESIGN CHOICE, log entry 97. -/
def State.mapped (s : State) (a : Nat) : Bool :=
  decide (a < s.weaveTop) || (decide (stakeBase ≤ a) && decide (a < stakeEnd))

/-- The kinds of access that regions permit (R354). -/
inductive Access where
  | read | write | execute
  deriving DecidableEq, Repr

/-- A region permits a kind of access. -/
def permits (r : Region) : Access → Bool
  | .read => r.r
  | .write => r.w
  | .execute => r.x

/-- An access to `n` bytes lies in the regions of a master, taken together (R354, R355). -/
def State.regionAllows (s : State) (master a n : Nat) (k : Access) : Bool :=
  let rs := (List.range 8).map (s.region master)
  (List.range n).all (fun i => s.mapped (a + i) && rs.any (fun r =>
    r.enable && permits r k && decide (r.base ≤ a + i) && decide (a + i < r.limit)))

/-- A byte of the mask region, at offset `o` of it (R111, R113, R353): 256 stitch masks of 256 lines, then 16
pass masks.  DESIGN CHOICE, log entry 97. -/
def maskByte (cfg : Cfg) (o : Nat) : Byte :=
  if o < 0x80000 then
    BitVec.ofNat 8 (((cfg.stitchMasks.get {} (o / 2048)).lines.get 0 (o / 8 % 256)).toNat / 256 ^ (o % 8))
  else (cfg.passMasks.get {} ((o - 0x80000) / 32768)).bytes.get 0 (o % 32768)

/-- A byte of the on-chip memories (R353): the nozzle map holds entry `i` at `4i`, and the masks follow their own
layout.  The inner layout of the substitution table, the waveform library, the bar contexts and the framer queues
is not in the manual: a free value. DESIGN CHOICE, log entry 97. -/
def State.onchipByte (s : State) (a : Nat) : Byte :=
  if a < 0x800000 then BitVec.ofNat 8 ((nmapRec s.inForce (a / 4)).toNat / 256 ^ (a % 4))
  else if 0xA80000 ≤ a ∧ a < 0xB80000 then maskByte s.inForce (a - 0xA80000)
  else if a < 0x1500000 then Config.reservedByte s.fresh a
  else memRead s.mem.onchip a

/-- Bytes of the on-chip memories. -/
def State.onchipRead (s : State) (a n : Nat) : List Byte := (List.range n).map (fun i => s.onchipByte (a + i))

/-- The number of a memory of on-chip addresses in `Mem.poison`: 0 Weave, 1 Stake. -/
def onchipSource (a : Nat) : Nat := if a < stakeBase then 0 else 1

/-- Bytes are written on chip; a word written whole is no longer poisoned (R360). -/
def State.onchipWrite (a : Nat) (bs : List Byte) (s : State) : State :=
  let m := { s.mem with
    onchip := memWriteN s.mem.onchip a bs, poison := unpoison (onchipSource a) a bs.length s.mem.poison }
  { s with mem := m }

/-! ## Error records and events (R355, R360) -/

/-- An error record of a memory: 16 are kept, newest first, and a further occurrence at an address counts.
DEDUCED, log entry 98. -/
def State.noteError (src kind master unit address : Nat) (s : State) : State :=
  let old := s.mem.records.get [] src
  let same (r : ErrRec) : Bool := r.kind == kind && r.address == address
  let n := match old.find? same with
    | some r => r.count + 1
    | none => 1
  let e : ErrRec := { kind := kind, master := master, unit := unit, count := n, address := address, aon := s.aon
                      boot := s.host.bootCount }
  { s with mem := { s.mem with records := s.mem.records.set src ((e :: old.filter (fun r => !same r)).take 16) } }

/-- The bank of an on-chip address. -/
def State.bankOfAddress (s : State) (a : Nat) : Nat :=
  if a < stakeBase then s.weaveBank a else (a - stakeBase) / 0x100000 % 8

/-- A region violation (R355): recorded, counted and posted.  One of a processor or an engine is a fault; that of the
DMA halts its channel, that of the debug port ends in an error response, and BIST fails its test, where they occur. -/
def State.violation (master a : Nat) (k : Access) (s : State) : State :=
  let s := s.noteError (onchipSource a) 3 master (s.bankOfAddress a) a
  let s := ({ s with mem := { s.mem with violations := s.mem.violations + 1 } }).post
    (ev Ev.memViolation Cls.system 0 Rc.regionViolation
      (master + 16 * b2n (k == Access.write) + 32 * b2n (k == Access.execute) + 256 * a))
  if master == 5 || master == 10 || master == 11 then s else s.enterFault Rc.regionViolation .fwAuto

/-! ## Bank retirement (R365, R366) -/

/-- WEAVE_BANK (R370). -/
def State.postBank (bank : Nat) (reason : Reason) (pending retired : Bool) (s : State) : State :=
  s.post (ev Ev.weaveBank Cls.system 0 reason (bank + 256 * b2n pending + 512 * b2n retired))

/-- A bank is retired, re-forming or pending. DEDUCED, log entry 100. -/
def State.bankGoing (s : State) (bank : Nat) : Bool :=
  s.mem.retired.contains bank || s.mem.pendingRetire.any (fun r => r.bank == bank)
    || (match s.mem.reforming with
      | some r => r.bank == bank
      | none => false)

/-- Banks retired or about to be. -/
def State.banksGoing (s : State) : Nat :=
  s.mem.retired.length + s.mem.pendingRetire.length + b2n s.mem.reforming.isSome

/-- A bank becomes pending retirement (R365): at once in READY, else at the next entry to READY.
DEDUCED, log entry 100. -/
def State.retireBank (r : Retire) (s : State) : State :=
  if s.bankGoing r.bank then s
  else
    let s := { s with mem := { s.mem with pendingRetire := s.mem.pendingRetire ++ [r] } }
    if s.sys == .ready then
      if 4 < s.banksGoing then s.enterFault Rc.retireLimit .fwAuto
      else s.clearRings.startSequences.startReform
    else s.postBank r.bank r.reason true false

/-- Ring validity and parked state are cleared, as entry to READY does (R237, R366); outside READY the bars keep their
sequences. -/
def State.clearForReform (s : State) : State :=
  if s.sys == .ready then s.clearRings.startSequences
  else
    let bar (x : RasterBar) : RasterBar := { x with settled := [], blanked := [], parked := [], waitsIndex := none }
    { s with raster := s.raster.map (fun x => (x.1, bar x.2)), plait := { s.plait with units := [] } }

/-- The pool re-forms without a bank (R366): its contents are reloaded, firmware's working data that no longer fits
moves to the reserved part of HBM, and the region registers are set anew. -/
def State.reformPool (bank : Nat) (s : State) : State :=
  let s := { s with mem := { s.mem with
    contiguous := true, retired := insertNat s.mem.retired bank, poison := s.mem.poison.filter (fun w => w.1 != 0) } }
  let top := s.weaveTop
  ({ s with mem := { s.mem with
    onchip := List.filter (fun (c : Host.Cell) => decide (c.1 < top) || decide (stakeBase ≤ c.1)) s.mem.onchip } }).resetRegions

/-- WEAVE_REFORM_DONE (R366): the pool is in CONTIGUOUS mode without the bank, its regions are set anew, and
the twin learns the mode (R367).  A fifth retirement is a fault. DESIGN CHOICE, log entry 168. -/
def weaveReformDone (s : State) : State :=
  match s.mem.reforming with
  | none => s
  | some r =>
    if 4 ≤ s.mem.retired.length then
      ({ s with mem := { s.mem with reforming := none } }).enterFault Rc.retireLimit .fwAuto
    else
      let s := s.logOpen { origin := r.origin, reason := r.reason }
      let s := { s with mem := { s.mem with reforming := none } }
      let s := ((s.reformPool r.bank).clearForReform).postBank r.bank r.reason false true
      let s := match r.waiter with
        | some w => s.commandDone w 0 0 0
        | none => s
      let s := if s.inPair then
          s.emit (.control (.status true (logFree s.log) (sysCode s.sys) s.host.faultCode))
        else s
      if s.sys == .ready then s.startReform else s

/-! ## Errors (R360, R361, R363, R365) -/

/-- 24 hours in AON ticks. -/
def dayTicks : Nat := 88473600000

/-- An HBM row becomes pending repair; the list holds 16 rows (R363). -/
def State.rowPending (row : HbmRow) (reason : Reason) (s : State) : State :=
  if s.mem.rowsPending.contains row then s
  else
    let full := decide (16 ≤ s.mem.rowsPending.length)
    let s := if full then s else { s with mem := { s.mem with rowsPending := s.mem.rowsPending ++ [row] } }
    s.post (ev Ev.memRepairNeeded Cls.system 0 reason
      (row.pseudo + 256 * row.bank + 65536 * row.row + 2 ^ 48 * b2n full))

/-- The pseudo-channel of an HBM offset (R359), or the bank of an on-chip address.
DEDUCED, log entry 98. -/
def State.unitOf (s : State) (e : MemError) : Nat :=
  if e.source = 2 then e.address / 256 % 32 else s.bankOfAddress e.address

/-- A corrected error: counted for its memory and its row or bank (R360, R363, R365). -/
def State.corrected (e : MemError) (s : State) : State :=
  let recent (l : List Nat) : List Nat := s.aon :: l.filter (fun t => decide (s.aon < t + dayTicks))
  let limit := s.inForce.scrub.correctedLimit
  let s := s.noteError e.source.val 1 e.master (s.unitOf e) e.address
  let s := s.postLimited ⟨Ev.memCorrected, e.source.val, 0⟩
    (ev Ev.memCorrected Cls.system 0 0 (e.source.val + 256 * e.address))
  if e.source = 2 then
    let row : HbmRow := ⟨s.unitOf e, e.bank, e.row⟩
    let old := ((s.mem.rowErrors.find? (fun x => x.1 == row)).map (·.2)).getD []
    let l := recent old
    let rows := (row, l) :: s.mem.rowErrors.filter (fun x => x.1 != row)
    let s := { s with mem := { s.mem with hbmCorrected := s.mem.hbmCorrected + 1, rowErrors := rows } }
    if limit ≤ l.length then s.rowPending row Rc.correctedLimit else s
  else
    let s := { s with mem := { s.mem with weaveCorrected := s.mem.weaveCorrected + 1 } }
    if e.source = 1 then s
    else
      let bank := s.weaveBank e.address
      let l := recent (s.mem.bankErrors.get [] bank)
      let s := { s with mem := { s.mem with bankErrors := s.mem.bankErrors.set bank l } }
      if limit ≤ l.length then s.retireBank ⟨bank, .fwAuto, Rc.correctedLimit, none⟩ else s

/-- What a Stake word's consumer does with poison (R361): a fault for firmware's banks, a lost shadow set
for Stake5.  Stake3 is treated when the log is read, and Stake6 on the DMA channel.
DEDUCED, log entry 99. -/
def State.consumeStake (a : Nat) (s : State) : State :=
  match (a - stakeBase) / 0x100000 with
  | 3 => s
  | 5 => s.setSset ((a - stakeBase) % 0x100000 / 65536) { poisoned := true }
  | 6 => s
  | _ => s.enterFault Rc.sramUncorrectable .fwAuto

/-- An uncorrectable error: the word is poisoned, and what it belongs to is retired or repaired; a read by
a consumer (not the patrol, 0xFF) acts on the poison (R360, R361, R363, R365).
DESIGN CHOICE, log entry 79; DEDUCED, log entry 98. -/
def State.uncorrectable (e : MemError) (s : State) : State :=
  let code := if e.source = 2 then Rc.hbmUncorrectable else Rc.sramUncorrectable
  let word := (e.source.val, e.address / 8 * 8)
  let s := s.noteError e.source.val 2 e.master (s.unitOf e) e.address
  let s := { s with mem := { s.mem with
    poison := if s.mem.poison.contains word then s.mem.poison else word :: s.mem.poison } }
  let s := s.post (ev Ev.memUncorrectable Cls.system 0 code (e.source.val + 16 * (e.master % 16) + 256 * e.address))
  if e.source = 2 then
    ({ s with mem := { s.mem with hbmUncorrectable := s.mem.hbmUncorrectable + 1 } }).rowPending
      ⟨s.unitOf e, e.bank, e.row⟩ Rc.hbmUncorrectable
  else
    let s := { s with mem := { s.mem with weaveUncorrectable := s.mem.weaveUncorrectable + 1 } }
    if e.source = 0 then s.retireBank ⟨s.weaveBank e.address, .fwAuto, Rc.sramUncorrectable, none⟩
    else if e.master = 0xFF then s
    else s.consumeStake e.address

/-- SCRUB_STEP (R362): what the patrol, or a read of a consumer, found.  The patrol pauses in DOZE, SLEEP
and OFF-AON. -/
def scrubStep (source : Fin 3) (found : List MemError) (passEnd : Bool) (s : State) : State :=
  if !s.linkRuns || s.sys == .off || s.sys == .safe then s
  else
    let mine := found.filter (fun e => e.source == source)
    let s := mine.foldl (fun (s : State) (e : MemError) => if e.correctable then s.corrected e else s.uncorrectable e) s
    if passEnd && source == 2 then { s with mem := { s.mem with scrubPassAt := s.aon } } else s

/-- POISON_REWRITE (R361): firmware rewrites a poisoned word of the nozzle map, the substitution table or the masks from
its copy in HBM. -/
def poisonRewrite (a : Nat) (s : State) : State :=
  if 0xB80000 ≤ a then s
  else if !s.regionAllows 0 (a / 8 * 8) 8 .write then s.violation 0 (a / 8 * 8) .write
  else { s with mem := { s.mem with poison := s.mem.poison.filter (fun w => !(w.1 == 0 && w.2 == a / 8 * 8)) } }

/-! ## The debug port (R355, R457, R504) -/

/-- A word of the mask region is written, at offset `o` of it.  DESIGN CHOICE, log entry 97. -/
def maskWrite (o : Nat) (v : Word) (cfg : Cfg) : Cfg :=
  if o < 0x80000 then
    let m := cfg.stitchMasks.get {} (o / 2048)
    let old := m.lines.get 0 (o / 8 % 256)
    let new := if o / 4 % 2 = 0 then old.extractLsb' 32 32 ++ v else v ++ old.extractLsb' 0 32
    { cfg with stitchMasks := cfg.stitchMasks.set (o / 2048) { m with lines := m.lines.set (o / 8 % 256) new } }
  else
    let k := (o - 0x80000) / 32768
    let m := cfg.passMasks.get {} k
    let bytes := ((le 4 v.toNat).mapIdx (fun i b => (o % 32768 + i, b))).foldl (fun t e => t.set e.1 e.2) m.bytes
    { cfg with passMasks := cfg.passMasks.set k { bytes := bytes } }

/-- A word is written through the debug port. DESIGN CHOICE, log entry 97. -/
def State.tapWrite (a : Nat) (v : Word) (s : State) : State :=
  if a < 0x800000 then { s with base := { s.base with nmap := s.base.nmap.set (a / 4) v } }
  else if 0xA80000 ≤ a ∧ a < 0xB80000 then { s with base := maskWrite (a - 0xA80000) v s.base }
  else s.onchipWrite a (le 4 v.toNat)

/-- DEBUG_TAP_ACCESS: a read, or a write of a word, while PD_CORE is on (R396).  A closed port does nothing (R457).
DESIGN CHOICE, log entry 97. -/
def debugTapAccess (address : Nat) (write : Option Word) (s : State) : State :=
  let isOpen := s.otp.lc == .virgin || s.otp.lc == .mfg || s.otp.lc == .return_ || s.otp.lc == .oem
  let powered := (s.linkRuns || s.pwr == .doze) && s.sys != .off && s.sys != .safe && !s.underTest 23
  if !isOpen || !powered then s
  else match write with
    | none =>
      if s.regionAllows 10 address 4 .read then
        s.emit (.tap (some (BitVec.ofNat 32 (ofLE (s.onchipRead address 4)))) false)
      else (s.violation 10 address .read).emit (.tap none true)
    | some v =>
      if s.otp.lc == .oem then s.emit (.tap none true)
      else if s.regionAllows 10 address 4 .write then (s.tapWrite address v).emit (.tap none false)
      else (s.violation 10 address .write).emit (.tap none true)

/-! ## Stake ownership (R356–R358) -/

/-- The owner class and id of R356. -/
def ownerOf : Option Nat → Byte × Nat
  | none => (Cls.system, 0)
  | some n => (Cls.mailbox, n)

/-- The refusal that names a bank and its owner (R91). -/
def stakeRefusal (bank : Nat) (o : Option Nat) : Verdict :=
  .refuse Rc.stakeNotOwner Cls.stakeBank bank (ownerPayload (ownerOf o).1 (ownerOf o).2)

/-- A DMA channel of an owner has an element in flight that addresses a Stake bank (R357). -/
def State.stakeInFlight (s : State) (o : Option Nat) (bank : Nat) : Bool :=
  let hits (p : ListPos) : Bool := match p.cur with
    | some e => e.space == 3 && decide (e.address < stakeBase + (bank + 1) * 0x100000)
        && decide (stakeBase + bank * 0x100000 < e.address + e.length)
    | none => false
  (List.range 32).any (fun c =>
    let x := s.chan32 c
    (x.state == .running || x.state == .preempted || x.state == .halted) && x.owner == o && (hits x.gather || hits x.scatter))

/-- The fields of MEM.STAKE_HANDOVER. -/
def handoverFields (p : List Byte) : List (Bool × Nat) :=
  let cls := fld p 1 1
  [(decide (fld p 0 1 < 8), 0), (cls == 0x0F || cls == 0x10, 1),
   (if cls = 0x0F then decide (fld p 4 4 < 16) else fld p 4 4 == 0, 4), (cls == 0x0F || fld p 12 4 == 0, 12)]

/-- MEM.STAKE_HANDOVER (R357). DEDUCED, log entry 100. -/
def memStakeHandoverBody (rq : Request) (s : State) : Verdict :=
  let p := rq.payload
  checked (handoverFields p) <|
    let bank := fld p 0 1
    let x := s.mem.stakes.get {} bank
    let me := rq.mbx.val
    let new := if fld p 1 1 = 0x0F then some (fld p 4 4) else none
    if bank != 6 then refuseObj Rc.stakeFixed Cls.stakeBank bank
    else if (match x.owner with
        | some n => n != me
        | none => new != some me) then stakeRefusal bank x.owner
    else if BitVec.ofNat 32 (fld p 8 4) != x.token then refuseObj Rc.stakeToken Cls.stakeBank bank
    else if x.owner.isNone && s.bist.demand.isSome then refuseAs Rc.busy
    else if s.stakeInFlight x.owner bank then refuseAs Rc.busy
    else
      let clear := bit (fld p 2 1) 0 || x.owner.isNone || new.isNone
      let s := s.logOpen { origin := .mbx me, cls := Cls.stakeBank, obj := bank }
      let lo := stakeBase + bank * 0x100000
      let m := if clear then
          { s.mem with
            onchip := List.filter (fun (c : Host.Cell) => !(decide (lo ≤ c.1) && decide (c.1 < lo + 0x100000))) s.mem.onchip
            poison := unpoison 1 lo 0x100000 s.mem.poison }
        else s.mem
      let s := { s with mem := { m with
        stakes := m.stakes.set bank { owner := new, token := BitVec.ofNat 32 (fld p 12 4) } } }
      .done (s.post (ev Ev.stakeHandover Cls.stakeBank bank 0
        ((ownerOf new).1.toNat + 256 * (ownerOf new).2 + 2 ^ 40 * b2n clear))) []

/-! ## The MEM commands (R369) -/

/-- MEM.STATUS. -/
def memStatusBody (_rq : Request) (s : State) : Verdict :=
  let m := s.mem
  .done s
    (le 1 (b2n m.contiguous) ++ le 1 m.retired.length ++ le 1 (m.pendingRetire.length + b2n m.reforming.isSome)
      ++ le 1 m.rowsPending.length
      ++ le 4 (maskOf m.retired) ++ le 4 m.weaveCorrected.toNat ++ le 4 m.weaveUncorrectable.toNat
      ++ le 4 m.hbmCorrected.toNat ++ le 4 m.hbmUncorrectable.toNat ++ le 4 ((s.aon - m.scrubPassAt) / 1024000)
      ++ le 4 m.violations.toNat ++ zeros 4)

/-- A region in the layout of MEM.REGIONS. -/
def regionBytes (r : Region) : List Byte :=
  le 4 r.base ++ le 4 r.limit ++ le 1 (b2n r.r + 2 * b2n r.w + 4 * b2n r.x + 8 * b2n r.enable) ++ zeros 7

/-- MEM.REGIONS. -/
def memRegionsBody (rq : Request) (s : State) : Verdict :=
  let m := fld rq.payload 0 1
  checked [(decide (m < 12), 0)] (.done s ((List.range 8).flatMap (fun i => regionBytes (s.region m i))))

/-- MEM.STAKE_STATUS.  A handover clears a bank before its response, so that none is seen clearing. -/
def memStakeStatusBody (rq : Request) (s : State) : Verdict :=
  let k := fld rq.payload 0 1
  let o := ownerOf (s.mem.stakes.get {} k).owner
  checked [(decide (k < 8), 0)]
    (.done s (le 1 o.1.toNat ++ zeros 3 ++ le 4 o.2 ++ le 1 (b2n (k != 6) + 2 * b2n (k == 3 || k == 4)) ++ zeros 3))

/-- MEM.BANK_RETIRE (R365). -/
def memBankRetireBody (rq : Request) (s : State) : Verdict :=
  let b := fld rq.payload 0 1
  checked [(decide (b < 32), 0)] <|
    if s.bankGoing b then refuseAs Rc.bankAlreadyRetired
    else if 4 ≤ s.banksGoing then refuseAs Rc.retireLimit
    else .accept (s.retireBank
      { bank := b, origin := .mbx rq.mbx.val, reason := 0, waiter := some (s.waiterOf rq 0x0B04) })

/-- MEM.SCRUB_SET. -/
def memScrubSetBody (rq : Request) (_s : State) : Verdict :=
  checked (scrubFields rq.payload) (.stage (.scrub (scrubOf rq.payload)))

/-- An error record in the layout of MEM.ERRORS. -/
def errBytes (e : ErrRec) : List Byte :=
  le 1 e.kind ++ le 1 e.master ++ le 1 e.unit ++ zeros 1 ++ le 4 e.count.toNat ++ le 8 e.address
    ++ le 8 (e.aon % 2 ^ 48 + 2 ^ 48 * (e.boot % 65536))

/-- MEM.ERRORS. -/
def memErrorsBody (rq : Request) (s : State) : Verdict :=
  let k := fld rq.payload 0 1
  checked [(decide (k < 3), 0)] <|
    let l := s.mem.records.get [] k
    .done s (l.flatMap errBytes ++ zeros (24 * (16 - l.length)))

/-- MEM.HBM_ROWS. -/
def memHbmRowsBody (_rq : Request) (s : State) : Verdict :=
  let l := s.mem.rowsPending
  .done s (le 4 l.length ++ l.flatMap (fun r => le 1 r.pseudo ++ le 1 r.bank ++ zeros 2 ++ le 4 r.row)
    ++ zeros (8 * (16 - l.length)))

/-- MEM.CLEAR: the counters of MEM.STATUS. -/
def memClearBody (rq : Request) (s : State) : Verdict :=
  checked [(fld rq.payload 0 1 == 1, 0)]
    (.done { s with mem := { s.mem with
      weaveCorrected := 0, weaveUncorrectable := 0, hbmCorrected := 0, hbmUncorrectable := 0, violations := 0 } } [])

/-- MEM.GET. -/
def memGetBody (rq : Request) (s : State) : Verdict := .done s (scrubBytes (s.readCfg rq).scrub)

end Sys2Proof.Machine
end

