-- ==== Sys2Proof/Machine/Dma.lean ====
section
/-!
DEFINITION. The DMA engine (R372–R391): arbitration, list fetch, the pairs of a transfer, halts, and the
DMA commands.
-/

namespace Sys2Proof.Machine

open Sys2Proof

/-! ## Permissions (R381) -/

/-- How many of `n` bytes from an address on a channel's owner may reach in a space, before the first that
it may not (R381). -/
def State.permitted (s : State) (o : Option Nat) (system : Bool) (space a n : Nat) : Nat :=
  match space with
  | 0 => min n (2 ^ 48 - a)
  | 1 => min n ((if system then hbmEnd else hbmUserEnd) - a)
  | 2 => if system then min n (s.weaveTop - a) else 0
  | _ =>
    if a < stakeBase then 0
    else
      let own (k : Nat) : Bool := decide (k < 8) && (s.mem.stakes.get {} k).owner == o
      let first := (a - stakeBase) / 0x100000
      let run := ((List.range 8).takeWhile (fun i => own (first + i))).length
      min n (stakeBase + (first + run) * 0x100000 - a)

/-- The number of a space's memory in `Mem.poison`. -/
def spaceSource : Nat → Nat
  | 1 => 2
  | 2 => 0
  | _ => 1

/-- How many of `n` bytes from an address can be read before a 32-byte word that holds poison (R361, R382). -/
def State.unpoisoned (s : State) (space a n : Nat) : Nat :=
  if space = 0 then n
  else
    let l := s.mem.poison.filter (fun w => w.1 == spaceSource space && decide (w.2 / 32 * 32 < a + n)
      && decide (a < w.2 / 32 * 32 + 32))
    l.foldl (fun m w => min m (w.2 / 32 * 32 - a)) n

/-- Bytes of HBM or of an on-chip memory. -/
def State.spaceRead (s : State) (space a n : Nat) : List Byte :=
  if space = 1 then s.hbmRead a n else s.onchipRead a n

/-- The most bytes that a host read requests, and that a host write carries (R46, R382).
DESIGN CHOICE, log entry 164. -/
def State.maxRead (s : State) : Nat := 128 * 2 ^ (Config.readRequestCode s.tick).val
def State.maxPayload (s : State) : Nat := 128 * 2 ^ (Config.payloadCode s.tick).val

/-- Host writes of a channel, none beyond a multiple of the maximum payload size (R382). -/
def hostWrites (c size : Nat) : Nat → Nat → List Byte → State → State
  | 0, _, _, s => s
  | fuel + 1, a, bs, s =>
    if bs.isEmpty then s
    else
      let n := size - a % size
      hostWrites c size fuel (a + n) (bs.drop n) (s.emit (.hostWrite c a (bs.take n)))

/-- Bytes are written to a space; those for the host leave the device. -/
def State.spaceWrite (c space a : Nat) (bs : List Byte) (s : State) : State :=
  match space with
  | 0 => hostWrites c s.maxPayload (bs.length + 1) a bs s
  | 1 => s.areaWrite a bs
  | _ => s.onchipWrite a bs

/-! ## Elements (R377–R379) -/

/-- An element as fetched, with its position in fetch order (R377). -/
def elementOf (bs : List Byte) (pos : Nat) : Element :=
  let f := fld bs 9 1
  { address := fld bs 0 6, length := fld bs 6 3, end_ := bit f 0, link := bit f 1, ring := bit f 2, irq := bit f 3
    space := fld bs 10 1, pos := pos }

/-- An element that R378 calls valid. -/
def Element.valid (e : Element) : Bool :=
  if e.link then e.length == 0 && !e.end_ && e.address % 16 == 0 && !e.irq
  else e.length != 0 && !e.ring && decide (e.space < 4)

/-- Bytes of a list's current element that are still to be used. -/
def ListPos.left (p : ListPos) : Nat := match p.cur with
  | some e => e.length - p.used
  | none => 0

/-- A list has ended (R380). -/
def ListPos.over_ (p : ListPos) : Bool := p.cur.isNone && p.next.isNone

/-- The address of a list's next byte. -/
def ListPos.at_ (p : ListPos) : Nat := match p.cur with
  | some e => e.address + p.used
  | none => 0

/-- The space of a list's current element. -/
def ListPos.curSpace (p : ListPos) : Nat := match p.cur with
  | some e => e.space
  | none => 0

/-- The list takes an element: a LINK moves the fetch, RING resets the hop count (R378, R379). -/
def ListPos.take (p : ListPos) (e : Element) : ListPos :=
  if e.link then { p with next := some e.address, hops := if e.ring then 0 else p.hops + 1, fetched := p.fetched + 1 }
  else
    { p with
      next := if e.end_ then none else p.next.map (· + 16)
      hops := p.hops + 1, fetched := p.fetched + 1, cur := some e, used := 0 }

/-- `n` more bytes of the current element are used. -/
def ListPos.advance (p : ListPos) (n : Nat) : ListPos :=
  if p.left ≤ n then { p with cur := none, used := 0 } else { p with used := p.used + n }

/-- The IRQ of the current element is not to be posted: some of its bytes are passed over (R385, R387). -/
def ListPos.silence (p : ListPos) : ListPos := { p with cur := p.cur.map (fun e => { e with irq := false }) }

/-- The element's position in its list, or that of the element to be fetched. -/
def ListPos.position (p : ListPos) : Nat := match p.cur with
  | some e => e.pos
  | none => p.fetched

/-! ## Halts (R386, R387) -/

/-- What failed: the direction (0 read, 1 write, 2 list fetch), the list, the address and its space. -/
structure Failure where
  direction : Nat
  list : Nat
  address : Nat
  space : Nat
  element : Nat
  deriving DecidableEq, Repr

/-- DMA_HALTED (R391). -/
def haltedBody (c : Nat) (x : DmaChan) : EventBody :=
  ev Ev.dmaHalted Cls.dmaChannel c x.haltReason
    (x.failAddress % 2 ^ 48 + 2 ^ 48 * x.failSpace + 2 ^ 50 * x.failDirection + 2 ^ 52 * x.failList)

/-- A request that has failed is to be issued again. -/
def DmaReply.retry : DmaReply → DmaReply
  | .failed _ => .again
  | r => r

/-- What has failed of a channel's requests is to be issued again, or fetched again (R387). -/
def DmaChan.retry (x : DmaChan) : DmaChan :=
  { x with
    reads := x.reads.map (fun r => { r with reply := r.reply.retry })
    fetching := match x.fetching with
      | some (_, .failed _) => none
      | f => f }

/-- A channel halts and frees its unit; a SYSTEM channel's halt posts no event (R386, R388). -/
def State.dmaHalt (c : Nat) (reason : Reason) (f : Failure) (s : State) : State :=
  let x := { (s.chan32 c).retry with
    state := .halted, unit := none, memRead := none, haltReason := reason
    failDirection := f.direction, failList := f.list, failAddress := f.address, failElement := f.element
    failSpace := f.space }
  let s := s.setChan32 c x
  if 28 ≤ c then s else s.post (haltedBody c x)

/-- A data failure at a list's next byte: the first failing 32-byte word (R387). -/
def dataFailure (direction list : Nat) (p : ListPos) (a : Nat) : Failure :=
  { direction := direction, list := list, address := a / 32 * 32, space := p.curSpace, element := p.position }

/-- A failure of a list fetch. -/
def fetchFailure (list : Nat) (p : ListPos) : Failure :=
  { direction := 2, list := list, address := p.next.getD 0, space := p.space, element := p.fetched }

/-- A space's access is denied or its word poisoned: a bus error, recorded as a violation on chip (R355,
R359, R381). -/
def State.dmaDenied (c : Nat) (f : Failure) (write poisoned : Bool) (s : State) : State :=
  let s := if poisoned || f.space < 2 then s else s.violation 5 f.address (if write then .write else .read)
  s.dmaHalt c Rc.busError f

/-! ## A transfer's next action -/

/-- What a channel needs next. -/
inductive DmaNeed where
  | fetch (list : Nat) | take | read (n : Nat) | again | write | fail | wait | done | mismatch
  deriving DecidableEq, Repr

/-- The bytes of a request have been read. -/
def DmaRead.isRead (r : DmaRead) : Bool := match r.reply with
  | .got _ => true
  | _ => false

/-- A request has failed. -/
def DmaRead.hasFailed (r : DmaRead) : Bool := match r.reply with
  | .failed _ => true
  | _ => false

/-- The bytes that have been read or asked for and not yet written. -/
def DmaChan.pending (x : DmaChan) : Nat := x.reads.foldl (fun a r => a + r.n) 0

/-- What remains to be asked for of the current pair. -/
def DmaChan.pairLeft (x : DmaChan) : Nat := min x.gather.left (x.scatter.left - x.pending)

/-- The length of a pair that is to be copied from its end, since its destination begins within its source (R383). -/
def DmaChan.backward (x : DmaChan) : Option Nat :=
  if x.reads.isEmpty && x.gather.curSpace == x.scatter.curSpace && decide (x.gather.at_ < x.scatter.at_)
    && decide (x.scatter.at_ < x.gather.at_ + x.pairLeft) then some x.pairLeft else none

/-- Words that remain of the current elements meet (R384). -/
def DmaChan.wordsMeet (x : DmaChan) : Bool :=
  let g := x.gather
  let d := x.scatter
  decide (g.at_ / 32 * 32 < d.at_ + d.left) && decide (d.at_ / 32 * 32 < (g.at_ + g.left + 31) / 32 * 32)

/-- How many bytes the channel may ask for next: as many as the 4 KiB staging buffer takes (R375).  Of the host it asks
ahead of the writes, where none of these reaches what is asked for (R384); else it reads pair by pair. -/
def DmaChan.ahead (x : DmaChan) : Nat :=
  match x.back with
  | some (n, k) => if x.reads.isEmpty then min 4096 (n - k) else 0
  | none =>
    let room := 4096 - x.pending
    let host := x.gather.curSpace == 0
    let apart := host && x.scatter.curSpace != 0
    if x.reads.isEmpty || (host && decide (x.pending < x.scatter.left) && (apart || !x.wordsMeet)) then
      min room (if apart then x.gather.left else x.pairLeft)
    else 0

/-- The next action of a transfer (R379, R380, R383). -/
def DmaChan.need (x : DmaChan) : DmaNeed :=
  match x.fetching with
  | some (_, .got _) => .take
  | some (_, .failed _) => .fail
  | some _ => .wait
  | none =>
    if x.reads.isEmpty && x.gather.over_ then (if x.scatter.over_ then .done else .mismatch)
    else if x.scatter.over_ then .mismatch
    else if x.reads.isEmpty && x.gather.cur.isNone then .fetch 0
    else if x.scatter.cur.isNone then .fetch 1
    else if (x.reads.head?.map DmaRead.isRead).getD false then .write
    else if x.reads.any DmaRead.hasFailed then .fail
    else if x.reads.any (fun r => r.reply == .again) then .again
    else if 0 < x.ahead then .read x.ahead
    else .wait

/-- A list of a channel by its number: 0 gather, 1 scatter. -/
def DmaChan.list (x : DmaChan) (k : Nat) : ListPos := if k = 0 then x.gather else x.scatter
def DmaChan.setList (x : DmaChan) (k : Nat) (p : ListPos) : DmaChan :=
  if k = 0 then { x with gather := p } else { x with scatter := p }

/-- A SYSTEM channel (R372). -/
def isSystem (c : Nat) : Bool := decide (28 ≤ c)

/-- A data element has finished: it counts, and an IRQ element posts DMA_ELEMENT (R385, R390). -/
def State.elementDone (c k pos : Nat) (irq : Bool) (s : State) : State :=
  let x := s.chan32 c
  let s := s.setChan32 c { x with elementsDone := x.elementsDone + 1 }
  if irq then s.post (ev Ev.dmaElement Cls.dmaChannel c 0 (pos % 2 ^ 32 + 2 ^ 32 * k)) else s

/-- A gather element has finished once all its bytes have been asked for and read (R385). -/
def State.gatherDone (c pos : Nat) (irq : Bool) (s : State) : State :=
  let x := s.chan32 c
  if x.gather.cur.any (fun e => e.pos == pos) || x.reads.any (fun r => r.pos == pos && !r.isRead) then s
  else s.elementDone c 0 pos irq

/-- The scatter list goes on by `n` bytes, and its element may finish. -/
def State.scatterOn (c n : Nat) (s : State) : State :=
  let x := s.chan32 c
  match x.scatter.cur with
  | none => s
  | some e =>
    let s := s.setChan32 c { x with scatter := x.scatter.advance n }
    if x.scatter.left ≤ n then s.elementDone c 1 e.pos e.irq else s

/-- A fetched element is taken, or halts the channel; either way it has been fetched, and counts as a hop (R378,
R379). DEDUCED, log entry 101. -/
def State.dmaElement (c k : Nat) (bs : List Byte) (s : State) : State :=
  let x := s.chan32 c
  let p := x.list k
  let e := elementOf bs p.fetched
  if e.valid then s.setChan32 c (x.setList k (p.take e))
  else (s.setChan32 c { x.setList k { p with hops := p.hops + 1 } with failLink := e.link, failEnd := e.end_ }).dmaHalt c
    Rc.elementInvalid (fetchFailure k p)

/-- The next element of a list is fetched, or its 32-byte word requested of the host (R378–R382). -/
def State.dmaFetch (c k : Nat) (s : State) : State :=
  let x := s.chan32 c
  let p := x.list k
  let a := p.next.getD 0
  if x.hopLimit < p.hops + 1 then s.dmaHalt c Rc.loop (fetchFailure k p)
  else if s.permitted x.owner (isSystem c) p.space a 16 < 16 then s.dmaDenied c (fetchFailure k p) false false
  else if p.space = 0 then
    (s.setChan32 c { x with fetching := some (k, .out s.tick) }).emit (.hostRead c (a / 32 * 32) 32)
  else if s.unpoisoned p.space a 16 < 16 then s.dmaDenied c (fetchFailure k p) false true
  else s.dmaElement c k (s.spaceRead p.space a 16)

/-- An element that the host has answered is taken. -/
def State.dmaTake (c : Nat) (s : State) : State :=
  let x := s.chan32 c
  match x.fetching with
  | some (k, .got bs) => (s.setChan32 c { x with fetching := none }).dmaElement c k bs
  | _ => s

/-- `n` bytes of the gather element, from an address on, are read, or requested of the host, in whole 32-byte words
(R382). -/
def State.dmaAsk (c a n : Nat) (s : State) : State :=
  let x := s.chan32 c
  let p := x.gather
  let lo := a / 32 * 32
  let e : Nat × Bool := match p.cur with
    | some e => (e.pos, e.irq)
    | none => (0, false)
  let r : DmaRead := { address := a, n := n, space := p.curSpace, pos := e.1, irq := e.2, base := lo
                       len := (a + n + 31) / 32 * 32 - lo
                       reply := if p.curSpace = 0 then .out s.tick else .got (s.spaceRead p.curSpace a n) }
  let s := s.setChan32 c { x with
    reads := x.reads ++ [r], gather := if x.back.isSome then p else p.advance n }
  if p.curSpace = 0 then s.emit (.hostRead c r.base r.len)
  else if x.back.isSome then s else s.gatherDone c r.pos r.irq

/-- How many bytes of `n` from an address a channel may read before a denied or poisoned word. -/
def State.readable (s : State) (c space a n : Nat) : Nat :=
  s.unpoisoned space a (s.permitted (s.chan32 c).owner (isSystem c) space a n)

/-- A pair that is to be copied from its end begins: nothing moves unless all of it can. DEDUCED, log entry 101. -/
def State.dmaBackward (c n : Nat) (s : State) : State :=
  let x := s.chan32 c
  let g := x.gather
  let d := x.scatter
  let may := s.permitted x.owner (isSystem c) g.curSpace g.at_ n
  let ok := s.readable c g.curSpace g.at_ n
  let put := s.permitted x.owner (isSystem c) d.curSpace d.at_ n
  if ok < n && decide (ok ≤ put) then s.dmaDenied c (dataFailure 0 0 g (g.at_ + ok)) false (decide (ok < may))
  else if put < n then s.dmaDenied c (dataFailure 1 1 d (d.at_ + put)) true false
  else s.setChan32 c { x with back := some (n, 0) }

/-- Bytes are read, or requested of the host up to a multiple of its maximum read request size (R382). -/
def State.dmaRead (c n : Nat) (s : State) : State :=
  let x := s.chan32 c
  let p := x.gather
  match x.back, x.backward with
  | some (len, k), _ =>
    let last := p.at_ + (len - k)
    let m := if p.curSpace = 0 then min n (last - (last - 1) / s.maxRead * s.maxRead) else n
    s.dmaAsk c (last - m) m
  | none, some len => s.dmaBackward c len
  | none, none =>
    let a := p.at_
    let ok := s.permitted x.owner (isSystem c) p.curSpace a n
    if ok = 0 then s.dmaDenied c (dataFailure 0 0 p a) false false
    else if p.curSpace = 0 then s.dmaAsk c a (min ok (s.maxRead - a % s.maxRead))
    else
      let m := s.unpoisoned p.curSpace a ok
      if m = 0 then s.dmaDenied c (dataFailure 0 0 p a) false true else s.dmaAsk c a m

/-- Requests that have failed are issued again (R387). -/
def State.dmaAgain (c : Nat) (s : State) : State :=
  let x := s.chan32 c
  let s := s.setChan32 c { x with
    reads := x.reads.map (fun r => if r.reply == .again then { r with reply := .out s.tick } else r) }
  (x.reads.filter (fun r => r.reply == .again)).foldl (fun (s : State) r => s.emit (.hostRead c r.base r.len)) s

/-- Bytes of a later pair, read together with those of the pair that is written, take what it writes to their source
(R384): the first `skip` of them belong to this pair. -/
def forwarded (skip a d : Nat) (bs data : List Byte) : List Byte :=
  data.mapIdx (fun i b => if skip ≤ i && decide (d ≤ a + i) && decide (a + i < d + bs.length) then bs.getD (a + i - d) 0 else b)

/-- Bytes that have been read are written to the scatter element (R382, R387). -/
def State.dmaWrite (c : Nat) (s : State) : State :=
  let x := s.chan32 c
  let p := x.scatter
  match x.reads with
  | { reply := .got bs, .. } :: rest =>
    let r := x.reads.headD {}
    match x.back with
    | some (n, k) =>
      let d := p.at_ + (n - k - r.n)
      let ok := s.permitted x.owner (isSystem c) p.curSpace d r.n
      if ok < r.n then s.dmaDenied c (dataFailure 1 1 p (d + ok)) true false
      else
        let s := s.spaceWrite c p.curSpace d bs
        let x := { x with reads := rest, movedOnUnit := x.movedOnUnit + r.n }
        if k + r.n < n then s.setChan32 c { x with back := some (n, k + r.n) }
        else
          let s := s.setChan32 c { x with
            back := none, gather := x.gather.advance n, bytesDone := if x.gap then x.bytesDone else x.bytesDone + n }
          (s.gatherDone c r.pos r.irq).scatterOn c n
    | none =>
      let ok := s.permitted x.owner (isSystem c) p.curSpace p.at_ (min r.n p.left)
      if ok = 0 then s.dmaDenied c (dataFailure 1 1 p p.at_) true false
      else
        let out := bs.take ok
        let s := s.spaceWrite c p.curSpace p.at_ out
        let later := if r.space = p.curSpace then forwarded (p.left - ok) (r.address + ok) p.at_ out (bs.drop ok) else bs.drop ok
        let s := s.setChan32 c { x with
          reads := if r.n ≤ ok then rest
            else { r with address := r.address + ok, n := r.n - ok, reply := .got later } :: rest
          movedOnUnit := x.movedOnUnit + ok, bytesDone := if x.gap then x.bytesDone else x.bytesDone + ok }
        s.scatterOn c ok
  | _ => s

/-- The first failure of a channel's requests in stream order halts it (R386, R387). -/
def State.dmaFail (c : Nat) (s : State) : State :=
  let x := s.chan32 c
  match x.fetching, x.reads.find? DmaRead.hasFailed with
  | some (k, .failed reason), _ => s.dmaHalt c reason (fetchFailure k (x.list k))
  | _, some { reply := .failed reason, base := a, space := sp, pos := e, .. } =>
    s.dmaHalt c reason { direction := 0, list := 0, address := a, space := sp, element := e }
  | _, _ => s

/-- One action of a RUNNING channel. DEDUCED, log entry 101. -/
def State.dmaStep (c : Nat) (s : State) : State :=
  let x := s.chan32 c
  match x.need with
  | .fetch k => s.dmaFetch c k
  | .take => s.dmaTake c
  | .read n => s.dmaRead c n
  | .again => s.dmaAgain c
  | .write => s.dmaWrite c
  | .fail => s.dmaFail c
  | .wait => s
  | .done => s.setChan32 c { x with ended := true, memRead := none }
  | .mismatch => s.dmaHalt c Rc.dmaLengthMismatch
      { direction := 0, list := 0, address := 0, space := 0, element := x.gather.fetched }

/-- What a channel does next asks HBM or an on-chip memory (R386). -/
def DmaChan.asksMemory (x : DmaChan) : Bool :=
  match x.need with
  | .fetch k => (x.list k).space != 0
  | .read _ => x.gather.curSpace != 0
  | .write => x.scatter.curSpace != 0
  | _ => false

/-- A channel stops for now: a request to a memory that it makes next is outstanding from here on (R386). -/
def State.dmaPause (c : Nat) (s : State) : State :=
  let x := s.chan32 c
  if x.asksMemory then s.setChan32 c { x with memRead := some s.tick } else s

/-- A channel goes on until it ends, halts, waits for the host, or has moved as much as `goal` since it took its unit;
it takes at most `fuel` actions in one step. -/
def State.dmaGo (c goal : Nat) : Nat → State → State
  | 0, s => s.dmaPause c
  | fuel + 1, s =>
    let x := s.chan32 c
    if x.state != .running || x.ended || x.need == .wait then s
    else if goal ≤ x.movedOnUnit then s.dmaPause c
    else State.dmaGo c goal fuel (s.dmaStep c)

/-- The actions that one step of the model allows a channel. -/
def dmaFuel : Nat := 131072

/-- A RUNNING channel goes on, to the next 64 KiB. -/
def State.dmaRun (c : Nat) (s : State) : State :=
  let x := s.chan32 c
  State.dmaGo c ((x.movedOnUnit / 65536 + 1) * 65536) dmaFuel (s.setChan32 c { x with memRead := none })

/-! ## Units (R374, R375) -/

/-- The execution units in service (R36, R38). -/
def State.dmaUnits (s : State) : List Nat :=
  let rest := s.restingOf 4
  ((s.healthy 4).filter (fun u => some u != rest && s.lentUnit 4 != some u)).take (s.activeCount 4)

/-- DMA runs in READY, ARMED, PRINTING, PAUSED and FAULT, while its domain does; not from the begin of an entry to
DOZE, SLEEP or OFF-AON to the return to READY (R389). -/
def State.dmaRuns (s : State) : Bool :=
  s.linkRuns && (s.sys.operating || s.sys == .fault) && !s.gatedPower && s.entering.isNone && !s.underTest 20

/-- A channel loses its unit at a beat and waits again (R375). -/
def State.dmaPreemptChan (c : Nat) (counts : Bool) (s : State) : State :=
  let x := s.chan32 c
  if x.state != .running then s
  else s.setChan32 c { x with
    state := .preempted, unit := none, waitsFrom := s.tick, memRead := none
    preemptions := if counts then x.preemptions + 1 else x.preemptions }

/-- Every running channel is pre-empted: entry to DOZE or SLEEP (R389). -/
def State.dmaPreemptAll (s : State) : State :=
  (List.range 32).foldl (fun (s : State) (c : Nat) => s.dmaPreemptChan c true) s

/-- The channels in a state. -/
def State.channelsIn (s : State) (st : DmaState) : List Nat := (List.range 32).filter (fun c => (s.chan32 c).state == st)

/-- The waiting channel of highest priority, and among equals the one that has waited longest (R374). -/
def State.bestWaiting (s : State) : Option Nat :=
  (s.channelsIn .preempted).foldl (fun (best : Option Nat) (c : Nat) =>
    match best with
    | none => some c
    | some b =>
      let x := s.chan32 c
      let y := s.chan32 b
      if y.priority < x.priority || (x.priority == y.priority && decide (x.waitsFrom < y.waitsFrom)) then some c else best) none

/-- A unit in service that no channel holds. -/
def State.freeDmaUnit (s : State) : Option Nat :=
  s.dmaUnits.find? (fun u => (s.pool 4).wants != some u && (s.channelsIn .running).all (fun c => (s.chan32 c).unit != some u))

/-- Free units take waiting channels, and these go on. -/
def assignUnits : Nat → State → State
  | 0, s => s
  | fuel + 1, s =>
    match s.freeDmaUnit, s.bestWaiting with
    | some u, some c =>
      let s := s.setChan32 c { s.chan32 c with
        state := .running, unit := some u, heldFrom := s.tick, movedOnUnit := 0 }
      assignUnits fuel (s.dmaRun c)
    | _, _ => s

/-- DMA_UNIT_ASSIGN (R374): a unit that rests or is retired first gives up its channel (R37, R375). -/
def dmaUnitAssign (s : State) : State :=
  let s := s.rotateWaiting
  if !s.dmaRuns then s
  else
    let units := s.dmaUnits
    let lost := (s.channelsIn .running).filter (fun c => match (s.chan32 c).unit with
      | some u => !units.contains u || (s.pool 4).wants == some u
      | none => true)
    assignUnits 5 (lost.foldl (fun (s : State) (c : Nat) => s.dmaPreemptChan c true) s).rotateWaiting

/-- The running channel of lowest priority; among equals, the one whose unit has held it longest (R375). -/
def State.victim (s : State) : Option Nat :=
  (s.channelsIn .running).foldl (fun (best : Option Nat) (c : Nat) =>
    match best with
    | none => some c
    | some b =>
      let x := s.chan32 c
      let y := s.chan32 b
      if x.priority < y.priority || (x.priority == y.priority && decide (x.heldFrom < y.heldFrom)) then some c else best) none

/-- DMA_PREEMPT (R375). -/
def dmaPreempt (s : State) : State :=
  if !s.dmaRuns || s.freeDmaUnit.isSome then s
  else match s.bestWaiting, s.victim with
    | some w, some v =>
      if (s.chan32 v).priority < (s.chan32 w).priority then s.dmaPreemptChan v true else s
    | _, _ => s

/-- DMA_YIELD (R374): a channel that has moved 64 KiB yields to a waiting one of equal priority, or else
goes on. DEDUCED, log entry 101. -/
def dmaYield (s : State) : State :=
  if !s.dmaRuns then s
  else
    (s.channelsIn .running).foldl (fun (s : State) (c : Nat) =>
      let x := s.chan32 c
      if !x.ended && decide (65536 ≤ x.movedOnUnit) &&
          (s.channelsIn .preempted).any (fun d => (s.chan32 d).priority == x.priority) then s.dmaPreemptChan c false
      else s.dmaRun c) s

/-! ## Host reads and timeouts (R386) -/

/-- What a completion says of a request for `len` bytes, of which `n` are used from an offset on. -/
def completionReply (r : Completion) (len from_ n : Nat) : DmaReply :=
  match r with
  | .data bs => if bs.length = len then .got ((bs.drop from_).take n) else .failed Rc.busError
  | .error => .failed Rc.busError
  | .poisoned => .failed Rc.busError

/-- The first outstanding request for an address takes its completion; it, and the list then. -/
def answerRead (a : Nat) (r : Completion) : List DmaRead → Option (DmaRead × List DmaRead)
  | [] => none
  | x :: l =>
    match x.reply with
    | .out _ =>
      if x.base = a then
        let y := { x with reply := completionReply r x.len (x.address - x.base) x.n }
        some (y, y :: l)
      else (answerRead a r l).map (fun p => (p.1, x :: p.2))
    | _ => (answerRead a r l).map (fun p => (p.1, x :: p.2))

/-- A RUNNING channel goes on, where DMA runs. -/
def State.dmaGoOn (c : Nat) (s : State) : State :=
  if (s.chan32 c).state == .running && s.dmaRuns then s.dmaRun c else s

/-- DMA_HOST_COMPLETION: the completion of a request is staged, or fails it; one that no request waits for is
discarded as unexpected (R386). -/
def dmaHostCompletion (c a : Nat) (r : Completion) (s : State) : State :=
  let x := s.chan32 c
  let at_ (k : Nat) : Nat := (x.list k).next.getD 0
  match x.fetching, answerRead a r x.reads with
  | some (k, .out _), none =>
    if a = at_ k / 32 * 32 then
      (s.setChan32 c { x with fetching := some (k, completionReply r 32 (at_ k % 32) 16) }).dmaGoOn c
    else { s with host := { s.host with aer := s.host.aer + 1 } }
  | _, some (y, l) =>
    let s := s.setChan32 c { x with reads := l }
    let s := if x.back.isNone && y.isRead then s.gatherDone c y.pos y.irq else s
    s.dmaGoOn c
  | _, none => { s with host := { s.host with aer := s.host.aer + 1 } }

/-- A request has been outstanding for 50 ms (20,000,000 ticks). -/
def DmaReply.late (now : Nat) : DmaReply → Bool
  | .out t => decide (t + 20000000 ≤ now)
  | _ => false

/-- DMA_HOST_TIMEOUT: requests that the host has left unanswered for 50 ms fail, each reported to AER (R386). -/
def dmaHostTimeout (c : Nat) (s : State) : State :=
  let x := s.chan32 c
  let late := (x.reads.filter (fun r => r.reply.late s.tick)).length
    + (if x.fetching.any (fun f => f.2.late s.tick) then 1 else 0)
  if late = 0 then s
  else
    let s := { s with host := { s.host with aer := s.host.aer + late } }
    let x := { x with
      reads := x.reads.map (fun r => if r.reply.late s.tick then { r with reply := .failed Rc.hostTimeout } else r)
      fetching := x.fetching.map (fun f => if f.2.late s.tick then (f.1, .failed Rc.hostTimeout) else f) }
    (s.setChan32 c x).dmaGoOn c

/-- DMA_MEM_TIMEOUT: 100 µs (40,000 ticks) without a response of HBM or on-chip memory. -/
def dmaMemTimeout (c : Nat) (s : State) : State :=
  let x := s.chan32 c
  match x.memRead with
  | none => s
  | some t =>
    if s.tick < t + 40000 || x.state != .running || !s.dmaRuns then s
    else s.dmaHalt c Rc.timeout (match x.need with
      | .fetch k => fetchFailure k (x.list k)
      | .write => dataFailure 1 1 x.scatter x.scatter.at_
      | _ => dataFailure 0 0 x.gather x.gather.at_)

/-- DMA_TRANSFER_END (R385). -/
def dmaTransferEnd (c : Nat) (s : State) : State :=
  let x := s.chan32 c
  if x.state != .running || !x.ended then s
  else
    (s.setChan32 c { x with state := .idle, unit := none, ended := false, memRead := none }).post
      (ev Ev.dmaDone Cls.dmaChannel c 0 (x.bytesDone % 2 ^ 48))

/-! ## The DMA commands (R390) -/

/-- The owner's class and id of a channel (R372, R390). -/
def dmaOwner (x : DmaChan) : Byte × Nat :=
  if x.state == .closed then (0, 0) else ownerOf x.owner

/-- Another owner holds the channel (R91, R372). -/
def dmaOwned (c : Nat) (x : DmaChan) : Verdict :=
  .refuse Rc.dmaChannelOwned Cls.dmaChannel c (ownerPayload (dmaOwner x).1 (dmaOwner x).2)

/-- A command acts on a channel of its own mailbox; on a CLOSED one it is refused with a code of its own (R373, R390). -/
def onChannel (closed : Reason) (rq : Request) (s : State) (k : Nat → DmaChan → Verdict) : Verdict :=
  let c := fld rq.payload 0 1
  checked [(decide (c < 32), 0)] <|
    let x := s.chan32 c
    if x.state == .closed then refuseObj closed Cls.dmaChannel c
    else if x.owner != some rq.mbx.val then dmaOwned c x
    else k c x

/-- DMA.OPEN. DEDUCED, log entry 101. -/
def dmaOpenBody (rq : Request) (s : State) : Verdict :=
  let p := rq.payload
  let c := fld p 0 1
  let hops := fld p 4 4
  checked [(decide (c < 32), 0), (decide (fld p 1 1 < 4), 1), (decide (hops ≤ 16777216), 4)] <|
    let x := s.chan32 c
    if x.state != .closed && x.owner != some rq.mbx.val then dmaOwned c x
    else if x.state != .closed && x.state != .idle then refuseObj Rc.channelActive Cls.dmaChannel c
    else
      let s := s.logOpen { origin := .mbx rq.mbx.val, cls := Cls.dmaChannel, obj := c }
      .done (s.setChan32 c { ({} : DmaChan) with
        state := .idle, owner := some rq.mbx.val, priority := fld p 1 1, hopLimit := if hops = 0 then 65536 else hops }) []

/-- DMA.CLOSE. -/
def dmaCloseBody (rq : Request) (s : State) : Verdict :=
  onChannel Rc.channelActive rq s (fun c x =>
    if x.state != .idle then refuseObj Rc.channelActive Cls.dmaChannel c
    else
      let s := s.logOpen { origin := .mbx rq.mbx.val, cls := Cls.dmaChannel, obj := c }
      .done (s.setChan32 c {}) [])

/-- A list may lie in a space: the owner may reach some part of it (R381, R390).  What it may not reach halts the
channel. DEDUCED, log entry 101. -/
def State.listSpaceOk (s : State) (o : Option Nat) (space : Nat) : Bool :=
  decide (space < 2) || (space == 3 && (List.range 8).any (fun k => (s.mem.stakes.get {} k).owner == o))

/-- DMA.START. -/
def dmaStartBody (rq : Request) (s : State) : Verdict :=
  let p := rq.payload
  let ga := fld p 4 8
  let sa := fld p 12 8
  checked [(decide (fld p 0 1 < 32), 0), (decide (fld p 1 1 < 4), 1), (decide (fld p 2 1 < 4), 2),
      (decide (ga < 2 ^ 48), 4), (decide (sa < 2 ^ 48), 12)] <|
    onChannel Rc.channelNotOpen rq s (fun c x =>
      if x.state != .idle then refuseObj Rc.channelActive Cls.dmaChannel c
      else if ga % 16 != 0 || sa % 16 != 0 || !s.listSpaceOk x.owner (fld p 1 1) || !s.listSpaceOk x.owner (fld p 2 1) then
        refuseObj Rc.listInvalid Cls.dmaChannel c
      else
        let s := s.setChan32 c { x with
          state := .preempted, waitsFrom := s.tick, gather := { space := fld p 1 1, next := some ga }
          scatter := { space := fld p 2 1, next := some sa }, reads := [], fetching := none, back := none
          ended := false, gap := false
          bytesDone := 0, bytesSkipped := 0, elementsDone := 0 }
        .done (if s.dmaRuns then assignUnits 5 s else s) [])

/-- The codes of the channel states (R390). -/
def dmaCode : DmaState → Nat
  | .closed => 0
  | .idle => 1
  | .running => 2
  | .preempted => 3
  | .halted => 4

/-- DMA.STATUS. -/
def dmaStatusBody (rq : Request) (s : State) : Verdict :=
  let c := fld rq.payload 0 1
  checked [(decide (c < 32), 0)] <|
    let x := s.chan32 c
    let o := dmaOwner x
    .done s
      (le 1 (dmaCode x.state) ++ le 1 x.priority ++ le 1 o.1.toNat ++ le 1 o.2 ++ le 2 x.haltReason.toNat
        ++ le 1 x.failDirection ++ le 1 x.failList ++ le 8 x.failAddress ++ le 4 x.failElement ++ le 1 x.failSpace
        ++ zeros 3 ++ le 8 x.bytesDone ++ le 8 x.bytesSkipped ++ le 4 x.elementsDone.toNat
        ++ le 4 (max x.gather.hops x.scatter.hops) ++ le 4 x.preemptions.toNat ++ le 4 x.hopLimit)

/-- A HALTED channel waits for a unit again; what has failed is to be read again (R387). -/
def State.dmaRewait (c : Nat) (x : DmaChan) (s : State) : State :=
  s.setChan32 c { x.retry with state := .preempted, waitsFrom := s.tick }

/-- DMA.RESUME (R386). -/
def dmaResumeBody (rq : Request) (s : State) : Verdict :=
  onChannel Rc.notHalted rq s (fun c x =>
    if x.state != .halted then refuseObj Rc.notHalted Cls.dmaChannel c
    else if x.haltReason = Rc.dmaLengthMismatch then refuseObj Rc.actionNotAllowed Cls.dmaChannel c
    else if x.haltReason = Rc.loop then
      .done (s.dmaRewait c (x.setList x.failList { x.list x.failList with hops := 0 })) []
    else .done (s.dmaRewait c x) [])

/-- The first `n` bytes of a list of requests are dropped: what is left, how many bytes it lacked, and whether any of
the bytes dropped had not been read. -/
def dropReads : Nat → List DmaRead → List DmaRead × Nat × Bool
  | n, [] => ([], n, false)
  | n, r :: l =>
    if n = 0 then (r :: l, 0, false)
    else if n < r.n then
      let reply := match r.reply with
        | .got bs => .got (bs.drop n)
        | x => x
      ({ r with address := r.address + n, n := r.n - n, reply := reply } :: l, 0, !r.isRead)
    else
      let t := dropReads (n - r.n) l
      (t.1, t.2.1, !r.isRead || t.2.2)

/-- What remains of the pair that the channel is at: of the element whose bytes are to be written next, as much as the
scatter element still takes. -/
def DmaChan.pairRest (x : DmaChan) : Nat :=
  match x.reads with
  | [] => min x.gather.left x.scatter.left
  | r :: _ =>
    let asked := (x.reads.filter (fun q => q.pos == r.pos)).foldl (fun a q => a + q.n) 0
    let rest := if x.gather.cur.any (fun e => e.pos == r.pos) then x.gather.left else 0
    min (asked + rest) x.scatter.left

/-- Both lists pass `n` bytes of a pair, of which `skipped` have not moved (R387).  An element whose bytes are passed over
unread, or unwritten, posts no DMA_ELEMENT (R385). -/
def State.dmaPass (c n skipped : Nat) (s : State) : State :=
  let x := s.chan32 c
  let x := if x.back.isSome then { x with reads := [], back := none } else x
  let t := dropReads n x.reads
  let unread := t.2.2 || t.2.1 != 0
  let pos := match x.reads with
    | r :: _ => r.pos
    | [] => x.gather.position
  let mute := unread && x.gather.cur.any (fun e => e.pos == pos)
  let g := if mute then x.gather.silence else x.gather
  let x := { x with
    gap := true, bytesSkipped := x.bytesSkipped + skipped
    reads := if unread then t.1.map (fun r => if r.pos == pos then { r with irq := false } else r) else t.1
    gather := g.advance t.2.1, scatter := x.scatter.silence }
  let s := s.setChan32 c x
  (if unread then s.gatherDone c pos false else s).scatterOn c n

/-- What has been read before the failing word of the pair is written. -/
def State.dmaFlush (c : Nat) : Nat → State → State
  | 0, s => s
  | fuel + 1, s =>
    let x := s.chan32 c
    if (x.reads.head?.map DmaRead.isRead).getD false && x.scatter.cur.isSome
        && s.permitted x.owner (isSystem c) x.scatter.curSpace x.scatter.at_ 1 == 1 then State.dmaFlush c fuel (s.dmaWrite c)
    else s

/-- The failing pair is abandoned: the bytes before the failing word are written, both lists pass the pair, and its
unmoved bytes count (R387). DEDUCED, log entry 101. -/
def State.dmaSkipPair (c : Nat) (s : State) : State :=
  let x := s.chan32 c
  let g := x.gather
  let d := x.scatter
  match x.back, x.backward with
  | some (n, k), _ => s.dmaPass c n (n - k)
  | none, some n =>
    let k := if g.curSpace = 0 then 0 else min n (x.failAddress - (if x.failDirection = 0 then g.at_ else d.at_))
    let s := if k = 0 then s else s.spaceWrite c d.curSpace d.at_ (s.spaceRead g.curSpace g.at_ k)
    let x := s.chan32 c
    (s.setChan32 c { x with bytesDone := if x.gap then x.bytesDone else x.bytesDone + k }).dmaPass c n (n - k)
  | none, none =>
    let s := if x.failDirection = 0 then s.dmaFlush c (x.reads.length + 1) else s
    let n := (s.chan32 c).pairRest
    s.dmaPass c n n

/-- An invalid element is passed over; one that carries END ends its list. -/
def ListPos.pass (p : ListPos) (last : Bool) : ListPos :=
  { p with next := if last then none else p.next.map (· + 16), fetched := p.fetched + 1 }

/-- DMA.SKIP (R386). -/
def dmaSkipBody (rq : Request) (s : State) : Verdict :=
  onChannel Rc.notHalted rq s (fun c x =>
    if x.state != .halted then refuseObj Rc.notHalted Cls.dmaChannel c
    else if x.haltReason = Rc.elementInvalid then
      if x.failLink then refuseObj Rc.actionNotAllowed Cls.dmaChannel c
      else .done (s.dmaRewait c (x.setList x.failList ((x.list x.failList).pass x.failEnd))) []
    else if x.haltReason = Rc.loop || x.haltReason = Rc.dmaLengthMismatch || x.failDirection = 2 then
      refuseObj Rc.actionNotAllowed Cls.dmaChannel c
    else
      let s := s.dmaSkipPair c
      .done (s.dmaRewait c (s.chan32 c)) [])

/-- DMA.ABORT (R388). -/
def dmaAbortBody (rq : Request) (s : State) : Verdict :=
  onChannel Rc.channelNotOpen rq s (fun c x =>
    if x.state == .idle then .done s []
    else
      let s := s.setChan32 c { x with
        state := .idle, unit := none, reads := [], fetching := none, back := none, memRead := none, ended := false
        gather := {}, scatter := {} }
      .done (s.post (ev Ev.dmaDone Cls.dmaChannel c Rc.aborted (x.bytesDone % 2 ^ 48))) [])

/-- DMA.CLEAR. -/
def dmaClearBody (rq : Request) (s : State) : Verdict :=
  onChannel Rc.channelNotOpen rq s (fun c x =>
    checked [(fld rq.payload 1 1 == 1, 1)]
      (.done (s.setChan32 c { x with bytesSkipped := 0, elementsDone := 0, preemptions := 0 }) []))

end Sys2Proof.Machine
end

