-- ==== Sys2Proof/Machine/Otp.lean ====
section
/-!
DEFINITION. OTP operations and the OTP commands (R452–R463), and MEM.HBM_REPAIR (R363).
-/

namespace Sys2Proof.Machine

open Sys2Proof

/-! ## The queue of operations (R458, R460) -/

/-- An operation uses VQPS (R458). -/
def usesVqps : OtpOp → Bool
  | .program _ _ v _ => v
  | .repair _ v _ => v
  | _ => false

/-- EN_P7 is high only while the operation in progress selects VQPS (R397); its voltage is written before it rises
(R398), and PG7 falls with it. DEDUCED, log entry 108. -/
def State.driveVqps (s : State) : State :=
  let on := !s.otp.recheckFirst && (match s.otp.ops with
    | (op, _) :: _ => usesVqps op
    | [] => false)
  if on == s.power.enP.getLsbD 7 then s
  else if on then
    let s := s.writeVout 7
    { s with power := { s.power with enP := s.power.enP ||| 0x80, pg := s.power.pg &&& 0x7F, pgSince := s.aon } }
  else { s with power := { s.power with enP := s.power.enP &&& 0x7F, pg := s.power.pg &&& 0x7F } }

/-- An operation joins the queue (R460). -/
def State.queueOtp (op : OtpOp) (w : Waiter) (s : State) : State :=
  let first := s.otp.ops.isEmpty
  let o := { s.otp with ops := s.otp.ops ++ [(op, w)], tempLeft := if first then false else s.otp.tempLeft }
  { s with otp := o }.driveVqps

/-- The operation in progress leaves the queue with its result; a recheck that has come due starts then (R452), and
OTP.MARGIN_CHECK is no operation of R460 whose result is kept. -/
def State.endOtp (reason : Reason) (w : Waiter) (s : State) : State :=
  let rest := s.otp.ops.drop 1
  let programs := match s.otp.ops with
    | (.margin, _) :: _ => false
    | _ => true
  let o := { s.otp with
    ops := rest, tempLeft := false, recheckFirst := !rest.isEmpty && decide (4 ≤ s.otp.recheckCount)
    lastResult := if programs then reason else s.otp.lastResult }
  { s with otp := o }.driveVqps.commandDone w reason 0 0

/-- The pulses of an operation, bit by bit (R458, R460): the array after them, the cells that failed and
the result; none where the operation has not yet ended. -/
def runPulses (tempLeft : Bool) (k : Nat) : List (Nat × Nat) → List (Nat × BitPulse) → Table OtpWord → Nat →
    Option (Table OtpWord × Nat × Reason)
  | [], _, t, weak => some (t, weak, 0)
  | _ :: _, [], t, weak => if tempLeft then some (t, weak, Rc.tempRange) else none
  | (w, b) :: bits, (w', p) :: ps, t, weak =>
    let fails := b2n (!p.cell0) + b2n (!p.cell1)
    if w' != w || p.bit != b then none
    else if p.cell0 || p.cell1 then runPulses tempLeft k bits ps (programBit t w b) (weak + fails)
    else some (leaveBit t w b k false, weak + fails, Rc.programFailed)

/-- The words of a list that read otherwise in one array than in another. -/
def wordsChanged (old new : Table OtpWord) (ws : List Nat) : List Nat :=
  (ws.foldl insertNat []).filter (fun i => otpAt old i != otpAt new i)

/-- The digest of words with their addresses. -/
def wordsDigest (t : Table OtpWord) (ws : List Nat) : Word :=
  crc32c (ws.flatMap (fun i => le 2 i ++ le 4 (otpAt t i).normal.toNat))

/-- The log entry of an operation (R460): the word addresses that it changed are the object, the lowest of them, and
stand in the digests with the words. DESIGN CHOICE, log entry 159. -/
def State.logOtp (old : Table OtpWord) (op : OtpOp) (w : Waiter) (reason : Reason) (s : State) : State :=
  let ws := wordsChanged old s.otp.array ((opWrites { s.otp with array := old } op).map (·.1))
  s.logEntry { origin := .mbx w.mbx, obj := ws.headD 0, reason := reason
               old := wordsDigest old ws, new := wordsDigest s.otp.array ws }

/-- PG7 has not risen within the rail's pg_timeout (R458). -/
def State.vqpsLate (s : State) : Bool :=
  !s.power.pg.getLsbD 7 && decide (s.power.pgSince + (s.railRec 7).pgTimeout * 1024 ≤ s.aon)

/-- OTP_OPERATION_DONE: the operation in progress completes or stops (R458, R460).  With VQPS it programs once PG7 is
high, and is refused once its time has passed.  DESIGN CHOICE, log entry 124. -/
def otpOperationDone (x : OtpPulses) (s : State) : State :=
  match s.otp.ops with
  | [] => s
  | (.margin, _) :: _ => s
  | (op, w) :: _ =>
    let powered := !usesVqps op || s.power.pg.getLsbD 7 || x.sourceGood
    if s.otp.recheckFirst || s.underTest 22 then s
    else if !powered then (if s.vqpsLate then s.endOtp Rc.sourceUnavailable w else s)
    else match runPulses s.otp.tempLeft s.fresh (opBits s.otp op) x.bits s.otp.array 0 with
      | none => s
      | some (t, weak, reason) =>
        let rows := match op with
          | .rows rs => if reason = 0 then s.mem.rowsPending.filter (fun r => !rs.contains r) else s.mem.rowsPending
          | _ => s.mem.rowsPending
        let old := s.otp.array
        let s := { s with
          otp := { s.otp with array := t, weakCells := s.otp.weakCells + BitVec.ofNat 32 weak }
          mem := { s.mem with rowsPending := rows }
          fresh := s.fresh + 1 }
        (s.logOtp old op w reason).endOtp reason w

/-- What a recheck adds to its mask (R452): a word that is marginal now, or reads otherwise than at boot. -/
def recheckNew (o : Otp) (t : Table OtpWord) : List Nat :=
  (List.range 512).filter (fun i =>
    let x := otpAt t i
    let b := otpAt o.boot i
    (x.isMarginal || x.high != b.high || x.low != b.low) && !o.recheck.contains i)

/-- OTP_RECHECK_DUE: the margins are read again, when die_max has moved or OTP.MARGIN_CHECK asks for it
(R452); one that came due during an operation runs between it and the next. DEDUCED, log entry 122. -/
def otpRecheckDue (margins : Table (Word × Word)) (s : State) : State :=
  let first := s.otp.recheckFirst
  let asked := match first, s.otp.ops with
    | false, (.margin, w) :: _ => some w
    | _, _ => none
  let due := first || (s.firmwareRuns && s.otp.ops.isEmpty && decide (4 ≤ s.otp.recheckCount))
  if s.underTest 22 || (asked.isNone && !due) then s
  else
    let t := withMargins s.otp.array margins
    let new := recheckNew s.otp t
    let s := { s with otp := { s.otp with
      array := t, recheck := s.otp.recheck ++ new, recheckTemp := s.therm.dieMax, recheckCount := 0
      recheckFirst := false, tempLeft := if first then false else s.otp.tempLeft } }
    let s := new.foldl (fun (s : State) (i : Nat) =>
      s.post (ev Ev.otpMarginal Cls.system 0 Rc.wordMarginal (i + 1024))) s
    match asked with
    | some w => s.endOtp 0 w
    | none => s.driveVqps

/-! ## Reading (R462) -/

/-- The encoding of a region's state (R462). -/
def regionCode : RegionState → Nat
  | .blank => 0
  | .opened => 1
  | .valid => 2
  | .invalid => 3

/-- The slot in use, as OTP.STATUS encodes it. -/
def slotCode (first second : RegionState) : Nat := if first == .valid then 0 else if second == .valid then 1 else 3

/-- REPAIR records in use (R446): a reserved kind is ignored, and an INVALID region holds none (R444).
DEDUCED, log entry 123. -/
def State.repairUsed (s : State) : Nat :=
  if s.region8 2 == .invalid then 0
  else ((List.range 40).filter (fun j =>
    let w := s.shadowWord (repairSlot j)
    w != 0 && bitsOf w.toNat 30 2 != 3 && repairGood s.shadowWord j)).length

/-- OTP.STATUS. -/
def otpStatusBody (_rq : Request) (s : State) : Verdict :=
  let o := s.otp
  let lowest := o.marginal.head?
  .done s
    (le 1 (lcCode o.lc) ++ le 1 (lcCode (lcOf o.array))
      ++ le 2 ((List.range 8).foldl (fun (a i : Nat) => a + regionCode (s.region8 i) * 4 ^ i) 0)
      ++ le 1 (slotCode (s.region8 3) (s.region8 4) + 4 * slotCode (s.region8 5) (s.region8 6))
      ++ le 1 ((otpValue o.boot revokeWord).toNat % 4)
      ++ le 1 s.repairUsed ++ le 1 (regionCode o.returnRec)
      ++ le 4 o.marginal.length ++ le 4 o.recheck.length ++ le 4 o.weakCells.toNat
      ++ le 4 (match lowest with
        | some i => i
        | none => 0xFFFFFFFF)
      ++ le 2 o.lastResult.toNat ++ zeros 6)

/-- A word as OTP.READ returns it (R462): in FIELD and SCRAPPED, KEY and LC words come from the shadow. -/
def State.otpReadWord (s : State) (mode i : Nat) : Word :=
  let x := otpAt s.otp.array i
  let hidden := (s.otp.lc == .field || s.otp.lc == .scrapped) && decide (0x080 ≤ i) && decide (i ≤ 0x0DF)
  if hidden then s.shadowWord i
  else match mode with
    | 0 => x.normal
    | 1 => x.high
    | 2 => x.low
    | _ => s.shadowWord i

/-- OTP.READ. -/
def otpReadBody (rq : Request) (s : State) : Verdict :=
  let p := rq.payload
  let w := fld p 0 2
  let n := fld p 3 1
  checked [(decide (w < 512), 0), (decide (fld p 2 1 < 4), 2), (decide (1 ≤ n ∧ n ≤ 64), 3), (decide (w + n ≤ 512), 0)]
    (.done s ((List.range n).flatMap (fun i => le 4 (s.otpReadWord (fld p 2 1) (w + i)).toNat)))

/-! ## Programming (R458–R461) -/

/-- The regions whose programming the life-cycle state permits (R457): by lock bit; none: LC and the
reserved words. -/
def regionPermitted (lc : LcState) (r : Option Nat) : Bool :=
  match lc with
  | .virgin => true
  | .mfg => true
  | .return_ => true
  | .oem => r == some 2 || r == some 5 || r == some 6
  | .field => r == some 2
  | .scrapped => false

/-- The life-cycle state permits programming these bits of a word (R457): bits of the lock word go with
their regions. DEDUCED, log entry 123. -/
def programPermitted (lc : LcState) (word : Nat) (mask : Word) : Bool :=
  if lc == .scrapped then false
  else if word = lockWord then
    (List.range 32).all (fun b => !mask.getLsbD b || regionPermitted lc (if b < 8 then some b else none))
  else isLcWord word || decide (512 ≤ word) || regionPermitted lc (regionOf word)

/-- A region is locked in the array, read at MARGIN_LOW (R459). -/
def State.lockedNow (s : State) (i : Nat) : Bool := (otpAt s.otp.array lockWord).low.getLsbD i

/-- die_max lies in 0–85 °C. -/
def State.otpTempOk (s : State) : Bool := decide (0 ≤ s.therm.dieMax) && decide (s.therm.dieMax ≤ 340)

/-- OTP.PROGRAM (R458, R459): the life-cycle state comes before the fields (R78). -/
def otpProgramBody (rq : Request) (s : State) : Verdict :=
  let p := rq.payload
  let word := fld p 0 2
  let us := fld p 3 1
  let mask := BitVec.ofNat 32 (fld p 4 4)
  let normal := fun i => (otpAt s.otp.array i).normal
  if !programPermitted s.otp.lc word mask then refuseAs Rc.notPermittedInLifecycle
  else checked [(decide (word < 512), 0), (decide (fld p 2 1 < 2), 2), (decide (5 ≤ us ∧ us ≤ 20), 3), (mask != 0, 4)] <|
    if isLcWord word then refuseAs Rc.lcTransition
    else if (match regionOf word with
        | some i => s.lockedNow i
        | none => false) then refuseAs Rc.regionLocked
    else if word == lockWord && (List.range 8).any (fun i => mask.getLsbD i && !regionGood normal i) then
      refuseAs Rc.checkMismatch
    else if !s.otpTempOk then refuseAs Rc.tempRange
    else .accept (s.queueOtp (.program word mask (fld p 2 1 == 0) us) (s.waiterOf rq 0x0F02))

/-- OTP.REPAIR_PULSE (R461). -/
def otpRepairPulseBody (rq : Request) (s : State) : Verdict :=
  let p := rq.payload
  let us := fld p 3 1
  checked [(decide (fld p 0 2 < 512), 0), (decide (fld p 2 1 < 2), 2), (decide (5 ≤ us ∧ us ≤ 20), 3)] <|
    if !s.otpTempOk then refuseAs Rc.tempRange
    else .accept (s.queueOtp (.repair (fld p 0 2) (fld p 2 1 == 0) us) (s.waiterOf rq 0x0F03))

/-- MEM.HBM_REPAIR (R363, R446). -/
def memHbmRepairBody (rq : Request) (s : State) : Verdict :=
  if s.mem.rowsPending.isEmpty then refuseAs Rc.noRepairPending
  else if s.lockedNow 2 || decide ((blankSlots s.otp.array).length < s.mem.rowsPending.length) then refuseAs Rc.repairFull
  else .accept (s.queueOtp (.rows s.mem.rowsPending) (s.waiterOf rq 0x0B08))

/-! ## The life-cycle (R454, R456, R462) -/

/-- OTP.LC_CHALLENGE: a new nonce replaces the previous one. -/
def otpLcChallengeBody (_rq : Request) (s : State) : Verdict :=
  let n := Config.nonce s.fresh
  .done { s with otp := { s.otp with nonce := some n }, fresh := s.fresh + 1 } (le 8 s.serial ++ le 16 n.toNat)

/-- A target can be reached from the latched state (R456). -/
def lcReachable (lc : LcState) (target : Nat) : Bool :=
  if target = 5 then lc != .scrapped else decide (lcCode lc + 1 = target)

/-- The precondition of a transition, on the latched shadow (R456). -/
def State.lcReady (s : State) (target : Nat) : Bool :=
  match target with
  | 2 => s.region8 0 == .valid && s.region8 1 == .valid && (s.region8 3 == .valid || s.region8 4 == .valid)
  | 3 => s.oemKeyHash.isSome
  | 4 => s.oemKeyHash.isSome
  | _ => true

/-- A signature verifies under a key whose hash is as required (R456). -/
def signed384 (hash : Option (BitVec 384)) (key sig msg : List Byte) : Bool :=
  match hash with
  | some h => Config.sha384 key == h && Config.ecdsaP384 h (Config.sha384 msg) sig
  | none => false

/-- The request is authorised (R456): its nonce where one is needed, its keys and signatures. -/
def State.lcAuthorised (s : State) (p : List Byte) (target : Nat) : Bool :=
  let nonce := BitVec.ofNat 128 (fld p 4 16)
  let msg := le 8 s.serial ++ le 16 nonce.toNat ++ le 1 target
  let part (off n : Nat) := (p.drop off).take n
  let current := s.otp.nonce == some nonce
  match target with
  | 3 => current && signed384 s.oemKeyHash (part 20 97) (part 120 96) msg
  | 4 => current && signed384 (some Config.returnKeyHash) (part 20 97) (part 120 96) msg
      && signed384 s.oemKeyHash (part 216 97) (part 316 96) msg
  | 5 => current
  | _ => true

/-- The return record and its check word (R455, R456), unless a complete one is already present. -/
def State.returnRecord (s : State) (p : List Byte) : List Word :=
  if returnGood s.otp.array && returnStateOf s.otp.array != .blank then []
  else
    let h := Config.sha384 ((p.drop 120).take 96 ++ (p.drop 316).take 96)
    let ws := (List.range 12).map (fun i => BitVec.ofNat 32 (h.toNat / 2 ^ (32 * i))) ++ [BitVec.ofNat 32 s.host.bootCount]
    ws ++ [checkWordOf ws]

/-- OTP.LC_ADVANCE (R456, R462): an accepted request that used the nonce has spent it. -/
def otpLcAdvanceBody (rq : Request) (s : State) : Verdict :=
  let p := rq.payload
  let target := fld p 0 1
  checked [(decide (1 ≤ target ∧ target ≤ 5), 0)] <|
    if !lcReachable s.otp.lc target then refuseAs Rc.lcTransition
    else if !s.lcReady target then refuseAs Rc.lcPrecondition
    else if !s.lcAuthorised p target then refuseAs Rc.authFailed
    else
      let record := if target = 4 then s.returnRecord p else []
      let o := { s.otp with nonce := none }
      .accept ({ s with otp := o }.queueOtp (.advance target record) (s.waiterOf rq 0x0F05))

/-- OTP.REVOKE_KEY (R454): the keys revoked in the array count, those of operations that wait as well.
DESIGN CHOICE, log entry 124. -/
def otpRevokeKeyBody (rq : Request) (s : State) : Verdict :=
  let k := fld rq.payload 0 1
  checked [(decide (k < 2), 0)] <|
    let queued (j : Nat) : Bool := List.any s.otp.ops (fun (x : OtpOp × Waiter) => x.1 == .revoke j)
    let revoked (j : Nat) : Bool := s.keyRevoked j || queued j
    if s.keysPresent.all (fun j => j == k || revoked j) then refuseAs Rc.lastKey
    else .accept (s.queueOtp (.revoke k) (s.waiterOf rq 0x0F06))

/-- OTP.MARGIN_CHECK (R452). -/
def otpMarginCheckBody (rq : Request) (s : State) : Verdict :=
  .accept (s.queueOtp .margin (s.waiterOf rq 0x0F07))

end Sys2Proof.Machine
end

