-- ==== Sys2Proof/Machine/Cal.lean ====
section
/-!
DEFINITION. Calibration (R429–R440): when runs become due and start, what they apply, the monitor ADC, the
records in the boot flash, and the CAL commands.
-/

namespace Sys2Proof.Machine

open Sys2Proof

/-! ## Targets and preconditions (R429) -/

/-- The targets in the order of R431: 0 ADC, 1 TEMP, 8 + k DAC k. -/
def calTargets : List Nat := [0, 1, 8, 9, 10, 11, 12, 13, 14, 15]

/-- How long a run lasts, in AON ticks (R429). -/
def calTicks (target : Nat) : Nat := if target = 0 then 1024 else if target = 1 then 32768 else 4096

/-- The coefficient sets of a target. -/
def calSets (target : Nat) : List Nat :=
  if target = 0 then [0] else if target = 1 then (List.range 16).map (· + 1) else [17 + (target - 8)]

/-- die_max varied by at most 1 °C over the last 16 samples, and no THERM_GRADIENT is raised (R429). -/
def State.tempSteady (s : State) : Bool :=
  !s.therm.gradHigh && (match s.therm.recent with
    | [] => true
    | v :: t => decide (t.foldl max v - t.foldl min v ≤ 4))

/-- Why a target cannot be calibrated now (R429, R439): its binding, its amplifier, or the temperature. -/
def State.calBar (s : State) (target : Nat) : Option Reason :=
  if target = 0 then none
  else if target = 1 then (if s.tempSteady then none else some Rc.tempUnstable)
  else if (dacRec s.inForce (target - 8)).enable then some Rc.dacNotIdle
  else if (s.amp (target - 8)).en then some Rc.ampEnabled
  else none

/-- A target is being calibrated: its run is in progress, or waits in a command's order. -/
def State.calibrating (s : State) (target : Nat) : Bool :=
  s.cal.running.any (fun (r : CalRun) => r.target == target) || s.cal.queue.any (fun (r : CalRun) => r.target == target)

/-- Firmware owns a DAC while it calibrates it, from the acceptance of the command on (R201, R434). -/
def State.ownDac (target : Nat) (own : Bool) (s : State) : State :=
  if 8 ≤ target then s.setAmp (target - 8) { s.amp (target - 8) with calOwned := own } else s

/-! ## Runs (R431–R434) -/

/-- Calibration may run: in U6 of UPSETT, and in power states RUN and READY once firmware runs, until an entry to
another power state has begun (R400, R431). -/
def State.calMayRun (s : State) : Bool :=
  if s.sys = .upsett then s.power.phase == some 6
  else s.firmwareRuns && (s.pwr == .run || s.pwr == .ready) && s.power.entry.isNone
    && !s.underTest 17 && !s.underTest 21

/-- A target becomes due (R431). -/
def State.calDueAt (k : Nat) (s : State) : State := { s with cal := { s.cal with due := s.cal.due ||| (1#16 <<< k) } }

/-- CAL_DRIFT_DUE: targets whose count has reached 4 samples become due; one that cannot start posts
CAL_DUE once (R431). DEDUCED, log entry 120. -/
def calDriftDue (s : State) : State :=
  calTargets.foldl (fun (s : State) (k : Nat) =>
    if s.cal.driftCount.get 0 k < 4 || s.cal.due.getLsbD k || s.calibrating k || !(s.calMayRun || s.pwr == .doze) then s
    else
      let s := ({ s with cal := { s.cal with driftCount := s.cal.driftCount.set k 0 } }).calDueAt k
      match s.calBar k with
      | some r => s.post (ev Ev.calDue Cls.system 0 r s.cal.due.toNat)
      | none => s) s

/-- A run begins. -/
def State.beginRun (r : CalRun) (s : State) : State :=
  let c := { s.cal with
    running := s.cal.running ++ [{ r with startTemp := s.therm.dieMax, start := s.aon, moved := false }]
    due := s.cal.due &&& ~~~(1#16 <<< r.target) }
  { s with cal := c }.ownDac r.target true

/-- A due target starts once its precondition holds (R431). -/
def State.startDue (s : State) : State :=
  match calTargets.find? (fun (k : Nat) => s.cal.due.getLsbD k && (s.calBar k).isNone && !s.calibrating k) with
  | some k => s.beginRun { target := k, origin := .fwAuto }
  | none => s

/-- A coefficient set lies within its limits (R433). -/
def coeffOk (set : Nat) (c : Coeff) : Bool :=
  let lim : Nat := if set = 0 then 64 else if set ≤ 16 then 40 else 256
  decide (14746 ≤ c.gain ∧ c.gain ≤ 18022) && decide (c.offset.natAbs ≤ lim)

/-- A command's run has ended with a reason: the first failing one is kept, and COMMAND_DONE follows the
last of its runs (R439). -/
def State.endCalWaiter (w : Waiter) (reason : Reason) (s : State) : State :=
  let old := List.find? (fun (x : Waiter × Reason) => x.1 == w) s.cal.fails
  let rest := List.filter (fun (x : Waiter × Reason) => x.1 != w) s.cal.fails
  let first := match old with
    | some x => x.2
    | none => reason
  if s.cal.queue.any (fun (r : CalRun) => r.waiter == some w) then
    { s with cal := { s.cal with fails := if first = 0 then rest else (w, first) :: rest } }
  else
    { s with cal := { s.cal with fails := rest } }.commandDone w first 0 0

/-- A run has ended: CAL_DONE names the target and whether it took new sets, and the command that asked for it goes on
(R433, R439). -/
def State.endCalRun (r : CalRun) (applied : Bool) (reason : Reason) (s : State) : State :=
  let bit := 2 ^ r.target
  let s := (s.ownDac r.target false).post (ev Ev.calDone Cls.system 0 reason (bit + 65536 * (if applied then bit else 0)))
  let s := s.ampUpdate 3
  match r.waiter with
  | some w => s.endCalWaiter w reason
  | none => s

/-- CAL_RUN_START: the next run of a command or of start-up begins, one at a time, or else a due target whose
precondition holds (R431).  A run whose precondition of R429 has lapsed meanwhile ends with its reason where a command
asked for it, and otherwise becomes due. DEDUCED, log entry 120; DESIGN CHOICE, log entry 167. -/
def calRunStart (s : State) : State :=
  if !s.calMayRun then s
  else match s.cal.queue with
    | [] => s.startDue
    | r :: rest =>
      if s.cal.running.any (fun (x : CalRun) => x.origin != .fwAuto) then s.startDue
      else
        let s := { s with cal := { s.cal with queue := rest } }
        match s.calBar r.target, r.waiter with
        | none, _ => s.beginRun r
        | some reason, some _ => s.endCalRun r false reason
        | some reason, none =>
          let s := s.calDueAt r.target
          s.post (ev Ev.calDue Cls.system 0 reason s.cal.due.toNat)

/-- A run's time has passed, or it is abandoned. -/
def State.calOver (s : State) (r : CalRun) : Bool := r.moved || decide (r.start + calTicks r.target ≤ s.aon)

/-- The run that ends: the one that the measured sets belong to, or else the first whose time has passed. -/
def State.calEnding (s : State) (coeffs : List (Nat × Coeff)) : Option CalRun :=
  if s.underTest 17 || s.underTest 21 then none
  else (s.cal.running.find? (fun (r : CalRun) =>
    s.calOver r && coeffs.any (fun (x : Nat × Coeff) => (calSets r.target).contains x.1)))
    <|> s.cal.running.find? s.calOver

/-- CAL_RUN_DONE: a run ends with what it has measured (R432, R433); the target mask of its log entry is the new digest.
DEDUCED, log entry 120; DESIGN CHOICE, log entry 159. -/
def calRunDone (coeffs : List (Nat × Coeff)) (s : State) : State :=
  match s.calEnding coeffs with
  | none => s
  | some r =>
    let done := (s.aon - r.start) / 2048
    let sets := if r.moved then (calSets 1).filter (fun k => decide (k ≤ done)) else calSets r.target
    let new := sets.map (fun k => match List.find? (fun (x : Nat × Coeff) => x.1 == k) coeffs with
      | some x => (k, x.2)
      | none => (k, s.coeff k))
    let good := new.all (fun x => coeffOk x.1 x.2)
    let kept := if r.moved then new.filter (fun x => coeffOk x.1 x.2) else if good then new else []
    let reason := if r.moved then Rc.tempUnstable else if good then 0 else Rc.calOutOfRange
    let s := { s with cal := { s.cal with
      running := s.cal.running.erase r, coeffs := applyCoeffs s.cal.coeffs kept
      lastTemp := s.cal.lastTemp.set r.target s.therm.dieMax, driftCount := s.cal.driftCount.set r.target 0
      lastBoot := s.host.bootCount, lastRunTemp := s.therm.dieMax, lastResult := reason } }
    let s := if kept.isEmpty then s else s.logEntry { origin := r.origin, new := BitVec.ofNat 32 (2 ^ r.target) }
    s.endCalRun r (!kept.isEmpty) reason

/-! ## The monitor ADC (R430) -/

/-- A corrected code. -/
def adcCode (c : Coeff) (raw : Int) : Nat := (clamp 0 4095 ((raw - c.offset) * c.gain / 16384)).toNat

/-- The ADC calibrates: its last scan stands, and is STALE (R432). -/
def State.adcHeld (s : State) : Bool := s.cal.running.any (fun (r : CalRun) => r.target == 0)

/-- ADC_SCAN: once per 1,024 AON ticks; while the ADC calibrates, the last scan stands (R430, R432). -/
def adcScan (raws : List Int) (s : State) : State :=
  let runs := (s.sys != .off && s.sys != .safe && s.pwr != .sleep && s.pwr != .offAon)
  if !runs || s.underTest 17 || s.underTest 21 || decide (s.aon < s.cal.adcAt + 1024) || s.adcHeld then s
  else { s with cal := { s.cal with adcAt := s.aon, adc := (raws.take 16).map (adcCode (s.coeff 0)) } }

/-! ## The records of the boot flash (R435–R438) -/

/-- U6 loads the current record; without one, the factory values or the nominal set, with CAL_FALLBACK
(R436, R437).  Start-up calibration follows (R431). -/
def State.loadCal (s : State) : State :=
  let factory := (List.range 25).filterMap (fun k => (s.factoryCoeff k).map (fun c => (k, c)))
  let (coeffs, fallback) := match s.currentRecord with
    | some r => (r.coeffs, false)
    | none => (applyCoeffs [] factory, true)
  { s with cal := { s.cal with
    coeffs := coeffs, fallback := fallback
    queue := calTargets.map (fun k => { target := k, origin := .boot }) } }

/-- CAL_STORED: the store in progress ends (R438): the record is programmed and reads back as written, or the flash fails
and a part of it stands there. DESIGN CHOICE, log entry 121. -/
def calStored (ok : Bool) (s : State) : State :=
  match s.flash.ops with
  | .store w r (some b) :: _ =>
    let bytes := if ok then flashProgram s.flash.bytes (slotBase b) (recordBytes r) else s.cutRecord b r s.fresh
    let s := { s with fresh := s.fresh + 1 }.endFlash bytes
    if ok && s.flashRead (slotBase b) 232 == recordBytes r then
      ({ s with cal := { s.cal with fallback := false } }.post
        (ev Ev.calStored Cls.system 0 0 (r.seq.toNat + 2 ^ 32 * b2n b))).commandDone w 0 0 0
    else s.commandDone w Rc.flashError 0 0
  | _ => s

/-! ## The CAL commands (R439) -/

/-- A target's object in a refusal (R439). -/
def calObj (target : Nat) : Byte × Nat := if 8 ≤ target then (Cls.waveChannel, 128 + (target - 8)) else (Cls.system, 0)

/-- CAL.STATUS. -/
def calStatusBody (_rq : Request) (s : State) : Verdict :=
  let running := calTargets.filter s.calibrating
  let flags := b2n s.cal.fallback + 2 * b2n (s.slotValid false) + 4 * b2n (s.slotValid true)
    + 8 * b2n (s.currentSlot == some true)
  let seq := match s.currentRecord with
    | some r => r.seq.toNat
    | none => 0
  .done s (le 2 s.cal.due.toNat ++ le 2 (maskOf running) ++ le 1 flags ++ le 1 s.power.aonTrim.toNat ++ zeros 2
    ++ le 4 seq ++ le 2 s.cal.lastBoot ++ leInt 2 s.cal.lastRunTemp ++ le 2 s.cal.lastResult.toNat ++ zeros 6)

/-- A store waits or is in progress. -/
def State.storing (s : State) : Bool := s.flash.ops.any (fun (o : FlashOp) => match o with
  | .store _ _ _ => true
  | .image _ _ _ => false)

/-- The first target, in the order of R431, that a condition of R439 refuses. -/
def State.calRefusal (s : State) (mask : Nat) : Option (Nat × Reason) :=
  let named := calTargets.filter (fun k => bit mask k)
  let busy := named.find? (fun k => s.calibrating k || s.storing)
  let at_ (r : Reason) := named.find? (fun k => s.calBar k == some r)
  match busy, at_ Rc.dacNotIdle, at_ Rc.ampEnabled, at_ Rc.tempUnstable with
  | some k, _, _, _ => some (k, Rc.calBusy)
  | _, some k, _, _ => some (k, Rc.dacNotIdle)
  | _, _, some k, _ => some (k, Rc.ampEnabled)
  | _, _, _, some k => some (k, Rc.tempUnstable)
  | _, _, _, _ => none

/-- CAL.RUN; the reserved bits of the mask are ignored (R12). DEDUCED, log entry 120. -/
def calRunBody (rq : Request) (s : State) : Verdict :=
  let mask := fld rq.payload 0 2
  let named := calTargets.filter (fun k => bit mask k)
  checked [(!named.isEmpty, 0)] <|
    match s.calRefusal mask with
    | some (k, r) => refuseObj r (calObj k).1 (calObj k).2
    | none =>
      let w := s.waiterOf rq 0x0E01
      let runs := named.map (fun k => { target := k, origin := .mbx rq.mbx.val, waiter := some w : CalRun })
      let s := { s with cal := { s.cal with queue := s.cal.queue ++ runs } }
      .accept (named.foldl (fun (s : State) (k : Nat) => s.ownDac k true) s)

/-- CAL.STORE: the coefficients in force are those at the command. DEDUCED, log entry 120. -/
def calStoreBody (rq : Request) (s : State) : Verdict :=
  let r : CalSlot :=
    { seq := 0, serial := s.serial, coeffs := s.cal.coeffs, boot := s.host.bootCount, temp := s.therm.dieMax }
  .accept (s.queueFlash (.store (s.waiterOf rq 0x0E02) r none))

/-- CAL.ADC_READ. -/
def calAdcReadBody (_rq : Request) (s : State) : Verdict :=
  .done s ((List.range 16).flatMap (fun i => le 4 ((s.cal.adc.getD i 0) * 1200000 / 4096 + 2 ^ 31 * b2n s.adcHeld))
    ++ le 4 (min 0xFFFFFFFF (s.aon - s.cal.adcAt)))

/-- CAL.COEFF_READ. -/
def calCoeffReadBody (rq : Request) (s : State) : Verdict :=
  let k := fld rq.payload 0 1
  checked [(decide (k < 25), 0)] <|
    let c := s.coeff k
    let target := if k = 0 then 0 else if k ≤ 16 then 1 else 8 + (k - 17)
    .done s (le 2 c.gain ++ leInt 2 c.offset ++ leInt 2 (s.cal.lastTemp.get 0 target) ++ zeros 2)

end Sys2Proof.Machine
end

