-- ==== Sys2Proof/Machine/DataPorts.lean ====
section
/-!
DEFINITION. The data ports (R62–R69, R218, R254, R258, R262): opening, the byte stream, flushing, closing
and aborting, silence, and the window's reads and writes.
-/

namespace Sys2Proof.Machine

open Sys2Proof

/-! ## What a port shows -/

/-- A port is mid-block (R65). DEDUCED, log entry 32. -/
def State.midBlock (s : State) (p : Nat) : Bool :=
  let x := s.dp p
  if !x.open_ then false
  else if x.compress then !(s.session x.session).raw.isEmpty
  else x.tracks && !x.framing && (x.blockEnd.isSome || !x.header.isEmpty)

/-- MERGE_BE (R64): the buffered bytes end at the pointer. -/
def mergeEnables (x : DataPort) : Nat :=
  ((2 ^ x.merge.length - 1) * 2 ^ ((x.ptr - x.merge.length) % 32)) % 2 ^ 32

/-- BUSY (R64). -/
def portBusy (x : DataPort) : Bool := !x.flight.isEmpty

/-- A bit of DP_STATUS that has a vector becomes 1 (R56). -/
def State.portVector (p : Nat) (was : Bool) (s : State) : State := if was then s else s.raiseInt (17 + p)

/-- An event of a port. -/
def State.postPort (p : Nat) (code : BitVec 16) (reason : Reason) (detail : Nat) (s : State) : State :=
  s.post (ev code Cls.dataPort p reason detail)

/-! ## The actions of DP_CTRL (R62, R63, R64, R68) -/

/-- The actions of one DP_CTRL write, of which only the first is performed (R63). -/
inductive PortAction where
  | abort | close | flush | open_ | none
  deriving DecidableEq, Repr

/-- The action that a DP_CTRL value performs (R63). -/
def portAction (v : Word) : PortAction :=
  if v.getLsbD 3 then .abort else if v.getLsbD 2 then .close else if v.getLsbD 1 then .flush
  else if v.getLsbD 0 then .open_ else .none

/-- TARGET of a DP_CTRL write: discarded while the port is open, and where it is reserved (R13, R62).
DEDUCED, log entry 31. -/
def State.setTarget (p : Nat) (v : Word) (s : State) : State :=
  let x := s.dp p
  let t := bitsOf v.toNat 4 2
  if x.open_ || decide (2 ≤ t) then s else s.setDp p { x with compress := t == 1 }

/-- Another open DIRECT port's range overlaps (R62). -/
def State.portOverlap (s : State) (p : Nat) : Bool :=
  let x := s.dp p
  (List.range 8).any (fun q =>
    let y := s.dp q
    q != p && y.open_ && !y.compress && rangesMeet x.base x.limit y.base y.limit)

/-- The plane defined in force whose block area holds a range (R62, R213). -/
def planeOver (cfg : Cfg) (lo hi : Nat) : Option PlaneRec :=
  (List.find? (fun (r : Nat × PlaneRec) => decide (r.2.areaBase ≤ lo) && decide (hi ≤ r.2.areaLimit)) cfg.planes).map (·.2)

/-- The refusal of an OPEN, in the order of R62. -/
def State.openRefusal (s : State) (p : Nat) : Option Reason :=
  let x := s.dp p
  if x.open_ then some Rc.dpAlreadyOpen
  else if x.base % 32 != 0 || x.limit % 32 != 0 || decide (x.limit ≤ x.base) || decide (hbmEnd < x.limit) then
    some Rc.dpBadRange
  else if x.compress then
    let k := s.session x.session
    if k.state != .opened || k.port.isSome then some Rc.dpSessionInvalid else none
  else if s.portOverlap p then some Rc.dpRangeOverlap
  else if (planeOver s.inForce x.base x.limit).isNone then some Rc.dpNotInPlane
  else none

/-- A DIRECT port tracks blocks unless it opens inside an index region (R218). -/
def State.portTracks (s : State) (base limit : Nat) : Bool :=
  match planeOver s.inForce base limit with
  | some r => decide (r.areaBase + indexBytes r ≤ base)
  | none => false

/-- A session is bound to a port (R258): out of the plane's blocks, it fails at once. -/
def State.bindSession (p : Nat) (s : State) : State :=
  let x := s.dp p
  let k := x.session
  let y := s.session k
  let s := s.setSession k { y with port := some p, out := x.base, limit := x.limit }
  let inside := match y.captured with
    | some r => decide (r.areaBase + indexBytes r ≤ x.base) && decide (x.limit ≤ r.areaLimit)
    | none => false
  if inside then s else s.failSession k Rc.sessionRange

/-- ERROR with a code (R62, R67). -/
def State.portError (p : Nat) (code : Reason) (s : State) : State :=
  let x := s.dp p
  ((s.setDp p (s.notePort 0x10 0 { x with error := true, err := code })).portVector p x.error).postPort p Ev.dpError code x.ptr

/-- The data ports answer: the host reaches them outside OFF, SAFE, SLEEP and OFF-AON (R69, R77). -/
def State.hostReaches (s : State) : Bool :=
  s.host.linkUp && !s.host.d3hot && (match s.sys with
    | .off => false
    | .safe => false
    | .upsett => match s.power.phase with
      | some p => decide (3 < p)
      | none => true
    | .fault => !s.power.reduced
    | _ => s.pwr != .sleep && s.pwr != .offAon)

/-- DP_OPEN (R62). -/
def dpOpen (p : Nat) (ctrl : Word) (s : State) : State :=
  if !s.hostReaches || portAction ctrl != .open_ then s
  else
    let s := s.setTarget p ctrl
    match s.openRefusal p with
    | some code => s.portError p code
    | none =>
      let x := s.dp p
      let s := s.setDp p { x with
        open_ := true, closing := false, stalled := false, framing := false
        ptr := x.base, rptr := x.base, count := 0, merge := []
        tracks := !x.compress && s.portTracks x.base x.limit, header := [], blockEnd := none, lastWrite := s.aon }
      if x.compress then s.bindSession p else s

/-- The merge buffer goes on its way to HBM under its byte enables (R64). -/
def flushMerge (x : DataPort) : DataPort :=
  let at_ := x.ptr - x.merge.length
  { x with merge := [], flight := x.flight ++ x.merge.mapIdx (fun i b => (at_ + i, b)) }

/-- DP_FLUSH (R64): no effect on a closed port (R63). -/
def dpFlush (p : Nat) (ctrl : Word) (s : State) : State :=
  if !s.hostReaches || portAction ctrl != .flush then s
  else
    let s := s.setTarget p ctrl
    if (s.dp p).open_ then s.setDp p (flushMerge (s.dp p)) else s

/-- A port starts to close (R68, R254): 1 to 7 bytes of a header at an expected position set FRAMING.
DEDUCED, log entry 31. -/
def State.startClose (p : Nat) (s : State) : State :=
  let x := s.dp p
  if !x.open_ || x.closing then s
  else
    let cut := x.tracks && !x.framing && x.blockEnd.isNone && decide (1 ≤ x.header.length ∧ x.header.length ≤ 7)
    s.setDp p { flushMerge x with closing := true, framing := x.framing || cut }

/-- DP_CLOSE (R68). -/
def dpClose (p : Nat) (ctrl : Word) (s : State) : State :=
  if !s.hostReaches || portAction ctrl != .close then s else (s.setTarget p ctrl).startClose p

/-- The session of a port is bound no longer. -/
def State.unbindSession (p : Nat) (s : State) : State :=
  let x := s.dp p
  let y := s.session x.session
  if x.compress && y.port == some p then s.setSession x.session { y with port := none } else s

/-- DP_CLOSE_COMPLETE (R68, R262): BUSY is 0 and every complete block row has been emitted.  STALLED ends
with the port's opening, as it does at ABORT and at OPEN. DESIGN CHOICE, log entry 133. -/
def dpCloseComplete (p : Nat) (s : State) : State :=
  let x := s.dp p
  if !x.open_ || !x.closing || portBusy x || (x.compress && rowWaits (s.session x.session)) then s
  else
    let s := s.unbindSession p
    let s := s.setDp p (s.notePort 0x100 0
      { s.dp p with open_ := false, closing := false, stalled := false, closed := true })
    (s.raiseInt (17 + p)).postPort p Ev.dpClosed 0 x.count

/-- DP_ABORT (R68): bytes already on their way to HBM still reach it. DEDUCED, log entry 31. -/
def dpAbort (p : Nat) (ctrl : Word) (s : State) : State :=
  if !s.hostReaches || portAction ctrl != .abort then s
  else
    let s := s.setTarget p ctrl
    let x := s.dp p
    if !x.open_ then s
    else
      let s := if x.compress && (s.session x.session).port == some p then s.endSession x.session else s
      s.setDp p { x with open_ := false, closing := false, stalled := false, merge := [] }

/-! ## The byte stream (R64, R65, R254) -/

/-- Block tracking of a DIRECT port over its next bytes (R254). -/
def trackBytes (x : DataPort) (at_ : Nat) : List Byte → DataPort
  | [] => x
  | b :: bs =>
    let y := match x.blockEnd with
      | some e => if at_ + 1 = e then { x with blockEnd := none, header := [] } else x
      | none =>
        let h := x.header ++ [b]
        if h.length < 16 then { x with header := h }
        else
          let start := at_ + 1 - 16
          if headerConsistent (blockHeaderOf h) then { x with header := h, blockEnd := some (start + (blockHeaderOf h).length) }
          else { x with header := h, framing := true }
    if y.framing then y else trackBytes y (at_ + 1) bs

/-- Complete 32-byte words leave the merge buffer as they fill (R64). -/
def storeBytes (x : DataPort) (bs : List Byte) : DataPort :=
  let start := x.ptr - x.merge.length
  let all := x.merge ++ bs
  let end_ := x.ptr + bs.length
  let full := end_ / 32 * 32 - start
  { x with
    ptr := end_, merge := all.drop full
    flight := x.flight ++ (all.take full).mapIdx (fun i b => (start + i, b)) }

/-- Bytes are accepted (R64–R66). -/
def State.acceptBytes (p : Nat) (bs : List Byte) (s : State) : State :=
  let x := s.dp p
  let s := if x.stalled then
      s.postPort p Ev.dpResumed 0 (min (s.aon - x.lastWrite) 0xFFFFFFFF)
    else s
  let y := { x with stalled := false, lastWrite := s.aon, count := (x.count + bs.length) % 2 ^ 48 }
  if y.compress then (s.setDp p y).feedSession y.session bs
  else
    let y := if y.tracks && !y.framing then trackBytes y y.ptr bs else y
    s.setDp p (storeBytes y bs)

/-- DP_WINDOW_WRITE (R64, R67): the enabled bytes of one write.  While a close is in progress the port
takes no more bytes.  A write with no enabled byte ends a silence on a COMPRESS port and not on a DIRECT one.
DESIGN CHOICE, log entry 160. -/
def dpWindowWrite (p : Nat) (bytes : List Byte) (poisoned : Bool) (s : State) : State :=
  if !s.hostReaches then s
  else
    let s := { s.hostAccess with power := { s.hostAccess.power with lastActivity := s.aon } }
    let x := s.dp p
    let n := bytes.length
    let drop (k bits : Nat) (x : DataPort) : DataPort :=
      s.notePort bits k { x with dropped := x.dropped + BitVec.ofNat 32 k }
    if poisoned then
      let s := { s with host := { s.host with aer := s.host.aer + 1 } }
      let s := (s.setDp p { drop n 0x20 x with poisoned := true }).portVector p x.poisoned
      s.portError p Rc.dpPoisoned
    else if !x.open_ || x.closing then s.setDp p (drop n 0 x)
    else if x.compress then
      match (s.session x.session).state with
      | .opened => s.acceptBytes p bytes
      | _ => s.feedSession x.session bytes
    else
      let take := min n (x.limit - x.ptr)
      let s := if take = 0 then s else s.acceptBytes p (bytes.take take)
      if n ≤ take then s
      else
        let y := s.dp p
        ((s.setDp p { drop (n - take) 8 y with limitHit := true }).portVector p y.limitHit).postPort p Ev.dpLimit 0
          (n - take)

/-- A byte of a DIRECT port's stream, wherever it is: in the merge buffer, on its way, or in HBM (R69), where a
poisoned word reads 0x00 (R361). -/
def State.streamByte (s : State) (x : DataPort) (a : Nat) : Byte :=
  let start := x.ptr - x.merge.length
  if x.limit ≤ a then 0
  else if start ≤ a ∧ a < x.ptr then x.merge.getD (a - start) 0
  else match List.find? (fun (c : Nat × Byte) => c.1 == a) x.flight.reverse with
    | some c => c.2
    | none => if s.poisoned 2 a 1 then 0 else memRead s.mem.hbm a

/-- DP_WINDOW_READ (R69). -/
def dpWindowRead (p : Nat) (count : Nat) (s : State) : State :=
  if !s.hostReaches then s
  else
    let s := s.hostAccess
    let x := s.dp p
    if x.open_ && !x.compress then
      let bs := (List.range count).map (fun i => s.streamByte x (x.rptr + i))
      { s with host := { s.host with readBytes := bs } }.setDp p { x with rptr := (x.rptr + count) % 2 ^ 35 }
    else { s with host := { s.host with readBytes := zeros count } }

/-- Bytes on their way reach HBM in order: runs of consecutive bytes are written whole. -/
def flightRuns : List (Nat × Byte) → List (Nat × List Byte)
  | [] => []
  | (a, b) :: t =>
    match flightRuns t with
    | (c, bs) :: r => if c = a + 1 then (a, b :: bs) :: r else (a, [b]) :: (c, bs) :: r
    | [] => [(a, [b])]

/-- DP_HBM_WRITE_DONE: the oldest accepted bytes lie in HBM (R64). -/
def dpHbmWriteDone (p count : Nat) (s : State) : State :=
  let x := s.dp p
  let s := s.setDp p { x with flight := x.flight.drop count }
  (flightRuns (x.flight.take count)).foldl (fun (s : State) (r : Nat × List Byte) => s.areaWrite r.1 r.2) s

/-- DP_STALL_TIMEOUT (R66): a write in the AON tick that completes the count prevents the stall.
DEDUCED, log entry 31. -/
def dpStallTimeout (p : Nat) (s : State) : State :=
  let x := s.dp p
  if !s.midBlock p || x.stalled || decide (s.aon ≤ x.lastWrite + 10240) then s
  else ((s.setDp p { x with stalled := true }).raiseInt (17 + p)).postPort p Ev.dpStalled 0 x.ptr

end Sys2Proof.Machine
end

