-- ==== Sys2Proof/Machine/Registers.lean ====
section
/-!
DEFINITION. The registers of BAR0 (R10–R13, R46–R61, R70–R72, R347): what each reads, what a write does by
its access codes, and the rows of the registers that have one.
-/

namespace Sys2Proof.Machine

open Sys2Proof

/-! ## The PCI Express function (R46, R447) -/

/-- The identity that configuration space reads. DESIGN CHOICE, log entry 141. -/
structure PciIdentity where
  vendor : BitVec 16
  device : BitVec 16
  classCode : BitVec 24
  subVendor : BitVec 16
  subsystem : BitVec 16
  deriving DecidableEq, Repr

/-- R46: the Subsystem IDs come from OEM slot word 0, or are the Vendor ID and 0x2096 where the OEM region is
blank or INVALID.  DESIGN CHOICE, log entry 141. -/
def State.pciIdentity (s : State) : PciIdentity :=
  let ids : BitVec 16 × BitVec 16 := match s.oemBase with
    | some a => ((s.shadowWord a).extractLsb' 0 16, (s.shadowWord a).extractLsb' 16 16)
    | none => (Config.vendorId, 0x2096)
  { vendor := Config.vendorId, device := 0x2096, classCode := 0x118000, subVendor := ids.1, subsystem := ids.2 }

/-! ## What a read returns (R49) -/

/-- A mailbox's change count (R80). -/
def State.stagedCount (s : State) (n : Nat) : Nat := (s.sset n).all.length

/-- HST_STATUS. -/
def State.hstStatus (s : State) : Nat :=
  sysCode s.sys + 16 * pwrCode s.pwr + 2 ^ 7 * b2n s.host.checkBusy + 2 ^ 8 * s.host.upsettPhase
    + 2 ^ 12 * b2n (decide (s.therm.ceiling < 0x8000)) + 2 ^ 13 * b2n s.spareLost + 2 ^ 14 * b2n s.cal.fallback
    + 2 ^ 15 * b2n (!s.otp.marginal.isEmpty) + 2 ^ 16 * b2n (s.pair.state == .paired) + 2 ^ 17 * b2n (s.pair.state == .paired && s.pair.unitS)
    + 2 ^ 18 * b2n s.log.log75 + 2 ^ 19 * b2n ((List.range 8).any (fun p => (s.dp p).stalled))

/-- The registers of identity and status, and of the print enable (0x0000–0x00FF). -/
def State.readHst (s : State) (a : Nat) : Nat :=
  match a with
  | 0x00 => 0x00012096
  | 0x04 => 0x000001B0
  | 0x08 => s.host.fw.toNat + 2 ^ 24 * b2n s.host.fwSlotB
  | 0x0C => lcCode s.otp.lc + 2 ^ 16 * (s.host.bootCount % 65536)
  | 0x10 => s.hstStatus
  | 0x14 => s.host.faultCode.toNat + 2 ^ 16 * s.host.faultPhase
  | 0x18 => s.therm.ceiling + 2 ^ 16 * s.stage
  | 0x20 => s.tick % 2 ^ 32
  | 0x24 => s.host.tickHi.toNat
  | 0x28 => s.aon % 2 ^ 32
  | 0x2C => s.host.aonHi.toNat + 2 ^ 16 * (s.host.bootCount % 65536)
  | 0x30 => s.host.scratch.toNat
  | 0x40 => b2n s.host.printEn
  | 0x44 => s.host.refuse.toNat + 2 ^ 16 * s.host.refuseClass.toNat
  | 0x48 => s.host.refuseObj.toNat
  | _ => 0

/-- The interrupt and event-ring registers (0x0100–0x01FF). -/
def State.readInt (s : State) (a : Nat) : Nat :=
  match a with
  | 0x100 => s.ring.baseLo.toNat
  | 0x104 => s.ring.baseHi.toNat
  | 0x108 => b2n s.ring.enable
  | 0x10C => s.ring.prod + 4096 * b2n s.ring.phase
  | 0x110 => s.ring.cons
  | 0x114 => s.ring.lost.toNat
  | 0x118 => s.ints.status.toNat
  | 0x11C => s.ints.enable.toNat
  | 0x120 => s.ints.holdoff + 2 ^ 16 * s.ints.count
  | _ => 0

/-- DP_STATUS. -/
def State.dpStatus (s : State) (p : Nat) : Nat :=
  let x := s.dp p
  b2n x.open_ + 2 * b2n (portBusy x) + 4 * b2n x.stalled + 8 * b2n x.limitHit + 16 * b2n x.error
    + 32 * b2n x.poisoned + 64 * b2n x.framing + 128 * b2n (s.midBlock p) + 256 * b2n x.closed + 2 ^ 16 * x.merge.length

/-- A data port's registers, by offset in its block. -/
def State.readPort (s : State) (p o : Nat) : Nat :=
  let x := s.dp p
  match o with
  | 0x00 => 16 * b2n x.compress
  | 0x04 => s.dpStatus p
  | 0x08 => x.base % 2 ^ 32
  | 0x0C => x.base / 2 ^ 32
  | 0x10 => x.limit % 2 ^ 32
  | 0x14 => x.limit / 2 ^ 32
  | 0x18 => x.ptr % 2 ^ 32
  | 0x1C => x.ptr / 2 ^ 32 % 8
  | 0x20 => x.rptr % 2 ^ 32
  | 0x24 => x.rptr / 2 ^ 32 % 8
  | 0x28 => mergeEnables x
  | 0x2C => x.session
  | 0x30 => x.err.toNat
  | 0x34 => x.dropped.toNat
  | 0x38 => x.count % 2 ^ 32
  | 0x3C => x.count / 2 ^ 32 % 65536
  | _ => 0

/-- The pairing status mirror (R347).  How many of the bytes sent on BULK still await forwarding is a matter of its
timing: a free value in unit P. DESIGN CHOICE, log entry 96. -/
def State.readPair (s : State) (a : Nat) : Nat :=
  let x := s.pair
  match a with
  | 0x400 => pairCode x.state + 8 * b2n x.unitS + 16 * b2n s.acting + 32 * b2n x.promoted + 64 * b2n x.idHigh
      + 128 * b2n s.hbPresent + 256 * x.lanes.toNat + 2 ^ 16 * x.twinSys
  | 0x404 => x.twinFault.toNat
  | 0x408 => (if x.unitS then (x.offset % 65536).toNat else 0) + 2 ^ 16 * (x.pathDelay % 65536)
  | 0x40C => s.hbAge
  | 0x410 => x.change.toNat
  | 0x414 => x.divergences.toNat
  | 0x418 => if s.leadsPair && !x.hostBoth then Config.freeNat s.fresh % (min x.fwdBytes (2 ^ 32 - 1) + 1) else 0
  | 0x420 => x.twinSerial.toNat % 2 ^ 32
  | 0x424 => x.twinSerial.toNat / 2 ^ 32
  | _ => 0

/-- The MSI-X table and its pending bits (R49). -/
def State.readMsix (s : State) (a : Nat) : Nat :=
  if a < 0xC00 then
    let e := s.ints.msix.get {} ((a - 0x800) / 16)
    match a % 16 with
    | 0 => e.addrLo.toNat
    | 4 => e.addrHi.toNat
    | 8 => e.data.toNat
    | _ => b2n e.masked
  else if a = 0xC00 then s.ints.pba.toNat % 2 ^ 32
  else if a = 0xC04 then s.ints.pba.toNat / 2 ^ 32
  else 0

/-- A mailbox's registers. -/
def State.readMbx (s : State) (n o : Nat) : Nat :=
  let b := s.mbox n
  match o with
  | 0x4 => b2n b.busy + 2 * b2n b.respReady + 4 * b2n b.overrun + 256 * b.pending
  | 0x8 => b.doneTag.toNat + 2 ^ 16 * b.doneReason.toNat
  | 0xC => s.stagedCount n
  | _ => 0

/-- A response as its half of the buffer holds it (R71). -/
def responseBytes (r : Response) : List Byte :=
  le 2 r.reason.toNat ++ le 2 r.tag.toNat ++ le 2 r.payload.length
    ++ le 2 (b2n r.accepted + 2 * b2n r.staged + 4 * b2n r.committed) ++ [r.objClass, 0, 0, 0] ++ le 4 r.objId.toNat
    ++ r.payload

/-- A mailbox's buffer: the request half, then the response half. -/
def State.readBuffer (s : State) (n o : Nat) : Nat :=
  let b := s.mbox n
  if o < 1024 then ofLE ((List.range 4).map (fun i => b.request.get 0 (o + i)))
  else
    let bs := responseBytes b.response
    ofLE ((List.range 4).map (fun i => match b.respOver.find? (o + i) with
      | some v => v
      | none => bs.getD (o + i - 1024) 0))

/-- What a 4-byte read of BAR0 returns. -/
def State.readReg (s : State) (a : Nat) : Word :=
  BitVec.ofNat 32 (
    if a < 0x100 then s.readHst a
    else if a < 0x200 then s.readInt a
    else if a < 0x400 then s.readPort ((a - 0x200) / 0x40) (a % 0x40)
    else if a < 0x500 then s.readPair a
    else if a < 0x800 then 0
    else if a < 0xC08 then s.readMsix a
    else if a < 0x1000 then 0
    else if a < 0x1100 then s.readMbx ((a - 0x1000) / 16) (a % 16)
    else if a < 0x8000 then 0
    else s.readBuffer ((a - 0x8000) / 0x800) (a % 0x800))

/-! ## Reads with an effect (R11, R50) -/

/-- A read returns a value to the host. DESIGN CHOICE, log entry 12. -/
def State.returns (v : Nat) (s : State) : State := { s with host := { s.host with readData := BitVec.ofNat 64 v } }

/-- TICK_LO_READ (R50): `wide` for an 8-byte read. -/
def tickLoRead (wide : Bool) (s : State) : State :=
  if !s.hostReaches then s
  else
    let s := s.returns (if wide then s.tick else s.tick % 2 ^ 32)
    { s with host := { s.host with tickHi := BitVec.ofNat 32 (s.tick / 2 ^ 32) } }

/-- AON_LO_READ (R50): the upper half of an 8-byte read holds the boot counter as well. -/
def aonLoRead (wide : Bool) (s : State) : State :=
  if !s.hostReaches then s
  else
    let s := { s with host := { s.host with aonHi := BitVec.ofNat 16 (s.aon / 2 ^ 32) } }
    s.returns (s.aon % 2 ^ 32 + (if wide then 2 ^ 32 * s.readHst 0x2C else 0))

/-- What a read leaves of an RC counter: the events of the very cycle of the read (R11). -/
def State.kept (s : State) (c : Cycle) : Word := BitVec.ofNat 32 (c.counted s.now)

/-- RING_LOST_READ (R11). -/
def ringLostRead (s : State) : State :=
  if !s.hostReaches then s
  else
    let k := s.kept s.ring.cycle
    { s.returns (s.ring.lost - k).toNat with ring := { s.ring with lost := k } }

/-- DP_DROPPED_READ (R11). -/
def dpDroppedRead (p : Nat) (s : State) : State :=
  if !s.hostReaches then s
  else
    let x := s.dp p
    let k := s.kept x.cycle
    (s.returns (x.dropped - k).toNat).setDp p { x with dropped := k }

/-- PAIR_DIVERGENCES_READ (R347). -/
def pairDivergencesRead (s : State) : State :=
  if !s.hostReaches then s
  else
    let k := s.kept s.pair.cycle
    { s.returns (s.pair.divergences - k).toNat with pair := { s.pair with divergences := k } }

/-- UNSUPPORTED_REQUEST (R47): a read that is not a naturally aligned 4-byte or 8-byte access. -/
def accessOk (offset size : Nat) : Bool := (size == 4 || size == 8) && offset % size == 0

/-- UNSUPPORTED_REQUEST (R47). DESIGN CHOICE, log entry 46. -/
def unsupportedRequest (offset size : Nat) (s : State) : State :=
  if !s.hostReaches || accessOk offset size then s else { s with host := { s.host with aer := s.host.aer + 1 } }

/-! ## The event ring and the interrupts (R57–R60) -/

/-- RING_ENABLE_WRITE (R59): a trip that waits to be reported is posted as well (R423). -/
def ringEnableWrite (v : Word) (s : State) : State :=
  if !s.hostReaches then s
  else if !v.getLsbD 0 then { s with ring := { s.ring with enable := false } }
  else if s.ring.enable then s
  else
    let s := { s with ring := { s.ring with enable := true, prod := 0, cons := 0, phase := true } }
    s.reportLost.reportTrip

/-- RING_CONS_WRITE (R59). -/
def ringConsWrite (v : Word) (s : State) : State :=
  if !s.hostReaches then s
  else { s with ring := { s.ring with cons := v.toNat % 4096 } }.reportLost

/-- INT_ENABLE_WRITE (R57): a bit that is set while its STATUS bit is 1 sends a message. -/
def intEnableWrite (v : Word) (s : State) : State :=
  if !s.hostReaches then s
  else
    let old := s.ints.enable
    let new := v.extractLsb' 0 28
    let s := { s with ints := { s.ints with enable := new } }
    (List.range 28).foldl (fun (s : State) (n : Nat) =>
      if new.getLsbD n && !old.getLsbD n && s.ints.status.getLsbD n then s.sendMsix n else s) s

/-- INT_HOLDOFF_EXPIRY (R58): nothing is left to do once the bit is set. DEDUCED, log entry 30. -/
def intHoldoffExpiry (s : State) : State :=
  match s.ints.firstAt with
  | some t =>
    if s.ints.status.getLsbD 0 || decide (s.ints.holdoff = 0)
      || decide ((s.aon - t) * 1000 < s.ints.holdoff * 1024) then s
    else s.raiseInt 0
  | none => s

/-- A write of INT_STATUS clears the bits written as 1, and what waits of their messages while masked; a bit
that the device sets in the same cycle stays 1, with a new message where it was 1 before (R11, R57).
Vector 0 then counts anew, also where bit 0 reads 0 (R58).  DESIGN CHOICE, log entry 134. -/
def State.clearInts (v : Word) (s : State) : State :=
  let stays := s.ints.cycle.set s.now
  let gone := v.extractLsb' 0 28 &&& ~~~stays
  let again := v.extractLsb' 0 28 &&& s.ints.cycle.renewed s.now &&& s.ints.enable
  let i := { s.ints with status := s.ints.status &&& ~~~gone, pba := s.ints.pba &&& ~~~(gone.setWidth 64) }
  let s := { s with ints := if gone.getLsbD 0 then { i with written := 0, firstAt := none } else i }
  (List.range 28).foldl (fun s n => if again.getLsbD n then s.sendMsix n else s) s

/-- An MSI-X table entry is written; unmasking sends what was pended (R57). -/
def State.writeMsix (a : Nat) (v : Word) (s : State) : State :=
  let n := (a - 0x800) / 16
  let e := s.ints.msix.get {} n
  let put (e : MsixEntry) (s : State) : State := { s with ints := { s.ints with msix := s.ints.msix.set n e } }
  match a % 16 with
  | 0 => put { e with addrLo := v &&& 0xFFFFFFFC } s
  | 4 => put { e with addrHi := v } s
  | 8 => put { e with data := v } s
  | _ =>
    let s := put { e with masked := v.getLsbD 0 } s
    if !v.getLsbD 0 && s.ints.pba.getLsbD n then
      { s with ints := { s.ints with pba := s.ints.pba &&& ~~~(1#64 <<< n) } }.emit (.msix n)
    else s

/-! ## Writes without a row of their own (R10) -/

/-- A field of a wide value is replaced: its low or its high half. -/
def putHalf (old : Nat) (high : Bool) (v bits : Nat) : Nat :=
  if high then old % 2 ^ 32 + 2 ^ 32 * (v % 2 ^ bits) else old / 2 ^ 32 * 2 ^ 32 + v % 2 ^ 32

/-- A data port's registers (R62): those of an open port are not written, but for its flags and DP_RPTR. -/
def State.writePort (p o : Nat) (v : Word) (s : State) : State :=
  let x := s.dp p
  let n := v.toNat
  let closed (y : DataPort) : State := if x.open_ then s else s.setDp p y
  match o with
  | 0x00 => if portAction v = .none then s.setTarget p v else s
  | 0x04 =>
    let gone := v.extractLsb' 0 28 &&& ~~~(x.cycle.set s.now)
    s.setDp p { x with
      limitHit := x.limitHit && !gone.getLsbD 3, error := x.error && !gone.getLsbD 4
      poisoned := x.poisoned && !gone.getLsbD 5, closed := x.closed && !gone.getLsbD 8 }
  | 0x08 => closed { x with base := putHalf x.base false n 32 }
  | 0x0C => closed { x with base := putHalf x.base true n 3 }
  | 0x10 => closed { x with limit := putHalf x.limit false n 32 }
  | 0x14 => closed { x with limit := putHalf x.limit true n 3 }
  | 0x20 => s.setDp p { x with rptr := putHalf x.rptr false n 32 }
  | 0x24 => s.setDp p { x with rptr := putHalf x.rptr true n 3 }
  | 0x2C => closed { x with session := n % 256 }
  | _ => s

/-- The classes of doorbells (R75). -/
def ringClass (n : Nat) : Nat := if n < 4 then 1 else if n = 15 then 2 else 3

/-- Bytes are written into the request half of a buffer. -/
def putBytes (t : Table Byte) (o : Nat) : List Byte → Table Byte
  | [] => t
  | b :: bs => putBytes (t.set o b) (o + 1) bs

/-- A RING (R72): while BUSY is 1 it sets OVERRUN and is otherwise ignored. -/
def State.ringBell (n : Nat) (s : State) : State :=
  let b := s.mbox n
  if b.busy then s.setMbox n { b with overrun := true, cycle := b.cycle.note s.now (bit28 2) 0 0 }
  else { s.setMbox n { b with busy := true, respReady := false, rungAt := s.aon } with rung := s.rung ++ [n] }

/-- A mailbox's registers. -/
def State.writeMbx (n o : Nat) (v : Word) (s : State) : State :=
  let b := s.mbox n
  match o with
  | 0x0 => if v.getLsbD 0 then s.ringBell n else s
  | 0x4 =>
    let gone := v.extractLsb' 0 28 &&& ~~~(b.cycle.set s.now)
    s.setMbox n { b with respReady := b.respReady && !gone.getLsbD 1, overrun := b.overrun && !gone.getLsbD 2 }
  | _ => s

/-- A mailbox's buffer (R72): host writes to either half are discarded while BUSY is 1. -/
def State.writeBuffer (n o : Nat) (v : Word) (s : State) : State :=
  let b := s.mbox n
  if b.busy then s
  else if 1024 ≤ o then s.setMbox n { b with respOver := putBytes b.respOver o (le 4 v.toNat) }
  else s.setMbox n { b with request := putBytes b.request o (le 4 v.toNat) }

/-- One 4-byte write of BAR0 to a register without a row of its own.  A COUNT that INT_MOD lowers to or below
the entries already written takes effect at the next entry. DESIGN CHOICE, log entry 135. -/
def State.writeReg (a : Nat) (v : Word) (s : State) : State :=
  if a = 0x30 then { s with host := { s.host with scratch := v } }
  else if a = 0x100 then
    if s.ring.enable then s else { s with ring := { s.ring with baseLo := v &&& 0xFFFFF000 } }
  else if a = 0x104 then
    if s.ring.enable then s else { s with ring := { s.ring with baseHi := v } }
  else if a = 0x118 then s.clearInts v
  else if a = 0x120 then
    { s with ints := { s.ints with holdoff := v.toNat % 65536, count := v.toNat / 65536 % 256 } }
  else if 0x200 ≤ a ∧ a < 0x400 then s.writePort ((a - 0x200) / 0x40) (a % 0x40) v
  else if a = 0x410 then
    let gone := v.extractLsb' 0 6 &&& ~~~((s.pair.cycle.set s.now).setWidth 6)
    { s with pair := { s.pair with change := s.pair.change &&& ~~~gone } }
  else if 0x800 ≤ a ∧ a < 0xC00 then s.writeMsix a v
  else if 0x1000 ≤ a ∧ a < 0x1100 then s.writeMbx ((a - 0x1000) / 16) (a % 16) v
  else if 0x8000 ≤ a ∧ a < 0x10000 then s.writeBuffer ((a - 0x8000) / 0x800) (a % 0x800) v
  else s

end Sys2Proof.Machine
end

