-- ==== Sys2Proof/Machine/Log.lean ====
section
/-!
DEFINITION. The change log's commands (R478–R488) and the twin's entries (R487).
-/

namespace Sys2Proof.Machine

open Sys2Proof

/-- The newest sequence (R482). -/
def logNewest (l : Log) : Word := l.next - 1

/-- An entry as the host reads it (R479). -/
def logBytes (q : Word) (e : LogBody) : List Byte :=
  le 4 q.toNat ++ le 8 (e.aon % 2 ^ 48 + 2 ^ 48 * (e.boot % 65536)) ++ [e.origin, e.objClass] ++ le 2 e.reason.toNat
    ++ le 4 e.objId.toNat ++ le 4 e.oldDigest.toNat ++ le 4 e.newDigest.toNat ++ le 2 e.flags.toNat
    ++ le 2 e.twinSeq.toNat ++ zeros 0

/-- The place of a sequence in Stake3 (R479, R482): 32 bytes, modulo the log's capacity.
DEDUCED, log entry 36. -/
def logSlot (q : Word) : Nat := stakeBase + 0x300000 + 32 * (q.toNat % 32768)

/-- LOG.STATUS. -/
def logStatusBody (_rq : Request) (s : State) : Verdict :=
  let l := s.log
  let free := logFree l
  .done s (le 1 (b2n s.inForce.logStrict)
    ++ le 1 (b2n l.log75 + 2 * b2n (s.inForce.logStrict && decide (free < 64)) + 4 * b2n l.gap.isSome)
    ++ le 2 free ++ le 4 (logOldest l).toNat ++ le 4 (logNewest l).toNat ++ le 4 l.ack.toNat ++ le 4 l.lost.toNat
    ++ le 4 l.refusals.toNat)

/-- A slot of Stake3 that reads as poison becomes a CORRUPT entry (R486). -/
def State.repairSlot (q : Word) (s : State) : State :=
  if s.poisoned 1 (logSlot q) 32 then
    let blank : LogBody :=
      { aon := 0, boot := 0, origin := 0, objClass := 0, reason := 0, objId := 0, oldDigest := 0, newDigest := 0
        flags := 0x40, twinSeq := 0 }
    { s with
      log := { s.log with entries := s.log.entries.map (fun x => if x.1 == q then (q, blank) else x) }
      mem := { s.mem with poison := unpoison 1 (logSlot q) 32 s.mem.poison } }
  else s

/-- LOG.READ. -/
def logReadBody (rq : Request) (s : State) : Verdict :=
  let p := rq.payload
  let first := BitVec.ofNat 32 (fld p 0 4)
  let n := fld p 4 2
  checked [(decide (1 ≤ n ∧ n ≤ 31), 4)] <|
    let oldest := logOldest s.log
    let from_ := if ahead32 oldest first < 0 then oldest else first
    let l := (s.log.entries.filter (fun x => decide (0 ≤ ahead32 from_ x.1))).take n
    let s := l.foldl (fun (s : State) (x : Word × LogBody) => s.repairSlot x.1) s
    let l := (s.log.entries.filter (fun x => decide (0 ≤ ahead32 from_ x.1))).take n
    .done s (l.flatMap (fun x => logBytes x.1 x.2))

/-- LOG.ACK (R482, R483): an acknowledgement ends the GAP entry that is open (R485).
DEDUCED, log entry 36. -/
def logAckBody (rq : Request) (s : State) : Verdict :=
  let a := BitVec.ofNat 32 (fld rq.payload 0 4)
  if 0 < ahead32 (logNewest s.log) a then refuseAs Rc.logRange
  else
    let l := { s.log with ack := a, gap := none }
    .done { s with log := { l with log75 := l.log75 && decide (24576 ≤ logUnacked l) } } []

/-- LOG.CONFIG (R484, R488). -/
def logConfigBody (rq : Request) (_s : State) : Verdict :=
  checked [(decide (fld rq.payload 0 1 < 2), 0)] (.stage (.logMode (fld rq.payload 0 1 == 1)))

/-- LOG.EPOCH_SET (R479, R481): an EPOCH entry holds the two halves of the new value. -/
def logEpochSetBody (rq : Request) (s : State) : Verdict :=
  let v := fld rq.payload 0 8
  let s := s.logEntry
    { origin := .mbx rq.mbx.val, old := BitVec.ofNat 32 v, new := BitVec.ofNat 32 (v / 2 ^ 32), flags := 0x20 }
  .done { s with log := { s.log with utc := BitVec.ofNat 64 v } } []

/-- LOG.GET. -/
def logGetBody (rq : Request) (s : State) : Verdict :=
  .done s (le 1 (b2n (s.readCfg rq).logStrict) ++ zeros 3 ++ le 8 s.log.utc.toNat)

/-- An entry of the twin is stored under the next sequence (R487): with TWIN set, and its own time, origin
and digests. -/
def State.logTwin (q : Word) (e : LogBody) (s : State) : State :=
  let old := s.pair.state
  let s := { s with pair := { s.pair with state := .unpaired } }
  let s := s.logPut { e with flags := e.flags ||| 0x1, twinSeq := q.extractLsb' 0 16 }
  { s with pair := { s.pair with state := old } }

/-- TWIN_LOG_ENTRY. -/
def twinLogEntry (q : Word) (e : LogBody) (s : State) : State := if s.pairRuns then s.logTwin q e else s

end Sys2Proof.Machine
end

