-- ==== Sys2Proof/Machine/System.lean ====
section
/-!
DEFINITION. PRINT_EN and the consistency check's runs (R51–R54, R86, R89), and the SYS and CFG commands
(R92).
-/

namespace Sys2Proof.Machine

open Sys2Proof

/-- Unit S of a pair, not promoted: it refuses what the host must do through unit P (R329).
DEDUCED, log entry 38. -/
def State.secondary (s : State) : Bool :=
  s.pair.unitS && !s.pair.promoted && (s.pair.state == .paired || s.pair.state == .syncing)

/-! ## PRINT_EN (R51–R54) -/

/-- HST_REFUSE and HST_REFUSE_OBJ hold a refusal. -/
def State.setRefuse (r : Reason) (cls : Byte) (obj : Nat) (s : State) : State :=
  { s with host := { s.host with refuse := r, refuseClass := cls, refuseObj := BitVec.ofNat 32 obj } }

/-- The log entry of a PRINT_EN write (R54). DEDUCED, log entry 33. -/
def State.logPrintEn (r : Reason) (flags : BitVec 16) (s : State) : State :=
  s.logOpen { origin := .hostDirect, reason := r, flags := flags }

/-- A write of 1 in READY starts the check (R51), after it has stopped a test of a fixed partition
(R466).  While the log refuses, the check runs and its step 3 reports it (R484).
DEDUCED, log entry 34. -/
def State.startPrintCheck (s : State) : State :=
  let s := s.hostAccess.preemptFixed
  let s := if s.logRefuses then s.countRefusal else s.logPrintEn 0 0
  { s with
    checks := s.checks ++ [.printEn]
    host := { s.host with checkBusy := true }
    power := { s.power with lastActivity := s.aon } }

/-- A write of 0 abandons the running check (R51): the commits that it held go on.  OBJ_CLASS and OBJ_ID
become 0 with REASON. DESIGN CHOICE, log entry 132. -/
def State.cancelPrintCheck (s : State) : State :=
  let s := s.logPrintEn Rc.checkCancelled 0
  let s := (s.setRefuse Rc.checkCancelled 0 0)
  commitAccept { s with
    checks := s.checks.erase .printEn
    host := { s.host with checkBusy := false } }

/-- PRINT_EN_WRITE (R51): a write in the cycle of a system-state transition has no effect (R43). -/
def printEnWrite (v : Bool) (s : State) : State :=
  if !s.hostReaches || s.movedNow then s
  else if s.secondary then { s with host := { s.host with refuse := Rc.roleSecondary } }
  else match s.sys, v with
    | .ready, true => if s.host.checkBusy then s else s.startPrintCheck
    | .ready, false => if s.host.checkBusy then s.cancelPrintCheck else s
    | .armed, false => s.requestEvent .ready .hostDirect
    | .printing, false => s.requestEvent .ready .hostDirect
    | .paused, false => s.requestEvent .ready .hostDirect
    | .upsett, true => (s.logPrintEn Rc.wrongState 0x4).setRefuse Rc.wrongState 0 s.host.refuseObj.toNat
    | .fault, true => (s.preemptFixed.logPrintEn Rc.wrongState 0x4).setRefuse Rc.wrongState 0 s.host.refuseObj.toNat
    | _, _ => s

/-! ## Runs of the check (R52, R86, R89) -/

/-- The run at the head of the order ends. -/
def State.popCheck (s : State) : State := { s with checks := s.checks.drop 1 }

/-- CHECK_DONE (R52): the result goes to HST_REFUSE and to the host; on a pass the device arms.  The check runs once no
fixed partition is under test, and a test that still runs is pre-empted (R466, R469). DEDUCED, log entries 41, 127. -/
def checkDone (s : State) : State :=
  match s.checks with
  | .printEn :: _ =>
    if s.testsFixed then s.preemptFixed
    else
    let r := s.check s.inForce none
    let s := s.popCheck
    let s := { s with host := { s.host with checkBusy := false } }
    match r with
    | none =>
      let s := s.setRefuse 0 0 0
      let s := (s.post (ev Ev.checkDone 0 0 0 1)).raiseInt 25
      commitAccept (s.requestEvent .armed .hostDirect)
    | some x =>
      let s := s.setRefuse x.code x.cls x.obj
      commitAccept ((s.post (ev Ev.checkDone x.cls x.obj x.code 0)).raiseInt 25)
  | _ => s

/-- RESUME_CHECK_DONE (R92): on a pass the device enters ARMED; else it stays PAUSED. -/
def resumeCheckDone (s : State) : State :=
  match s.checks with
  | .resume w :: _ =>
    let r := s.check s.inForce none
    let s := s.popCheck
    match r with
    | none => commitAccept ((s.commandDone w 0 0 0).requestEvent .resumed (.mbx w.mbx))
    | some x => commitAccept (s.commandDone w x.code x.cls x.obj)
  | _ => s

/-- CFG_CHECK_DONE (R92): CFG.CHECK changes nothing, and its completion carries the result.  The own set is taken as it
stands now. DESIGN CHOICE, log entry 161. -/
def cfgCheckDone (s : State) : State :=
  match s.checks with
  | .cfg w whole staged mask :: _ =>
    let cfg := if staged then s.view w.mbx else s.inForce
    let r := s.check cfg (if whole then none else some (barsOfMask mask.toNat))
    let s := s.popCheck
    match r with
    | none => commitAccept (s.commandDone w 0 0 0)
    | some x => commitAccept (s.commandDone w x.code x.cls x.obj)
  | _ => s

/-! ## SYS commands (R92) -/

/-- SYS.NOP. -/
def sysNopBody (_rq : Request) (s : State) : Verdict := .done s []

/-- SYS.INFO. -/
def sysInfoBody (_rq : Request) (s : State) : Verdict :=
  .done s (le 2 0x2096 ++ le 1 0xB0 ++ le 1 0x01 ++ le 3 s.host.fw.toNat ++ le 1 (b2n s.host.fwSlotB) ++ le 1 (lcCode s.otp.lc)
    ++ le 1 (b2n s.mem.contiguous) ++ le 2 (s.host.bootCount % 65536) ++ le 8 s.serial
    ++ (List.range 5).flatMap (fun p => le 1 (s.activeCount p)) ++ zeros 3 ++ le 4 2097152)

/-- SYS.STATE. -/
def sysStateBody (rq : Request) (s : State) : Verdict :=
  .done s (le 1 (sysCode s.sys) ++ le 1 (pwrCode s.pwr) ++ le 1 s.host.upsettPhase ++ le 1 s.host.faultPhase
    ++ le 2 s.host.faultCode.toNat ++ le 2 (maskOfBars s.enabledBars) ++ le 4 s.commitId.toNat
    ++ le 2 (s.stagedCount rq.mbx.val) ++ le 2 ((List.range 16).map (fun n => (s.mbox n).pending)).sum)

/-- SYS.PAUSE: in PAUSED it has no effect but its log entry. DEDUCED, log entry 33. -/
def sysPauseBody (rq : Request) (s : State) : Verdict :=
  let s := s.logOpen { origin := .mbx rq.mbx.val }
  .done (if s.sys == .printing then s.requestEvent .paused (.mbx rq.mbx.val) else s) []

/-- SYS.RESUME: the whole-configuration check runs, in order of request (R86). DEDUCED, log entry 42. -/
def sysResumeBody (rq : Request) (s : State) : Verdict :=
  let w := s.waiterOf rq 0x0004
  let s := s.logOpen { origin := .mbx rq.mbx.val }
  .accept { s with checks := s.checks ++ [.resume w] }

/-- SYS.RESET: UPSETT is entered 1 ms (1,024 AON ticks) after the response. -/
def sysResetBody (rq : Request) (s : State) : Verdict :=
  checked [(fld rq.payload 0 4 == 0xC0DE2096, 0)] <|
    let s := s.logOpen { origin := .mbx rq.mbx.val }
    .done { s with power := { s.power with resetAt := some (s.aon + 1024, rq.mbx.val) } } []

/-- RESET_ENTRY (R92, R407): UPSETT is entered at U3. -/
def resetEntry (s : State) : State :=
  match s.power.resetAt with
  | some (t, n) => if s.sys = .fault ∧ t ≤ s.aon then s.enterUpsett 3 2 (.mbx n) else s
  | none => s

/-- One record of SYS.DONE_LIST. -/
def doneBytes (d : DoneRec) : List Byte :=
  le 2 d.tag.toNat ++ le 2 d.reason.toNat ++ [d.objClass] ++ zeros 3 ++ le 4 d.objId.toNat

/-- SYS.DONE_LIST: 16 records, newest first; unused ones are 0. -/
def sysDoneListBody (rq : Request) (s : State) : Verdict :=
  let l := (s.mbox rq.mbx.val).done
  .done s ((List.range 16).flatMap (fun i => match l[i]? with
    | some d => doneBytes d
    | none => zeros 12))

/-! ## CFG commands (R81, R83, R92) -/

/-- The bytes that a staged change takes of a set's descriptor space (R81): a bulk table counts by its
command alone, since its data lies in its chapter's shadow area. DEDUCED, log entry 45. -/
def stagedSize : Change → Nat
  | .nmap load _ _ => if load then 20 else 8
  | .stitchMask _ _ => 16
  | .passMask _ _ => 16
  | c => (changeBytes c).length

/-- The descriptor bytes of a list of changes. DEDUCED, log entry 45. -/
def stagedBytes (cs : List Change) : Nat := (cs.map stagedSize).sum

/-- CFG.COMMIT: a set with nothing staged since its last commit is empty, also while that commit awaits
acceptance. DESIGN CHOICE, log entry 139. -/
def cfgCommitBody (rq : Request) (s : State) : Verdict :=
  let cs := (s.sset rq.mbx.val).staged
  if cs.isEmpty then refuseAs Rc.nothingStaged else .submit .set cs

/-- CFG.DISCARD: the changes of a commit that awaits acceptance stay, and are not counted.
DESIGN CHOICE, log entry 138. -/
def cfgDiscardBody (rq : Request) (s : State) : Verdict :=
  let x := s.sset rq.mbx.val
  .done (s.setSset rq.mbx.val { x with staged := [] }) (le 2 x.staged.length ++ zeros 2)

/-- CFG.STAGED. -/
def cfgStagedBody (rq : Request) (s : State) : Verdict :=
  let cs := (s.sset rq.mbx.val).all
  .done s (le 2 cs.length ++ zeros 2 ++ le 4 (stagedBytes cs)
    ++ le 2 (maskOfBars (s.barsOfAll (s.accepted.applyAll cs) cs)) ++ zeros 2)

/-- CFG.CHECK. -/
def cfgCheckBody (rq : Request) (s : State) : Verdict :=
  let p := rq.payload
  checked [(decide (fld p 0 1 < 2), 0), (decide (fld p 1 1 < 2), 1)] <|
    .accept { s with checks := s.checks ++
      [.cfg (s.waiterOf rq 0x0104) (fld p 0 1 == 0) (fld p 1 1 == 1) (BitVec.ofNat 16 (fld p 2 2))] }

/-- The bar whose record names a trigger generator (R90, R158): the bar that was set so. -/
def tgOwner (cfg : Cfg) (g : Nat) : Option Nat :=
  (List.find? (fun (x : Nat × BarRec) => x.2.trigger == g) cfg.bars).map (fun (x : Nat × BarRec) => x.1)

/-- The user of a ball (R147, R179, R348). DEDUCED, log entry 54. -/
def State.pinOwner (s : State) (ball : Nat) : Byte × Nat :=
  match (List.range 8).find? (fun j => trigoutBall j == ball) with
  | some j =>
    if (s.echoOwner (j / 2)).isSome then (Cls.echoOutput, j / 2)
    else match s.trigoutOwner j with
      | some g => (Cls.triggerGenerator, g)
      | none => (0, 0)
  | none => if s.pair.actGpio < 16 && gpioBall s.pair.actGpio == ball then (Cls.system, 0) else (0, 0)

/-- The owner of a resource (R91, R92): class 0x00 when it is free. DEDUCED, log entry 54. -/
def State.ownerOf (s : State) (cls id : Nat) : Byte × Nat :=
  let opt (c : Byte) (o : Option Nat) : Byte × Nat := match o with
    | some x => (c, x)
    | none => (0, 0)
  if cls = 5 then opt Cls.bar (tgOwner s.inForce id <|> tgOwner s.accepted id)
  else if cls = 7 then
    if 128 ≤ id && (s.amp (id - 128)).calOwned then (Cls.system, 0) else opt Cls.bar (s.chanOwner id)
  else if cls = 9 then s.pinOwner id
  else if cls = 10 then
    let c := s.chan32 id
    if c.state == .closed then (0, 0) else match c.owner with
      | some n => (Cls.mailbox, n)
      | none => (Cls.system, 0)
  else if cls = 11 then match (s.mem.stakes.get {} id).owner with
    | some n => (Cls.mailbox, n)
    | none => (Cls.system, 0)
  else match s.echoOwner id with
    | some r => (Cls.axis, r.source)
    | none => (0, 0)

/-- How many resources a class of CFG.OWNER has; 0: the class is none of them. -/
def ownedCount (cls : Nat) : Nat :=
  if cls = 5 then 16 else if cls = 7 then 136 else if cls = 9 then 2209 else if cls = 10 then 32
  else if cls = 11 then 8 else if cls = 12 then 4 else 0

/-- CFG.OWNER. -/
def cfgOwnerBody (rq : Request) (s : State) : Verdict :=
  let cls := fld rq.payload 0 1
  let id := fld rq.payload 4 4
  checked [(ownedCount cls != 0, 0), (decide (id < ownedCount cls), 4)] <|
    let o := s.ownerOf cls id
    .done s (ownerPayload o.1 o.2)

/-! ## Writes of BAR0 (R47) -/

/-- A write of DP_CTRL (R62, R63). -/
def State.writeDpCtrl (p : Nat) (v : Word) (s : State) : State :=
  match portAction v with
  | .abort => dpAbort p v s
  | .close => dpClose p v s
  | .flush => dpFlush p v s
  | .open_ => dpOpen p v s
  | .none => s.writeReg (0x200 + 0x40 * p) v

/-- A 4-byte write to a register: those that have a row of their own take its effect.
DEDUCED, log entry 29. -/
def State.writeAny (a : Nat) (v : Word) (s : State) : State :=
  if a = 0x40 then printEnWrite (v.getLsbD 0) s
  else if a = 0x108 then ringEnableWrite v s
  else if a = 0x110 then ringConsWrite v s
  else if a = 0x11C then intEnableWrite v s
  else if 0x200 ≤ a ∧ a < 0x400 ∧ a % 0x40 = 0 then s.writeDpCtrl ((a - 0x200) / 0x40) v
  else s.writeReg a v

end Sys2Proof.Machine
end

