-- ==== Sys2Proof/Machine/Mailbox.lean ====
section
/-!
DEFINITION. The exchange with a mailbox (R70–R78): the request in the buffer, the order of doorbells, the
generic checks of a request, and what becomes of the outcome of its command.
-/

namespace Sys2Proof.Machine

open Sys2Proof

/-! ## Commands (R78, R511) -/

/-- "All" in an allowed-states column (R79). -/
def allStates : List SysState := [.upsett, .ready, .armed, .printing, .paused, .fault]

/-- READY, ARMED, PRINTING and PAUSED: the mark OP (R511). -/
def opStates : List SysState := [.ready, .armed, .printing, .paused]

/-- Every life-cycle state. -/
def anyLc : List LcState := [.virgin, .mfg, .oem, .field, .return_, .scrapped]
/-- The mark L1 (R511). -/
def lcL1 : List LcState := [.mfg, .oem, .field, .return_]
/-- The mark L2 (R511). -/
def lcL2 : List LcState := [.virgin, .mfg, .oem, .field, .return_]

/-- What the command index says of a command (R511), whether it is staged, whether unit S of a pair
refuses it besides (R329), and whether it writes its log entry only when it completes (R484). -/
structure Cmd where
  op : BitVec 16
  states : List SysState := allStates
  lc : List LcState := anyLc
  only15 : Bool := false
  staged : Bool := false
  primary : Bool := false
  logsLater : Bool := false
  deriving DecidableEq, Repr

/-- Executing the command needs a domain that DOZE gates (R73, R401): every group but SYS, POWER, OTP and
LOG, whose state lies in PD_AON and PD_CORE. DEDUCED, log entry 103. -/
def Cmd.wakes (c : Cmd) : Bool := !([0x00, 0x0D, 0x0F, 0x11].contains (c.op.toNat / 256))

/-! ## The request in the buffer (R70) -/

/-- The flags of a request's header. -/
def requestFlags (rq : Request) : Nat := b2n rq.autoCommit + 2 * b2n rq.readShadow

/-- A request as the request half holds it. -/
def requestBytes (op : BitVec 16) (rq : Request) : List Byte :=
  le 2 op.toNat ++ le 2 rq.tag.toNat ++ le 2 rq.length ++ le 2 (requestFlags rq) ++ zeros 8 ++ rq.payload.take 1008

/-- Bytes of a mailbox's request half. -/
def reqByte (b : Mailbox) (i : Nat) : Byte := b.request.get 0 i
/-- A 16-bit field of the header in the request half. -/
def reqField (b : Mailbox) (i : Nat) : Nat := ofLE [reqByte b i, reqByte b (i + 1)]

/-- The request half holds this request. DESIGN CHOICE, log entry 6. -/
def bufferHolds (b : Mailbox) (op : BitVec 16) (rq : Request) : Bool :=
  reqField b 0 == op.toNat && reqField b 2 == rq.tag.toNat && reqField b 4 == rq.length
    && reqField b 6 % 4 == requestFlags rq
    && (List.range (rq.payload.take 1008).length).all (fun i => reqByte b (16 + i) == rq.payload.getD i 0)

/-! ## Doorbells (R75, R77, R516) -/

/-- The class-3 doorbell whose turn it is: round-robin. DESIGN CHOICE, log entry 23. -/
def State.nextRound (s : State) : Option Nat :=
  let l := (s.rung.filter (fun n => ringClass n == 3)).foldl insertNat []
  (l.find? (fun n => decide (s.lastRound < n))) <|> l.head?

/-- The doorbell that firmware services next (R75). -/
def State.nextBell (s : State) : Option Nat :=
  let l := s.rung.foldl insertNat []
  let first := (l.find? (fun n => ringClass n == 1)) <|> (l.find? (fun n => ringClass n == 2))
  if 8 ≤ s.classRun then s.nextRound <|> first else first <|> s.nextRound

/-- Firmware takes a doorbell. -/
def State.takeBell (n : Nat) (s : State) : State :=
  let rest := s.rung.erase n
  let waits := rest.any (fun k => ringClass k == 3)
  { s with
    rung := rest
    classRun := if ringClass n = 3 then 0 else if waits then s.classRun + 1 else 0
    lastRound := if ringClass n = 3 then n else s.lastRound
    power := { s.power with lastActivity := s.aon } }

/-- A doorbell whose buffer holds an undefined opcode is answered with BAD_OPCODE when its turn comes
(R78). DEDUCED, log entry 7. -/
def State.serveUndefined : Nat → State → State
  | 0, s => s
  | k + 1, s =>
    if !s.firmwareRuns then s
    else match s.nextBell with
      | none => s
      | some n =>
        let b := s.mbox n
        if definedOpcodes.contains (reqField b 0) then s
        else State.serveUndefined k ((s.takeBell n).respond n
          { reason := Rc.badOpcode, tag := BitVec.ofNat 16 (reqField b 2) })

/-! ## The generic checks (R78, R329, R361) -/

/-- A refusal's response. -/
def denial (rq : Request) (r : Reason) (cls : Byte) (obj : Nat) (payload : List Byte) : Response :=
  { reason := r, tag := rq.tag, objClass := cls, objId := BitVec.ofNat 32 obj, payload := payload }

/-- Orders 2–5 of R78, and R329. DEDUCED, log entry 38. -/
def State.barred (s : State) (c : Cmd) (size : Nat) (rq : Request) : Option Reason :=
  if rq.length ≠ size ∨ 1008 < rq.length then some Rc.badLength
  else if c.only15 && rq.mbx.val != 15 then some Rc.mailboxRestricted
  else if !c.states.contains s.sys then some Rc.wrongState
  else if !c.lc.contains s.otp.lc then some Rc.notPermittedInLifecycle
  else if s.secondary && (c.staged || c.primary) then some Rc.roleSecondary
  else none

/-- The limits of a shadow set hold with one more change (R81, R117). -/
def setFits (x : ShadowSet) (c : Change) : Bool :=
  let cs := x.submitted ++ stageInto x.staged c
  decide (cs.length ≤ 1024) && decide (stagedBytes cs ≤ 65536) && decide ((nmapIds cs).length ≤ 262144)

/-- A change is staged into the mailbox's set (R80, R84): with AUTO_COMMIT the set is committed at once. -/
def State.stageFor (c : Cmd) (rq : Request) (ch : Change) (s : State) : State :=
  let n := rq.mbx.val
  let x := s.sset n
  if !setFits x ch then s.respond n (denial rq Rc.shadowFull 0 0 [])
  else
    let s := s.setSset n { x with staged := stageInto x.staged ch }
    if rq.autoCommit then
      s.submitCommit n (.mbx n) .set (some (s.waiterOf rq c.op)) (s.sset n).staged
    else s.respond n { tag := rq.tag, staged := true }

/-- The command has written its log entry, or will (R484). DEDUCED, log entry 34. -/
def logs (c : Cmd) (s t : State) : Bool := c.logsLater || t.log.next != s.log.next

/-- What becomes of the outcome of a command (R73, R78, R484). DEDUCED, log entry 34. -/
def State.conclude (c : Cmd) (rq : Request) (v : Verdict) (s : State) : State :=
  let n := rq.mbx.val
  match v with
  | .refuse r cls obj payload => s.respond n (denial rq r cls obj payload)
  | .done t payload =>
    if logs c s t && s.logRefuses then s.countRefusal.respond n (denial rq Rc.logFull Cls.system 0 [])
    else t.respond n { tag := rq.tag, payload := payload }
  | .stage ch => s.stageFor c rq ch
  | .stageWith t ch =>
    if setFits (s.sset n) ch then t.stageFor c rq ch else s.stageFor c rq ch
  | .accept t =>
    if logs c s t && s.logRefuses then s.countRefusal.respond n (denial rq Rc.logFull Cls.system 0 [])
    else if 8 ≤ (s.mbox n).pending then s.respond n (denial rq Rc.busy 0 0 [])
    else (t.addPending (s.waiterOf rq c.op)).respond n { tag := rq.tag, accepted := true }
  | .submit kind cs => s.submitCommit n (.mbx n) kind (some (s.waiterOf rq c.op)) cs

/-- Firmware executes the command whose turn it is (R78). DEDUCED, log entry 37. -/
def State.execute (c : Cmd) (size : Nat) (body : Request → State → Verdict) (rq : Request) (s : State) : State :=
  let n := rq.mbx.val
  match s.barred c size rq with
  | some r => s.respond n (denial rq r 0 0 [])
  | none =>
    if (s.sset n).poisoned then
      (s.setSset n { s.sset n with poisoned := false }).respond n (denial rq Rc.sramUncorrectable 0 0 [])
    else
      let s := if c.wakes then s.hostAccess else s
      s.conclude c rq (body rq s)

/-! ## The exchange -/

/-- Steps 2–4: the host writes the request into the idle buffer and rings. -/
def State.ringWith (op : BitVec 16) (rq : Request) (s : State) : State :=
  let n := rq.mbx.val
  let b := s.mbox n
  (s.setMbox n { b with request := putBytes b.request 0 (requestBytes op rq) }).ringBell n

/-- The request is in its buffer and its doorbell waits; a RING while BUSY is 1 sets OVERRUN instead
(R72). DESIGN CHOICE, log entry 6. -/
def State.arrive (op : BitVec 16) (rq : Request) (s : State) : State :=
  let n := rq.mbx.val
  if s.rung.contains n && bufferHolds (s.mbox n) op rq then s
  else if !s.hostReaches then s
  else if (s.mbox n).busy then s.ringBell n
  else s.ringWith op rq

/-- The doorbell of a request is the one that firmware services now. DESIGN CHOICE, log entry 6. -/
def State.turnOf (s : State) (op : BitVec 16) (rq : Request) : Bool :=
  s.firmwareRuns && s.nextBell == some rq.mbx.val && bufferHolds (s.mbox rq.mbx.val) op rq

/-- A mailbox command: the host's request and, when its turn has come, its execution and response.
DESIGN CHOICE, log entry 6. -/
def serve (c : Cmd) (size : Nat) (body : Request → State → Verdict) (m : Moment) (rq : Request) (s : State) : State :=
  let s := (s.clock m).arrive c.op rq
  if s.turnOf c.op rq then
    State.serveUndefined 16 ((s.takeBell rq.mbx.val).execute c size body rq)
  else s

/-- REGISTER_WRITE (R10–R13, R47): an access that is not naturally aligned is discarded and reported
through AER; an 8-byte write is one of LO followed by HI. DEDUCED, log entry 29. -/
def registerWrite (offset size : Nat) (v : BitVec 64) (s : State) : State :=
  if !s.hostReaches then s
  else if !accessOk offset size then { s with host := { s.host with aer := s.host.aer + 1 } }
  else
    let s := s.writeAny offset (v.extractLsb' 0 32)
    let s := if size = 8 then s.writeAny (offset + 4) (v.extractLsb' 32 32) else s
    State.serveUndefined 16 s

end Sys2Proof.Machine
end

