-- ==== Sys2Proof/Machine/Power.lean ====
section
/-!
DEFINITION. Power states, rails, head supplies and the reference (R393–R405, R508), the POWER commands
(R410), the motion detector (R152), and the ends of event holdoffs (R133).
-/

namespace Sys2Proof.Machine

open Sys2Proof

/-- A second and a millisecond, in AON ticks (R8). DEDUCED, log entry 128. -/
def secondTicks : Nat := 1024000
def msTicks : Nat := 1024

/-! ## Entry to DOZE, SLEEP and OFF-AON (R399, R400) -/

/-- What refuses POWER.SET_STATE, and holds a timer's entry (R400).  CAL and BIST commands that run count
in PENDING; a Stake bank is cleared within its command. -/
def State.powerBusy (s : State) : Bool :=
  s.host.checkBusy || (List.range 16).any (fun n => (s.mbox n).pending != 0) || s.bist.demand.isSome

/-- Drift runs in progress are abandoned, and their targets are due again at the wake (R431).
DEDUCED, log entry 120. -/
def State.abandonDrift (s : State) : State :=
  s.cal.running.foldl (fun (s : State) (r : CalRun) => (s.calDueAt r.target).ownDac r.target false)
    { s with cal := { s.cal with running := [] } }

/-- Every data port closes (R68). -/
def State.closePorts (s : State) : State :=
  (List.range 8).foldl (fun (s : State) (p : Nat) => if (s.dp p).open_ then s.startClose p else s) s

/-- The axes that the motion detector watches (R152). -/
def State.watchedAxes (s : State) : Byte :=
  BitVec.ofNat 8 (maskOf ((List.range 8).filter (fun n =>
    s.inForce.wake.mask.getLsbD n && s.inForce.axisEn.get false n && !(axisRec s.inForce n).ssi)))

/-- The device is in its new power state (R396, R400): what the gated domains hold is cleared where it is
not kept, the balls that the state does not drive are released (R493), and the rails that it does not need go
down. -/
def State.gate (t : PwrState) (s : State) : State :=
  let down (s : State) : State := { s with host := { s.host with linkUp := false } }.railsDown
  match t with
  | .sleep => down (s.clearRings.driveSsi false).releaseGpio
  | .offAon =>
    let old := s.inForce
    let w := s.wipe
    let cfg := { w.base with power := old.power, wake := old.wake, therms := old.therms }
    down { w with
      base := cfg
      power := { w.power with
        refRunning := false, trimmed := false, prevFault := 0, prevPhase := 0xF, prevReport := false
        waking := s.power.waking } }
  | _ => s

/-- The last steps of an entry (R400): POWER_STATE is posted before the host port is gated.
DEDUCED, log entries 104, 105. -/
def State.finishEntry (e : Entry) (s : State) : State :=
  let old := s.pwr
  let watched := s.watchedAxes
  let s := s.portsOff.logOpen { origin := e.origin }
  let s := { s with
    pwr := e.target
    wakeAt := s.aon
    axes := s.axes.map (fun (x : Nat × Axis) => (x.1, { x.2 with wakeCount := 0 }))
    power := { s.power with entry := none, stateAt := s.aon, wakeAxes := watched } }
  (s.postPower old).gate e.target

/-- Step 2 of an entry (R400). -/
def State.dropSupplies (e : Entry) (s : State) : State :=
  let s := ({ s with power := { s.power with entry := some { e with unpowered := true } } }).ampLow 2
  if e.deep then s.hvLow else s

/-- An entry that has begun goes on once the data ports have closed, and then once the supplies have discharged
(R400). DEDUCED, log entry 103. -/
def State.tryEntry (s : State) : State :=
  match s.power.entry with
  | none => s
  | some e =>
    let closing := e.deep && (List.range 8).any (fun p => (s.dp p).open_)
    if !e.begun || s.sys != .ready || closing then s
    else
      let s := if e.unpowered then s else s.dropSupplies e
      let discharging := e.deep && (List.range 8).any (fun k => (s.hvt k).fallAt.isSome && !s.power.hvFailed.getLsbD k)
      if discharging then s else s.finishEntry e

/-- Step 1 of an entry (R400): data ports, DMA channels, the pair, tests and drift runs. -/
def State.beginEntry (e : Entry) (s : State) : State :=
  let s := { s with power := { s.power with entry := some { e with begun := true } } }
  let s := ((if e.deep then s.closePorts else s).dmaPreemptAll).leavePair
  ((s.stopAllPeriodic .power).abandonDrift).tryEntry

/-- POWER_ENTRY (R399): an entry by command begins 1 ms after the response, and waits like a timer's. -/
def powerEntry (s : State) : State :=
  match s.power.entry with
  | none => s
  | some e =>
    if s.sys != .ready then { s with power := { s.power with entry := none } }
    else if e.begun then s.tryEntry
    else if s.aon < e.due || s.powerBusy then s
    else s.beginEntry e

/-- DOZE_TIMER (R399). -/
def dozeTimer (s : State) : State :=
  let limit := s.inForce.power.dozeAfter * secondTicks
  if limit == 0 || s.sys != .ready || s.pwr != .ready || s.power.entry.isSome || s.working || s.powerBusy
      || decide (s.aon < s.power.lastActivity + limit) then s
  else s.beginEntry { target := .doze, origin := .fwAuto, due := s.aon }

/-- SLEEP_TIMER (R399). -/
def sleepTimer (s : State) : State :=
  let limit := s.inForce.power.sleepAfter * secondTicks
  if limit == 0 || s.sys != .ready || s.pwr != .doze || s.power.entry.isSome || s.power.waking.isSome || s.powerBusy
      || decide (s.aon < s.power.stateAt + limit) then s
  else s.beginEntry { target := .sleep, origin := .fwAuto, due := s.aon }

/-- DP_CLOSE_COMPLETE (R68): an entry that waits for the port goes on. -/
def dpCloseEnd (p : Nat) (s : State) : State := (dpCloseComplete p s).tryEntry

/-! ## Wake sources (R401) -/

/-- A wake by a source is counted and reported (R401, R410). -/
def State.countWake (src : Nat) (s : State) : State :=
  { s with power := { s.power with wakeSource := src, wakes := s.power.wakes + 1 } }

/-- WAKE_PIN: in SAFE it starts the Upsett sequence, and the count of automatic restarts begins anew, also where the
cooling condition has restarted the device in this very AON tick (R423). -/
def wakePin (s : State) : State :=
  if s.sys == .safe then
    let s := s.enterUpsett 1 3 .keeper
    { s.countWake 3 with therm := { s.therm with restarts := [], coolSince := none } }
  else if s.sys == .upsett && s.power.restartKind == 3 && s.therm.restarts.head? == some s.aon then
    { s.countWake 3 with therm := { s.therm with restarts := [] } }
  else s.startWake 3

/-- PCIE_WAKE: from SLEEP and OFF-AON. -/
def pcieWake (s : State) : State :=
  let deep := s.pwr == .sleep || s.pwr == .offAon || s.entering == some .sleep || s.entering == some .offAon
  if s.inForce.power.wakeMask.getLsbD 0 && deep then s.startWake 1 else s

/-- AON_WAKE_TIMER: `aon_timer` s after entry. -/
def aonWakeTimer (s : State) : State :=
  let p := s.inForce.power
  if p.wakeMask.getLsbD 3 && p.aonTimer != 0 && s.gatedPower && decide (s.power.stateAt + p.aonTimer * secondTicks ≤ s.aon) then
    s.startWake 4
  else s

/-- A row that waits will bring a lower axis to `wake_edges` at this AON tick (R152). DESIGN CHOICE, log entry 150. -/
def State.lowerAxisWakes (s : State) (n : Nat) : Bool :=
  s.pending.any (fun i => match i with
    | .motionWakeTransition m k => decide (m.aon ≤ s.aon) && decide (k.val < n) && s.power.wakeAxes.getLsbD k.val
        && (s.axis k.val).wakeCount + 1 == s.inForce.wake.edges
    | _ => false)

/-- MOTION_WAKE_TRANSITION (R152): the axis's count in this window; at `wake_edges` the device wakes, and AXIS_WAKE
names the lowest such axis.  A source of a higher code in the same AON tick gives way (R401). -/
def motionWakeTransition (n : Nat) (s : State) : State :=
  if s.timeRuns || s.sys != .ready || !s.power.wakeAxes.getLsbD n then s
  else
    let w := s.inForce.wake
    let a := s.axis n
    let c := a.wakeCount + 1
    let s := s.setAxis n { a with wakeCount := c }
    let first := s.power.waking.isNone || (s.power.wakeTick == s.aon && s.power.waking != some 2)
    if c = w.edges ∧ s.inForce.power.wakeMask.getLsbD 1 ∧ first ∧ !s.lowerAxisWakes n then
      (s.post (ev Ev.axisWake Cls.axis n 0 (c % 65536))).startWake 2
    else s

/-- WAKE_WINDOW_END (R152): each window of `wake_window` × 1,024 AON ticks clears the counts. -/
def wakeWindowEnd (s : State) : State :=
  let len := s.inForce.wake.window * 1024
  if s.timeRuns || s.sys != .ready || len = 0 || decide (s.aon < s.wakeAt + len) then s
  else { s with
    wakeAt := s.wakeAt + (s.aon - s.wakeAt) / len * len
    axes := s.axes.map (fun (x : Nat × Axis) => (x.1, { x.2 with wakeCount := 0 })) }

/-! ## The rails (R397, R398) -/

/-- The line that power-up raised last. -/
def State.lastUp (s : State) : Option Nat := (List.range 7).reverse.find? (fun k => s.power.enP.getLsbD k && !s.power.pg.getLsbD k)

/-- The line that power-down lowered last and whose PG is still high. -/
def State.lastDown (s : State) : Option Nat := (List.range 7).find? (fun k => !s.power.enP.getLsbD k && s.power.pg.getLsbD k)

/-- RAIL_STEP: the PG of the line raised last, EN_P7 for the OTP among them (R458), has been high for 10 AON ticks.
After the last line of a
SLEEP wake, the domains run again (R402). DEDUCED, log entry 108. -/
def railStep (s : State) : State :=
  let raised := s.power.enP.getLsbD 7 && !s.power.pg.getLsbD 7
  if decide (s.aon < s.power.pgSince + 10) then s
  else if raised then { s with power := { s.power with pg := s.power.pg ||| 0x80 } }
  else if s.power.seq != .up then s
  else
    let s := { s with power := { s.power with pg := s.power.pg ||| (s.power.enP &&& 0x7F) } }.raiseNext
    if s.power.seq == .idle && s.sys == .ready && s.pwr == .sleep && s.power.waking.isSome then s.runLink else s

/-- PG_FALL: the PG of the line lowered last falls. -/
def pgFall (s : State) : State :=
  if s.power.seq != .down then s
  else match s.lastDown with
    | some k => { s with power := { s.power with pg := s.power.pg &&& ~~~(1#8 <<< k) } }.lowerNext
    | none => s

/-- PG_TIMEOUT: a PG stays high beyond `pg_timeout`; this is logged, and the sequence goes on.
DEDUCED, log entry 108. -/
def pgTimeout (s : State) : State :=
  match s.power.seq, s.lastDown with
  | .down, some k =>
    if s.aon < s.power.pgSince + (s.railRec k).pgTimeout * msTicks then s
    else (s.logOpen { origin := .keeper, obj := k }).lowerNext
  | _, _ => s

/-- RAIL_LOST: a PG reads low for 4 AON ticks while its line is high. -/
def railLost (k : Nat) (s : State) : State :=
  let up := s.power.enP.getLsbD k && (k == 7 || s.power.pg.getLsbD k)
  if !up then s
  else
    let s := { s with power := { s.power with pg := s.power.pg &&& ~~~(1#8 <<< k) } }
    s.enterFaultFor true Rc.railLost .keeper k

/-- PMBUS_ALERT: the Keeper reads the alert responder and its STATUS_WORD. -/
def pmbusAlert (k : Nat) (status : BitVec 16) (s : State) : State :=
  if s.sys == .off || (s.railRec k).addr = 0 then s
  else
    let s := (s.emit (.pmbus 0x0C 0 none false)).emit (.pmbus (s.railRec k).addr 0x79 none (s.railRec k).pec)
    s.post (ev Ev.pmbusAlert Cls.system 0 0 (k + 256 * status.toNat))

/-! ## The reference and the links (R393–R395, R402) -/

/-- REF_DETECT_DONE: the Keeper has counted rising edges for 100 µs. -/
def refDetectDone (edges : Nat) (s : State) : State :=
  let starts := s.sys == .upsett || (s.sys == .ready && s.pwr == .offAon && s.power.waking.isSome)
  if !starts || s.power.refRunning then s
  else { s with power := { s.power with oscillator := decide (2000 ≤ edges) } }

/-- REF_LOST: a fault while PD_TIME runs. -/
def refLost (s : State) : State := if s.timeRuns then s.enterFaultAs true Rc.refLost .keeper else s

/-- PLL_UNLOCK: any PLL but HOST (R394), in DOZE as well, where the reference runs; without the CORE PLL only PD_AON
is left (R407). -/
def pllUnlock (pll : Pll) (s : State) : State :=
  if s.timeRuns || s.pwr == .doze then s.enterFaultAs (pll == .core) Rc.pllUnlock .keeper else s

/-- HOST_LINK_LOSS: no fault; the PCI Express link goes down. -/
def hostLinkLoss (s : State) : State := { s with host := { s.host with linkUp := false } }

/-- PD_HOST runs. -/
def State.hostRuns (s : State) : Bool :=
  match s.sys with
  | .off => false
  | .safe => false
  | .upsett => match s.power.phase with
    | some p => decide (3 < p)
    | none => true
  | .fault => !s.power.reduced
  | _ => (s.pwr != .sleep && s.pwr != .offAon) || s.power.linkOn

/-- PCIE_LINK_UP: the link-down was a reset of the function (R402): the MSI-X table, the interrupt
registers and the event ring are at reset. -/
def pcieLinkUp (s : State) : State :=
  if s.host.linkUp || !s.hostRuns then s
  else
    let r := s.ring
    { s with
      host := { s.host with linkUp := true }
      ints := {}
      ring := { ({} : Ring) with
        seq := r.seq, unreported := r.unreported, lastLost := r.lastLost, entries := r.entries } }

/-- AON_TRIM: every 16 ms the Keeper counts reference cycles over 1,024 AON ticks; outside 24,875–25,125
it steps the trim code toward nominal.  Which way the code moves the clock is not given.
DESIGN CHOICE, log entry 111. -/
def aonTrim (count : Nat) (s : State) : State :=
  if s.sys == .off || !s.power.refRunning || decide (s.aon < s.power.trimAt + 16384) then s
  else
    let slow := decide (25125 < count)
    let inside := decide (24875 ≤ count) && !slow
    let code := s.power.aonTrim
    let step := if slow == Config.trimRises then (if code = 0xFF then code else code + 1)
      else (if code = 0 then code else code - 1)
    { s with power := { s.power with trimAt := s.aon, trimmed := inside, aonTrim := if inside then code else step } }

/-! ## The head supplies (R404) -/

/-- A supply leaves its normal course: HV_STATE and a log entry (R404). DESIGN CHOICE, log entry 168. -/
def State.hvCondition (k : Nat) (code : Reason) (s : State) : State :=
  (s.logOpen { origin := .fwAuto, reason := code, obj := k }).postHv k code

/-- A supply fails: HVEN falls. -/
def State.hvFail (k : Nat) (code : Reason) (ok : Bool) (s : State) : State :=
  let p := s.power
  let s := { s with power := { p with hvFailed := putBit p.hvFailed k true, hvok := putBit p.hvok k ok } }
  (if s.power.hven.getLsbD k then s.driveHven k false else s).hvCondition k code

/-- HVOK_TIMEOUT: HVOK is not high `hv_on_timeout` ms after HVEN rose. -/
def hvokTimeout (k : Nat) (s : State) : State :=
  match (s.hvt k).riseAt with
  | some t =>
    if !s.power.hven.getLsbD k || decide (s.aon < t + (s.inForce.hvs.get {} k).onTimeout * msTicks) then s
    else s.hvFail k Rc.hvOnTimeout false
  | none => s

/-- HV_LOST: HVOK is low for 10 AON ticks while HVEN is high. -/
def hvLost (k : Nat) (s : State) : State :=
  if !s.power.hven.getLsbD k then s
  else
    let s := s.hvFail k Rc.hvLost false
    if (s.inForce.hvs.get {} k).failFault && s.sys.armedState then s.enterFault Rc.hvLost .fwAuto else s

/-- HV_DISCHARGED: HVOK is low after HVEN fell; an entry that waits goes on. -/
def hvDischarged (k : Nat) (s : State) : State :=
  match (s.hvt k).fallAt with
  | some _ =>
    let s := { s with power := { s.power with hvok := putBit s.power.hvok k false } }
    (s.setHvt k { s.hvt k with fallAt := none }).tryEntry
  | none => s

/-- HV_DISCHARGE_TIMEOUT: HVOK is still high `hv_discharge_timeout` ms after HVEN fell; an entry that
waits goes on. DEDUCED, log entry 106. -/
def hvDischargeTimeout (k : Nat) (s : State) : State :=
  match (s.hvt k).fallAt with
  | some t =>
    if s.aon < t + (s.inForce.hvs.get {} k).dischargeTimeout * msTicks then s
    else ((s.setHvt k { s.hvt k with fallAt := none }).hvFail k Rc.hvDischarge true).tryEntry
  | none => s

/-! ## VDDIO_33 (R508) -/

/-- VDDIO_LOST: a fault with the reduced FAULT; in OFF-AON and SAFE the Keeper only keeps the code, for its
report after the next restart. DEDUCED, log entry 109. -/
def vddioLost (s : State) : State :=
  match s.sys with
  | .off => s
  | .fault => if s.power.reduced then s else s.reduce Rc.vddioLost 0xF
  | _ =>
    if s.sys == .safe || (s.sys == .ready && s.pwr == .offAon) then
      { s with power := { s.power with prevFault := Rc.vddioLost, prevPhase := 0xF, prevReport := true } }
    else s.enterFaultAs true Rc.vddioLost .keeper

/-! ## The POWER commands (R410) -/

/-- POWER.STATUS: `hvok` is the levels of the HVOK pins. -/
def powerStatusBody (hvok : Byte) (_rq : Request) (s : State) : Verdict :=
  let p := { s.power with hvok := hvok }
  .done { s with power := p }
    (le 1 (pwrCode s.pwr) ++ le 1 p.wakeSource ++ [p.enP, p.pg, p.hven, p.hvok, p.hvFailed] ++ le 1 (b2n p.oscillator)
      ++ [p.aonTrim] ++ le 1 p.restartKind ++ le 2 p.prevFault.toNat ++ le 1 p.prevPhase ++ zeros 1
      ++ le 2 (s.host.bootCount % 65536) ++ le 4 p.wakes.toNat ++ le 4 ((s.aon - p.stateAt) / secondTicks) ++ zeros 4)

/-- The power state of POWER.SET_STATE's target. -/
def powerTarget : Nat → Option PwrState
  | 1 => some .ready
  | 2 => some .doze
  | 3 => some .sleep
  | 4 => some .offAon
  | _ => none

/-- POWER.SET_STATE: READY from DOZE is taken at once. DEDUCED, log entry 103. -/
def powerSetStateBody (rq : Request) (s : State) : Verdict :=
  match powerTarget (fld rq.payload 0 1) with
  | none => badValue 0
  | some t =>
    if t = s.pwr then .done s []
    else if t = .ready then .done (s.finishWakeAs (.mbx rq.mbx.val)) []
    else if s.powerBusy then refuseAs Rc.powerBusy
    else
      let e : Entry := { target := t, origin := .mbx rq.mbx.val, due := s.aon + msTicks }
      .done { s with power := { s.power with entry := some e } } []

/-- POWER.POLICY_SET. -/
def powerPolicySetBody (rq : Request) (_s : State) : Verdict := .stage (.power (powerOf rq.payload))

/-- POWER.HV_SET. -/
def powerHvSetBody (rq : Request) (_s : State) : Verdict :=
  checked (hvFields rq.payload) (.stage (.hv (fld rq.payload 0 1) (hvOf rq.payload)))

/-- POWER.RAIL_READ: what the bus returns (READ_VOUT in mV, READ_IOUT in 10 mA, READ_TEMPERATURE_1 in
0.25 °C, STATUS_WORD), or a failed transaction. DESIGN CHOICE, log entry 107. -/
def powerRailReadBody (bus : Option (List Nat)) (rq : Request) (s : State) : Verdict :=
  let k := fld rq.payload 0 1
  checked [(decide (k < 8), 0)] <|
    let a := (s.railRec k).addr
    if a = 0 then refuseAs Rc.noPmbus
    else match bus with
      | none => refuseAs Rc.pmbusError
      | some v =>
        let s := [0x8B, 0x8C, 0x8D, 0x79].foldl (fun (s : State) (c : Nat) => s.emit (.pmbus a c none (s.railRec k).pec)) s
        .done s ((List.range 4).flatMap (fun i => le 2 (v.getD i 0 % 65536)))

/-- The size of a POWER.IMAGE_WRITE request. -/
def powerImageWriteSize (rq : Request) : Nat := 8 + fld rq.payload 2 2

/-- The flash address of an image slot (R408). -/
def imageBase (b : Bool) : Nat := if b then 0x500000 else 0x100000

/-- POWER.IMAGE_WRITE. -/
def powerImageWriteBody (rq : Request) (s : State) : Verdict :=
  let p := rq.payload
  let n := fld p 2 2
  let off := fld p 4 4
  let b := fld p 0 1 == 1
  checked [(decide (fld p 0 1 < 2), 0), (decide (1 ≤ n ∧ n ≤ 1000), 2)] <|
    if b = s.host.fwSlotB then refuseAs Rc.imageSlotActive
    else if 0x400000 < off + n then refuseAs Rc.imageRange
    else
      let op : FlashOp := .image (s.waiterOf rq 0x0D05) (imageBase b + off) ((p.drop 8).take n)
      .accept (s.queueFlash op)

/-- IMAGE_WRITE_DONE: the chunk in progress is written, or the flash reports an error. -/
def imageWriteDone (ok : Bool) (s : State) : State :=
  match s.flash.ops with
  | .image w a bs :: _ =>
    (s.endFlash (if ok then flashImage s.flash.bytes a bs else s.flash.bytes)).commandDone w
      (if ok then 0 else Rc.flashError) 0 0
  | _ => s

/-- POWER.GET. -/
def powerGetBody (rq : Request) (s : State) : Verdict :=
  let rec_ := fld rq.payload 0 1
  let id := fld rq.payload 1 1
  checked [(decide (rec_ < 2), 0), (decide (id < if rec_ = 0 then 1 else 8), 1)] <|
    let cfg := s.readCfg rq
    .done s (if rec_ = 0 then powerBytes cfg.power else hvBytes id (cfg.hvs.get {} id))

/-! ## Holdoffs (R133) -/

/-- The counter in the low half of an event's detail, as it stands now; none where the detail holds no counter.
DEDUCED, log entry 43. -/
def State.currentCount (s : State) (k : EventKey) : Option Word :=
  if k.code = Ev.trigDrop then some (dropCount (s.trig k.obj) (BitVec.ofNat 16 k.sub))
  else if k.code = Ev.ringStarved then some (s.rbar k.obj).starved
  else if k.code = Ev.ringEcc then some (s.rbar k.obj).ringUncorrectable
  else if k.code = Ev.caneLate then some (s.port k.obj).lateLines
  else if k.code = Ev.pairInputMismatch then some s.pair.inputMismatches
  else none

/-- A sensor as THERM_SENSOR numbers it is valid (R427). -/
def State.sensorValid (s : State) (k : Nat) : Bool :=
  if k < 16 then s.therm.valid.getLsbD k
  else if k = 16 then s.therm.tk0.isSome
  else if k = 17 then s.therm.tk1.isSome
  else !s.therm.hbmLost

/-- The event that a holdoff's end posts: the values current at that moment (R133).  What belongs to an
occurrence, a line index or a position, is that of the latest. DEDUCED, log entry 43. -/
def State.currentBody (s : State) (k : EventKey) (b : EventBody) : EventBody :=
  let d := b.detail.toNat
  if k.code = Ev.axisWrap then axisWrapBody k.obj (s.axis k.obj)
  else if k.code = Ev.axisMotion then axisMotionBody k.obj (s.axis k.obj)
  else if k.code = Ev.headTemp then headTempBody k.obj b.reason (s.headTemp k.obj) (tempRec s.inForce k.obj).setpoint
  else if k.code = Ev.thermCeiling then s.ceilingBody
  else if k.code = Ev.thermLevel then s.levelBody (d % 4) (d / 16 % 4)
  else if k.code = Ev.thermGradient then s.gradientBody
  else if k.code = Ev.thermSensor then sensorBody (d % 32) (s.sensorValid (d % 32))
  else if k.code = Ev.waveClip then waveClipBody k.obj (s.chan k.obj)
  else if k.code = Ev.dacBlocked then dacBlockedBody k.obj (s.chan k.obj)
  else match s.currentCount k with
    | some c => { b with detail := BitVec.ofNat 64 (d / 2 ^ 32 * 2 ^ 32 + c.toNat) }
    | none => b

/-- EVENT_HOLDOFF_EXPIRY: one event is posted when an occurrence waits and its values differ from those
last posted; it starts the next holdoff. DEDUCED, log entry 43. -/
def eventHoldoffExpiry (k : EventKey) (s : State) : State :=
  match s.holdoffs.find? (fun h => h.key == k) with
  | none => s
  | some h =>
    if s.aon < h.until_ then s
    else
      let rest := s.holdoffs.filter (fun x => x.key != k)
      let drop : State := { s with holdoffs := rest }
      match h.waiting with
      | none => drop
      | some b =>
        let c := s.currentBody k b
        if c = h.last then drop
        else
          { s.post c with
            holdoffs := rest ++ [{ key := k, until_ := s.aon + holdoffTicks, last := c, waiting := none }] }

end Sys2Proof.Machine
end

