-- ==== Sys2Proof/Machine/Upsett.lean ====
section
/-!
DEFINITION. The reset pins and the Upsett sequence (R405–R409, R451, R468, R364, R516): what each phase
does, its timeout, and its faults.
-/

namespace Sys2Proof.Machine

open Sys2Proof

/-! ## Reset pins (R405) -/

/-- POR_ASSERT: POR_N is asserted or VDD_AON is lost. DEDUCED, log entry 112. -/
def porAssert (s : State) : State := s.enterOff

/-- POR_RELEASE: with VDD_AON good the Upsett sequence starts at U0. DEDUCED, log entry 112. -/
def porRelease (vddAonGood : Bool) (s : State) : State :=
  if s.sys == .off && vddAonGood then s.enterUpsett 0 0 .boot else s

/-- RSTN_ASSERT: a fault in UPSETT and in the operating states; in FAULT it enters UPSETT, where U1 begins
when the pin is released. DEDUCED, log entry 110. -/
def rstnAssert (s : State) : State :=
  match s.sys with
  | .off => s
  | .safe => s
  | .fault =>
    if s.outranked .upsett then s
    else
      let s := s.enterUpsett 1 1 .keeper
      { s with power := { s.power with rstnHeld := true } }
  | _ => if s.power.rstnHeld then s else s.enterFault Rc.resetPin .keeper

/-- RSTN_RELEASE. DEDUCED, log entry 110. -/
def rstnRelease (s : State) : State :=
  if s.power.rstnHeld then { s with power := { s.power with rstnHeld := false, phaseAt := s.aon } } else s

/-! ## Phases (R406, R407) -/

/-- The phases run: in UPSETT, or on a wake from OFF-AON. -/
def State.phaseRuns (s : State) : Option Nat :=
  if (s.sys == .upsett || (s.sys == .ready && s.pwr == .offAon)) && !s.power.rstnHeld then s.power.phase else none

/-- The timeout of a phase, in ms (R406). -/
def phaseMs : Nat → Nat
  | 0 => 10
  | 1 => 20
  | 2 => 50
  | 3 => 6
  | 4 => 200
  | 5 => 5000
  | 6 => 200
  | _ => 10

/-- The code of a phase's timeout (R406); U3 without edges reports NO_REFERENCE. -/
def phaseCode (p : Nat) (edges : Bool) : Reason :=
  match p with
  | 0 => Rc.keeperStart
  | 1 => Rc.otpReadTimeout
  | 2 => Rc.railFailed
  | 3 => if edges then Rc.pllLockFailed else Rc.noReference
  | 4 => Rc.bistTimeout
  | 5 => Rc.noValidImage
  | 6 => Rc.hbmTrainingFailed
  | _ => Rc.linkPhaseTimeout

/-- U5 begins: QSPI_RESETN rises, and the boot ROM reads the boot configuration and takes its mode
(R408, R503). DESIGN CHOICE, log entry 151. -/
def State.readBoot (s : State) : State :=
  let cells := s.flash.bytes.takeWhile (fun c => decide (c.1 < 4096))
  { s with flash := { s.flash with resetLow := false, bus := FlashBus.of (Config.bootBus cells) } }

/-- PAIR_ID is latched at U7 (R324, R347): without a twin it tells whether this unit is the standby (R325). -/
def State.latchPairId (s : State) : State :=
  let p := { s.pair with idHigh := Config.pairIdPin }
  { s with pair := if s.pairRuns then p else { p with unitS := Config.pairIdPin } }

/-- A phase begins. -/
def State.startPhase (p : Nat) (s : State) : State :=
  let s := { s with power := { s.power with phase := some p, phaseAt := s.aon } }
  match p with
  | 2 => s.railsUp
  | 5 => s.readBoot
  | 6 => s.loadCal
  | 7 =>
    let s := (if s.sys == .upsett then s.portsOn else s.runLink).latchPairId
    if s.pair.state == .unpaired then ({ s with pair := { s.pair with trainFrom := some s.tick } }).setPair .training 0 else s
  | _ => s

/-- A phase has completed: HST_STATUS.UPSETT_PHASE says so, and the next one begins. -/
def State.passPhase (p next : Nat) (s : State) : State :=
  let s := if s.sys == .upsett then { s with host := { s.host with upsettPhase := p } } else s
  s.startPhase next

/-! ## What the phases do -/

/-- U1: the OTP read at all margins, the shadow, and the factory trim (R395, R441, R451).
DEDUCED, log entry 122. -/
def State.readOtp (margins : Table (Word × Word)) (s : State) : State :=
  let s := s.latchOtp margins
  if s.region8 1 == .valid then
    { s with power := { s.power with aonTrim := BitVec.ofNat 8 (s.shadowWord 0x011).toNat, trimmed := false } }
  else s

/-- The fixed partitions that U4 tests (R464, R468): all but PART10. -/
def fixedParts : List Nat := [5, 6, 7, 8, 9, 11, 12, 13, 14, 15, 16, 17, 18, 19, 20, 21, 22, 23]

/-- A pool unit that fails U4 is retired (R38, R468): the results are logged together.
DEDUCED, log entry 113. -/
def State.retireAtBoot (s : State) (f : Nat × Nat) : State :=
  let x := s.pool f.1
  let s := s.setPool f.1 { x with retired := insertNat x.retired f.2, resting := none }
  s.post (ev Ev.bistRetired Cls.system 0 Rc.bistFailed
    (f.1 + 256 * f.2 + 65536 * b2n (s.restingOf f.1).isNone))

/-- The MISR of a start-up test: the expected signature, unless the sequence says otherwise (R465, R468). -/
def startupMisr (b : StartupBist) (part unit count : Nat) : BitVec 64 :=
  (Table.find? b.misrs (16 * part + unit)).getD (Config.bistExpected part count)

/-- The pool units that fail in U4 (R468). -/
def startupFails (b : StartupBist) : List (Nat × Nat) :=
  (List.range 5).flatMap (fun p => ((List.range (poolSize p).1).filter (fun u =>
    bistVerdict p 4096 (startupMisr b p u 4096) = 2)).map (fun u => (p, u)))

/-- One test of U4 is recorded. -/
def State.startupTest (b : StartupBist) (part unit count : Nat) (s : State) : State :=
  let misr := startupMisr b part unit count
  s.recordTest part unit 0 (bistVerdict part count misr) count .none (some misr) (Config.bistSeed part count)

/-- The results of the start-up tests (R468): one entry of origin BOOT. -/
def State.startupTests (b : StartupBist) (s : State) : State :=
  let s := (List.range 5).foldl (fun (s : State) (p : Nat) =>
    (List.range (poolSize p).1).foldl (fun (s : State) (u : Nat) =>
      s.startupTest b p u 4096) s) s
  let s := fixedParts.foldl (fun (s : State) (k : Nat) =>
    s.startupTest b k 0 16384) s
  let s := { s with mem := { s.mem with failRows := b.rows } }
  ((startupFails b).foldl State.retireAtBoot s).logOpen { origin := .boot }

/-- The fixed partition that faults U4 (R468). DEDUCED, log entry 113. -/
def State.startupFault (s : State) (b : StartupBist) : Option Nat :=
  if s.otp.lc == .virgin || s.otp.lc == .mfg then none else fixedParts.find? (fun k => bistVerdict k 16384 (startupMisr b k 0 16384) = 2)

/-- The boot counter is incremented, and the entries recorded earlier in the sequence receive the new
value (R409). -/
def State.countBoot (s : State) : State :=
  if s.power.restartKind != 0 then s
  else
    let n := (s.host.bootCount + 1) % 65536
    { s with
      host := { s.host with bootCount := n }
      log := { s.log with entries := s.log.entries.map (fun (x : Word × LogBody) => (x.1, { x.2 with boot := n })) } }

/-- The Keeper reports a fault that it has kept (R407, R508). DEDUCED, log entry 113. -/
def State.reportPrev (s : State) : State :=
  if s.power.prevReport then
    let s := s.logOpen { origin := .boot, reason := s.power.prevFault }
    { s with power := { s.power with prevReport := false } }
  else s

/-- U5: firmware starts (R408, R409).  What U1 has found is posted where U1 has run: not after SYS.RESET, which begins
at U3, nor in a wake from OFF-AON (R407, R463). -/
def State.bootFirmware (slotB : Bool) (fw : BitVec 24) (s : State) : State :=
  let s := { s with host := { s.host with fw := fw, fwSlotB := slotB } }
  let s := s.countBoot.reportPrev
  if s.power.restartKind == 2 || s.power.restartKind == 4 then s else s.postOtpBoot

/-- The REPAIR records in use, as latched (R446): an INVALID region holds none. -/
def State.repairRecords (s : State) : List Nat :=
  if s.region8 2 == .invalid then []
  else ((List.range 40).filter (fun j => s.shadowWord (Sys2Proof.Machine.repairSlot j) != 0 && repairGood s.shadowWord j)).map
    (fun j => (s.shadowWord (Sys2Proof.Machine.repairSlot j)).toNat)

/-- The HBM rows that the records replace at U6 (R363, R446). -/
def State.rowRepairs (s : State) : List HbmRow :=
  (s.repairRecords.filter (fun w => bitsOf w 30 2 == 1)).map (fun w => ⟨bitsOf w 25 5, bitsOf w 19 6, bitsOf w 0 19⟩)

/-- The failing rows of an SRAM bank (0–31 Weave, 32 + k Stake): those of the records, and those that U4 has found
(R364). -/
def State.badSramRows (s : State) (bank : Nat) : List Nat :=
  let recorded := (s.repairRecords.filter (fun w => bitsOf w 30 2 == 2
    && bitsOf w 19 6 + 32 * bitsOf w 29 1 == bank)).map (fun w => bitsOf w 0 19)
  (recorded ++ (s.mem.failRows.filter (fun r => r.1 == bank)).map (·.2)).foldl insertNat []

/-- A bank's failing rows exceed its 8 spare rows (R364). -/
def State.bankFails (s : State) (bank : Nat) : Bool := decide (8 < (s.badSramRows bank).length)

/-- The Weave banks that fail at U6 (R364). -/
def State.weaveFails (s : State) : List Nat := (List.range 32).filter s.bankFails

/-- A Stake bank fails at U6 (R364). -/
def State.stakeFails (s : State) : Bool := (List.range 8).any (fun k => s.bankFails (32 + k))

/-- A bank whose failing rows exceed its spares is retired at U6 (R364, R366).
DEDUCED, log entry 113. -/
def State.retireAtU6 (s : State) (k : Nat) : State :=
  ((s.logOpen { origin := .fwAuto, obj := k }).reformPool k).postBank k 0 false true

/-- Every port is UP, INCOMPATIBLE or has timed out once, and the pairing link is PAIRED or has ended its
attempt (R289, R324). -/
def State.linksSettled (s : State) : Bool :=
  (List.range 32).all (fun p => portSettled (s.port p)) && s.pair.state != .training && s.pair.state != .syncing

/-- U7 completes: READY (R42), and firmware walks every bar from its start entry (R223).  AGE then counts from 0
(R347).  Sensors that were lost before are still lost (R414). -/
def State.endUpsett (s : State) : State :=
  let p := s.pair
  let s := { s with
    host := { s.host with upsettPhase := 7 }
    power := { s.power with phase := none, linkOn := false }
    pair := if s.pairRuns then p else { p with lastPin := s.tick, lastMsg := s.tick } }
  let s := (s.setSys .ready .boot 0).startReform
  if s.sensorsLost then s.enterFault Rc.sensorsLost .fwAuto else s

/-- UPSETT_PHASE_DONE (R406, R407): the work of the phase is done; `i` is what it found.  U2 needs every
rail up, U6 in UPSETT every start-up calibration run ended (R431), and U7 every link settled (R289). -/
def upsettPhaseDone (i : PhaseInput) (s : State) : State :=
  match s.phaseRuns with
  | none => s
  | some 0 => s.passPhase 0 1
  | some 1 =>
    let s := s.readOtp i.margins
    match s.otpFault with
    | some code => s.enterFault code .boot
    | none => s.passPhase 1 2
  | some 2 =>
    if s.power.seq != .idle || s.power.enP &&& 0x7F != 0x7F then s else s.passPhase 2 3
  | some 3 =>
    let s := { s with power := { s.power with refRunning := true, trimAt := s.aon } }
    let s := s.passPhase 3 (if s.sys == .upsett then 4 else 5)
    if s.sys == .upsett && s.power.restartKind != 0 then s.loadTick else s
  | some 4 =>
    if s.otp.lc == .scrapped then s.passPhase 4 5
    else
      let s := s.startupTests i.bist
      match s.startupFault i.bist with
      | some k => s.enterFaultFor false Rc.bistFailed .boot k
      | none => s.passPhase 4 5
  | some 5 => match s.bootChoice i.imageA i.imageB with
    | none => s.enterFault Rc.noValidImage .boot
    | some (b, x) => State.serveUndefined 16 ((s.bootFirmware b x.fw).passPhase 5 6)
  | some 6 =>
    if s.stakeFails then s.enterFault Rc.sramRepairFailed .boot
    else if 4 < s.weaveFails.length then
      s.enterFaultFor false Rc.retireLimit .boot (s.weaveFails.headD 0) (some (BitVec.ofNat 32 (maskOf s.weaveFails)))
    else if s.sys == .upsett && !(s.cal.queue.isEmpty && s.cal.running.isEmpty) then s
    else (s.weaveFails.foldl State.retireAtU6 { s with mem := { s.mem with repaired := s.rowRepairs } }).passPhase 6 7
  | some _ =>
    if s.sys == .upsett then (if s.linksSettled then s.endUpsett else s)
    else { s with power := { s.power with phase := none } }

/-- UPSETT_PHASE_TIMEOUT (R406): U2 is retried twice; `edges`: U3 has seen reference edges.  Ports and
pairing never fault U7: while one of them is not settled, it waits. -/
def upsettPhaseTimeout (edges : Bool) (s : State) : State :=
  match s.phaseRuns with
  | none => s
  | some p =>
    if s.power.retryAt.isSome || decide (s.aon < s.power.phaseAt + phaseMs p * msTicks) || (p == 7 && !s.linksSettled) then s
    else if p = 2 ∧ s.power.u2Fails < 2 then
      ({ s with power := { s.power with u2Fails := s.power.u2Fails + 1 } }).railsDown
    else s.enterFaultFor (decide (p ≤ 2)) (phaseCode p edges) .boot (if p = 2 then s.lastUp.getD 0 else 0)

/-- RAIL_RETRY: 100 ms after the rails of a failed U2 are down, they are raised again (R406). -/
def railRetry (s : State) : State :=
  match s.power.retryAt with
  | some t =>
    if s.aon < t || s.power.seq != .idle then s
    else ({ s with power := { s.power with retryAt := none, phaseAt := s.aon } }).railsUp
  | none => s

end Sys2Proof.Machine
end

