-- ==== Sys2Proof/Machine/ExecCommands.lean ====
section
/-!
DEFINITION. The meanings of the mailbox commands: for each, its entry in the command index and its body,
served through the exchange of R70–R78.
-/

namespace Sys2Proof.Machine

open Sys2Proof

/-- The entry of SYS.NOP in the command index (R511). -/
def sysNopCmd : Cmd := { op := 0x0000 }

/-- SYS_NOP (R92): SYS.NOP does nothing and answers at once. -/
def execSysNop (m : Moment) (rq : Request) (s : State) : Host.Outcome State Fault Refusal :=
  .next (serve sysNopCmd 0 sysNopBody m rq s)

/-- The entry of SYS.INFO in the command index (R511). -/
def sysInfoCmd : Cmd := { op := 0x0001 }

/-- SYS_INFO (R92): SYS.INFO returns identity, weave mode and active counts. -/
def execSysInfo (m : Moment) (rq : Request) (s : State) : Host.Outcome State Fault Refusal :=
  .next (serve sysInfoCmd 0 sysInfoBody m rq s)

/-- The entry of SYS.STATE in the command index (R511). -/
def sysStateCmd : Cmd := { op := 0x0002 }

/-- SYS_STATE (R92): SYS.STATE returns system, power and commit state. -/
def execSysState (m : Moment) (rq : Request) (s : State) : Host.Outcome State Fault Refusal :=
  .next (serve sysStateCmd 0 sysStateBody m rq s)

/-- The entry of SYS.PAUSE in the command index (R511). -/
def sysPauseCmd : Cmd := { op := 0x0003, states := [.printing, .paused], primary := true }

/-- SYS_PAUSE (R92): SYS.PAUSE moves the device from PRINTING to PAUSED. -/
def execSysPause (m : Moment) (rq : Request) (s : State) : Host.Outcome State Fault Refusal :=
  .next (serve sysPauseCmd 0 sysPauseBody m rq s)

/-- The entry of SYS.RESUME in the command index (R511). -/
def sysResumeCmd : Cmd := { op := 0x0004, states := [.paused], primary := true }

/-- SYS_RESUME (R92): SYS.RESUME starts the whole-configuration check that leads back to ARMED. -/
def execSysResume (m : Moment) (rq : Request) (s : State) : Host.Outcome State Fault Refusal :=
  .next (serve sysResumeCmd 0 sysResumeBody m rq s)

/-- The entry of SYS.RESET in the command index (R511). -/
def sysResetCmd : Cmd := { op := 0x0005, states := [.fault] }

/-- SYS_RESET (R92): SYS.RESET with the confirm word schedules entry to UPSETT at U3 1 ms after the response. -/
def execSysReset (m : Moment) (rq : Request) (s : State) : Host.Outcome State Fault Refusal :=
  .next (serve sysResetCmd 4 sysResetBody m rq s)

/-- The entry of SYS.DONE_LIST in the command index (R511). -/
def sysDoneListCmd : Cmd := { op := 0x0006 }

/-- SYS_DONE_LIST (R92): SYS.DONE_LIST returns the mailbox's 16 most recent COMMAND_DONE records. -/
def execSysDoneList (m : Moment) (rq : Request) (s : State) : Host.Outcome State Fault Refusal :=
  .next (serve sysDoneListCmd 0 sysDoneListBody m rq s)

/-- The entry of CFG.COMMIT in the command index (R511). -/
def cfgCommitCmd : Cmd := { op := 0x0101, primary := true }

/-- CFG_COMMIT (R83): CFG.COMMIT submits the mailbox's shadow set for ownership, repeated checks and the
consistency check. -/
def execCfgCommit (m : Moment) (rq : Request) (s : State) : Host.Outcome State Fault Refusal :=
  .next (serve cfgCommitCmd 0 cfgCommitBody m rq s)

/-- The entry of CFG.DISCARD in the command index (R511). -/
def cfgDiscardCmd : Cmd := { op := 0x0102 }

/-- CFG_DISCARD (R92): CFG.DISCARD empties the mailbox's shadow set. -/
def execCfgDiscard (m : Moment) (rq : Request) (s : State) : Host.Outcome State Fault Refusal :=
  .next (serve cfgDiscardCmd 0 cfgDiscardBody m rq s)

/-- The entry of CFG.STAGED in the command index (R511). -/
def cfgStagedCmd : Cmd := { op := 0x0103 }

/-- CFG_STAGED (R92): CFG.STAGED returns the staged counts and bar mask. -/
def execCfgStaged (m : Moment) (rq : Request) (s : State) : Host.Outcome State Fault Refusal :=
  .next (serve cfgStagedCmd 0 cfgStagedBody m rq s)

/-- The entry of CFG.CHECK in the command index (R511). -/
def cfgCheckCmd : Cmd := { op := 0x0104, states := opStates }

/-- CFG_CHECK (R92): CFG.CHECK starts a consistency check without changing anything. -/
def execCfgCheck (m : Moment) (rq : Request) (s : State) : Host.Outcome State Fault Refusal :=
  .next (serve cfgCheckCmd 4 cfgCheckBody m rq s)

/-- The entry of CFG.OWNER in the command index (R511). -/
def cfgOwnerCmd : Cmd := { op := 0x0105 }

/-- CFG_OWNER (R92): CFG.OWNER returns the owner of a resource. -/
def execCfgOwner (m : Moment) (rq : Request) (s : State) : Host.Outcome State Fault Refusal :=
  .next (serve cfgOwnerCmd 8 cfgOwnerBody m rq s)

/-- The entry of GEOM.HEAD_SET in the command index (R511). -/
def geomHeadSetCmd : Cmd := { op := 0x0200, staged := true }

/-- GEOM_HEAD_SET (R98): GEOM.HEAD_SET stages a head record. -/
def execGeomHeadSet (m : Moment) (rq : Request) (s : State) : Host.Outcome State Fault Refusal :=
  .next (serve geomHeadSetCmd 8 geomHeadSetBody m rq s)

/-- The entry of GEOM.ROW_SET in the command index (R511). -/
def geomRowSetCmd : Cmd := { op := 0x0201, staged := true }

/-- GEOM_ROW_SET (R102): GEOM.ROW_SET stages a head-row record. -/
def execGeomRowSet (m : Moment) (rq : Request) (s : State) : Host.Outcome State Fault Refusal :=
  .next (serve geomRowSetCmd 12 geomRowSetBody m rq s)

/-- The entry of GEOM.BAR_SET in the command index (R511). -/
def geomBarSetCmd : Cmd := { op := 0x0202, staged := true }

/-- GEOM_BAR_SET (R100): GEOM.BAR_SET stages a bar record. -/
def execGeomBarSet (m : Moment) (rq : Request) (s : State) : Host.Outcome State Fault Refusal :=
  .next (serve geomBarSetCmd 28 geomBarSetBody m rq s)

/-- The entry of GEOM.NMAP_WRITE in the command index (R511). -/
def geomNmapWriteCmd : Cmd := { op := 0x0203, staged := true }

/-- GEOM_NMAP_WRITE (R108): GEOM.NMAP_WRITE stages masked nozzle-map entries from the payload. -/
def execGeomNmapWrite (m : Moment) (rq : Request) (s : State) : Host.Outcome State Fault Refusal :=
  .next (serve geomNmapWriteCmd (8 + 4 * fld rq.payload 4 2) geomNmapWriteBody m rq s)

/-- The entry of GEOM.NMAP_LOAD in the command index (R511). -/
def geomNmapLoadCmd : Cmd := { op := 0x0204, staged := true }

/-- GEOM_NMAP_LOAD (R118): GEOM.NMAP_LOAD copies nozzle-map entries from HBM and stages them. -/
def execGeomNmapLoad (m : Moment) (rq : Request) (s : State) : Host.Outcome State Fault Refusal :=
  .next (serve geomNmapLoadCmd 20 geomNmapLoadBody m rq s)

/-- The entry of GEOM.NMAP_READ in the command index (R511). -/
def geomNmapReadCmd : Cmd := { op := 0x0205 }

/-- GEOM_NMAP_READ (R120): GEOM.NMAP_READ returns nozzle-map entries. -/
def execGeomNmapRead (m : Moment) (rq : Request) (s : State) : Host.Outcome State Fault Refusal :=
  .next (serve geomNmapReadCmd 8 geomNmapReadBody m rq s)

/-- The entry of GEOM.STITCH_SET in the command index (R511). -/
def geomStitchSetCmd : Cmd := { op := 0x0206, staged := true }

/-- GEOM_STITCH_SET (R110): GEOM.STITCH_SET stages a stitch zone. -/
def execGeomStitchSet (m : Moment) (rq : Request) (s : State) : Host.Outcome State Fault Refusal :=
  .next (serve geomStitchSetCmd 12 geomStitchSetBody m rq s)

/-- The entry of GEOM.MASK_LOAD in the command index (R511). -/
def geomMaskLoadCmd : Cmd := { op := 0x0207, staged := true }

/-- GEOM_MASK_LOAD (R118): GEOM.MASK_LOAD copies a stitch or pass mask from HBM and stages it. -/
def execGeomMaskLoad (m : Moment) (rq : Request) (s : State) : Host.Outcome State Fault Refusal :=
  .next (serve geomMaskLoadCmd 16 geomMaskLoadBody m rq s)

/-- The entry of GEOM.SWATH in the command index (R511). -/
def geomSwathCmd : Cmd := { op := 0x0208, staged := true }

/-- GEOM_SWATH (R114): GEOM.SWATH stages pass_index and swath_offset of a SCANNING bar. -/
def execGeomSwath (m : Moment) (rq : Request) (s : State) : Host.Outcome State Fault Refusal :=
  .next (serve geomSwathCmd 8 geomSwathBody m rq s)

/-- The entry of GEOM.GET in the command index (R511). -/
def geomGetCmd : Cmd := { op := 0x0209 }

/-- GEOM_GET (R120): GEOM.GET returns a geometry record. -/
def execGeomGet (m : Moment) (rq : Request) (s : State) : Host.Outcome State Fault Refusal :=
  .next (serve geomGetCmd 4 geomGetBody m rq s)

/-- The entry of GEOM.COVERAGE in the command index (R511). -/
def geomCoverageCmd : Cmd := { op := 0x020A, states := opStates }

/-- GEOM_COVERAGE (R121): GEOM.COVERAGE starts examining the coverage of a bar. -/
def execGeomCoverage (m : Moment) (rq : Request) (s : State) : Host.Outcome State Fault Refusal :=
  .next (serve geomCoverageCmd 4 geomCoverageBody m rq s)

/-- The entry of AXIS.CONFIG in the command index (R511). -/
def axisConfigCmd : Cmd := { op := 0x0300, staged := true }

/-- AXIS_CONFIG (R153): AXIS.CONFIG stages an axis configuration. -/
def execAxisConfig (m : Moment) (rq : Request) (s : State) : Host.Outcome State Fault Refusal :=
  .next (serve axisConfigCmd 44 axisConfigBody m rq s)

/-- The entry of AXIS.ENABLE in the command index (R511). -/
def axisEnableCmd : Cmd := { op := 0x0301, staged := true }

/-- AXIS_ENABLE (R153): AXIS.ENABLE stages the enabling or disabling of an axis. -/
def execAxisEnable (m : Moment) (rq : Request) (s : State) : Host.Outcome State Fault Refusal :=
  .next (serve axisEnableCmd 4 axisEnableBody m rq s)

/-- The entry of AXIS.READ in the command index (R511). -/
def axisReadCmd : Cmd := { op := 0x0302 }

/-- AXIS_READ (R155): AXIS.READ returns a coherent snapshot of an axis. -/
def execAxisRead (m : Moment) (rq : Request) (s : State) : Host.Outcome State Fault Refusal :=
  .next (serve axisReadCmd 4 axisReadBody m rq s)

/-- The entry of AXIS.PRESET in the command index (R511). -/
def axisPresetCmd : Cmd := { op := 0x0303, states := opStates, primary := true }

/-- AXIS_PRESET (R138): AXIS.PRESET loads the counter now, arms a load at the next index event, or cancels an
armed load. -/
def execAxisPreset (m : Moment) (rq : Request) (s : State) : Host.Outcome State Fault Refusal :=
  .next (serve axisPresetCmd 8 axisPresetBody m rq s)

/-- The entry of AXIS.CLEAR in the command index (R511). -/
def axisClearCmd : Cmd := { op := 0x0304 }

/-- AXIS_CLEAR (R144): AXIS.CLEAR clears statistics or returns a FAULTED axis to STOPPED. -/
def execAxisClear (m : Moment) (rq : Request) (s : State) : Host.Outcome State Fault Refusal :=
  .next (serve axisClearCmd 4 axisClearBody m rq s)

/-- The entry of AXIS.ECHO_SET in the command index (R511). -/
def axisEchoSetCmd : Cmd := { op := 0x0305, staged := true }

/-- AXIS_ECHO_SET (R147): AXIS.ECHO_SET stages an echo-output configuration. -/
def execAxisEchoSet (m : Moment) (rq : Request) (s : State) : Host.Outcome State Fault Refusal :=
  .next (serve axisEchoSetCmd 12 axisEchoSetBody m rq s)

/-- The entry of AXIS.WAKE_SET in the command index (R511). -/
def axisWakeSetCmd : Cmd := { op := 0x0306, staged := true }

/-- AXIS_WAKE_SET (R152): AXIS.WAKE_SET stages the motion-wake settings. -/
def execAxisWakeSet (m : Moment) (rq : Request) (s : State) : Host.Outcome State Fault Refusal :=
  .next (serve axisWakeSetCmd 8 axisWakeSetBody m rq s)

/-- The entry of AXIS.BAR_POSITION in the command index (R511). -/
def axisBarPositionCmd : Cmd := { op := 0x0307 }

/-- AXIS_BAR_POSITION (R145): AXIS.BAR_POSITION returns a bar's synthesised position and motion. -/
def execAxisBarPosition (m : Moment) (rq : Request) (s : State) : Host.Outcome State Fault Refusal :=
  .next (serve axisBarPositionCmd 4 axisBarPositionBody m rq s)

/-- The entry of AXIS.GET in the command index (R511). -/
def axisGetCmd : Cmd := { op := 0x0308 }

/-- AXIS_GET (R155): AXIS.GET returns an axis, echo or wake record. -/
def execAxisGet (m : Moment) (rq : Request) (s : State) : Host.Outcome State Fault Refusal :=
  .next (serve axisGetCmd 4 axisGetBody m rq s)

/-- The entry of TRIG.CONFIG in the command index (R511). -/
def trigConfigCmd : Cmd := { op := 0x0400, staged := true }

/-- TRIG_CONFIG (R180): TRIG.CONFIG stages a trigger-generator configuration. -/
def execTrigConfig (m : Moment) (rq : Request) (s : State) : Host.Outcome State Fault Refusal :=
  .next (serve trigConfigCmd 24 trigConfigBody m rq s)

/-- The entry of TRIG.ENABLE in the command index (R511). -/
def trigEnableCmd : Cmd := { op := 0x0401, states := opStates, primary := true }

/-- TRIG_ENABLE (R180): TRIG.ENABLE runs a scoped check and is accepted as a commit of its own. -/
def execTrigEnable (m : Moment) (rq : Request) (s : State) : Host.Outcome State Fault Refusal :=
  .next (serve trigEnableCmd 4 trigEnableBody m rq s)

/-- The entry of TRIG.RUN_WRITE in the command index (R511). -/
def trigRunWriteCmd : Cmd := { op := 0x0402, staged := true }

/-- TRIG_RUN_WRITE (R161): TRIG.RUN_WRITE stages run-table entries. -/
def execTrigRunWrite (m : Moment) (rq : Request) (s : State) : Host.Outcome State Fault Refusal :=
  .next (serve trigRunWriteCmd (8 + 24 * fld rq.payload 4 2) trigRunWriteBody m rq s)

/-- The entry of TRIG.RUN_START in the command index (R511). -/
def trigRunStartCmd : Cmd := { op := 0x0403, staged := true }

/-- TRIG_RUN_START (R160): TRIG.RUN_START stages a new start entry for a generator. -/
def execTrigRunStart (m : Moment) (rq : Request) (s : State) : Host.Outcome State Fault Refusal :=
  .next (serve trigRunStartCmd 4 trigRunStartBody m rq s)

/-- The entry of TRIG.STATUS in the command index (R511). -/
def trigStatusCmd : Cmd := { op := 0x0404 }

/-- TRIG_STATUS (R182): TRIG.STATUS returns the state and counters of a generator. -/
def execTrigStatus (m : Moment) (rq : Request) (s : State) : Host.Outcome State Fault Refusal :=
  .next (serve trigStatusCmd 4 trigStatusBody m rq s)

/-- The entry of TRIG.SPIT in the command index (R511). -/
def trigSpitCmd : Cmd := { op := 0x0405, states := opStates, primary := true }

/-- TRIG_SPIT (R177): TRIG.SPIT starts a burst of SPIT strobes for a stationary bar. -/
def execTrigSpit (m : Moment) (rq : Request) (s : State) : Host.Outcome State Fault Refusal :=
  .next (serve trigSpitCmd 8 trigSpitBody m rq s)

/-- The entry of TRIG.SPIT_RESUME in the command index (R511). -/
def trigSpitResumeCmd : Cmd := { op := 0x0406, states := [.armed, .printing, .paused], primary := true }

/-- TRIG_SPIT_RESUME (R176): TRIG.SPIT_RESUME clears dry hold after a spit. -/
def execTrigSpitResume (m : Moment) (rq : Request) (s : State) : Host.Outcome State Fault Refusal :=
  .next (serve trigSpitResumeCmd 4 trigSpitResumeBody m rq s)

/-- The entry of TRIG.TRIGOUT_SET in the command index (R511). -/
def trigTrigoutSetCmd : Cmd := { op := 0x0407, staged := true }

/-- TRIG_TRIGOUT_SET (R179): TRIG.TRIGOUT_SET stages a TRIGOUT output configuration. -/
def execTrigTrigoutSet (m : Moment) (rq : Request) (s : State) : Host.Outcome State Fault Refusal :=
  .next (serve trigTrigoutSetCmd 12 trigTrigoutSetBody m rq s)

/-- The entry of TRIG.GET in the command index (R511). -/
def trigGetCmd : Cmd := { op := 0x0408 }

/-- TRIG_GET (R182): TRIG.GET returns a config, run-entry or TRIGOUT record. -/
def execTrigGet (m : Moment) (rq : Request) (s : State) : Host.Outcome State Fault Refusal :=
  .next (serve trigGetCmd 4 trigGetBody m rq s)

/-- The entry of TRIG.CLEAR in the command index (R511). -/
def trigClearCmd : Cmd := { op := 0x0409 }

/-- TRIG_CLEAR (R182): TRIG.CLEAR clears the counters of a generator. -/
def execTrigClear (m : Moment) (rq : Request) (s : State) : Host.Outcome State Fault Refusal :=
  .next (serve trigClearCmd 4 trigClearBody m rq s)

/-- The entry of WAVE.WAVE_SET in the command index (R511). -/
def waveWaveSetCmd : Cmd := { op := 0x0500, staged := true }

/-- WAVE_WAVE_SET (R187): WAVE.WAVE_SET stages a library waveform. -/
def execWaveWaveSet (m : Moment) (rq : Request) (s : State) : Host.Outcome State Fault Refusal :=
  .next (serve waveWaveSetCmd (waveSetSize rq) waveWaveSetBody m rq s)

/-- The entry of WAVE.PROFILE_SET in the command index (R511). -/
def waveProfileSetCmd : Cmd := { op := 0x0501, staged := true }

/-- WAVE_PROFILE_SET (R189): WAVE.PROFILE_SET stages a drive profile. -/
def execWaveProfileSet (m : Moment) (rq : Request) (s : State) : Host.Outcome State Fault Refusal :=
  .next (serve waveProfileSetCmd 20 waveProfileSetBody m rq s)

/-- The entry of WAVE.BAR_SET in the command index (R511). -/
def waveBarSetCmd : Cmd := { op := 0x0502, staged := true }

/-- WAVE_BAR_SET (R191): WAVE.BAR_SET stages a bar's tickle waveform and windows. -/
def execWaveBarSet (m : Moment) (rq : Request) (s : State) : Host.Outcome State Fault Refusal :=
  .next (serve waveBarSetCmd 4 waveBarSetBody m rq s)

/-- The entry of WAVE.CHANNEL_SET in the command index (R511). -/
def waveChannelSetCmd : Cmd := { op := 0x0503, staged := true }

/-- WAVE_CHANNEL_SET (R193): WAVE.CHANNEL_SET stages a digital channel binding. -/
def execWaveChannelSet (m : Moment) (rq : Request) (s : State) : Host.Outcome State Fault Refusal :=
  .next (serve waveChannelSetCmd 8 waveChannelSetBody m rq s)

/-- The entry of WAVE.DAC_SET in the command index (R511). -/
def waveDacSetCmd : Cmd := { op := 0x0504, staged := true }

/-- WAVE_DAC_SET (R197): WAVE.DAC_SET stages a DAC binding. -/
def execWaveDacSet (m : Moment) (rq : Request) (s : State) : Host.Outcome State Fault Refusal :=
  .next (serve waveDacSetCmd 12 waveDacSetBody m rq s)

/-- The entry of WAVE.CURVE_SET in the command index (R511). -/
def waveCurveSetCmd : Cmd := { op := 0x0505, staged := true }

/-- WAVE_CURVE_SET (R203): WAVE.CURVE_SET stages a temperature or density curve. -/
def execWaveCurveSet (m : Moment) (rq : Request) (s : State) : Host.Outcome State Fault Refusal :=
  .next (serve waveCurveSetCmd 132 waveCurveSetBody m rq s)

/-- The entry of WAVE.GET in the command index (R511). -/
def waveGetCmd : Cmd := { op := 0x0506 }

/-- WAVE_GET (R208): WAVE.GET returns a waveform record. -/
def execWaveGet (m : Moment) (rq : Request) (s : State) : Host.Outcome State Fault Refusal :=
  .next (serve waveGetCmd 4 waveGetBody m rq s)

/-- The entry of WAVE.STATUS in the command index (R511). -/
def waveStatusCmd : Cmd := { op := 0x0507 }

/-- WAVE_STATUS (R208): WAVE.STATUS returns channel or bar status. -/
def execWaveStatus (m : Moment) (rq : Request) (s : State) : Host.Outcome State Fault Refusal :=
  .next (serve waveStatusCmd 4 waveStatusBody m rq s)

/-- The entry of WAVE.CLEAR in the command index (R511). -/
def waveClearCmd : Cmd := { op := 0x0508 }

/-- WAVE_CLEAR (R208): WAVE.CLEAR clears the counters of a channel. -/
def execWaveClear (m : Moment) (rq : Request) (s : State) : Host.Outcome State Fault Refusal :=
  .next (serve waveClearCmd 4 waveClearBody m rq s)

/-- The entry of PLANE.DEFINE in the command index (R511). -/
def planeDefineCmd : Cmd := { op := 0x0600, staged := true }

/-- PLANE_DEFINE (R217): PLANE.DEFINE stages a plane descriptor. -/
def execPlaneDefine (m : Moment) (rq : Request) (s : State) : Host.Outcome State Fault Refusal :=
  .next (serve planeDefineCmd 40 planeDefineBody m rq s)

/-- The entry of PLANE.ENABLE in the command index (R511). -/
def planeEnableCmd : Cmd := { op := 0x0601, states := opStates, primary := true }

/-- PLANE_ENABLE (R238): PLANE.ENABLE binds or unbinds a plane as a commit of its own. -/
def execPlaneEnable (m : Moment) (rq : Request) (s : State) : Host.Outcome State Fault Refusal :=
  .next (serve planeEnableCmd 4 planeEnableBody m rq s)

/-- The entry of PLANE.RING_SET in the command index (R511). -/
def planeRingSetCmd : Cmd := { op := 0x0602, staged := true }

/-- PLANE_RING_SET (R221): PLANE.RING_SET stages a bar's line ring. -/
def execPlaneRingSet (m : Moment) (rq : Request) (s : State) : Host.Outcome State Fault Refusal :=
  .next (serve planeRingSetCmd 16 planeRingSetBody m rq s)

/-- The entry of PLANE.INDEX_WRITE in the command index (R511). -/
def planeIndexWriteCmd : Cmd := { op := 0x0603 }

/-- PLANE_INDEX_WRITE (R238): PLANE.INDEX_WRITE writes block-index entries into HBM. -/
def execPlaneIndexWrite (m : Moment) (rq : Request) (s : State) : Host.Outcome State Fault Refusal :=
  .next (serve planeIndexWriteCmd (planeIndexWriteSize rq) planeIndexWriteBody m rq s)

/-- The entry of PLANE.INDEX_READ in the command index (R511). -/
def planeIndexReadCmd : Cmd := { op := 0x0604 }

/-- PLANE_INDEX_READ (R238): PLANE.INDEX_READ returns block-index entries. -/
def execPlaneIndexRead (m : Moment) (rq : Request) (s : State) : Host.Outcome State Fault Refusal :=
  .next (serve planeIndexReadCmd 8 planeIndexReadBody m rq s)

/-- The entry of PLANE.STATUS in the command index (R511). -/
def planeStatusCmd : Cmd := { op := 0x0605 }

/-- PLANE_STATUS (R238): PLANE.STATUS returns plane or bar ring status. -/
def execPlaneStatus (m : Moment) (rq : Request) (s : State) : Host.Outcome State Fault Refusal :=
  .next (serve planeStatusCmd 4 planeStatusBody m rq s)

/-- The entry of PLANE.RETRY in the command index (R511). -/
def planeRetryCmd : Cmd := { op := 0x0606, states := opStates }

/-- PLANE_RETRY (R235): PLANE.RETRY decodes a halted block again. -/
def execPlaneRetry (m : Moment) (rq : Request) (s : State) : Host.Outcome State Fault Refusal :=
  .next (serve planeRetryCmd 4 planeRetryBody m rq s)

/-- The entry of PLANE.GET in the command index (R511). -/
def planeGetCmd : Cmd := { op := 0x0607 }

/-- PLANE_GET (R238): PLANE.GET returns a plane or ring record. -/
def execPlaneGet (m : Moment) (rq : Request) (s : State) : Host.Outcome State Fault Refusal :=
  .next (serve planeGetCmd 4 planeGetBody m rq s)

/-- The entry of PLANE.CLEAR in the command index (R511). -/
def planeClearCmd : Cmd := { op := 0x0608 }

/-- PLANE_CLEAR (R238): PLANE.CLEAR clears plane or bar counters. -/
def execPlaneClear (m : Moment) (rq : Request) (s : State) : Host.Outcome State Fault Refusal :=
  .next (serve planeClearCmd 4 planeClearBody m rq s)

/-- The entry of PLAIT.SESSION_OPEN in the command index (R511). -/
def plaitSessionOpenCmd : Cmd := { op := 0x0700 }

/-- PLAIT_SESSION_OPEN (R257): PLAIT.SESSION_OPEN opens a compressor session on a plane. -/
def execPlaitSessionOpen (m : Moment) (rq : Request) (s : State) : Host.Outcome State Fault Refusal :=
  .next (serve plaitSessionOpenCmd 8 plaitSessionOpenBody m rq s)

/-- The entry of PLAIT.SESSION_END in the command index (R511). -/
def plaitSessionEndCmd : Cmd := { op := 0x0701 }

/-- PLAIT_SESSION_END (R262): PLAIT.SESSION_END ends an unbound session and discards what it holds. -/
def execPlaitSessionEnd (m : Moment) (rq : Request) (s : State) : Host.Outcome State Fault Refusal :=
  .next (serve plaitSessionEndCmd 4 plaitSessionEndBody m rq s)

/-- The entry of PLAIT.SESSION_STATUS in the command index (R511). -/
def plaitSessionStatusCmd : Cmd := { op := 0x0702 }

/-- PLAIT_SESSION_STATUS (R263): PLAIT.SESSION_STATUS returns a session's state. -/
def execPlaitSessionStatus (m : Moment) (rq : Request) (s : State) : Host.Outcome State Fault Refusal :=
  .next (serve plaitSessionStatusCmd 4 plaitSessionStatusBody m rq s)

/-- The entry of PLAIT.VERIFY in the command index (R511). -/
def plaitVerifyCmd : Cmd := { op := 0x0703 }

/-- PLAIT_VERIFY (R263): PLAIT.VERIFY starts checking a range of blocks. -/
def execPlaitVerify (m : Moment) (rq : Request) (s : State) : Host.Outcome State Fault Refusal :=
  .next (serve plaitVerifyCmd 12 plaitVerifyBody m rq s)

/-- The entry of PLAIT.VERIFY_RESULT in the command index (R511). -/
def plaitVerifyResultCmd : Cmd := { op := 0x0704 }

/-- PLAIT_VERIFY_RESULT (R263): PLAIT.VERIFY_RESULT returns the latest verification result. -/
def execPlaitVerifyResult (m : Moment) (rq : Request) (s : State) : Host.Outcome State Fault Refusal :=
  .next (serve plaitVerifyResultCmd 0 plaitVerifyResultBody m rq s)

/-- The entry of PLAIT.DECODE in the command index (R511). -/
def plaitDecodeCmd : Cmd := { op := 0x0705 }

/-- PLAIT_DECODE (R263): PLAIT.DECODE starts decoding one block into HBM. -/
def execPlaitDecode (m : Moment) (rq : Request) (s : State) : Host.Outcome State Fault Refusal :=
  .next (serve plaitDecodeCmd 16 plaitDecodeBody m rq s)

/-- The entry of PLAIT.STATUS in the command index (R511). -/
def plaitStatusCmd : Cmd := { op := 0x0706 }

/-- PLAIT_STATUS (R263): PLAIT.STATUS returns engine counts and counters. -/
def execPlaitStatus (m : Moment) (rq : Request) (s : State) : Host.Outcome State Fault Refusal :=
  .next (serve plaitStatusCmd 0 plaitStatusBody m rq s)

/-- The entry of PLAIT.CLEAR in the command index (R511). -/
def plaitClearCmd : Cmd := { op := 0x0707 }

/-- PLAIT_CLEAR (R263): PLAIT.CLEAR clears the PLAIT counters. -/
def execPlaitClear (m : Moment) (rq : Request) (s : State) : Host.Outcome State Fault Refusal :=
  .next (serve plaitClearCmd 4 plaitClearBody m rq s)

/-- The entry of CANE.PORT_SET in the command index (R511). -/
def canePortSetCmd : Cmd := { op := 0x0800, staged := true }

/-- CANE_PORT_SET (R295): CANE.PORT_SET stages a port configuration. -/
def execCanePortSet (m : Moment) (rq : Request) (s : State) : Host.Outcome State Fault Refusal :=
  .next (serve canePortSetCmd 8 canePortSetBody m rq s)

/-- The entry of CANE.PORT_STATUS in the command index (R511). -/
def canePortStatusCmd : Cmd := { op := 0x0801 }

/-- CANE_PORT_STATUS (R295): CANE.PORT_STATUS returns port state and counters. -/
def execCanePortStatus (m : Moment) (rq : Request) (s : State) : Host.Outcome State Fault Refusal :=
  .next (serve canePortStatusCmd 4 canePortStatusBody m rq s)

/-- The entry of CANE.MODULE_INFO in the command index (R511). -/
def caneModuleInfoCmd : Cmd := { op := 0x0802 }

/-- CANE_MODULE_INFO (R295): CANE.MODULE_INFO returns fields of the latest STS. -/
def execCaneModuleInfo (m : Moment) (rq : Request) (s : State) : Host.Outcome State Fault Refusal :=
  .next (serve caneModuleInfoCmd 4 caneModuleInfoBody m rq s)

/-- The entry of CANE.RETRAIN in the command index (R511). -/
def caneRetrainCmd : Cmd := { op := 0x0803 }

/-- CANE_RETRAIN (R295): CANE.RETRAIN puts a port into DOWN and starts training. -/
def execCaneRetrain (m : Moment) (rq : Request) (s : State) : Host.Outcome State Fault Refusal :=
  .next (serve caneRetrainCmd 4 caneRetrainBody m rq s)

/-- The entry of CANE.CLEAR in the command index (R511). -/
def caneClearCmd : Cmd := { op := 0x0804 }

/-- CANE_CLEAR (R295): CANE.CLEAR clears port counters. -/
def execCaneClear (m : Moment) (rq : Request) (s : State) : Host.Outcome State Fault Refusal :=
  .next (serve caneClearCmd 4 caneClearBody m rq s)

/-- The entry of CANE.GET in the command index (R511). -/
def caneGetCmd : Cmd := { op := 0x0805 }

/-- CANE_GET (R295): CANE.GET returns a port configuration. -/
def execCaneGet (m : Moment) (rq : Request) (s : State) : Host.Outcome State Fault Refusal :=
  .next (serve caneGetCmd 4 caneGetBody m rq s)

/-- The entry of HEALTH.POLICY_SET in the command index (R511). -/
def healthPolicySetCmd : Cmd := { op := 0x0900, staged := true }

/-- HEALTH_POLICY_SET (R319): HEALTH.POLICY_SET stages a bar's health policy. -/
def execHealthPolicySet (m : Moment) (rq : Request) (s : State) : Host.Outcome State Fault Refusal :=
  .next (serve healthPolicySetCmd 16 healthPolicySetBody m rq s)

/-- The entry of HEALTH.REF_SET in the command index (R511). -/
def healthRefSetCmd : Cmd := { op := 0x0901, staged := true }

/-- HEALTH_REF_SET (R303): HEALTH.REF_SET stages a row reference. -/
def execHealthRefSet (m : Moment) (rq : Request) (s : State) : Host.Outcome State Fault Refusal :=
  .next (serve healthRefSetCmd 8 healthRefSetBody m rq s)

/-- The entry of HEALTH.SUBST_SET in the command index (R511). -/
def healthSubstSetCmd : Cmd := { op := 0x0902, staged := true }

/-- HEALTH_SUBST_SET (R308): HEALTH.SUBST_SET stages substitutions. -/
def execHealthSubstSet (m : Moment) (rq : Request) (s : State) : Host.Outcome State Fault Refusal :=
  .next (serve healthSubstSetCmd (healthSubstSetSize rq) healthSubstSetBody m rq s)

/-- The entry of HEALTH.SUBST_CLEAR in the command index (R511). -/
def healthSubstClearCmd : Cmd := { op := 0x0903, staged := true }

/-- HEALTH_SUBST_CLEAR (R311): HEALTH.SUBST_CLEAR stages the end of substitutions. -/
def execHealthSubstClear (m : Moment) (rq : Request) (s : State) : Host.Outcome State Fault Refusal :=
  .next (serve healthSubstClearCmd (nozzleListSize rq) healthSubstClearBody m rq s)

/-- The entry of HEALTH.REPORT_OUT in the command index (R511). -/
def healthReportOutCmd : Cmd := { op := 0x0904, staged := true }

/-- HEALTH_REPORT_OUT (R314): HEALTH.REPORT_OUT records host-reported outs as results or held classes. -/
def execHealthReportOut (m : Moment) (rq : Request) (s : State) : Host.Outcome State Fault Refusal :=
  .next (serve healthReportOutCmd (nozzleListSize rq) healthReportOutBody m rq s)

/-- The entry of HEALTH.RELEASE_OUT in the command index (R511). -/
def healthReleaseOutCmd : Cmd := { op := 0x0905, primary := true }

/-- HEALTH_RELEASE_OUT (R314): HEALTH.RELEASE_OUT clears host_held and sets class UNKNOWN. -/
def execHealthReleaseOut (m : Moment) (rq : Request) (s : State) : Host.Outcome State Fault Refusal :=
  .next (serve healthReleaseOutCmd (nozzleListSize rq) healthReleaseOutBody m rq s)

/-- The entry of HEALTH.TEMP_SET in the command index (R511). -/
def healthTempSetCmd : Cmd := { op := 0x0906, staged := true }

/-- HEALTH_TEMP_SET (R316): HEALTH.TEMP_SET stages head-temperature regulation settings. -/
def execHealthTempSet (m : Moment) (rq : Request) (s : State) : Host.Outcome State Fault Refusal :=
  .next (serve healthTempSetCmd 16 healthTempSetBody m rq s)

/-- The entry of HEALTH.NOZZLE_READ in the command index (R511). -/
def healthNozzleReadCmd : Cmd := { op := 0x0907 }

/-- HEALTH_NOZZLE_READ (R319): HEALTH.NOZZLE_READ returns health records and latest results. -/
def execHealthNozzleRead (m : Moment) (rq : Request) (s : State) : Host.Outcome State Fault Refusal :=
  .next (serve healthNozzleReadCmd 8 healthNozzleReadBody m rq s)

/-- The entry of HEALTH.SUBST_READ in the command index (R511). -/
def healthSubstReadCmd : Cmd := { op := 0x0908 }

/-- HEALTH_SUBST_READ (R319): HEALTH.SUBST_READ returns substitutions. -/
def execHealthSubstRead (m : Moment) (rq : Request) (s : State) : Host.Outcome State Fault Refusal :=
  .next (serve healthSubstReadCmd 8 healthSubstReadBody m rq s)

/-- The entry of HEALTH.STATUS in the command index (R511). -/
def healthStatusCmd : Cmd := { op := 0x0909 }

/-- HEALTH_STATUS (R319): HEALTH.STATUS returns bar or head health status. -/
def execHealthStatus (m : Moment) (rq : Request) (s : State) : Host.Outcome State Fault Refusal :=
  .next (serve healthStatusCmd 4 healthStatusBody m rq s)

/-- The entry of HEALTH.GET in the command index (R511). -/
def healthGetCmd : Cmd := { op := 0x090A }

/-- HEALTH_GET (R319): HEALTH.GET returns a policy, reference or temperature record. -/
def execHealthGet (m : Moment) (rq : Request) (s : State) : Host.Outcome State Fault Refusal :=
  .next (serve healthGetCmd 4 healthGetBody m rq s)

/-- The entry of HEALTH.CLEAR in the command index (R511). -/
def healthClearCmd : Cmd := { op := 0x090B }

/-- HEALTH_CLEAR (R319): HEALTH.CLEAR clears counters or a head's degraded flag. -/
def execHealthClear (m : Moment) (rq : Request) (s : State) : Host.Outcome State Fault Refusal :=
  .next (serve healthClearCmd 4 healthClearBody m rq s)

/-- The entry of PAIR.CONFIG in the command index (R511). -/
def pairConfigCmd : Cmd := { op := 0x0A00, states := [.ready], primary := true }

/-- PAIR_CONFIG (R348): PAIR.CONFIG sets mirror mode, act_gpio and resync_match. -/
def execPairConfig (m : Moment) (rq : Request) (s : State) : Host.Outcome State Fault Refusal :=
  .next (serve pairConfigCmd 8 pairConfigBody m rq s)

/-- The entry of PAIR.STATUS in the command index (R511). -/
def pairStatusCmd : Cmd := { op := 0x0A01 }

/-- PAIR_STATUS (R348): PAIR.STATUS returns pairing status and counters. -/
def execPairStatus (m : Moment) (rq : Request) (s : State) : Host.Outcome State Fault Refusal :=
  .next (serve pairStatusCmd 0 pairStatusBody m rq s)

/-- The entry of PAIR.PROMOTE in the command index (R511). -/
def pairPromoteCmd : Cmd := { op := 0x0A02, states := opStates, only15 := true }

/-- PAIR_PROMOTE (R348): PAIR.PROMOTE promotes a standby unit when its twin's heartbeat is absent. -/
def execPairPromote (m : Moment) (rq : Request) (s : State) : Host.Outcome State Fault Refusal :=
  .next (serve pairPromoteCmd 0 pairPromoteBody m rq s)

/-- The entry of PAIR.RESYNC in the command index (R511). -/
def pairResyncCmd : Cmd := { op := 0x0A03, only15 := true }

/-- PAIR_RESYNC (R341): PAIR.RESYNC starts resynchronisation of unit S. -/
def execPairResync (m : Moment) (rq : Request) (s : State) : Host.Outcome State Fault Refusal :=
  .next (serve pairResyncCmd 0 pairResyncBody m rq s)

/-- The entry of PAIR.UNPAIR in the command index (R511). -/
def pairUnpairCmd : Cmd := { op := 0x0A04, states := [.ready], only15 := true }

/-- PAIR_UNPAIR (R348): PAIR.UNPAIR ends the pair and sets the no-retrain condition. -/
def execPairUnpair (m : Moment) (rq : Request) (s : State) : Host.Outcome State Fault Refusal :=
  .next (serve pairUnpairCmd 0 pairUnpairBody m rq s)

/-- The entry of PAIR.GET in the command index (R511). -/
def pairGetCmd : Cmd := { op := 0x0A05 }

/-- PAIR_GET (R348): PAIR.GET returns the pairing configuration. -/
def execPairGet (m : Moment) (rq : Request) (s : State) : Host.Outcome State Fault Refusal :=
  .next (serve pairGetCmd 0 pairGetBody m rq s)

/-- The entry of PAIR.REJOIN in the command index (R511). -/
def pairRejoinCmd : Cmd := { op := 0x0A06, states := [.ready], only15 := true }

/-- PAIR_REJOIN (R348): PAIR.REJOIN clears no-retrain and INCOMPATIBLE and starts Pairing training. -/
def execPairRejoin (m : Moment) (rq : Request) (s : State) : Host.Outcome State Fault Refusal :=
  .next (serve pairRejoinCmd 0 pairRejoinBody m rq s)

/-- The entry of MEM.STATUS in the command index (R511). -/
def memStatusCmd : Cmd := { op := 0x0B00 }

/-- MEM_STATUS (R369): MEM.STATUS returns memory mode and error counters. -/
def execMemStatus (m : Moment) (rq : Request) (s : State) : Host.Outcome State Fault Refusal :=
  .next (serve memStatusCmd 0 memStatusBody m rq s)

/-- The entry of MEM.REGIONS in the command index (R511). -/
def memRegionsCmd : Cmd := { op := 0x0B01 }

/-- MEM_REGIONS (R369): MEM.REGIONS returns the region registers of a master. -/
def execMemRegions (m : Moment) (rq : Request) (s : State) : Host.Outcome State Fault Refusal :=
  .next (serve memRegionsCmd 4 memRegionsBody m rq s)

/-- The entry of MEM.STAKE_STATUS in the command index (R511). -/
def memStakeStatusCmd : Cmd := { op := 0x0B02 }

/-- MEM_STAKE_STATUS (R369): MEM.STAKE_STATUS returns a Stake bank's owner and flags. -/
def execMemStakeStatus (m : Moment) (rq : Request) (s : State) : Host.Outcome State Fault Refusal :=
  .next (serve memStakeStatusCmd 4 memStakeStatusBody m rq s)

/-- The entry of MEM.STAKE_HANDOVER in the command index (R511). -/
def memStakeHandoverCmd : Cmd := { op := 0x0B03, states := opStates }

/-- MEM_STAKE_HANDOVER (R357): MEM.STAKE_HANDOVER transfers a Stake bank, clearing it where required. -/
def execMemStakeHandover (m : Moment) (rq : Request) (s : State) : Host.Outcome State Fault Refusal :=
  .next (serve memStakeHandoverCmd 16 memStakeHandoverBody m rq s)

/-- The entry of MEM.BANK_RETIRE in the command index (R511). -/
def memBankRetireCmd : Cmd := { op := 0x0B04, states := [.ready], logsLater := true }

/-- MEM_BANK_RETIRE (R365): MEM.BANK_RETIRE retires a Weave bank. -/
def execMemBankRetire (m : Moment) (rq : Request) (s : State) : Host.Outcome State Fault Refusal :=
  .next (serve memBankRetireCmd 4 memBankRetireBody m rq s)

/-- The entry of MEM.SCRUB_SET in the command index (R511). -/
def memScrubSetCmd : Cmd := { op := 0x0B05, staged := true }

/-- MEM_SCRUB_SET (R369): MEM.SCRUB_SET stages the scrub period and corrected limit. -/
def execMemScrubSet (m : Moment) (rq : Request) (s : State) : Host.Outcome State Fault Refusal :=
  .next (serve memScrubSetCmd 8 memScrubSetBody m rq s)

/-- The entry of MEM.ERRORS in the command index (R511). -/
def memErrorsCmd : Cmd := { op := 0x0B06 }

/-- MEM_ERRORS (R369): MEM.ERRORS returns the error records of a memory. -/
def execMemErrors (m : Moment) (rq : Request) (s : State) : Host.Outcome State Fault Refusal :=
  .next (serve memErrorsCmd 4 memErrorsBody m rq s)

/-- The entry of MEM.HBM_ROWS in the command index (R511). -/
def memHbmRowsCmd : Cmd := { op := 0x0B07 }

/-- MEM_HBM_ROWS (R369): MEM.HBM_ROWS returns the pending repair list. -/
def execMemHbmRows (m : Moment) (rq : Request) (s : State) : Host.Outcome State Fault Refusal :=
  .next (serve memHbmRowsCmd 0 memHbmRowsBody m rq s)

/-- The entry of MEM.HBM_REPAIR in the command index (R511). -/
def memHbmRepairCmd : Cmd := { op := 0x0B08, states := [.ready], lc := lcL1, logsLater := true }

/-- MEM_HBM_REPAIR (R363): MEM.HBM_REPAIR starts writing REPAIR records for the pending rows into OTP. -/
def execMemHbmRepair (m : Moment) (rq : Request) (s : State) : Host.Outcome State Fault Refusal :=
  .next (serve memHbmRepairCmd 0 memHbmRepairBody m rq s)

/-- The entry of MEM.CLEAR in the command index (R511). -/
def memClearCmd : Cmd := { op := 0x0B09 }

/-- MEM_CLEAR (R369): MEM.CLEAR clears the memory counters. -/
def execMemClear (m : Moment) (rq : Request) (s : State) : Host.Outcome State Fault Refusal :=
  .next (serve memClearCmd 4 memClearBody m rq s)

/-- The entry of MEM.GET in the command index (R511). -/
def memGetCmd : Cmd := { op := 0x0B0A }

/-- MEM_GET (R369): MEM.GET returns the scrub settings. -/
def execMemGet (m : Moment) (rq : Request) (s : State) : Host.Outcome State Fault Refusal :=
  .next (serve memGetCmd 0 memGetBody m rq s)

/-- The entry of DMA.OPEN in the command index (R511). -/
def dmaOpenCmd : Cmd := { op := 0x0C00 }

/-- DMA_OPEN (R372): DMA.OPEN gives a free channel to the mailbox. -/
def execDmaOpen (m : Moment) (rq : Request) (s : State) : Host.Outcome State Fault Refusal :=
  .next (serve dmaOpenCmd 8 dmaOpenBody m rq s)

/-- The entry of DMA.CLOSE in the command index (R511). -/
def dmaCloseCmd : Cmd := { op := 0x0C01 }

/-- DMA_CLOSE (R373): DMA.CLOSE releases an IDLE channel. -/
def execDmaClose (m : Moment) (rq : Request) (s : State) : Host.Outcome State Fault Refusal :=
  .next (serve dmaCloseCmd 4 dmaCloseBody m rq s)

/-- The entry of DMA.START in the command index (R511). -/
def dmaStartCmd : Cmd := { op := 0x0C02 }

/-- DMA_START (R378): DMA.START begins a transfer from gather and scatter lists. -/
def execDmaStart (m : Moment) (rq : Request) (s : State) : Host.Outcome State Fault Refusal :=
  .next (serve dmaStartCmd 20 dmaStartBody m rq s)

/-- The entry of DMA.STATUS in the command index (R511). -/
def dmaStatusCmd : Cmd := { op := 0x0C03 }

/-- DMA_STATUS (R390): DMA.STATUS returns channel state and counters. -/
def execDmaStatus (m : Moment) (rq : Request) (s : State) : Host.Outcome State Fault Refusal :=
  .next (serve dmaStatusCmd 4 dmaStatusBody m rq s)

/-- The entry of DMA.RESUME in the command index (R511). -/
def dmaResumeCmd : Cmd := { op := 0x0C04 }

/-- DMA_RESUME (R387): DMA.RESUME retries a halted channel. -/
def execDmaResume (m : Moment) (rq : Request) (s : State) : Host.Outcome State Fault Refusal :=
  .next (serve dmaResumeCmd 4 dmaResumeBody m rq s)

/-- The entry of DMA.SKIP in the command index (R511). -/
def dmaSkipCmd : Cmd := { op := 0x0C05 }

/-- DMA_SKIP (R387): DMA.SKIP abandons the failing pair of a halted channel. -/
def execDmaSkip (m : Moment) (rq : Request) (s : State) : Host.Outcome State Fault Refusal :=
  .next (serve dmaSkipCmd 4 dmaSkipBody m rq s)

/-- The entry of DMA.ABORT in the command index (R511). -/
def dmaAbortCmd : Cmd := { op := 0x0C06 }

/-- DMA_ABORT (R388): DMA.ABORT stops a channel and posts DMA_DONE with ABORTED. -/
def execDmaAbort (m : Moment) (rq : Request) (s : State) : Host.Outcome State Fault Refusal :=
  .next (serve dmaAbortCmd 4 dmaAbortBody m rq s)

/-- The entry of DMA.CLEAR in the command index (R511). -/
def dmaClearCmd : Cmd := { op := 0x0C07 }

/-- DMA_CLEAR (R390): DMA.CLEAR clears channel counters. -/
def execDmaClear (m : Moment) (rq : Request) (s : State) : Host.Outcome State Fault Refusal :=
  .next (serve dmaClearCmd 4 dmaClearBody m rq s)

/-- The entry of POWER.STATUS in the command index (R511). -/
def powerStatusCmd : Cmd := { op := 0x0D00 }

/-- POWER_STATUS (R410): POWER.STATUS returns power, rail and restart status. -/
def execPowerStatus (m : Moment) (rq : Request) (hvok : Byte) (s : State) : Host.Outcome State Fault Refusal :=
  .next (serve powerStatusCmd 0 (powerStatusBody hvok) m rq s)

/-- The entry of POWER.SET_STATE in the command index (R511). -/
def powerSetStateCmd : Cmd := { op := 0x0D01, states := [.ready] }

/-- POWER_SET_STATE (R400): POWER.SET_STATE requests entry to a lower power state or return to READY. -/
def execPowerSetState (m : Moment) (rq : Request) (s : State) : Host.Outcome State Fault Refusal :=
  .next (serve powerSetStateCmd 4 powerSetStateBody m rq s)

/-- The entry of POWER.POLICY_SET in the command index (R511). -/
def powerPolicySetCmd : Cmd := { op := 0x0D02, staged := true }

/-- POWER_POLICY_SET (R410): POWER.POLICY_SET stages wake mask and idle timers. -/
def execPowerPolicySet (m : Moment) (rq : Request) (s : State) : Host.Outcome State Fault Refusal :=
  .next (serve powerPolicySetCmd 12 powerPolicySetBody m rq s)

/-- The entry of POWER.HV_SET in the command index (R511). -/
def powerHvSetCmd : Cmd := { op := 0x0D03, staged := true }

/-- POWER_HV_SET (R403): POWER.HV_SET stages a head supply's configuration. -/
def execPowerHvSet (m : Moment) (rq : Request) (s : State) : Host.Outcome State Fault Refusal :=
  .next (serve powerHvSetCmd 8 powerHvSetBody m rq s)

/-- The entry of POWER.RAIL_READ in the command index (R511). -/
def powerRailReadCmd : Cmd := { op := 0x0D04 }

/-- POWER_RAIL_READ (R410): POWER.RAIL_READ reads a rail over PMBus. -/
def execPowerRailRead (m : Moment) (rq : Request) (bus : Option (List Nat))
    (s : State) : Host.Outcome State Fault Refusal :=
  .next (serve powerRailReadCmd 4 (powerRailReadBody bus) m rq s)

/-- The entry of POWER.IMAGE_WRITE in the command index (R511). -/
def powerImageWriteCmd : Cmd := { op := 0x0D05, states := [.ready], lc := lcL1 }

/-- POWER_IMAGE_WRITE (R408): POWER.IMAGE_WRITE writes into the firmware slot not loaded. -/
def execPowerImageWrite (m : Moment) (rq : Request) (s : State) : Host.Outcome State Fault Refusal :=
  .next (serve powerImageWriteCmd (powerImageWriteSize rq) powerImageWriteBody m rq s)

/-- The entry of POWER.GET in the command index (R511). -/
def powerGetCmd : Cmd := { op := 0x0D06 }

/-- POWER_GET (R410): POWER.GET returns the policy or an HV record. -/
def execPowerGet (m : Moment) (rq : Request) (s : State) : Host.Outcome State Fault Refusal :=
  .next (serve powerGetCmd 4 powerGetBody m rq s)

/-- The entry of POWER.THERM_READ in the command index (R511). -/
def powerThermReadCmd : Cmd := { op := 0x0D07 }

/-- POWER_THERM_READ (R426): POWER.THERM_READ returns sensor readings and levels. -/
def execPowerThermRead (m : Moment) (rq : Request) (s : State) : Host.Outcome State Fault Refusal :=
  .next (serve powerThermReadCmd 0 powerThermReadBody m rq s)

/-- The entry of POWER.THERM_SET in the command index (R511). -/
def powerThermSetCmd : Cmd := { op := 0x0D08, staged := true }

/-- POWER_THERM_SET (R417): POWER.THERM_SET stages a domain's thermal thresholds. -/
def execPowerThermSet (m : Moment) (rq : Request) (s : State) : Host.Outcome State Fault Refusal :=
  .next (serve powerThermSetCmd 12 powerThermSetBody m rq s)

/-- The entry of POWER.THERM_GET in the command index (R511). -/
def powerThermGetCmd : Cmd := { op := 0x0D09 }

/-- POWER_THERM_GET (R426): POWER.THERM_GET returns a domain's thresholds. -/
def execPowerThermGet (m : Moment) (rq : Request) (s : State) : Host.Outcome State Fault Refusal :=
  .next (serve powerThermGetCmd 4 powerThermGetBody m rq s)

/-- The entry of POWER.THERM_CLEAR in the command index (R511). -/
def powerThermClearCmd : Cmd := { op := 0x0D0A }

/-- POWER_THERM_CLEAR (R426): POWER.THERM_CLEAR clears trips and sensor faults. -/
def execPowerThermClear (m : Moment) (rq : Request) (s : State) : Host.Outcome State Fault Refusal :=
  .next (serve powerThermClearCmd 4 powerThermClearBody m rq s)

/-- The entry of CAL.STATUS in the command index (R511). -/
def calStatusCmd : Cmd := { op := 0x0E00 }

/-- CAL_STATUS (R439): CAL.STATUS returns calibration status. -/
def execCalStatus (m : Moment) (rq : Request) (s : State) : Host.Outcome State Fault Refusal :=
  .next (serve calStatusCmd 0 calStatusBody m rq s)

/-- The entry of CAL.RUN in the command index (R511). -/
def calRunCmd : Cmd := { op := 0x0E01, states := opStates, logsLater := true }

/-- CAL_RUN (R439): CAL.RUN starts calibration of the named targets. -/
def execCalRun (m : Moment) (rq : Request) (s : State) : Host.Outcome State Fault Refusal :=
  .next (serve calRunCmd 4 calRunBody m rq s)

/-- The entry of CAL.STORE in the command index (R511). -/
def calStoreCmd : Cmd := { op := 0x0E02, states := opStates, lc := lcL1 }

/-- CAL_STORE (R438): CAL.STORE starts writing the coefficients in force to the older flash slot. -/
def execCalStore (m : Moment) (rq : Request) (s : State) : Host.Outcome State Fault Refusal :=
  .next (serve calStoreCmd 0 calStoreBody m rq s)

/-- The entry of CAL.ADC_READ in the command index (R511). -/
def calAdcReadCmd : Cmd := { op := 0x0E03 }

/-- CAL_ADC_READ (R439): CAL.ADC_READ returns the latest ADC scan. -/
def execCalAdcRead (m : Moment) (rq : Request) (s : State) : Host.Outcome State Fault Refusal :=
  .next (serve calAdcReadCmd 0 calAdcReadBody m rq s)

/-- The entry of CAL.COEFF_READ in the command index (R511). -/
def calCoeffReadCmd : Cmd := { op := 0x0E04 }

/-- CAL_COEFF_READ (R439): CAL.COEFF_READ returns a target's coefficients. -/
def execCalCoeffRead (m : Moment) (rq : Request) (s : State) : Host.Outcome State Fault Refusal :=
  .next (serve calCoeffReadCmd 4 calCoeffReadBody m rq s)

/-- The entry of OTP.STATUS in the command index (R511). -/
def otpStatusCmd : Cmd := { op := 0x0F00 }

/-- OTP_STATUS (R462): OTP.STATUS returns life-cycle and region status. -/
def execOtpStatus (m : Moment) (rq : Request) (s : State) : Host.Outcome State Fault Refusal :=
  .next (serve otpStatusCmd 0 otpStatusBody m rq s)

/-- The entry of OTP.READ in the command index (R511). -/
def otpReadCmd : Cmd := { op := 0x0F01 }

/-- OTP_READ (R462): OTP.READ returns array words at a margin or from the shadow. -/
def execOtpRead (m : Moment) (rq : Request) (s : State) : Host.Outcome State Fault Refusal :=
  .next (serve otpReadCmd 4 otpReadBody m rq s)

/-- The entry of OTP.PROGRAM in the command index (R511). -/
def otpProgramCmd : Cmd := { op := 0x0F02, states := [.ready], only15 := true, logsLater := true }

/-- OTP_PROGRAM (R458): OTP.PROGRAM programs masked bits of one word. -/
def execOtpProgram (m : Moment) (rq : Request) (s : State) : Host.Outcome State Fault Refusal :=
  .next (serve otpProgramCmd 8 otpProgramBody m rq s)

/-- The entry of OTP.REPAIR_PULSE in the command index (R511). -/
def otpRepairPulseCmd : Cmd := { op := 0x0F03, states := [.ready], lc := lcL2, only15 := true, logsLater := true }

/-- OTP_REPAIR_PULSE (R461): OTP.REPAIR_PULSE re-pulses marginal bits of one word. -/
def execOtpRepairPulse (m : Moment) (rq : Request) (s : State) : Host.Outcome State Fault Refusal :=
  .next (serve otpRepairPulseCmd 4 otpRepairPulseBody m rq s)

/-- The entry of OTP.LC_CHALLENGE in the command index (R511). -/
def otpLcChallengeCmd : Cmd := { op := 0x0F04, states := [.ready], lc := lcL2, only15 := true }

/-- OTP_LC_CHALLENGE (R462): OTP.LC_CHALLENGE returns a fresh nonce. -/
def execOtpLcChallenge (m : Moment) (rq : Request) (s : State) : Host.Outcome State Fault Refusal :=
  .next (serve otpLcChallengeCmd 0 otpLcChallengeBody m rq s)

/-- The entry of OTP.LC_ADVANCE in the command index (R511). -/
def otpLcAdvanceCmd : Cmd := { op := 0x0F05, states := [.ready], lc := lcL2, only15 := true, logsLater := true }

/-- OTP_LC_ADVANCE (R456): OTP.LC_ADVANCE programs the life-cycle thermometer toward a target state. -/
def execOtpLcAdvance (m : Moment) (rq : Request) (s : State) : Host.Outcome State Fault Refusal :=
  .next (serve otpLcAdvanceCmd 412 otpLcAdvanceBody m rq s)

/-- The entry of OTP.REVOKE_KEY in the command index (R511). -/
def otpRevokeKeyCmd : Cmd :=
  { op := 0x0F06, states := [.ready], lc := [.oem, .field, .return_], only15 := true, logsLater := true }

/-- OTP_REVOKE_KEY (R454): OTP.REVOKE_KEY revokes a boot key. -/
def execOtpRevokeKey (m : Moment) (rq : Request) (s : State) : Host.Outcome State Fault Refusal :=
  .next (serve otpRevokeKeyCmd 4 otpRevokeKeyBody m rq s)

/-- The entry of OTP.MARGIN_CHECK in the command index (R511). -/
def otpMarginCheckCmd : Cmd := { op := 0x0F07, states := opStates }

/-- OTP_MARGIN_CHECK (R452): OTP.MARGIN_CHECK starts a margin recheck. -/
def execOtpMarginCheck (m : Moment) (rq : Request) (s : State) : Host.Outcome State Fault Refusal :=
  .next (serve otpMarginCheckCmd 0 otpMarginCheckBody m rq s)

/-- The entry of BIST.STATUS in the command index (R511). -/
def bistStatusCmd : Cmd := { op := 0x1000 }

/-- BIST_STATUS (R475): BIST.STATUS returns self-test status. -/
def execBistStatus (m : Moment) (rq : Request) (s : State) : Host.Outcome State Fault Refusal :=
  .next (serve bistStatusCmd 0 bistStatusBody m rq s)

/-- The entry of BIST.RUN in the command index (R511). -/
def bistRunCmd : Cmd :=
  { op := 0x1001, states := [.ready, .armed, .printing, .paused, .fault], lc := [.virgin, .mfg, .oem, .return_] }

/-- BIST_RUN (R473): BIST.RUN starts a test on demand of a partition or pool unit. -/
def execBistRun (m : Moment) (rq : Request) (s : State) : Host.Outcome State Fault Refusal :=
  .next (serve bistRunCmd 16 bistRunBody m rq s)

/-- The entry of BIST.STOP in the command index (R511). -/
def bistStopCmd : Cmd := { op := 0x1002, lc := lcL2 }

/-- BIST_STOP (R475): BIST.STOP ends the test on demand with cause STOPPED. -/
def execBistStop (m : Moment) (rq : Request) (s : State) : Host.Outcome State Fault Refusal :=
  .next (serve bistStopCmd 0 bistStopBody m rq s)

/-- The entry of BIST.RESULT in the command index (R511). -/
def bistResultCmd : Cmd := { op := 0x1003, lc := lcL2 }

/-- BIST_RESULT (R475): BIST.RESULT returns the latest result of a partition or unit. -/
def execBistResult (m : Moment) (rq : Request) (s : State) : Host.Outcome State Fault Refusal :=
  .next (serve bistResultCmd 4 bistResultBody m rq s)

/-- The entry of BIST.CONFIG in the command index (R511). -/
def bistConfigCmd : Cmd := { op := 0x1004, lc := lcL2, staged := true }

/-- BIST_CONFIG (R475): BIST.CONFIG stages the rotation period. -/
def execBistConfig (m : Moment) (rq : Request) (s : State) : Host.Outcome State Fault Refusal :=
  .next (serve bistConfigCmd 4 bistConfigBody m rq s)

/-- The entry of BIST.GET in the command index (R511). -/
def bistGetCmd : Cmd := { op := 0x1005 }

/-- BIST_GET (R475): BIST.GET returns the rotation period. -/
def execBistGet (m : Moment) (rq : Request) (s : State) : Host.Outcome State Fault Refusal :=
  .next (serve bistGetCmd 0 bistGetBody m rq s)

/-- The entry of LOG.STATUS in the command index (R511). -/
def logStatusCmd : Cmd := { op := 0x1100 }

/-- LOG_STATUS (R488): LOG.STATUS returns log occupancy and counters. -/
def execLogStatus (m : Moment) (rq : Request) (s : State) : Host.Outcome State Fault Refusal :=
  .next (serve logStatusCmd 0 logStatusBody m rq s)

/-- The entry of LOG.READ in the command index (R511). -/
def logReadCmd : Cmd := { op := 0x1101 }

/-- LOG_READ (R488): LOG.READ returns log entries. -/
def execLogRead (m : Moment) (rq : Request) (s : State) : Host.Outcome State Fault Refusal :=
  .next (serve logReadCmd 8 logReadBody m rq s)

/-- The entry of LOG.ACK in the command index (R511). -/
def logAckCmd : Cmd := { op := 0x1102 }

/-- LOG_ACK (R482): LOG.ACK sets ack_sequence. -/
def execLogAck (m : Moment) (rq : Request) (s : State) : Host.Outcome State Fault Refusal :=
  .next (serve logAckCmd 4 logAckBody m rq s)

/-- The entry of LOG.CONFIG in the command index (R511). -/
def logConfigCmd : Cmd := { op := 0x1103, staged := true }

/-- LOG_CONFIG (R484): LOG.CONFIG stages the log mode. -/
def execLogConfig (m : Moment) (rq : Request) (s : State) : Host.Outcome State Fault Refusal :=
  .next (serve logConfigCmd 4 logConfigBody m rq s)

/-- The entry of LOG.EPOCH_SET in the command index (R511). -/
def logEpochSetCmd : Cmd := { op := 0x1104 }

/-- LOG_EPOCH_SET (R481): LOG.EPOCH_SET sets utc_at_zero and writes an EPOCH entry. -/
def execLogEpochSet (m : Moment) (rq : Request) (s : State) : Host.Outcome State Fault Refusal :=
  .next (serve logEpochSetCmd 8 logEpochSetBody m rq s)

/-- The entry of LOG.GET in the command index (R511). -/
def logGetCmd : Cmd := { op := 0x1105 }

/-- LOG_GET (R488): LOG.GET returns mode and utc_at_zero. -/
def execLogGet (m : Moment) (rq : Request) (s : State) : Host.Outcome State Fault Refusal :=
  .next (serve logGetCmd 0 logGetBody m rq s)

end Sys2Proof.Machine
end

