-- ==== Sys2Proof/Machine/ExecEvents.lean ====
section
/-!
DEFINITION. The meanings of the other rows: host accesses, and the events and moments at which the device
acts.  Each advances the clocks to the moment of the row and then does what its rule says.
-/

namespace Sys2Proof.Machine

open Sys2Proof

/-- PRINT_EN_WRITE (R51): A host write to HST_CTRL.PRINT_EN starts, cancels or refuses a consistency check, or
leaves an armed state for READY. -/
def execPrintEnWrite (m : Moment) (v : Bool) (s : State) : Host.Outcome State Fault Refusal :=
  .next (printEnWrite v (s.clock m))

/-- CHECK_DONE (R52): The PRINT_EN consistency check completes, and the device enters ARMED or records the
refusal in HST_REFUSE. -/
def execCheckDone (m : Moment) (s : State) : Host.Outcome State Fault Refusal :=
  .next (checkDone (s.clock m))

/-- RESUME_CHECK_DONE (R92): The whole-configuration check of SYS.RESUME completes, and the device enters ARMED
or stays PAUSED with COMMAND_DONE. -/
def execResumeCheckDone (m : Moment) (s : State) : Host.Outcome State Fault Refusal :=
  .next (resumeCheckDone (s.clock m))

/-- CFG_CHECK_DONE (R92): The check requested by CFG.CHECK completes and posts COMMAND_DONE with its result. -/
def execCfgCheckDone (m : Moment) (s : State) : Host.Outcome State Fault Refusal :=
  .next (cfgCheckDone (s.clock m))

/-- DP_OPEN (R62): A DP_CTRL.OPEN write validates the port and opens it, or sets ERROR and posts DP_ERROR. -/
def execDpOpen (m : Moment) (p : Fin 8) (ctrl : Word) (s : State) : Host.Outcome State Fault Refusal :=
  .next (dpOpen p.val ctrl (s.clock m))

/-- DP_FLUSH (R64): A DP_CTRL.FLUSH write writes the merge buffer to HBM under its byte enables. -/
def execDpFlush (m : Moment) (p : Fin 8) (ctrl : Word) (s : State) : Host.Outcome State Fault Refusal :=
  .next (dpFlush p.val ctrl (s.clock m))

/-- DP_CLOSE (R68): A DP_CTRL.CLOSE write flushes the merge buffer and starts closing the port. -/
def execDpClose (m : Moment) (p : Fin 8) (ctrl : Word) (s : State) : Host.Outcome State Fault Refusal :=
  .next (dpClose p.val ctrl (s.clock m))

/-- DP_CLOSE_COMPLETE (R68): Once BUSY is 0 and any session has emitted its final block, the port closes, sets
CLOSED and posts DP_CLOSED. -/
def execDpCloseComplete (m : Moment) (p : Fin 8) (s : State) : Host.Outcome State Fault Refusal :=
  .next (dpCloseEnd p.val (s.clock m))

/-- DP_ABORT (R68): A DP_CTRL.ABORT write discards the merge buffer, ends the session and closes the port
without an event. -/
def execDpAbort (m : Moment) (p : Fin 8) (ctrl : Word) (s : State) : Host.Outcome State Fault Refusal :=
  .next (dpAbort p.val ctrl (s.clock m))

/-- DP_WINDOW_WRITE (R64): A write TLP to a data-port window stores stream bytes at DP_PTR, or discards them as
closed, beyond the limit or poisoned. -/
def execDpWindowWrite (m : Moment) (p : Fin 8) (bytes : List Byte) (poisoned : Bool)
    (s : State) : Host.Outcome State Fault Refusal :=
  .next (dpWindowWrite p.val bytes poisoned (s.clock m))

/-- DP_WINDOW_READ (R69): A read of a data-port window returns stream bytes from DP_RPTR and advances DP_RPTR. -/
def execDpWindowRead (m : Moment) (p : Fin 8) (count : Nat) (s : State) : Host.Outcome State Fault Refusal :=
  .next (dpWindowRead p.val count (s.clock m))

/-- DP_HBM_WRITE_DONE (R64): Accepted port bytes reach HBM, and BUSY falls once none remain outstanding. -/
def execDpHbmWriteDone (m : Moment) (p : Fin 8) (count : Nat) (s : State) : Host.Outcome State Fault Refusal :=
  .next (dpHbmWriteDone p.val count (s.clock m))

/-- DP_STALL_TIMEOUT (R66): A port open and mid-block for 10,240 AON ticks without a write sets STALLED and
posts DP_STALLED. -/
def execDpStallTimeout (m : Moment) (p : Fin 8) (s : State) : Host.Outcome State Fault Refusal :=
  .next (dpStallTimeout p.val (s.clock m))

/-- TICK_LO_READ (R50): A read of HST_TICK_LO latches tick-counter bits [63:32] into HST_TICK_HI. -/
def execTickLoRead (m : Moment) (wide : Bool) (s : State) : Host.Outcome State Fault Refusal :=
  .next (tickLoRead wide (s.clock m))

/-- AON_LO_READ (R50): A read of HST_AON_LO latches HST_AON_HI. -/
def execAonLoRead (m : Moment) (wide : Bool) (s : State) : Host.Outcome State Fault Refusal :=
  .next (aonLoRead wide (s.clock m))

/-- RING_LOST_READ (R11): A read of INT_RING_LOST returns the count of lost events and clears it. -/
def execRingLostRead (m : Moment) (s : State) : Host.Outcome State Fault Refusal :=
  .next (ringLostRead (s.clock m))

/-- DP_DROPPED_READ (R11): A read of DP_DROPPED returns the count of discarded bytes and clears it. -/
def execDpDroppedRead (m : Moment) (p : Fin 8) (s : State) : Host.Outcome State Fault Refusal :=
  .next (dpDroppedRead p.val (s.clock m))

/-- PAIR_DIVERGENCES_READ (R347): A read of PAIR_DIVERGENCES returns the count of mismatching digests and clears
it. -/
def execPairDivergencesRead (m : Moment) (s : State) : Host.Outcome State Fault Refusal :=
  .next (pairDivergencesRead (s.clock m))

/-- RING_ENABLE_WRITE (R59): Setting INT_RING_CTRL.ENABLE resets PROD, CONS and PHASE, and writes a pending
RING_OVERRUN entry. -/
def execRingEnableWrite (m : Moment) (v : Word) (s : State) : Host.Outcome State Fault Refusal :=
  .next (ringEnableWrite v (s.clock m))

/-- RING_CONS_WRITE (R59): A host write of INT_RING_CONS frees ring entries. -/
def execRingConsWrite (m : Moment) (v : Word) (s : State) : Host.Outcome State Fault Refusal :=
  .next (ringConsWrite v (s.clock m))

/-- INT_ENABLE_WRITE (R57): A write to INT_ENABLE that sets a bit whose STATUS bit is 1 sends an MSI-X message. -/
def execIntEnableWrite (m : Moment) (v : Word) (s : State) : Host.Outcome State Fault Refusal :=
  .next (intEnableWrite v (s.clock m))

/-- REGISTER_WRITE (R10): A host write to a register that has no row of its own takes effect by its access codes. -/
def execRegisterWrite (m : Moment) (offset : Nat) (size : Nat) (v : BitVec 64)
    (s : State) : Host.Outcome State Fault Refusal :=
  .next (registerWrite offset size v (s.clock m))

/-- INT_HOLDOFF_EXPIRY (R58): HOLDOFF µs after the first unsignalled ring entry, STATUS bit 0 is set. -/
def execIntHoldoffExpiry (m : Moment) (s : State) : Host.Outcome State Fault Refusal :=
  .next (intHoldoffExpiry (s.clock m))

/-- RESET_ENTRY (R92): 1 ms after the SYS.RESET response, the device enters UPSETT at U3. -/
def execResetEntry (m : Moment) (s : State) : Host.Outcome State Fault Refusal :=
  .next (resetEntry (s.clock m))

/-- COMMIT_ACCEPT (R93): A held commit is accepted or refused once checks, module delivery and earlier commits
allow, fixing A_b per bar. -/
def execCommitAccept (m : Moment) (s : State) : Host.Outcome State Fault Refusal :=
  .next (commitAccept (s.clock m))

/-- COVERAGE_DONE (R121): The coverage examination completes, stores its result and posts COMMAND_DONE. -/
def execCoverageDone (m : Moment) (s : State) : Host.Outcome State Fault Refusal :=
  .next (coverageDone (s.clock m))

/-- SPIT_BURST_DONE (R177): The spit burst ends, or is cut short by motion, and posts COMMAND_DONE. -/
def execSpitBurstDone (m : Moment) (g : Fin 16) (s : State) : Host.Outcome State Fault Refusal :=
  .next (spitBurstDone g.val (s.clock m))

/-- VERIFY_DONE (R263): The last block of a verification is checked, the result is stored and COMMAND_DONE is
posted. -/
def execVerifyDone (m : Moment) (s : State) : Host.Outcome State Fault Refusal :=
  .next (verifyDone (s.clock m))

/-- DECODE_DONE (R263): The decode into HBM ends in success or failure and posts COMMAND_DONE. -/
def execDecodeDone (m : Moment) (s : State) : Host.Outcome State Fault Refusal :=
  .next (decodeDone (s.clock m))

/-- WEAVE_REFORM_DONE (R366): Re-forming of the pool in CONTIGUOUS mode completes and posts WEAVE_BANK. -/
def execWeaveReformDone (m : Moment) (s : State) : Host.Outcome State Fault Refusal :=
  .next (weaveReformDone (s.clock m))

/-- IMAGE_WRITE_DONE (R410): The flash write of an image chunk ends and posts COMMAND_DONE. -/
def execImageWriteDone (m : Moment) (ok : Bool) (s : State) : Host.Outcome State Fault Refusal :=
  .next (imageWriteDone ok (s.clock m))

/-- CAL_STORED (R438): The record is written and verified, the slot becomes current, and CAL_STORED is posted,
or FLASH_ERROR ends the store. -/
def execCalStored (m : Moment) (ok : Bool) (s : State) : Host.Outcome State Fault Refusal :=
  .next (calStored ok (s.clock m))

/-- OTP_OPERATION_DONE (R460): An OTP operation completes or stops, is logged and posts COMMAND_DONE. -/
def execOtpOperationDone (m : Moment) (pulses : OtpPulses) (s : State) : Host.Outcome State Fault Refusal :=
  .next (otpOperationDone pulses (s.clock m))

/-- POR_RELEASE (R42): POR_N is released with VDD_AON good and the Upsett sequence starts at U0. -/
def execPorRelease (m : Moment) (vddAonGood : Bool) (s : State) : Host.Outcome State Fault Refusal :=
  .next (porRelease vddAonGood (s.clock m))

/-- POR_ASSERT (R42): POR_N is asserted or VDD_AON is lost, and the device enters OFF. -/
def execPorAssert (m : Moment) (s : State) : Host.Outcome State Fault Refusal :=
  .next (porAssert (s.clock m))

/-- RSTN_ASSERT (R405): RSTN is asserted, which faults the device or restarts it from FAULT. -/
def execRstnAssert (m : Moment) (s : State) : Host.Outcome State Fault Refusal :=
  .next (rstnAssert (s.clock m))

/-- WAKE_PIN (R401): WAKE high for 2 AON ticks wakes the device or restarts it from SAFE. -/
def execWakePin (m : Moment) (s : State) : Host.Outcome State Fault Refusal :=
  .next (wakePin (s.clock m))

/-- UPSETT_PHASE_DONE (R406): An Upsett phase completes and the next begins; U7 completion enters READY. -/
def execUpsettPhaseDone (m : Moment) (info : PhaseInput) (s : State) : Host.Outcome State Fault Refusal :=
  .next (upsettPhaseDone info (s.clock m))

/-- UPSETT_PHASE_TIMEOUT (R406): An Upsett phase times out and the device enters FAULT. -/
def execUpsettPhaseTimeout (m : Moment) (edges : Bool) (s : State) : Host.Outcome State Fault Refusal :=
  .next (upsettPhaseTimeout edges (s.clock m))

/-- RAIL_RETRY (R406): 100 ms after a U2 failure, the rails are raised again. -/
def execRailRetry (m : Moment) (s : State) : Host.Outcome State Fault Refusal :=
  .next (railRetry (s.clock m))

/-- REF_DETECT_DONE (R393): After 100 µs of listening, the Keeper selects oscillator or crystal mode. -/
def execRefDetectDone (m : Moment) (edges : Nat) (s : State) : Host.Outcome State Fault Refusal :=
  .next (refDetectDone edges (s.clock m))

/-- RAIL_STEP (R397): A PG high for 10 AON ticks raises the next EN_P line in up order. -/
def execRailStep (m : Moment) (s : State) : Host.Outcome State Fault Refusal :=
  .next (railStep (s.clock m))

/-- PG_FALL (R397): During power-down a PG falls and the next line is lowered. -/
def execPgFall (m : Moment) (s : State) : Host.Outcome State Fault Refusal :=
  .next (pgFall (s.clock m))

/-- PG_TIMEOUT (R397): A PG stays high beyond pg_timeout during power-down; this is logged and the sequence
continues. -/
def execPgTimeout (m : Moment) (s : State) : Host.Outcome State Fault Refusal :=
  .next (pgTimeout (s.clock m))

/-- RAIL_LOST (R397): A PG reads low for 4 AON ticks while its line is high, an uncorrectable fault. -/
def execRailLost (m : Moment) (k : Fin 8) (s : State) : Host.Outcome State Fault Refusal :=
  .next (railLost k.val (s.clock m))

/-- REF_LOST (R394): The clock monitor finds no reference edge for 1 µs, a fault while PD_TIME runs. -/
def execRefLost (m : Moment) (s : State) : Host.Outcome State Fault Refusal :=
  .next (refLost (s.clock m))

/-- PLL_UNLOCK (R394): A PLL other than HOST loses lock, an uncorrectable fault. -/
def execPllUnlock (m : Moment) (pll : Pll) (s : State) : Host.Outcome State Fault Refusal :=
  .next (pllUnlock pll (s.clock m))

/-- HOST_LINK_LOSS (R394): Loss of PEX_REFCLK or HOST lock takes the PCI Express link down while printing
continues. -/
def execHostLinkLoss (m : Moment) (s : State) : Host.Outcome State Fault Refusal :=
  .next (hostLinkLoss (s.clock m))

/-- PCIE_LINK_UP (R402): The PCI Express link returns after being down and the function is reset. -/
def execPcieLinkUp (m : Moment) (s : State) : Host.Outcome State Fault Refusal :=
  .next (pcieLinkUp (s.clock m))

/-- AON_TRIM (R395): Every 16 ms the Keeper counts reference cycles and steps the AON trim code. -/
def execAonTrim (m : Moment) (count : Nat) (s : State) : Host.Outcome State Fault Refusal :=
  .next (aonTrim count (s.clock m))

/-- PMBUS_ALERT (R398): PMB_ALERTN falls; the Keeper reads the alert responder and posts PMBUS_ALERT. -/
def execPmbusAlert (m : Moment) (rail : Fin 8) (status : BitVec 16) (s : State) : Host.Outcome State Fault Refusal :=
  .next (pmbusAlert rail.val status (s.clock m))

/-- DOZE_TIMER (R399): doze_after seconds without activity in READY start entry to DOZE. -/
def execDozeTimer (m : Moment) (s : State) : Host.Outcome State Fault Refusal :=
  .next (dozeTimer (s.clock m))

/-- SLEEP_TIMER (R399): sleep_after seconds in DOZE start entry to SLEEP. -/
def execSleepTimer (m : Moment) (s : State) : Host.Outcome State Fault Refusal :=
  .next (sleepTimer (s.clock m))

/-- POWER_ENTRY (R400): 1 ms after POWER.SET_STATE the entry to DOZE, SLEEP or OFF-AON proceeds in order. -/
def execPowerEntry (m : Moment) (s : State) : Host.Outcome State Fault Refusal :=
  .next (powerEntry (s.clock m))

/-- HV_DISCHARGED (R400): HVOK falls after HVEN, and a waiting power-state entry proceeds. -/
def execHvDischarged (m : Moment) (k : Fin 8) (s : State) : Host.Outcome State Fault Refusal :=
  .next (hvDischarged k.val (s.clock m))

/-- PCIE_WAKE (R401): Electrical-idle exit on PEX_RXP/N[0] wakes the device. -/
def execPcieWake (m : Moment) (s : State) : Host.Outcome State Fault Refusal :=
  .next (pcieWake (s.clock m))

/-- AON_WAKE_TIMER (R401): aon_timer seconds after entry wake the device. -/
def execAonWakeTimer (m : Moment) (s : State) : Host.Outcome State Fault Refusal :=
  .next (aonWakeTimer (s.clock m))

/-- WAKE_COMPLETE (R402): Wake steps and port training finish and PWR_STATE reads READY. -/
def execWakeComplete (m : Moment) (s : State) : Host.Outcome State Fault Refusal :=
  .next (wakeComplete (s.clock m))

/-- HVOK_TIMEOUT (R404): HVOK is not high within hv_on_timeout; the supply is FAILED. -/
def execHvokTimeout (m : Moment) (k : Fin 8) (s : State) : Host.Outcome State Fault Refusal :=
  .next (hvokTimeout k.val (s.clock m))

/-- HV_LOST (R404): HVOK is low for 10 AON ticks while enabled; the supply fails, and faults the device under
fail_policy FAULT. -/
def execHvLost (m : Moment) (k : Fin 8) (s : State) : Host.Outcome State Fault Refusal :=
  .next (hvLost k.val (s.clock m))

/-- HV_DISCHARGE_TIMEOUT (R404): HVOK is still high after hv_discharge_timeout; the supply is FAILED. -/
def execHvDischargeTimeout (m : Moment) (k : Fin 8) (s : State) : Host.Outcome State Fault Refusal :=
  .next (hvDischargeTimeout k.val (s.clock m))

/-- VDDIO_LOST (R508): VDDIO_33 below 2.9 V for 4 AON ticks is a fault or is recorded. -/
def execVddioLost (m : Moment) (s : State) : Host.Outcome State Fault Refusal :=
  .next (vddioLost (s.clock m))

/-- THERMAL_SAMPLE (R413): Every 1,024 AON ticks all temperature sensors are sampled and die_max formed. -/
def execThermalSample (m : Moment) (r : TempReadings) (s : State) : Host.Outcome State Fault Refusal :=
  .next (thermalSample r (s.clock m))

/-- SENSOR_VALIDITY_CHANGE (R414): After 4 samples a sensor changes validity; fewer than 8 valid is SENSORS_LOST. -/
def execSensorValidityChange (m : Moment) (info : Fin 16) (s : State) : Host.Outcome State Fault Refusal :=
  .next (sensorValidityChange info.val (s.clock m))

/-- THERM_GRADIENT (R415): The gradient stays above or returns below gradient_limit for 4 samples. -/
def execThermGradient (m : Moment) (s : State) : Host.Outcome State Fault Refusal :=
  .next (thermGradient (s.clock m))

/-- THERM_LEVEL (R416): A domain's 4-sample dwell completes and it steps one level. -/
def execThermLevel (m : Moment) (domain : Fin 2) (s : State) : Host.Outcome State Fault Refusal :=
  .next (thermLevel domain.val (s.clock m))

/-- HBM_SENSOR_LOST (R421): The stack sensor is unreadable for 4 samples and the HBM ceiling is forced to its
floor. -/
def execHbmSensorLost (m : Moment) (s : State) : Host.Outcome State Fault Refusal :=
  .next (hbmSensorLost (s.clock m))

/-- KEEPER_TRIP (R422): The fourth consecutive trip vote shuts down supplies and clocks and enters SAFE. -/
def execKeeperTrip (m : Moment) (s : State) : Host.Outcome State Fault Refusal :=
  .next (keeperTrip (s.clock m))

/-- SAFE_RESTART (R423): Both dedicated sensors are below 90 °C for 10,240,000 AON ticks; restart at U1 or
RESTART_LIMIT. -/
def execSafeRestart (m : Moment) (s : State) : Host.Outcome State Fault Refusal :=
  .next (safeRestart (s.clock m))

/-- QUADRATURE_EDGE (R128): A change of the filtered A/B pair counts an edge or an illegal edge on an axis. -/
def execQuadratureEdge (m : Moment) (n : Fin 8) (rawA : List Bool) (rawB : List Bool)
    (s : State) : Host.Outcome State Fault Refusal :=
  .next (State.afterSample n.val (s.clock m) (quadratureEdge n.val rawA rawB (s.clock m)))

/-- INDEX_EVENT (R130): An index edge of Z records last_index_position and checks the index or applies an armed
preset. -/
def execIndexEvent (m : Moment) (n : Fin 8) (rawZ : List Bool) (s : State) : Host.Outcome State Fault Refusal :=
  .next (indexEvent n.val rawZ (s.clock m))

/-- SSI_FRAME_START (R139): At a frame-start multiple an SSI axis starts a frame or waits for data high. -/
def execSsiFrameStart (m : Moment) (n : Fin 8) (dataHigh : Bool) (s : State) : Host.Outcome State Fault Refusal :=
  .next (ssiFrameStart n.val dataHigh (s.clock m))

/-- SSI_FRAME_END (R141): An SSI frame ends; a good frame updates the counter and a failed frame counts an error. -/
def execSsiFrameEnd (m : Moment) (n : Fin 8) (bits : List Bool) (endLow : Bool)
    (s : State) : Host.Outcome State Fault Refusal :=
  .next (State.afterSample n.val (s.clock m) (ssiFrameEnd n.val bits endLow (s.clock m)))

/-- SPEED_WINDOW_END (R134): A speed window ends, updating speed, the edgeless-window count and the motion state. -/
def execSpeedWindowEnd (m : Moment) (n : Fin 8) (s : State) : Host.Outcome State Fault Refusal :=
  .next (speedWindowEnd n.val (s.clock m))

/-- EVENT_HOLDOFF_EXPIRY (R133): A rate-limit holdoff ends and a held event is posted with current values. -/
def execEventHoldoffExpiry (m : Moment) (key : EventKey) (s : State) : Host.Outcome State Fault Refusal :=
  .next (eventHoldoffExpiry key (s.clock m))

/-- ECHO_STEP (R149): An echo output takes one step of a pending count once min spacing allows. -/
def execEchoStep (m : Moment) (k : Fin 4) (s : State) : Host.Outcome State Fault Refusal :=
  .next (echoStep k.val (s.clock m))

/-- MOTION_WAKE_TRANSITION (R152): An AXn_A transition in a gated state is counted and may wake the device. -/
def execMotionWakeTransition (m : Moment) (n : Fin 8) (s : State) : Host.Outcome State Fault Refusal :=
  .next (motionWakeTransition n.val (s.clock m))

/-- WAKE_WINDOW_END (R152): A motion-wake window ends and the counts clear. -/
def execWakeWindowEnd (m : Moment) (s : State) : Host.Outcome State Fault Refusal :=
  .next (wakeWindowEnd (s.clock m))

/-- PERIODIC_EVALUATION (R168): Every 64 TIME ticks each enabled bar is evaluated and due hits are ticketed,
dropped or spat. -/
def execPeriodicEvaluation (m : Moment) (s : State) : Host.Outcome State Fault Refusal :=
  .next (periodicEvaluation (s.clock m))

/-- TICKLE_EMIT (R175): At each tickle_period multiple an idle keep-alive bar emits a TICKLE strobe. -/
def execTickleEmit (m : Moment) (b : Fin 16) (s : State) : Host.Outcome State Fault Refusal :=
  .next (tickleEmit b.val (s.clock m))

/-- DRY_RISK (R176): dry_time without an ejecting fire raises DRY_RISK and may start dry hold. -/
def execDryRisk (m : Moment) (b : Fin 16) (s : State) : Host.Outcome State Fault Refusal :=
  .next (dryRisk b.val (s.clock m))

/-- TRIGOUT_PULSE (R179): A TRIGOUT output asserts at the fire tick plus delay and releases after width. -/
def execTrigoutPulse (m : Moment) (k : Fin 8) (s : State) : Host.Outcome State Fault Refusal :=
  .next (trigoutPulse k.val (s.clock m))

/-- LINE_PREPARE (R230): The line engine prepares the next line of a bar once its ring lines are valid and a
slot is free. -/
def execLinePrepare (m : Moment) (b : Fin 16) (s : State) : Host.Outcome State Fault Refusal :=
  .next (linePrepare b.val (s.clock m))

/-- NOZ_SEND (R278): NOZ frames of a prepared line are sent once fewer than 8 lines are buffered. -/
def execNozSend (m : Moment) (b : Fin 16) (p : Fin 32) (s : State) : Host.Outcome State Fault Refusal :=
  .next (nozSend b.val p.val (s.clock m))

/-- DECOMP_SCHEDULE (R226): A free decompressor takes the next block of the bar with the smallest lead. -/
def execDecompSchedule (m : Moment) (s : State) : Host.Outcome State Fault Refusal :=
  .next (decompSchedule (s.clock m))

/-- INDEX_REREAD (R215): An index entry with VALID 0 is reread at 1–10 µs intervals. -/
def execIndexReread (m : Moment) (b : Fin 16) (s : State) : Host.Outcome State Fault Refusal :=
  .next (indexReread b.val (s.clock m))

/-- BLOCK_DECODE_DONE (R225): A block finishes decoding; its lines become valid, or it is bad input. -/
def execBlockDecodeDone (m : Moment) (u : Fin 5) (s : State) : Host.Outcome State Fault Refusal :=
  .next (blockDecodeDone u.val (s.clock m))

/-- DECOMP_RESUME (R227): A decompressor suspended at the window end resumes when the window moves. -/
def execDecompResume (m : Moment) (b : Fin 16) (s : State) : Host.Outcome State Fault Refusal :=
  .next (decompResume b.val (s.clock m))

/-- PEER_BLOCK_RESPONSE (R234): The twin's block bytes arrive; a valid decode settles the block and posts
PEER_REPAIRED. -/
def execPeerBlockResponse (m : Moment) (p : Fin 64) (block : Nat) (bytes : Option (List Byte))
    (s : State) : Host.Outcome State Fault Refusal :=
  .next (peerBlockResponse p.val block bytes (s.clock m))

/-- PEER_REQUEST_TIMEOUT (R234): No twin answer within 100 µs applies peer_fallback. -/
def execPeerRequestTimeout (m : Moment) (p : Fin 64) (s : State) : Host.Outcome State Fault Refusal :=
  .next (peerRequestTimeout p.val (s.clock m))

/-- PEER_BLOCK_REQUEST (R323): The twin's block request arrives and the unit sends its block on the PEER class. -/
def execPeerBlockRequest (m : Moment) (p : Fin 64) (block : Nat) (s : State) : Host.Outcome State Fault Refusal :=
  .next (peerBlockRequest p.val block (s.clock m))

/-- SESSION_BLOCK_EMIT (R259): A compressor finishes a block row's blocks and writes their index entries. -/
def execSessionBlockEmit (m : Moment) (k : Fin 16) (s : State) : Host.Outcome State Fault Refusal :=
  .next (sessionBlockEmit k.val (s.clock m))

/-- RX_LOCKED (R289): A Cane receiver locks to clock and data in ELECTRICAL. -/
def execRxLocked (m : Moment) (p : Fin 32) (s : State) : Host.Outcome State Fault Refusal :=
  .next (rxLocked p.val (s.clock m))

/-- BLOCK_LOCK_ACQUIRED (R266): 64 valid sync headers give block lock and polarity. -/
def execBlockLockAcquired (m : Moment) (p : Fin 32) (inverted : Bool)
    (s : State) : Host.Outcome State Fault Refusal :=
  .next (blockLockAcquired p.val inverted (s.clock m))

/-- BLOCK_LOCK_LOSS (R290): 16 invalid sync headers in 64 lose block lock and the port leaves UP. -/
def execBlockLockLoss (m : Moment) (p : Fin 32) (s : State) : Host.Outcome State Fault Refusal :=
  .next (blockLockLoss p.val (s.clock m))

/-- RIM_RECEIVED (R270): A module RIM block arrives, advancing RIM_LOCK or reporting module FAULT. -/
def execRimReceived (m : Moment) (p : Fin 32) (fault : Bool) (blockLock : Bool) (spaced : Bool)
    (s : State) : Host.Outcome State Fault Refusal :=
  .next (rimReceived p.val fault blockLock spaced (s.clock m))

/-- RIM_MISSING (R290): No RIM block at the expected position in 2 rims; the port leaves UP. -/
def execRimMissing (m : Moment) (p : Fin 32) (s : State) : Host.Outcome State Fault Refusal :=
  .next (rimMissing p.val (s.clock m))

/-- TRAIN_TIMEOUT (R289): A training state times out and the port returns to DOWN. -/
def execTrainTimeout (m : Moment) (p : Fin 32) (s : State) : Host.Outcome State Fault Refusal :=
  .next (trainTimeout p.val (s.clock m))

/-- TRAIN_RESTART (R289): 10 ms after a timeout, training restarts. -/
def execTrainRestart (m : Moment) (p : Fin 32) (s : State) : Host.Outcome State Fault Refusal :=
  .next (trainRestart p.val (s.clock m))

/-- STS_RECEIVED (R294): An STS frame updates module status and may decide HELLO. -/
def execStsReceived (m : Moment) (p : Fin 32) (sts : Sts) (s : State) : Host.Outcome State Fault Refusal :=
  .next (stsReceived p.val sts (s.clock m))

/-- HLT_RECEIVED (R293): An HLT frame's records are queued for assessment and acknowledged. -/
def execHltReceived (m : Moment) (p : Fin 32) (seq : Nat) (recs : List HltRec)
    (s : State) : Host.Outcome State Fault Refusal :=
  .next (hltReceived p.val seq recs (s.clock m))

/-- ACK_RECEIVED (R283): An ACK confirms frames, TSY exchanges and CONFIG completion. -/
def execAckReceived (m : Moment) (p : Fin 32) (seq : Nat) (tRx : Nat) (tTx : Nat) (t4 : Nat)
    (s : State) : Host.Outcome State Fault Refusal :=
  .next (ackReceived p.val seq tRx tTx t4 (s.clock m))

/-- NAK_RECEIVED (R284): A NAK causes retransmission of the frame. -/
def execNakReceived (m : Moment) (p : Fin 32) (seq : Nat) (code : Nat)
    (s : State) : Host.Outcome State Fault Refusal :=
  .next (nakReceived p.val seq code (s.clock m))

/-- ACK_TIMEOUT (R284): No ACK 4 µs after TERM retransmits, or a CFG frame exhausts max_retx. -/
def execAckTimeout (m : Moment) (p : Fin 32) (seq : Nat) (s : State) : Host.Outcome State Fault Refusal :=
  .next (ackTimeout p.val seq (s.clock m))

/-- LINE_DEADLINE (R285): A line reaches its deadline with a NOZ frame unacknowledged; CANE_LATE is posted. -/
def execLineDeadline (m : Moment) (p : Fin 32) (b : Fin 16) (line : Word)
    (s : State) : Host.Outcome State Fault Refusal :=
  .next (lineDeadline p.val b.val line (s.clock m))

/-- TSY_SEND (R288): Every tsy_period a TSY frame is sent with offset_adj. -/
def execTsySend (m : Moment) (p : Fin 32) (s : State) : Host.Outcome State Fault Refusal :=
  .next (tsySend p.val (s.clock m))

/-- BANK_CATCHUP (R282): After the last fire naming the old bank, the commit's changes are written into it. -/
def execBankCatchup (m : Moment) (s : State) : Host.Outcome State Fault Refusal :=
  .next (bankCatchup (s.clock m))

/-- HEALTH_ASSESS (R302): A health engine assesses an HLT record, classifies it and updates the health record. -/
def execHealthAssess (m : Moment) (s : State) : Host.Outcome State Fault Refusal :=
  .next (healthAssess (s.clock m))

/-- HEALTH_REQ_TIMEOUT (R300): An unanswered request after req_timeout is withdrawn and the set reissued. -/
def execHealthReqTimeout (m : Moment) (nozzle : Nat) (s : State) : Host.Outcome State Fault Refusal :=
  .next (healthReqTimeout nozzle (s.clock m))

/-- FW_AUTO_SUBMIT (R313): After 20 ms or 256 changes firmware submits the FW_AUTO set as a commit. -/
def execFwAutoSubmit (m : Moment) (s : State) : Host.Outcome State Fault Refusal :=
  .next (fwAutoSubmit (s.clock m))

/-- HEATER_LOOP (R316): Every 10 ms firmware computes each head's heater duty and sends HEATER records. -/
def execHeaterLoop (m : Moment) (s : State) : Host.Outcome State Fault Refusal :=
  .next (heaterLoop (s.clock m))

/-- PAIR_TRAIN_TIMEOUT (R324): Pairing not PAIRED within 5 ms in U7 lets U7 complete unpaired. -/
def execPairTrainTimeout (m : Moment) (s : State) : Host.Outcome State Fault Refusal :=
  .next (pairTrainTimeout (s.clock m))

/-- PAIR_RETRAIN (R324): An unpaired unit retrains its Pairing link every 100 ms. -/
def execPairRetrain (m : Moment) (s : State) : Host.Outcome State Fault Refusal :=
  .next (pairRetrain (s.clock m))

/-- PAIR_HELLO (R324): The HELLO exchange sets roles or INCOMPATIBLE. -/
def execPairHello (m : Moment) (h : Hello) (s : State) : Host.Outcome State Fault Refusal :=
  .next (pairHello h (s.clock m))

/-- HB_TOGGLE (R326): Every 400 TIME ticks unit P inverts PAIR_HB and sends a heartbeat message. -/
def execHbToggle (m : Moment) (s : State) : Host.Outcome State Fault Refusal :=
  .next (hbToggle (s.clock m))

/-- HEARTBEAT_TIMEOUT (R342): A heartbeat path is silent for 20 µs, leading to promotion, withdrawal or an event. -/
def execHeartbeatTimeout (m : Moment) (pinSilent : Bool) (s : State) : Host.Outcome State Fault Refusal :=
  .next (heartbeatTimeout pinSilent (s.clock m))

/-- FAULT_DECLARED (R342): Unit S receives FAULT_DECLARED and is promoted at once. -/
def execFaultDeclared (m : Moment) (s : State) : Host.Outcome State Fault Refusal :=
  .next (faultDeclared (s.clock m))

/-- CONTROL_MESSAGE (R332): A CONTROL message delivers input stream, state events and other mirrored data. -/
def execControlMessage (m : Moment) (c : Control) (latency : Nat) (s : State) : Host.Outcome State Fault Refusal :=
  .next (controlMessage c latency (s.clock m))

/-- INPUT_FALLBACK (R332): No CONTROL message for 320 TIME ticks; S uses its own samples. -/
def execInputFallback (m : Moment) (s : State) : Host.Outcome State Fault Refusal :=
  .next (inputFallback (s.clock m))

/-- STATE_EVENT_APPLY (R333): At t_s both units apply a mirrored system-state transition. -/
def execStateEventApply (m : Moment) (s : State) : Host.Outcome State Fault Refusal :=
  .next (stateEventApply (s.clock m))

/-- CEILING_APPLY (R334): At the apply tick both units use the combined ceiling. -/
def execCeilingApply (m : Moment) (s : State) : Host.Outcome State Fault Refusal :=
  .next (ceilingApply (s.clock m))

/-- TEMP_SNAPSHOT_SEND (R336): Every 1 ms unit P sends a head-temperature snapshot with apply lines. -/
def execTempSnapshotSend (m : Moment) (s : State) : Host.Outcome State Fault Refusal :=
  .next (tempSnapshotSend (s.clock m))

/-- COMMIT_PREPARE (R335): Unit S receives PREPARE, validates, preloads banks and replies READY. -/
def execCommitPrepare (m : Moment) (changes : List Change) (s : State) : Host.Outcome State Fault Refusal :=
  .next (commitPrepare changes (s.clock m))

/-- COMMIT_READY (R335): Unit P receives READY and accepts the commit, sending COMMIT with A_b. -/
def execCommitReady (m : Moment) (ready : Bool) (s : State) : Host.Outcome State Fault Refusal :=
  .next (commitReady ready (s.clock m))

/-- COMMIT_MIRROR (R335): Unit S receives COMMIT and applies it from its PEER set at the same A_b. -/
def execCommitMirror (m : Moment) (id : Word) (lines : List (Nat × Word))
    (s : State) : Host.Outcome State Fault Refusal :=
  .next (commitMirror id lines (s.clock m))

/-- READY_TIMEOUT (R335): No READY within 2 ms; P accepts and S resynchronises with MIRROR_FAILED. -/
def execReadyTimeout (m : Moment) (s : State) : Host.Outcome State Fault Refusal :=
  .next (readyTimeout (s.clock m))

/-- DIGEST_RECEIVED (R339): A twin line digest arrives and is compared; mismatches count toward withdrawal. -/
def execDigestReceived (m : Moment) (b : Fin 16) (p : Fin 32) (line : Word) (digest : Word) (excluded : Bool)
    (s : State) : Host.Outcome State Fault Refusal :=
  .next (digestReceived b.val p.val line digest excluded (s.clock m))

/-- DIGEST_ABSENT (R339): A digest absent 2 ms after the fire counts as a mismatch. -/
def execDigestAbsent (m : Moment) (b : Fin 16) (p : Fin 32) (line : Word)
    (s : State) : Host.Outcome State Fault Refusal :=
  .next (digestAbsent b.val p.val line (s.clock m))

/-- RESYNC_SNAPSHOT (R341): Unit S receives P's snapshot, installs it and prepares from J_b. -/
def execResyncSnapshot (m : Moment) (x : Snapshot) (s : State) : Host.Outcome State Fault Refusal :=
  .next (resyncSnapshot x (s.clock m))

/-- RESYNC_TIMEOUT (R341): Resynchronisation not done within 50 ms fails and restarts. -/
def execResyncTimeout (m : Moment) (s : State) : Host.Outcome State Fault Refusal :=
  .next (resyncTimeout (s.clock m))

/-- TIME_EXCHANGE (R330): Every 100 µs a round-trip exchange aligns S's tick counter; beyond ±5 ns S is withdrawn. -/
def execTimeExchange (m : Moment) (t1 : Nat) (tRx : Nat) (tTx : Nat) (t4 : Nat)
    (s : State) : Host.Outcome State Fault Refusal :=
  .next (timeExchange t1 tRx tTx t4 (s.clock m))

/-- BULK_FORWARD (R328): Forwarded plane-area bytes arrive in S and are written in order. -/
def execBulkForward (m : Moment) (address : Nat) (bytes : List Byte) (s : State) : Host.Outcome State Fault Refusal :=
  .next (bulkForward address bytes (s.clock m))

/-- TWIN_LOG_ENTRY (R487): A twin log entry arrives and is stored with flag TWIN. -/
def execTwinLogEntry (m : Moment) (seq : Word) (e : LogBody) (s : State) : Host.Outcome State Fault Refusal :=
  .next (twinLogEntry seq e (s.clock m))

/-- SCRUB_STEP (R362): The patrol scrub reads and corrects the next memory words. -/
def execScrubStep (m : Moment) (source : Fin 3) (found : List MemError) (passEnd : Bool)
    (s : State) : Host.Outcome State Fault Refusal :=
  .next (scrubStep source found passEnd (s.clock m))

/-- POISON_REWRITE (R361): Firmware rewrites a poisoned Weave word from its HBM copy. -/
def execPoisonRewrite (m : Moment) (address : Nat) (s : State) : Host.Outcome State Fault Refusal :=
  .next (poisonRewrite address (s.clock m))

/-- DMA_UNIT_ASSIGN (R374): A free execution unit takes the highest-priority waiting channel. -/
def execDmaUnitAssign (m : Moment) (s : State) : Host.Outcome State Fault Refusal :=
  .next (dmaUnitAssign (s.clock m))

/-- DMA_PREEMPT (R375): A higher-priority waiting channel pre-empts the lowest-priority running one at a beat. -/
def execDmaPreempt (m : Moment) (s : State) : Host.Outcome State Fault Refusal :=
  .next (dmaPreempt (s.clock m))

/-- DMA_YIELD (R374): A channel that has moved 64 KiB yields its unit to an equal-priority waiter. -/
def execDmaYield (m : Moment) (s : State) : Host.Outcome State Fault Refusal :=
  .next (dmaYield (s.clock m))

/-- DMA_HOST_COMPLETION (R386): A host read completion arrives and is staged, or halts the channel on error. -/
def execDmaHostCompletion (m : Moment) (c : Fin 32) (r : HostReply) (s : State) :
    Host.Outcome State Fault Refusal :=
  .next (dmaHostCompletion c.val r.address r.completion (s.clock m))

/-- DMA_MEM_TIMEOUT (R386): An HBM or on-chip request unanswered for 100 µs halts the channel. -/
def execDmaMemTimeout (m : Moment) (c : Fin 32) (s : State) : Host.Outcome State Fault Refusal :=
  .next (dmaMemTimeout c.val (s.clock m))

/-- DMA_HOST_TIMEOUT (R386): A host completion missing 50 ms after its request halts the channel. -/
def execDmaHostTimeout (m : Moment) (c : Fin 32) (s : State) : Host.Outcome State Fault Refusal :=
  .next (dmaHostTimeout c.val (s.clock m))

/-- DMA_TRANSFER_END (R385): The last write completes, DMA_DONE is posted and the channel goes IDLE. -/
def execDmaTransferEnd (m : Moment) (c : Fin 32) (s : State) : Host.Outcome State Fault Refusal :=
  .next (dmaTransferEnd c.val (s.clock m))

/-- CAL_DRIFT_DUE (R431): die_max drifts 10 °C from a target's calibration for 4 samples and it becomes due. -/
def execCalDriftDue (m : Moment) (s : State) : Host.Outcome State Fault Refusal :=
  .next (calDriftDue (s.clock m))

/-- CAL_RUN_START (R431): A due calibration run starts at the first sample meeting its precondition. -/
def execCalRunStart (m : Moment) (s : State) : Host.Outcome State Fault Refusal :=
  .next (calRunStart (s.clock m))

/-- CAL_RUN_DONE (R433): A calibration run ends, checks and applies coefficients and posts CAL_DONE. -/
def execCalRunDone (m : Moment) (coeffs : List (Nat × Coeff)) (s : State) : Host.Outcome State Fault Refusal :=
  .next (calRunDone coeffs (s.clock m))

/-- ADC_SCAN (R430): Every 1,024 AON ticks the monitor ADC scans its 16 channels. -/
def execAdcScan (m : Moment) (raws : List Int) (s : State) : Host.Outcome State Fault Refusal :=
  .next (adcScan raws (s.clock m))

/-- OTP_RECHECK_DUE (R452): die_max changes 20 °C for 4 samples and a margin recheck runs. -/
def execOtpRecheckDue (m : Moment) (margins : Table (Word × Word)) (s : State) : Host.Outcome State Fault Refusal :=
  .next (otpRecheckDue margins (s.clock m))

/-- BIST_SLICE_START (R470): At a slice interval the resting unit of a pool starts its next slice. -/
def execBistSliceStart (m : Moment) (pool : Fin 5) (s : State) : Host.Outcome State Fault Refusal :=
  .next (bistSliceStart pool.val (s.clock m))

/-- BIST_SLICE_END (R470): A slice ends; the last slice judges the test and rotates the pool or repeats it. -/
def execBistSliceEnd (m : Moment) (pool : Fin 5) (misr : BitVec 64) (s : State) : Host.Outcome State Fault Refusal :=
  .next (bistSliceEnd pool.val misr (s.clock m))

/-- BIST_REPEAT_DONE (R471): The repeat of a failed periodic test ends as transient or retires the unit. -/
def execBistRepeatDone (m : Moment) (pool : Fin 5) (misr : BitVec 64) (s : State) : Host.Outcome State Fault Refusal :=
  .next (bistRepeatDone pool.val misr (s.clock m))

/-- BIST_ON_DEMAND_DONE (R473): A test on demand ends and posts BIST_DONE and COMMAND_DONE. -/
def execBistOnDemandDone (m : Moment) (expected : Bool) (misr : BitVec 64) (s : State) : Host.Outcome State Fault Refusal :=
  .next (bistOnDemandDone expected misr (s.clock m))

/-- RSTN_RELEASE (R405): Release of RSTN after an assertion in FAULT begins phase U1 of the Upsett sequence. -/
def execRstnRelease (m : Moment) (s : State) : Host.Outcome State Fault Refusal :=
  .next (rstnRelease (s.clock m))

/-- FIRE_TIME (R170): A line, spit or tickle reaches its fire time: the DAC starts its samples at tick s or
blocks them within amp_on_delay, the line stops being outstanding, the line digest closes and an ejecting fire
clears DRY_RISK. -/
def execFireTime (m : Moment) (b : Fin 16) (s : State) : Host.Outcome State Fault Refusal :=
  .next (fireTime b.val (s.clock m))

/-- FIRE_END (R199): A fire ends, so an AMP_EN whose conditions lapsed falls, and on entry to FAULT HVEN falls
once the last sent fire has ended. -/
def execFireEnd (m : Moment) (b : Fin 16) (s : State) : Host.Outcome State Fault Refusal :=
  .next (fireEnd b.val (s.clock m))

/-- SSI_DATA_HIGH (R139): During the wait at a frame start, the SSI data line goes high and the frame's first
falling clock edge and latch follow. -/
def execSsiDataHigh (m : Moment) (n : Fin 8) (s : State) : Host.Outcome State Fault Refusal :=
  .next (ssiDataHigh n.val (s.clock m))

/-- ANSWER_TIME (R93): A CFG.COMMIT, TRIG.ENABLE or PLANE.ENABLE whose outcome has not come within the R73
answer time answers ACCEPTED and counts in PENDING, or is refused with BUSY when PENDING is 8. -/
def execAnswerTime (m : Moment) (n : Fin 16) (s : State) : Host.Outcome State Fault Refusal :=
  .next (answerTime n.val (s.clock m))

/-- FRAME_DISCARDED (R273): An upstream frame with a reserved type, a failing CRC or a wrong length, or an
invalid control block, is discarded and counted, and a readable HLT header with a bad CRC is answered with a
NAK. -/
def execFrameDiscarded (m : Moment) (p : Fin 32) (d : FrameDefect) (s : State) : Host.Outcome State Fault Refusal :=
  .next (frameDiscarded p.val d (s.clock m))

/-- DEBUG_TAP_ACCESS (R355): An access through the IEEE 1149.1 debug port reads or writes on-chip state and ends
with an error response on a region violation, subject to life-cycle limits. -/
def execDebugTapAccess (m : Moment) (address : Nat) (write : Option Word)
    (s : State) : Host.Outcome State Fault Refusal :=
  .next (debugTapAccess address write (s.clock m))

/-- UNSUPPORTED_REQUEST (R47): A BAR0 read that is not a naturally aligned 4-byte or 8-byte access completes
with Unsupported Request and is reported through AER. -/
def execUnsupportedRequest (m : Moment) (offset : Nat) (size : Nat) (s : State) : Host.Outcome State Fault Refusal :=
  .next (unsupportedRequest offset size (s.clock m))

end Sys2Proof.Machine
end

