-- ==== Sys2Proof/Machine/Dispatch.lean ====
section
/-!
DEFINITION. Dispatch: each command of the table goes to its meaning.
-/

namespace Sys2Proof.Machine

open Sys2Proof

/-- What a command does to the block (everything but the queue). -/
def exec (i : Instr) (s : State) : Host.Outcome State Fault Refusal :=
  match i with
  | .printEnWrite m v => Sys2Proof.Machine.execPrintEnWrite m v s
  | .checkDone m => Sys2Proof.Machine.execCheckDone m s
  | .resumeCheckDone m => Sys2Proof.Machine.execResumeCheckDone m s
  | .cfgCheckDone m => Sys2Proof.Machine.execCfgCheckDone m s
  | .dpOpen m p ctrl => Sys2Proof.Machine.execDpOpen m p ctrl s
  | .dpFlush m p ctrl => Sys2Proof.Machine.execDpFlush m p ctrl s
  | .dpClose m p ctrl => Sys2Proof.Machine.execDpClose m p ctrl s
  | .dpCloseComplete m p => Sys2Proof.Machine.execDpCloseComplete m p s
  | .dpAbort m p ctrl => Sys2Proof.Machine.execDpAbort m p ctrl s
  | .dpWindowWrite m p bytes poisoned => Sys2Proof.Machine.execDpWindowWrite m p bytes poisoned s
  | .dpWindowRead m p count => Sys2Proof.Machine.execDpWindowRead m p count s
  | .dpHbmWriteDone m p count => Sys2Proof.Machine.execDpHbmWriteDone m p count s
  | .dpStallTimeout m p => Sys2Proof.Machine.execDpStallTimeout m p s
  | .tickLoRead m wide => Sys2Proof.Machine.execTickLoRead m wide s
  | .aonLoRead m wide => Sys2Proof.Machine.execAonLoRead m wide s
  | .ringLostRead m => Sys2Proof.Machine.execRingLostRead m s
  | .dpDroppedRead m p => Sys2Proof.Machine.execDpDroppedRead m p s
  | .pairDivergencesRead m => Sys2Proof.Machine.execPairDivergencesRead m s
  | .ringEnableWrite m v => Sys2Proof.Machine.execRingEnableWrite m v s
  | .ringConsWrite m v => Sys2Proof.Machine.execRingConsWrite m v s
  | .intEnableWrite m v => Sys2Proof.Machine.execIntEnableWrite m v s
  | .registerWrite m offset size v => Sys2Proof.Machine.execRegisterWrite m offset size v s
  | .intHoldoffExpiry m => Sys2Proof.Machine.execIntHoldoffExpiry m s
  | .sysNop m rq => Sys2Proof.Machine.execSysNop m rq s
  | .sysInfo m rq => Sys2Proof.Machine.execSysInfo m rq s
  | .sysState m rq => Sys2Proof.Machine.execSysState m rq s
  | .sysPause m rq => Sys2Proof.Machine.execSysPause m rq s
  | .sysResume m rq => Sys2Proof.Machine.execSysResume m rq s
  | .sysReset m rq => Sys2Proof.Machine.execSysReset m rq s
  | .resetEntry m => Sys2Proof.Machine.execResetEntry m s
  | .sysDoneList m rq => Sys2Proof.Machine.execSysDoneList m rq s
  | .cfgCommit m rq => Sys2Proof.Machine.execCfgCommit m rq s
  | .commitAccept m => Sys2Proof.Machine.execCommitAccept m s
  | .cfgDiscard m rq => Sys2Proof.Machine.execCfgDiscard m rq s
  | .cfgStaged m rq => Sys2Proof.Machine.execCfgStaged m rq s
  | .cfgCheck m rq => Sys2Proof.Machine.execCfgCheck m rq s
  | .cfgOwner m rq => Sys2Proof.Machine.execCfgOwner m rq s
  | .geomHeadSet m rq => Sys2Proof.Machine.execGeomHeadSet m rq s
  | .geomRowSet m rq => Sys2Proof.Machine.execGeomRowSet m rq s
  | .geomBarSet m rq => Sys2Proof.Machine.execGeomBarSet m rq s
  | .geomNmapWrite m rq => Sys2Proof.Machine.execGeomNmapWrite m rq s
  | .geomNmapLoad m rq => Sys2Proof.Machine.execGeomNmapLoad m rq s
  | .geomNmapRead m rq => Sys2Proof.Machine.execGeomNmapRead m rq s
  | .geomStitchSet m rq => Sys2Proof.Machine.execGeomStitchSet m rq s
  | .geomMaskLoad m rq => Sys2Proof.Machine.execGeomMaskLoad m rq s
  | .geomSwath m rq => Sys2Proof.Machine.execGeomSwath m rq s
  | .geomGet m rq => Sys2Proof.Machine.execGeomGet m rq s
  | .geomCoverage m rq => Sys2Proof.Machine.execGeomCoverage m rq s
  | .coverageDone m => Sys2Proof.Machine.execCoverageDone m s
  | .axisConfig m rq => Sys2Proof.Machine.execAxisConfig m rq s
  | .axisEnable m rq => Sys2Proof.Machine.execAxisEnable m rq s
  | .axisRead m rq => Sys2Proof.Machine.execAxisRead m rq s
  | .axisPreset m rq => Sys2Proof.Machine.execAxisPreset m rq s
  | .axisClear m rq => Sys2Proof.Machine.execAxisClear m rq s
  | .axisEchoSet m rq => Sys2Proof.Machine.execAxisEchoSet m rq s
  | .axisWakeSet m rq => Sys2Proof.Machine.execAxisWakeSet m rq s
  | .axisBarPosition m rq => Sys2Proof.Machine.execAxisBarPosition m rq s
  | .axisGet m rq => Sys2Proof.Machine.execAxisGet m rq s
  | .trigConfig m rq => Sys2Proof.Machine.execTrigConfig m rq s
  | .trigEnable m rq => Sys2Proof.Machine.execTrigEnable m rq s
  | .trigRunWrite m rq => Sys2Proof.Machine.execTrigRunWrite m rq s
  | .trigRunStart m rq => Sys2Proof.Machine.execTrigRunStart m rq s
  | .trigStatus m rq => Sys2Proof.Machine.execTrigStatus m rq s
  | .trigSpit m rq => Sys2Proof.Machine.execTrigSpit m rq s
  | .spitBurstDone m g => Sys2Proof.Machine.execSpitBurstDone m g s
  | .trigSpitResume m rq => Sys2Proof.Machine.execTrigSpitResume m rq s
  | .trigTrigoutSet m rq => Sys2Proof.Machine.execTrigTrigoutSet m rq s
  | .trigGet m rq => Sys2Proof.Machine.execTrigGet m rq s
  | .trigClear m rq => Sys2Proof.Machine.execTrigClear m rq s
  | .waveWaveSet m rq => Sys2Proof.Machine.execWaveWaveSet m rq s
  | .waveProfileSet m rq => Sys2Proof.Machine.execWaveProfileSet m rq s
  | .waveBarSet m rq => Sys2Proof.Machine.execWaveBarSet m rq s
  | .waveChannelSet m rq => Sys2Proof.Machine.execWaveChannelSet m rq s
  | .waveDacSet m rq => Sys2Proof.Machine.execWaveDacSet m rq s
  | .waveCurveSet m rq => Sys2Proof.Machine.execWaveCurveSet m rq s
  | .waveGet m rq => Sys2Proof.Machine.execWaveGet m rq s
  | .waveStatus m rq => Sys2Proof.Machine.execWaveStatus m rq s
  | .waveClear m rq => Sys2Proof.Machine.execWaveClear m rq s
  | .planeDefine m rq => Sys2Proof.Machine.execPlaneDefine m rq s
  | .planeEnable m rq => Sys2Proof.Machine.execPlaneEnable m rq s
  | .planeRingSet m rq => Sys2Proof.Machine.execPlaneRingSet m rq s
  | .planeIndexWrite m rq => Sys2Proof.Machine.execPlaneIndexWrite m rq s
  | .planeIndexRead m rq => Sys2Proof.Machine.execPlaneIndexRead m rq s
  | .planeStatus m rq => Sys2Proof.Machine.execPlaneStatus m rq s
  | .planeRetry m rq => Sys2Proof.Machine.execPlaneRetry m rq s
  | .planeGet m rq => Sys2Proof.Machine.execPlaneGet m rq s
  | .planeClear m rq => Sys2Proof.Machine.execPlaneClear m rq s
  | .plaitSessionOpen m rq => Sys2Proof.Machine.execPlaitSessionOpen m rq s
  | .plaitSessionEnd m rq => Sys2Proof.Machine.execPlaitSessionEnd m rq s
  | .plaitSessionStatus m rq => Sys2Proof.Machine.execPlaitSessionStatus m rq s
  | .plaitVerify m rq => Sys2Proof.Machine.execPlaitVerify m rq s
  | .verifyDone m => Sys2Proof.Machine.execVerifyDone m s
  | .plaitVerifyResult m rq => Sys2Proof.Machine.execPlaitVerifyResult m rq s
  | .plaitDecode m rq => Sys2Proof.Machine.execPlaitDecode m rq s
  | .decodeDone m => Sys2Proof.Machine.execDecodeDone m s
  | .plaitStatus m rq => Sys2Proof.Machine.execPlaitStatus m rq s
  | .plaitClear m rq => Sys2Proof.Machine.execPlaitClear m rq s
  | .canePortSet m rq => Sys2Proof.Machine.execCanePortSet m rq s
  | .canePortStatus m rq => Sys2Proof.Machine.execCanePortStatus m rq s
  | .caneModuleInfo m rq => Sys2Proof.Machine.execCaneModuleInfo m rq s
  | .caneRetrain m rq => Sys2Proof.Machine.execCaneRetrain m rq s
  | .caneClear m rq => Sys2Proof.Machine.execCaneClear m rq s
  | .caneGet m rq => Sys2Proof.Machine.execCaneGet m rq s
  | .healthPolicySet m rq => Sys2Proof.Machine.execHealthPolicySet m rq s
  | .healthRefSet m rq => Sys2Proof.Machine.execHealthRefSet m rq s
  | .healthSubstSet m rq => Sys2Proof.Machine.execHealthSubstSet m rq s
  | .healthSubstClear m rq => Sys2Proof.Machine.execHealthSubstClear m rq s
  | .healthReportOut m rq => Sys2Proof.Machine.execHealthReportOut m rq s
  | .healthReleaseOut m rq => Sys2Proof.Machine.execHealthReleaseOut m rq s
  | .healthTempSet m rq => Sys2Proof.Machine.execHealthTempSet m rq s
  | .healthNozzleRead m rq => Sys2Proof.Machine.execHealthNozzleRead m rq s
  | .healthSubstRead m rq => Sys2Proof.Machine.execHealthSubstRead m rq s
  | .healthStatus m rq => Sys2Proof.Machine.execHealthStatus m rq s
  | .healthGet m rq => Sys2Proof.Machine.execHealthGet m rq s
  | .healthClear m rq => Sys2Proof.Machine.execHealthClear m rq s
  | .pairConfig m rq => Sys2Proof.Machine.execPairConfig m rq s
  | .pairStatus m rq => Sys2Proof.Machine.execPairStatus m rq s
  | .pairPromote m rq => Sys2Proof.Machine.execPairPromote m rq s
  | .pairResync m rq => Sys2Proof.Machine.execPairResync m rq s
  | .pairUnpair m rq => Sys2Proof.Machine.execPairUnpair m rq s
  | .pairGet m rq => Sys2Proof.Machine.execPairGet m rq s
  | .pairRejoin m rq => Sys2Proof.Machine.execPairRejoin m rq s
  | .memStatus m rq => Sys2Proof.Machine.execMemStatus m rq s
  | .memRegions m rq => Sys2Proof.Machine.execMemRegions m rq s
  | .memStakeStatus m rq => Sys2Proof.Machine.execMemStakeStatus m rq s
  | .memStakeHandover m rq => Sys2Proof.Machine.execMemStakeHandover m rq s
  | .memBankRetire m rq => Sys2Proof.Machine.execMemBankRetire m rq s
  | .weaveReformDone m => Sys2Proof.Machine.execWeaveReformDone m s
  | .memScrubSet m rq => Sys2Proof.Machine.execMemScrubSet m rq s
  | .memErrors m rq => Sys2Proof.Machine.execMemErrors m rq s
  | .memHbmRows m rq => Sys2Proof.Machine.execMemHbmRows m rq s
  | .memHbmRepair m rq => Sys2Proof.Machine.execMemHbmRepair m rq s
  | .memClear m rq => Sys2Proof.Machine.execMemClear m rq s
  | .memGet m rq => Sys2Proof.Machine.execMemGet m rq s
  | .dmaOpen m rq => Sys2Proof.Machine.execDmaOpen m rq s
  | .dmaClose m rq => Sys2Proof.Machine.execDmaClose m rq s
  | .dmaStart m rq => Sys2Proof.Machine.execDmaStart m rq s
  | .dmaStatus m rq => Sys2Proof.Machine.execDmaStatus m rq s
  | .dmaResume m rq => Sys2Proof.Machine.execDmaResume m rq s
  | .dmaSkip m rq => Sys2Proof.Machine.execDmaSkip m rq s
  | .dmaAbort m rq => Sys2Proof.Machine.execDmaAbort m rq s
  | .dmaClear m rq => Sys2Proof.Machine.execDmaClear m rq s
  | .powerStatus m rq hvok => Sys2Proof.Machine.execPowerStatus m rq hvok s
  | .powerSetState m rq => Sys2Proof.Machine.execPowerSetState m rq s
  | .powerPolicySet m rq => Sys2Proof.Machine.execPowerPolicySet m rq s
  | .powerHvSet m rq => Sys2Proof.Machine.execPowerHvSet m rq s
  | .powerRailRead m rq bus => Sys2Proof.Machine.execPowerRailRead m rq bus s
  | .powerImageWrite m rq => Sys2Proof.Machine.execPowerImageWrite m rq s
  | .imageWriteDone m ok => Sys2Proof.Machine.execImageWriteDone m ok s
  | .powerGet m rq => Sys2Proof.Machine.execPowerGet m rq s
  | .powerThermRead m rq => Sys2Proof.Machine.execPowerThermRead m rq s
  | .powerThermSet m rq => Sys2Proof.Machine.execPowerThermSet m rq s
  | .powerThermGet m rq => Sys2Proof.Machine.execPowerThermGet m rq s
  | .powerThermClear m rq => Sys2Proof.Machine.execPowerThermClear m rq s
  | .calStatus m rq => Sys2Proof.Machine.execCalStatus m rq s
  | .calRun m rq => Sys2Proof.Machine.execCalRun m rq s
  | .calStore m rq => Sys2Proof.Machine.execCalStore m rq s
  | .calStored m ok => Sys2Proof.Machine.execCalStored m ok s
  | .calAdcRead m rq => Sys2Proof.Machine.execCalAdcRead m rq s
  | .calCoeffRead m rq => Sys2Proof.Machine.execCalCoeffRead m rq s
  | .otpStatus m rq => Sys2Proof.Machine.execOtpStatus m rq s
  | .otpRead m rq => Sys2Proof.Machine.execOtpRead m rq s
  | .otpProgram m rq => Sys2Proof.Machine.execOtpProgram m rq s
  | .otpRepairPulse m rq => Sys2Proof.Machine.execOtpRepairPulse m rq s
  | .otpLcChallenge m rq => Sys2Proof.Machine.execOtpLcChallenge m rq s
  | .otpLcAdvance m rq => Sys2Proof.Machine.execOtpLcAdvance m rq s
  | .otpRevokeKey m rq => Sys2Proof.Machine.execOtpRevokeKey m rq s
  | .otpMarginCheck m rq => Sys2Proof.Machine.execOtpMarginCheck m rq s
  | .otpOperationDone m pulses => Sys2Proof.Machine.execOtpOperationDone m pulses s
  | .bistStatus m rq => Sys2Proof.Machine.execBistStatus m rq s
  | .bistRun m rq => Sys2Proof.Machine.execBistRun m rq s
  | .bistStop m rq => Sys2Proof.Machine.execBistStop m rq s
  | .bistResult m rq => Sys2Proof.Machine.execBistResult m rq s
  | .bistConfig m rq => Sys2Proof.Machine.execBistConfig m rq s
  | .bistGet m rq => Sys2Proof.Machine.execBistGet m rq s
  | .logStatus m rq => Sys2Proof.Machine.execLogStatus m rq s
  | .logRead m rq => Sys2Proof.Machine.execLogRead m rq s
  | .logAck m rq => Sys2Proof.Machine.execLogAck m rq s
  | .logConfig m rq => Sys2Proof.Machine.execLogConfig m rq s
  | .logEpochSet m rq => Sys2Proof.Machine.execLogEpochSet m rq s
  | .logGet m rq => Sys2Proof.Machine.execLogGet m rq s
  | .porRelease m vddAonGood => Sys2Proof.Machine.execPorRelease m vddAonGood s
  | .porAssert m => Sys2Proof.Machine.execPorAssert m s
  | .rstnAssert m => Sys2Proof.Machine.execRstnAssert m s
  | .wakePin m => Sys2Proof.Machine.execWakePin m s
  | .upsettPhaseDone m info => Sys2Proof.Machine.execUpsettPhaseDone m info s
  | .upsettPhaseTimeout m edges => Sys2Proof.Machine.execUpsettPhaseTimeout m edges s
  | .railRetry m => Sys2Proof.Machine.execRailRetry m s
  | .refDetectDone m edges => Sys2Proof.Machine.execRefDetectDone m edges s
  | .railStep m => Sys2Proof.Machine.execRailStep m s
  | .pgFall m => Sys2Proof.Machine.execPgFall m s
  | .pgTimeout m => Sys2Proof.Machine.execPgTimeout m s
  | .railLost m k => Sys2Proof.Machine.execRailLost m k s
  | .refLost m => Sys2Proof.Machine.execRefLost m s
  | .pllUnlock m pll => Sys2Proof.Machine.execPllUnlock m pll s
  | .hostLinkLoss m => Sys2Proof.Machine.execHostLinkLoss m s
  | .pcieLinkUp m => Sys2Proof.Machine.execPcieLinkUp m s
  | .aonTrim m count => Sys2Proof.Machine.execAonTrim m count s
  | .pmbusAlert m rail status => Sys2Proof.Machine.execPmbusAlert m rail status s
  | .dozeTimer m => Sys2Proof.Machine.execDozeTimer m s
  | .sleepTimer m => Sys2Proof.Machine.execSleepTimer m s
  | .powerEntry m => Sys2Proof.Machine.execPowerEntry m s
  | .hvDischarged m k => Sys2Proof.Machine.execHvDischarged m k s
  | .pcieWake m => Sys2Proof.Machine.execPcieWake m s
  | .aonWakeTimer m => Sys2Proof.Machine.execAonWakeTimer m s
  | .wakeComplete m => Sys2Proof.Machine.execWakeComplete m s
  | .hvokTimeout m k => Sys2Proof.Machine.execHvokTimeout m k s
  | .hvLost m k => Sys2Proof.Machine.execHvLost m k s
  | .hvDischargeTimeout m k => Sys2Proof.Machine.execHvDischargeTimeout m k s
  | .vddioLost m => Sys2Proof.Machine.execVddioLost m s
  | .thermalSample m r => Sys2Proof.Machine.execThermalSample m r s
  | .sensorValidityChange m info => Sys2Proof.Machine.execSensorValidityChange m info s
  | .thermGradient m => Sys2Proof.Machine.execThermGradient m s
  | .thermLevel m domain => Sys2Proof.Machine.execThermLevel m domain s
  | .hbmSensorLost m => Sys2Proof.Machine.execHbmSensorLost m s
  | .keeperTrip m => Sys2Proof.Machine.execKeeperTrip m s
  | .safeRestart m => Sys2Proof.Machine.execSafeRestart m s
  | .quadratureEdge m n rawA rawB => Sys2Proof.Machine.execQuadratureEdge m n rawA rawB s
  | .indexEvent m n rawZ => Sys2Proof.Machine.execIndexEvent m n rawZ s
  | .ssiFrameStart m n dataHigh => Sys2Proof.Machine.execSsiFrameStart m n dataHigh s
  | .ssiFrameEnd m n bits endLow => Sys2Proof.Machine.execSsiFrameEnd m n bits endLow s
  | .speedWindowEnd m n => Sys2Proof.Machine.execSpeedWindowEnd m n s
  | .eventHoldoffExpiry m key => Sys2Proof.Machine.execEventHoldoffExpiry m key s
  | .echoStep m k => Sys2Proof.Machine.execEchoStep m k s
  | .motionWakeTransition m n => Sys2Proof.Machine.execMotionWakeTransition m n s
  | .wakeWindowEnd m => Sys2Proof.Machine.execWakeWindowEnd m s
  | .periodicEvaluation m => Sys2Proof.Machine.execPeriodicEvaluation m s
  | .tickleEmit m b => Sys2Proof.Machine.execTickleEmit m b s
  | .dryRisk m b => Sys2Proof.Machine.execDryRisk m b s
  | .trigoutPulse m k => Sys2Proof.Machine.execTrigoutPulse m k s
  | .linePrepare m b => Sys2Proof.Machine.execLinePrepare m b s
  | .nozSend m b p => Sys2Proof.Machine.execNozSend m b p s
  | .decompSchedule m => Sys2Proof.Machine.execDecompSchedule m s
  | .indexReread m b => Sys2Proof.Machine.execIndexReread m b s
  | .blockDecodeDone m u => Sys2Proof.Machine.execBlockDecodeDone m u s
  | .decompResume m b => Sys2Proof.Machine.execDecompResume m b s
  | .peerBlockResponse m p block bytes => Sys2Proof.Machine.execPeerBlockResponse m p block bytes s
  | .peerRequestTimeout m p => Sys2Proof.Machine.execPeerRequestTimeout m p s
  | .peerBlockRequest m p block => Sys2Proof.Machine.execPeerBlockRequest m p block s
  | .sessionBlockEmit m k => Sys2Proof.Machine.execSessionBlockEmit m k s
  | .rxLocked m p => Sys2Proof.Machine.execRxLocked m p s
  | .blockLockAcquired m p inverted => Sys2Proof.Machine.execBlockLockAcquired m p inverted s
  | .blockLockLoss m p => Sys2Proof.Machine.execBlockLockLoss m p s
  | .rimReceived m p fault blockLock spaced => Sys2Proof.Machine.execRimReceived m p fault blockLock spaced s
  | .rimMissing m p => Sys2Proof.Machine.execRimMissing m p s
  | .trainTimeout m p => Sys2Proof.Machine.execTrainTimeout m p s
  | .trainRestart m p => Sys2Proof.Machine.execTrainRestart m p s
  | .stsReceived m p sts => Sys2Proof.Machine.execStsReceived m p sts s
  | .hltReceived m p seq recs => Sys2Proof.Machine.execHltReceived m p seq recs s
  | .ackReceived m p seq tRx tTx t4 => Sys2Proof.Machine.execAckReceived m p seq tRx tTx t4 s
  | .nakReceived m p seq code => Sys2Proof.Machine.execNakReceived m p seq code s
  | .ackTimeout m p seq => Sys2Proof.Machine.execAckTimeout m p seq s
  | .lineDeadline m p b line => Sys2Proof.Machine.execLineDeadline m p b line s
  | .tsySend m p => Sys2Proof.Machine.execTsySend m p s
  | .bankCatchup m => Sys2Proof.Machine.execBankCatchup m s
  | .healthAssess m => Sys2Proof.Machine.execHealthAssess m s
  | .healthReqTimeout m nozzle => Sys2Proof.Machine.execHealthReqTimeout m nozzle s
  | .fwAutoSubmit m => Sys2Proof.Machine.execFwAutoSubmit m s
  | .heaterLoop m => Sys2Proof.Machine.execHeaterLoop m s
  | .pairTrainTimeout m => Sys2Proof.Machine.execPairTrainTimeout m s
  | .pairRetrain m => Sys2Proof.Machine.execPairRetrain m s
  | .pairHello m h => Sys2Proof.Machine.execPairHello m h s
  | .hbToggle m => Sys2Proof.Machine.execHbToggle m s
  | .heartbeatTimeout m pinSilent => Sys2Proof.Machine.execHeartbeatTimeout m pinSilent s
  | .faultDeclared m => Sys2Proof.Machine.execFaultDeclared m s
  | .controlMessage m c latency => Sys2Proof.Machine.execControlMessage m c latency s
  | .inputFallback m => Sys2Proof.Machine.execInputFallback m s
  | .stateEventApply m => Sys2Proof.Machine.execStateEventApply m s
  | .ceilingApply m => Sys2Proof.Machine.execCeilingApply m s
  | .tempSnapshotSend m => Sys2Proof.Machine.execTempSnapshotSend m s
  | .commitPrepare m changes => Sys2Proof.Machine.execCommitPrepare m changes s
  | .commitReady m ready => Sys2Proof.Machine.execCommitReady m ready s
  | .commitMirror m id lines => Sys2Proof.Machine.execCommitMirror m id lines s
  | .readyTimeout m => Sys2Proof.Machine.execReadyTimeout m s
  | .digestReceived m b p line digest excluded => Sys2Proof.Machine.execDigestReceived m b p line digest excluded s
  | .digestAbsent m b p line => Sys2Proof.Machine.execDigestAbsent m b p line s
  | .resyncSnapshot m x => Sys2Proof.Machine.execResyncSnapshot m x s
  | .resyncTimeout m => Sys2Proof.Machine.execResyncTimeout m s
  | .timeExchange m t1 tRx tTx t4 => Sys2Proof.Machine.execTimeExchange m t1 tRx tTx t4 s
  | .bulkForward m address bytes => Sys2Proof.Machine.execBulkForward m address bytes s
  | .twinLogEntry m seq e => Sys2Proof.Machine.execTwinLogEntry m seq e s
  | .scrubStep m source found passEnd => Sys2Proof.Machine.execScrubStep m source found passEnd s
  | .poisonRewrite m address => Sys2Proof.Machine.execPoisonRewrite m address s
  | .dmaUnitAssign m => Sys2Proof.Machine.execDmaUnitAssign m s
  | .dmaPreempt m => Sys2Proof.Machine.execDmaPreempt m s
  | .dmaYield m => Sys2Proof.Machine.execDmaYield m s
  | .dmaHostCompletion m c r => Sys2Proof.Machine.execDmaHostCompletion m c r s
  | .dmaMemTimeout m c => Sys2Proof.Machine.execDmaMemTimeout m c s
  | .dmaHostTimeout m c => Sys2Proof.Machine.execDmaHostTimeout m c s
  | .dmaTransferEnd m c => Sys2Proof.Machine.execDmaTransferEnd m c s
  | .calDriftDue m => Sys2Proof.Machine.execCalDriftDue m s
  | .calRunStart m => Sys2Proof.Machine.execCalRunStart m s
  | .calRunDone m coeffs => Sys2Proof.Machine.execCalRunDone m coeffs s
  | .adcScan m raws => Sys2Proof.Machine.execAdcScan m raws s
  | .otpRecheckDue m margins => Sys2Proof.Machine.execOtpRecheckDue m margins s
  | .bistSliceStart m pool => Sys2Proof.Machine.execBistSliceStart m pool s
  | .bistSliceEnd m pool misr => Sys2Proof.Machine.execBistSliceEnd m pool misr s
  | .bistRepeatDone m pool misr => Sys2Proof.Machine.execBistRepeatDone m pool misr s
  | .bistOnDemandDone m expected misr => Sys2Proof.Machine.execBistOnDemandDone m expected misr s
  | .rstnRelease m => Sys2Proof.Machine.execRstnRelease m s
  | .fireTime m b => Sys2Proof.Machine.execFireTime m b s
  | .fireEnd m b => Sys2Proof.Machine.execFireEnd m b s
  | .ssiDataHigh m n => Sys2Proof.Machine.execSsiDataHigh m n s
  | .answerTime m n => Sys2Proof.Machine.execAnswerTime m n s
  | .frameDiscarded m p d => Sys2Proof.Machine.execFrameDiscarded m p d s
  | .debugTapAccess m address write => Sys2Proof.Machine.execDebugTapAccess m address write s
  | .unsupportedRequest m offset size => Sys2Proof.Machine.execUnsupportedRequest m offset size s

end Sys2Proof.Machine
end

