-- ==== Sys2Proof/Safety.lean ====
section
/-!
DEFINITION. The terms in which claims are stated: when a mailbox command is served at once, the state that
its meaning then runs in, what it answers and what it makes of the state, and the fields of a payload.
-/

namespace Sys2Proof.Machine

open Sys2Proof

/-- A mailbox request finds the host link, firmware and its mailbox free, and passes the generic checks of
R78 and R329: it is served at once.  A command that would wake the device from DOZE (R401) is not meant. -/
abbrev Serves (c : Cmd) (size : Nat) (rq : Request) (s : State) : Prop :=
  s.hostReaches = true ∧ s.firmwareRuns = true ∧ s.rung = [] ∧ (s.mbox rq.mbx.val).busy = false
    ∧ rq.length = size ∧ rq.length ≤ 1008 ∧ (c.only15 = true → rq.mbx = 15) ∧ s.sys ∈ c.states ∧ s.otp.lc ∈ c.lc
    ∧ (s.secondary = true → c.staged = false ∧ c.primary = false) ∧ (s.sset rq.mbx.val).poisoned = false
    ∧ (c.wakes = true → s.pwr ≠ .doze)

/-- The state in which the command of a request runs: the request is in its buffer, and firmware has taken
its doorbell (R70–R75). -/
def State.served (c : Cmd) (rq : Request) (s : State) : State := (s.ringWith c.op rq).takeBell rq.mbx.val

/-- The mailbox answers with reason 0x0000 and a payload (R71). -/
def State.answered (rq : Request) (payload : List Byte) (s : State) : State :=
  s.respond rq.mbx.val { tag := rq.tag, payload := payload }

/-- The mailbox answers ACCEPTED, and the command, as `w` names it, counts in PENDING and stands in its mailbox's order
(R73, R74). -/
def State.acceptedFor (w : Waiter) (rq : Request) (s : State) : State :=
  (s.addPending w).respond rq.mbx.val { tag := rq.tag, accepted := true }

/-- The change is the newest of the mailbox's shadow set, and the mailbox answers STAGED (R80). -/
def State.stagedFor (rq : Request) (ch : Change) (s : State) : State :=
  (s.setSset rq.mbx.val { s.sset rq.mbx.val with staged := stageInto (s.sset rq.mbx.val).staged ch }).respond rq.mbx.val
    { tag := rq.tag, staged := true }

/-- The mailbox answers with a refusal (R78). -/
def State.deniedFor (rq : Request) (r : Reason) (cls : Byte) (obj : Nat) (payload : List Byte) (s : State) : State :=
  s.respond rq.mbx.val (denial rq r cls obj payload)

/-- A request stages a change: its set has room for it (R81) and AUTO_COMMIT is 0 (R84). -/
abbrev Stages (rq : Request) (ch : Change) (s : State) : Prop :=
  rq.autoCommit = false ∧ setFits (s.sset rq.mbx.val) ch = true

/-! ## What a command does when it is served at once -/

/-- A payload is `n` bytes long, and each field listed (offset, bytes, value) reads its value (R5). -/
def Laid (p : List Byte) (n : Nat) (l : List (Nat × Nat × Nat)) : Prop :=
  p.length = n ∧ ∀ f ∈ l, fld p f.1 f.2.1 = f.2.2 % 256 ^ f.2.1

/-- A command completes in its response (R73): where `ok` holds of the request and of the state in which it
runs, the next state is `t` with a payload in the mailbox of which `P` holds. -/
def Answers (i : Moment → Request → Instr) (c : Cmd) (size : Request → Nat) (ok : Request → State → Prop)
    (t : Request → State → State) (P : Request → State → List Byte → Prop) : Prop :=
  ∀ m rq s, Serves c (size rq) rq (s.clock m) → ok rq ((s.clock m).served c rq) →
    ∃ p, exec (i m rq) s = .next ((t rq ((s.clock m).served c rq)).answered rq p) ∧ P rq ((s.clock m).served c rq) p

/-- A command that only reports: the next state differs by the exchange alone. -/
def Reads (i : Moment → Request → Instr) (c : Cmd) (size : Request → Nat) (ok : Request → State → Prop)
    (P : Request → State → List Byte → Prop) : Prop := Answers i c size ok (fun _ v => v) P

/-- A command whose response carries no payload: the next state is `t`. -/
def Acts (i : Moment → Request → Instr) (c : Cmd) (size : Request → Nat) (ok : Request → State → Prop)
    (t : Request → State → State) : Prop := Answers i c size ok t (fun _ _ p => p = [])

/-- A command that completes later (R73): the next state is `t`, and the mailbox answers ACCEPTED. -/
def Accepts (i : Moment → Request → Instr) (c : Cmd) (size : Request → Nat) (ok : Request → State → Prop)
    (t : Request → State → State) : Prop :=
  ∀ m rq s, Serves c (size rq) rq (s.clock m) → ((s.clock m).mbox rq.mbx.val).pending < 8 →
    ok rq ((s.clock m).served c rq) →
    exec (i m rq) s = .next ((t rq ((s.clock m).served c rq)).acceptedFor (((s.clock m).served c rq).waiterOf rq c.op) rq)

/-- A staged command (R80): the change joins the mailbox's set, and the mailbox answers STAGED. -/
def StagesAs (i : Moment → Request → Instr) (c : Cmd) (size : Request → Nat) (ok : Request → State → Prop)
    (ch : Request → State → Change) : Prop :=
  ∀ m rq s, Serves c (size rq) rq (s.clock m) → ok rq ((s.clock m).served c rq) →
    Stages rq (ch rq ((s.clock m).served c rq)) (s.clock m) →
    exec (i m rq) s = .next (((s.clock m).served c rq).stagedFor rq (ch rq ((s.clock m).served c rq)))

/-- A command that is refused (R78): nothing changes but the mailbox, which names the reason and the object. -/
def Denies (i : Moment → Request → Instr) (c : Cmd) (size : Request → Nat) (ok : Request → State → Prop)
    (r : Reason) (cls : Byte) (obj : Request → Nat) : Prop :=
  ∀ m rq s, Serves c (size rq) rq (s.clock m) → ok rq ((s.clock m).served c rq) →
    exec (i m rq) s = .next (((s.clock m).served c rq).deniedFor rq r cls (obj rq) [])

/-- A command that is refused with a payload that names the holder of the object (R86, R103). -/
def DeniesWith (i : Moment → Request → Instr) (c : Cmd) (size : Request → Nat) (ok : Request → State → Prop)
    (r : Reason) (cls : Byte) (obj : Request → Nat) (payload : Request → State → List Byte) : Prop :=
  ∀ m rq s, Serves c (size rq) rq (s.clock m) → ok rq ((s.clock m).served c rq) →
    exec (i m rq) s = .next (((s.clock m).served c rq).deniedFor rq r cls (obj rq) (payload rq ((s.clock m).served c rq)))

/-- A command that submits changes for a commit (R83, R93): they are held, in order, behind the commits of
other mailboxes, and taken as soon as nothing stands in their way. -/
def Submits (i : Moment → Request → Instr) (c : Cmd) (size : Request → Nat) (ok : Request → State → Prop)
    (kind : Request → CommitKind) (cs : Request → State → List Change) : Prop :=
  ∀ m rq s, Serves c (size rq) rq (s.clock m) → ok rq ((s.clock m).served c rq) →
    exec (i m rq) s = .next (((s.clock m).served c rq).submitCommit rq.mbx.val (.mbx rq.mbx.val) (kind rq)
      (some (((s.clock m).served c rq).waiterOf rq c.op)) (cs rq ((s.clock m).served c rq)))

/-! ## What the other commands do -/

/-- An event or an access of the host: where `ok` holds of the state at its moment, the next state is `t`. -/
def Happens (i : Moment → Instr) (ok : State → Prop) (t : State → State) : Prop :=
  ∀ m s, ok (s.clock m) → exec (i m) s = .next (t (s.clock m))

/-! ## What holds of every command -/

/-- The three addressed memories are in their canonical form. -/
abbrev CanonicalMemories (s : State) : Prop :=
  Memory.wf s.mem.hbm = true ∧ Memory.wf s.mem.onchip = true ∧ Memory.wf s.flash.bytes = true

/-- A row of the table whose commands arrive through a mailbox. -/
abbrev MailboxRow (i : Moment → Request → Instr) (c : Cmd) (size : Request → Nat)
    (body : Request → State → Verdict) : Prop :=
  ∀ m rq s, exec (i m rq) s = .next (serve c (size rq) body m rq s)

/-- A request reaches firmware at once: the link is up, firmware runs, no doorbell waits, and the mailbox is
idle.  Its length fits the header's field (R70). -/
abbrev Arrives (rq : Request) (s : State) : Prop :=
  s.hostReaches = true ∧ s.firmwareRuns = true ∧ s.rung = [] ∧ (s.mbox rq.mbx.val).busy = false
    ∧ rq.length < 65536

/-- The reason with which firmware refuses a request before it looks at its fields: the first of orders 2–5
of R78, and R329, that applies. -/
def barredFor (c : Cmd) (size : Nat) (rq : Request) (s : State) : Option Reason :=
  if rq.length ≠ size ∨ 1008 < rq.length then some Rc.badLength
  else if c.only15 = true ∧ rq.mbx ≠ 15 then some Rc.mailboxRestricted
  else if s.sys ∉ c.states then some Rc.wrongState
  else if s.otp.lc ∉ c.lc then some Rc.notPermittedInLifecycle
  else if s.secondary = true ∧ (c.staged = true ∨ c.primary = true) then some Rc.roleSecondary
  else none

end Sys2Proof.Machine
end

