-- ==== Sys2Proof/Certificates/Slice0/Obligations.lean ====
section
/-!
DEFINITION. The statements for the provers: what holds of every command and of every step, and then, family
by family, what each row of the opcode table does.
-/

open Sys2Proof Sys2Proof.Machine

/-- For every command c and state s, step of s with c at the front of its queue is exec of c on s with the
queue's rest. (R92.) -/
def Obligations.StepRunsTheFrontCommand : Prop :=
  ∀ (c : Instr) (s : State), step { s with pending := c :: s.pending } = exec c s

/-- For every state s whose queue is empty, step s answers next s. The manual gives no such step: this is a
design choice of the model, log entry 2. (R33.) -/
def Obligations.AnEmptyQueueIdles : Prop := ∀ s : State, s.pending = [] → step s = .next s

/-- For every command c and state s, exec c s answers a next state; and so does step s. A refusal of the
manual (R78) is a response of a mailbox. That no row stops is the model's reading, log entry 5. (R73,
R78.) -/
def Obligations.NoCommandStops : Prop :=
  (∀ (c : Instr) (s : State), ∃ t, exec c s = .next t) ∧ ∀ s : State, ∃ t, step s = .next t

/-- For every command c and states s and t with exec c s = next t, the queue of t is that of s; and a step
with c at the front of the queue leaves exactly the queue's rest. The queue is the model's own field.
(R75.) -/
def Obligations.CommandsLeaveTheQueue : Prop :=
  (∀ (c : Instr) (s t : State), exec c s = .next t → t.pending = s.pending)
  ∧ ∀ (c : Instr) (l : List Instr) (s t : State), s.pending = c :: l → step s = .next t → t.pending = l

/-- For every state s in which HBM, on-chip memory and boot flash are in canonical form (addresses strictly
rising, no entry equal to what an unlisted address reads as), if step s answers next t, then they are in
canonical form in t. The form is the model's own representation; what an unlisted byte reads as is log
entries 24 and 25. (R351, R353, R408.) -/
def Obligations.StepsKeepTheMemoriesCanonical : Prop :=
  ∀ s t : State, CanonicalMemories s → step s = .next t → CanonicalMemories t

/-- In State.reset the three memories are in canonical form and no command waits (log entries 24 and 25 say
what they read as). (R353.) -/
def Obligations.ResetIsCanonical : Prop := CanonicalMemories State.reset ∧ State.reset.pending = []

/-- Reading the registers in State.reset gives the values of the Reset columns: DEV_ID, VERSION and
HST_STATUS, the fault register, FW version, link and print-enable state, the interrupt, ring and pairing
registers, every data-port register and every mailbox register. HST_STATUS of the first start, the slot
and pairing strap are those of State.reset (log entries 13, 16 and 18). (R48, R50, R56.) -/
def Obligations.ResetRegisters : Prop :=
  State.reset.readReg 0x00 = 0x00012096 ∧ State.reset.readReg 0x04 = 0x000001B0
  ∧ State.reset.readReg 0x10 = 0x00000712 ∧ State.reset.readReg 0x14 = 0x000F0000
  ∧ State.reset.readReg 0x18 = 0x00008000 ∧ State.reset.readReg 0x30 = 0 ∧ State.reset.readReg 0x40 = 0
  ∧ State.reset.readReg 0x44 = 0 ∧ State.reset.readReg 0x48 = 0 ∧ State.reset.readReg 0x108 = 0
  ∧ State.reset.readReg 0x10C = 0x1000 ∧ State.reset.readReg 0x110 = 0 ∧ State.reset.readReg 0x114 = 0
  ∧ State.reset.readReg 0x118 = 0 ∧ State.reset.readReg 0x11C = 0 ∧ State.reset.readReg 0x120 = 0x00010000
  ∧ (∀ k < 128, State.reset.readReg (0x200 + 4 * k) = 0) ∧ (∀ k < 64, State.reset.readReg (0x1000 + 4 * k) = 0)
  ∧ State.reset.readReg 0x404 = 0 ∧ State.reset.readReg 0x408 = 0 ∧ State.reset.readReg 0x40C = 0
  ∧ State.reset.readReg 0x410 = 0 ∧ State.reset.readReg 0x414 = 0 ∧ State.reset.readReg 0x418 = 0
  ∧ State.reset.readReg 0x420 = 0 ∧ State.reset.readReg 0x424 = 0

/-- For every mailbox row and every request that reaches firmware at once (link up, firmware running, no
doorbell waiting, mailbox idle), if one of the conditions bad length, mailbox 15 only, wrong state,
life-cycle and ROLE_SECONDARY applies, the next state is the state that served the request with the
first one in that order as its refusal, and no other change. The place of ROLE_SECONDARY after the life-
cycle is a reading, log entry 38. (R78, R76, R329, R70, R71.) -/
def Obligations.RequestsAreValidatedInOrder : Prop :=
  ∀ i c size body, MailboxRow i c size body → ∀ m rq s r, Arrives rq (s.clock m) →
    barredFor c (size rq) rq (s.clock m) = some r →
    exec (i m rq) s = .next (((s.clock m).served c rq).deniedFor rq r 0 0 [])

/-- For every mailbox row: when the buffer does not hold the request, the link is up and the mailbox is
BUSY, the next state differs in OVERRUN of that mailbox alone and in the record of what was set in this
cycle, by which a write of 1 in the same cycle leaves the bit set (R11, log entry 142); when the link is
down, nothing changes but the clocks. The second part is a reading of the model, log entry 6. (R72, R70,
R11.) -/
def Obligations.RingsThatAreIgnored : Prop :=
  ∀ i c size body, MailboxRow i c size body → ∀ m rq s, bufferHolds ((s.clock m).mbox rq.mbx.val) c.op rq = false →
    ((s.clock m).hostReaches = true → ((s.clock m).mbox rq.mbx.val).busy = true →
      exec (i m rq) s = .next ((s.clock m).setMbox rq.mbx.val { (s.clock m).mbox rq.mbx.val with
        overrun := true
        cycle := ((s.clock m).mbox rq.mbx.val).cycle.note (s.clock m).now (bit28 2) 0 0 }))
    ∧ ((s.clock m).hostReaches = false → exec (i m rq) s = .next (s.clock m))

/-- Serving a request of an idle mailbox writes the request, sets BUSY, clears RESP_READY, records the time
and, in a functional group, the order in which COMMAND_DONE is owed (R74), leaves every other mailbox,
and changes nothing else but the doorbell order and the time of the last activity. Each kind of answer
(final, ACCEPTED, refused, STAGED) clears BUSY, sets RESP_READY and the record of that in this cycle
(R11, log entry 142), holds the response named, and changes nothing else but the interrupts, what left
the block, PENDING (ACCEPTED) and the mailbox's shadow set (STAGED). (R70, R71, R72, R73, R75, R80.) -/
def Obligations.TheExchangeTouchesItsMailboxAlone : Prop :=
  ∀ (rq : Request) (s : State),
    (∀ c, (s.mbox rq.mbx.val).busy = false →
      (s.served c rq).mbox rq.mbx.val = { s.mbox rq.mbx.val with
        request := putBytes (s.mbox rq.mbx.val).request 0 (requestBytes c.op rq)
        busy := true, respReady := false, rungAt := s.aon }
      ∧ (∀ k, k ≠ rq.mbx.val → (s.served c rq).mbox k = s.mbox k)
      ∧ ∃ mb rg run last, s.served c rq = { s with
          mboxes := mb, rung := rg, classRun := run, lastRound := last
          power := { s.power with lastActivity := s.aon } })
    ∧ (∀ p, ∃ x o, s.answered rq p = { s.setMbox rq.mbx.val { s.mbox rq.mbx.val with
          busy := false, respReady := true, respOver := [], response := { tag := rq.tag, payload := p }
          cycle := (s.mbox rq.mbx.val).cycle.note s.now (bit28 1) 0 0 } with
        ints := x, out := o })
    ∧ (∀ w : Waiter, w.mbx = rq.mbx.val → ∃ x o, s.acceptedFor w rq = { s.setMbox rq.mbx.val { s.mbox rq.mbx.val with
          pending := (s.mbox rq.mbx.val).pending + 1, open_ := (s.mbox rq.mbx.val).open_ ++ [w]
          busy := false, respReady := true, respOver := [], response := { tag := rq.tag, accepted := true }
          cycle := (s.mbox rq.mbx.val).cycle.note s.now (bit28 1) 0 0 } with
        ints := x, out := o })
    ∧ (∀ r cls obj p, ∃ x o, s.deniedFor rq r cls obj p = { s.setMbox rq.mbx.val { s.mbox rq.mbx.val with
          busy := false, respReady := true, respOver := [], response := denial rq r cls obj p
          cycle := (s.mbox rq.mbx.val).cycle.note s.now (bit28 1) 0 0 } with
        ints := x, out := o })
    ∧ ∀ ch, ∃ x o, s.stagedFor rq ch = { (s.setSset rq.mbx.val { s.sset rq.mbx.val with
          staged := stageInto (s.sset rq.mbx.val).staged ch }).setMbox rq.mbx.val { s.mbox rq.mbx.val with
          busy := false, respReady := true, respOver := [], response := { tag := rq.tag, staged := true }
          cycle := (s.mbox rq.mbx.val).cycle.note s.now (bit28 1) 0 0 } with
        ints := x, out := o }

/-- Posting an event changes the event ring, the interrupts and what left the block alone; raising an
interrupt source changes the interrupts and what left the block alone; a log entry changes the log
besides (and, with free digests, the counter of free values); COMMAND_DONE changes its mailbox besides.
Every register, memory, unit and configuration object reads as before. (R56, R57, R59, R60, R73, R477.) -/
def Obligations.ReportsTouchTheirRecordsAlone : Prop :=
  ∀ s : State,
    (∀ b, ∃ r x o, s.post b = { s with ring := r, ints := x, out := o })
    ∧ (∀ n, ∃ x o, s.raiseInt n = { s with ints := x, out := o })
    ∧ (∀ q, ∃ l r x o, s.logEntry q = { s with log := l, ring := r, ints := x, out := o })
    ∧ (∀ q, ∃ l r x o, s.logOpen q = { s with log := l, ring := r, ints := x, out := o, fresh := s.fresh + 2 })
    ∧ ∀ w c cls obj, ∃ b r x o, s.commandDone w c cls obj = { s.setMbox w.mbx b with ring := r, ints := x, out := o }

/-- For every state whose HBM is in canonical form, every address and every list of bytes: where the bytes
lie below firmware's part of HBM, reading as many bytes at the address after the write gives the list
(firmware's own bytes read as free values, log entry 145); every byte outside reads as before; and the
write changes nothing but HBM and its poison marks. (R353, R361.) -/
def Obligations.HbmBytesReadBack : Prop :=
  ∀ (s : State) (a : Nat) (bs : List Byte), Memory.wf s.mem.hbm = true →
    (a + bs.length ≤ hbmUserEnd → (s.hbmWrite a bs).hbmRead a bs.length = bs)
    ∧ (∀ b, b < a ∨ a + bs.length ≤ b → memRead (s.hbmWrite a bs).mem.hbm b = memRead s.mem.hbm b)
    ∧ s.hbmWrite a bs = { s with mem := { s.mem with hbm := (s.hbmWrite a bs).mem.hbm, poison := (s.hbmWrite a bs).mem.poison } }

/-- With the link up, for every data port and every DP_CTRL value: where bit 3 (ABORT) is set, CLOSE, FLUSH
and OPEN change nothing and ABORT leaves the port closed; else where bit 2 (CLOSE) is set, the other
three change nothing and CLOSE of an open port sets CLOSING; else where bit 1 (FLUSH) is set, the other
three change nothing and FLUSH of an open port empties the merge buffer; else with bit 0, the other
three change nothing and OPEN of a DIRECT port that nothing forbids opens it. On a closed port, FLUSH,
CLOSE and ABORT change nothing but TARGET, which the same write carries. (R63.) -/
def Obligations.OneDataPortAction : Prop :=
  ∀ (m : Moment) (p : Fin 8) (v : Word) (s : State), (s.clock m).hostReaches = true →
    (v.getLsbD 3 = true →
      exec (.dpClose m p v) s = .next (s.clock m) ∧ exec (.dpFlush m p v) s = .next (s.clock m)
      ∧ exec (.dpOpen m p v) s = .next (s.clock m)
      ∧ ∃ t, exec (.dpAbort m p v) s = .next t ∧ (t.dp p.val).open_ = false)
    ∧ (v.getLsbD 3 = false → v.getLsbD 2 = true →
      exec (.dpAbort m p v) s = .next (s.clock m) ∧ exec (.dpFlush m p v) s = .next (s.clock m)
      ∧ exec (.dpOpen m p v) s = .next (s.clock m)
      ∧ (((s.clock m).dp p.val).open_ = true →
        ∃ t, exec (.dpClose m p v) s = .next t ∧ (t.dp p.val).closing = true))
    ∧ (v.getLsbD 3 = false → v.getLsbD 2 = false → v.getLsbD 1 = true →
      exec (.dpAbort m p v) s = .next (s.clock m) ∧ exec (.dpClose m p v) s = .next (s.clock m)
      ∧ exec (.dpOpen m p v) s = .next (s.clock m)
      ∧ (((s.clock m).dp p.val).open_ = true →
        ∃ t, exec (.dpFlush m p v) s = .next t ∧ (t.dp p.val).merge = []))
    ∧ (v.getLsbD 3 = false → v.getLsbD 2 = false → v.getLsbD 1 = false → v.getLsbD 0 = true →
      exec (.dpAbort m p v) s = .next (s.clock m) ∧ exec (.dpClose m p v) s = .next (s.clock m)
      ∧ exec (.dpFlush m p v) s = .next (s.clock m)
      ∧ (((s.clock m).setTarget p.val v).openRefusal p.val = none →
        (((s.clock m).setTarget p.val v).dp p.val).compress = false →
        ∃ t, exec (.dpOpen m p v) s = .next t ∧ (t.dp p.val).open_ = true))
    ∧ (((s.clock m).dp p.val).open_ = false →
      (v.getLsbD 3 = true → exec (.dpAbort m p v) s = .next ((s.clock m).setTarget p.val v))
      ∧ (v.getLsbD 3 = false → v.getLsbD 2 = true → exec (.dpClose m p v) s = .next ((s.clock m).setTarget p.val v))
      ∧ (v.getLsbD 3 = false → v.getLsbD 2 = false → v.getLsbD 1 = true →
        exec (.dpFlush m p v) s = .next ((s.clock m).setTarget p.val v)))

/-- In every state: the KEY words in use are slot 0's when its region is VALID, else slot 1's when that is
VALID, else none and no key is present; likewise for the OEM slots, where neither VALID means no OEM key
hash and the default rail records. (R445.) -/
def Obligations.SlotZeroTakesPrecedence : Prop :=
  ∀ s : State,
    (s.region8 3 = .valid → s.keyBase = some 0x080)
    ∧ (s.region8 3 ≠ .valid → s.region8 4 = .valid → s.keyBase = some 0x0A8)
    ∧ (s.region8 3 ≠ .valid → s.region8 4 ≠ .valid → s.keyBase = none ∧ s.keysPresent = [])
    ∧ (s.region8 5 = .valid → s.oemBase = some 0x0E0)
    ∧ (s.region8 5 ≠ .valid → s.region8 6 = .valid → s.oemBase = some 0x160)
    ∧ (s.region8 5 ≠ .valid → s.region8 6 ≠ .valid → s.oemBase = none ∧ s.oemKeyHash = none
      ∧ ∀ k, s.railRec k = { addr := 0, pec := false, pgTimeout := 5, vout := 0 })

/-- A masked merge takes column, state, trim and amp_class from the new word where mask bits 0, 1, 2 and 3
are set, and from the old word where they are not. Applying a staged nozzle-map write to a configuration
gives the named nozzle the merge with the value in force in that configuration, and leaves column, trim
and amp_class of every other nozzle; the state field likewise, when no substitution is in force (one
that loses a donor ends by R311). (R108.) -/
def Obligations.MaskedNozzleWrites : Prop :=
  (∀ (mask : BitVec 4) (old new : Word),
    nmapColumn (nmapMerge mask old new) = (if mask.getLsbD 0 = true then nmapColumn new else nmapColumn old)
    ∧ nmapState (nmapMerge mask old new) = (if mask.getLsbD 1 = true then nmapState new else nmapState old)
    ∧ nmapTrim (nmapMerge mask old new) = (if mask.getLsbD 2 = true then nmapTrim new else nmapTrim old)
    ∧ nmapClass (nmapMerge mask old new) = (if mask.getLsbD 3 = true then nmapClass new else nmapClass old))
  ∧ ∀ (cfg : Cfg) (load : Bool) (mask : BitVec 4) (i : Nat) (w : Word) (k : Nat) (e n : Word),
    e = nmapRec (cfg.apply (.nmap load mask [(i, w)])) k →
    n = (if k = i then nmapMerge mask (nmapRec cfg i) w else nmapRec cfg k) →
    nmapColumn e = nmapColumn n ∧ nmapTrim e = nmapTrim n ∧ nmapClass e = nmapClass n
    ∧ (cfg.substs = [] → nmapState e = nmapState n)

/-- Writing an entry counts it, keeps the time of the first, and raises source 0 when the count reaches
COUNT (0 acts as 1); raising source 0 leaves STATUS bit 0 set; clearing bit 0 restarts the count and
forgets the first entry, and clearing other bits does not, but a write of 1 in the very cycle that set
the bit leaves it set and clears nothing (R11, log entry 142); at a holdoff row, source 0 is raised when
STATUS bit 0 reads 0, HOLDOFF is not 0 and that many microseconds (in AON ticks, log entry 30) have
passed since the first entry; with HOLDOFF 0, or with the bit already 1, the row changes nothing. (R58.) -/
def Obligations.VectorZeroCountsEntries : Prop :=
  (∀ s : State, s.countEntry =
    (fun u : State => if max 1 u.ints.count ≤ u.ints.written then u.raiseInt 0 else u)
      { s with ints := { s.ints with written := s.ints.written + 1, firstAt := s.ints.firstAt <|> some s.aon } })
  ∧ (∀ s : State, (s.raiseInt 0).ints.status.getLsbD 0 = true)
  ∧ (∀ (s : State) (v : Word), v.getLsbD 0 = true → (s.ints.cycle.set s.now).getLsbD 0 = false →
      (s.clearInts v).ints.status.getLsbD 0 = false
      ∧ (s.clearInts v).ints.written = 0 ∧ (s.clearInts v).ints.firstAt = none)
  ∧ (∀ (s : State) (v : Word), v.getLsbD 0 = false ∨ (s.ints.cycle.set s.now).getLsbD 0 = true →
      (s.clearInts v).ints.status.getLsbD 0 = s.ints.status.getLsbD 0 ∧ (s.clearInts v).ints.written = s.ints.written ∧ (s.clearInts v).ints.firstAt = s.ints.firstAt)
  ∧ (∀ m s t, (s.clock m).ints.firstAt = some t → (s.clock m).ints.status.getLsbD 0 = false →
      (s.clock m).ints.holdoff ≠ 0 → (s.clock m).ints.holdoff * 1024 ≤ ((s.clock m).aon - t) * 1000 →
      exec (.intHoldoffExpiry m) s = .next ((s.clock m).raiseInt 0))
  ∧ ∀ m s, (s.clock m).ints.holdoff = 0 ∨ (s.clock m).ints.status.getLsbD 0 = true →
      exec (.intHoldoffExpiry m) s = .next (s.clock m)

/-- Setting a system state sets it, and PRINT_EN reads 1 in the armed states alone; entering FAULT from an
operating state leaves FAULT with PRINT_EN 0; entering SAFE from a state other than OFF and SAFE leaves
SAFE, power state OFF-AON, the fault code, phase 0xF, every PG low and the first of the rail enables to
go low lowered, the rest to follow one per AON tick (log entry 118); entering UPSETT leaves power state
RUN, no fault code, the first phase of the restart under way from this moment; OFF leaves power state
OFF-AON and both clocks at 0 (the clock values are the model's, log entries 14 and 112). (R41, R42, R50,
R51, R394, R406.) -/
def Obligations.EnteringEachSystemState : Prop :=
  (∀ new o code obj s, (State.setSysFor new o code obj s).sys = new
    ∧ (State.setSysFor new o code obj s).host.printEn = new.armedState)
  ∧ (∀ (code : Reason) (o : Origin) (s : State), s.sys.operating = true →
      (s.enterFault code o).sys = .fault ∧ (s.enterFault code o).host.printEn = false)
  ∧ (∀ (code : Reason) (s : State), s.sys ≠ .off → s.sys ≠ .safe →
      (s.enterSafe code).sys = .safe ∧ (s.enterSafe code).pwr = .offAon ∧ (s.enterSafe code).host.faultCode = code
      ∧ (s.enterSafe code).host.faultPhase = 0xF ∧ (s.enterSafe code).power.pg = 0
      ∧ ∃ lines, (s.enterSafe code).power.tripRails = some ((s.enterSafe code).power.stateAt, lines)
        ∧ (s.enterSafe code).power.enP = lowerTop lines 1)
  ∧ (∀ (first kind : Nat) (o : Origin) (s : State),
      (s.enterUpsett first kind o).sys = .upsett ∧ (s.enterUpsett first kind o).pwr = .run
      ∧ (s.enterUpsett first kind o).host.faultCode = 0 ∧ (s.enterUpsett first kind o).host.faultPhase = 0xF
      ∧ (s.enterUpsett first kind o).power.phase = some first ∧ (s.enterUpsett first kind o).power.phaseAt = (s.enterUpsett first kind o).aon)
  ∧ ∀ s : State, s.enterOff.sys = .off ∧ s.enterOff.pwr = .offAon ∧ s.enterOff.tick = 0 ∧ s.enterOff.aon = 0

/-- Reports of SYS and CFG: what each report answers. Readings and choices of the model: log 45. (R92.) -/
def Obligations.SystemReadsAnswer : Prop :=
  Reads .sysNop sysNopCmd (fun _ => 0)
    (fun _ _ => True)
    (fun _ _ p => p = [])
  ∧
  Reads .sysInfo sysInfoCmd (fun _ => 0)
    (fun _ _ => True)
    (fun _ v p => Laid p 32 [(0, 2, 0x2096), (2, 1, 0xB0), (3, 1, 0x01), (4, 3, v.host.fw.toNat), (7, 1, b2n v.host.fwSlotB), (8, 1, lcCode v.otp.lc), (9, 1, b2n v.mem.contiguous), (10, 2, v.host.bootCount), (12, 8, v.serial), (20, 1, v.activeCount 0), (21, 1, v.activeCount 1), (22, 1, v.activeCount 2), (23, 1, v.activeCount 3), (24, 1, v.activeCount 4), (25, 3, 0), (28, 4, 2097152)])
  ∧
  Reads .sysState sysStateCmd (fun _ => 0)
    (fun _ _ => True)
    (fun rq v p => Laid p 16 [(0, 1, sysCode v.sys), (1, 1, pwrCode v.pwr), (2, 1, v.host.upsettPhase), (3, 1, v.host.faultPhase), (4, 2, v.host.faultCode.toNat), (6, 2, maskOfBars v.enabledBars), (8, 4, v.commitId.toNat), (12, 2, v.stagedCount rq.mbx.val), (14, 2, ((List.range 16).map (fun n => (v.mbox n).pending)).sum)])
  ∧
  Reads .sysDoneList sysDoneListCmd (fun _ => 0)
    (fun _ _ => True)
    (fun rq v p => p.length = 192 ∧ ∀ k < 16, (match (v.mbox rq.mbx.val).done[k]? with
        | some d => fld p (12 * k) 2 = d.tag.toNat ∧ fld p (12 * k + 2) 2 = d.reason.toNat
            ∧ fld p (12 * k + 4) 1 = d.objClass.toNat ∧ fld p (12 * k + 8) 4 = d.objId.toNat
        | none => fld p (12 * k) 12 = 0))
  ∧
  Reads .cfgStaged cfgStagedCmd (fun _ => 0)
    (fun _ _ => True)
    (fun rq v p => Laid p 12 [(0, 2, (v.sset rq.mbx.val).all.length), (4, 4, stagedBytes (v.sset rq.mbx.val).all), (8, 2, maskOfBars (v.barsOfAll (v.accepted.applyAll (v.sset rq.mbx.val).all) (v.sset rq.mbx.val).all))])
  ∧
  Reads .cfgOwner cfgOwnerCmd (fun _ => 8)
    (fun rq _ => ownedCount (fld rq.payload 0 1) ≠ 0 ∧ fld rq.payload 4 4 < ownedCount (fld rq.payload 0 1))
    (fun rq v p => Laid p 8 [(0, 1, (v.ownerOf (fld rq.payload 0 1) (fld rq.payload 4 4)).1.toNat), (1, 3, 0), (4, 4, (v.ownerOf (fld rq.payload 0 1) (fld rq.payload 4 4)).2)])

/-- Reports of GEOM and AXIS: what each report answers. (R120, R145, R155.) -/
def Obligations.GeometryAndAxisReadsAnswer : Prop :=
  Reads .geomNmapRead geomNmapReadCmd (fun _ => 8)
    (fun rq _ => fld rq.payload 0 4 < 2097152 ∧ 1 ≤ fld rq.payload 4 2 ∧ fld rq.payload 4 2 ≤ 248 ∧ fld rq.payload 0 4 + fld rq.payload 4 2 ≤ 2097152)
    (fun rq v p => p.length = 4 * fld rq.payload 4 2 ∧ ∀ k < fld rq.payload 4 2, fld p (4 * k) 4 = (nmapRec (v.readCfg rq) (fld rq.payload 0 4 + k)).toNat)
  ∧
  Reads .geomGet geomGetCmd (fun _ => 4)
    (fun rq _ => fld rq.payload 0 1 < 6 ∧ (fld rq.payload 0 1 = 1 → fld rq.payload 1 1 < 8) ∧ fld rq.payload 2 2 < (if fld rq.payload 0 1 < 2 then 256 else if fld rq.payload 0 1 = 3 then 512 else 16))
    (fun rq v p => (fld rq.payload 0 1 = 0 → p = headBytes (fld rq.payload 2 2) (headRec (v.readCfg rq) (fld rq.payload 2 2)))
      ∧ (fld rq.payload 0 1 = 1 → p = rowBytes (fld rq.payload 2 2) (fld rq.payload 1 1) (rowRec (v.readCfg rq) (fld rq.payload 2 2) (fld rq.payload 1 1)))
      ∧ (fld rq.payload 0 1 = 2 → p = barBytes (fld rq.payload 2 2) (barRec (v.readCfg rq) (fld rq.payload 2 2)))
      ∧ (fld rq.payload 0 1 = 3 → p = stitchBytes (fld rq.payload 2 2) ((v.readCfg rq).stitches.get {} (fld rq.payload 2 2)))
      ∧ (fld rq.payload 0 1 = 4 → p = swathBytes (fld rq.payload 2 2) ((v.readCfg rq).swaths.get {} (fld rq.payload 2 2)))
      ∧ (fld rq.payload 0 1 = 5 → p = (v.coverage.get coverageReset (fld rq.payload 2 2)).flatMap (le 4)))
  ∧
  Reads .axisRead axisReadCmd (fun _ => 4)
    (fun rq _ => fld rq.payload 0 1 < 8)
    (fun rq v p => Laid p 56 [(0, 4, (v.axis (fld rq.payload 0 1)).counter.toNat), (4, 4, (v.axis (fld rq.payload 0 1)).wraps.toNat), (8, 4, (((v.axis (fld rq.payload 0 1)).speed) % 4294967296).toNat), (12, 1, motionCode (v.axis (fld rq.payload 0 1)).motion), (13, 1, b2n (v.axis (fld rq.payload 0 1)).reverse + 2 * b2n (v.axis (fld rq.payload 0 1)).referenced + 4 * b2n (v.axis (fld rq.payload 0 1)).indexSeen + 8 * b2n (v.axis (fld rq.payload 0 1)).indexMismatch + 16 * b2n (v.axis (fld rq.payload 0 1)).preset.isSome + 32 * b2n (v.axis (fld rq.payload 0 1)).configured), (14, 1, (v.axis (fld rq.payload 0 1)).ssiLastError), (16, 2, if (v.axis (fld rq.payload 0 1)).motion = .faulted then (v.axis (fld rq.payload 0 1)).faultReason.toNat else 0), (20, 4, (v.axis (fld rq.payload 0 1)).lastIndex.toNat), (24, 8, (v.axis (fld rq.payload 0 1)).lastEdge), (32, 4, (v.axis (fld rq.payload 0 1)).illegal.toNat), (36, 4, (v.axis (fld rq.payload 0 1)).mismatches.toNat), (40, 4, (v.axis (fld rq.payload 0 1)).ssiErrors.toNat), (48, 8, if (axisRec v.inForce (fld rq.payload 0 1)).ssi then (v.axis (fld rq.payload 0 1)).ssiRaw.toNat else 0)])
  ∧
  Reads .axisBarPosition axisBarPositionCmd (fun _ => 4)
    (fun rq _ => fld rq.payload 0 1 < 16)
    (fun rq v p => Laid p 12 [(0, 6, (barPosition (barRec v.inForce (fld rq.payload 0 1)) (countedPos (v.axis (barRec v.inForce (fld rq.payload 0 1)).axisA)) (countedPos (v.axis (barRec v.inForce (fld rq.payload 0 1)).axisB))).toNat), (8, 1, motionCode (v.barMotion (fld rq.payload 0 1)))])
  ∧
  Reads .axisGet axisGetCmd (fun _ => 4)
    (fun rq _ => fld rq.payload 0 1 < 3 ∧ fld rq.payload 1 1 < (if fld rq.payload 0 1 = 0 then 8 else if fld rq.payload 0 1 = 1 then 4 else 1))
    (fun rq v p => (fld rq.payload 0 1 = 0 → p = axisBytes (fld rq.payload 1 1) (axisRec (v.readCfg rq) (fld rq.payload 1 1)))
      ∧ (fld rq.payload 0 1 = 1 → p = echoBytes (fld rq.payload 1 1) (echoRec (v.readCfg rq) (fld rq.payload 1 1)))
      ∧ (fld rq.payload 0 1 = 2 → p = wakeBytes (v.readCfg rq).wake))

/-- Reports of TRIG and WAVE: what each report answers. Readings and choices of the model: log 22, 61, 157.
(R182, R208.) -/
def Obligations.TriggerAndWaveReadsAnswer : Prop :=
  Reads .trigStatus trigStatusCmd (fun _ => 4)
    (fun rq _ => fld rq.payload 0 1 < 16)
    (fun rq v p => Laid p 88 [(0, 1, tgCode (v.trig (fld rq.payload 0 1)).state), (1, 1, motionCode (v.barMotion (trigRec v.inForce (fld rq.payload 0 1)).sourceBar)), (2, 1, b2n (v.trig (fld rq.payload 0 1)).stalled + 2 * b2n (v.rbar (v.inForce.sourceBar (fld rq.payload 0 1))).dryRisk + 4 * b2n (v.rbar (v.inForce.sourceBar (fld rq.payload 0 1))).dryHold + 8 * b2n (v.keepAliveActive (fld rq.payload 0 1))), (4, 2, (v.trig (fld rq.payload 0 1)).entry), (8, 4, (v.trig (fld rq.payload 0 1)).remaining), (12, 4, (v.trig (fld rq.payload 0 1)).li.toNat), (16, 6, (v.trig (fld rq.payload 0 1)).cmp.toNat), (24, 8, (v.trig (fld rq.payload 0 1)).lastFire.getD 0), (32, 4, (v.trig (fld rq.payload 0 1)).period), (36, 1, ((v.trig (fld rq.payload 0 1)).lines.filter (fun l => !l.held)).length), (37, 1, ((v.trig (fld rq.payload 0 1)).lines.filter (fun l => l.held)).length), (40, 4, (v.trig (fld rq.payload 0 1)).ticketed.toNat), (44, 4, (v.trig (fld rq.payload 0 1)).overspeed.toNat), (48, 4, (v.trig (fld rq.payload 0 1)).missed.toNat), (52, 4, (v.trig (fld rq.payload 0 1)).late.toNat), (56, 4, (v.trig (fld rq.payload 0 1)).engineLate.toNat), (60, 4, (v.trig (fld rq.payload 0 1)).suppressed.toNat), (64, 4, (v.trig (fld rq.payload 0 1)).dryDropped.toNat), (68, 4, (v.trig (fld rq.payload 0 1)).corrections.toNat), (72, 4, (v.trig (fld rq.payload 0 1)).clamped.toNat), (76, 4, (v.trig (fld rq.payload 0 1)).holdLate.toNat), (80, 4, (v.trig (fld rq.payload 0 1)).indexAdjusted.toNat), (84, 4, (v.trig (fld rq.payload 0 1)).spits.toNat)])
  ∧
  Reads .trigGet trigGetCmd (fun _ => 4)
    (fun rq _ => fld rq.payload 0 1 < 3 ∧ fld rq.payload 2 2 < (if fld rq.payload 0 1 = 0 then 16 else if fld rq.payload 0 1 = 1 then 16384 else 8))
    (fun rq v p => (fld rq.payload 0 1 = 0 → p = trigBytes (fld rq.payload 2 2) (trigRec (v.readCfg rq) (fld rq.payload 2 2)))
      ∧ (fld rq.payload 0 1 = 1 → p = runBytes (runRec (v.readCfg rq) (fld rq.payload 2 2 / 1024) (fld rq.payload 2 2 % 1024)))
      ∧ (fld rq.payload 0 1 = 2 → p = trigoutBytes (fld rq.payload 2 2) (trigoutRec (v.readCfg rq) (fld rq.payload 2 2))))
  ∧
  Reads .waveGet waveGetCmd (fun _ => 4)
    (fun rq _ => fld rq.payload 0 1 < 6 ∧ fld rq.payload 1 1 < (if fld rq.payload 0 1 = 1 then 4 else if fld rq.payload 0 1 = 5 then 2 else 1) ∧ fld rq.payload 2 2 < (if fld rq.payload 0 1 = 0 then 256 else if fld rq.payload 0 1 < 3 then 16 else if fld rq.payload 0 1 = 3 then 128 else if fld rq.payload 0 1 = 4 then 8 else 136))
    (fun rq v p => (fld rq.payload 0 1 = 0 → p = waveBytes (fld rq.payload 2 2) (waveRec (v.readCfg rq) (fld rq.payload 2 2)))
      ∧ (fld rq.payload 0 1 = 1 → p = profileBytes (fld rq.payload 2 2) (fld rq.payload 1 1) (profileRec (v.readCfg rq) (fld rq.payload 2 2) (fld rq.payload 1 1)))
      ∧ (fld rq.payload 0 1 = 2 → p = waveBarBytes (fld rq.payload 2 2) (waveBarRec (v.readCfg rq) (fld rq.payload 2 2)))
      ∧ (fld rq.payload 0 1 = 3 → p = channelBytes (fld rq.payload 2 2) (channelRec (v.readCfg rq) (fld rq.payload 2 2)))
      ∧ (fld rq.payload 0 1 = 4 → p = dacBytes (fld rq.payload 2 2) (dacRec (v.readCfg rq) (fld rq.payload 2 2)))
      ∧ (fld rq.payload 0 1 = 5 → p = curveBytes (fld rq.payload 2 2) (fld rq.payload 1 1) ((v.readCfg rq).curves.get {} (fld rq.payload 2 2 * 2 + fld rq.payload 1 1))))
  ∧
  Reads .waveStatus waveStatusCmd (fun _ => 4)
    (fun rq _ => fld rq.payload 0 1 < 2 ∧ fld rq.payload 2 2 < (if fld rq.payload 0 1 = 0 then 136 else 16))
    (fun rq v p => (fld rq.payload 0 1 = 1 → Laid p 8 [(0, 4, if v.barEnabled (fld rq.payload 2 2) = true then undriven v.inForce (fld rq.payload 2 2) else 0), (4, 4, longestWave (v.inForceFor (fld rq.payload 2 2)) (fld rq.payload 2 2))])
      ∧ (fld rq.payload 0 1 = 0 → Laid p 28 [(0, 1, b2n (chanEnabled v.inForce (fld rq.payload 2 2))), (1, 1, (v.chanOwner (fld rq.payload 2 2)).getD 0xFF), (2, 1, chanClass v.inForce (fld rq.payload 2 2)), (4, 2, (v.chan (fld rq.payload 2 2)).lastFactor), (6, 2, (((v.chan (fld rq.payload 2 2)).lastTemp) % 65536).toNat), (8, 4, (v.chan (fld rq.payload 2 2)).lastDensity), (12, 4, (v.chan (fld rq.payload 2 2)).lastLine.toNat), (16, 4, (v.chan (fld rq.payload 2 2)).fires.toNat), (20, 4, (v.chan (fld rq.payload 2 2)).clipped.toNat), (24, 4, (v.chan (fld rq.payload 2 2)).blocked.toNat)]))

/-- Reports of PLANE and PLAIT: what each report answers. Readings and choices of the model: log 77. (R238,
R263.) -/
def Obligations.RasterReadsAnswer : Prop :=
  Reads .planeIndexRead planeIndexReadCmd (fun _ => 8)
    (fun rq v => fld rq.payload 0 1 < 64 ∧ 1 ≤ fld rq.payload 2 2 ∧ fld rq.payload 2 2 ≤ 63 ∧ ∃ r, Table.find? v.inForce.planes (fld rq.payload 0 1) = some r ∧ fld rq.payload 4 4 + fld rq.payload 2 2 ≤ planeBlocks r)
    (fun rq v p => ∀ r, Table.find? v.inForce.planes (fld rq.payload 0 1) = some r → p = v.hbmRead (r.areaBase + 16 * fld rq.payload 4 4) (16 * fld rq.payload 2 2))
  ∧
  Reads .planeGet planeGetCmd (fun _ => 4)
    (fun rq v => fld rq.payload 0 1 < 2 ∧ fld rq.payload 2 2 < (if fld rq.payload 0 1 = 0 then 64 else 16) ∧ (fld rq.payload 0 1 = 0 → (Table.find? (v.readCfg rq).planes (fld rq.payload 2 2)).isSome = true))
    (fun rq v p => (fld rq.payload 0 1 = 0 → ∀ r, Table.find? (v.readCfg rq).planes (fld rq.payload 2 2) = some r → p = planeBytes (fld rq.payload 2 2) r)
      ∧ (fld rq.payload 0 1 = 1 → p = ringBytes (fld rq.payload 2 2) (ringRec (v.readCfg rq) (fld rq.payload 2 2))))
  ∧
  Reads .plaitSessionStatus plaitSessionStatusCmd (fun _ => 4)
    (fun rq _ => fld rq.payload 0 1 < 16)
    (fun rq v p => Laid p 40 [(0, 1, sessCode (v.session (fld rq.payload 0 1)).state), (1, 1, if (v.session (fld rq.payload 0 1)).state == .closed then 0xFF else (v.session (fld rq.payload 0 1)).plane), (2, 1, (v.session (fld rq.payload 0 1)).port.getD 0xFF), (3, 1, b2n (v.session (fld rq.payload 0 1)).empties + 2 * b2n (v.session (fld rq.payload 0 1)).storedOnly + 4 * b2n (v.session (fld rq.payload 0 1)).excess), (4, 2, (v.session (fld rq.payload 0 1)).failReason.toNat), (8, 4, (v.session (fld rq.payload 0 1)).nextRow), (20, 4, (v.session (fld rq.payload 0 1)).emitted.toNat), (24, 8, (v.session (fld rq.payload 0 1)).rawIn), (32, 8, (v.session (fld rq.payload 0 1)).compOut)] ∧ ∀ r, (v.session (fld rq.payload 0 1)).captured = some r → fld p 12 4 = min 63 ((v.session (fld rq.payload 0 1)).raw.length / sessionLine r) % 256 ^ 4 ∧ fld p 16 4 = (v.session (fld rq.payload 0 1)).raw.length % sessionLine r % 256 ^ 4)
  ∧
  Reads .plaitVerifyResult plaitVerifyResultCmd (fun _ => 0)
    (fun _ _ => True)
    (fun rq v p => Laid p 16 [(0, 4, (v.plait.results.get {} rq.mbx.val).checked), (4, 4, (v.plait.results.get {} rq.mbx.val).bad), (8, 4, (v.plait.results.get {} rq.mbx.val).firstBad.getD 0xFFFFFFFF), (12, 2, (v.plait.results.get {} rq.mbx.val).firstReason.toNat)])
  ∧
  Reads .plaitStatus plaitStatusCmd (fun _ => 0)
    (fun _ _ => True)
    (fun _ v p => Laid p 48 [(0, 1, v.activeCount 1), (1, 1, 5 - (v.pool 1).retired.length), (2, 1, v.activeCount 2), (3, 1, 3 - (v.pool 2).retired.length), (4, 1, ((List.range 16).filter (fun k => (v.session k).state != .closed)).length), (8, 4, v.plait.decoded.toNat), (12, 4, v.plait.failed.toNat), (16, 4, v.plait.suspensions.toNat), (20, 4, v.plait.parks.toNat), (24, 4, v.plait.compressed.toNat), (28, 4, v.plait.storedBlocks.toNat), (32, 8, v.plait.bytesDecoded), (40, 8, v.plait.bytesIn)])

/-- Reports of CANE and HEALTH: what each report answers. Readings and choices of the model: log 84, 85.
(R295, R319.) -/
def Obligations.CaneAndHealthReadsAnswer : Prop :=
  Reads .canePortStatus canePortStatusCmd (fun _ => 4)
    (fun rq _ => fld rq.payload 0 1 < 32)
    (fun rq v p => Laid p 48 [(0, 1, portCode (v.port (fld rq.payload 0 1)).state), (1, 1, b2n (portRec v.inForce (fld rq.payload 0 1)).enable + 2 * b2n (v.portInUse (fld rq.payload 0 1)) + 4 * b2n (v.port (fld rq.payload 0 1)).inverted + 8 * b2n (v.port (fld rq.payload 0 1)).aligned), (2, 2, (v.port (fld rq.payload 0 1)).downReason.toNat), (4, 4, (((v.port (fld rq.payload 0 1)).theta) % 4294967296).toNat), (8, 4, (((v.port (fld rq.payload 0 1)).delta) % 4294967296).toNat), (12, 4, (v.port (fld rq.payload 0 1)).framesSent.toNat), (16, 4, (v.port (fld rq.payload 0 1)).retransmissions.toNat), (20, 4, (v.port (fld rq.payload 0 1)).naks.toNat), (24, 4, (v.port (fld rq.payload 0 1)).lateLines.toNat), (28, 4, (v.port (fld rq.payload 0 1)).crcErrors.toNat), (32, 4, (v.port (fld rq.payload 0 1)).blockErrors.toNat), (36, 4, (v.port (fld rq.payload 0 1)).strobesSent.toNat), (40, 4, (v.port (fld rq.payload 0 1)).retrains.toNat), (44, 2, frameBlocksMean v.tick (v.port (fld rq.payload 0 1)).recent)])
  ∧
  Reads .caneModuleInfo caneModuleInfoCmd (fun _ => 4)
    (fun rq v => fld rq.payload 0 1 < 32 ∧ (v.port (fld rq.payload 0 1)).passedHello = true ∧ (v.port (fld rq.payload 0 1)).sts.isSome = true)
    (fun rq v p => ∀ x, (v.port (fld rq.payload 0 1)).sts = some x →
        Laid p 16 [(0, 2, x.protocol), (2, 2, x.vendor), (4, 2, x.moduleType), (6, 1, x.headsPresent.toNat), (7, 1, x.bufferLines), (8, 4, x.moduleFw.toNat), (12, 1, x.source), (13, 1, moduleFlags x)])
  ∧
  Reads .caneGet caneGetCmd (fun _ => 4)
    (fun rq _ => fld rq.payload 0 1 < 32)
    (fun rq v p => p = portBytes (fld rq.payload 0 1) (portRec (v.readCfg rq) (fld rq.payload 0 1)))
  ∧
  Reads .healthNozzleRead healthNozzleReadCmd (fun _ => 8)
    (fun rq _ => fld rq.payload 0 4 < 2097152 ∧ 1 ≤ fld rq.payload 4 2 ∧ fld rq.payload 4 2 ≤ 80 ∧ fld rq.payload 0 4 + fld rq.payload 4 2 ≤ 2097152)
    (fun rq v p => p = (List.range (fld rq.payload 4 2)).flatMap (fun k => nozzleReadEntry v (fld rq.payload 0 4 + k)))
  ∧
  Reads .healthSubstRead healthSubstReadCmd (fun _ => 8)
    (fun rq _ => fld rq.payload 0 4 < 2097152 ∧ 1 ≤ fld rq.payload 4 2 ∧ fld rq.payload 4 2 ≤ 41)
    (fun rq v p => p.length = 24 * fld rq.payload 4 2
      ∧ ∃ z, p = (((v.readCfg rq).substs.filter (fun (x : Nat × SubstRec) => decide (fld rq.payload 0 4 ≤ x.1))).take (fld rq.payload 4 2)).flatMap (fun x => substBytes x.1 x.2) ++ zeros z)
  ∧
  Reads .healthStatus healthStatusCmd (fun _ => 4)
    (fun rq _ => fld rq.payload 0 1 < 2 ∧ fld rq.payload 2 2 < (if fld rq.payload 0 1 = 0 then 16 else 256))
    (fun rq v p => (fld rq.payload 0 1 = 0 → Laid p 32 [(0, 1, b2n (v.sweep (fld rq.payload 2 2)).active + 2 * b2n ((v.sweep (fld rq.payload 2 2)).active && v.stage != 0)), (8, 4, (v.barStat (fld rq.payload 2 2)).assessed.toNat), (12, 4, (v.barStat (fld rq.payload 2 2)).unfired.toNat), (16, 4, (v.barStat (fld rq.payload 2 2)).unreferenced.toNat), (28, 4, (v.sweep (fld rq.payload 2 2)).lastDuration)])
      ∧ (fld rq.payload 0 1 = 1 → Laid p 32 [(0, 1, b2n (v.heater (fld rq.payload 2 2)).degraded + 2 * b2n (tempRec v.inForce (fld rq.payload 2 2)).enable + 4 * b2n (v.heater (fld rq.payload 2 2)).tempLost + 8 * b2n (v.heater (fld rq.payload 2 2)).overTemp), (2, 2, (((v.lastTemp (fld rq.payload 2 2)).getD (-32768)) % 65536).toNat), (4, 2, (v.heater (fld rq.payload 2 2)).sentDuty), (8, 4, (v.headStat (fld rq.payload 2 2)).assessed.toNat), (12, 4, (v.headStat (fld rq.payload 2 2)).unfired.toNat), (16, 4, (v.headStat (fld rq.payload 2 2)).unreferenced.toNat), (28, 4, (v.headStat (fld rq.payload 2 2)).dropped.toNat)]))
  ∧
  Reads .healthGet healthGetCmd (fun _ => 4)
    (fun rq _ => fld rq.payload 0 1 < 3 ∧ fld rq.payload 2 2 < (if fld rq.payload 0 1 = 0 then 16 else if fld rq.payload 0 1 = 1 then 2048 else 256))
    (fun rq v p => (fld rq.payload 0 1 = 0 → p = policyBytes (fld rq.payload 2 2) (policyRec (v.readCfg rq) (fld rq.payload 2 2)))
      ∧ (fld rq.payload 0 1 = 1 → p = refBytes (fld rq.payload 2 2 / 8) (fld rq.payload 2 2 % 8) (refRec (v.readCfg rq) (fld rq.payload 2 2 / 8) (fld rq.payload 2 2 % 8)))
      ∧ (fld rq.payload 0 1 = 2 → p = tempBytes (fld rq.payload 2 2) (tempRec (v.readCfg rq) (fld rq.payload 2 2))))

/-- Reports of PAIR, MEM and DMA: what each report answers. Readings and choices of the model: log 88, 98,
145. (R348, R369, R390.) -/
def Obligations.PairMemoryAndDmaReadsAnswer : Prop :=
  Reads .pairStatus pairStatusCmd (fun _ => 0)
    (fun _ _ => True)
    (fun _ v p => Laid p 32 [(0, 1, pairCode v.pair.state), (1, 1, b2n v.pair.unitS + 2 * b2n v.acting + 4 * b2n v.pair.promoted + 8 * b2n v.pair.selfWithdrawn + 16 * b2n v.pair.fallback), (2, 1, b2n v.pair.hostBoth), (4, 4, v.pair.divergences.toNat), (8, 2, v.pair.consecMax), (10, 2, v.pair.resyncs), (12, 4, v.pair.inputMismatches.toNat), (16, 2, v.pair.latencyMax), (20, 4, v.pair.peerRequests.toNat), (24, 8, v.pair.fwdBytes)])
  ∧
  Reads .pairGet pairGetCmd (fun _ => 0)
    (fun _ _ => True)
    (fun _ v p => p = pairConfigBytes v.pair)
  ∧
  Reads .memStatus memStatusCmd (fun _ => 0)
    (fun _ _ => True)
    (fun _ v p => Laid p 36 [(0, 1, b2n v.mem.contiguous), (1, 1, v.mem.retired.length), (2, 1, v.mem.pendingRetire.length + b2n v.mem.reforming.isSome), (3, 1, v.mem.rowsPending.length), (4, 4, maskOf v.mem.retired), (8, 4, v.mem.weaveCorrected.toNat), (12, 4, v.mem.weaveUncorrectable.toNat), (16, 4, v.mem.hbmCorrected.toNat), (20, 4, v.mem.hbmUncorrectable.toNat), (24, 4, (v.aon - v.mem.scrubPassAt) / 1024000), (28, 4, v.mem.violations.toNat)])
  ∧
  Reads .memRegions memRegionsCmd (fun _ => 4)
    (fun rq _ => fld rq.payload 0 1 < 12)
    (fun rq v p => p = (List.range 8).flatMap (fun i => regionBytes (v.region (fld rq.payload 0 1) i)))
  ∧
  Reads .memStakeStatus memStakeStatusCmd (fun _ => 4)
    (fun rq _ => fld rq.payload 0 1 < 8)
    (fun rq v p => p.length = 12 ∧ fld p 0 1 = (ownerOf (v.mem.stakes.get {} (fld rq.payload 0 1)).owner).1.toNat ∧ fld p 4 4 = (ownerOf (v.mem.stakes.get {} (fld rq.payload 0 1)).owner).2 % 256 ^ 4 ∧ bit (fld p 8 1) 0 = (fld rq.payload 0 1 != 6) ∧ bit (fld p 8 1) 1 = (fld rq.payload 0 1 == 3 || fld rq.payload 0 1 == 4))
  ∧
  Reads .memErrors memErrorsCmd (fun _ => 4)
    (fun rq _ => fld rq.payload 0 1 < 3)
    (fun rq v p => ∃ z, p = (v.mem.records.get [] (fld rq.payload 0 1)).flatMap errBytes ++ zeros z ∧ ((v.mem.records.get [] (fld rq.payload 0 1)).length ≤ 16 → p.length = 384))
  ∧
  Reads .memHbmRows memHbmRowsCmd (fun _ => 0)
    (fun _ _ => True)
    (fun _ v p => (v.mem.rowsPending.length ≤ 16 → p.length = 132) ∧ fld p 0 4 = v.mem.rowsPending.length % 256 ^ 4
      ∧ ∀ k r, v.mem.rowsPending[k]? = some r →
        fld p (4 + 8 * k) 1 = r.pseudo % 256 ∧ fld p (5 + 8 * k) 1 = r.bank % 256 ∧ fld p (8 + 8 * k) 4 = r.row % 256 ^ 4)
  ∧
  Reads .memGet memGetCmd (fun _ => 0)
    (fun _ _ => True)
    (fun rq v p => p = scrubBytes (v.readCfg rq).scrub)
  ∧
  Reads .dmaStatus dmaStatusCmd (fun _ => 4)
    (fun rq _ => fld rq.payload 0 1 < 32)
    (fun rq v p => Laid p 56 [(0, 1, dmaCode (v.chan32 (fld rq.payload 0 1)).state), (1, 1, (v.chan32 (fld rq.payload 0 1)).priority), (2, 1, (dmaOwner (v.chan32 (fld rq.payload 0 1))).1.toNat), (3, 1, (dmaOwner (v.chan32 (fld rq.payload 0 1))).2), (4, 2, (v.chan32 (fld rq.payload 0 1)).haltReason.toNat), (6, 1, (v.chan32 (fld rq.payload 0 1)).failDirection), (7, 1, (v.chan32 (fld rq.payload 0 1)).failList), (8, 8, (v.chan32 (fld rq.payload 0 1)).failAddress), (16, 4, (v.chan32 (fld rq.payload 0 1)).failElement), (20, 1, (v.chan32 (fld rq.payload 0 1)).failSpace), (24, 8, (v.chan32 (fld rq.payload 0 1)).bytesDone), (32, 8, (v.chan32 (fld rq.payload 0 1)).bytesSkipped), (40, 4, (v.chan32 (fld rq.payload 0 1)).elementsDone.toNat), (44, 4, max (v.chan32 (fld rq.payload 0 1)).gather.hops (v.chan32 (fld rq.payload 0 1)).scatter.hops), (48, 4, (v.chan32 (fld rq.payload 0 1)).preemptions.toNat), (52, 4, (v.chan32 (fld rq.payload 0 1)).hopLimit)])

/-- Reports of POWER: what each report answers. (R410, R426.) -/
def Obligations.PowerAndThermalReadsAnswer : Prop :=
  Reads .powerGet powerGetCmd (fun _ => 4)
    (fun rq _ => fld rq.payload 0 1 < 2 ∧ fld rq.payload 1 1 < (if fld rq.payload 0 1 = 0 then 1 else 8))
    (fun rq v p => (fld rq.payload 0 1 = 0 → p = powerBytes (v.readCfg rq).power)
      ∧ (fld rq.payload 0 1 = 1 → p = hvBytes (fld rq.payload 1 1) ((v.readCfg rq).hvs.get {} (fld rq.payload 1 1))))
  ∧
  Reads .powerThermRead powerThermReadCmd (fun _ => 0)
    (fun _ _ => True)
    (fun _ v p => Laid p 56 [(38, 2, ((v.therm.dieMax) % 65536).toNat), (40, 2, v.therm.gradient), (42, 2, v.therm.valid.toNat), (44, 1, (v.dom 0).level), (45, 1, (v.dom 1).level), (46, 2, v.therm.ceiling), (48, 1, b2n v.heldSensor.isSome + 2 * b2n v.therm.gradHigh + 4 * b2n (decide (0 < v.stage))), (49, 1, v.recentRestarts.length), (50, 2, v.therm.sensorFaults), (52, 4, v.therm.trips.toNat)] ∧ ∀ i < 16, fld p (2 * i) 2 = ofLE (readingBytes (if v.therm.valid.getLsbD i then some (v.therm.die.get 0 i) else none)))
  ∧
  Reads .powerThermGet powerThermGetCmd (fun _ => 4)
    (fun rq _ => fld rq.payload 0 1 < 2)
    (fun rq v p => p = thermBytes (fld rq.payload 0 1) (thermRec (v.readCfg rq) (fld rq.payload 0 1)))

/-- Reports of CAL, OTP, BIST and LOG: what each report answers. Readings and choices of the model: log 36.
(R439, R462, R475, R488.) -/
def Obligations.CalOtpBistAndLogReadsAnswer : Prop :=
  Reads .calStatus calStatusCmd (fun _ => 0)
    (fun _ _ => True)
    (fun _ v p => Laid p 24 [(0, 2, v.cal.due.toNat), (2, 2, maskOf (calTargets.filter v.calibrating)), (4, 1, b2n v.cal.fallback + 2 * b2n (v.slotValid false) + 4 * b2n (v.slotValid true) + 8 * b2n (v.currentSlot == some true)), (5, 1, v.power.aonTrim.toNat), (8, 4, match v.currentRecord with | some r => r.seq.toNat | none => 0), (12, 2, v.cal.lastBoot), (14, 2, ((v.cal.lastRunTemp) % 65536).toNat), (16, 2, v.cal.lastResult.toNat)])
  ∧
  Reads .calAdcRead calAdcReadCmd (fun _ => 0)
    (fun _ _ => True)
    (fun _ v p => p.length = 68 ∧ fld p 64 4 = min 0xFFFFFFFF (v.aon - v.cal.adcAt)
      ∧ ∀ i < 16, (∀ r ∈ v.cal.running, r.target ≠ 0) → fld p (4 * i) 4 = v.cal.adc.getD i 0 * 1200000 / 4096 % 256 ^ 4)
  ∧
  Reads .calCoeffRead calCoeffReadCmd (fun _ => 4)
    (fun rq _ => fld rq.payload 0 1 < 25)
    (fun rq v p => Laid p 8 [(0, 2, (v.coeff (fld rq.payload 0 1)).gain), (2, 2, (((v.coeff (fld rq.payload 0 1)).offset) % 65536).toNat), (4, 2, ((v.cal.lastTemp.get 0 (if fld rq.payload 0 1 = 0 then 0 else if fld rq.payload 0 1 ≤ 16 then 1 else 8 + (fld rq.payload 0 1 - 17))) % 65536).toNat)])
  ∧
  Reads .otpStatus otpStatusCmd (fun _ => 0)
    (fun _ _ => True)
    (fun _ v p => Laid p 32 [(0, 1, lcCode v.otp.lc), (1, 1, lcCode (lcOf v.otp.array)), (4, 1, slotCode (v.region8 3) (v.region8 4) + 4 * slotCode (v.region8 5) (v.region8 6)), (5, 1, (otpValue v.otp.boot revokeWord).toNat % 4), (6, 1, v.repairUsed), (7, 1, regionCode v.otp.returnRec), (8, 4, v.otp.marginal.length), (12, 4, v.otp.recheck.length), (16, 4, v.otp.weakCells.toNat), (20, 4, v.otp.marginal.head?.getD 0xFFFFFFFF), (24, 2, v.otp.lastResult.toNat)] ∧ ∀ i < 8, bitsOf (fld p 2 2) (2 * i) 2 = regionCode (v.region8 i))
  ∧
  Reads .otpRead otpReadCmd (fun _ => 4)
    (fun rq _ => fld rq.payload 0 2 < 512 ∧ fld rq.payload 2 1 < 4 ∧ 1 ≤ fld rq.payload 3 1 ∧ fld rq.payload 3 1 ≤ 64 ∧ fld rq.payload 0 2 + fld rq.payload 3 1 ≤ 512)
    (fun rq v p => p.length = 4 * fld rq.payload 3 1 ∧ ∀ k < fld rq.payload 3 1, fld p (4 * k) 4 = (v.otpReadWord (fld rq.payload 2 1) (fld rq.payload 0 2 + k)).toNat)
  ∧
  Reads .bistStatus bistStatusCmd (fun _ => 0)
    (fun _ _ => True)
    (fun _ v p => Laid p 16 [(0, 1, (v.bist.demand.map (fun d => d.part)).getD 0xFF), (1, 1, (v.bist.demand.map (fun d => d.unit)).getD 0), (4, 1, (v.restingOf 0).getD 0xFF), (5, 1, (v.restingOf 1).getD 0xFF), (6, 1, (v.restingOf 2).getD 0xFF), (7, 1, (v.restingOf 3).getD 0xFF), (8, 1, (v.restingOf 4).getD 0xFF), (12, 4, v.bist.failures.toNat)] ∧ bit (fld p 2 1) 0 = (v.inForce.bistPeriod != 0))
  ∧
  Reads .bistResult bistResultCmd (fun _ => 4)
    (fun rq v => fld rq.payload 0 1 < 24 ∧ fld rq.payload 1 1 < (if fld rq.payload 0 1 < 5 then (poolSize (fld rq.payload 0 1)).1 else 1) ∧ fld rq.payload 2 1 < 2 ∧ (v.otp.lc = .field → fld rq.payload 2 1 = 0))
    (fun rq v p => p.length = 40 ∧ (v.testRuns (fld rq.payload 0 1) (fld rq.payload 1 1) = none → fld p 0 1 = (v.bistResult (fld rq.payload 0 1) (fld rq.payload 1 1)).result % 256 ∧ fld p 1 1 = (v.bistResult (fld rq.payload 0 1) (fld rq.payload 1 1)).kind % 256 ∧ fld p 2 1 = causeCode (v.bistResult (fld rq.payload 0 1) (fld rq.payload 1 1)).cause % 256)
      ∧ fld p 4 2 = (v.bistResult (fld rq.payload 0 1) (fld rq.payload 1 1)).boot % 256 ^ 2 ∧ (fld rq.payload 2 1 = 1 → fld p 16 2 = (v.bistResult (fld rq.payload 0 1) (fld rq.payload 1 1)).coverage % 256 ^ 2 ∧ fld p 32 8 = (v.bistResult (fld rq.payload 0 1) (fld rq.payload 1 1)).signature.toNat)
      ∧ (fld rq.payload 2 1 = 0 → fld p 16 24 = 0))
  ∧
  Reads .bistGet bistGetCmd (fun _ => 0)
    (fun _ _ => True)
    (fun rq v p => p = bistConfigBytes (v.readCfg rq).bistPeriod)
  ∧
  Reads .logStatus logStatusCmd (fun _ => 0)
    (fun _ _ => True)
    (fun _ v p => Laid p 24 [(0, 1, b2n v.inForce.logStrict), (1, 1, b2n v.log.log75 + 2 * b2n (v.inForce.logStrict && decide (logFree v.log < 64)) + 4 * b2n v.log.gap.isSome), (2, 2, logFree v.log), (4, 4, (logOldest v.log).toNat), (8, 4, (logNewest v.log).toNat), (12, 4, v.log.ack.toNat), (16, 4, v.log.lost.toNat), (20, 4, v.log.refusals.toNat)])
  ∧
  Reads .logRead logReadCmd (fun _ => 8)
    (fun rq v => 1 ≤ fld rq.payload 4 2 ∧ fld rq.payload 4 2 ≤ 31 ∧ v.mem.poison = [])
    (fun rq v p => ∃ l, p = l.flatMap (fun (x : Word × LogBody) => logBytes x.1 x.2) ∧ l.length ≤ fld rq.payload 4 2 ∧ (∀ x ∈ l, x ∈ v.log.entries)
      ∧ (0 ≤ ahead32 (logOldest v.log) (BitVec.ofNat 32 (fld rq.payload 0 4)) → l = (v.log.entries.filter (fun x => decide (0 ≤ ahead32 (BitVec.ofNat 32 (fld rq.payload 0 4)) x.1))).take (fld rq.payload 4 2)))
  ∧
  Reads .logGet logGetCmd (fun _ => 0)
    (fun _ _ => True)
    (fun rq v p => Laid p 12 [(0, 1, b2n (v.readCfg rq).logStrict), (4, 8, v.log.utc.toNat)])

/-- Staged commands of GEOM: what each staged command adds to its set, and what it refuses. Readings and
choices of the model: log 44, 45, 140, 162. (R98, R100, R102, R108, R110, R114, R118.) -/
def Obligations.GeometryStages : Prop :=
  StagesAs .geomHeadSet geomHeadSetCmd (fun _ => 8)
    (fun rq v => (∀ f ∈ headFields rq.payload, f.1 = true) ∧ ((headOf rq.payload).bar = 0xFF ∨ (∀ cfg ∈ [v.inForce, v.view rq.mbx.val], ∀ x ∈ cfg.heads, x.1 ≠ fld rq.payload 0 2 → x.2.bar ≠ 0xFF →
        x.2.port = (headOf rq.payload).port → x.2.localHead ≠ (headOf rq.payload).localHead)))
    (fun rq _ => .head (fld rq.payload 0 2) (headOf rq.payload))
  ∧
  StagesAs .geomRowSet geomRowSetCmd (fun _ => 12)
    (fun rq v => (∀ f ∈ rowFields rq.payload, f.1 = true) ∧ fld rq.payload 2 1 < (headRec (v.view rq.mbx.val) (fld rq.payload 0 2)).rows)
    (fun rq _ => .row (fld rq.payload 0 2) (fld rq.payload 2 1) (rowOf rq.payload))
  ∧
  Denies .geomRowSet geomRowSetCmd (fun _ => 12)
    (fun rq v => (∀ f ∈ rowFields rq.payload, f.1 = true) ∧ (headRec (v.view rq.mbx.val) (fld rq.payload 0 2)).rows ≤ fld rq.payload 2 1)
    Rc.rowNotInHead Cls.head (fun rq => fld rq.payload 0 2)
  ∧
  StagesAs .geomBarSet geomBarSetCmd (fun _ => 28)
    (fun rq v => (∀ f ∈ barFields rq.payload, f.1 = true) ∧ ((barOf rq.payload).scanning = true ∨ (barOf rq.payload).passMask = 0) ∧ (v.barEnabled (fld rq.payload 0 1) = true → barLockedChange (barRec v.inForce (fld rq.payload 0 1)) (barOf rq.payload) = false))
    (fun rq _ => .bar (fld rq.payload 0 1) (barOf rq.payload))
  ∧
  Denies .geomBarSet geomBarSetCmd (fun _ => 28)
    (fun rq _ => (∀ f ∈ barFields rq.payload, f.1 = true) ∧ (barOf rq.payload).scanning = false ∧ (barOf rq.payload).passMask ≠ 0)
    Rc.notScanning Cls.bar (fun rq => fld rq.payload 0 1)
  ∧
  Denies .geomBarSet geomBarSetCmd (fun _ => 28)
    (fun rq v => (∀ f ∈ barFields rq.payload, f.1 = true) ∧ ((barOf rq.payload).scanning = true ∨ (barOf rq.payload).passMask = 0) ∧ v.barEnabled (fld rq.payload 0 1) = true ∧ barLockedChange (barRec v.inForce (fld rq.payload 0 1)) (barOf rq.payload) = true)
    Rc.barFieldLocked Cls.bar (fun rq => fld rq.payload 0 1)
  ∧
  StagesAs .geomNmapWrite geomNmapWriteCmd (fun rq => 8 + 4 * fld rq.payload 4 2)
    (fun rq _ => fld rq.payload 0 4 < 2097152 ∧ 1 ≤ fld rq.payload 4 2 ∧ fld rq.payload 4 2 ≤ 248 ∧ fld rq.payload 0 4 + fld rq.payload 4 2 ≤ 2097152 ∧ 1 ≤ fld rq.payload 6 1 ∧ fld rq.payload 6 1 ≤ 15 ∧ (∀ e ∈ (nmapEntriesOf (fld rq.payload 0 4) (rq.payload.drop 8) (fld rq.payload 4 2)), nmapReserved (BitVec.ofNat 4 (fld rq.payload 6 1)) e.2 = false ∧ nmapFirmwareOnly (BitVec.ofNat 4 (fld rq.payload 6 1)) e.2 = false))
    (fun rq _ => .nmap false (BitVec.ofNat 4 (fld rq.payload 6 1)) (nmapEntriesOf (fld rq.payload 0 4) (rq.payload.drop 8) (fld rq.payload 4 2)))
  ∧
  StagesAs .geomNmapLoad geomNmapLoadCmd (fun _ => 20)
    (fun rq v => fld rq.payload 0 4 < 2097152 ∧ 1 ≤ fld rq.payload 4 4 ∧ fld rq.payload 4 4 ≤ 262144 ∧ fld rq.payload 0 4 + fld rq.payload 4 4 ≤ 2097152 ∧ 1 ≤ fld rq.payload 16 1 ∧ fld rq.payload 16 1 ≤ 15 ∧ sourceOk (fld rq.payload 8 8) (fld rq.payload 4 4 * 4) = true ∧ (∀ e ∈ (nmapEntriesOf (fld rq.payload 0 4) (v.hbmRead (fld rq.payload 8 8) (fld rq.payload 4 4 * 4)) (fld rq.payload 4 4)), nmapReserved (BitVec.ofNat 4 (fld rq.payload 16 1)) e.2 = false ∧ nmapFirmwareOnly (BitVec.ofNat 4 (fld rq.payload 16 1)) e.2 = false))
    (fun rq v => .nmap true (BitVec.ofNat 4 (fld rq.payload 16 1)) (nmapEntriesOf (fld rq.payload 0 4) (v.hbmRead (fld rq.payload 8 8) (fld rq.payload 4 4 * 4)) (fld rq.payload 4 4)))
  ∧
  Denies .geomNmapLoad geomNmapLoadCmd (fun _ => 20)
    (fun rq _ => fld rq.payload 0 4 < 2097152 ∧ 1 ≤ fld rq.payload 4 4 ∧ fld rq.payload 4 4 ≤ 262144 ∧ fld rq.payload 0 4 + fld rq.payload 4 4 ≤ 2097152 ∧ 1 ≤ fld rq.payload 16 1 ∧ fld rq.payload 16 1 ≤ 15 ∧ sourceOk (fld rq.payload 8 8) (fld rq.payload 4 4 * 4) = false)
    Rc.sourceRange 0 (fun _ => 0)
  ∧
  StagesAs .geomStitchSet geomStitchSetCmd (fun _ => 12)
    (fun rq v => (∀ f ∈ stitchFields rq.payload, f.1 = true) ∧ ((stitchOf rq.payload).enable = true → ((headRec (v.view rq.mbx.val) (stitchOf rq.payload).left).bar = (stitchOf rq.payload).bar ∧ (headRec (v.view rq.mbx.val) (stitchOf rq.payload).right).bar = (stitchOf rq.payload).bar ∧ (stitchOf rq.payload).left ≠ (stitchOf rq.payload).right
        ∧ (stitchOf rq.payload).xStart + (stitchOf rq.payload).width ≤ (barRec (v.view rq.mbx.val) (stitchOf rq.payload).bar).rasterWidth)))
    (fun rq _ => .stitch (fld rq.payload 0 2) (stitchOf rq.payload))
  ∧
  Denies .geomStitchSet geomStitchSetCmd (fun _ => 12)
    (fun rq v => (∀ f ∈ stitchFields rq.payload, f.1 = true) ∧ (stitchOf rq.payload).enable = true ∧ ¬ ((headRec (v.view rq.mbx.val) (stitchOf rq.payload).left).bar = (stitchOf rq.payload).bar ∧ (headRec (v.view rq.mbx.val) (stitchOf rq.payload).right).bar = (stitchOf rq.payload).bar ∧ (stitchOf rq.payload).left ≠ (stitchOf rq.payload).right
        ∧ (stitchOf rq.payload).xStart + (stitchOf rq.payload).width ≤ (barRec (v.view rq.mbx.val) (stitchOf rq.payload).bar).rasterWidth))
    Rc.stitchInvalid Cls.bar (fun rq => (stitchOf rq.payload).bar)
  ∧
  StagesAs .geomMaskLoad geomMaskLoadCmd (fun _ => 16)
    (fun rq _ => fld rq.payload 0 1 = 1 ∧ fld rq.payload 1 1 < 16 ∧ fld rq.payload 2 2 = 256 ∧ sourceOk (fld rq.payload 8 8) 32768 = true)
    (fun rq v => .passMask (fld rq.payload 1 1) { bytes := (List.range 32768).zip (v.hbmRead (fld rq.payload 8 8) 32768) })
  ∧
  StagesAs .geomMaskLoad geomMaskLoadCmd (fun _ => 16)
    (fun rq _ => fld rq.payload 0 1 = 0 ∧ fld rq.payload 2 2 ∈ [1, 2, 4, 8, 16, 32, 64, 128, 256] ∧ sourceOk (fld rq.payload 8 8) (fld rq.payload 2 2 * 8) = true)
    (fun rq v => .stitchMask (fld rq.payload 1 1) { height := fld rq.payload 2 2, lines := maskLines 0 (fld rq.payload 2 2) (v.hbmRead (fld rq.payload 8 8) (fld rq.payload 2 2 * 8)) })
  ∧
  StagesAs .geomSwath geomSwathCmd (fun _ => 8)
    (fun rq v => fld rq.payload 0 1 < 16 ∧ (barRec (v.view rq.mbx.val) (fld rq.payload 0 1)).scanning = true ∧ fld rq.payload 1 1 < (barRec (v.view rq.mbx.val) (fld rq.payload 0 1)).passCount)
    (fun rq _ => .swath (fld rq.payload 0 1) { passIndex := fld rq.payload 1 1, offset := fld rq.payload 4 4 })
  ∧
  Denies .geomSwath geomSwathCmd (fun _ => 8)
    (fun rq v => fld rq.payload 0 1 < 16 ∧ (barRec (v.view rq.mbx.val) (fld rq.payload 0 1)).scanning = false)
    Rc.notScanning Cls.bar (fun rq => fld rq.payload 0 1)

/-- Staged commands of AXIS and TRIG: what each staged command adds to its set, and what it refuses.
Readings and choices of the model: log 44. (R147, R152, R153, R160, R161, R179, R180.) -/
def Obligations.AxesAndTriggersStage : Prop :=
  StagesAs .axisConfig axisConfigCmd (fun _ => 44)
    (fun rq v => (∀ f ∈ axisFields rq.payload, f.1 = true) ∧ ssiTimingOk (axisOf rq.payload) = true ∧ (v.axisInUse (fld rq.payload 0 1) = true → axisLockedChange (axisRec v.inForce (fld rq.payload 0 1)) (axisOf rq.payload) = false))
    (fun rq _ => .axis (fld rq.payload 0 1) (axisOf rq.payload))
  ∧
  Denies .axisConfig axisConfigCmd (fun _ => 44)
    (fun rq _ => (∀ f ∈ axisFields rq.payload, f.1 = true) ∧ ssiTimingOk (axisOf rq.payload) = false)
    Rc.ssiTiming Cls.axis (fun rq => fld rq.payload 0 1)
  ∧
  Denies .axisConfig axisConfigCmd (fun _ => 44)
    (fun rq v => (∀ f ∈ axisFields rq.payload, f.1 = true) ∧ ssiTimingOk (axisOf rq.payload) = true ∧ v.axisInUse (fld rq.payload 0 1) = true ∧ axisLockedChange (axisRec v.inForce (fld rq.payload 0 1)) (axisOf rq.payload) = true)
    Rc.axisFieldLocked Cls.axis (fun rq => fld rq.payload 0 1)
  ∧
  StagesAs .axisEnable axisEnableCmd (fun _ => 4)
    (fun rq v => fld rq.payload 0 1 < 8 ∧ fld rq.payload 1 1 < 2 ∧ (fld rq.payload 1 1 = 0 → v.axisInUse (fld rq.payload 0 1) = false))
    (fun rq _ => .axisEnable (fld rq.payload 0 1) (fld rq.payload 1 1 == 1))
  ∧
  Denies .axisEnable axisEnableCmd (fun _ => 4)
    (fun rq v => fld rq.payload 0 1 < 8 ∧ fld rq.payload 1 1 = 0 ∧ v.axisInUse (fld rq.payload 0 1) = true)
    Rc.axisInUse Cls.axis (fun rq => fld rq.payload 0 1)
  ∧
  StagesAs .axisEchoSet axisEchoSetCmd (fun _ => 12)
    (fun rq _ => (∀ f ∈ echoFields rq.payload, f.1 = true) ∧ (echoOf rq.payload).ratioM ≤ (echoOf rq.payload).ratioN)
    (fun rq _ => .echo (fld rq.payload 0 1) (echoOf rq.payload))
  ∧
  Denies .axisEchoSet axisEchoSetCmd (fun _ => 12)
    (fun rq _ => (∀ f ∈ echoFields rq.payload, f.1 = true) ∧ (echoOf rq.payload).ratioN < (echoOf rq.payload).ratioM)
    Rc.echoRatio Cls.echoOutput (fun rq => fld rq.payload 0 1)
  ∧
  StagesAs .axisWakeSet axisWakeSetCmd (fun _ => 8)
    (fun rq v => (∀ f ∈ wakeFields rq.payload, f.1 = true) ∧ (∀ k < 8, (wakeOf rq.payload).mask.getLsbD k = true → (axisRec (v.view rq.mbx.val) k).ssi = false))
    (fun rq _ => .wake (wakeOf rq.payload))
  ∧
  StagesAs .trigConfig trigConfigCmd (fun _ => 24)
    (fun rq v => (∀ f ∈ trigFields rq.payload, f.1 = true) ∧ (v.tgEnabled (fld rq.payload 0 1) = true → (trigRec v.inForce (fld rq.payload 0 1)).sourceBar = (trigOfBytes rq.payload).sourceBar))
    (fun rq _ => .trig (fld rq.payload 0 1) (trigOfBytes rq.payload))
  ∧
  Denies .trigConfig trigConfigCmd (fun _ => 24)
    (fun rq v => (∀ f ∈ trigFields rq.payload, f.1 = true) ∧ v.tgEnabled (fld rq.payload 0 1) = true ∧ (trigRec v.inForce (fld rq.payload 0 1)).sourceBar ≠ (trigOfBytes rq.payload).sourceBar)
    Rc.tgFieldLocked Cls.triggerGenerator (fun rq => fld rq.payload 0 1)
  ∧
  StagesAs .trigRunWrite trigRunWriteCmd (fun rq => 8 + 24 * fld rq.payload 4 2)
    (fun rq _ => fld rq.payload 0 1 < 16 ∧ fld rq.payload 2 2 < 1024 ∧ 1 ≤ fld rq.payload 4 2 ∧ fld rq.payload 4 2 ≤ 41 ∧ fld rq.payload 2 2 + fld rq.payload 4 2 ≤ 1024 ∧ (∀ k < fld rq.payload 4 2, ∀ f ∈ runFields rq.payload (8 + 24 * k), f.1 = true))
    (fun rq _ => .run (fld rq.payload 0 1) (fld rq.payload 2 2) ((List.range (fld rq.payload 4 2)).map (fun k => runOf rq.payload (8 + 24 * k))))
  ∧
  Denies .trigRunWrite trigRunWriteCmd (fun rq => 8 + 24 * fld rq.payload 4 2)
    (fun rq _ => fld rq.payload 0 1 < 16 ∧ fld rq.payload 2 2 < 1024 ∧ 1 ≤ fld rq.payload 4 2 ∧ fld rq.payload 4 2 ≤ 41 ∧ 1024 < fld rq.payload 2 2 + fld rq.payload 4 2)
    Rc.entryRange Cls.triggerGenerator (fun rq => fld rq.payload 0 1)
  ∧
  StagesAs .trigRunStart trigRunStartCmd (fun _ => 4)
    (fun rq _ => fld rq.payload 0 1 < 16 ∧ fld rq.payload 2 2 < 1024)
    (fun rq _ => .runStart (fld rq.payload 0 1) (fld rq.payload 2 2))
  ∧
  StagesAs .trigTrigoutSet trigTrigoutSetCmd (fun _ => 12)
    (fun rq _ => (∀ f ∈ trigoutFields rq.payload, f.1 = true))
    (fun rq _ => .trigout (fld rq.payload 0 1) (trigoutOf rq.payload))

/-- Staged commands of WAVE: what each staged command adds to its set, and what it refuses. Readings and
choices of the model: log 44. (R187, R189, R191, R193, R197, R203.) -/
def Obligations.WaveformsStage : Prop :=
  StagesAs .waveWaveSet waveWaveSetCmd (fun rq => waveSetSize rq)
    (fun rq _ => (∀ f ∈ waveFields rq.payload, f.1 = true) ∧ waveTicks (waveOf rq.payload) ≤ 65535 ∧ ((waveOf rq.payload).segs.getLast?.map segLevel).getD 0 = 0 ∧ (∀ w ∈ (waveOf rq.payload).windows, windowOk (waveTicks (waveOf rq.payload)) w = true))
    (fun rq _ => .wave (fld rq.payload 0 1) (waveOf rq.payload))
  ∧
  Denies .waveWaveSet waveWaveSetCmd (fun rq => waveSetSize rq)
    (fun rq _ => (∀ f ∈ waveFields rq.payload, f.1 = true) ∧ 65535 < waveTicks (waveOf rq.payload))
    Rc.waveTooLong Cls.waveform (fun rq => fld rq.payload 0 1)
  ∧
  Denies .waveWaveSet waveWaveSetCmd (fun rq => waveSetSize rq)
    (fun rq _ => (∀ f ∈ waveFields rq.payload, f.1 = true) ∧ waveTicks (waveOf rq.payload) ≤ 65535 ∧ ((waveOf rq.payload).segs.getLast?.map segLevel).getD 0 ≠ 0)
    Rc.waveNotAtRest Cls.waveform (fun rq => fld rq.payload 0 1)
  ∧
  StagesAs .waveProfileSet waveProfileSetCmd (fun _ => 20)
    (fun rq _ => (∀ f ∈ profileFields rq.payload, f.1 = true) ∧ fld rq.payload 4 1 = 0)
    (fun rq _ => .profile (fld rq.payload 0 1) (fld rq.payload 1 1) (profileOf rq.payload))
  ∧
  Denies .waveProfileSet waveProfileSetCmd (fun _ => 20)
    (fun rq _ => (∀ f ∈ profileFields rq.payload, f.1 = true) ∧ fld rq.payload 4 1 ≠ 0)
    Rc.code0NotEmpty Cls.bar (fun rq => fld rq.payload 0 1)
  ∧
  StagesAs .waveBarSet waveBarSetCmd (fun _ => 4)
    (fun rq _ => fld rq.payload 0 1 < 16)
    (fun rq _ => .waveBar (fld rq.payload 0 1) { tickleWave := fld rq.payload 1 1, tickleWindows := BitVec.ofNat 8 (fld rq.payload 2 1) })
  ∧
  StagesAs .waveChannelSet waveChannelSetCmd (fun _ => 8)
    (fun rq v => (∀ f ∈ channelFields rq.payload, f.1 = true) ∧ ((channelOf rq.payload).enable = true → overlapOf ((v.view rq.mbx.val).apply (.channel (fld rq.payload 0 1) (channelOf rq.payload))) (fld rq.payload 0 1) = none))
    (fun rq _ => .channel (fld rq.payload 0 1) (channelOf rq.payload))
  ∧
  StagesAs .waveDacSet waveDacSetCmd (fun _ => 12)
    (fun rq v => (∀ f ∈ dacFields rq.payload, f.1 = true) ∧ ((dacOf rq.payload).enable = true → overlapOf ((v.view rq.mbx.val).apply (.dac (fld rq.payload 0 1) (dacOf rq.payload))) (128 + fld rq.payload 0 1) = none))
    (fun rq _ => .dac (fld rq.payload 0 1) (dacOf rq.payload))
  ∧
  StagesAs .waveCurveSet waveCurveSetCmd (fun _ => 132)
    (fun rq _ => (∀ f ∈ curveFields rq.payload, f.1 = true) ∧ curveOrdered (curveOf rq.payload).points = true)
    (fun rq _ => .curve (fld rq.payload 0 1) (fld rq.payload 1 1) (curveOf rq.payload))
  ∧
  Denies .waveCurveSet waveCurveSetCmd (fun _ => 132)
    (fun rq _ => (∀ f ∈ curveFields rq.payload, f.1 = true) ∧ curveOrdered (curveOf rq.payload).points = false)
    Rc.curveOrder Cls.waveChannel (fun rq => fld rq.payload 0 1)

/-- Staged commands of PLANE, CANE and HEALTH: what each staged command adds to its set, and what it
refuses. Readings and choices of the model: log 44, 87. (R217, R221, R295, R303, R308, R311, R314, R316,
R319.) -/
def Obligations.RasterCaneAndHealthStage : Prop :=
  StagesAs .planeDefine planeDefineCmd (fun _ => 40)
    (fun rq v => (∀ f ∈ planeFields rq.payload, f.1 = true) ∧ v.planeBound (fld rq.payload 0 1) = false ∧ areaReserved (planeOf rq.payload).areaBase (planeOf rq.payload).areaLimit = false ∧ (planeOf rq.payload).areaBase + indexBytes (planeOf rq.payload) < (planeOf rq.payload).areaLimit ∧ areaHit (v.view rq.mbx.val) v.inForce (planeOf rq.payload).areaBase (planeOf rq.payload).areaLimit (some (fld rq.payload 0 1)) none = none)
    (fun rq _ => .plane (fld rq.payload 0 1) (planeOf rq.payload))
  ∧
  Denies .planeDefine planeDefineCmd (fun _ => 40)
    (fun rq v => (∀ f ∈ planeFields rq.payload, f.1 = true) ∧ v.planeBound (fld rq.payload 0 1) = true)
    Rc.planeBound Cls.plane (fun rq => fld rq.payload 0 1)
  ∧
  Denies .planeDefine planeDefineCmd (fun _ => 40)
    (fun rq v => (∀ f ∈ planeFields rq.payload, f.1 = true) ∧ v.planeBound (fld rq.payload 0 1) = false ∧ areaReserved (planeOf rq.payload).areaBase (planeOf rq.payload).areaLimit = true)
    Rc.areaReserved Cls.plane (fun rq => fld rq.payload 0 1)
  ∧
  Denies .planeDefine planeDefineCmd (fun _ => 40)
    (fun rq v => (∀ f ∈ planeFields rq.payload, f.1 = true) ∧ v.planeBound (fld rq.payload 0 1) = false ∧ areaReserved (planeOf rq.payload).areaBase (planeOf rq.payload).areaLimit = false ∧ (planeOf rq.payload).areaLimit ≤ (planeOf rq.payload).areaBase + indexBytes (planeOf rq.payload))
    Rc.areaTooSmall Cls.plane (fun rq => fld rq.payload 0 1)
  ∧
  StagesAs .planeRingSet planeRingSetCmd (fun _ => 16)
    (fun rq v => (∀ f ∈ ringFields rq.payload, f.1 = true) ∧ v.barEnabled (fld rq.payload 0 1) = false ∧ areaReserved ({ depth := fld rq.payload 2 2, base := fld rq.payload 8 8 } : RingRec).base (({ depth := fld rq.payload 2 2, base := fld rq.payload 8 8 } : RingRec).base + 4096) = false ∧ (ringSpan v.inForce (fld rq.payload 0 1) ({ depth := fld rq.payload 2 2, base := fld rq.payload 8 8 } : RingRec)).2 ≤ hbmUserEnd ∧ areaHit (v.view rq.mbx.val) v.inForce (ringSpan v.inForce (fld rq.payload 0 1) ({ depth := fld rq.payload 2 2, base := fld rq.payload 8 8 } : RingRec)).1 (ringSpan v.inForce (fld rq.payload 0 1) ({ depth := fld rq.payload 2 2, base := fld rq.payload 8 8 } : RingRec)).2 none (some (fld rq.payload 0 1)) = none)
    (fun rq _ => .ring (fld rq.payload 0 1) ({ depth := fld rq.payload 2 2, base := fld rq.payload 8 8 } : RingRec))
  ∧
  Denies .planeRingSet planeRingSetCmd (fun _ => 16)
    (fun rq v => (∀ f ∈ ringFields rq.payload, f.1 = true) ∧ v.barEnabled (fld rq.payload 0 1) = true)
    Rc.ringLocked Cls.bar (fun rq => fld rq.payload 0 1)
  ∧
  StagesAs .canePortSet canePortSetCmd (fun _ => 8)
    (fun rq v => (∀ f ∈ portFields rq.payload, f.1 = true) ∧ ((portOf rq.payload).enable = false → (portRec v.inForce (fld rq.payload 0 1)).enable = true → v.portInUse (fld rq.payload 0 1) = false))
    (fun rq _ => .port (fld rq.payload 0 1) (portOf rq.payload))
  ∧
  Denies .canePortSet canePortSetCmd (fun _ => 8)
    (fun rq v => (∀ f ∈ portFields rq.payload, f.1 = true) ∧ (portOf rq.payload).enable = false ∧ (portRec v.inForce (fld rq.payload 0 1)).enable = true ∧ v.portInUse (fld rq.payload 0 1) = true)
    Rc.portInUse Cls.canePort (fun rq => fld rq.payload 0 1)
  ∧
  StagesAs .healthPolicySet healthPolicySetCmd (fun _ => 16)
    (fun rq _ => (∀ f ∈ policyFields rq.payload, f.1 = true))
    (fun rq _ => .policy (fld rq.payload 0 1) (policyOf rq.payload))
  ∧
  StagesAs .healthRefSet healthRefSetCmd (fun _ => 8)
    (fun rq v => (∀ f ∈ refFields rq.payload, f.1 = true) ∧ fld rq.payload 1 1 < (headRec (v.view rq.mbx.val) (fld rq.payload 0 1)).rows)
    (fun rq _ => .ref (fld rq.payload 0 1) (fld rq.payload 1 1) (refOf rq.payload))
  ∧
  Denies .healthRefSet healthRefSetCmd (fun _ => 8)
    (fun rq v => (∀ f ∈ refFields rq.payload, f.1 = true) ∧ (headRec (v.view rq.mbx.val) (fld rq.payload 0 1)).rows ≤ fld rq.payload 1 1)
    Rc.rowNotInHead Cls.head (fun rq => fld rq.payload 0 1)
  ∧
  StagesAs .healthSubstSet healthSubstSetCmd (fun rq => healthSubstSetSize rq)
    (fun rq v => 1 ≤ fld rq.payload 0 2 ∧ fld rq.payload 0 2 ≤ 41 ∧ (∀ k < fld rq.payload 0 2, ∀ f ∈ substFields rq.payload (8 + 24 * k), f.1 = true) ∧ substsDefect v.inForce (v.view rq.mbx.val) ((List.range (fld rq.payload 0 2)).map (fun k => substOf rq.payload (8 + 24 * k))) = none)
    (fun rq _ => .substs ((List.range (fld rq.payload 0 2)).map (fun k => substOf rq.payload (8 + 24 * k))))
  ∧
  StagesAs .healthSubstClear healthSubstClearCmd (fun rq => nozzleListSize rq)
    (fun rq v => (∀ f ∈ plainListFields rq.payload, f.1 = true) ∧ (∀ id ∈ nozzleIds rq.payload, ((Table.find? (v.view rq.mbx.val).substs id).isSome = true ∨ (Table.find? v.inForce.substs id).isSome = true)
        ∧ recHeld (v.record id) = false))
    (fun rq _ => .substClear (nozzleIds rq.payload))
  ∧
  StagesAs .healthTempSet healthTempSetCmd (fun _ => 16)
    (fun rq _ => (∀ f ∈ tempFields rq.payload, f.1 = true))
    (fun rq _ => .temp (fld rq.payload 0 1) (tempOf rq.payload))
  ∧
  (∀ m rq s, Serves healthReportOutCmd (nozzleListSize rq) rq (s.clock m) →
    1 ≤ fld rq.payload 0 2 → fld rq.payload 0 2 ≤ 250 → fld rq.payload 2 1 < 3 → bit (fld rq.payload 3 1) 0 = false →
    (∀ f ∈ (nozzleListFields rq.payload).drop 1, f.1 = true) →
    ∀ v, v = (s.clock m).served healthReportOutCmd rq →
    ∀ r, r = v.reportOuts rq.mbx.val (reportClass (fld rq.payload 2 1)) (nozzleIds rq.payload) →
    Stages rq (.outs r.2.1 r.2.2) (s.clock m) →
    exec (.healthReportOut m rq) s = .next (r.1.stagedFor rq (.outs r.2.1 r.2.2)))

/-- Staged commands of MEM, POWER, BIST and LOG: what each staged command adds to its set, and what it
refuses. Readings and choices of the model: log 44. (R369, R403, R410, R417, R475, R484.) -/
def Obligations.MemoryPowerBistAndLogStage : Prop :=
  StagesAs .memScrubSet memScrubSetCmd (fun _ => 8)
    (fun rq _ => (∀ f ∈ scrubFields rq.payload, f.1 = true))
    (fun rq _ => .scrub (scrubOf rq.payload))
  ∧
  StagesAs .powerPolicySet powerPolicySetCmd (fun _ => 12)
    (fun _ _ => True)
    (fun rq _ => .power (powerOf rq.payload))
  ∧
  StagesAs .powerHvSet powerHvSetCmd (fun _ => 8)
    (fun rq _ => (∀ f ∈ hvFields rq.payload, f.1 = true))
    (fun rq _ => .hv (fld rq.payload 0 1) (hvOf rq.payload))
  ∧
  StagesAs .powerThermSet powerThermSetCmd (fun _ => 12)
    (fun rq _ => fld rq.payload 0 1 < 2 ∧ thermInRange (fld rq.payload 0 1) (thermOf rq.payload) = true ∧ (thermOf rq.payload).warning ≤ (thermOf rq.payload).throttle ∧ (thermOf rq.payload).throttle + 8 < (thermOf rq.payload).shutdown)
    (fun rq _ => .therm (fld rq.payload 0 1) (thermOf rq.payload))
  ∧
  Denies .powerThermSet powerThermSetCmd (fun _ => 12)
    (fun rq _ => fld rq.payload 0 1 < 2 ∧ thermInRange (fld rq.payload 0 1) (thermOf rq.payload) = false)
    Rc.thermLimit 0 (fun _ => 0)
  ∧
  Denies .powerThermSet powerThermSetCmd (fun _ => 12)
    (fun rq _ => fld rq.payload 0 1 < 2 ∧ thermInRange (fld rq.payload 0 1) (thermOf rq.payload) = true ∧ ((thermOf rq.payload).throttle < (thermOf rq.payload).warning ∨ (thermOf rq.payload).shutdown ≤ (thermOf rq.payload).throttle + 8))
    Rc.thermOrder 0 (fun _ => 0)
  ∧
  StagesAs .bistConfig bistConfigCmd (fun _ => 4)
    (fun rq v => (fld rq.payload 0 2 = 0 ∧ v.otp.lc ≠ .oem ∧ v.otp.lc ≠ .field ∨ 5 ≤ fld rq.payload 0 2 ∧ fld rq.payload 0 2 ≤ 1440))
    (fun rq _ => .bistPeriod (fld rq.payload 0 2))
  ∧
  Denies .bistConfig bistConfigCmd (fun _ => 4)
    (fun rq v => fld rq.payload 0 2 = 0 ∧ (v.otp.lc = .oem ∨ v.otp.lc = .field))
    Rc.notPermittedInLifecycle 0 (fun _ => 0)
  ∧
  StagesAs .logConfig logConfigCmd (fun _ => 4)
    (fun rq _ => fld rq.payload 0 1 < 2)
    (fun rq _ => .logMode (fld rq.payload 0 1 == 1))

/-- Actions of SYS, CFG and GEOM.COVERAGE: what each command makes of the state and answers, and what it
refuses. Readings and choices of the model: log 33, 42. (R92, R121.) -/
def Obligations.SystemCommandsAct : Prop :=
  Acts .sysPause sysPauseCmd (fun _ => 0)
    (fun _ v => v.logRefuses = false ∧ v.sys = .printing)
    (fun rq v => (v.logOpen { origin := .mbx rq.mbx.val }).requestEvent .paused (.mbx rq.mbx.val))
  ∧
  Acts .sysPause sysPauseCmd (fun _ => 0)
    (fun _ v => v.logRefuses = false ∧ v.sys ≠ .printing)
    (fun rq v => (v.logOpen { origin := .mbx rq.mbx.val }))
  ∧
  Accepts .sysResume sysResumeCmd (fun _ => 0)
    (fun _ v => v.logRefuses = false)
    (fun rq v => { (v.logOpen { origin := .mbx rq.mbx.val }) with checks := v.checks ++ [.resume (v.waiterOf rq 0x0004)] })
  ∧
  Acts .sysReset sysResetCmd (fun _ => 4)
    (fun rq v => v.logRefuses = false ∧ fld rq.payload 0 4 = 0xC0DE2096)
    (fun rq v => { (v.logOpen { origin := .mbx rq.mbx.val }) with power := { v.power with resetAt := some (v.aon + 1024, rq.mbx.val) } })
  ∧
  Denies .sysReset sysResetCmd (fun _ => 4)
    (fun rq _ => fld rq.payload 0 4 ≠ 0xC0DE2096)
    Rc.badValue 0 (fun _ => 0)
  ∧
  Answers .cfgDiscard cfgDiscardCmd (fun _ => 0)
    (fun _ _ => True)
    (fun rq v => v.setSset rq.mbx.val { v.sset rq.mbx.val with staged := [] })
    (fun rq v p => p = le 2 (v.sset rq.mbx.val).staged.length ++ zeros 2)
  ∧
  Accepts .cfgCheck cfgCheckCmd (fun _ => 4)
    (fun rq _ => fld rq.payload 0 1 < 2 ∧ fld rq.payload 1 1 < 2)
    (fun rq v => { v with checks := v.checks ++
      [.cfg (v.waiterOf rq 0x0104) (fld rq.payload 0 1 == 0) (fld rq.payload 1 1 == 1) (BitVec.ofNat 16 (fld rq.payload 2 2))] })
  ∧
  Accepts .geomCoverage geomCoverageCmd (fun _ => 4)
    (fun rq _ => fld rq.payload 0 1 < 16)
    (fun rq v => { v with coverRuns := v.coverRuns ++ [((v.waiterOf rq 0x020A), fld rq.payload 0 1, coverageOf v.inForce (fld rq.payload 0 1))] })

/-- Actions of AXIS: what each command makes of the state and answers, and what it refuses. Readings and
choices of the model: log 58, 163. (R138, R144.) -/
def Obligations.AxisCommandsAct : Prop :=
  Acts .axisPreset axisPresetCmd (fun _ => 8)
    (fun rq v => fld rq.payload 0 1 < 8 ∧ v.axisInUse (fld rq.payload 0 1) = false ∧ (axisRec v.inForce (fld rq.payload 0 1)).ssi = false ∧ fld rq.payload 1 1 = 0 ∧ v.logRefuses = false ∧ v.pair.state ≠ .paired)
    (fun rq v => (v.setAxis (fld rq.payload 0 1) { presetAxis (v.axis (fld rq.payload 0 1)) (BitVec.ofNat 32 (fld rq.payload 4 4)) with preset := (v.axis (fld rq.payload 0 1)).preset }).logOpen { origin := .mbx rq.mbx.val, cls := Cls.axis, obj := fld rq.payload 0 1 })
  ∧
  Denies .axisPreset axisPresetCmd (fun _ => 8)
    (fun rq v => fld rq.payload 0 1 < 8 ∧ v.axisInUse (fld rq.payload 0 1) = false ∧ (axisRec v.inForce (fld rq.payload 0 1)).ssi = false ∧ fld rq.payload 1 1 = 0 ∧ v.pair.state = .paired)
    Rc.presetNeedsIndex Cls.axis (fun rq => fld rq.payload 0 1)
  ∧
  Acts .axisPreset axisPresetCmd (fun _ => 8)
    (fun rq v => fld rq.payload 0 1 < 8 ∧ v.axisInUse (fld rq.payload 0 1) = false ∧ (axisRec v.inForce (fld rq.payload 0 1)).ssi = false ∧ fld rq.payload 1 1 = 1 ∧ v.pair.state ≠ .paired ∧ v.pair.state ≠ .syncing)
    (fun rq v => v.setAxis (fld rq.payload 0 1) { v.axis (fld rq.payload 0 1) with preset := some ((BitVec.ofNat 32 (fld rq.payload 4 4)), some rq.mbx.val) })
  ∧
  Acts .axisPreset axisPresetCmd (fun _ => 8)
    (fun rq v => fld rq.payload 0 1 < 8 ∧ v.axisInUse (fld rq.payload 0 1) = false ∧ (axisRec v.inForce (fld rq.payload 0 1)).ssi = false ∧ fld rq.payload 1 1 = 1 ∧ (v.pair.state = .paired ∨ v.pair.state = .syncing))
    (fun rq v => (v.setAxis (fld rq.payload 0 1) { v.axis (fld rq.payload 0 1) with preset := some ((BitVec.ofNat 32 (fld rq.payload 4 4)), some rq.mbx.val) }).emit (.control (.preset (fld rq.payload 0 1) (some (BitVec.ofNat 32 (fld rq.payload 4 4))))))
  ∧
  Acts .axisPreset axisPresetCmd (fun _ => 8)
    (fun rq v => fld rq.payload 0 1 < 8 ∧ v.axisInUse (fld rq.payload 0 1) = false ∧ (axisRec v.inForce (fld rq.payload 0 1)).ssi = false ∧ fld rq.payload 1 1 = 2 ∧ (v.axis (fld rq.payload 0 1)).preset = none ∧ v.pair.state ≠ .paired ∧ v.pair.state ≠ .syncing)
    (fun _ v => v)
  ∧
  Acts .axisPreset axisPresetCmd (fun _ => 8)
    (fun rq v => fld rq.payload 0 1 < 8 ∧ v.axisInUse (fld rq.payload 0 1) = false ∧ (axisRec v.inForce (fld rq.payload 0 1)).ssi = false ∧ fld rq.payload 1 1 = 2 ∧ v.logRefuses = false ∧ v.pair.state ≠ .paired ∧ v.pair.state ≠ .syncing)
    (fun rq v => v.cancelPreset (fld rq.payload 0 1) (.mbx rq.mbx.val))
  ∧
  Acts .axisPreset axisPresetCmd (fun _ => 8)
    (fun rq v => fld rq.payload 0 1 < 8 ∧ v.axisInUse (fld rq.payload 0 1) = false ∧ (axisRec v.inForce (fld rq.payload 0 1)).ssi = false ∧ fld rq.payload 1 1 = 2 ∧ v.logRefuses = false ∧ (v.pair.state = .paired ∨ v.pair.state = .syncing))
    (fun rq v => (v.cancelPreset (fld rq.payload 0 1) (.mbx rq.mbx.val)).emit (.control (.preset (fld rq.payload 0 1) none)))
  ∧
  Denies .axisPreset axisPresetCmd (fun _ => 8)
    (fun rq v => fld rq.payload 0 1 < 8 ∧ fld rq.payload 1 1 < 3 ∧ v.axisInUse (fld rq.payload 0 1) = true)
    Rc.axisInUse Cls.axis (fun rq => fld rq.payload 0 1)
  ∧
  Denies .axisPreset axisPresetCmd (fun _ => 8)
    (fun rq v => fld rq.payload 0 1 < 8 ∧ fld rq.payload 1 1 < 3 ∧ v.axisInUse (fld rq.payload 0 1) = false ∧ (axisRec v.inForce (fld rq.payload 0 1)).ssi = true)
    Rc.inputMismatch Cls.axis (fun rq => fld rq.payload 0 1)
  ∧
  Acts .axisClear axisClearCmd (fun _ => 4)
    (fun rq _ => fld rq.payload 0 1 < 8 ∧ fld rq.payload 1 1 = 1)
    (fun rq v => v.setAxis (fld rq.payload 0 1) { v.axis (fld rq.payload 0 1) with illegal := 0, mismatches := 0, ssiErrors := 0, indexMismatch := false, prevIndex := none })
  ∧
  Acts .axisClear axisClearCmd (fun _ => 4)
    (fun rq v => fld rq.payload 0 1 < 8 ∧ fld rq.payload 1 1 = 2 ∧ v.logRefuses = false ∧ (v.follows = true → (v.axis (fld rq.payload 0 1)).faultReason = 0) ∧ (v.axis (fld rq.payload 0 1)).motion ≠ .faulted)
    (fun rq v => (v.logOpen { origin := .mbx rq.mbx.val, cls := Cls.axis, obj := fld rq.payload 0 1 }).setAxis (fld rq.payload 0 1) { v.axis (fld rq.payload 0 1) with prevIndex := none })
  ∧
  Acts .axisClear axisClearCmd (fun _ => 4)
    (fun rq v => fld rq.payload 0 1 < 8 ∧ fld rq.payload 1 1 = 3 ∧ v.logRefuses = false ∧ (v.follows = true → (v.axis (fld rq.payload 0 1)).faultReason = 0) ∧ (v.axis (fld rq.payload 0 1)).motion ≠ .faulted)
    (fun rq v => (v.logOpen { origin := .mbx rq.mbx.val, cls := Cls.axis, obj := fld rq.payload 0 1 }).setAxis (fld rq.payload 0 1) { v.axis (fld rq.payload 0 1) with illegal := 0, mismatches := 0, ssiErrors := 0, indexMismatch := false, prevIndex := none })
  ∧
  Acts .axisClear axisClearCmd (fun _ => 4)
    (fun rq v => fld rq.payload 0 1 < 8 ∧ fld rq.payload 1 1 = 2 ∧ v.logRefuses = false ∧ v.follows = false ∧ (v.axis (fld rq.payload 0 1)).motion = .faulted)
    (fun rq v => (((v.logOpen { origin := .mbx rq.mbx.val, cls := Cls.axis, obj := fld rq.payload 0 1 }).setAxis (fld rq.payload 0 1) { v.axis (fld rq.payload 0 1) with
      motion := .stopped, referenced := false, faultReason := 0, ssiPrev := none, ssiConsec := 0
      emptyWindows := 0, fresh := 0, prevIndex := none }).noteMotion (fld rq.payload 0 1)).postMotion (fld rq.payload 0 1))
  ∧
  Acts .axisClear axisClearCmd (fun _ => 4)
    (fun rq v => fld rq.payload 0 1 < 8 ∧ fld rq.payload 1 1 = 3 ∧ v.logRefuses = false ∧ v.follows = false ∧ (v.axis (fld rq.payload 0 1)).motion = .faulted)
    (fun rq v => (((v.logOpen { origin := .mbx rq.mbx.val, cls := Cls.axis, obj := fld rq.payload 0 1 }).setAxis (fld rq.payload 0 1) { v.axis (fld rq.payload 0 1) with
      illegal := 0, mismatches := 0, ssiErrors := 0, indexMismatch := false
      motion := .stopped, referenced := false, faultReason := 0, ssiPrev := none, ssiConsec := 0
      emptyWindows := 0, fresh := 0, prevIndex := none }).noteMotion (fld rq.payload 0 1)).postMotion (fld rq.payload 0 1))
  ∧
  Acts .axisClear axisClearCmd (fun _ => 4)
    (fun rq v => fld rq.payload 0 1 < 8 ∧ fld rq.payload 1 1 = 2 ∧ v.logRefuses = false ∧ v.follows = true ∧ ((v.axis (fld rq.payload 0 1)).motion = .faulted ∨ (v.axis (fld rq.payload 0 1)).faultReason ≠ 0))
    (fun rq v => (v.logOpen { origin := .mbx rq.mbx.val, cls := Cls.axis, obj := fld rq.payload 0 1 }).setAxis (fld rq.payload 0 1) { v.axis (fld rq.payload 0 1) with
      referenced := false, faultReason := 0, ssiPrev := none, ssiConsec := 0
      emptyWindows := 0, fresh := 0, prevIndex := none })
  ∧
  Acts .axisClear axisClearCmd (fun _ => 4)
    (fun rq v => fld rq.payload 0 1 < 8 ∧ fld rq.payload 1 1 = 3 ∧ v.logRefuses = false ∧ v.follows = true ∧ ((v.axis (fld rq.payload 0 1)).motion = .faulted ∨ (v.axis (fld rq.payload 0 1)).faultReason ≠ 0))
    (fun rq v => (v.logOpen { origin := .mbx rq.mbx.val, cls := Cls.axis, obj := fld rq.payload 0 1 }).setAxis (fld rq.payload 0 1) { v.axis (fld rq.payload 0 1) with
      illegal := 0, mismatches := 0, ssiErrors := 0, indexMismatch := false
      referenced := false, faultReason := 0, ssiPrev := none, ssiConsec := 0
      emptyWindows := 0, fresh := 0, prevIndex := none })

/-- Actions of TRIG and WAVE: what each command makes of the state and answers, and what it refuses.
Readings and choices of the model: log 62, 63, 158. (R176, R177, R182, R208.) -/
def Obligations.TriggerAndWaveformCommandsAct : Prop :=
  Accepts .trigSpit trigSpitCmd (fun _ => 8)
    (fun rq v => fld rq.payload 0 1 < 16 ∧ 1 ≤ fld rq.payload 2 2 ∧ 3120 ≤ fld rq.payload 4 4 ∧ v.tgEnabled (fld rq.payload 0 1) = true ∧ (v.barMotion (trigRec v.inForce (fld rq.payload 0 1)).sourceBar) ≠ .forward ∧ (v.barMotion (trigRec v.inForce (fld rq.payload 0 1)).sourceBar) ≠ .settling ∧ (v.trig (fld rq.payload 0 1)).burst = none)
    (fun rq v => v.setTrig (fld rq.payload 0 1) { v.trig (fld rq.payload 0 1) with
      burst := some { waiter := (v.waiterOf rq 0x0405), left := fld rq.payload 2 2, interval := fld rq.payload 4 4 } })
  ∧
  Denies .trigSpit trigSpitCmd (fun _ => 8)
    (fun rq v => fld rq.payload 0 1 < 16 ∧ 1 ≤ fld rq.payload 2 2 ∧ 3120 ≤ fld rq.payload 4 4 ∧ v.tgEnabled (fld rq.payload 0 1) = false)
    Rc.tgNotEnabled Cls.triggerGenerator (fun rq => fld rq.payload 0 1)
  ∧
  Denies .trigSpit trigSpitCmd (fun _ => 8)
    (fun rq v => fld rq.payload 0 1 < 16 ∧ 1 ≤ fld rq.payload 2 2 ∧ 3120 ≤ fld rq.payload 4 4 ∧ v.tgEnabled (fld rq.payload 0 1) = true ∧ ((v.barMotion (trigRec v.inForce (fld rq.payload 0 1)).sourceBar) = .forward ∨ (v.barMotion (trigRec v.inForce (fld rq.payload 0 1)).sourceBar) = .settling))
    Rc.barMoving Cls.triggerGenerator (fun rq => fld rq.payload 0 1)
  ∧
  Denies .trigSpit trigSpitCmd (fun _ => 8)
    (fun rq v => fld rq.payload 0 1 < 16 ∧ 1 ≤ fld rq.payload 2 2 ∧ 3120 ≤ fld rq.payload 4 4 ∧ v.tgEnabled (fld rq.payload 0 1) = true ∧ (v.barMotion (trigRec v.inForce (fld rq.payload 0 1)).sourceBar) ≠ .forward ∧ (v.barMotion (trigRec v.inForce (fld rq.payload 0 1)).sourceBar) ≠ .settling ∧ (v.trig (fld rq.payload 0 1)).burst ≠ none)
    Rc.busy 0 (fun _ => 0)
  ∧
  Acts .trigSpitResume trigSpitResumeCmd (fun _ => 4)
    (fun rq v => fld rq.payload 0 1 < 16 ∧ v.logRefuses = false ∧ v.tgEnabled (fld rq.payload 0 1) = true ∧ (v.rbar (v.inForce.sourceBar (fld rq.payload 0 1))).dryHold = true ∧ (v.rbar (v.inForce.sourceBar (fld rq.payload 0 1))).spitSince = true)
    (fun rq v => (v.setRbar (v.inForce.sourceBar (fld rq.payload 0 1)) { v.rbar (v.inForce.sourceBar (fld rq.payload 0 1)) with dryHold := false, dryRisk := false, spitSince := false }).trigoutLevels.logOpen
      { origin := .mbx rq.mbx.val, cls := Cls.triggerGenerator, obj := fld rq.payload 0 1 })
  ∧
  Denies .trigSpitResume trigSpitResumeCmd (fun _ => 4)
    (fun rq v => fld rq.payload 0 1 < 16 ∧ v.tgEnabled (fld rq.payload 0 1) = false)
    Rc.tgNotEnabled Cls.triggerGenerator (fun rq => fld rq.payload 0 1)
  ∧
  Denies .trigSpitResume trigSpitResumeCmd (fun _ => 4)
    (fun rq v => fld rq.payload 0 1 < 16 ∧ v.tgEnabled (fld rq.payload 0 1) = true ∧ (v.rbar (v.inForce.sourceBar (fld rq.payload 0 1))).dryHold = false)
    Rc.notHeld Cls.triggerGenerator (fun rq => fld rq.payload 0 1)
  ∧
  Denies .trigSpitResume trigSpitResumeCmd (fun _ => 4)
    (fun rq v => fld rq.payload 0 1 < 16 ∧ v.tgEnabled (fld rq.payload 0 1) = true ∧ (v.rbar (v.inForce.sourceBar (fld rq.payload 0 1))).dryHold = true ∧ (v.rbar (v.inForce.sourceBar (fld rq.payload 0 1))).spitSince = false)
    Rc.spitRequired Cls.triggerGenerator (fun rq => fld rq.payload 0 1)
  ∧
  Acts .trigClear trigClearCmd (fun _ => 4)
    (fun rq _ => fld rq.payload 0 1 < 16 ∧ fld rq.payload 1 1 = 1)
    (fun rq v => v.setTrig (fld rq.payload 0 1) { v.trig (fld rq.payload 0 1) with
      ticketed := 0, overspeed := 0, missed := 0, late := 0, engineLate := 0, suppressed := 0, dryDropped := 0
      corrections := 0, clamped := 0, holdLate := 0, indexAdjusted := 0, spits := 0 })
  ∧
  Acts .waveClear waveClearCmd (fun _ => 4)
    (fun rq _ => fld rq.payload 0 1 < 136 ∧ fld rq.payload 1 1 = 1)
    (fun rq v => v.setChan (fld rq.payload 0 1) { v.chan (fld rq.payload 0 1) with fires := 0, clipped := 0, blocked := 0 })

/-- Actions of PLANE, and its status: what each command makes of the state and answers, and what it refuses.
Readings and choices of the model: log 77. (R235, R238.) -/
def Obligations.PlaneCommandsAct : Prop :=
  Acts .planeIndexWrite planeIndexWriteCmd (fun rq => planeIndexWriteSize rq)
    (fun rq v => fld rq.payload 0 1 < 64 ∧ 1 ≤ fld rq.payload 2 2 ∧ fld rq.payload 2 2 ≤ 62 ∧ (match Table.find? v.inForce.planes (fld rq.payload 0 1) with
        | some r => fld rq.payload 4 4 + fld rq.payload 2 2 ≤ planeBlocks r
        | none => False))
    (fun rq v => (match Table.find? v.inForce.planes (fld rq.payload 0 1) with
      | some r => v.areaWrite (r.areaBase + 16 * fld rq.payload 4 4) ((rq.payload.drop 8).take (16 * fld rq.payload 2 2))
      | none => v))
  ∧
  Denies .planeIndexWrite planeIndexWriteCmd (fun rq => planeIndexWriteSize rq)
    (fun rq v => fld rq.payload 0 1 < 64 ∧ 1 ≤ fld rq.payload 2 2 ∧ fld rq.payload 2 2 ≤ 62 ∧ Table.find? v.inForce.planes (fld rq.payload 0 1) = none)
    Rc.planeUndefined Cls.plane (fun rq => fld rq.payload 0 1)
  ∧
  Denies .planeIndexWrite planeIndexWriteCmd (fun rq => planeIndexWriteSize rq)
    (fun rq v => fld rq.payload 0 1 < 64 ∧ 1 ≤ fld rq.payload 2 2 ∧ fld rq.payload 2 2 ≤ 62 ∧ (match Table.find? v.inForce.planes (fld rq.payload 0 1) with
        | some r => planeBlocks r < fld rq.payload 4 4 + fld rq.payload 2 2
        | none => False))
    Rc.indexRange 0 (fun _ => 0)
  ∧
  Answers .planeStatus planeStatusCmd (fun _ => 4)
    (fun rq _ => fld rq.payload 0 1 = 0 ∧ fld rq.payload 2 2 < 64)
    (fun _ v => { v with fresh := v.fresh + 1 })
    (fun rq v p => p = planeStatusBytes v (fld rq.payload 2 2))
  ∧
  Answers .planeStatus planeStatusCmd (fun _ => 4)
    (fun rq _ => fld rq.payload 0 1 = 1 ∧ fld rq.payload 2 2 < 16)
    (fun _ v => { v with fresh := v.fresh + 1 })
    (fun rq v p => p = ringStatusBytes v (fld rq.payload 2 2))
  ∧
  Acts .planeRetry planeRetryCmd (fun _ => 4)
    (fun rq v => fld rq.payload 0 1 < 64 ∧ (v.plane (fld rq.payload 0 1)).halted ≠ none)
    (fun rq v => v.setPlane (fld rq.payload 0 1) { v.plane (fld rq.payload 0 1) with retry := true })
  ∧
  Acts .planeRetry planeRetryCmd (fun _ => 4)
    (fun rq v => fld rq.payload 0 1 < 64 ∧ (v.plane (fld rq.payload 0 1)).halted = none)
    (fun _ v => v)
  ∧
  Acts .planeClear planeClearCmd (fun _ => 4)
    (fun rq _ => fld rq.payload 0 1 = 0 ∧ fld rq.payload 1 1 = 1 ∧ fld rq.payload 2 2 < 64)
    (fun rq v => v.setPlane (fld rq.payload 2 2) { v.plane (fld rq.payload 2 2) with validated := 0, bad := 0, peerRepairs := 0 })
  ∧
  Acts .planeClear planeClearCmd (fun _ => 4)
    (fun rq _ => fld rq.payload 0 1 = 1 ∧ fld rq.payload 1 1 = 1 ∧ fld rq.payload 2 2 < 16)
    (fun rq v => v.setRbar (fld rq.payload 2 2) { v.rbar (fld rq.payload 2 2) with starved := 0, mispredicted := 0, ringUncorrectable := 0, linesPrepared := 0 })

/-- Actions of PLAIT and CANE: what each command makes of the state and answers, and what it refuses.
Readings and choices of the model: log 40. (R257, R262, R263, R295.) -/
def Obligations.CodecAndCaneCommandsAct : Prop :=
  Acts .plaitSessionOpen plaitSessionOpenCmd (fun _ => 8)
    (fun rq v => fld rq.payload 0 1 < 16 ∧ fld rq.payload 1 1 < 64 ∧ (v.session (fld rq.payload 0 1)).state = .closed ∧ (match Table.find? v.inForce.planes (fld rq.payload 1 1) with
        | some r => fld rq.payload 4 4 < planeRows r
        | none => False))
    (fun rq v => v.setSession (fld rq.payload 0 1)
      { state := .opened, plane := fld rq.payload 1 1, captured := Table.find? v.inForce.planes (fld rq.payload 1 1), empties := bit (fld rq.payload 2 1) 0
        storedOnly := bit (fld rq.payload 2 1) 1, nextRow := fld rq.payload 4 4 })
  ∧
  Denies .plaitSessionOpen plaitSessionOpenCmd (fun _ => 8)
    (fun rq v => fld rq.payload 0 1 < 16 ∧ fld rq.payload 1 1 < 64 ∧ (v.session (fld rq.payload 0 1)).state ≠ .closed)
    Rc.sessionInUse 0 (fun _ => 0)
  ∧
  Denies .plaitSessionOpen plaitSessionOpenCmd (fun _ => 8)
    (fun rq v => fld rq.payload 0 1 < 16 ∧ fld rq.payload 1 1 < 64 ∧ (v.session (fld rq.payload 0 1)).state = .closed ∧ Table.find? v.inForce.planes (fld rq.payload 1 1) = none)
    Rc.planeUndefined Cls.plane (fun rq => fld rq.payload 1 1)
  ∧
  Denies .plaitSessionOpen plaitSessionOpenCmd (fun _ => 8)
    (fun rq v => fld rq.payload 0 1 < 16 ∧ fld rq.payload 1 1 < 64 ∧ (v.session (fld rq.payload 0 1)).state = .closed ∧ (match Table.find? v.inForce.planes (fld rq.payload 1 1) with
        | some r => planeRows r ≤ fld rq.payload 4 4
        | none => False))
    Rc.startRowRange 0 (fun _ => 0)
  ∧
  Answers .plaitSessionEnd plaitSessionEndCmd (fun _ => 4)
    (fun rq v => fld rq.payload 0 1 < 16 ∧ v.logRefuses = false ∧ (v.session (fld rq.payload 0 1)).state ≠ .closed ∧ (v.session (fld rq.payload 0 1)).port = none)
    (fun rq v => v.endSession (fld rq.payload 0 1))
    (fun rq v p => p = le 4 (v.session (fld rq.payload 0 1)).raw.length)
  ∧
  Denies .plaitSessionEnd plaitSessionEndCmd (fun _ => 4)
    (fun rq v => fld rq.payload 0 1 < 16 ∧ (v.session (fld rq.payload 0 1)).state = .closed)
    Rc.sessionNotOpen 0 (fun _ => 0)
  ∧
  Denies .plaitSessionEnd plaitSessionEndCmd (fun _ => 4)
    (fun rq v => fld rq.payload 0 1 < 16 ∧ (v.session (fld rq.payload 0 1)).state ≠ .closed ∧ (v.session (fld rq.payload 0 1)).port ≠ none)
    Rc.sessionBound 0 (fun _ => 0)
  ∧
  Accepts .plaitVerify plaitVerifyCmd (fun _ => 12)
    (fun rq v => fld rq.payload 0 1 < 64 ∧ 1 ≤ fld rq.payload 8 4 ∧ (match Table.find? v.inForce.planes (fld rq.payload 0 1) with
        | some r => fld rq.payload 4 4 + fld rq.payload 8 4 ≤ planeBlocks r
        | none => False))
    (fun rq v => { v with plait := { v.plait with
      jobs := v.plait.jobs ++ [((v.waiterOf rq 0x0703), true, fld rq.payload 0 1, fld rq.payload 4 4, fld rq.payload 8 4)] } })
  ∧
  Denies .plaitVerify plaitVerifyCmd (fun _ => 12)
    (fun rq v => fld rq.payload 0 1 < 64 ∧ 1 ≤ fld rq.payload 8 4 ∧ (match Table.find? v.inForce.planes (fld rq.payload 0 1) with
        | some r => planeBlocks r < fld rq.payload 4 4 + fld rq.payload 8 4
        | none => False))
    Rc.indexRange 0 (fun _ => 0)
  ∧
  Accepts .plaitDecode plaitDecodeCmd (fun _ => 16)
    (fun rq v => fld rq.payload 0 1 < 64 ∧ (match Table.find? v.inForce.planes (fld rq.payload 0 1) with
        | some r => fld rq.payload 4 4 + 1 ≤ planeBlocks r ∧ destOk v.inForce (fld rq.payload 8 8) (blockBytes r (fld rq.payload 4 4)) = true
        | none => False))
    (fun rq v => { v with plait := { v.plait with
      jobs := v.plait.jobs ++ [((v.waiterOf rq 0x0705), false, fld rq.payload 0 1, fld rq.payload 4 4, fld rq.payload 8 8)] } })
  ∧
  Denies .plaitDecode plaitDecodeCmd (fun _ => 16)
    (fun rq v => fld rq.payload 0 1 < 64 ∧ (match Table.find? v.inForce.planes (fld rq.payload 0 1) with
        | some r => fld rq.payload 4 4 + 1 ≤ planeBlocks r ∧ destOk v.inForce (fld rq.payload 8 8) (blockBytes r (fld rq.payload 4 4)) = false
        | none => False))
    Rc.destRange 0 (fun _ => 0)
  ∧
  Acts .plaitClear plaitClearCmd (fun _ => 4)
    (fun rq _ => fld rq.payload 0 1 = 1)
    (fun _ v => { v with plait := { v.plait with
      decoded := 0, failed := 0, suspensions := 0, parks := 0, compressed := 0, storedBlocks := 0
      bytesDecoded := 0, bytesIn := 0 } })
  ∧
  Acts .caneRetrain caneRetrainCmd (fun _ => 4)
    (fun rq v => fld rq.payload 0 1 < 32 ∧ v.logRefuses = false ∧ (v.port (fld rq.payload 0 1)).state = .off)
    (fun rq v => (v.logOpen { origin := .mbx rq.mbx.val, cls := Cls.canePort, obj := fld rq.payload 0 1 }))
  ∧
  Acts .caneRetrain caneRetrainCmd (fun _ => 4)
    (fun rq v => fld rq.payload 0 1 < 32 ∧ v.logRefuses = false ∧ (v.port (fld rq.payload 0 1)).state ≠ .off ∧ v.portInUse (fld rq.payload 0 1) = true ∧ (v.port (fld rq.payload 0 1)).state = .up ∧ ((v.logOpen { origin := .mbx rq.mbx.val, cls := Cls.canePort, obj := fld rq.payload 0 1 }).losePort (fld rq.payload 0 1)).linkRuns = true)
    (fun rq v => ((v.logOpen { origin := .mbx rq.mbx.val, cls := Cls.canePort, obj := fld rq.payload 0 1 }).losePort (fld rq.payload 0 1)).startTraining (fld rq.payload 0 1))
  ∧
  Acts .caneRetrain caneRetrainCmd (fun _ => 4)
    (fun rq v => fld rq.payload 0 1 < 32 ∧ v.logRefuses = false ∧ (v.port (fld rq.payload 0 1)).state ≠ .off ∧ (v.port (fld rq.payload 0 1)).state ≠ .up ∧ ((((v.logOpen { origin := .mbx rq.mbx.val, cls := Cls.canePort, obj := fld rq.payload 0 1 }).setPort (fld rq.payload 0 1) { dropTraffic (v.port (fld rq.payload 0 1)) with
      downReason := if (v.port (fld rq.payload 0 1)).state = .up then 0 else (v.port (fld rq.payload 0 1)).downReason }).forgetAwaits (fld rq.payload 0 1)).enterPort (fld rq.payload 0 1) .down 0).linkRuns = true)
    (fun rq v => ((((v.logOpen { origin := .mbx rq.mbx.val, cls := Cls.canePort, obj := fld rq.payload 0 1 }).setPort (fld rq.payload 0 1) { dropTraffic (v.port (fld rq.payload 0 1)) with
      downReason := if (v.port (fld rq.payload 0 1)).state = .up then 0 else (v.port (fld rq.payload 0 1)).downReason }).forgetAwaits (fld rq.payload 0 1)).enterPort (fld rq.payload 0 1) .down 0).startTraining (fld rq.payload 0 1))
  ∧
  Acts .caneClear caneClearCmd (fun _ => 4)
    (fun rq _ => fld rq.payload 0 1 < 32 ∧ fld rq.payload 1 1 = 1)
    (fun rq v => v.setPort (fld rq.payload 0 1) { v.port (fld rq.payload 0 1) with
      framesSent := 0, retransmissions := 0, naks := 0, lateLines := 0, crcErrors := 0, blockErrors := 0
      strobesSent := 0, retrains := 0 })

/-- Actions of HEALTH and PAIR: what each command makes of the state and answers, and what it refuses.
Readings and choices of the model: log 87, 90, 91. (R314, R319, R341, R348.) -/
def Obligations.HealthAndPairCommandsAct : Prop :=
  Acts .healthReportOut healthReportOutCmd (fun rq => nozzleListSize rq)
    (fun rq v => v.logRefuses = false ∧ 1 ≤ fld rq.payload 0 2 ∧ fld rq.payload 0 2 ≤ 250 ∧ fld rq.payload 2 1 < 3 ∧ bit (fld rq.payload 3 1) 0 = true ∧ (∀ f ∈ (nozzleListFields rq.payload).drop 1, f.1 = true))
    (fun rq v => (nozzleIds rq.payload).foldl (fun s id => s.rawResult id (reportClass (fld rq.payload 2 1))) v)
  ∧
  Acts .healthReleaseOut healthReleaseOutCmd (fun rq => nozzleListSize rq)
    (fun rq _ => (∀ f ∈ plainListFields rq.payload, f.1 = true))
    (fun rq v => (nozzleIds rq.payload).foldl (fun s id => s.setRecord id
      (mkRecord 7 (recCandidate (s.record id)) (recCount (s.record id)) false (recLastRaw (s.record id)))) v)
  ∧
  Acts .healthClear healthClearCmd (fun _ => 4)
    (fun rq _ => fld rq.payload 0 1 = 0 ∧ (fld rq.payload 1 1 = 1 ∨ fld rq.payload 1 1 = 3) ∧ fld rq.payload 2 2 < 16)
    (fun rq v => v.setBarStat (fld rq.payload 2 2) {})
  ∧
  Acts .healthClear healthClearCmd (fun _ => 4)
    (fun rq _ => fld rq.payload 0 1 = 0 ∧ fld rq.payload 1 1 = 2 ∧ fld rq.payload 2 2 < 16)
    (fun _ v => v)
  ∧
  Acts .healthClear healthClearCmd (fun _ => 4)
    (fun rq _ => fld rq.payload 0 1 = 1 ∧ fld rq.payload 1 1 = 1 ∧ fld rq.payload 2 2 < 256)
    (fun rq v => v.setHeadStat (fld rq.payload 2 2) {})
  ∧
  Acts .healthClear healthClearCmd (fun _ => 4)
    (fun rq _ => fld rq.payload 0 1 = 1 ∧ fld rq.payload 1 1 = 2 ∧ fld rq.payload 2 2 < 256)
    (fun rq v => v.setHeater (fld rq.payload 2 2) { v.heater (fld rq.payload 2 2) with degraded := false })
  ∧
  Acts .healthClear healthClearCmd (fun _ => 4)
    (fun rq _ => fld rq.payload 0 1 = 1 ∧ fld rq.payload 1 1 = 3 ∧ fld rq.payload 2 2 < 256)
    (fun rq v => (v.setHeadStat (fld rq.payload 2 2) {}).setHeater (fld rq.payload 2 2) { v.heater (fld rq.payload 2 2) with degraded := false })
  ∧
  Acts .pairConfig pairConfigCmd (fun _ => 8)
    (fun rq v => v.logRefuses = false ∧ fld rq.payload 0 1 < 2 ∧ (fld rq.payload 1 1 < 16 ∨ fld rq.payload 1 1 = 0xFF) ∧ fld rq.payload 2 1 < 2 ∧ 16 ≤ fld rq.payload 3 1 ∧ v.inPair = false)
    (fun rq v => { (if v.pair.actGpio = 0xFF ∨ v.pair.actGpio = fld rq.payload 1 1 then v else v.emit (.actGpioOff v.pair.actGpio)) with
      pair := { v.pair with
      hostBoth := fld rq.payload 0 1 == 1, actGpio := fld rq.payload 1 1, actLow := fld rq.payload 2 1 == 1, resyncMatch := fld rq.payload 3 1 } }.driveActGpio.logEntry
      { origin := .mbx rq.mbx.val, old := crc32c (pairConfigBytes v.pair), new := crc32c (pairConfigBytes { v.pair with
      hostBoth := fld rq.payload 0 1 == 1, actGpio := fld rq.payload 1 1, actLow := fld rq.payload 2 1 == 1, resyncMatch := fld rq.payload 3 1 }) })
  ∧
  Acts .pairConfig pairConfigCmd (fun _ => 8)
    (fun rq v => v.logRefuses = false ∧ fld rq.payload 0 1 < 2 ∧ (fld rq.payload 1 1 < 16 ∨ fld rq.payload 1 1 = 0xFF) ∧ fld rq.payload 2 1 < 2 ∧ 16 ≤ fld rq.payload 3 1 ∧ v.inPair = true)
    (fun rq v => ({ (if v.pair.actGpio = 0xFF ∨ v.pair.actGpio = fld rq.payload 1 1 then v else v.emit (.actGpioOff v.pair.actGpio)) with
      pair := { v.pair with
      hostBoth := fld rq.payload 0 1 == 1, actGpio := fld rq.payload 1 1, actLow := fld rq.payload 2 1 == 1, resyncMatch := fld rq.payload 3 1 } }.driveActGpio.logEntry
      { origin := .mbx rq.mbx.val, old := crc32c (pairConfigBytes v.pair), new := crc32c (pairConfigBytes { v.pair with
      hostBoth := fld rq.payload 0 1 == 1, actGpio := fld rq.payload 1 1, actLow := fld rq.payload 2 1 == 1, resyncMatch := fld rq.payload 3 1 }) }).emit
      (.control (.pairConfig (fld rq.payload 0 1 == 1) (fld rq.payload 1 1) (fld rq.payload 2 1 == 1) (fld rq.payload 3 1))))
  ∧
  Acts .pairPromote pairPromoteCmd (fun _ => 0)
    (fun _ v => v.logRefuses = false ∧ v.acting = false ∧ v.hbPresent = false)
    (fun _ v => v.promote Rc.heartbeatLost)
  ∧
  Denies .pairPromote pairPromoteCmd (fun _ => 0)
    (fun _ v => v.acting = true)
    Rc.alreadyActing 0 (fun _ => 0)
  ∧
  Denies .pairPromote pairPromoteCmd (fun _ => 0)
    (fun _ v => v.acting = false ∧ v.hbPresent = true)
    Rc.twinAlive 0 (fun _ => 0)
  ∧
  Accepts .pairResync pairResyncCmd (fun _ => 0)
    (fun _ v => v.logRefuses = false ∧ v.pair.unitS = true ∧ v.pair.promoted = false ∧ (v.pair.state = .paired ∨ v.pair.state = .withdrawn))
    (fun rq v => { { v with pair := { v.pair with resyncFails := 0 } }.startResync 0 with
      pair := { ({ v with pair := { v.pair with resyncFails := 0 } }.startResync 0).pair with
        resyncWaiter := some (v.waiterOf rq 0x0A03) } })
  ∧
  Denies .pairResync pairResyncCmd (fun _ => 0)
    (fun _ v => (v.pair.unitS = false ∨ v.pair.promoted = true ∨ v.pair.state ≠ .paired ∧ v.pair.state ≠ .withdrawn))
    Rc.notPaired 0 (fun _ => 0)
  ∧
  Acts .pairUnpair pairUnpairCmd (fun _ => 0)
    (fun _ v => v.logRefuses = false ∧ v.pairRuns = false)
    (fun rq v => (({ (v.logOpen { origin := .mbx rq.mbx.val }) with pair := { v.pair with noRetrain := true, lanes := 0 } }).ownInputs.unpair 0).resyncDone Rc.resyncFailed)
  ∧
  Acts .pairUnpair pairUnpairCmd (fun _ => 0)
    (fun _ v => v.logRefuses = false ∧ v.pairRuns = true)
    (fun rq v => (({ (v.logOpen { origin := .mbx rq.mbx.val }).emit (.control .unpair) with pair := { v.pair with noRetrain := true, lanes := 0 } }).ownInputs.unpair 0).resyncDone Rc.resyncFailed)
  ∧
  Acts .pairRejoin pairRejoinCmd (fun _ => 0)
    (fun _ v => v.logRefuses = false ∧ v.pair.noRetrain = false ∧ v.pair.state ≠ .incompatible)
    (fun rq v => (v.logOpen { origin := .mbx rq.mbx.val }))
  ∧
  Acts .pairRejoin pairRejoinCmd (fun _ => 0)
    (fun _ v => v.logRefuses = false ∧ v.pair.noRetrain = true ∧ v.pair.state ≠ .incompatible ∧ v.pair.state ≠ .unpaired)
    (fun rq v => { (v.logOpen { origin := .mbx rq.mbx.val }) with pair := { v.pair with noRetrain := false, trainFrom := some v.tick } })
  ∧
  Acts .pairRejoin pairRejoinCmd (fun _ => 0)
    (fun _ v => v.logRefuses = false ∧ v.pair.noRetrain = true ∧ v.pair.state = .unpaired)
    (fun rq v => { (v.logOpen { origin := .mbx rq.mbx.val }) with pair := { v.pair with noRetrain := false, trainFrom := some v.tick } }.setPair .training 0)
  ∧
  Acts .pairRejoin pairRejoinCmd (fun _ => 0)
    (fun _ v => v.logRefuses = false ∧ v.pair.state = .incompatible)
    (fun rq v => { (v.logOpen { origin := .mbx rq.mbx.val }) with pair := { v.pair with noRetrain := false, trainFrom := some v.tick } }.setPair .training 0)

/-- Actions of MEM: what each command makes of the state and answers, and what it refuses. Readings and
choices of the model: log 100, 145. (R357, R363, R365, R369.) -/
def Obligations.MemoryCommandsAct : Prop :=
  Acts .memStakeHandover memStakeHandoverCmd (fun _ => 16)
    (fun rq v => (∀ f ∈ handoverFields rq.payload, f.1 = true) ∧ v.logRefuses = false ∧ fld rq.payload 0 1 = 6 ∧ (((v.mem.stakes.get {} (fld rq.payload 0 1)).owner = some rq.mbx.val) ∨ ((v.mem.stakes.get {} (fld rq.payload 0 1)).owner = none ∧ (if fld rq.payload 1 1 = 0x0F then some (fld rq.payload 4 4) else none) = some rq.mbx.val)) ∧ BitVec.ofNat 32 (fld rq.payload 8 4) = (v.mem.stakes.get {} (fld rq.payload 0 1)).token ∧ ((v.mem.stakes.get {} (fld rq.payload 0 1)).owner = none → v.bist.demand = none) ∧ v.stakeInFlight (v.mem.stakes.get {} (fld rq.payload 0 1)).owner (fld rq.payload 0 1) = false ∧ (bit (fld rq.payload 2 1) 0 = true ∨ (v.mem.stakes.get {} (fld rq.payload 0 1)).owner = none ∨ (if fld rq.payload 1 1 = 0x0F then some (fld rq.payload 4 4) else none) = none))
    (fun rq v => ({ (v.logOpen { origin := .mbx rq.mbx.val, cls := Cls.stakeBank, obj := fld rq.payload 0 1 }) with mem := { v.mem with
      onchip := List.filter (fun (c : Host.Cell) => !(decide ((stakeBase + (fld rq.payload 0 1) * 0x100000) ≤ c.1) && decide (c.1 < (stakeBase + (fld rq.payload 0 1) * 0x100000) + 0x100000))) v.mem.onchip
      poison := unpoison 1 (stakeBase + (fld rq.payload 0 1) * 0x100000) 0x100000 v.mem.poison
      stakes := v.mem.stakes.set (fld rq.payload 0 1) { owner := (if fld rq.payload 1 1 = 0x0F then some (fld rq.payload 4 4) else none), token := BitVec.ofNat 32 (fld rq.payload 12 4) } } }).post
      (ev Ev.stakeHandover Cls.stakeBank (fld rq.payload 0 1) 0
        ((ownerOf (if fld rq.payload 1 1 = 0x0F then some (fld rq.payload 4 4) else none)).1.toNat + 256 * (ownerOf (if fld rq.payload 1 1 = 0x0F then some (fld rq.payload 4 4) else none)).2 + 2 ^ 40 * 1)))
  ∧
  Acts .memStakeHandover memStakeHandoverCmd (fun _ => 16)
    (fun rq v => (∀ f ∈ handoverFields rq.payload, f.1 = true) ∧ v.logRefuses = false ∧ fld rq.payload 0 1 = 6 ∧ (((v.mem.stakes.get {} (fld rq.payload 0 1)).owner = some rq.mbx.val) ∨ ((v.mem.stakes.get {} (fld rq.payload 0 1)).owner = none ∧ (if fld rq.payload 1 1 = 0x0F then some (fld rq.payload 4 4) else none) = some rq.mbx.val)) ∧ BitVec.ofNat 32 (fld rq.payload 8 4) = (v.mem.stakes.get {} (fld rq.payload 0 1)).token ∧ v.stakeInFlight (v.mem.stakes.get {} (fld rq.payload 0 1)).owner (fld rq.payload 0 1) = false ∧ ¬ (bit (fld rq.payload 2 1) 0 = true ∨ (v.mem.stakes.get {} (fld rq.payload 0 1)).owner = none ∨ (if fld rq.payload 1 1 = 0x0F then some (fld rq.payload 4 4) else none) = none))
    (fun rq v => ({ (v.logOpen { origin := .mbx rq.mbx.val, cls := Cls.stakeBank, obj := fld rq.payload 0 1 }) with mem := { v.mem with
      stakes := v.mem.stakes.set (fld rq.payload 0 1) { owner := (if fld rq.payload 1 1 = 0x0F then some (fld rq.payload 4 4) else none), token := BitVec.ofNat 32 (fld rq.payload 12 4) } } }).post
      (ev Ev.stakeHandover Cls.stakeBank (fld rq.payload 0 1) 0
        ((ownerOf (if fld rq.payload 1 1 = 0x0F then some (fld rq.payload 4 4) else none)).1.toNat + 256 * (ownerOf (if fld rq.payload 1 1 = 0x0F then some (fld rq.payload 4 4) else none)).2 + 2 ^ 40 * 0)))
  ∧
  Denies .memStakeHandover memStakeHandoverCmd (fun _ => 16)
    (fun rq _ => (∀ f ∈ handoverFields rq.payload, f.1 = true) ∧ fld rq.payload 0 1 ≠ 6)
    Rc.stakeFixed Cls.stakeBank (fun rq => fld rq.payload 0 1)
  ∧
  DeniesWith .memStakeHandover memStakeHandoverCmd (fun _ => 16)
    (fun rq v => (∀ f ∈ handoverFields rq.payload, f.1 = true) ∧ fld rq.payload 0 1 = 6 ∧ ¬ (((v.mem.stakes.get {} (fld rq.payload 0 1)).owner = some rq.mbx.val) ∨ ((v.mem.stakes.get {} (fld rq.payload 0 1)).owner = none ∧ (if fld rq.payload 1 1 = 0x0F then some (fld rq.payload 4 4) else none) = some rq.mbx.val)))
    Rc.stakeNotOwner Cls.stakeBank (fun rq => fld rq.payload 0 1) (fun rq v => ownerPayload (ownerOf (v.mem.stakes.get {} (fld rq.payload 0 1)).owner).1 (ownerOf (v.mem.stakes.get {} (fld rq.payload 0 1)).owner).2)
  ∧
  Denies .memStakeHandover memStakeHandoverCmd (fun _ => 16)
    (fun rq v => (∀ f ∈ handoverFields rq.payload, f.1 = true) ∧ fld rq.payload 0 1 = 6 ∧ (((v.mem.stakes.get {} (fld rq.payload 0 1)).owner = some rq.mbx.val) ∨ ((v.mem.stakes.get {} (fld rq.payload 0 1)).owner = none ∧ (if fld rq.payload 1 1 = 0x0F then some (fld rq.payload 4 4) else none) = some rq.mbx.val)) ∧ ¬ BitVec.ofNat 32 (fld rq.payload 8 4) = (v.mem.stakes.get {} (fld rq.payload 0 1)).token)
    Rc.stakeToken Cls.stakeBank (fun rq => fld rq.payload 0 1)
  ∧
  Denies .memStakeHandover memStakeHandoverCmd (fun _ => 16)
    (fun rq v => (∀ f ∈ handoverFields rq.payload, f.1 = true) ∧ fld rq.payload 0 1 = 6 ∧ (((v.mem.stakes.get {} (fld rq.payload 0 1)).owner = some rq.mbx.val) ∨ ((v.mem.stakes.get {} (fld rq.payload 0 1)).owner = none ∧ (if fld rq.payload 1 1 = 0x0F then some (fld rq.payload 4 4) else none) = some rq.mbx.val)) ∧ BitVec.ofNat 32 (fld rq.payload 8 4) = (v.mem.stakes.get {} (fld rq.payload 0 1)).token ∧ v.stakeInFlight (v.mem.stakes.get {} (fld rq.payload 0 1)).owner (fld rq.payload 0 1) = true)
    Rc.busy 0 (fun _ => 0)
  ∧
  Accepts .memBankRetire memBankRetireCmd (fun _ => 4)
    (fun rq v => fld rq.payload 0 1 < 32 ∧ v.logRefuses = false ∧ v.bankGoing (fld rq.payload 0 1) = false ∧ v.banksGoing < 4)
    (fun rq v => v.retireBank { bank := fld rq.payload 0 1, origin := .mbx rq.mbx.val, reason := 0, waiter := some (v.waiterOf rq 0x0B04) })
  ∧
  Denies .memBankRetire memBankRetireCmd (fun _ => 4)
    (fun rq v => fld rq.payload 0 1 < 32 ∧ v.bankGoing (fld rq.payload 0 1) = true)
    Rc.bankAlreadyRetired 0 (fun _ => 0)
  ∧
  Denies .memBankRetire memBankRetireCmd (fun _ => 4)
    (fun rq v => fld rq.payload 0 1 < 32 ∧ v.bankGoing (fld rq.payload 0 1) = false ∧ 4 ≤ v.banksGoing)
    Rc.retireLimit 0 (fun _ => 0)
  ∧
  Accepts .memHbmRepair memHbmRepairCmd (fun _ => 0)
    (fun _ v => v.logRefuses = false ∧ v.mem.rowsPending ≠ [] ∧ v.lockedNow 2 = false ∧ v.mem.rowsPending.length ≤ (blankSlots v.otp.array).length)
    (fun rq v => v.queueOtp (.rows v.mem.rowsPending) (v.waiterOf rq 0x0B08))
  ∧
  Denies .memHbmRepair memHbmRepairCmd (fun _ => 0)
    (fun _ v => v.mem.rowsPending = [])
    Rc.noRepairPending 0 (fun _ => 0)
  ∧
  Denies .memHbmRepair memHbmRepairCmd (fun _ => 0)
    (fun _ v => v.mem.rowsPending ≠ [] ∧ (v.lockedNow 2 = true ∨ (blankSlots v.otp.array).length < v.mem.rowsPending.length))
    Rc.repairFull 0 (fun _ => 0)
  ∧
  Acts .memClear memClearCmd (fun _ => 4)
    (fun rq _ => fld rq.payload 0 1 = 1)
    (fun _ v => { v with mem := { v.mem with
      weaveCorrected := 0, weaveUncorrectable := 0, hbmCorrected := 0, hbmUncorrectable := 0, violations := 0 } })

/-- Actions of DMA: what each command makes of the state and answers, and what it refuses. Readings and
choices of the model: log 101. (R372, R373, R378, R387, R388, R390.) -/
def Obligations.DmaCommandsAct : Prop :=
  Acts .dmaOpen dmaOpenCmd (fun _ => 8)
    (fun rq v => fld rq.payload 0 1 < 32 ∧ fld rq.payload 1 1 < 4 ∧ fld rq.payload 4 4 ≤ 16777216 ∧ v.logRefuses = false ∧ ((v.chan32 (fld rq.payload 0 1)).state = .closed ∨ (v.chan32 (fld rq.payload 0 1)).state = .idle ∧ (v.chan32 (fld rq.payload 0 1)).owner = some rq.mbx.val))
    (fun rq v => (v.logOpen { origin := .mbx rq.mbx.val, cls := Cls.dmaChannel, obj := fld rq.payload 0 1 }).setChan32 (fld rq.payload 0 1) { ({} : DmaChan) with
      state := .idle, owner := some rq.mbx.val, priority := fld rq.payload 1 1
      hopLimit := if fld rq.payload 4 4 = 0 then 65536 else fld rq.payload 4 4 })
  ∧
  DeniesWith .dmaOpen dmaOpenCmd (fun _ => 8)
    (fun rq v => fld rq.payload 0 1 < 32 ∧ fld rq.payload 1 1 < 4 ∧ fld rq.payload 4 4 ≤ 16777216 ∧ (v.chan32 (fld rq.payload 0 1)).state ≠ .closed ∧ (v.chan32 (fld rq.payload 0 1)).owner ≠ some rq.mbx.val)
    Rc.dmaChannelOwned Cls.dmaChannel (fun rq => fld rq.payload 0 1) (fun rq v => ownerPayload (dmaOwner (v.chan32 (fld rq.payload 0 1))).1 (dmaOwner (v.chan32 (fld rq.payload 0 1))).2)
  ∧
  Denies .dmaOpen dmaOpenCmd (fun _ => 8)
    (fun rq v => fld rq.payload 0 1 < 32 ∧ fld rq.payload 1 1 < 4 ∧ fld rq.payload 4 4 ≤ 16777216 ∧ (v.chan32 (fld rq.payload 0 1)).state ≠ .closed ∧ (v.chan32 (fld rq.payload 0 1)).state ≠ .idle ∧ (v.chan32 (fld rq.payload 0 1)).owner = some rq.mbx.val)
    Rc.channelActive Cls.dmaChannel (fun rq => fld rq.payload 0 1)
  ∧
  Acts .dmaClose dmaCloseCmd (fun _ => 4)
    (fun rq v => fld rq.payload 0 1 < 32 ∧ (v.chan32 (fld rq.payload 0 1)).owner = some rq.mbx.val ∧ v.logRefuses = false ∧ (v.chan32 (fld rq.payload 0 1)).state = .idle)
    (fun rq v => (v.logOpen { origin := .mbx rq.mbx.val, cls := Cls.dmaChannel, obj := fld rq.payload 0 1 }).setChan32 (fld rq.payload 0 1) {})
  ∧
  Acts .dmaStart dmaStartCmd (fun _ => 20)
    (fun rq v => fld rq.payload 0 1 < 32 ∧ fld rq.payload 1 1 < 4 ∧ fld rq.payload 2 1 < 4 ∧ fld rq.payload 4 8 < 2 ^ 48 ∧ fld rq.payload 12 8 < 2 ^ 48 ∧ (v.chan32 (fld rq.payload 0 1)).owner = some rq.mbx.val ∧ v.logRefuses = false ∧ (v.chan32 (fld rq.payload 0 1)).state = .idle ∧ fld rq.payload 4 8 % 16 = 0 ∧ fld rq.payload 12 8 % 16 = 0 ∧ v.listSpaceOk (v.chan32 (fld rq.payload 0 1)).owner (fld rq.payload 1 1) = true ∧ v.listSpaceOk (v.chan32 (fld rq.payload 0 1)).owner (fld rq.payload 2 1) = true ∧ v.dmaRuns = false)
    (fun rq v => (v.setChan32 (fld rq.payload 0 1) { (v.chan32 (fld rq.payload 0 1)) with
      state := .preempted, waitsFrom := v.tick, gather := { space := fld rq.payload 1 1, next := some (fld rq.payload 4 8) }
      scatter := { space := fld rq.payload 2 1, next := some (fld rq.payload 12 8) }, reads := [], fetching := none, back := none
      ended := false, gap := false
      bytesDone := 0, bytesSkipped := 0, elementsDone := 0 }))
  ∧
  Acts .dmaStart dmaStartCmd (fun _ => 20)
    (fun rq v => fld rq.payload 0 1 < 32 ∧ fld rq.payload 1 1 < 4 ∧ fld rq.payload 2 1 < 4 ∧ fld rq.payload 4 8 < 2 ^ 48 ∧ fld rq.payload 12 8 < 2 ^ 48 ∧ (v.chan32 (fld rq.payload 0 1)).owner = some rq.mbx.val ∧ v.logRefuses = false ∧ (v.chan32 (fld rq.payload 0 1)).state = .idle ∧ fld rq.payload 4 8 % 16 = 0 ∧ fld rq.payload 12 8 % 16 = 0 ∧ v.listSpaceOk (v.chan32 (fld rq.payload 0 1)).owner (fld rq.payload 1 1) = true ∧ v.listSpaceOk (v.chan32 (fld rq.payload 0 1)).owner (fld rq.payload 2 1) = true ∧ v.dmaRuns = true)
    (fun rq v => assignUnits 5
      (v.setChan32 (fld rq.payload 0 1) { (v.chan32 (fld rq.payload 0 1)) with
      state := .preempted, waitsFrom := v.tick, gather := { space := fld rq.payload 1 1, next := some (fld rq.payload 4 8) }
      scatter := { space := fld rq.payload 2 1, next := some (fld rq.payload 12 8) }, reads := [], fetching := none, back := none
      ended := false, gap := false
      bytesDone := 0, bytesSkipped := 0, elementsDone := 0 }))
  ∧
  Denies .dmaStart dmaStartCmd (fun _ => 20)
    (fun rq v => fld rq.payload 0 1 < 32 ∧ fld rq.payload 1 1 < 4 ∧ fld rq.payload 2 1 < 4 ∧ fld rq.payload 4 8 < 2 ^ 48 ∧ fld rq.payload 12 8 < 2 ^ 48 ∧ (v.chan32 (fld rq.payload 0 1)).owner = some rq.mbx.val ∧ (v.chan32 (fld rq.payload 0 1)).state = .idle ∧ (fld rq.payload 4 8 % 16 ≠ 0 ∨ fld rq.payload 12 8 % 16 ≠ 0 ∨ v.listSpaceOk (v.chan32 (fld rq.payload 0 1)).owner (fld rq.payload 1 1) = false ∨
        v.listSpaceOk (v.chan32 (fld rq.payload 0 1)).owner (fld rq.payload 2 1) = false))
    Rc.listInvalid Cls.dmaChannel (fun rq => fld rq.payload 0 1)
  ∧
  Acts .dmaResume dmaResumeCmd (fun _ => 4)
    (fun rq v => fld rq.payload 0 1 < 32 ∧ (v.chan32 (fld rq.payload 0 1)).owner = some rq.mbx.val ∧ (v.chan32 (fld rq.payload 0 1)).state = .halted ∧ v.logRefuses = false ∧ (v.chan32 (fld rq.payload 0 1)).haltReason ≠ Rc.dmaLengthMismatch ∧ (v.chan32 (fld rq.payload 0 1)).haltReason ≠ Rc.loop)
    (fun rq v => v.dmaRewait (fld rq.payload 0 1) (v.chan32 (fld rq.payload 0 1)))
  ∧
  Acts .dmaResume dmaResumeCmd (fun _ => 4)
    (fun rq v => fld rq.payload 0 1 < 32 ∧ (v.chan32 (fld rq.payload 0 1)).owner = some rq.mbx.val ∧ (v.chan32 (fld rq.payload 0 1)).state = .halted ∧ v.logRefuses = false ∧ (v.chan32 (fld rq.payload 0 1)).haltReason = Rc.loop)
    (fun rq v => v.dmaRewait (fld rq.payload 0 1) ((v.chan32 (fld rq.payload 0 1)).setList (v.chan32 (fld rq.payload 0 1)).failList { (v.chan32 (fld rq.payload 0 1)).list (v.chan32 (fld rq.payload 0 1)).failList with hops := 0 }))
  ∧
  Acts .dmaSkip dmaSkipCmd (fun _ => 4)
    (fun rq v => fld rq.payload 0 1 < 32 ∧ (v.chan32 (fld rq.payload 0 1)).owner = some rq.mbx.val ∧ (v.chan32 (fld rq.payload 0 1)).state = .halted ∧ v.logRefuses = false ∧ (v.chan32 (fld rq.payload 0 1)).haltReason = Rc.elementInvalid ∧ (v.chan32 (fld rq.payload 0 1)).failLink = false)
    (fun rq v => v.dmaRewait (fld rq.payload 0 1) ((v.chan32 (fld rq.payload 0 1)).setList (v.chan32 (fld rq.payload 0 1)).failList (((v.chan32 (fld rq.payload 0 1)).list (v.chan32 (fld rq.payload 0 1)).failList).pass (v.chan32 (fld rq.payload 0 1)).failEnd)))
  ∧
  Acts .dmaSkip dmaSkipCmd (fun _ => 4)
    (fun rq v => fld rq.payload 0 1 < 32 ∧ (v.chan32 (fld rq.payload 0 1)).owner = some rq.mbx.val ∧ (v.chan32 (fld rq.payload 0 1)).state = .halted ∧ v.logRefuses = false ∧ (v.chan32 (fld rq.payload 0 1)).haltReason ≠ Rc.elementInvalid ∧ (v.chan32 (fld rq.payload 0 1)).haltReason ≠ Rc.loop ∧ (v.chan32 (fld rq.payload 0 1)).haltReason ≠ Rc.dmaLengthMismatch ∧ (v.chan32 (fld rq.payload 0 1)).failDirection ≠ 2)
    (fun rq v => (v.dmaSkipPair (fld rq.payload 0 1)).dmaRewait (fld rq.payload 0 1) ((v.dmaSkipPair (fld rq.payload 0 1)).chan32 (fld rq.payload 0 1)))
  ∧
  Acts .dmaAbort dmaAbortCmd (fun _ => 4)
    (fun rq v => fld rq.payload 0 1 < 32 ∧ (v.chan32 (fld rq.payload 0 1)).owner = some rq.mbx.val ∧ (v.chan32 (fld rq.payload 0 1)).state = .idle)
    (fun _ v => v)
  ∧
  Acts .dmaAbort dmaAbortCmd (fun _ => 4)
    (fun rq v => fld rq.payload 0 1 < 32 ∧ (v.chan32 (fld rq.payload 0 1)).owner = some rq.mbx.val ∧ (v.chan32 (fld rq.payload 0 1)).state ≠ .idle ∧ (v.chan32 (fld rq.payload 0 1)).state ≠ .closed)
    (fun rq v => (v.setChan32 (fld rq.payload 0 1) { (v.chan32 (fld rq.payload 0 1)) with
      state := .idle, unit := none, reads := [], fetching := none, back := none, memRead := none, ended := false
      gather := {}, scatter := {} }).post (ev Ev.dmaDone Cls.dmaChannel (fld rq.payload 0 1) Rc.aborted ((v.chan32 (fld rq.payload 0 1)).bytesDone % 2 ^ 48)))
  ∧
  Acts .dmaClear dmaClearCmd (fun _ => 4)
    (fun rq v => fld rq.payload 0 1 < 32 ∧ (v.chan32 (fld rq.payload 0 1)).owner = some rq.mbx.val ∧ (v.chan32 (fld rq.payload 0 1)).state ≠ .closed ∧ fld rq.payload 1 1 = 1)
    (fun rq v => v.setChan32 (fld rq.payload 0 1) { (v.chan32 (fld rq.payload 0 1)) with bytesSkipped := 0, elementsDone := 0, preemptions := 0 })
  ∧
  Denies .dmaClose dmaCloseCmd (fun _ => 4)
    (fun rq v => fld rq.payload 0 1 < 32 ∧ (v.chan32 (fld rq.payload 0 1)).state = .closed)
    Rc.channelActive Cls.dmaChannel (fun rq => fld rq.payload 0 1)
  ∧
  DeniesWith .dmaClose dmaCloseCmd (fun _ => 4)
    (fun rq v => fld rq.payload 0 1 < 32 ∧ (v.chan32 (fld rq.payload 0 1)).state ≠ .closed ∧ (v.chan32 (fld rq.payload 0 1)).owner ≠ some rq.mbx.val)
    Rc.dmaChannelOwned Cls.dmaChannel (fun rq => fld rq.payload 0 1) (fun rq v => ownerPayload (dmaOwner (v.chan32 (fld rq.payload 0 1))).1 (dmaOwner (v.chan32 (fld rq.payload 0 1))).2)
  ∧
  Denies .dmaResume dmaResumeCmd (fun _ => 4)
    (fun rq v => fld rq.payload 0 1 < 32 ∧ (v.chan32 (fld rq.payload 0 1)).state = .closed)
    Rc.notHalted Cls.dmaChannel (fun rq => fld rq.payload 0 1)
  ∧
  DeniesWith .dmaResume dmaResumeCmd (fun _ => 4)
    (fun rq v => fld rq.payload 0 1 < 32 ∧ (v.chan32 (fld rq.payload 0 1)).state ≠ .closed ∧ (v.chan32 (fld rq.payload 0 1)).owner ≠ some rq.mbx.val)
    Rc.dmaChannelOwned Cls.dmaChannel (fun rq => fld rq.payload 0 1) (fun rq v => ownerPayload (dmaOwner (v.chan32 (fld rq.payload 0 1))).1 (dmaOwner (v.chan32 (fld rq.payload 0 1))).2)
  ∧
  Denies .dmaSkip dmaSkipCmd (fun _ => 4)
    (fun rq v => fld rq.payload 0 1 < 32 ∧ (v.chan32 (fld rq.payload 0 1)).state = .closed)
    Rc.notHalted Cls.dmaChannel (fun rq => fld rq.payload 0 1)
  ∧
  DeniesWith .dmaSkip dmaSkipCmd (fun _ => 4)
    (fun rq v => fld rq.payload 0 1 < 32 ∧ (v.chan32 (fld rq.payload 0 1)).state ≠ .closed ∧ (v.chan32 (fld rq.payload 0 1)).owner ≠ some rq.mbx.val)
    Rc.dmaChannelOwned Cls.dmaChannel (fun rq => fld rq.payload 0 1) (fun rq v => ownerPayload (dmaOwner (v.chan32 (fld rq.payload 0 1))).1 (dmaOwner (v.chan32 (fld rq.payload 0 1))).2)
  ∧
  Denies .dmaAbort dmaAbortCmd (fun _ => 4)
    (fun rq v => fld rq.payload 0 1 < 32 ∧ (v.chan32 (fld rq.payload 0 1)).state = .closed)
    Rc.channelNotOpen Cls.dmaChannel (fun rq => fld rq.payload 0 1)
  ∧
  DeniesWith .dmaAbort dmaAbortCmd (fun _ => 4)
    (fun rq v => fld rq.payload 0 1 < 32 ∧ (v.chan32 (fld rq.payload 0 1)).state ≠ .closed ∧ (v.chan32 (fld rq.payload 0 1)).owner ≠ some rq.mbx.val)
    Rc.dmaChannelOwned Cls.dmaChannel (fun rq => fld rq.payload 0 1) (fun rq v => ownerPayload (dmaOwner (v.chan32 (fld rq.payload 0 1))).1 (dmaOwner (v.chan32 (fld rq.payload 0 1))).2)
  ∧
  Denies .dmaClear dmaClearCmd (fun _ => 4)
    (fun rq v => fld rq.payload 0 1 < 32 ∧ (v.chan32 (fld rq.payload 0 1)).state = .closed)
    Rc.channelNotOpen Cls.dmaChannel (fun rq => fld rq.payload 0 1)
  ∧
  DeniesWith .dmaClear dmaClearCmd (fun _ => 4)
    (fun rq v => fld rq.payload 0 1 < 32 ∧ (v.chan32 (fld rq.payload 0 1)).state ≠ .closed ∧ (v.chan32 (fld rq.payload 0 1)).owner ≠ some rq.mbx.val)
    Rc.dmaChannelOwned Cls.dmaChannel (fun rq => fld rq.payload 0 1) (fun rq v => ownerPayload (dmaOwner (v.chan32 (fld rq.payload 0 1))).1 (dmaOwner (v.chan32 (fld rq.payload 0 1))).2)
  ∧
  Denies .dmaClose dmaCloseCmd (fun _ => 4)
    (fun rq v => fld rq.payload 0 1 < 32 ∧ (v.chan32 (fld rq.payload 0 1)).owner = some rq.mbx.val ∧ (v.chan32 (fld rq.payload 0 1)).state ≠ .closed ∧ (v.chan32 (fld rq.payload 0 1)).state ≠ .idle)
    Rc.channelActive Cls.dmaChannel (fun rq => fld rq.payload 0 1)
  ∧
  Denies .dmaResume dmaResumeCmd (fun _ => 4)
    (fun rq v => fld rq.payload 0 1 < 32 ∧ (v.chan32 (fld rq.payload 0 1)).owner = some rq.mbx.val ∧ (v.chan32 (fld rq.payload 0 1)).state ≠ .closed ∧ (v.chan32 (fld rq.payload 0 1)).state ≠ .halted)
    Rc.notHalted Cls.dmaChannel (fun rq => fld rq.payload 0 1)
  ∧
  Denies .dmaSkip dmaSkipCmd (fun _ => 4)
    (fun rq v => fld rq.payload 0 1 < 32 ∧ (v.chan32 (fld rq.payload 0 1)).owner = some rq.mbx.val ∧ (v.chan32 (fld rq.payload 0 1)).state ≠ .closed ∧ (v.chan32 (fld rq.payload 0 1)).state ≠ .halted)
    Rc.notHalted Cls.dmaChannel (fun rq => fld rq.payload 0 1)
  ∧
  Denies .dmaResume dmaResumeCmd (fun _ => 4)
    (fun rq v => fld rq.payload 0 1 < 32 ∧ (v.chan32 (fld rq.payload 0 1)).owner = some rq.mbx.val ∧ (v.chan32 (fld rq.payload 0 1)).state = .halted ∧ (v.chan32 (fld rq.payload 0 1)).haltReason = Rc.dmaLengthMismatch)
    Rc.actionNotAllowed Cls.dmaChannel (fun rq => fld rq.payload 0 1)
  ∧
  Denies .dmaSkip dmaSkipCmd (fun _ => 4)
    (fun rq v => fld rq.payload 0 1 < 32 ∧ (v.chan32 (fld rq.payload 0 1)).owner = some rq.mbx.val ∧ (v.chan32 (fld rq.payload 0 1)).state = .halted ∧ ((v.chan32 (fld rq.payload 0 1)).haltReason = Rc.elementInvalid ∧ (v.chan32 (fld rq.payload 0 1)).failLink = true ∨ (v.chan32 (fld rq.payload 0 1)).haltReason = Rc.loop ∨ (v.chan32 (fld rq.payload 0 1)).haltReason = Rc.dmaLengthMismatch))
    Rc.actionNotAllowed Cls.dmaChannel (fun rq => fld rq.payload 0 1)

/-- Actions of POWER and CAL: what each command makes of the state and answers, and what it refuses.
Readings and choices of the model: log 103, 107, 120. (R400, R408, R410, R426, R438, R439.) -/
def Obligations.PowerAndCalibrationCommandsAct : Prop :=
  (∀ hvok : Byte, Answers (fun m rq => .powerStatus m rq hvok) powerStatusCmd (fun _ => 0)
    (fun _ _ => True)
    (fun _ v => { v with power := { v.power with hvok := hvok } })
    (fun _ v p => Laid p 28 [(0, 1, pwrCode v.pwr), (1, 1, v.power.wakeSource), (2, 1, v.power.enP.toNat), (3, 1, v.power.pg.toNat),
      (4, 1, v.power.hven.toNat), (5, 1, hvok.toNat), (6, 1, v.power.hvFailed.toNat), (7, 1, b2n v.power.oscillator),
      (8, 1, v.power.aonTrim.toNat), (9, 1, v.power.restartKind), (10, 2, v.power.prevFault.toNat), (12, 1, v.power.prevPhase),
      (14, 2, v.host.bootCount), (16, 4, v.power.wakes.toNat), (20, 4, (v.aon - v.power.stateAt) / secondTicks)]))
  ∧
  Acts .powerSetState powerSetStateCmd (fun _ => 4)
    (fun rq v => powerTarget (fld rq.payload 0 1) = some v.pwr)
    (fun _ v => v)
  ∧
  Acts .powerSetState powerSetStateCmd (fun _ => 4)
    (fun rq v => v.logRefuses = false ∧ fld rq.payload 0 1 = 1 ∧ v.pwr ≠ .ready)
    (fun rq v => v.finishWakeAs (.mbx rq.mbx.val))
  ∧
  Acts .powerSetState powerSetStateCmd (fun _ => 4)
    (fun rq v => (match powerTarget (fld rq.payload 0 1) with
        | some t => t ≠ .ready ∧ t ≠ v.pwr
        | none => False) ∧ v.powerBusy = false)
    (fun rq v => { v with power := { v.power with entry := (powerTarget (fld rq.payload 0 1)).map (fun t => { target := t, origin := .mbx rq.mbx.val, due := v.aon + msTicks }) } })
  ∧
  Denies .powerSetState powerSetStateCmd (fun _ => 4)
    (fun rq v => (match powerTarget (fld rq.payload 0 1) with
        | some t => t ≠ .ready ∧ t ≠ v.pwr
        | none => False) ∧ v.powerBusy = true)
    Rc.powerBusy 0 (fun _ => 0)
  ∧
  Denies .powerSetState powerSetStateCmd (fun _ => 4)
    (fun rq _ => powerTarget (fld rq.payload 0 1) = none)
    Rc.badValue 0 (fun _ => 0)
  ∧
  (∀ bus : List Nat, Answers (fun m rq => .powerRailRead m rq (some bus)) powerRailReadCmd (fun _ => 4)
    (fun rq v => fld rq.payload 0 1 < 8 ∧ (v.railRec (fld rq.payload 0 1)).addr ≠ 0)
    (fun rq v => ((((v.emit (.pmbus (v.railRec (fld rq.payload 0 1)).addr 0x8B none (v.railRec (fld rq.payload 0 1)).pec)).emit (.pmbus (v.railRec (fld rq.payload 0 1)).addr 0x8C none (v.railRec (fld rq.payload 0 1)).pec)).emit
      (.pmbus (v.railRec (fld rq.payload 0 1)).addr 0x8D none (v.railRec (fld rq.payload 0 1)).pec)).emit (.pmbus (v.railRec (fld rq.payload 0 1)).addr 0x79 none (v.railRec (fld rq.payload 0 1)).pec)))
    (fun _ _ p => p = (List.range 4).flatMap (fun i => le 2 (bus.getD i 0 % 65536))))
  ∧
  (∀ bus : Option (List Nat), Denies (fun m rq => .powerRailRead m rq bus) powerRailReadCmd (fun _ => 4)
    (fun rq v => fld rq.payload 0 1 < 8 ∧ (v.railRec (fld rq.payload 0 1)).addr = 0)
    Rc.noPmbus 0 (fun _ => 0))
  ∧
  Denies (fun m rq => .powerRailRead m rq none) powerRailReadCmd (fun _ => 4)
    (fun rq v => fld rq.payload 0 1 < 8 ∧ (v.railRec (fld rq.payload 0 1)).addr ≠ 0)
    Rc.pmbusError 0 (fun _ => 0)
  ∧
  Accepts .powerImageWrite powerImageWriteCmd (fun rq => powerImageWriteSize rq)
    (fun rq v => fld rq.payload 0 1 < 2 ∧ 1 ≤ fld rq.payload 2 2 ∧ fld rq.payload 2 2 ≤ 1000 ∧ (fld rq.payload 0 1 = 1 → v.host.fwSlotB = false) ∧ (fld rq.payload 0 1 = 0 → v.host.fwSlotB = true) ∧ fld rq.payload 4 4 + fld rq.payload 2 2 ≤ 0x400000)
    (fun rq v => v.queueFlash (.image (v.waiterOf rq 0x0D05) (imageBase (fld rq.payload 0 1 == 1) + fld rq.payload 4 4) ((rq.payload.drop 8).take (fld rq.payload 2 2))))
  ∧
  Denies .powerImageWrite powerImageWriteCmd (fun rq => powerImageWriteSize rq)
    (fun rq v => fld rq.payload 0 1 < 2 ∧ 1 ≤ fld rq.payload 2 2 ∧ fld rq.payload 2 2 ≤ 1000 ∧ ((fld rq.payload 0 1 = 1) ↔ v.host.fwSlotB = true))
    Rc.imageSlotActive 0 (fun _ => 0)
  ∧
  Denies .powerImageWrite powerImageWriteCmd (fun rq => powerImageWriteSize rq)
    (fun rq v => fld rq.payload 0 1 < 2 ∧ 1 ≤ fld rq.payload 2 2 ∧ fld rq.payload 2 2 ≤ 1000 ∧ (fld rq.payload 0 1 = 1 → v.host.fwSlotB = false) ∧ (fld rq.payload 0 1 = 0 → v.host.fwSlotB = true) ∧ 0x400000 < fld rq.payload 4 4 + fld rq.payload 2 2)
    Rc.imageRange 0 (fun _ => 0)
  ∧
  Acts .powerThermClear powerThermClearCmd (fun _ => 4)
    (fun rq _ => fld rq.payload 0 1 = 1)
    (fun _ v => { v with therm := { v.therm with trips := 0, sensorFaults := 0 } })
  ∧
  Accepts .calRun calRunCmd (fun _ => 4)
    (fun rq v => (∃ k ∈ calTargets, bit (fld rq.payload 0 2) k = true) ∧ v.logRefuses = false ∧ v.calRefusal (fld rq.payload 0 2) = none)
    (fun rq v => (calTargets.filter (fun k => bit (fld rq.payload 0 2) k)).foldl (fun (s : State) k => s.ownDac k true) { v with cal := { v.cal with
      queue := v.cal.queue ++ (calTargets.filter (fun k => bit (fld rq.payload 0 2) k)).map (fun k =>
        { target := k, origin := .mbx rq.mbx.val, waiter := some (v.waiterOf rq 0x0E01) }) } })
  ∧
  Accepts .calStore calStoreCmd (fun _ => 0)
    (fun _ _ => True)
    (fun rq v => v.queueFlash (.store (v.waiterOf rq 0x0E02)
      { seq := 0, serial := v.serial, coeffs := v.cal.coeffs, boot := v.host.bootCount, temp := v.therm.dieMax } none))

/-- Actions of OTP: what each command makes of the state and answers, and what it refuses. Readings and
choices of the model: log 122, 123, 124. (R452, R454, R456, R458, R461, R462.) -/
def Obligations.OtpCommandsAct : Prop :=
  Accepts .otpProgram otpProgramCmd (fun _ => 8)
    (fun rq v => fld rq.payload 0 2 < 512 ∧ fld rq.payload 2 1 < 2 ∧ 5 ≤ fld rq.payload 3 1 ∧ fld rq.payload 3 1 ≤ 20 ∧ (BitVec.ofNat 32 (fld rq.payload 4 4)) ≠ 0 ∧ v.logRefuses = false ∧ programPermitted v.otp.lc (fld rq.payload 0 2) (BitVec.ofNat 32 (fld rq.payload 4 4)) = true ∧ isLcWord (fld rq.payload 0 2) = false ∧ (match regionOf (fld rq.payload 0 2) with
        | some i => v.lockedNow i
        | none => false) = false ∧ ((fld rq.payload 0 2) == lockWord && (List.range 8).any (fun i => ((BitVec.ofNat 32 (fld rq.payload 4 4))).getLsbD i && !regionGood (fun i => (otpAt v.otp.array i).normal) i)) = false ∧ v.otpTempOk = true)
    (fun rq v => v.queueOtp (.program (fld rq.payload 0 2) (BitVec.ofNat 32 (fld rq.payload 4 4)) (fld rq.payload 2 1 == 0) (fld rq.payload 3 1)) (v.waiterOf rq 0x0F02))
  ∧
  Denies .otpProgram otpProgramCmd (fun _ => 8)
    (fun rq v => programPermitted v.otp.lc (fld rq.payload 0 2) (BitVec.ofNat 32 (fld rq.payload 4 4)) = false)
    Rc.notPermittedInLifecycle 0 (fun _ => 0)
  ∧
  Denies .otpProgram otpProgramCmd (fun _ => 8)
    (fun rq v => fld rq.payload 0 2 < 512 ∧ fld rq.payload 2 1 < 2 ∧ 5 ≤ fld rq.payload 3 1 ∧ fld rq.payload 3 1 ≤ 20 ∧ (BitVec.ofNat 32 (fld rq.payload 4 4)) ≠ 0 ∧ programPermitted v.otp.lc (fld rq.payload 0 2) (BitVec.ofNat 32 (fld rq.payload 4 4)) = true ∧ isLcWord (fld rq.payload 0 2) = true)
    Rc.lcTransition 0 (fun _ => 0)
  ∧
  Denies .otpProgram otpProgramCmd (fun _ => 8)
    (fun rq v => fld rq.payload 0 2 < 512 ∧ fld rq.payload 2 1 < 2 ∧ 5 ≤ fld rq.payload 3 1 ∧ fld rq.payload 3 1 ≤ 20 ∧ (BitVec.ofNat 32 (fld rq.payload 4 4)) ≠ 0 ∧ programPermitted v.otp.lc (fld rq.payload 0 2) (BitVec.ofNat 32 (fld rq.payload 4 4)) = true ∧ isLcWord (fld rq.payload 0 2) = false ∧ (match regionOf (fld rq.payload 0 2) with
        | some i => v.lockedNow i
        | none => false) = true)
    Rc.regionLocked 0 (fun _ => 0)
  ∧
  Denies .otpProgram otpProgramCmd (fun _ => 8)
    (fun rq v => fld rq.payload 0 2 < 512 ∧ fld rq.payload 2 1 < 2 ∧ 5 ≤ fld rq.payload 3 1 ∧ fld rq.payload 3 1 ≤ 20 ∧ (BitVec.ofNat 32 (fld rq.payload 4 4)) ≠ 0 ∧ programPermitted v.otp.lc (fld rq.payload 0 2) (BitVec.ofNat 32 (fld rq.payload 4 4)) = true ∧ isLcWord (fld rq.payload 0 2) = false ∧ (match regionOf (fld rq.payload 0 2) with
        | some i => v.lockedNow i
        | none => false) = false ∧ ((fld rq.payload 0 2) == lockWord && (List.range 8).any (fun i => ((BitVec.ofNat 32 (fld rq.payload 4 4))).getLsbD i && !regionGood (fun i => (otpAt v.otp.array i).normal) i)) = true)
    Rc.checkMismatch 0 (fun _ => 0)
  ∧
  Denies .otpProgram otpProgramCmd (fun _ => 8)
    (fun rq v => fld rq.payload 0 2 < 512 ∧ fld rq.payload 2 1 < 2 ∧ 5 ≤ fld rq.payload 3 1 ∧ fld rq.payload 3 1 ≤ 20 ∧ (BitVec.ofNat 32 (fld rq.payload 4 4)) ≠ 0 ∧ programPermitted v.otp.lc (fld rq.payload 0 2) (BitVec.ofNat 32 (fld rq.payload 4 4)) = true ∧ isLcWord (fld rq.payload 0 2) = false ∧ (match regionOf (fld rq.payload 0 2) with
        | some i => v.lockedNow i
        | none => false) = false ∧ ((fld rq.payload 0 2) == lockWord && (List.range 8).any (fun i => ((BitVec.ofNat 32 (fld rq.payload 4 4))).getLsbD i && !regionGood (fun i => (otpAt v.otp.array i).normal) i)) = false ∧ v.otpTempOk = false)
    Rc.tempRange 0 (fun _ => 0)
  ∧
  Accepts .otpRepairPulse otpRepairPulseCmd (fun _ => 4)
    (fun rq v => fld rq.payload 0 2 < 512 ∧ fld rq.payload 2 1 < 2 ∧ 5 ≤ fld rq.payload 3 1 ∧ fld rq.payload 3 1 ≤ 20 ∧ v.logRefuses = false ∧ v.otpTempOk = true)
    (fun rq v => v.queueOtp (.repair (fld rq.payload 0 2) (fld rq.payload 2 1 == 0) (fld rq.payload 3 1)) (v.waiterOf rq 0x0F03))
  ∧
  Denies .otpRepairPulse otpRepairPulseCmd (fun _ => 4)
    (fun rq v => fld rq.payload 0 2 < 512 ∧ fld rq.payload 2 1 < 2 ∧ 5 ≤ fld rq.payload 3 1 ∧ fld rq.payload 3 1 ≤ 20 ∧ v.otpTempOk = false)
    Rc.tempRange 0 (fun _ => 0)
  ∧
  Answers .otpLcChallenge otpLcChallengeCmd (fun _ => 0)
    (fun _ _ => True)
    (fun _ v => { v with otp := { v.otp with nonce := some (Config.nonce v.fresh) }, fresh := v.fresh + 1 })
    (fun _ v p => p = le 8 v.serial ++ le 16 (Config.nonce v.fresh).toNat)
  ∧
  Accepts .otpLcAdvance otpLcAdvanceCmd (fun _ => 412)
    (fun rq v => 1 ≤ fld rq.payload 0 1 ∧ fld rq.payload 0 1 ≤ 5 ∧ v.logRefuses = false ∧ lcReachable v.otp.lc (fld rq.payload 0 1) = true ∧ v.lcReady (fld rq.payload 0 1) = true ∧ v.lcAuthorised rq.payload (fld rq.payload 0 1) = true)
    (fun rq v => { v with otp := { v.otp with nonce := none } }.queueOtp
      (.advance (fld rq.payload 0 1) (if fld rq.payload 0 1 = 4 then v.returnRecord rq.payload else [])) (v.waiterOf rq 0x0F05))
  ∧
  Denies .otpLcAdvance otpLcAdvanceCmd (fun _ => 412)
    (fun rq v => 1 ≤ fld rq.payload 0 1 ∧ fld rq.payload 0 1 ≤ 5 ∧ lcReachable v.otp.lc (fld rq.payload 0 1) = false)
    Rc.lcTransition 0 (fun _ => 0)
  ∧
  Denies .otpLcAdvance otpLcAdvanceCmd (fun _ => 412)
    (fun rq v => 1 ≤ fld rq.payload 0 1 ∧ fld rq.payload 0 1 ≤ 5 ∧ lcReachable v.otp.lc (fld rq.payload 0 1) = true ∧ v.lcReady (fld rq.payload 0 1) = false)
    Rc.lcPrecondition 0 (fun _ => 0)
  ∧
  Denies .otpLcAdvance otpLcAdvanceCmd (fun _ => 412)
    (fun rq v => 1 ≤ fld rq.payload 0 1 ∧ fld rq.payload 0 1 ≤ 5 ∧ lcReachable v.otp.lc (fld rq.payload 0 1) = true ∧ v.lcReady (fld rq.payload 0 1) = true ∧ v.lcAuthorised rq.payload (fld rq.payload 0 1) = false)
    Rc.authFailed 0 (fun _ => 0)
  ∧
  Accepts .otpRevokeKey otpRevokeKeyCmd (fun _ => 4)
    (fun rq v => fld rq.payload 0 1 < 2 ∧ v.logRefuses = false ∧ v.keysPresent.all (fun j => j == (fld rq.payload 0 1) || (v.keyRevoked j
        || List.any v.otp.ops (fun (x : OtpOp × Waiter) => x.1 == .revoke j))) = false)
    (fun rq v => v.queueOtp (.revoke (fld rq.payload 0 1)) (v.waiterOf rq 0x0F06))
  ∧
  Denies .otpRevokeKey otpRevokeKeyCmd (fun _ => 4)
    (fun rq v => fld rq.payload 0 1 < 2 ∧ v.keysPresent.all (fun j => j == (fld rq.payload 0 1) || (v.keyRevoked j
        || List.any v.otp.ops (fun (x : OtpOp × Waiter) => x.1 == .revoke j))) = true)
    Rc.lastKey 0 (fun _ => 0)
  ∧
  Accepts .otpMarginCheck otpMarginCheckCmd (fun _ => 0)
    (fun _ v => (v.logRefuses = true → v.power.enP.getLsbD 7 = (!v.otp.recheckFirst && (match v.otp.ops with
        | (op, _) :: _ => usesVqps op
        | [] => false))))
    (fun rq v => v.queueOtp .margin (v.waiterOf rq 0x0F07))

/-- Actions of BIST and LOG: what each command makes of the state and answers, and what it refuses. Readings
and choices of the model: log 36, 127. (R473, R475, R481, R482.) -/
def Obligations.BistAndLogCommandsAct : Prop :=
  Accepts .bistRun bistRunCmd (fun _ => 16)
    (fun rq v => fld rq.payload 0 1 < 24 ∧ (bit (fld rq.payload 2 1) 0 = true → v.otp.lc ≠ .oem ∧ 1 ≤ fld rq.payload 4 4 ∧ fld rq.payload 4 4 ≤ 16777216 ∧ fld rq.payload 8 8 ≠ 0) ∧ v.logRefuses = false ∧ 5 ≤ fld rq.payload 0 1 ∧ fld rq.payload 1 1 = 0 ∧ v.bist.demand = none ∧ neverTested (fld rq.payload 0 1) = false ∧ (v.sys = .ready ∨ v.sys = .fault) ∧ (fld rq.payload 0 1 = 13 → v.pair.state ≠ .paired) ∧ (v.mem.stakes.get {} 6).owner = none ∧ (v.stopPart (fld rq.payload 0 1)).stage < 2)
    (fun rq v => { (v.stopPart (fld rq.payload 0 1)) with bist := { (v.stopPart (fld rq.payload 0 1)).bist with
      prpg := (v.stopPart (fld rq.payload 0 1)).bist.prpg.set (fld rq.payload 0 1) (if bit (fld rq.payload 2 1) 0 = true then BitVec.ofNat 64 (fld rq.payload 8 8) else Config.bistSeed (fld rq.payload 0 1) 16384), demand := some {
        part := fld rq.payload 0 1, unit := fld rq.payload 1 1, count := if bit (fld rq.payload 2 1) 0 = true then fld rq.payload 4 4 else 16384, custom := bit (fld rq.payload 2 1) 0,
        seed := BitVec.ofNat 64 (fld rq.payload 8 8), waiter := (v.waiterOf rq 0x1001), start := v.tick, borrowed := false } } }.logOpen { origin := .mbx rq.mbx.val })
  ∧
  Accepts .bistRun bistRunCmd (fun _ => 16)
    (fun rq v => fld rq.payload 0 1 < 24 ∧ (bit (fld rq.payload 2 1) 0 = true → v.otp.lc ≠ .oem ∧ 1 ≤ fld rq.payload 4 4 ∧ fld rq.payload 4 4 ≤ 16777216 ∧ fld rq.payload 8 8 ≠ 0) ∧ v.logRefuses = false ∧ fld rq.payload 0 1 < 5 ∧ fld rq.payload 1 1 < (poolSize (fld rq.payload 0 1)).1 ∧ v.bist.demand = none ∧ v.restingOf (fld rq.payload 0 1) = none ∧ v.sys = .ready ∧ (v.pool (fld rq.payload 0 1)).retired.contains (fld rq.payload 1 1) = false ∧ (v.mem.stakes.get {} 6).owner = none ∧ ((v.stopPeriodic (fld rq.payload 0 1) .preempted).pool (fld rq.payload 0 1)).retired.contains (fld rq.payload 1 1) = false ∧ ((v.stopPeriodic (fld rq.payload 0 1) .preempted).restUnit (fld rq.payload 0 1) (fld rq.payload 1 1)).stage < 2)
    (fun rq v => { ((v.stopPeriodic (fld rq.payload 0 1) .preempted).restUnit (fld rq.payload 0 1) (fld rq.payload 1 1)) with bist := { ((v.stopPeriodic (fld rq.payload 0 1) .preempted).restUnit (fld rq.payload 0 1) (fld rq.payload 1 1)).bist with
      prpg := ((v.stopPeriodic (fld rq.payload 0 1) .preempted).restUnit (fld rq.payload 0 1) (fld rq.payload 1 1)).bist.prpg.set (fld rq.payload 0 1) (if bit (fld rq.payload 2 1) 0 = true then BitVec.ofNat 64 (fld rq.payload 8 8) else Config.bistSeed (fld rq.payload 0 1) 65536), demand := some {
        part := fld rq.payload 0 1, unit := fld rq.payload 1 1, count := if bit (fld rq.payload 2 1) 0 = true then fld rq.payload 4 4 else 65536, custom := bit (fld rq.payload 2 1) 0,
        seed := BitVec.ofNat 64 (fld rq.payload 8 8), waiter := (v.waiterOf rq 0x1001), start := v.tick, borrowed := true } } }.logOpen { origin := .mbx rq.mbx.val })
  ∧
  Accepts .bistRun bistRunCmd (fun _ => 16)
    (fun rq v => fld rq.payload 0 1 < 24 ∧ (bit (fld rq.payload 2 1) 0 = true → v.otp.lc ≠ .oem ∧ 1 ≤ fld rq.payload 4 4 ∧ fld rq.payload 4 4 ≤ 16777216 ∧ fld rq.payload 8 8 ≠ 0) ∧ v.logRefuses = false ∧ fld rq.payload 0 1 < 5 ∧ fld rq.payload 1 1 < (poolSize (fld rq.payload 0 1)).1 ∧ v.bist.demand = none ∧ v.restingOf (fld rq.payload 0 1) ≠ none ∧ ((v.stopPeriodic (fld rq.payload 0 1) .preempted).pool (fld rq.payload 0 1)).retired.contains (fld rq.payload 1 1) = false ∧ (v.mem.stakes.get {} 6).owner = none ∧ ((v.stopPeriodic (fld rq.payload 0 1) .preempted).restUnit (fld rq.payload 0 1) (fld rq.payload 1 1)).stage < 2)
    (fun rq v => { ((v.stopPeriodic (fld rq.payload 0 1) .preempted).restUnit (fld rq.payload 0 1) (fld rq.payload 1 1)) with bist := { ((v.stopPeriodic (fld rq.payload 0 1) .preempted).restUnit (fld rq.payload 0 1) (fld rq.payload 1 1)).bist with
      prpg := ((v.stopPeriodic (fld rq.payload 0 1) .preempted).restUnit (fld rq.payload 0 1) (fld rq.payload 1 1)).bist.prpg.set (fld rq.payload 0 1) (if bit (fld rq.payload 2 1) 0 = true then BitVec.ofNat 64 (fld rq.payload 8 8) else Config.bistSeed (fld rq.payload 0 1) 65536), demand := some {
        part := fld rq.payload 0 1, unit := fld rq.payload 1 1, count := if bit (fld rq.payload 2 1) 0 = true then fld rq.payload 4 4 else 65536, custom := bit (fld rq.payload 2 1) 0,
        seed := BitVec.ofNat 64 (fld rq.payload 8 8), waiter := (v.waiterOf rq 0x1001), start := v.tick, borrowed := false } } }.logOpen { origin := .mbx rq.mbx.val })
  ∧
  Accepts .bistRun bistRunCmd (fun _ => 16)
    (fun rq v => fld rq.payload 0 1 < 24 ∧ (bit (fld rq.payload 2 1) 0 = true → v.otp.lc ≠ .oem ∧ 1 ≤ fld rq.payload 4 4 ∧ fld rq.payload 4 4 ≤ 16777216 ∧ fld rq.payload 8 8 ≠ 0) ∧ v.logRefuses = false ∧ fld rq.payload 0 1 < 5 ∧ fld rq.payload 1 1 < (poolSize (fld rq.payload 0 1)).1 ∧ v.bist.demand = none ∧ (v.sys = .ready ∨ v.restingOf (fld rq.payload 0 1) ≠ none) ∧ (v.pool (fld rq.payload 0 1)).retired.contains (fld rq.payload 1 1) = true ∧ ((v.stopPeriodic (fld rq.payload 0 1) .preempted).pool (fld rq.payload 0 1)).retired.contains (fld rq.payload 1 1) = true ∧ (v.mem.stakes.get {} 6).owner = none ∧ (v.stopPeriodic (fld rq.payload 0 1) .preempted).stage < 2)
    (fun rq v => { (v.stopPeriodic (fld rq.payload 0 1) .preempted) with bist := { (v.stopPeriodic (fld rq.payload 0 1) .preempted).bist with
      prpg := (v.stopPeriodic (fld rq.payload 0 1) .preempted).bist.prpg.set (fld rq.payload 0 1) (if bit (fld rq.payload 2 1) 0 = true then BitVec.ofNat 64 (fld rq.payload 8 8) else Config.bistSeed (fld rq.payload 0 1) 65536), demand := some {
        part := fld rq.payload 0 1, unit := fld rq.payload 1 1, count := if bit (fld rq.payload 2 1) 0 = true then fld rq.payload 4 4 else 65536, custom := bit (fld rq.payload 2 1) 0,
        seed := BitVec.ofNat 64 (fld rq.payload 8 8), waiter := (v.waiterOf rq 0x1001), start := v.tick, borrowed := false } } }.logOpen { origin := .mbx rq.mbx.val })
  ∧
  Accepts .bistRun bistRunCmd (fun _ => 16)
    (fun rq v => fld rq.payload 0 1 < 24 ∧ (bit (fld rq.payload 2 1) 0 = true → v.otp.lc ≠ .oem ∧ 1 ≤ fld rq.payload 4 4 ∧ fld rq.payload 4 4 ≤ 16777216 ∧ fld rq.payload 8 8 ≠ 0) ∧ v.logRefuses = false ∧ 5 ≤ fld rq.payload 0 1 ∧ fld rq.payload 1 1 = 0 ∧ v.bist.demand = none ∧ neverTested (fld rq.payload 0 1) = false ∧ (v.sys = .ready ∨ v.sys = .fault) ∧ (fld rq.payload 0 1 = 13 → v.pair.state ≠ .paired) ∧ (v.mem.stakes.get {} 6).owner = none ∧ 2 ≤ (v.stopPart (fld rq.payload 0 1)).stage)
    (fun rq v => ({ (v.stopPart (fld rq.payload 0 1)) with bist := { (v.stopPart (fld rq.payload 0 1)).bist with
      prpg := (v.stopPart (fld rq.payload 0 1)).bist.prpg.set (fld rq.payload 0 1) (if bit (fld rq.payload 2 1) 0 = true then BitVec.ofNat 64 (fld rq.payload 8 8) else Config.bistSeed (fld rq.payload 0 1) 16384), demand := some {
        part := fld rq.payload 0 1, unit := fld rq.payload 1 1, count := if bit (fld rq.payload 2 1) 0 = true then fld rq.payload 4 4 else 16384, custom := bit (fld rq.payload 2 1) 0,
        seed := BitVec.ofNat 64 (fld rq.payload 8 8), waiter := (v.waiterOf rq 0x1001), start := v.tick, borrowed := false } } }.stopDemand .thermal).logOpen { origin := .mbx rq.mbx.val })
  ∧
  Denies .bistRun bistRunCmd (fun _ => 16)
    (fun rq v => fld rq.payload 0 1 < 24 ∧ (bit (fld rq.payload 2 1) 0 = true → v.otp.lc ≠ .oem ∧ 1 ≤ fld rq.payload 4 4 ∧ fld rq.payload 4 4 ≤ 16777216 ∧ fld rq.payload 8 8 ≠ 0) ∧ 5 ≤ fld rq.payload 0 1 ∧ fld rq.payload 1 1 = 0 ∧ v.bist.demand ≠ none)
    Rc.bistBusy 0 (fun _ => 0)
  ∧
  Denies .bistRun bistRunCmd (fun _ => 16)
    (fun rq v => fld rq.payload 0 1 < 24 ∧ (bit (fld rq.payload 2 1) 0 = true → v.otp.lc ≠ .oem ∧ 1 ≤ fld rq.payload 4 4 ∧ fld rq.payload 4 4 ≤ 16777216 ∧ fld rq.payload 8 8 ≠ 0) ∧ 5 ≤ fld rq.payload 0 1 ∧ fld rq.payload 1 1 = 0 ∧ v.bist.demand = none ∧ (neverTested (fld rq.payload 0 1) = true ∨ v.sys ≠ .ready ∧ v.sys ≠ .fault))
    Rc.notTestable 0 (fun _ => 0)
  ∧
  Denies .bistRun bistRunCmd (fun _ => 16)
    (fun rq v => fld rq.payload 0 1 < 24 ∧ (bit (fld rq.payload 2 1) 0 = true → v.otp.lc ≠ .oem ∧ 1 ≤ fld rq.payload 4 4 ∧ fld rq.payload 4 4 ≤ 16777216 ∧ fld rq.payload 8 8 ≠ 0) ∧ fld rq.payload 0 1 < 5 ∧ fld rq.payload 1 1 < (poolSize (fld rq.payload 0 1)).1 ∧ v.bist.demand = none ∧ v.restingOf (fld rq.payload 0 1) = none ∧ v.sys ≠ .ready)
    Rc.noSpare 0 (fun _ => 0)
  ∧
  Acts .bistStop bistStopCmd (fun _ => 0)
    (fun _ v => v.bist.demand = none)
    (fun _ v => v)
  ∧
  Acts .bistStop bistStopCmd (fun _ => 0)
    (fun _ _ => True)
    (fun _ v => v.stopDemand .stopped)
  ∧
  Acts .logAck logAckCmd (fun _ => 4)
    (fun rq v => ahead32 (logNewest v.log) (BitVec.ofNat 32 (fld rq.payload 0 4)) ≤ 0)
    (fun rq v => { v with log := { v.log with
      ack := BitVec.ofNat 32 (fld rq.payload 0 4), gap := none
      log75 := v.log.log75 && decide (24576 ≤ logUnacked { v.log with ack := BitVec.ofNat 32 (fld rq.payload 0 4), gap := none }) } })
  ∧
  Denies .logAck logAckCmd (fun _ => 4)
    (fun rq v => 0 < ahead32 (logNewest v.log) (BitVec.ofNat 32 (fld rq.payload 0 4)))
    Rc.logRange 0 (fun _ => 0)
  ∧
  Acts .logEpochSet logEpochSetCmd (fun _ => 8)
    (fun _ v => v.logRefuses = false)
    (fun rq v => (fun w : State => { w with log := { w.log with utc := BitVec.ofNat 64 (fld rq.payload 0 8) } }) (v.logEntry
      { origin := .mbx rq.mbx.val, old := BitVec.ofNat 32 (fld rq.payload 0 8), new := BitVec.ofNat 32 (fld rq.payload 0 8 / 2 ^ 32), flags := 0x20 }))

/-- Commands that submit a commit: what each command makes of the state and answers, and what it refuses.
Readings and choices of the model: log 39, 49. (R83, R180, R238.) -/
def Obligations.CommitCommandsSubmit : Prop :=
  Submits .cfgCommit cfgCommitCmd (fun _ => 0)
    (fun rq v => (v.sset rq.mbx.val).staged ≠ [])
    (fun _ => .set) (fun rq v => (v.sset rq.mbx.val).staged)
  ∧
  Denies .cfgCommit cfgCommitCmd (fun _ => 0)
    (fun rq v => (v.sset rq.mbx.val).staged = [])
    Rc.nothingStaged 0 (fun _ => 0)
  ∧
  Submits .trigEnable trigEnableCmd (fun _ => 4)
    (fun rq v => fld rq.payload 0 1 < 16 ∧ fld rq.payload 1 1 < 2 ∧ fld rq.payload 2 2 < 1024 ∧ v.accepted.tgEn.get false (fld rq.payload 0 1) ≠ (fld rq.payload 1 1 == 1))
    (fun rq => .trig (fld rq.payload 0 1)) (fun rq _ => [.trigEnable (fld rq.payload 0 1) (fld rq.payload 1 1 == 1) (fld rq.payload 2 2)])
  ∧
  Answers .trigEnable trigEnableCmd (fun _ => 4)
    (fun rq v => fld rq.payload 0 1 < 16 ∧ fld rq.payload 1 1 < 2 ∧ fld rq.payload 2 2 < 1024 ∧ v.accepted.tgEn.get false (fld rq.payload 0 1) = (fld rq.payload 1 1 == 1))
    (fun _ v => v)
    (fun _ _ p => p = zeros 8)
  ∧
  Submits .planeEnable planeEnableCmd (fun _ => 4)
    (fun rq v => fld rq.payload 0 1 < 64 ∧ fld rq.payload 1 1 < 2 ∧ Table.find? v.inForce.planes (fld rq.payload 0 1) ≠ none ∧ v.accepted.bound.get false (fld rq.payload 0 1) = true ∧ fld rq.payload 1 1 = 0)
    (fun rq => .plane (fld rq.payload 0 1)) (fun rq _ => [.planeEnable (fld rq.payload 0 1) false])
  ∧
  Submits .planeEnable planeEnableCmd (fun _ => 4)
    (fun rq v => fld rq.payload 0 1 < 64 ∧ fld rq.payload 1 1 < 2 ∧ (match Table.find? v.inForce.planes (fld rq.payload 0 1) with
        | some r => (∀ q ∈ barPlanes v.accepted r.bar, linesMeet q.2 r = false) ∧ (barPlanes v.accepted r.bar).length < 8
        | none => False) ∧ v.accepted.bound.get false (fld rq.payload 0 1) = false ∧ fld rq.payload 1 1 = 1)
    (fun rq => .plane (fld rq.payload 0 1)) (fun rq _ => [.planeEnable (fld rq.payload 0 1) true])
  ∧
  Answers .planeEnable planeEnableCmd (fun _ => 4)
    (fun rq v => fld rq.payload 0 1 < 64 ∧ fld rq.payload 1 1 < 2 ∧ Table.find? v.inForce.planes (fld rq.payload 0 1) ≠ none ∧ v.accepted.bound.get false (fld rq.payload 0 1) = (fld rq.payload 1 1 == 1))
    (fun _ v => v)
    (fun _ _ p => p = zeros 8)
  ∧
  Denies .planeEnable planeEnableCmd (fun _ => 4)
    (fun rq v => fld rq.payload 0 1 < 64 ∧ fld rq.payload 1 1 < 2 ∧ Table.find? v.inForce.planes (fld rq.payload 0 1) = none)
    Rc.planeUndefined Cls.plane (fun rq => fld rq.payload 0 1)

/-- Host registers, the event ring and the interrupts: what each row makes of the state. Readings and
choices of the model: log 29, 30, 46, 134, 142, 160. (R10, R11, R47, R50, R51, R57, R58, R59, R92,
R347.) -/
def Obligations.HostRegisterRows : Prop :=
  (Happens (.printEnWrite · true)
    (fun v => v.hostReaches = true ∧ v.movedNow = false ∧ v.secondary = false ∧ v.sys = .ready ∧ v.host.checkBusy = false)
    (fun v => v.startPrintCheck))
  ∧
  (Happens (.printEnWrite · false)
    (fun v => v.hostReaches = true ∧ v.movedNow = false ∧ v.secondary = false ∧ v.sys = .ready ∧ v.host.checkBusy = true)
    (fun v => v.cancelPrintCheck))
  ∧
  (Happens (.printEnWrite · false)
    (fun v => v.hostReaches = true ∧ v.movedNow = false ∧ v.secondary = false ∧ (v.sys = .armed ∨ v.sys = .printing ∨ v.sys = .paused))
    (fun v => v.requestEvent .ready .hostDirect))
  ∧
  (Happens (.printEnWrite · true)
    (fun v => v.hostReaches = true ∧ v.movedNow = false ∧ v.secondary = false ∧ v.sys = .upsett)
    (fun v => (v.logPrintEn Rc.wrongState 0x4).setRefuse Rc.wrongState 0 v.host.refuseObj.toNat))
  ∧
  (∀ (e : Bool), Happens (.printEnWrite · e)
    (fun v => v.hostReaches = true ∧ v.movedNow = false ∧ v.secondary = true)
    (fun v => { v with host := { v.host with refuse := Rc.roleSecondary } }))
  ∧
  (∀ (e : Bool), Happens (.printEnWrite · e)
    (fun v => v.hostReaches = true ∧ v.movedNow = true)
    (fun v => v))
  ∧
  (Happens (.printEnWrite · true)
    (fun v => v.hostReaches = true ∧ v.movedNow = false ∧ v.secondary = false ∧ v.sys = .fault)
    (fun v => (v.preemptFixed.logPrintEn Rc.wrongState 0x4).setRefuse Rc.wrongState 0 v.host.refuseObj.toNat))
  ∧
  (∀ (wide : Bool), Happens (.tickLoRead · wide)
    (fun v => v.hostReaches = true)
    (fun v => { v.returns (if wide = true then v.tick else v.tick % 2 ^ 32) with
      host := { (v.returns (if wide = true then v.tick else v.tick % 2 ^ 32)).host with tickHi := BitVec.ofNat 32 (v.tick / 2 ^ 32) } }))
  ∧
  (Happens (.aonLoRead · false)
    (fun v => v.hostReaches = true)
    (fun v => { v with host := { v.host with aonHi := BitVec.ofNat 16 (v.aon / 2 ^ 32) } }.returns (v.aon % 2 ^ 32)))
  ∧
  (Happens (.aonLoRead · true)
    (fun v => v.hostReaches = true)
    (fun v => { v with host := { v.host with aonHi := BitVec.ofNat 16 (v.aon / 2 ^ 32) } }.returns
      (v.aon % 2 ^ 32 + 2 ^ 32 * { v with host := { v.host with aonHi := BitVec.ofNat 16 (v.aon / 2 ^ 32) } }.readHst 0x2C)))
  ∧
  (Happens .ringLostRead
    (fun v => v.hostReaches = true)
    (fun v => { v.returns (v.ring.lost - v.kept v.ring.cycle).toNat with ring := { v.ring with lost := v.kept v.ring.cycle } }))
  ∧
  (∀ (p : Fin 8), Happens (.dpDroppedRead · p)
    (fun v => v.hostReaches = true)
    (fun v => (v.returns ((v.dp p.val).dropped - v.kept (v.dp p.val).cycle).toNat).setDp p.val { (v.dp p.val) with dropped := v.kept (v.dp p.val).cycle }))
  ∧
  (Happens .pairDivergencesRead
    (fun v => v.hostReaches = true)
    (fun v => { v.returns (v.pair.divergences - v.kept v.pair.cycle).toNat with
      pair := { v.pair with divergences := v.kept v.pair.cycle } }))
  ∧
  (∀ (w : Word), Happens (.ringEnableWrite · w)
    (fun v => v.hostReaches = true ∧ w.getLsbD 0 = false)
    (fun v => { v with ring := { v.ring with enable := false } }))
  ∧
  (∀ (w : Word), Happens (.ringEnableWrite · w)
    (fun v => v.hostReaches = true ∧ w.getLsbD 0 = true ∧ v.ring.enable = true)
    (fun v => v))
  ∧
  (∀ (w : Word), Happens (.ringEnableWrite · w)
    (fun v => v.hostReaches = true ∧ w.getLsbD 0 = true ∧ v.ring.enable = false)
    (fun v => { v with ring := { v.ring with enable := true, prod := 0, cons := 0, phase := true } }.reportLost.reportTrip))
  ∧
  (∀ (w : Word), Happens (.ringConsWrite · w)
    (fun v => v.hostReaches = true)
    (fun v => { v with ring := { v.ring with cons := w.toNat % 4096 } }.reportLost))
  ∧
  (∀ (w : Word), Happens (.intEnableWrite · w)
    (fun v => v.hostReaches = true ∧ ((∀ k < 28, w.getLsbD k = true → v.ints.enable.getLsbD k = true ∨ v.ints.status.getLsbD k = false)))
    (fun v => { v with ints := { v.ints with enable := w.extractLsb' 0 28 } }))
  ∧
  (∀ (w : BitVec 64), Happens (.registerWrite · 0x30 4 w)
    (fun v => v.hostReaches = true ∧ v.rung = [])
    (fun v => { v with host := { v.host with scratch := w.extractLsb' 0 32 } }))
  ∧
  (∀ (o k : Nat) (w : BitVec 64), Happens (.registerWrite · o k w)
    (fun v => v.hostReaches = true ∧ accessOk o k = false)
    (fun v => { v with host := { v.host with aer := v.host.aer + 1 } }))
  ∧
  (∀ (o k : Nat), Happens (.unsupportedRequest · o k)
    (fun v => v.hostReaches = true ∧ accessOk o k = false)
    (fun v => { v with host := { v.host with aer := v.host.aer + 1 } }))
  ∧
  (∀ (t : Nat), Happens .intHoldoffExpiry
    (fun v => v.ints.firstAt = some t ∧ v.ints.status.getLsbD 0 = false ∧ v.ints.holdoff ≠ 0 ∧ v.ints.holdoff * 1024 ≤ (v.aon - t) * 1000)
    (fun v => v.raiseInt 0))
  ∧
  (∀ (t n : Nat), Happens .resetEntry
    (fun v => v.power.resetAt = some (t, n) ∧ v.sys = .fault ∧ t ≤ v.aon)
    (fun v => v.enterUpsett 3 2 (.mbx n)))

/-- Ends of checks, and the data ports: what each row makes of the state. Readings and choices of the model:
log 31, 41, 132, 133, 142, 160, 161. (R52, R62, R64, R66, R68, R69, R92.) -/
def Obligations.ChecksAndDataPortRows : Prop :=
  (∀ (l : List CheckKind), Happens .checkDone
    (fun v => v.checks = .printEn :: l ∧ v.testsFixed = false ∧ (v.check v.inForce none) = none)
    (fun v => commitAccept (((({ v.popCheck with host := { v.popCheck.host with checkBusy := false } }.setRefuse 0 0 0).post
      (ev Ev.checkDone 0 0 0 1)).raiseInt 25).requestEvent .armed .hostDirect)))
  ∧
  (∀ (l : List CheckKind) (x : Refused), Happens .checkDone
    (fun v => v.checks = .printEn :: l ∧ v.testsFixed = false ∧ (v.check v.inForce none) = some x)
    (fun v => commitAccept ((({ v.popCheck with host := { v.popCheck.host with checkBusy := false } }.setRefuse x.code x.cls x.obj).post
      (ev Ev.checkDone x.cls x.obj x.code 0)).raiseInt 25)))
  ∧
  (∀ (l : List CheckKind), Happens .checkDone
    (fun v => v.checks = .printEn :: l ∧ v.testsFixed = true)
    (fun v => v.preemptFixed))
  ∧
  (∀ (l : List CheckKind) (w : Waiter), Happens .resumeCheckDone
    (fun v => v.checks = .resume w :: l ∧ (v.check v.inForce none) = none)
    (fun v => commitAccept ((v.popCheck.commandDone w 0 0 0).requestEvent .resumed (.mbx w.mbx))))
  ∧
  (∀ (l : List CheckKind) (w : Waiter) (x : Refused), Happens .resumeCheckDone
    (fun v => v.checks = .resume w :: l ∧ (v.check v.inForce none) = some x)
    (fun v => commitAccept (v.popCheck.commandDone w x.code x.cls x.obj)))
  ∧
  (∀ (l : List CheckKind) (w : Waiter) (mask : BitVec 16), Happens .cfgCheckDone
    (fun v => v.checks = .cfg w true false mask :: l ∧ (v.check v.inForce none) = none)
    (fun v => commitAccept (v.popCheck.commandDone w 0 0 0)))
  ∧
  (∀ (l : List CheckKind) (w : Waiter) (mask : BitVec 16) (x : Refused), Happens .cfgCheckDone
    (fun v => v.checks = .cfg w false true mask :: l ∧ v.check (v.view w.mbx) (some (barsOfMask mask.toNat)) = some x)
    (fun v => commitAccept (v.popCheck.commandDone w x.code x.cls x.obj)))
  ∧
  (∀ (p : Fin 8) (ctrl : Word), Happens (.dpOpen · p ctrl)
    (fun v => v.hostReaches = true ∧ portAction ctrl = .open_ ∧ (v.setTarget p.val ctrl).openRefusal p.val = none ∧ ((v.setTarget p.val ctrl).dp p.val).compress = false)
    (fun v => (v.setTarget p.val ctrl).setDp p.val { (v.setTarget p.val ctrl).dp p.val with
      open_ := true, closing := false, stalled := false, framing := false, ptr := ((v.setTarget p.val ctrl).dp p.val).base
      rptr := ((v.setTarget p.val ctrl).dp p.val).base, count := 0, merge := []
      tracks := (v.setTarget p.val ctrl).portTracks ((v.setTarget p.val ctrl).dp p.val).base ((v.setTarget p.val ctrl).dp p.val).limit, header := [], blockEnd := none, lastWrite := (v.setTarget p.val ctrl).aon }))
  ∧
  (∀ (p : Fin 8) (ctrl : Word) (code : Reason), Happens (.dpOpen · p ctrl)
    (fun v => v.hostReaches = true ∧ portAction ctrl = .open_ ∧ (v.setTarget p.val ctrl).openRefusal p.val = some code)
    (fun v => (v.setTarget p.val ctrl).portError p.val code))
  ∧
  (∀ (p : Fin 8) (ctrl : Word), Happens (.dpFlush · p ctrl)
    (fun v => v.hostReaches = true ∧ portAction ctrl = .flush ∧ ((v.setTarget p.val ctrl).dp p.val).open_ = true)
    (fun v => (v.setTarget p.val ctrl).setDp p.val (flushMerge ((v.setTarget p.val ctrl).dp p.val))))
  ∧
  (∀ (p : Fin 8) (ctrl : Word), Happens (.dpClose · p ctrl)
    (fun v => v.hostReaches = true ∧ portAction ctrl = .close)
    (fun v => (v.setTarget p.val ctrl).startClose p.val))
  ∧
  (∀ (p : Fin 8), Happens (.dpCloseComplete · p)
    (fun v => (v.dp p.val).open_ = true ∧ (v.dp p.val).closing = true ∧ portBusy (v.dp p.val) = false ∧ (v.dp p.val).compress = false)
    (fun v => ((((v.unbindSession p.val).setDp p.val { (v.unbindSession p.val).dp p.val with
      open_ := false, closing := false, stalled := false, closed := true
      cycle := ((v.unbindSession p.val).dp p.val).cycle.note (v.unbindSession p.val).now 0x100 0 0 }).raiseInt (17 + p.val)).postPort p.val Ev.dpClosed 0 (v.dp p.val).count).tryEntry))
  ∧
  (∀ (p : Fin 8) (ctrl : Word), Happens (.dpAbort · p ctrl)
    (fun v => v.hostReaches = true ∧ portAction ctrl = .abort ∧ ((v.setTarget p.val ctrl).dp p.val).open_ = true ∧ ((v.setTarget p.val ctrl).dp p.val).compress = false)
    (fun v => (v.setTarget p.val ctrl).setDp p.val { (v.setTarget p.val ctrl).dp p.val with open_ := false, closing := false, stalled := false, merge := [] }))
  ∧
  (∀ (p : Fin 8) (bytes : List Byte), Happens (.dpWindowWrite · p bytes false)
    (fun v => v.hostReaches = true ∧ v.pwr ≠ .doze ∧ ((v.dp p.val).open_ = false ∨ (v.dp p.val).closing = true))
    (fun v => { v with power := { v.power with lastActivity := v.aon } }.setDp p.val
      { (v.dp p.val) with dropped := (v.dp p.val).dropped + BitVec.ofNat 32 bytes.length, cycle := (v.dp p.val).cycle.note v.now 0 0 bytes.length }))
  ∧
  (∀ (p : Fin 8) (bytes : List Byte), Happens (.dpWindowWrite · p bytes false)
    (fun v => v.hostReaches = true ∧ v.pwr ≠ .doze ∧ (v.dp p.val).open_ = true ∧ (v.dp p.val).closing = false ∧ (v.dp p.val).compress = false ∧ bytes ≠ [] ∧ bytes.length ≤ (v.dp p.val).limit - (v.dp p.val).ptr)
    (fun v => { v with power := { v.power with lastActivity := v.aon } }.acceptBytes p.val bytes))
  ∧
  (∀ (p : Fin 8) (count : Nat), Happens (.dpWindowRead · p count)
    (fun v => v.hostReaches = true ∧ v.pwr ≠ .doze ∧ (v.dp p.val).open_ = true ∧ (v.dp p.val).compress = false)
    (fun v => { v with host := { v.host with readBytes := (List.range count).map (fun i => v.streamByte (v.dp p.val) ((v.dp p.val).rptr + i)) } }.setDp p.val
      { (v.dp p.val) with rptr := ((v.dp p.val).rptr + count) % 2 ^ 35 }))
  ∧
  (∀ (p : Fin 8) (count : Nat), Happens (.dpWindowRead · p count)
    (fun v => v.hostReaches = true ∧ v.pwr ≠ .doze ∧ ((v.dp p.val).open_ = false ∨ (v.dp p.val).compress = true))
    (fun v => { v with host := { v.host with readBytes := zeros count } }))
  ∧
  (∀ (p : Fin 8) (count : Nat), Happens (.dpHbmWriteDone · p count)
    (fun _ => True)
    (fun v => (flightRuns ((v.dp p.val).flight.take count)).foldl (fun (s : State) (r : Nat × List Byte) => s.areaWrite r.1 r.2)
      (v.setDp p.val { (v.dp p.val) with flight := (v.dp p.val).flight.drop count })))
  ∧
  (∀ (p : Fin 8), Happens (.dpStallTimeout · p)
    (fun v => v.midBlock p.val = true ∧ (v.dp p.val).stalled = false ∧ (v.dp p.val).closing = false ∧ (v.dp p.val).lastWrite + 10240 < v.aon)
    (fun v => ((v.setDp p.val { (v.dp p.val) with stalled := true }).raiseInt (17 + p.val)).postPort p.val Ev.dpStalled 0 (v.dp p.val).ptr))

/-- Commands that complete later, and the debug port: what each row makes of the state. Readings and choices
of the model: log 40, 97, 121. (R93, R121, R177, R263, R273, R355, R366, R410, R438, R460.) -/
def Obligations.LaterCompletionRows : Prop :=
  (Happens .commitAccept
    (fun v => v.pair.preparing = none ∧ v.serveFront.held = v.held)
    (fun v => v.serveFront))
  ∧
  (Happens .commitAccept
    (fun v => v.pair.preparing = none ∧ v.held = [])
    (fun v => v))
  ∧
  (∀ (h : Held), Happens .commitAccept
    (fun v => v.pair.preparing = none ∧ v.held = [h] ∧ v.checks = [] ∧ h.begun = true ∧ h.awaits = [] ∧ v.pairPrepares h = false ∧ v.logRefuses = false ∧ v.ownership h.origin (v.accepted.applyAll h.changes) h.changes = none ∧ (v.acceptCommit h).held = [])
    (fun v => v.acceptCommit h))
  ∧
  (∀ (h : Held) (l : List Held), Happens .commitAccept
    (fun v => v.pair.preparing = none ∧ v.held = h :: l ∧ v.checks ≠ [])
    (fun v => v))
  ∧
  (∀ (w : Waiter) (b : Nat) (r : List Nat) (l : List (Waiter × Nat × List Nat)), Happens .coverageDone
    (fun v => v.coverRuns = (w, b, r) :: l)
    (fun v => { v with coverRuns := l, coverage := v.coverage.set b r }.commandDone w 0 0 0))
  ∧
  (∀ (g : Fin 16) (u : Burst), Happens (.spitBurstDone · g)
    (fun v => (v.trig g.val).burst = some u ∧ u.left = 0 ∧ u.cut = none ∧ (∀ p ∈ (v.trig g.val).pulses, p.kind ≠ .spit))
    (fun v => (v.setTrig g.val { v.trig g.val with burst := none }).commandDone u.waiter 0 0 0))
  ∧
  (∀ (g : Fin 16) (u : Burst) (c : Reason), Happens (.spitBurstDone · g)
    (fun v => (v.trig g.val).burst = some u ∧ u.cut = some c ∧ (∀ p ∈ (v.trig g.val).pulses, p.kind ≠ .spit))
    (fun v => (v.setTrig g.val { v.trig g.val with burst := none }).commandDone u.waiter c Cls.triggerGenerator g.val))
  ∧
  (∀ (w : Waiter) (n first count : Nat) (r : PlaneRec), Happens .verifyDone
    (fun v => jobOf true [] v.plait.jobs = some (w, true, n, first, count) ∧ v.freeUnit ≠ none ∧ v.linkRuns = true ∧ v.underTest 19 = false ∧ Table.find? v.inForce.planes n = some r)
    (fun v => (fun x : State × VerifyRes => ({ x.1 with plait := { x.1.plait with results := x.1.plait.results.set w.mbx x.2 } }).commandDone w
      x.2.firstReason (if x.2.bad = 0 then 0 else Cls.plane) (if x.2.bad = 0 then 0 else n))
      (((List.range count).drop (v.verified w).checked).foldl (fun acc i => verifyBlock r acc (first + i))
        (({ v with plait := { v.plait with jobs := v.plait.jobs.erase (w, true, n, first, count) } }).setVerified w none, v.verified w))))
  ∧
  (∀ (j : Waiter × Bool × Nat × Nat × Nat), Happens .verifyDone
    (fun v => jobOf true [] v.plait.jobs = some j ∧ (v.freeUnit = none ∨ v.linkRuns = false ∨ v.underTest 19 = true))
    (fun v => v))
  ∧
  (∀ (w : Waiter) (n block dst : Nat) (r : PlaneRec), Happens .decodeDone
    (fun v => jobOf false [] v.plait.jobs = some (w, false, n, block, dst) ∧ v.freeUnit ≠ none ∧ v.linkRuns = true ∧ v.underTest 19 = false ∧ Table.find? v.inForce.planes n = some r ∧ { v with plait := { v.plait with jobs := v.plait.jobs.erase (w, false, n, block, dst) } }.readBlock r block
        (indexEntryOf ({ v with plait := { v.plait with jobs := v.plait.jobs.erase (w, false, n, block, dst) } }.indexBytesOf r block)) = .empty)
    (fun v => ({ v with plait := { v.plait with jobs := v.plait.jobs.erase (w, false, n, block, dst) } }.hbmWrite dst (zeros (blockBytes r block))).commandDone w 0 0 0))
  ∧
  (∀ (j : Waiter × Bool × Nat × Nat × Nat), Happens .decodeDone
    (fun v => jobOf false [] v.plait.jobs = some j ∧ (v.freeUnit = none ∨ v.linkRuns = false ∨ v.underTest 19 = true))
    (fun v => v))
  ∧
  (∀ (r : Retire), Happens .weaveReformDone
    (fun v => v.mem.reforming = some r ∧ 4 ≤ v.mem.retired.length)
    (fun v => { v with mem := { v.mem with reforming := none } }.enterFault Rc.retireLimit .fwAuto))
  ∧
  (∀ (r : Retire) (u : State), Happens .weaveReformDone
    (fun v => v.mem.reforming = some r ∧ v.mem.retired.length < 4 ∧ r.waiter = none ∧ u = ((((fun s : State => { s with mem := { s.mem with reforming := none } }) (v.logOpen { origin := r.origin, reason := r.reason })).reformPool r.bank).clearForReform).postBank r.bank r.reason false true ∧ u.inPair = false ∧ u.sys ≠ .ready)
    (fun v => ((((fun s : State => { s with mem := { s.mem with reforming := none } }) (v.logOpen { origin := r.origin, reason := r.reason })).reformPool r.bank).clearForReform).postBank r.bank r.reason false true))
  ∧
  (∀ (r : Retire) (u : State) (w : Waiter), Happens .weaveReformDone
    (fun v => v.mem.reforming = some r ∧ v.mem.retired.length < 4 ∧ r.waiter = some w ∧ u = (((fun s : State => { s with mem := { s.mem with reforming := none } }) (v.logOpen { origin := r.origin, reason := r.reason })).reformPool r.bank).clearForReform.postBank r.bank r.reason false true ∧ (u.commandDone w 0 0 0).inPair = false ∧ (u.commandDone w 0 0 0).sys ≠ .ready)
    (fun _ => u.commandDone w 0 0 0))
  ∧
  (∀ (w : Waiter) (a : Nat) (bs : List Byte) (l : List FlashOp), Happens (.imageWriteDone · true)
    (fun v => v.flash.ops = .image w a bs :: l)
    (fun v => { v with flash := { v.flash with ops := l, bytes := flashImage v.flash.bytes a bs } }.startFlash.commandDone w 0 0 0))
  ∧
  (∀ (w : Waiter) (a : Nat) (bs : List Byte) (l : List FlashOp), Happens (.imageWriteDone · false)
    (fun v => v.flash.ops = .image w a bs :: l)
    (fun v => { v with flash := { v.flash with ops := l } }.startFlash.commandDone w Rc.flashError 0 0))
  ∧
  (∀ (w : Waiter) (r : CalSlot) (b : Bool) (l : List FlashOp), Happens (.calStored · false)
    (fun v => v.flash.ops = .store w r (some b) :: l)
    (fun v => ({ v with fresh := v.fresh + 1, flash := { v.flash with ops := l, bytes := v.cutRecord b r v.fresh } }.startFlash).commandDone w Rc.flashError 0 0))
  ∧
  (∀ (w : Waiter) (r : CalSlot) (b : Bool) (l : List FlashOp) (u : State), Happens (.calStored · true)
    (fun v => v.flash.ops = .store w r (some b) :: l ∧ u = { v with fresh := v.fresh + 1, flash := { v.flash with ops := l, bytes := flashProgram v.flash.bytes (slotBase b) (recordBytes r) } }.startFlash ∧ u.flashRead (slotBase b) 232 = recordBytes r)
    (fun v => ((fun u : State => { u with cal := { u.cal with fallback := false } })
      ({ v with fresh := v.fresh + 1, flash := { v.flash with ops := l, bytes := flashProgram v.flash.bytes (slotBase b) (recordBytes r) } }.startFlash)).post
        (ev Ev.calStored Cls.system 0 0 (r.seq.toNat + 2 ^ 32 * b2n b)) |>.commandDone w 0 0 0))
  ∧
  (∀ (w : Waiter) (op : OtpOp) (l : List (OtpOp × Waiter)) (x : OtpPulses), Happens (.otpOperationDone · x)
    (fun v => v.otp.ops = (op, w) :: l ∧ op ≠ .margin ∧ v.otp.recheckFirst = false ∧ v.underTest 22 = false ∧ usesVqps op = true ∧ v.power.pg.getLsbD 7 = false ∧ x.sourceGood = false ∧ v.vqpsLate = true)
    (fun v => v.endOtp Rc.sourceUnavailable w))
  ∧
  (∀ (w : Waiter) (op : OtpOp) (l : List (OtpOp × Waiter)) (x : OtpPulses) (t : Table OtpWord) (weak : Nat) (reason : Reason), Happens (.otpOperationDone · x)
    (fun v => v.otp.ops = (op, w) :: l ∧ op ≠ .margin ∧ (∀ rs, op ≠ .rows rs) ∧ v.otp.recheckFirst = false ∧ v.underTest 22 = false ∧ ((usesVqps op = true → v.power.pg.getLsbD 7 = true ∨ x.sourceGood = true)) ∧ runPulses v.otp.tempLeft v.fresh (opBits v.otp op) x.bits v.otp.array 0 = some (t, weak, reason))
    (fun v => (State.logOtp v.otp.array op w reason { v with
      otp := { v.otp with array := t, weakCells := v.otp.weakCells + BitVec.ofNat 32 weak }, fresh := v.fresh + 1 }).endOtp reason w))
  ∧
  (∀ (w : Waiter) (op : OtpOp) (l : List (OtpOp × Waiter)) (x : OtpPulses), Happens (.otpOperationDone · x)
    (fun v => v.otp.ops = (op, w) :: l ∧ (v.otp.recheckFirst = true ∨ v.underTest 22 = true))
    (fun v => v))
  ∧
  (∀ (p : Fin 32) (c : Bool), Happens (.frameDiscarded · p (.invalidBlock c))
    (fun _ => True)
    (fun v => v.setPort p.val { v.port p.val with blockErrors := (v.port p.val).blockErrors + 1 }))
  ∧
  (∀ (p : Fin 32) (n : Nat), Happens (.frameDiscarded · p (.crc (some n)))
    (fun _ => True)
    (fun v => (v.setPort p.val { v.port p.val with crcErrors := (v.port p.val).crcErrors + 1 }).sendFrame p.val (.nak n 1)))
  ∧
  (∀ (p : Fin 32), Happens (.frameDiscarded · p .length)
    (fun _ => True)
    (fun v => v.setPort p.val { v.port p.val with crcErrors := (v.port p.val).crcErrors + 1 }))
  ∧
  (∀ (n : Fin 16) (h : Held) (w : Waiter), Happens (.answerTime · n)
    (fun v => v.held = [h] ∧ h.answered = false ∧ h.waiter = some w ∧ w.mbx = n.val ∧ (v.mbox n.val).rungAt + (if v.pwr = .doze then 40960 else 5120) ≤ v.aon ∧ (v.mbox n.val).pending < 8)
    (fun v => ({ v with held := [{ h with answered := true }] }.addPending w).respond n.val
      { tag := w.tag, accepted := true, staged := isAuto w.opcode }))
  ∧
  (∀ (a : Nat), Happens (.debugTapAccess · a none)
    (fun v => v.otp.lc = .mfg ∧ (v.linkRuns = true ∨ v.pwr = .doze) ∧ v.sys = .ready ∧ v.underTest 23 = false ∧ v.regionAllows 10 a 4 .read = true)
    (fun v => v.emit (.tap (some (BitVec.ofNat 32 (ofLE (v.onchipRead a 4)))) false)))
  ∧
  (∀ (a : Nat), Happens (.debugTapAccess · a none)
    (fun v => v.otp.lc = .mfg ∧ (v.linkRuns = true ∨ v.pwr = .doze) ∧ v.sys = .ready ∧ v.underTest 23 = false ∧ v.regionAllows 10 a 4 .read = false)
    (fun v => (v.violation 10 a .read).emit (.tap none true)))
  ∧
  (∀ (a : Nat) (x : Option Word), Happens (.debugTapAccess · a x)
    (fun v => (v.otp.lc = .field ∨ v.otp.lc = .scrapped))
    (fun v => v))

/-- Power-on reset, RSTN, start-up phases and retries: what each row makes of the state. Readings and
choices of the model: log 4, 26, 110, 112, 151. (R42, R393, R395, R401, R405, R406.) -/
def Obligations.StartAndResetRows : Prop :=
  (Happens (.porRelease · true)
    (fun v => v.sys = .off)
    (fun v => v.enterUpsett 0 0 .boot))
  ∧
  (Happens (.porRelease · false)
    (fun _ => True)
    (fun v => v))
  ∧
  (Happens .porAssert
    (fun _ => True)
    (fun v => v.enterOff))
  ∧
  (Happens .rstnAssert
    (fun v => v.sys = .fault ∧ v.outranked .upsett = false)
    (fun v => (fun u : State => { u with power := { u.power with rstnHeld := true } }) (v.enterUpsett 1 1 .keeper)))
  ∧
  (Happens .rstnAssert
    (fun v => v.sys = .fault ∧ v.outranked .upsett = true)
    (fun v => v))
  ∧
  (Happens .rstnAssert
    (fun v => v.sys ≠ .fault ∧ v.sys ≠ .off ∧ v.sys ≠ .safe ∧ v.power.rstnHeld = false)
    (fun v => v.enterFault Rc.resetPin .keeper))
  ∧
  (Happens .rstnAssert
    (fun v => (v.sys = .off ∨ v.sys = .safe))
    (fun v => v))
  ∧
  (Happens .rstnRelease
    (fun v => v.power.rstnHeld = true)
    (fun v => { v with power := { v.power with rstnHeld := false, phaseAt := v.aon } }))
  ∧
  (Happens .wakePin
    (fun v => v.sys = .safe)
    (fun v => (fun u : State => { u.countWake 3 with therm := { u.therm with restarts := [], coolSince := none } }) (v.enterUpsett 1 3 .keeper)))
  ∧
  (Happens .wakePin
    (fun v => v.sys ≠ .safe ∧ (v.sys ≠ .upsett ∨ v.power.restartKind ≠ 3 ∨ v.therm.restarts.head? ≠ some v.aon))
    (fun v => v.startWake 3))
  ∧
  (Happens .wakePin
    (fun v => v.sys = .upsett ∧ v.power.restartKind = 3 ∧ v.therm.restarts.head? = some v.aon)
    (fun v => { v.countWake 3 with therm := { v.therm with restarts := [] } }))
  ∧
  (∀ (i : PhaseInput), Happens (.upsettPhaseDone · i)
    (fun v => v.phaseRuns = some 0)
    (fun v => v.passPhase 0 1))
  ∧
  (∀ (i : PhaseInput), Happens (.upsettPhaseDone · i)
    (fun v => v.phaseRuns = some 1 ∧ (v.readOtp i.margins).otpFault = none)
    (fun v => (v.readOtp i.margins).passPhase 1 2))
  ∧
  (∀ (i : PhaseInput) (c : Reason), Happens (.upsettPhaseDone · i)
    (fun v => v.phaseRuns = some 1 ∧ (v.readOtp i.margins).otpFault = some c)
    (fun v => (v.readOtp i.margins).enterFault c .boot))
  ∧
  (∀ (i : PhaseInput), Happens (.upsettPhaseDone · i)
    (fun v => v.phaseRuns = some 2 ∧ v.power.seq = .idle ∧ v.power.enP &&& 0x7F = 0x7F)
    (fun v => v.passPhase 2 3))
  ∧
  (∀ (i : PhaseInput), Happens (.upsettPhaseDone · i)
    (fun v => v.phaseRuns = some 3 ∧ v.sys = .upsett ∧ v.power.restartKind ≠ 0)
    (fun v => ({ v with power := { v.power with refRunning := true, trimAt := v.aon } }.passPhase 3 4).loadTick))
  ∧
  (∀ (i : PhaseInput), Happens (.upsettPhaseDone · i)
    (fun v => v.phaseRuns = some 3 ∧ v.sys = .upsett ∧ v.power.restartKind = 0)
    (fun v => { v with power := { v.power with refRunning := true, trimAt := v.aon } }.passPhase 3 4))
  ∧
  (∀ (i : PhaseInput), Happens (.upsettPhaseDone · i)
    (fun v => v.phaseRuns = some 4 ∧ v.otp.lc ≠ .scrapped ∧ (v.startupTests i.bist).startupFault i.bist = none)
    (fun v => (v.startupTests i.bist).passPhase 4 5))
  ∧
  (∀ (i : PhaseInput) (k : Nat), Happens (.upsettPhaseDone · i)
    (fun v => v.phaseRuns = some 4 ∧ v.otp.lc ≠ .scrapped ∧ (v.startupTests i.bist).startupFault i.bist = some k)
    (fun v => (v.startupTests i.bist).enterFaultFor false Rc.bistFailed .boot k))
  ∧
  (∀ (i : PhaseInput), Happens (.upsettPhaseDone · i)
    (fun v => v.phaseRuns = some 4 ∧ v.otp.lc = .scrapped)
    (fun v => v.passPhase 4 5))
  ∧
  (∀ (i : PhaseInput), Happens (.upsettPhaseDone · i)
    (fun v => v.phaseRuns = some 5 ∧ v.bootChoice i.imageA i.imageB = none)
    (fun v => v.enterFault Rc.noValidImage .boot))
  ∧
  (∀ (i : PhaseInput) (b : Bool) (x : BootImage), Happens (.upsettPhaseDone · i)
    (fun v => v.phaseRuns = some 5 ∧ v.bootChoice i.imageA i.imageB = some (b, x))
    (fun v => State.serveUndefined 16 ((v.bootFirmware b x.fw).passPhase 5 6)))
  ∧
  (∀ (i : PhaseInput), Happens (.upsettPhaseDone · i)
    (fun v => v.phaseRuns = some 6 ∧ v.stakeFails = true)
    (fun v => v.enterFault Rc.sramRepairFailed .boot))
  ∧
  (∀ (i : PhaseInput), Happens (.upsettPhaseDone · i)
    (fun v => v.phaseRuns = some 6 ∧ v.stakeFails = false ∧ v.weaveFails.length ≤ 4 ∧ (v.sys = .upsett → v.cal.queue = [] ∧ v.cal.running = []))
    (fun v => (v.weaveFails.foldl State.retireAtU6 { v with mem := { v.mem with repaired := v.rowRepairs } }).passPhase 6 7))
  ∧
  (∀ (i : PhaseInput), Happens (.upsettPhaseDone · i)
    (fun v => v.phaseRuns = some 6 ∧ v.stakeFails = false ∧ 4 < v.weaveFails.length)
    (fun v => v.enterFaultFor false Rc.retireLimit .boot (v.weaveFails.headD 0) (some (BitVec.ofNat 32 (maskOf v.weaveFails)))))
  ∧
  (∀ (i : PhaseInput), Happens (.upsettPhaseDone · i)
    (fun v => v.phaseRuns = some 7 ∧ v.sys = .upsett ∧ v.linksSettled = true)
    (fun v => v.endUpsett))
  ∧
  (∀ (i : PhaseInput), Happens (.upsettPhaseDone · i)
    (fun v => v.phaseRuns = some 7 ∧ v.sys = .upsett ∧ v.linksSettled = false)
    (fun v => v))
  ∧
  (∀ (k : Nat) (e : Bool), Happens (.upsettPhaseTimeout · e)
    (fun v => v.phaseRuns = some k ∧ v.power.retryAt = none ∧ v.power.phaseAt + phaseMs k * msTicks ≤ v.aon ∧ (k = 7 → v.linksSettled = true) ∧ (k = 2 → 2 ≤ v.power.u2Fails))
    (fun v => v.enterFaultFor (decide (k ≤ 2)) (phaseCode k e) .boot (if k = 2 then v.lastUp.getD 0 else 0)))
  ∧
  (∀ (e : Bool), Happens (.upsettPhaseTimeout · e)
    (fun v => v.phaseRuns = some 2 ∧ v.power.retryAt = none ∧ v.power.phaseAt + phaseMs 2 * msTicks ≤ v.aon ∧ v.power.u2Fails < 2)
    (fun v => { v with power := { v.power with u2Fails := v.power.u2Fails + 1 } }.railsDown))
  ∧
  (∀ (t : Nat), Happens .railRetry
    (fun v => v.power.retryAt = some t ∧ t ≤ v.aon ∧ v.power.seq = .idle)
    (fun v => { v with power := { v.power with retryAt := none, phaseAt := v.aon } }.railsUp))
  ∧
  (∀ (edges : Nat), Happens (.refDetectDone · edges)
    (fun v => v.sys = .upsett ∧ v.power.refRunning = false)
    (fun v => { v with power := { v.power with oscillator := decide (2000 ≤ edges) } }))
  ∧
  (∀ (n : Nat), Happens (.aonTrim · n)
    (fun v => v.sys ≠ .off ∧ v.power.refRunning = true ∧ v.power.trimAt + 16384 ≤ v.aon ∧ 24875 ≤ n ∧ n ≤ 25125)
    (fun v => { v with power := { v.power with trimAt := v.aon, trimmed := true, aonTrim := v.power.aonTrim } }))
  ∧
  (∀ (n : Nat), Happens (.aonTrim · n)
    (fun v => v.sys ≠ .off ∧ v.power.refRunning = true ∧ v.power.trimAt + 16384 ≤ v.aon ∧ n < 24875 ∧ Config.trimRises = true ∧ v.power.aonTrim ≠ 0)
    (fun v => { v with power := { v.power with trimAt := v.aon, trimmed := false, aonTrim := v.power.aonTrim - 1 } }))

/-- Power states, wakes, rails, supplies and clocks: what each row makes of the state. Readings and choices
of the model: log 4, 103, 106, 108, 109, 118. (R394, R397, R398, R399, R400, R401, R402, R404, R508.) -/
def Obligations.PowerRows : Prop :=
  (Happens .railStep
    (fun v => (v.power.enP.getLsbD 7 = false ∨ v.power.pg.getLsbD 7 = true) ∧ v.power.seq = .up ∧ v.power.pgSince + 10 ≤ v.aon ∧ v.sys = .upsett ∧ v.pwr = .run)
    (fun v => { v with power := { v.power with pg := v.power.pg ||| (v.power.enP &&& 0x7F) } }.raiseNext))
  ∧
  (Happens .railStep
    (fun v => v.power.enP.getLsbD 7 = true ∧ v.power.pg.getLsbD 7 = false ∧ v.power.pgSince + 10 ≤ v.aon)
    (fun v => { v with power := { v.power with pg := v.power.pg ||| 0x80 } }))
  ∧
  (Happens .railStep
    (fun v => v.aon < v.power.pgSince + 10)
    (fun v => v))
  ∧
  (∀ (k : Nat), Happens .pgFall
    (fun v => v.power.seq = .down ∧ v.lastDown = some k)
    (fun v => { v with power := { v.power with pg := v.power.pg &&& ~~~(1#8 <<< k) } }.lowerNext))
  ∧
  (∀ (k : Nat), Happens .pgTimeout
    (fun v => v.power.seq = .down ∧ v.lastDown = some k ∧ v.power.pgSince + (v.railRec k).pgTimeout * msTicks ≤ v.aon)
    (fun v => (v.logOpen { origin := .keeper, obj := k }).lowerNext))
  ∧
  (∀ (k : Fin 8), Happens (.railLost · k)
    (fun v => v.power.enP.getLsbD k.val = true ∧ v.power.pg.getLsbD k.val = true)
    (fun v => { v with power := { v.power with pg := v.power.pg &&& ~~~(1#8 <<< k.val) } }.enterFaultFor true Rc.railLost .keeper k.val))
  ∧
  (∀ (k : Fin 8), Happens (.railLost · k)
    (fun v => v.power.enP.getLsbD k.val = false)
    (fun v => v))
  ∧
  (Happens .refLost
    (fun v => v.timeRuns = true)
    (fun v => v.enterFaultAs true Rc.refLost .keeper))
  ∧
  (∀ (pll : Pll), Happens (.pllUnlock · pll)
    (fun v => (v.timeRuns = true ∨ v.pwr = .doze))
    (fun v => v.enterFaultAs (pll == .core) Rc.pllUnlock .keeper))
  ∧
  (Happens .hostLinkLoss
    (fun _ => True)
    (fun v => { v with host := { v.host with linkUp := false } }))
  ∧
  (Happens .pcieLinkUp
    (fun v => v.host.linkUp = false ∧ v.hostRuns = true)
    (fun v => { v with host := { v.host with linkUp := true }, ints := {}, ring := { ({} : Ring) with
      seq := v.ring.seq, unreported := v.ring.unreported, lastLost := v.ring.lastLost, entries := v.ring.entries } }))
  ∧
  (∀ (k : Fin 8) (x : BitVec 16), Happens (.pmbusAlert · k x)
    (fun v => v.sys ≠ .off ∧ (v.railRec k.val).addr ≠ 0)
    (fun v => ((v.emit (.pmbus 0x0C 0 none false)).emit (.pmbus (v.railRec k.val).addr 0x79 none (v.railRec k.val).pec)).post
      (ev Ev.pmbusAlert Cls.system 0 0 (k.val + 256 * x.toNat))))
  ∧
  (Happens .dozeTimer
    (fun v => v.inForce.power.dozeAfter ≠ 0 ∧ v.sys = .ready ∧ v.pwr = .ready ∧ v.power.entry = none ∧ v.working = false ∧ v.powerBusy = false ∧ v.power.lastActivity + v.inForce.power.dozeAfter * secondTicks ≤ v.aon)
    (fun v => v.beginEntry { target := .doze, origin := .fwAuto, due := v.aon }))
  ∧
  (Happens .sleepTimer
    (fun v => v.inForce.power.sleepAfter ≠ 0 ∧ v.sys = .ready ∧ v.pwr = .doze ∧ v.power.entry = none ∧ v.power.waking = none ∧ v.powerBusy = false ∧ v.power.stateAt + v.inForce.power.sleepAfter * secondTicks ≤ v.aon)
    (fun v => v.beginEntry { target := .sleep, origin := .fwAuto, due := v.aon }))
  ∧
  (∀ (e : Entry), Happens .powerEntry
    (fun v => v.power.entry = some e ∧ v.sys ≠ .ready)
    (fun v => { v with power := { v.power with entry := none } }))
  ∧
  (∀ (e : Entry), Happens .powerEntry
    (fun v => v.power.entry = some e ∧ v.sys = .ready ∧ e.begun = true)
    (fun v => v.tryEntry))
  ∧
  (∀ (e : Entry), Happens .powerEntry
    (fun v => v.power.entry = some e ∧ v.sys = .ready ∧ e.begun = false ∧ e.due ≤ v.aon ∧ v.powerBusy = false)
    (fun v => v.beginEntry e))
  ∧
  (∀ (k : Fin 8) (t : Nat), Happens (.hvDischarged · k)
    (fun v => (v.hvt k.val).fallAt = some t)
    (fun v => (State.setHvt { v with power := { v.power with hvok := putBit v.power.hvok k.val false } } k.val { v.hvt k.val with fallAt := none }).tryEntry))
  ∧
  (∀ (k : Fin 8) (t : Nat), Happens (.hvokTimeout · k)
    (fun v => (v.hvt k.val).riseAt = some t ∧ v.power.hven.getLsbD k.val = true ∧ t + (v.inForce.hvs.get {} k.val).onTimeout * msTicks ≤ v.aon)
    (fun v => v.hvFail k.val Rc.hvOnTimeout false))
  ∧
  (∀ (k : Fin 8) (u : State), Happens (.hvLost · k)
    (fun v => v.power.hven.getLsbD k.val = true ∧ u = v.hvFail k.val Rc.hvLost false ∧ ((u.inForce.hvs.get {} k.val).failFault = false ∨ u.sys.armedState = false))
    (fun v => v.hvFail k.val Rc.hvLost false))
  ∧
  (∀ (k : Fin 8) (u : State), Happens (.hvLost · k)
    (fun v => v.power.hven.getLsbD k.val = true ∧ u = v.hvFail k.val Rc.hvLost false ∧ (u.inForce.hvs.get {} k.val).failFault = true ∧ u.sys.armedState = true)
    (fun v => (v.hvFail k.val Rc.hvLost false).enterFault Rc.hvLost .fwAuto))
  ∧
  (∀ (k : Fin 8), Happens (.hvLost · k)
    (fun v => v.power.hven.getLsbD k.val = false)
    (fun v => v))
  ∧
  (∀ (k : Fin 8) (t : Nat), Happens (.hvDischargeTimeout · k)
    (fun v => (v.hvt k.val).fallAt = some t ∧ t + (v.inForce.hvs.get {} k.val).dischargeTimeout * msTicks ≤ v.aon)
    (fun v => ((v.setHvt k.val { v.hvt k.val with fallAt := none }).hvFail k.val Rc.hvDischarge true).tryEntry))
  ∧
  (Happens .pcieWake
    (fun v => v.inForce.power.wakeMask.getLsbD 0 = true ∧ (v.pwr = .sleep ∨ v.pwr = .offAon))
    (fun v => v.startWake 1))
  ∧
  (Happens .aonWakeTimer
    (fun v => v.inForce.power.wakeMask.getLsbD 3 = true ∧ v.inForce.power.aonTimer ≠ 0 ∧ v.gatedPower = true ∧ v.power.stateAt + v.inForce.power.aonTimer * secondTicks ≤ v.aon)
    (fun v => v.startWake 4))
  ∧
  (Happens .wakeComplete
    (fun v => v.sys = .ready ∧ v.gatedPower = true ∧ v.entering = none ∧ v.power.waking ≠ none ∧ v.wakeReady = true)
    (fun v => v.finishWake))
  ∧
  (Happens .vddioLost
    (fun v => v.sys ≠ .off ∧ v.sys ≠ .fault ∧ v.sys ≠ .safe ∧ v.pwr ≠ .offAon)
    (fun v => v.enterFaultAs true Rc.vddioLost .keeper))
  ∧
  (Happens .vddioLost
    (fun v => v.sys = .fault ∧ v.power.reduced = false)
    (fun v => v.reduce Rc.vddioLost 0xF))
  ∧
  (Happens .vddioLost
    (fun v => v.sys = .safe)
    (fun v => { v with power := { v.power with prevFault := Rc.vddioLost, prevPhase := 0xF, prevReport := true } }))

/-- Temperature samples, levels, trips and the SAFE restart: what each row makes of the state. Readings and
choices of the model: log 4, 114, 118, 152. (R413, R414, R415, R416, R421, R422, R423.) -/
def Obligations.ThermalRows : Prop :=
  (∀ (r : TempReadings) (u : State) (a b : Nat), Happens (.thermalSample · r)
    (fun v => v.sys ≠ .off ∧ v.therm.sampleAt + 1024 ≤ v.aon ∧ u = ({ v with therm := { v.therm with sampleAt := v.aon } }.sampleTk 16 r.tk0).sampleTk 17 r.tk1 ∧ u.sys = .safe ∧ u.therm.tk0 = some a ∧ u.therm.tk1 = some b ∧ a < 360 ∧ b < 360 ∧ u.therm.coolSince = none)
    (fun v => (fun w : State => { w with therm := { w.therm with coolSince := some w.aon } }) (({ v with therm := { v.therm with sampleAt := v.aon } }.sampleTk 16 r.tk0).sampleTk 17 r.tk1)))
  ∧
  (∀ (r : TempReadings) (u : State), Happens (.thermalSample · r)
    (fun v => v.sys ≠ .off ∧ v.therm.sampleAt + 1024 ≤ v.aon ∧ u = ({ v with therm := { v.therm with sampleAt := v.aon } }.sampleTk 16 r.tk0).sampleTk 17 r.tk1 ∧ u.sys ≠ .safe ∧ u.underTest 21 = false)
    (fun v => (fun w : State => (((fun x : State => x.setDom 0 (sampleDomain (thermRec w.inForce 0) x.therm.dieMax (x.dom 0)))
      { w with therm := countGradient (thermRec w.inForce 0).gradient (formMax (sampleDies w.therm (w.dieReadings r.die))) }).sampleHbm r.hbm).followDieMax.vote.refreshCeiling) (({ v with therm := { v.therm with sampleAt := v.aon } }.sampleTk 16 r.tk0).sampleTk 17 r.tk1)))
  ∧
  (∀ (r : TempReadings), Happens (.thermalSample · r)
    (fun v => v.aon < v.therm.sampleAt + 1024)
    (fun v => v))
  ∧
  (∀ (i : Fin 16), Happens (.sensorValidityChange · i)
    (fun v => 4 ≤ v.therm.validity.get 0 i.val ∧ v.therm.valid.getLsbD i.val = false)
    (fun v => (State.postSensor i.val true { v with therm := { v.therm with
      valid := v.therm.valid ||| (1#16 <<< i.val), validity := v.therm.validity.set i.val 0 } })))
  ∧
  (Happens .thermGradient
    (fun v => 4 ≤ v.therm.gradCount)
    (fun v => ({ v with therm := { v.therm with gradHigh := !v.therm.gradHigh, gradCount := 0 } }).postLimited ⟨Ev.thermGradient, 0, 0⟩
      { v with therm := { v.therm with gradHigh := !v.therm.gradHigh, gradCount := 0 } }.gradientBody))
  ∧
  (∀ (d : Fin 2), Happens (.thermLevel · d)
    (fun v => 4 ≤ (v.dom d.val).up ∧ (v.dom d.val).level < 3)
    (fun v => v.setLevel d.val ((v.dom d.val).level + 1)))
  ∧
  (∀ (d : Fin 2), Happens (.thermLevel · d)
    (fun v => (v.dom d.val).up < 4 ∧ 4 ≤ (v.dom d.val).down ∧ 0 < (v.dom d.val).level)
    (fun v => v.setLevel d.val ((v.dom d.val).level - 1)))
  ∧
  (Happens .hbmSensorLost
    (fun v => 4 ≤ v.therm.hbmMissing ∧ v.therm.hbmLost = false)
    (fun v => ({ v with therm := { v.therm with hbmLost := true } }.postSensor 18 false).refreshCeiling))
  ∧
  (Happens .keeperTrip
    (fun v => v.sys ≠ .off ∧ v.sys ≠ .safe ∧ 4 ≤ v.therm.dieVotes)
    (fun v => (fun u : State => { u with therm := { u.therm with
      trips := u.therm.trips + 1, tripCode := Rc.dieTrip, tripBoot := u.host.bootCount, tripReport := true
      dieVotes := 0, hbmVotes := 0, coolSince := none, limited := false } }) (v.enterSafe Rc.dieTrip)))
  ∧
  (Happens .keeperTrip
    (fun v => v.sys ≠ .off ∧ v.sys ≠ .safe ∧ v.therm.dieVotes < 4 ∧ 4 ≤ v.therm.hbmVotes)
    (fun v => (fun u : State => { u with therm := { u.therm with
      trips := u.therm.trips + 1, tripCode := Rc.hbmTrip, tripBoot := u.host.bootCount, tripReport := true
      dieVotes := 0, hbmVotes := 0, coolSince := none, limited := false } }) (v.enterSafe Rc.hbmTrip)))
  ∧
  (∀ (t : Nat), Happens .safeRestart
    (fun v => v.sys = .safe ∧ v.therm.coolSince = some t ∧ t + 10240000 ≤ v.aon ∧ v.therm.limited = false ∧ v.recentRestarts.length < 3)
    (fun v => (fun u : State => { u with therm := { u.therm with restarts := u.aon :: v.recentRestarts, coolSince := none } }) (v.enterUpsett 1 3 .keeper)))
  ∧
  (∀ (t : Nat), Happens .safeRestart
    (fun v => v.sys = .safe ∧ v.therm.coolSince = some t ∧ t + 10240000 ≤ v.aon ∧ v.therm.limited = false ∧ 3 ≤ v.recentRestarts.length)
    (fun v => ({ v with therm := { v.therm with limited := true } }).logOpen { origin := .keeper, reason := Rc.restartLimit }))

/-- Axis inputs, speed windows, SSI frames, echoes and motion wake: what each row makes of the state.
Readings and choices of the model: log 4, 56, 57, 59, 60, 142, 150. (R128, R130, R133, R134, R139, R141,
R149, R152.) -/
def Obligations.AxisRows : Prop :=
  (∀ (n : Fin 8) (a b : List Bool), Happens (.quadratureEdge · n a b)
    (fun v => v.axesRun = true ∧ (axisRec v.inForce n.val).ssi = false ∧ (v.axis n.val).motion ≠ .disabled ∧ quadDelta (v.axis n.val).levelA (v.axis n.val).levelB (filtered (axisRec v.inForce n.val).filterDepth (v.axis n.val).levelA a) (filtered (axisRec v.inForce n.val).filterDepth (v.axis n.val).levelB b) = some 0)
    (fun v => (v.setAxis n.val { (v.axis n.val) with levelA := (filtered (axisRec v.inForce n.val).filterDepth (v.axis n.val).levelA a), levelB := (filtered (axisRec v.inForce n.val).filterDepth (v.axis n.val).levelB b) }).settleEvals))
  ∧
  (∀ (n : Fin 8) (a b : List Bool), Happens (.quadratureEdge · n a b)
    (fun v => v.axesRun = true ∧ (axisRec v.inForce n.val).ssi = false ∧ (v.axis n.val).motion ≠ .disabled ∧ quadDelta (v.axis n.val).levelA (v.axis n.val).levelB (filtered (axisRec v.inForce n.val).filterDepth (v.axis n.val).levelA a) (filtered (axisRec v.inForce n.val).filterDepth (v.axis n.val).levelB b) = none)
    (fun v => ((v.setAxis n.val { (v.axis n.val) with levelA := (filtered (axisRec v.inForce n.val).filterDepth (v.axis n.val).levelA a), levelB := (filtered (axisRec v.inForce n.val).filterDepth (v.axis n.val).levelB b) }).illegalEdge n.val).settleEvals))
  ∧
  (∀ (n : Fin 8) (a b : List Bool) (d : Int), Happens (.quadratureEdge · n a b)
    (fun v => v.axesRun = true ∧ (axisRec v.inForce n.val).ssi = false ∧ (v.axis n.val).motion ≠ .disabled ∧ quadDelta (v.axis n.val).levelA (v.axis n.val).levelB (filtered (axisRec v.inForce n.val).filterDepth (v.axis n.val).levelA a) (filtered (axisRec v.inForce n.val).filterDepth (v.axis n.val).levelB b) = some d ∧ d ≠ 0 ∧ (axisRec v.inForce n.val).invert = false)
    (fun v => State.afterSample n.val v ((v.setAxis n.val { (v.axis n.val) with levelA := (filtered (axisRec v.inForce n.val).filterDepth (v.axis n.val).levelA a), levelB := (filtered (axisRec v.inForce n.val).filterDepth (v.axis n.val).levelB b) }).countEdge n.val d (v.tick - (axisRec v.inForce n.val).filterDepth),
      some (((v.setAxis n.val { (v.axis n.val) with levelA := (filtered (axisRec v.inForce n.val).filterDepth (v.axis n.val).levelA a), levelB := (filtered (axisRec v.inForce n.val).filterDepth (v.axis n.val).levelB b) }).countEdge n.val d (v.tick - (axisRec v.inForce n.val).filterDepth)).recorded n.val (v.tick - (axisRec v.inForce n.val).filterDepth) d))))
  ∧
  (∀ (n : Fin 8) (a b : List Bool) (d : Int), Happens (.quadratureEdge · n a b)
    (fun v => v.axesRun = true ∧ (axisRec v.inForce n.val).ssi = false ∧ (v.axis n.val).motion ≠ .disabled ∧ quadDelta (v.axis n.val).levelA (v.axis n.val).levelB (filtered (axisRec v.inForce n.val).filterDepth (v.axis n.val).levelA a) (filtered (axisRec v.inForce n.val).filterDepth (v.axis n.val).levelB b) = some d ∧ d ≠ 0 ∧ (axisRec v.inForce n.val).invert = true)
    (fun v => State.afterSample n.val v ((v.setAxis n.val { (v.axis n.val) with levelA := (filtered (axisRec v.inForce n.val).filterDepth (v.axis n.val).levelA a), levelB := (filtered (axisRec v.inForce n.val).filterDepth (v.axis n.val).levelB b) }).countEdge n.val (-d) (v.tick - (axisRec v.inForce n.val).filterDepth),
      some (((v.setAxis n.val { (v.axis n.val) with levelA := (filtered (axisRec v.inForce n.val).filterDepth (v.axis n.val).levelA a), levelB := (filtered (axisRec v.inForce n.val).filterDepth (v.axis n.val).levelB b) }).countEdge n.val (-d) (v.tick - (axisRec v.inForce n.val).filterDepth)).recorded n.val (v.tick - (axisRec v.inForce n.val).filterDepth) (-d)))))
  ∧
  (∀ (n : Fin 8) (a b : List Bool), Happens (.quadratureEdge · n a b)
    (fun v => v.axesRun = false)
    (fun v => v.settleEvals))
  ∧
  (∀ (n : Fin 8) (z : List Bool), Happens (.indexEvent · n z)
    (fun v => v.axesRun = true ∧ (axisRec v.inForce n.val).ssi = false ∧ (v.axis n.val).motion ≠ .disabled ∧ (filtered (axisRec v.inForce n.val).filterDepth (v.axis n.val).levelZ z) = (v.axis n.val).levelZ)
    (fun v => v.setAxis n.val { (v.axis n.val) with levelZ := (filtered (axisRec v.inForce n.val).filterDepth (v.axis n.val).levelZ z) }))
  ∧
  (∀ (n : Fin 8) (z : List Bool), Happens (.indexEvent · n z)
    (fun v => v.axesRun = true ∧ (axisRec v.inForce n.val).ssi = false ∧ (v.axis n.val).motion ≠ .disabled ∧ (filtered (axisRec v.inForce n.val).filterDepth (v.axis n.val).levelZ z) ≠ (v.axis n.val).levelZ ∧ (filtered (axisRec v.inForce n.val).filterDepth (v.axis n.val).levelZ z) ≠ (v.axis n.val).reverse ∧ (v.axis n.val).preset = none ∧ (v.axis n.val).prevIndex = none)
    (fun v => (v.setAxis n.val { (v.axis n.val) with levelZ := (filtered (axisRec v.inForce n.val).filterDepth (v.axis n.val).levelZ z) }).setAxis n.val { (v.axis n.val) with
      levelZ := (filtered (axisRec v.inForce n.val).filterDepth (v.axis n.val).levelZ z), lastIndex := (v.axis n.val).counter, indexSeen := true, prevIndex := some ((v.axis n.val).counter, (v.axis n.val).reverse) }))
  ∧
  (∀ (n : Fin 8) (z : List Bool) (x : Word) (o : Option Nat), Happens (.indexEvent · n z)
    (fun v => v.axesRun = true ∧ (axisRec v.inForce n.val).ssi = false ∧ (v.axis n.val).motion ≠ .disabled ∧ (filtered (axisRec v.inForce n.val).filterDepth (v.axis n.val).levelZ z) ≠ (v.axis n.val).levelZ ∧ (filtered (axisRec v.inForce n.val).filterDepth (v.axis n.val).levelZ z) ≠ (v.axis n.val).reverse ∧ (v.axis n.val).preset = some (x, o))
    (fun v => ((v.setAxis n.val { (v.axis n.val) with levelZ := (filtered (axisRec v.inForce n.val).filterDepth (v.axis n.val).levelZ z) }).setAxis n.val { presetAxis { (v.axis n.val) with levelZ := (filtered (axisRec v.inForce n.val).filterDepth (v.axis n.val).levelZ z) } x with
      lastIndex := x, indexSeen := true, prevIndex := some (x, (v.axis n.val).reverse) }).presetDone n.val x 0 (presetOrigin o)))
  ∧
  (∀ (n : Fin 8) (z : List Bool), Happens (.indexEvent · n z)
    (fun v => v.axesRun = false)
    (fun v => v))
  ∧
  (∀ (n : Fin 8), Happens (.ssiFrameStart · n false)
    (fun v => v.axesRun = true ∧ (axisRec v.inForce n.val).ssi = true ∧ (v.axis n.val).motion ≠ .disabled ∧ (v.axis n.val).ssiPhase = .idle ∧ v.tick % (axisRec v.inForce n.val).ssiFrame = 0 ∧ (v.axis n.val).ssiReady ≤ v.tick)
    (fun v => v.setAxis n.val { (v.axis n.val) with ssiPhase := .waiting v.tick }))
  ∧
  (∀ (n : Fin 8), Happens (.ssiFrameStart · n true)
    (fun v => v.axesRun = true ∧ (axisRec v.inForce n.val).ssi = true ∧ (v.axis n.val).motion ≠ .disabled ∧ (v.axis n.val).ssiPhase = .idle ∧ v.tick % (axisRec v.inForce n.val).ssiFrame = 0 ∧ (v.axis n.val).ssiReady ≤ v.tick ∧ v.follows = false ∧ v.pinsHeld = false)
    (fun v => (v.setAxis n.val { (v.axis n.val) with ssiPhase := .shifting v.tick, lastEdge := v.tick }).emit
      (.ssiClock n.val v.tick (axisRec v.inForce n.val).ssiHalf (ssiBitsTotal (axisRec v.inForce n.val)))))
  ∧
  (∀ (n : Fin 8) (d : Bool), Happens (.ssiFrameStart · n d)
    (fun v => v.axesRun = false)
    (fun v => v))
  ∧
  (∀ (n : Fin 8) (l : List Bool) (e : Bool) (t : Nat), Happens (.ssiFrameEnd · n l e)
    (fun v => v.axesRun = true ∧ (v.axis n.val).ssiPhase = .waiting t ∧ t + (axisRec v.inForce n.val).ssiTimeout * 400 ≤ v.tick)
    (fun v => ((v.setAxis n.val { (v.axis n.val) with ssiPhase := .idle }).ssiFail n.val 1).settleEvals))
  ∧
  (∀ (n : Fin 8) (l : List Bool) (e : Bool) (t k : Nat), Happens (.ssiFrameEnd · n l e)
    (fun v => v.axesRun = true ∧ (v.axis n.val).ssiPhase = .shifting t ∧ t + 2 * (axisRec v.inForce n.val).ssiHalf * (ssiBitsTotal (axisRec v.inForce n.val) + 1) + (axisRec v.inForce n.val).ssiSample ≤ v.tick ∧ l.length = ssiBitsTotal (axisRec v.inForce n.val) ∧ ssiDefect (axisRec v.inForce n.val) (v.axis n.val).ssiPrev l e = some k)
    (fun v => ((v.setAxis n.val { (v.axis n.val) with
      ssiPhase := .idle, ssiReady := t + 2 * (axisRec v.inForce n.val).ssiHalf * (ssiBitsTotal (axisRec v.inForce n.val) + 1) + (axisRec v.inForce n.val).ssiRecovery
      ssiRaw := BitVec.ofNat 64 (ofBits l) }).ssiFail n.val k).settleEvals))
  ∧
  (∀ (n : Fin 8) (l : List Bool) (e : Bool) (t : Nat), Happens (.ssiFrameEnd · n l e)
    (fun v => v.axesRun = true ∧ (v.axis n.val).ssiPhase = .shifting t ∧ t + 2 * (axisRec v.inForce n.val).ssiHalf * (ssiBitsTotal (axisRec v.inForce n.val) + 1) + (axisRec v.inForce n.val).ssiSample ≤ v.tick ∧ l.length = ssiBitsTotal (axisRec v.inForce n.val) ∧ ssiDefect (axisRec v.inForce n.val) (v.axis n.val).ssiPrev l e = none ∧ (v.axis n.val).motion ≠ .faulted ∧ (v.axis n.val).ssiPrev = none)
    (fun v => (fun u : State => State.afterSample n.val v (u, some (u.recorded n.val t 0))) ((v.setAxis n.val { (v.axis n.val) with
      ssiPhase := .idle, ssiReady := t + 2 * (axisRec v.inForce n.val).ssiHalf * (ssiBitsTotal (axisRec v.inForce n.val) + 1) + (axisRec v.inForce n.val).ssiRecovery
      ssiRaw := BitVec.ofNat 64 (ofBits l) }).setAxis n.val { (v.axis n.val) with
      ssiPhase := .idle, ssiReady := t + 2 * (axisRec v.inForce n.val).ssiHalf * (ssiBitsTotal (axisRec v.inForce n.val) + 1) + (axisRec v.inForce n.val).ssiRecovery
      ssiRaw := BitVec.ofNat 64 (ofBits l), ssiConsec := 0, counter := BitVec.ofNat 32 (ssiValue (axisRec v.inForce n.val) l), wraps := 0
      referenced := true, ssiPrev := some (ssiValue (axisRec v.inForce n.val) l) })))
  ∧
  (∀ (n : Fin 8) (l : List Bool) (e : Bool) (t p : Nat), Happens (.ssiFrameEnd · n l e)
    (fun v => v.axesRun = true ∧ (v.axis n.val).ssiPhase = .shifting t ∧ t + 2 * (axisRec v.inForce n.val).ssiHalf * (ssiBitsTotal (axisRec v.inForce n.val) + 1) + (axisRec v.inForce n.val).ssiSample ≤ v.tick ∧ l.length = ssiBitsTotal (axisRec v.inForce n.val) ∧ ssiDefect (axisRec v.inForce n.val) (v.axis n.val).ssiPrev l e = none ∧ (v.axis n.val).motion ≠ .faulted ∧ (v.axis n.val).ssiPrev = some p ∧ ahead (axisRec v.inForce n.val).ssiBits p (ssiValue (axisRec v.inForce n.val) l) ≠ 0)
    (fun v => (fun u : State => State.afterSample n.val v (u, some (u.recorded n.val t (ahead (axisRec v.inForce n.val).ssiBits p (ssiValue (axisRec v.inForce n.val) l)))))
      (((v.setAxis n.val { (v.axis n.val) with
      ssiPhase := .idle, ssiReady := t + 2 * (axisRec v.inForce n.val).ssiHalf * (ssiBitsTotal (axisRec v.inForce n.val) + 1) + (axisRec v.inForce n.val).ssiRecovery
      ssiRaw := BitVec.ofNat 64 (ofBits l) }).setAxis n.val { (v.axis n.val) with
      ssiPhase := .idle, ssiReady := t + 2 * (axisRec v.inForce n.val).ssiHalf * (ssiBitsTotal (axisRec v.inForce n.val) + 1) + (axisRec v.inForce n.val).ssiRecovery
      ssiRaw := BitVec.ofNat 64 (ofBits l), ssiConsec := 0, ssiPrev := some (ssiValue (axisRec v.inForce n.val) l) }).countEdge n.val
      (ahead (axisRec v.inForce n.val).ssiBits p (ssiValue (axisRec v.inForce n.val) l)) t)))
  ∧
  (∀ (n : Fin 8) (t : Nat), Happens (.ssiDataHigh · n)
    (fun v => v.axesRun = true ∧ (v.axis n.val).ssiPhase = .waiting t ∧ v.tick < t + (axisRec v.inForce n.val).ssiTimeout * 400 ∧ v.follows = false ∧ v.pinsHeld = false)
    (fun v => (v.setAxis n.val { (v.axis n.val) with ssiPhase := .shifting v.tick, lastEdge := v.tick }).emit
      (.ssiClock n.val v.tick (axisRec v.inForce n.val).ssiHalf (ssiBitsTotal (axisRec v.inForce n.val)))))
  ∧
  (∀ (n : Fin 8) (t : Nat), Happens (.ssiDataHigh · n)
    (fun v => v.axesRun = true ∧ (v.axis n.val).ssiPhase = .waiting t ∧ v.tick < t + (axisRec v.inForce n.val).ssiTimeout * 400 ∧ v.follows = true ∧ v.pinsHeld = true)
    (fun v => v.setAxis n.val { (v.axis n.val) with ssiPhase := .shifting v.tick }))
  ∧
  (∀ (n : Fin 8), Happens (.speedWindowEnd · n)
    (fun v => v.axesRun = true ∧ (v.axis n.val).motion = .forward ∧ (v.axis n.val).windowEnd ≤ v.tick ∧ (v.axis n.val).windowWhole = true ∧ (v.axis n.val).windowEdges ≠ 0)
    (fun v => v.setAxis n.val { (v.axis n.val) with
      speed := ((v.axis n.val).windowNet * 1000000).tdiv (v.axis n.val).windowLen, doneLen := (v.axis n.val).windowLen, doneNet := (v.axis n.val).windowNet
      emptyWindows := 0, windowNet := 0, windowEdges := 0, windowIllegal := 0
      windowWhole := true, windowLen := (axisRec v.inForce n.val).speedWindow, windowEnd := (v.axis n.val).windowEnd + (axisRec v.inForce n.val).speedWindow * 400, motion := .forward }))
  ∧
  (∀ (n : Fin 8), Happens (.speedWindowEnd · n)
    (fun v => v.axesRun = true ∧ (v.axis n.val).motion = .forward ∧ (v.axis n.val).windowEnd ≤ v.tick ∧ (v.axis n.val).windowWhole = true ∧ (v.axis n.val).windowEdges = 0 ∧ 1 ≤ (v.axis n.val).emptyWindows ∧ v.follows = false)
    (fun v => ((v.setAxis n.val { (v.axis n.val) with
      speed := ((v.axis n.val).windowNet * 1000000).tdiv (v.axis n.val).windowLen, doneLen := (v.axis n.val).windowLen, doneNet := (v.axis n.val).windowNet
      emptyWindows := (v.axis n.val).emptyWindows + 1, windowNet := 0
      windowEdges := 0, windowIllegal := 0, windowWhole := true, windowLen := (axisRec v.inForce n.val).speedWindow
      windowEnd := (v.axis n.val).windowEnd + (axisRec v.inForce n.val).speedWindow * 400, motion := .stopped }).noteMotion n.val).postMotion n.val))
  ∧
  (∀ (n : Fin 8), Happens (.speedWindowEnd · n)
    (fun v => v.axesRun = false)
    (fun v => v))
  ∧
  (∀ (k : EventKey) (h : Holdoff), Happens (.eventHoldoffExpiry · k)
    (fun v => v.holdoffs.find? (fun h => h.key == k) = some h ∧ h.until_ ≤ v.aon ∧ h.waiting = none)
    (fun v => { v with holdoffs := v.holdoffs.filter (fun x => x.key != k) }))
  ∧
  (∀ (k : EventKey) (h : Holdoff) (b : EventBody), Happens (.eventHoldoffExpiry · k)
    (fun v => v.holdoffs.find? (fun h => h.key == k) = some h ∧ h.until_ ≤ v.aon ∧ h.waiting = some b ∧ v.currentBody k b ≠ h.last)
    (fun v => { v.post (v.currentBody k b) with holdoffs := v.holdoffs.filter (fun x => x.key != k) ++
      [{ key := k, until_ := v.aon + holdoffTicks, last := v.currentBody k b, waiting := none }] }))
  ∧
  (∀ (k : Fin 4), Happens (.echoStep · k)
    (fun v => v.axesRun = true ∧ (echoRec v.inForce k.val).enable = true ∧ (v.echo k.val).stopped = false ∧ 0 < (v.echo k.val).pending ∧ (v.echo k.val).lastStep + (echoRec v.inForce k.val).minEdge ≤ v.tick ∧ (v.echo k.val).since + 3 ≤ v.tick ∧ v.pinsHeld = false)
    (fun v => (v.setEcho k.val { v.echo k.val with
      state := (v.echo k.val).state + 1, lastStep := v.tick, pending := (v.echo k.val).pending - 1 }).emit
      (.echo k.val (echoPins ((v.echo k.val).state + 1)).1 (echoPins ((v.echo k.val).state + 1)).2)))
  ∧
  (∀ (k : Fin 4), Happens (.echoStep · k)
    (fun v => v.axesRun = true ∧ (echoRec v.inForce k.val).enable = true ∧ (v.echo k.val).stopped = false ∧ (v.echo k.val).pending < 0 ∧ (v.echo k.val).lastStep + (echoRec v.inForce k.val).minEdge ≤ v.tick ∧ (v.echo k.val).since + 3 ≤ v.tick ∧ v.pinsHeld = false)
    (fun v => (v.setEcho k.val { v.echo k.val with
      state := (v.echo k.val).state - 1, lastStep := v.tick, pending := (v.echo k.val).pending + 1 }).emit
      (.echo k.val (echoPins ((v.echo k.val).state - 1)).1 (echoPins ((v.echo k.val).state - 1)).2)))
  ∧
  (∀ (n : Fin 8), Happens (.motionWakeTransition · n)
    (fun v => v.timeRuns = false ∧ v.sys = .ready ∧ v.power.wakeAxes.getLsbD n.val = true ∧ (v.axis n.val).wakeCount + 1 ≠ v.inForce.wake.edges)
    (fun v => v.setAxis n.val { (v.axis n.val) with wakeCount := (v.axis n.val).wakeCount + 1 }))
  ∧
  (∀ (n : Fin 8), Happens (.motionWakeTransition · n)
    (fun v => v.timeRuns = false ∧ v.sys = .ready ∧ v.power.wakeAxes.getLsbD n.val = true ∧ (v.axis n.val).wakeCount + 1 = v.inForce.wake.edges ∧ v.inForce.power.wakeMask.getLsbD 1 = true ∧ v.power.waking = none ∧ (v.setAxis n.val { (v.axis n.val) with wakeCount := (v.axis n.val).wakeCount + 1 }).lowerAxisWakes n.val = false)
    (fun v => ((v.setAxis n.val { (v.axis n.val) with wakeCount := v.inForce.wake.edges }).post
      (ev Ev.axisWake Cls.axis n.val 0 (v.inForce.wake.edges % 65536))).startWake 2))
  ∧
  (∀ (n : Fin 8), Happens (.motionWakeTransition · n)
    (fun v => v.timeRuns = false ∧ v.sys = .ready ∧ v.power.wakeAxes.getLsbD n.val = true ∧ (v.setAxis n.val { (v.axis n.val) with wakeCount := (v.axis n.val).wakeCount + 1 }).lowerAxisWakes n.val = true)
    (fun v => v.setAxis n.val { (v.axis n.val) with wakeCount := (v.axis n.val).wakeCount + 1 }))
  ∧
  (Happens .wakeWindowEnd
    (fun v => v.timeRuns = false ∧ v.sys = .ready ∧ v.inForce.wake.window ≠ 0 ∧ v.wakeAt + v.inForce.wake.window * 1024 ≤ v.aon)
    (fun v => { v with
      wakeAt := v.wakeAt + (v.aon - v.wakeAt) / (v.inForce.wake.window * 1024) * (v.inForce.wake.window * 1024)
      axes := v.axes.map (fun (x : Nat × Axis) => (x.1, { x.2 with wakeCount := 0 })) }))

/-- Fires, tickles, dry risk, TRIGOUT pulses, and the line engine's rows: what each row makes of the state.
Readings and choices of the model: log 4, 67, 68, 69, 74, 129, 149, 150. (R168, R170, R175, R176, R179,
R199, R215, R226, R230, R278.) -/
def Obligations.FiringAndRasterRows : Prop :=
  (Happens .periodicEvaluation
    (fun v => v.tick % 64 = 0 ∧ v.linkRuns = true ∧ v.follows = false ∧ v.leadsPair = false)
    (fun v => v.askPeriodic.settleEvals))
  ∧
  (Happens .periodicEvaluation
    (fun v => v.tick % 64 = 0 ∧ v.linkRuns = true ∧ v.follows = false ∧ v.leadsPair = true)
    (fun v => (({ v with pair := { v.pair with edges := [], motions := [], streamClosed := v.tick, lastControl := v.tick } }).emit
      (.control (.stream v.pair.edges v.pair.motions v.tick))).askPeriodic.settleEvals))
  ∧
  (Happens .periodicEvaluation
    (fun v => (v.tick % 64 ≠ 0 ∨ v.linkRuns = false))
    (fun v => v.settleEvals))
  ∧
  (Happens .periodicEvaluation
    (fun v => v.tick % 64 = 0 ∧ v.linkRuns = true ∧ v.follows = true)
    (fun v => v))
  ∧
  (∀ (b : Fin 16), Happens (.tickleEmit · b)
    (fun v => v.linkRuns = true ∧ v.underTest 15 = false ∧ v.underTest 16 = false ∧ v.inForce.enabledBar b.val = true ∧ v.tick % ((trigRec v.inForce (v.inForce.trigOf b.val)).ticklePeriod * 400) = 0 ∧ v.keepAliveActive (v.inForce.trigOf b.val) = true ∧ (v.trig (v.inForce.trigOf b.val)).lines = [] ∧ v.barMotion b.val ≠ .forward)
    (fun v => v.emitPulse b.val (v.inForce.trigOf b.val) .tickle (v.earliest b.val)))
  ∧
  (∀ (b : Fin 16), Happens (.tickleEmit · b)
    (fun v => (v.linkRuns = false ∨ v.tick % ((trigRec v.inForce (v.inForce.trigOf b.val)).ticklePeriod * 400) ≠ 0 ∨ v.keepAliveActive (v.inForce.trigOf b.val) = false ∨ (v.trig (v.inForce.trigOf b.val)).lines ≠ [] ∨ v.underTest 15 = true ∨ v.underTest 16 = true ∨ v.inForce.enabledBar b.val = false))
    (fun v => v))
  ∧
  (∀ (b : Fin 16), Happens (.dryRisk · b)
    (fun v => v.barEnabled b.val = true ∧ (v.rbar b.val).dryRisk = false ∧ (v.rbar b.val).lastEject + (trigRec v.inForce (v.inForce.trigOf b.val)).dryTime * 1024000 ≤ v.aon)
    (fun v => (State.logOpen { origin := .fwAuto, cls := Cls.bar, obj := b.val, reason := Rc.dryRisk }
      ((v.setRbar b.val { v.rbar b.val with dryRisk := true, dryHold := (trigRec v.inForce (v.inForce.trigOf b.val)).requireSpit, spitSince := false }).post
        (ev Ev.dryRisk Cls.bar b.val Rc.dryRisk ((v.aon - (v.rbar b.val).lastEject) / 1024000)))).trigoutLevels))
  ∧
  (∀ (k : Fin 8), Happens (.trigoutPulse · k)
    (fun v => (trigoutRec v.inForce k.val).event < 4 ∧ (trigoutRec v.inForce k.val).enable = true ∧ (v.trigoutOf k.val).asserted = true ∧ (∀ p ∈ (v.trigoutOf k.val).pulses, p.2 ≤ v.tick) ∧ v.pinsHeld = false)
    (fun v => (v.setTrigout k.val { asserted := false, pulses := [] }).emit (.trigout k.val (trigoutRec v.inForce k.val).activeLow)))
  ∧
  (∀ (k : Fin 8) (p : Nat × Nat), Happens (.trigoutPulse · k)
    (fun v => (trigoutRec v.inForce k.val).event < 4 ∧ (trigoutRec v.inForce k.val).enable = true ∧ (v.trigoutOf k.val).asserted = false ∧ (v.trigoutOf k.val).pulses = [p] ∧ p.1 ≤ v.tick ∧ v.tick < p.2 ∧ v.pinsHeld = false)
    (fun v => (v.setTrigout k.val { asserted := true, pulses := [p] }).emit (.trigout k.val (!(trigoutRec v.inForce k.val).activeLow))))
  ∧
  (∀ (b : Fin 16) (l : TLine), Happens (.fireTime · b)
    (fun v => (v.trig (v.inForce.trigOf b.val)).lines.find? (fun l => !l.held && decide (l.fire < 16 * (v.tick + 1))) = some l ∧ (∀ p ∈ (v.trig (v.inForce.trigOf b.val)).pulses, 16 * (v.tick + 1) ≤ p.fire))
    (fun v => v.fireLine b.val (v.inForce.trigOf b.val) l))
  ∧
  (∀ (b : Fin 16) (p : Pulse), Happens (.fireTime · b)
    (fun v => (v.trig (v.inForce.trigOf b.val)).lines = [] ∧ (v.trig (v.inForce.trigOf b.val)).pulses.find? (fun p => decide (p.fire < 16 * (v.tick + 1))) = some p)
    (fun v => v.firePulse b.val (v.inForce.trigOf b.val) p))
  ∧
  (∀ (b : Fin 16), Happens (.fireEnd · b)
    (fun _ => True)
    (fun v => ((fun u : State => u.ampUpdate (if u.sys = .fault then 1 else 0)) { v with fires := v.fires.filter (fun f => f.1 != b.val || decide (v.tick < f.2)) }).hvUpdate))
  ∧
  (∀ (b : Fin 16) (u : State) (x : Int), Happens (.linePrepare · b)
    (fun v => (v.sys = .printing ∨ v.sys = .paused) ∧ (v.rbar b.val).lastTicket ≠ none ∧ linesAhead (v.rbar b.val) < 8 ∧ u = v.takeData b.val ∧ (u.rbar b.val).due = some x ∧ u.badRows (u.cfgFor b.val (BitVec.ofInt 32 x)) b.val x = [])
    (fun v => (v.takeData b.val).prepareNext b.val))
  ∧
  (∀ (b : Fin 16), Happens (.linePrepare · b)
    (fun v => 8 ≤ linesAhead (v.rbar b.val))
    (fun v => v))
  ∧
  (∀ (b : Fin 16) (p : Fin 32) (l : PrepLine) (all : List (Nat × List Byte)) (u : State), Happens (.nozSend · b p)
    (fun v => (v.rbar b.val).prepared.find? (fun l => l.ports.any (fun q => q.port == p.val && !q.sent)) = some l ∧ v.portServes p.val = true ∧ (bufferedLines (v.port p.val) b.val).length < 8 ∧ all = (l.ports.filter (fun q => q.port == p.val)).flatMap (·.vectors) ∧ u = v.setRbar b.val { (v.rbar b.val) with prepared := (v.rbar b.val).prepared.map (fun m =>
          if m.ext = l.ext then { m with ports := m.ports.map (fun q => if q.port == p.val then { q with sent := true } else q) } else m) })
    (fun _ => (fun w : State => w.setPort p.val { w.port p.val with buffered := (w.port p.val).buffered ++ [{ bar := b.val, line := l.line, strobed := l.ticketed }] })
      (((all.filter (fun x => (u.queuePoison p.val x.1 l.line).isEmpty)).flatMap (nozFrames b.val l.line)).foldl (fun s f => s.sendFrame p.val f)
        (State.sendWaves b.val p.val l { u with mem := { u.mem with
          poison := u.mem.poison.filter (fun w => !(all.flatMap (fun x => u.queuePoison p.val x.1 l.line)).contains w) } }))))
  ∧
  (∀ (b : Fin 16) (p : Fin 32), Happens (.nozSend · b p)
    (fun v => 8 ≤ (bufferedLines (v.port p.val) b.val).length)
    (fun v => v))
  ∧
  (∀ (q : State) (b : Nat) (k : Int) (p c : Nat) (r : PlaneRec) (u : Nat) (w : State), Happens .decompSchedule
    (fun v => q = v.rotateWaiting ∧ q.decodes = true ∧ leastClaim (q.claims.filter (fun (c : Nat × Int × Nat × Nat) => (q.takeUnit c.1).isSome)) = some (b, k, p, c) ∧ Table.find? q.inForce.planes p = some r ∧ (indexEntryOf (q.indexBytesOf r c)).valid = true ∧ (indexEntryOf (q.indexBytesOf r c)).empty = true ∧ q.takeUnit b = some (u, w))
    (fun v => ((v.rotateWaiting.takeUnit b).elim v.rotateWaiting (·.2)).settle b p c true))
  ∧
  (∀ (q : State) (b : Nat) (k : Int) (p c : Nat) (r : PlaneRec), Happens .decompSchedule
    (fun v => q = v.rotateWaiting ∧ q.decodes = true ∧ leastClaim (q.claims.filter (fun (c : Nat × Int × Nat × Nat) => (q.takeUnit c.1).isSome)) = some (b, k, p, c) ∧ Table.find? q.inForce.planes p = some r ∧ (indexEntryOf (q.indexBytesOf r c)).valid = false)
    (fun v => v.rotateWaiting.setRbar b { v.rotateWaiting.rbar b with waitsIndex := some (p, c) }))
  ∧
  (∀ (q : State), Happens .decompSchedule
    (fun v => q = v.rotateWaiting ∧ q.decodes = true ∧ (∀ c ∈ q.claims, q.takeUnit c.1 = none))
    (fun v => v.rotateWaiting.verifyNext))
  ∧
  (∀ (q : State) (b : Nat) (k : Int) (p c : Nat) (r : PlaneRec) (u : Nat) (w : State), Happens .decompSchedule
    (fun v => q = v.rotateWaiting ∧ q.decodes = true ∧ leastClaim (q.claims.filter (fun (c : Nat × Int × Nat × Nat) => (q.takeUnit c.1).isSome)) = some (b, k, p, c) ∧ Table.find? q.inForce.planes p = some r ∧ (indexEntryOf (q.indexBytesOf r c)).valid = true ∧ (indexEntryOf (q.indexBytesOf r c)).empty = false ∧ q.takeUnit b = some (u, w))
    (fun v => (fun w : State => (w.setPlane p { w.plane p with retry := (w.plane p).retry && (w.plane p).halted != some c }).giveWork u
      { bar := b, plane := p, block := c, entry := v.rotateWaiting.indexBytesOf r c }) ((v.rotateWaiting.takeUnit b).elim v.rotateWaiting (·.2))))
  ∧
  (∀ (q : State), Happens .decompSchedule
    (fun v => q = v.rotateWaiting ∧ q.decodes = true ∧ leastClaim (q.claims.filter (fun (c : Nat × Int × Nat × Nat) => (q.takeUnit c.1).isSome)) = none)
    (fun v => v.rotateWaiting.verifyNext))
  ∧
  (Happens .decompSchedule
    (fun v => v.rotateWaiting.decodes = false)
    (fun v => v.rotateWaiting))
  ∧
  (∀ (b : Fin 16) (p c : Nat) (r : PlaneRec), Happens (.indexReread · b)
    (fun v => (v.rbar b.val).waitsIndex = some (p, c) ∧ Table.find? v.inForce.planes p = some r ∧ (indexEntryOf (v.indexBytesOf r c)).valid = true)
    (fun v => v.setRbar b.val { (v.rbar b.val) with waitsIndex := none }))
  ∧
  (∀ (b : Fin 16) (p c : Nat) (r : PlaneRec), Happens (.indexReread · b)
    (fun v => (v.rbar b.val).waitsIndex = some (p, c) ∧ Table.find? v.inForce.planes p = some r ∧ (indexEntryOf (v.indexBytesOf r c)).valid = false)
    (fun v => v))

/-- Decompressor and compressor rows, and blocks of the twin: what each row makes of the state. Readings and
choices of the model: log 4, 76, 78, 80, 149. (R225, R227, R234, R259, R323.) -/
def Obligations.CodecRows : Prop :=
  (∀ (u : Fin 5) (w : Work) (r : PlaneRec) (d : Decoded), Happens (.blockDecodeDone · u)
    (fun v => Table.find? v.plait.units u.val = some w ∧ w.suspended = false ∧ v.decodes = true ∧ Table.find? v.inForce.planes w.plane = some r ∧ v.decodeStep r w = .done d)
    (fun v => ({ v with plait := { v.plait with units := v.plait.units.erase u.val } }).finishBlock r w d))
  ∧
  (∀ (u : Fin 5) (w : Work) (r : PlaneRec), Happens (.blockDecodeDone · u)
    (fun v => Table.find? v.plait.units u.val = some w ∧ w.suspended = false ∧ v.decodes = true ∧ Table.find? v.inForce.planes w.plane = some r ∧ v.decodeStep r w = .empty)
    (fun v => ({ v with plait := { v.plait with units := v.plait.units.erase u.val } }).settle w.bar w.plane w.block true))
  ∧
  (∀ (u : Fin 5) (w : Work) (r : PlaneRec) (c : Reason), Happens (.blockDecodeDone · u)
    (fun v => Table.find? v.plait.units u.val = some w ∧ w.suspended = false ∧ v.decodes = true ∧ Table.find? v.inForce.planes w.plane = some r ∧ v.decodeStep r w = .bad c)
    (fun v => ({ v with plait := { v.plait with units := v.plait.units.erase u.val } }).badBlock w.bar w.plane r w.block c))
  ∧
  (∀ (u : Fin 5) (w : Work) (r : PlaneRec) (d : Decoded), Happens (.blockDecodeDone · u)
    (fun v => Table.find? v.plait.units u.val = some w ∧ w.suspended = false ∧ v.decodes = true ∧ Table.find? v.inForce.planes w.plane = some r ∧ v.decodeStep r w = .suspend d)
    (fun v => (fun x : State => { x with plait := { x.plait with
      suspensions := v.plait.suspensions + 1, bytesDecoded := v.plait.bytesDecoded + d.rev.length } })
      ((v.keepOutput r w d).giveWork u.val { w with suspended := true, at_ := (v.windowEnd w.bar).getD 0, ctx := d.ctx })))
  ∧
  (∀ (b : Fin 16), Happens (.decompResume · b)
    (fun v => v.decodes = true ∧ (v.rbar b.val).parked = [])
    (fun v => { v with plait := { v.plait with units := v.plait.units.map (fun u =>
      if u.2.bar = b.val && u.2.suspended && v.windowMoved u.2 then (u.1, { u.2 with suspended := false }) else u) } }))
  ∧
  (∀ (p : Fin 64) (c : Nat) (r : PlaneRec), Happens (.peerBlockResponse · p c none)
    (fun v => Table.find? v.inForce.planes p.val = some r ∧ (v.plane p.val).peer.any (fun q => q.1 == c) = true)
    (fun v => v.peerFails p.val r c))
  ∧
  (∀ (p : Fin 64) (c : Nat) (bs : List Byte) (r : PlaneRec) (u : State) (d : Decoded), Happens (.peerBlockResponse · p c (some bs))
    (fun v => Table.find? v.inForce.planes p.val = some r ∧ (v.plane p.val).peer.any (fun q => q.1 == c) = true ∧ u = v.setPlane p.val { v.plane p.val with peer := (v.plane p.val).peer.filter (fun q => q.1 != c) } ∧ u.decodeStep r { bar := r.bar, plane := p.val, block := c, peerBytes := some bs } = .done d)
    (fun v => (v.setPlane p.val { v.plane p.val with peer := (v.plane p.val).peer.filter (fun q => q.1 != c) }).finishBlock r
      { bar := r.bar, plane := p.val, block := c, peerBytes := some bs } d))
  ∧
  (∀ (p : Fin 64) (c : Nat) (o : Option (List Byte)), Happens (.peerBlockResponse · p c o)
    (fun v => (v.plane p.val).peer.any (fun q => q.1 == c) = false)
    (fun v => v))
  ∧
  (∀ (p : Fin 64) (q : Nat × Nat) (r : PlaneRec), Happens (.peerRequestTimeout · p)
    (fun v => (v.plane p.val).peer.find? (fun q => decide (q.2 + 40000 ≤ v.tick)) = some q ∧ Table.find? v.inForce.planes p.val = some r)
    (fun v => v.peerFails p.val r q.1))
  ∧
  (∀ (p : Fin 64), Happens (.peerRequestTimeout · p)
    (fun v => (∀ q ∈ (v.plane p.val).peer, v.tick < q.2 + 40000))
    (fun v => v))
  ∧
  (∀ (p : Fin 64) (c : Nat) (r : PlaneRec) (e : IndexEntry), Happens (.peerBlockRequest · p c)
    (fun v => Table.find? v.inForce.planes p.val = some r ∧ e = indexEntryOf (v.indexBytesOf r c) ∧ c < planeBlocks r ∧ e.valid = true ∧ e.empty = false ∧ indexInvalid r c e = false ∧ v.poisoned 2 e.offset e.length = false)
    (fun v => v.emit (.peerResponse p.val c (some (v.hbmRead e.offset e.length)))))
  ∧
  (∀ (p : Fin 64) (c : Nat), Happens (.peerBlockRequest · p c)
    (fun v => Table.find? v.inForce.planes p.val = none)
    (fun v => v.emit (.peerResponse p.val c none)))
  ∧
  (∀ (k : Fin 16), Happens (.sessionBlockEmit · k)
    (fun v => (v.session k.val).captured = none)
    (fun v => v))
  ∧
  (∀ (k : Fin 16) (r : PlaneRec), Happens (.sessionBlockEmit · k)
    (fun v => (v.session k.val).captured = some r ∧ v.linkRuns = false)
    (fun v => v))
  ∧
  (∀ (k : Fin 16) (r : PlaneRec), Happens (.sessionBlockEmit · k)
    (fun v => (v.session k.val).captured = some r ∧ rowWaits (v.session k.val) = true ∧ 0 < v.activeCount 2 ∧ v.linkRuns = true ∧ v.underTest 19 = false)
    (fun v => (fun u : State =>
      if (u.session k.val).state ≠ .opened then (u.setSession k.val { u.session k.val with raw := [] }).dropRaw k.val
          ((u.session k.val).raw.drop (sessionRowLines (v.session k.val) r * sessionLine r)).length
      else if planeRows r ≤ (u.session k.val).nextRow + 1 then
        (fun w : State => w.post (ev Ev.sessionDone Cls.plane (u.session k.val).plane 0 (k.val + 256 * (u.session k.val).emitted.toNat)))
          ((u.setSession k.val { u.session k.val with
            state := .done, nextRow := (u.session k.val).nextRow + 1, raw := []
            excess := (u.session k.val).excess || !((u.session k.val).raw.drop (sessionRowLines (v.session k.val) r * sessionLine r)).isEmpty }).dropRaw k.val
            ((u.session k.val).raw.drop (sessionRowLines (v.session k.val) r * sessionLine r)).length)
      else u.setSession k.val { u.session k.val with
        nextRow := (u.session k.val).nextRow + 1, raw := (u.session k.val).raw.drop (sessionRowLines (v.session k.val) r * sessionLine r) })
      ((List.range (tilesOf r.width)).foldl (fun s t => s.emitBlock k.val r
        (chunks (sessionLine r) (sessionRowLines (v.session k.val) r) (v.session k.val).raw) t) v)))

/-- Cane link training, frames, acknowledgements and deadlines: what each row makes of the state. Readings
and choices of the model: log 4, 83, 143, 148. (R266, R270, R282, R283, R284, R285, R288, R289, R290,
R293, R294.) -/
def Obligations.CaneRows : Prop :=
  (∀ (p : Fin 32), Happens (.rxLocked · p)
    (fun v => (v.port p.val).state = .electrical)
    (fun v => v.enterPort p.val .blockLock 0))
  ∧
  (∀ (p : Fin 32), Happens (.rxLocked · p)
    (fun v => (v.port p.val).state ≠ .electrical)
    (fun v => v))
  ∧
  (∀ (p : Fin 32) (i : Bool), Happens (.blockLockAcquired · p i)
    (fun v => (v.port p.val).state = .blockLock)
    (fun v => (v.setPort p.val { (v.port p.val) with inverted := i }).enterPort p.val .rimLock 0))
  ∧
  (∀ (p : Fin 32), Happens (.blockLockLoss · p)
    (fun _ => True)
    (fun v => v.losePort p.val))
  ∧
  (∀ (p : Fin 32) (f k : Bool), Happens (.rimReceived · p f k true)
    (fun v => (v.port p.val).state = .rimLock ∧ (v.port p.val).rims = 3)
    (fun v => (v.setPort p.val { (v.port p.val) with rims := 4 }).enterPort p.val .hello 0))
  ∧
  (∀ (p : Fin 32) (f k : Bool), Happens (.rimReceived · p f k false)
    (fun v => (v.port p.val).state = .rimLock)
    (fun v => v.setPort p.val { (v.port p.val) with rims := 1 }))
  ∧
  (∀ (p : Fin 32), Happens (.rimReceived · p false false true)
    (fun v => (v.port p.val).state = .up)
    (fun v => v.setPort p.val { (v.port p.val) with buffered := [] }))
  ∧
  (∀ (p : Fin 32), Happens (.rimReceived · p true true true)
    (fun v => (v.port p.val).state = .up)
    (fun v => v.losePort p.val))
  ∧
  (∀ (p : Fin 32), Happens (.rimMissing · p)
    (fun _ => True)
    (fun v => v.losePort p.val))
  ∧
  (∀ (p : Fin 32) (us : Nat), Happens (.trainTimeout · p)
    (fun v => trainTimeoutUs (v.port p.val).state = some us ∧ (v.port p.val).since + us * 400 ≤ v.tick)
    (fun v => ((v.setPort p.val { dropTraffic (v.port p.val) with retry := true, timedOut := true }).enterPort p.val .down Rc.trainTimeout).judgeDown p.val))
  ∧
  (∀ (p : Fin 32), Happens (.trainRestart · p)
    (fun v => (v.port p.val).state = .down ∧ v.underTest (11 + p.val / 16) = false ∧ (v.port p.val).retry = false)
    (fun v => (v.startTraining p.val).judgeDown p.val))
  ∧
  (∀ (p : Fin 32), Happens (.trainRestart · p)
    (fun v => (v.port p.val).state = .down ∧ (v.port p.val).retry = true ∧ v.tick < (v.port p.val).since + 4000000)
    (fun v => v))
  ∧
  (∀ (p : Fin 32) (x : Sts), Happens (.stsReceived · p x)
    (fun v => (v.port p.val).state = .up ∧ x.source = (v.port p.val).source ∧ x.fault = false ∧ headFlags x = 0)
    (fun v => v.setPort p.val { (v.port p.val) with sts := some x, stsAt := v.aon, source := x.source }))
  ∧
  (∀ (p : Fin 32) (x : Sts), Happens (.stsReceived · p x)
    (fun v => (v.port p.val).state = .hello ∧ x.source = (v.port p.val).source ∧ x.fault = false ∧ headFlags x = 0 ∧ x.protocol = 1 ∧ 8 ≤ x.bufferLines)
    (fun v => ((fun u : State => u.setPort p.val { u.port p.val with passedHello := true, lastTsy := 0 })
      (v.setPort p.val { (v.port p.val) with sts := some x, stsAt := v.aon, source := x.source })).enterPort p.val .tsyAlign 0))
  ∧
  (∀ (p : Fin 32) (x : Sts), Happens (.stsReceived · p x)
    (fun v => (v.port p.val).state = .hello ∧ x.source = (v.port p.val).source ∧ x.fault = false ∧ headFlags x = 0 ∧ x.bufferLines < 8)
    (fun v => (v.setPort p.val { (v.port p.val) with sts := some x, stsAt := v.aon, source := x.source }).enterPort p.val .incompatible Rc.moduleIncompatible))
  ∧
  (∀ (p : Fin 32) (k : Nat) (l : List HltRec) (u : State), Happens (.hltReceived · p k l)
    (fun v => (v.port p.val).state = .up ∧ u = v.sendFrame p.val (.ack [k]) ∧ u.healthLeads = true)
    (fun v => (v.sendFrame p.val (.ack [k])).queueHlt p.val l))
  ∧
  (∀ (p : Fin 32) (k : Nat) (l : List HltRec), Happens (.hltReceived · p k l)
    (fun v => (v.port p.val).state ≠ .up)
    (fun v => v))
  ∧
  (∀ (p : Fin 32) (k a b c : Nat), Happens (.ackReceived · p k a b c)
    (fun v => (v.port p.val).unacked.find? (fun f => f.seq == k) = none)
    (fun v => v))
  ∧
  (∀ (p : Fin 32) (k a b c q t : Nat) (e : Int) (f : TxFrame), Happens (.ackReceived · p k a b c)
    (fun v => (v.port p.val).unacked.find? (fun f => f.seq == k) = some f ∧ f.body = .tsy q t e)
    (fun v => (v.setPort p.val { (v.port p.val) with unacked := (v.port p.val).unacked.filter (fun g => g.seq != k) }).tsyExchange p.val t a b c))
  ∧
  (∀ (p : Fin 32) (k c : Nat) (f : TxFrame), Happens (.nakReceived · p k c)
    (fun v => (v.port p.val).unacked.find? (fun f => f.seq == k) = some f)
    (fun v => (v.setPort p.val { (v.port p.val) with naks := (v.port p.val).naks + 1 }).retransmit p.val f))
  ∧
  (∀ (p : Fin 32) (k c : Nat), Happens (.nakReceived · p k c)
    (fun v => (v.port p.val).unacked.find? (fun f => f.seq == k) = none)
    (fun v => v.setPort p.val { (v.port p.val) with naks := (v.port p.val).naks + 1 }))
  ∧
  (∀ (p : Fin 32) (k : Nat) (f : TxFrame), Happens (.ackTimeout · p k)
    (fun v => (v.port p.val).unacked.find? (fun f => f.seq == k) = some f ∧ f.sentAt + frameTicks f.body + 1600 ≤ v.tick ∧ (∀ g ∈ (v.port p.val).waiting, ¬ (g.rank = 3 ∧ g.seq = k)))
    (fun v => v.retransmit p.val f))
  ∧
  (∀ (p : Fin 32) (k : Nat) (f : TxFrame), Happens (.ackTimeout · p k)
    (fun v => (v.port p.val).unacked.find? (fun f => f.seq == k) = some f ∧ v.tick < f.sentAt + frameTicks f.body + 1600)
    (fun v => v))
  ∧
  (∀ (p : Fin 32) (b : Fin 16) (l : Word) (f : Nat), Happens (.lineDeadline · p b l)
    (fun v => v.lineFire b.val l = some f ∧ f ≤ 16 * v.tick + 12800 ∧ v.portServes p.val = true ∧ (v.inForce.portsOf b.val).contains p.val = true ∧ (b.val, l) ∉ (v.port p.val).lateFor ∧ v.nozOpen p.val b.val l = true)
    (fun v => (fun y : Port => (v.setPort p.val y).postLimited ⟨Ev.caneLate, p.val, 0⟩ (caneLateBody p.val y l))
      { (v.port p.val) with
        unacked := (v.port p.val).unacked.filter (fun f => !(frameLine f.body == some (b.val, l))), lateLines := (v.port p.val).lateLines + 1
        lateFor := (b.val, l) :: (v.port p.val).lateFor }))
  ∧
  (∀ (p : Fin 32) (b : Fin 16) (l : Word), Happens (.lineDeadline · p b l)
    (fun v => (v.nozOpen p.val b.val l = false ∨ v.portServes p.val = false))
    (fun v => v))
  ∧
  (∀ (p : Fin 32) (b : Fin 16) (l : Word), Happens (.lineDeadline · p b l)
    (fun v => v.lineFire b.val l = none)
    (fun v => v))
  ∧
  (∀ (p : Fin 32), Happens (.tsySend · p)
    (fun v => ((v.port p.val).state = .up ∨ (v.port p.val).state = .config) ∧ (v.port p.val).lastTsy + (portRec v.inForce p.val).tsyPeriod * 400000 ≤ v.tick)
    (fun v => (v.setPort p.val { (v.port p.val) with lastTsy := v.tick, adj := 0, tsySeq := ((v.port p.val).tsySeq + 1) % 65536 }).sendFrame p.val
      (.tsy (v.port p.val).tsySeq 0 (v.port p.val).adj)))
  ∧
  (∀ (p : Fin 32), Happens (.tsySend · p)
    (fun v => (v.port p.val).state = .tsyAlign ∧ (v.port p.val).lastTsy + 4000 ≤ v.tick)
    (fun v => (v.setPort p.val { (v.port p.val) with lastTsy := v.tick, adj := 0, tsySeq := ((v.port p.val).tsySeq + 1) % 65536 }).sendFrame p.val
      (.tsy (v.port p.val).tsySeq 0 (v.port p.val).adj)))
  ∧
  (Happens .bankCatchup
    (fun v => v.catchUps = [])
    (fun v => v))
  ∧
  (∀ (c : CatchUp), Happens .bankCatchup
    (fun v => v.catchUps = [c] ∧ c.sent = false ∧ (∀ f ∈ c.frames, (v.port f.1).state ≠ .up ∧ (v.port f.1).state ≠ .config) ∧ (∀ x ∈ c.bars, v.bankOf x.1 ≠ x.2.2 ∧ (v.trig (v.inForce.trigOf x.1)).pulses = [] ∧
        (∀ l ∈ (v.trig (v.inForce.trigOf x.1)).lines, l.bank ≠ x.2.2) ∧ (∀ f ∈ v.fires, f.1 = x.1 → f.2 ≤ v.tick)))
    (fun v => { v with catchUps := [] }))
  ∧
  (∀ (c : CatchUp) (a h : Nat) (w : List Byte), Happens .bankCatchup
    (fun v => v.catchUps = [c] ∧ c.sent = false ∧ c.frames = [(a, h, w)] ∧ (v.port a).state = .up ∧ (∀ x ∈ c.bars, v.bankOf x.1 ≠ x.2.2 ∧ (v.trig (v.inForce.trigOf x.1)).pulses = [] ∧
        (∀ l ∈ (v.trig (v.inForce.trigOf x.1)).lines, l.bank ≠ x.2.2) ∧ (∀ f ∈ v.fires, f.1 = x.1 → f.2 ≤ v.tick)))
    (fun v => { v.sendAs 5 a (.cfg h w) with catchUps := [{ c with sent := true, awaits := [(a, (v.port a).seq)] }] }))
  ∧
  (∀ (c : CatchUp) (x : State) (a : Nat × Nat) (l : List (Nat × Nat)), Happens .bankCatchup
    (fun v => v.catchUps = [c] ∧ c.sent = false ∧ v.sendCfg false c.frames = (x, a :: l) ∧ (∀ x ∈ c.bars, v.bankOf x.1 ≠ x.2.2 ∧ (v.trig (v.inForce.trigOf x.1)).pulses = [] ∧
        (∀ l ∈ (v.trig (v.inForce.trigOf x.1)).lines, l.bank ≠ x.2.2) ∧ (∀ f ∈ v.fires, f.1 = x.1 → f.2 ≤ v.tick)))
    (fun _ => { x with catchUps := [{ c with sent := true, awaits := a :: l }] }))
  ∧
  (∀ (c : CatchUp) (a h : Nat) (w : List Byte) (x : State), Happens .bankCatchup
    (fun v => v.catchUps = [c] ∧ c.sent = false ∧ c.frames = [(a, h, w)] ∧ (v.port a).state = .config ∧ x = v.sendAs 5 a (.cfg h w) ∧ (∀ x ∈ c.bars, v.bankOf x.1 ≠ x.2.2 ∧ (v.trig (v.inForce.trigOf x.1)).pulses = [] ∧
        (∀ l ∈ (v.trig (v.inForce.trigOf x.1)).lines, l.bank ≠ x.2.2) ∧ (∀ f ∈ v.fires, f.1 = x.1 → f.2 ≤ v.tick)))
    (fun v => { x.setPort a { x.port a with configWaits := (x.port a).configWaits ++ [(v.port a).seq] } with catchUps := [] }))
  ∧
  (Happens .bankCatchup
    (fun v => (∀ c ∈ v.catchUps, c.sent = true))
    (fun v => v))

/-- Assessment, requests, FW_AUTO and heaters: what each row makes of the state. Readings and choices of the
model: log 4, 86. (R300, R302, R313, R316.) -/
def Obligations.HealthRows : Prop :=
  (Happens .healthAssess
    (fun v => v.health.queue = [])
    (fun v => v))
  ∧
  (∀ (p : Nat) (x : HltRec) (l : List (Nat × HltRec)) (h : Nat) (r : HeadRec), Happens .healthAssess
    (fun v => v.health.queue = (p, x) :: l ∧ v.activeCount 3 ≠ 0 ∧ v.linkRuns = true ∧ headAt v.inForce p x.localHead = some (h, r) ∧ x.nozzle < r.rows * r.perRow ∧ (refRec v.inForce h (x.nozzle / r.perRow)).amp = 0)
    (fun v => (({ v with health := { v.health with queue := l } }.countHealth r.bar h (fun c => { c with unreferenced := c.unreferenced + 1 })).settleRequest
      (h * 8192 + x.nozzle) false)))
  ∧
  (∀ (p : Nat) (x : HltRec) (l : List (Nat × HltRec)) (h : Nat) (r : HeadRec), Happens .healthAssess
    (fun v => v.health.queue = (p, x) :: l ∧ v.activeCount 3 ≠ 0 ∧ v.linkRuns = true ∧ headAt v.inForce p x.localHead = some (h, r) ∧ x.nozzle < r.rows * r.perRow ∧ (refRec v.inForce h (x.nozzle / r.perRow)).amp ≠ 0)
    (fun v => ((fun u : State => ({ u with health := { u.health with results := u.health.results.set (h * 8192 + x.nozzle) {
            amplitude := (features x.samples).1, period := (features x.samples).2.1, decay := (features x.samples).2.2, aon := u.aon } } }).rawResult
        (h * 8192 + x.nozzle) (rawClass (policyRec v.inForce r.bar) (refRec v.inForce h (x.nozzle / r.perRow))
          (features x.samples).1 (features x.samples).2.1 (features x.samples).2.2))
      ({ v with health := { v.health with queue := l } }.countHealth r.bar h (fun c => { c with assessed := c.assessed + 1 }))).settleRequest
      (h * 8192 + x.nozzle) true))
  ∧
  (∀ (i : Nat), Happens (.healthReqTimeout · i)
    (fun v => (∀ x ∈ v.health.requests, x.1 ≠ i))
    (fun v => v))
  ∧
  (∀ (i : Nat) (x : Nat × Nat) (r : HeadRec), Happens (.healthReqTimeout · i)
    (fun v => v.health.requests.find? (fun x => x.1 == i) = some x ∧ r = headRec v.inForce (i / 8192) ∧ v.stage = 0 ∧ v.linkRuns = true ∧ v.healthLeads = true ∧ x.2 + (policyRec v.inForce r.bar).reqTimeout * 1024 ≤ v.aon)
    (fun v => (fun r : HeadRec => ((v.sendRecords r.port (reqRecord r.localHead (0xFFFF :: ((v.headRequests (i / 8192)).filter (fun y => y.1 != i)).map (fun y => y.1 % 8192)))).countHealth
      r.bar (i / 8192) (fun c => { c with unfired := c.unfired + 1 })).settleRequest i false) (headRec v.inForce (i / 8192))))
  ∧
  (Happens .fwAutoSubmit
    (fun v => (v.sset 16).staged = [])
    (fun v => v))
  ∧
  (Happens .fwAutoSubmit
    (fun v => (v.sset 16).staged ≠ [] ∧ (v.sset 16).submitted = [] ∧ v.healthLeads = true ∧ 256 ≤ (v.sset 16).staged.length ∧ (∀ t, v.health.refusedAt = some t → t + 20480 ≤ v.aon) ∧ v.validAuto (v.sset 16).staged = ((v.sset 16).staged, []))
    (fun v => (State.submitCommit 16 .fwAuto .set none (v.sset 16).staged { v with health := { v.health with autoSince := none, refusedAt := none } })))
  ∧
  (Happens .heaterLoop
    (fun v => v.healthLeads = true ∧ v.linkRuns = true ∧ v.health.lastLoop + 10240 ≤ v.aon)
    (fun v => (List.range 256).foldl (fun s h => if (tempRec s.inForce h).enable then s.heaterHead h else s)
      { v with health := { v.health with lastLoop := v.aon } }))
  ∧
  (Happens .heaterLoop
    (fun v => v.aon < v.health.lastLoop + 10240)
    (fun v => v))

/-- The pairing link, heartbeat, streams and ceilings: what each row makes of the state. Readings and
choices of the model: log 4, 88, 89, 93, 143, 153, 154. (R324, R326, R330, R332, R333, R334, R336,
R342.) -/
def Obligations.PairRows : Prop :=
  (∀ (t : Nat), Happens .pairTrainTimeout
    (fun v => v.pair.trainFrom = some t ∧ v.pair.state = .training ∧ t + 2000000 ≤ v.tick)
    (fun v => v.setPair .unpaired 0))
  ∧
  (Happens .pairTrainTimeout
    (fun v => v.pair.state ≠ .training ∧ (v.pair.state ≠ .syncing ∨ v.sys ≠ .upsett))
    (fun v => v))
  ∧
  (∀ (t : Nat), Happens .pairTrainTimeout
    (fun v => v.pair.trainFrom = some t ∧ v.pair.state = .syncing ∧ v.sys = .upsett ∧ t + 2000000 ≤ v.tick)
    (fun v => (({ v with pair := { v.pair with lanes := 0 } }).unpair 0).resyncDone Rc.resyncFailed))
  ∧
  (∀ (t : Nat), Happens .pairRetrain
    (fun v => v.pair.state = .unpaired ∧ v.pair.trainFrom = some t ∧ t + 40000000 ≤ v.tick ∧ v.mayTrain = true ∧ v.sys.operating = true)
    (fun v => ({ v with pair := { v.pair with trainFrom := some v.tick } }).setPair .training 0))
  ∧
  (∀ (t : Nat), Happens .pairRetrain
    (fun v => v.pair.trainFrom = some t ∧ v.tick < t + 40000000)
    (fun v => v))
  ∧
  (∀ (h : Hello) (c : Reason) (t : Nat), Happens (.pairHello · h)
    (fun v => (v.pairRuns = false ∨ v.pair.lanes = 0) ∧ v.pair.trainFrom = some t ∧ v.mayTrain = true ∧ v.helloRole h = .error c)
    (fun v => ({ v with pair := { v.pair with trainFrom := none, twinSerial := h.serial } }).setPair .incompatible c))
  ∧
  (∀ (h : Hello) (t : Nat) (w : State), Happens (.pairHello · h)
    (fun v => (v.pairRuns = false ∨ v.pair.lanes = 0) ∧ v.pair.trainFrom = some t ∧ v.mayTrain = true ∧ v.helloRole h = .ok true ∧ w = State.takeRole v { v with pair := { v.pair with
        unitS := false, promoted := false, lanes := 0xFF, twinSerial := h.serial
        trainFrom := if v.sys == .upsett then v.pair.trainFrom else none
        srcKept := v.pair.promoted || v.pair.srcKept, counterSet := false, slew := 0, motions := [], ceilPast := []
        twinContiguous := h.contiguous, twinSys := h.sysState, twinFault := 0, lastMsg := v.tick, lastPin := v.tick
        lastControl := v.tick, streamClosed := v.tick, edges := [], consec := [], consecMax := 0, resyncFails := 0
        fallback := false, timeAligned := false, goodAlign := 0, selfWithdrawn := false
        ceilTwin := 0x8000, ceilNext := [], temps := [], joins := [], ownDigests := [], twinDigests := [] } })
    (fun _ => (fun u : State => u.emit (.control (.status u.mem.contiguous (logFree u.log) (sysCode u.sys) u.host.faultCode)))
      ((w.setPair .syncing 0).emit (.control (.ceiling w.ownCeiling)))))
  ∧
  (Happens .hbToggle
    (fun v => v.inPair = true ∧ v.pairRuns = true ∧ v.pinsHeld = false ∧ v.pair.lastToggle + 400 ≤ v.tick)
    (fun v => (({ v with pair := { v.pair with lastToggle := v.tick, hbLevel := !v.pair.hbLevel } }).emit (.hbPin (!v.pair.hbLevel))).emit (.control .heartbeat)))
  ∧
  (Happens .hbToggle
    (fun v => v.inPair = true ∧ v.pairRuns = true ∧ v.pinsHeld = true ∧ v.pair.lastToggle + 400 ≤ v.tick)
    (fun v => ({ v with fresh := v.fresh + 1, pair := { v.pair with lastToggle := v.tick, lastPin := if Config.pairPinMoves v.fresh then v.tick else v.pair.lastPin } }).emit (.control .heartbeat)))
  ∧
  (Happens (.heartbeatTimeout · true)
    (fun v => v.inPair = true ∧ v.pairRuns = true ∧ v.pinsHeld = true ∧ v.pair.lastMsg + 8000 ≤ v.tick)
    (fun v => (State.ownInputs { v with pair := { v.pair with lastPin := min v.pair.lastPin (v.tick - 8000) } }).promote Rc.heartbeatLost))
  ∧
  (Happens (.heartbeatTimeout · true)
    (fun v => v.inPair = true ∧ v.pairRuns = true ∧ v.pinsHeld = true ∧ v.tick < v.pair.lastMsg + 8000)
    (fun v => (fun u : State => (u.post (ev Ev.pairHbPin Cls.system 0 Rc.hbPinFault u.hbAge)).pairChange 4) { v with pair := { v.pair with lastPin := min v.pair.lastPin (v.tick - 8000) } }))
  ∧
  (Happens (.heartbeatTimeout · true)
    (fun v => v.inPair = true ∧ v.pairRuns = true ∧ v.pinsHeld = false ∧ v.pair.lastMsg + 8000 ≤ v.tick)
    (fun v => (State.ownInputs { v with pair := { v.pair with lastPin := min v.pair.lastPin (v.tick - 8000), lanes := 0 } }).unpair Rc.linkLost))
  ∧
  (Happens (.heartbeatTimeout · true)
    (fun v => v.inPair = true ∧ v.pairRuns = true ∧ v.pinsHeld = false ∧ v.tick < v.pair.lastMsg + 8000)
    (fun v => { v with pair := { v.pair with lastPin := min v.pair.lastPin (v.tick - 8000) } }))
  ∧
  (Happens .faultDeclared
    (fun v => v.inPair = true ∧ v.pinsHeld = true)
    (fun v => (v.pairChange 2).ownInputs.promote Rc.twinFaultDeclared))
  ∧
  (Happens .faultDeclared
    (fun v => (v.inPair = false ∨ v.pinsHeld = false))
    (fun v => v))
  ∧
  (∀ (n : Nat), Happens (.controlMessage · .heartbeat n)
    (fun v => v.inPair = true)
    (fun v => { v with pair := { v.pair with lastControl := v.tick, lastMsg := v.tick, latencyMax := min 65535 (max v.pair.latencyMax n) } }))
  ∧
  (∀ (n : Nat) (c : Control), Happens (.controlMessage · c n)
    (fun v => v.inPair = false)
    (fun v => v))
  ∧
  (∀ (n k : Nat), Happens (.controlMessage · (.ceiling k) n)
    (fun v => v.inPair = true ∧ v.leadsPair = false)
    (fun v => { v with pair := { v.pair with lastControl := v.tick, ceilTwin := k, latencyMax := min 65535 (max v.pair.latencyMax n) } }))
  ∧
  (∀ (n : Nat), Happens (.controlMessage · .haltReport n)
    (fun v => v.inPair = true ∧ v.leadsPair = true)
    (fun v => ({ v with pair := { v.pair with lastControl := v.tick, latencyMax := min 65535 (max v.pair.latencyMax n) } }).toUnitP .haltReport))
  ∧
  (Happens .inputFallback
    (fun v => v.follows = true ∧ v.pair.lastControl + 320 ≤ v.tick)
    (fun v => v.ownInputs))
  ∧
  (Happens .inputFallback
    (fun v => v.tick < v.pair.lastControl + 320)
    (fun v => v))
  ∧
  (Happens .stateEventApply
    (fun v => v.pair.stateEvents = [])
    (fun v => v))
  ∧
  (∀ (e : StateEvent) (t : Nat) (o : Origin) (l : List (StateEvent × Nat × Origin)), Happens .stateEventApply
    (fun v => v.pair.stateEvents = (e, t, o) :: l ∧ t ≤ v.tick ∧ (v.follows = true → t ≤ v.pair.streamClosed))
    (fun v => ({ v with pair := { v.pair with stateEvents := l } }).applyEvent e o))
  ∧
  (Happens .stateEventApply
    (fun v => (∀ e ∈ v.pair.stateEvents, v.tick < e.2.1))
    (fun v => v))
  ∧
  (∀ (c t : Nat) (l : List (Nat × Nat)), Happens .ceilingApply
    (fun v => v.pair.ceilNext = (c, t) :: l ∧ t ≤ v.tick)
    (fun v => ({ v with pair := { v.pair with
      ceilNext := l, ceilPast := (v.pair.ceilPast ++ [(v.therm.ceiling, t)]).filter (fun x => decide (v.pair.streamClosed < x.2)) } }).setCeiling c))
  ∧
  (∀ (c t : Nat) (l : List (Nat × Nat)), Happens .ceilingApply
    (fun v => v.pair.ceilNext = (c, t) :: l ∧ v.tick < t)
    (fun v => v))
  ∧
  (Happens .tempSnapshotSend
    (fun v => v.leadsPair = true ∧ v.pair.lastTempSend + 400000 ≤ v.tick)
    (fun v => ((fun (u : State) (a : List (Nat × Option Int)) (b : List (Nat × Word)) => (u.pushTemps { values := a, apply := b, tick := v.tick }).emit (.control (.temps a b v.tick)))
      { v with pair := { v.pair with lastTempSend := v.tick } }
      ((v.inForce.heads.filter (fun (h : Nat × HeadRec) => h.2.bar != 0xFF)).map (fun (h : Nat × HeadRec) => (h.1, v.stsTemp h.2 0)))
      (v.inForce.enabledBars.map (fun b => (b, v.pairApplyLine b))))))
  ∧
  (∀ (a b c d : Nat), Happens (.timeExchange · a b c d)
    (fun v => (v.inPair = false ∨ v.pinsHeld = false))
    (fun v => v))
  ∧
  (∀ (a d k : Nat), Happens (.timeExchange · a (a + k + d) (a + k + d) (a + d + d))
    (fun v => v.inPair = true ∧ v.pinsHeld = true ∧ k ≤ 6 ∧ v.pair.counterSet = true ∧ v.pair.timeAligned = true)
    (fun v => { v with pair := { v.pair with offset := k, pathDelay := d, goodAlign := v.pair.goodAlign + 1, slew := 0 } }))

/-- Mirrored commits, digests, snapshots and forwarding: what each row makes of the state. Readings and
choices of the model: log 4, 92, 130. (R328, R335, R339, R341, R487.) -/
def Obligations.MirrorRows : Prop :=
  (∀ (l : List Change), Happens (.commitPrepare · l)
    (fun v => v.mirrors = false)
    (fun v => v))
  ∧
  (∀ (l : List Change) (e : Refused) (w : State), Happens (.commitPrepare · l)
    (fun v => v.mirrors = true ∧ w = State.noteCheck { v.undoPrepare with pair := { v.undoPrepare.pair with preparing := some (l, false, []), prepared := none } } ∧ w.judge .peer .set l = some e)
    (fun _ => ({ w with pair := { w.pair with preparing := none } }).emit (.ready false)))
  ∧
  (∀ (l : List Change) (w x : State), Happens (.commitPrepare · l)
    (fun v => v.mirrors = true ∧ w = State.noteCheck { v.undoPrepare with pair := { v.undoPrepare.pair with preparing := some (l, false, []), prepared := none } } ∧ w.judge .peer .set l = none ∧ w.catchUpDue (w.preload w.accepted (w.accepted.applyAll l)) = false ∧ w.bankBusy w.accepted (w.accepted.applyAll l) = false ∧ w.sendCfg true (w.preload w.accepted (w.accepted.applyAll l)) = (x, []))
    (fun _ => (({ x with pair := { x.pair with preparing := none, prepared := some l } }).setSset 17 { staged := l }).emit (.ready true)))
  ∧
  (∀ (l : List Change) (w x : State) (a : Nat × Nat) (m : List (Nat × Nat)), Happens (.commitPrepare · l)
    (fun v => v.mirrors = true ∧ w = State.noteCheck { v.undoPrepare with pair := { v.undoPrepare.pair with preparing := some (l, false, []), prepared := none } } ∧ w.judge .peer .set l = none ∧ w.catchUpDue (w.preload w.accepted (w.accepted.applyAll l)) = false ∧ w.bankBusy w.accepted (w.accepted.applyAll l) = false ∧ w.sendCfg true (w.preload w.accepted (w.accepted.applyAll l)) = (x, a :: m))
    (fun _ => { x with pair := { x.pair with preparing := some (l, true, a :: m) } }))
  ∧
  (∀ (x : Bool), Happens (.commitReady · x)
    (fun v => v.leadsPair = true)
    (fun v => v.readyFront))
  ∧
  (∀ (x : Bool), Happens (.commitReady · x)
    (fun v => v.leadsPair = false)
    (fun v => v))
  ∧
  (∀ (i : Word) (l : List (Nat × Word)), Happens (.commitMirror · i l)
    (fun v => v.mirrors = false)
    (fun v => v))
  ∧
  (∀ (i : Word) (l : List (Nat × Word)), Happens (.commitMirror · i l)
    (fun v => v.mirrors = true ∧ v.pair.prepared = none)
    (fun v => v.startResync Rc.mirrorFailed))
  ∧
  (∀ (i : Word) (l : List (Nat × Word)) (c : List Change), Happens (.commitMirror · i l)
    (fun v => v.mirrors = true ∧ v.pair.prepared = some c ∧ v.ticketedPast l = true)
    (fun v => v.startResync Rc.mirrorFailed))
  ∧
  (∀ (i : Word) (l : List (Nat × Word)) (c : List Change), Happens (.commitMirror · i l)
    (fun v => v.mirrors = true ∧ v.pair.prepared = some c ∧ v.ticketedPast l = false)
    (fun v => (l.foldl (fun (s : State) x => s.unprepare x.1 x.2) ((({ v with pair := { v.pair with prepared := none, preparing := none } }).setSset 17 {}).logEntry
      { origin := .peer, obj := i.toNat, old := (v.commitDigests c).1, new := (v.commitDigests c).2, flags := 0x8 })).installCommit i .peer c
      ((v.barsOfAll (v.accepted.applyAll c) c).map (fun b => (b, (l.find? (fun x => x.1 == b)).map (·.2))))))
  ∧
  (∀ (h : Held) (l : List Held), Happens .readyTimeout
    (fun v => v.held = h :: l ∧ h.prepared = true ∧ h.ready = false ∧ h.since.tick + 800000 ≤ v.tick)
    (fun v => v.readyFront))
  ∧
  (Happens .readyTimeout
    (fun v => v.held = [])
    (fun v => v))
  ∧
  (∀ (b : Fin 16) (p : Fin 32) (i d : Word) (x : Bool) (o : Digest), Happens (.digestReceived · b p i d x)
    (fun v => (v.pair.state = .paired ∨ v.pair.state = .syncing) ∧ v.comparesLine b.val i = true ∧ v.pair.ownDigests.find? (sameLine { bar := b.val, port := p.val, line := i, digest := d, excluded := x, closed := v.tick }) = some o)
    (fun v => v.compareDigests o { bar := b.val, port := p.val, line := i, digest := d, excluded := x, closed := v.tick }))
  ∧
  (∀ (b : Fin 16) (p : Fin 32) (i d : Word) (x : Bool), Happens (.digestReceived · b p i d x)
    (fun v => (v.pair.state = .paired ∨ v.pair.state = .syncing) ∧ v.comparesLine b.val i = true ∧ v.pair.ownDigests.find? (sameLine { bar := b.val, port := p.val, line := i, digest := d, excluded := x, closed := v.tick }) = none)
    (fun v => { v with pair := { v.pair with twinDigests := v.pair.twinDigests ++ [{ bar := b.val, port := p.val, line := i, digest := d, excluded := x, closed := v.tick }] } }))
  ∧
  (∀ (b : Fin 16) (p : Fin 32) (i d : Word) (x : Bool), Happens (.digestReceived · b p i d x)
    (fun v => v.comparesLine b.val i = false)
    (fun v => v))
  ∧
  (∀ (b : Fin 16) (p : Fin 32) (i : Word), Happens (.digestAbsent · b p i)
    (fun v => v.pair.ownDigests = [] ∧ v.pair.twinDigests = [])
    (fun v => v))
  ∧
  (∀ (b : Fin 16) (p : Fin 32) (i : Word) (d : Digest), Happens (.digestAbsent · b p i)
    (fun v => v.pair.ownDigests = [d] ∧ v.pair.twinDigests = [] ∧ d.bar = b.val ∧ d.port = p.val ∧ d.line = i ∧ d.excluded = false ∧ d.closed + 800000 ≤ v.tick)
    (fun v => ({ v with pair := { v.pair with ownDigests := [] } }).mismatch b.val p.val i))
  ∧
  (∀ (x : Snapshot), Happens (.resyncSnapshot · x)
    (fun v => (v.pinsHeld = false ∨ v.pair.state ≠ .syncing))
    (fun v => v))
  ∧
  (∀ (x : Snapshot), Happens (.resyncSnapshot · x)
    (fun v => v.pinsHeld = true ∧ v.pair.state = .syncing)
    (fun v => (fun c : State => State.trySynced { c with pair := { c.pair with snapped := true, joins := x.joins, matches_ := [], badLines := [], openLines := [], lastGood := [] } })
      (x.joins.foldl State.installJoin (x.gens.foldl State.installTrig (x.histories.foldl State.installHistory
        (State.followTwin (sysOfCode v.pair.twinSys) (State.runHooks false v.inForce (followChanges v.inForce x.cfg) { v with
          base := x.cfg, commits := [], catchUps := [], banks := x.banks, health := { v.health with records := x.health }
          raster := v.raster.map (fun (r : Nat × RasterBar) =>
            (r.1, { r.2 with prepared := [], settled := [], blanked := [], parked := [], primed := false, waitsIndex := none }))
          plait := { v.plait with units := [] } })))))))
  ∧
  (∀ (t : Nat), Happens .resyncTimeout
    (fun v => v.pair.resyncFrom = some t ∧ v.pair.state = .syncing ∧ t + 20000000 ≤ v.tick ∧ v.pair.resyncFails < 2)
    (fun v => (State.resyncDone Rc.resyncFailed { v with pair := { v.pair with resyncFails := v.pair.resyncFails + 1 } }).startResync Rc.resyncFailed))
  ∧
  (∀ (t : Nat), Happens .resyncTimeout
    (fun v => v.pair.resyncFrom = some t ∧ v.pair.state = .syncing ∧ t + 20000000 ≤ v.tick ∧ 2 ≤ v.pair.resyncFails)
    (fun v => (fun u : State => State.setPair .withdrawn 0 { u with pair := { u.pair with resyncFrom := none } })
      (State.resyncDone Rc.resyncFailed { v with pair := { v.pair with resyncFails := v.pair.resyncFails + 1 } })))
  ∧
  (Happens .resyncTimeout
    (fun v => v.pair.resyncFrom = none)
    (fun v => v))
  ∧
  (∀ (a : Nat) (l : List Byte), Happens (.bulkForward · a l)
    (fun v => v.inPair = true ∧ v.pinsHeld = true ∧ v.pair.hostBoth = false ∧ a + l.length ≤ hbmUserEnd)
    (fun v => (fun u : State => { u with pair := { u.pair with fwdBytes := u.pair.fwdBytes + l.length } }) (v.hbmWrite a l)))
  ∧
  (∀ (a : Nat) (l : List Byte), Happens (.bulkForward · a l)
    (fun v => v.pair.hostBoth = true)
    (fun v => v))
  ∧
  (∀ (q : Word) (e : LogBody), Happens (.twinLogEntry · q e)
    (fun v => v.pairRuns = true)
    (fun v => v.logTwin q e))
  ∧
  (∀ (q : Word) (e : LogBody), Happens (.twinLogEntry · q e)
    (fun v => v.pairRuns = false)
    (fun v => v))

/-- Scrubbing, poison, DMA units and host transfers: what each row makes of the state. Readings and choices
of the model: log 4, 97, 101, 164. (R361, R362, R374, R375, R385, R386.) -/
def Obligations.MemoryAndDmaRows : Prop :=
  (∀ (k : Fin 3) (l : List MemError), Happens (.scrubStep · k l false)
    (fun v => v.linkRuns = true ∧ v.sys ≠ .off ∧ v.sys ≠ .safe)
    (fun v => (l.filter (fun e => e.source == k)).foldl (fun (s : State) (e : MemError) => if e.correctable = true then s.corrected e else s.uncorrectable e) v))
  ∧
  (Happens (.scrubStep · 2 [] true)
    (fun v => v.linkRuns = true ∧ v.sys ≠ .off ∧ v.sys ≠ .safe)
    (fun v => { v with mem := { v.mem with scrubPassAt := v.aon } }))
  ∧
  (∀ (a : Nat), Happens (.poisonRewrite · a)
    (fun v => a < 0xB80000 ∧ v.regionAllows 0 (a / 8 * 8) 8 .write = true)
    (fun v => { v with mem := { v.mem with poison := v.mem.poison.filter (fun w => !(w.1 == 0 && w.2 == a / 8 * 8)) } }))
  ∧
  (∀ (a : Nat), Happens (.poisonRewrite · a)
    (fun v => a < 0xB80000 ∧ v.regionAllows 0 (a / 8 * 8) 8 .write = false)
    (fun v => v.violation 0 (a / 8 * 8) .write))
  ∧
  (∀ (w : State), Happens .dmaUnitAssign
    (fun v => w = v.rotateWaiting ∧ w.dmaRuns = true)
    (fun _ => assignUnits 5 (((w.channelsIn .running).filter (fun c => match (w.chan32 c).unit with
      | some u => !w.dmaUnits.contains u || (w.pool 4).wants == some u
      | none => true)).foldl (fun (s : State) (c : Nat) => s.dmaPreemptChan c true) w).rotateWaiting))
  ∧
  (Happens .dmaUnitAssign
    (fun v => v.rotateWaiting.dmaRuns = false)
    (fun v => v.rotateWaiting))
  ∧
  (∀ (w x : Nat), Happens .dmaPreempt
    (fun v => v.dmaRuns = true ∧ v.freeDmaUnit = none ∧ v.bestWaiting = some w ∧ v.victim = some x ∧ (v.chan32 x).priority < (v.chan32 w).priority)
    (fun v => v.dmaPreemptChan x true))
  ∧
  (∀ (w x : Nat), Happens .dmaPreempt
    (fun v => v.bestWaiting = some w ∧ v.victim = some x ∧ (v.chan32 w).priority ≤ (v.chan32 x).priority)
    (fun v => v))
  ∧
  (Happens .dmaPreempt
    (fun v => (v.dmaRuns = false ∨ v.freeDmaUnit ≠ none))
    (fun v => v))
  ∧
  (Happens .dmaYield
    (fun v => v.dmaRuns = true)
    (fun v => (v.channelsIn .running).foldl (fun (s : State) (c : Nat) =>
      if (s.chan32 c).ended = false ∧ 65536 ≤ (s.chan32 c).movedOnUnit ∧
          (s.channelsIn .preempted).any (fun d => (s.chan32 d).priority == (s.chan32 c).priority) = true then s.dmaPreemptChan c false
      else s.dmaRun c) v))
  ∧
  (∀ (c : Fin 32) (a : Nat) (r : Completion), Happens (.dmaHostCompletion · c ⟨a, r⟩)
    (fun v => (∀ k t, (v.chan32 c.val).fetching ≠ some (k, .out t)) ∧ answerRead a r (v.chan32 c.val).reads = none)
    (fun v => { v with host := { v.host with aer := v.host.aer + 1 } }))
  ∧
  (∀ (c : Fin 32) (a : Nat) (r : Completion) (k t : Nat), Happens (.dmaHostCompletion · c ⟨a, r⟩)
    (fun v => (v.chan32 c.val).fetching = some (k, .out t) ∧ answerRead a r (v.chan32 c.val).reads = none ∧ a = ((v.chan32 c.val).list k).next.getD 0 / 32 * 32)
    (fun v => (v.setChan32 c.val { (v.chan32 c.val) with fetching := some (k, completionReply r 32 (((v.chan32 c.val).list k).next.getD 0 % 32) 16) }).dmaGoOn c.val))
  ∧
  (∀ (c : Fin 32) (a : Nat) (r : Completion) (k t : Nat), Happens (.dmaHostCompletion · c ⟨a, r⟩)
    (fun v => (v.chan32 c.val).fetching = some (k, .out t) ∧ answerRead a r (v.chan32 c.val).reads = none ∧ a ≠ ((v.chan32 c.val).list k).next.getD 0 / 32 * 32)
    (fun v => { v with host := { v.host with aer := v.host.aer + 1 } }))
  ∧
  (∀ (c : Fin 32) (a : Nat) (r : Completion) (y : DmaRead) (l : List DmaRead), Happens (.dmaHostCompletion · c ⟨a, r⟩)
    (fun v => answerRead a r (v.chan32 c.val).reads = some (y, l) ∧ ((v.chan32 c.val).back ≠ none ∨ y.isRead = false))
    (fun v => (v.setChan32 c.val { (v.chan32 c.val) with reads := l }).dmaGoOn c.val))
  ∧
  (∀ (c : Fin 32) (a : Nat) (r : Completion) (y : DmaRead) (l : List DmaRead), Happens (.dmaHostCompletion · c ⟨a, r⟩)
    (fun v => answerRead a r (v.chan32 c.val).reads = some (y, l) ∧ (v.chan32 c.val).back = none ∧ y.isRead = true)
    (fun v => ((v.setChan32 c.val { (v.chan32 c.val) with reads := l }).gatherDone c.val y.pos y.irq).dmaGoOn c.val))
  ∧
  (∀ (c : Fin 32) (t : Nat), Happens (.dmaMemTimeout · c)
    (fun v => (v.chan32 c.val).memRead = some t ∧ t + 40000 ≤ v.tick ∧ (v.chan32 c.val).state = .running ∧ v.dmaRuns = true ∧ (v.chan32 c.val).need = .write)
    (fun v => v.dmaHalt c.val Rc.timeout (dataFailure 1 1 (v.chan32 c.val).scatter (v.chan32 c.val).scatter.at_)))
  ∧
  (∀ (c : Fin 32) (t : Nat), Happens (.dmaMemTimeout · c)
    (fun v => (v.chan32 c.val).memRead = some t ∧ v.tick < t + 40000)
    (fun v => v))
  ∧
  (∀ (c : Fin 32) (n : Nat), Happens (.dmaHostTimeout · c)
    (fun v => n = ((v.chan32 c.val).reads.filter (fun x => x.reply.late v.tick)).length + (if (v.chan32 c.val).fetching.any (fun f => f.2.late v.tick) = true then 1 else 0) ∧ n ≠ 0)
    (fun v => (fun s : State => (s.setChan32 c.val { (v.chan32 c.val) with
      reads := (v.chan32 c.val).reads.map (fun x => if x.reply.late v.tick = true then { x with reply := .failed Rc.hostTimeout } else x)
      fetching := (v.chan32 c.val).fetching.map (fun f => if f.2.late v.tick = true then (f.1, .failed Rc.hostTimeout) else f) }).dmaGoOn c.val)
      { v with host := { v.host with aer := v.host.aer + n } }))
  ∧
  (∀ (c : Fin 32), Happens (.dmaHostTimeout · c)
    (fun v => (∀ x ∈ (v.chan32 c.val).reads, x.reply.late v.tick = false) ∧ (∀ f, (v.chan32 c.val).fetching = some f → f.2.late v.tick = false))
    (fun v => v))
  ∧
  (∀ (c : Fin 32), Happens (.dmaTransferEnd · c)
    (fun v => (v.chan32 c.val).state = .running ∧ (v.chan32 c.val).ended = true)
    (fun v => (v.setChan32 c.val { (v.chan32 c.val) with state := .idle, unit := none, ended := false, memRead := none }).post
      (ev Ev.dmaDone Cls.dmaChannel c.val 0 ((v.chan32 c.val).bytesDone % 2 ^ 48))))
  ∧
  (∀ (c : Fin 32), Happens (.dmaTransferEnd · c)
    (fun v => ((v.chan32 c.val).state ≠ .running ∨ (v.chan32 c.val).ended = false))
    (fun v => v))

/-- ADC scans, calibration runs and the OTP recheck: what each row makes of the state. Readings and choices
of the model: log 4, 120, 122, 159. (R430, R431, R433, R452.) -/
def Obligations.CalibrationAndOtpRows : Prop :=
  (Happens .calDriftDue
    (fun v => (∀ k ∈ calTargets, v.cal.driftCount.get 0 k < 4))
    (fun v => v))
  ∧
  (Happens .calDriftDue
    (fun v => 4 ≤ v.cal.driftCount.get 0 0 ∧ (∀ k ∈ calTargets, k ≠ 0 → v.cal.driftCount.get 0 k < 4) ∧ v.cal.due.getLsbD 0 = false ∧ v.calibrating 0 = false ∧ (v.calMayRun = true ∨ v.pwr = .doze))
    (fun v => { v with cal := { v.cal with due := v.cal.due ||| 1, driftCount := v.cal.driftCount.set 0 0 } }))
  ∧
  (∀ (r : CalRun) (l : List CalRun), Happens .calRunStart
    (fun v => v.calMayRun = true ∧ v.cal.queue = r :: l ∧ (∀ x ∈ v.cal.running, x.origin = .fwAuto) ∧ v.calBar r.target = none)
    (fun v => ({ v with cal := { v.cal with queue := l } }).beginRun r))
  ∧
  (∀ (k : Nat), Happens .calRunStart
    (fun v => v.calMayRun = true ∧ v.cal.queue = [] ∧ calTargets.find? (fun (k : Nat) => v.cal.due.getLsbD k && (v.calBar k).isNone && !v.calibrating k) = some k)
    (fun v => v.beginRun { target := k, origin := .fwAuto }))
  ∧
  (Happens .calRunStart
    (fun v => v.calMayRun = false)
    (fun v => v))
  ∧
  (∀ (r : CalRun) (l : List CalRun) (c : Reason), Happens .calRunStart
    (fun v => v.calMayRun = true ∧ v.cal.queue = r :: l ∧ (∀ x ∈ v.cal.running, x.origin = .fwAuto) ∧ v.calBar r.target = some c ∧ r.waiter ≠ none)
    (fun v => ({ v with cal := { v.cal with queue := l } }).endCalRun r false c))
  ∧
  (∀ (r : CalRun) (l : List CalRun) (c : Reason), Happens .calRunStart
    (fun v => v.calMayRun = true ∧ v.cal.queue = r :: l ∧ (∀ x ∈ v.cal.running, x.origin = .fwAuto) ∧ v.calBar r.target = some c ∧ r.waiter = none)
    (fun v => (fun s : State => s.post (ev Ev.calDue Cls.system 0 c s.cal.due.toNat)) (({ v with cal := { v.cal with queue := l } }).calDueAt r.target)))
  ∧
  (∀ (l : List (Nat × Coeff)), Happens (.calRunDone · l)
    (fun v => v.calEnding l = none)
    (fun v => v))
  ∧
  (∀ (x : Coeff) (r : CalRun), Happens (.calRunDone · [(0, x)])
    (fun v => v.calEnding [(0, x)] = some r ∧ r.target = 0 ∧ r.moved = false ∧ r.waiter = none ∧ coeffOk 0 x = true)
    (fun v => (((State.ownDac 0 false (State.logEntry { origin := r.origin, new := 1 } { v with cal := { v.cal with
      running := v.cal.running.erase r, coeffs := v.cal.coeffs.set 0 x, lastTemp := v.cal.lastTemp.set 0 v.therm.dieMax
      driftCount := v.cal.driftCount.set 0 0, lastBoot := v.host.bootCount, lastRunTemp := v.therm.dieMax, lastResult := 0 } })).post
      (ev Ev.calDone Cls.system 0 0 (1 + 65536 * 1))).ampUpdate 3)))
  ∧
  (∀ (x : Coeff) (r : CalRun), Happens (.calRunDone · [(0, x)])
    (fun v => v.calEnding [(0, x)] = some r ∧ r.target = 0 ∧ r.moved = false ∧ r.waiter = none ∧ coeffOk 0 x = false)
    (fun v => ((State.ownDac 0 false { v with cal := { v.cal with
      running := v.cal.running.erase r, lastTemp := v.cal.lastTemp.set 0 v.therm.dieMax, driftCount := v.cal.driftCount.set 0 0
      lastBoot := v.host.bootCount, lastRunTemp := v.therm.dieMax, lastResult := Rc.calOutOfRange } }).post
      (ev Ev.calDone Cls.system 0 Rc.calOutOfRange 1)).ampUpdate 3))
  ∧
  (∀ (l : List (Nat × Coeff)), Happens (.calRunDone · l)
    (fun v => (∀ r ∈ v.cal.running, r.moved = false ∧ v.aon < r.start + calTicks r.target))
    (fun v => v))
  ∧
  (∀ (l : List Int), Happens (.adcScan · l)
    (fun v => v.sys ≠ .off ∧ v.sys ≠ .safe ∧ v.pwr ≠ .sleep ∧ v.pwr ≠ .offAon ∧ v.cal.adcAt + 1024 ≤ v.aon ∧ (∀ r ∈ v.cal.running, r.target ≠ 0) ∧ v.underTest 17 = false ∧ v.underTest 21 = false)
    (fun v => { v with cal := { v.cal with adcAt := v.aon, adc := (l.take 16).map (adcCode (v.coeff 0)) } }))
  ∧
  (∀ (l : List Int), Happens (.adcScan · l)
    (fun v => v.aon < v.cal.adcAt + 1024)
    (fun v => v))
  ∧
  (∀ (t : Table (Word × Word)), Happens (.otpRecheckDue · t)
    (fun v => v.otp.ops = [] ∧ v.otp.recheckCount < 4 ∧ v.otp.recheckFirst = false)
    (fun v => v))
  ∧
  (∀ (t : Table (Word × Word)) (u : Waiter) (l : List (OtpOp × Waiter)), Happens (.otpRecheckDue · t)
    (fun v => v.otp.ops = (.margin, u) :: l ∧ v.otp.recheckFirst = false ∧ v.underTest 22 = false ∧ recheckNew v.otp (withMargins v.otp.array t) = [])
    (fun v => State.endOtp 0 u { v with otp := { v.otp with array := withMargins v.otp.array t, recheckTemp := v.therm.dieMax, recheckCount := 0 } }))
  ∧
  (∀ (t : Table (Word × Word)), Happens (.otpRecheckDue · t)
    (fun v => v.otp.ops = [] ∧ 4 ≤ v.otp.recheckCount ∧ v.firmwareRuns = true ∧ v.otp.recheckFirst = false ∧ v.underTest 22 = false)
    (fun v => ((recheckNew v.otp (withMargins v.otp.array t)).foldl (fun (s : State) (i : Nat) => s.post (ev Ev.otpMarginal Cls.system 0 Rc.wordMarginal (i + 1024)))
      { v with otp := { v.otp with
        array := withMargins v.otp.array t, recheck := v.otp.recheck ++ recheckNew v.otp (withMargins v.otp.array t), recheckTemp := v.therm.dieMax, recheckCount := 0 } }).driveVqps))
  ∧
  (∀ (t : Table (Word × Word)), Happens (.otpRecheckDue · t)
    (fun v => v.otp.recheckFirst = true ∧ v.underTest 22 = false)
    (fun v => ((recheckNew v.otp (withMargins v.otp.array t)).foldl (fun (s : State) (i : Nat) => s.post (ev Ev.otpMarginal Cls.system 0 Rc.wordMarginal (i + 1024)))
      { v with otp := { v.otp with
        array := withMargins v.otp.array t, recheck := v.otp.recheck ++ recheckNew v.otp (withMargins v.otp.array t), recheckTemp := v.therm.dieMax
        recheckCount := 0, recheckFirst := false, tempLeft := false } }).driveVqps))
  ∧
  (∀ (t : Table (Word × Word)), Happens (.otpRecheckDue · t)
    (fun v => v.underTest 22 = true)
    (fun v => v))

/-- Periodic self-test slices, repeats and tests on demand: what each row makes of the state. Readings and
choices of the model: log 4, 126, 127, 165. (R470, R471, R473.) -/
def Obligations.BistRows : Prop :=
  (∀ (p : Fin 5) (u : Nat) (x w : State), Happens (.bistSliceStart · p)
    (fun v => x = v.tryRotate p.val ∧ (x.pool p.val).nextSlice ≤ x.aon ∧ x.inForce.bistPeriod ≠ 0 ∧ (x.pool p.val).inSlice = false ∧ (x.pool p.val).repeat_ = false ∧ (x.pool p.val).wants = none ∧ w = x.setPool p.val { x.pool p.val with nextSlice := if (x.pool p.val).nextSlice + x.sliceInterval p.val ≤ x.aon then x.aon + x.sliceInterval p.val else (x.pool p.val).nextSlice + x.sliceInterval p.val } ∧ w.periodicHeld p.val = false ∧ w.restingOf p.val = some u)
    (fun _ => w.setPool p.val { w.pool p.val with inSlice := true, sliceStart := w.tick }))
  ∧
  (∀ (p : Fin 5), Happens (.bistSliceStart · p)
    (fun v => (v.tryRotate p.val).aon < ((v.tryRotate p.val).pool p.val).nextSlice)
    (fun v => v.tryRotate p.val))
  ∧
  (∀ (p : Fin 5) (x : BitVec 64), Happens (.bistSliceEnd · p x)
    (fun v => (v.pool p.val).inSlice = true ∧ (v.pool p.val).sliceStart + patternTicks 4096 ≤ v.tick ∧ (v.pool p.val).slices < 15)
    (fun v => v.setPool p.val { (v.pool p.val) with inSlice := false, slices := (v.pool p.val).slices + 1 }))
  ∧
  (∀ (p : Fin 5) (x : BitVec 64), Happens (.bistSliceEnd · p x)
    (fun v => (v.pool p.val).inSlice = true ∧ (v.pool p.val).sliceStart + patternTicks 4096 ≤ v.tick ∧ 15 ≤ (v.pool p.val).slices ∧ x = Config.bistExpected p.val 65536)
    (fun v => (fun u : Nat => ((v.recordTest p.val u 1 1 65536 .none (some x) (Config.bistSeed p.val 65536)).postBist p.val u 1 0 .none).rotate p.val) ((v.restingOf p.val).getD 0)))
  ∧
  (∀ (p : Fin 5) (x : BitVec 64), Happens (.bistSliceEnd · p x)
    (fun v => (v.pool p.val).inSlice = true ∧ (v.pool p.val).sliceStart + patternTicks 4096 ≤ v.tick ∧ 15 ≤ (v.pool p.val).slices ∧ x ≠ Config.bistExpected p.val 65536)
    (fun v => (fun u : State => u.setPool p.val { (v.pool p.val) with inSlice := false, slices := 0, repeat_ := true, sliceStart := u.tick })
      (v.recordTest p.val ((v.restingOf p.val).getD 0) 1 2 65536 .none (some x) (Config.bistSeed p.val 65536))))
  ∧
  (∀ (p : Fin 5) (x : BitVec 64), Happens (.bistRepeatDone · p x)
    (fun v => (v.pool p.val).repeat_ = true ∧ (v.pool p.val).sliceStart + patternTicks 65536 ≤ v.tick ∧ x = Config.bistExpected p.val 65536)
    (fun v => (fun u : Nat => (State.postBist p.val u 1 Rc.bistTransient .none ((v.recordTest p.val u 1 1 65536 .none (some x) (Config.bistSeed p.val 65536)).setPool p.val
      { (v.pool p.val) with repeat_ := false, transient := (v.pool p.val).transient.set u ((v.pool p.val).transient.get 0 u + 1) })).rotate p.val) ((v.restingOf p.val).getD 0)))
  ∧
  (∀ (p : Fin 5) (x : BitVec 64), Happens (.bistRepeatDone · p x)
    (fun v => (v.pool p.val).repeat_ = true ∧ (v.pool p.val).sliceStart + patternTicks 65536 ≤ v.tick ∧ x ≠ Config.bistExpected p.val 65536)
    (fun v => (fun u : Nat => (v.recordTest p.val u 1 2 65536 .none (some x) (Config.bistSeed p.val 65536)).retireUnit p.val u) ((v.restingOf p.val).getD 0)))
  ∧
  (∀ (p : Fin 5) (x : BitVec 64), Happens (.bistRepeatDone · p x)
    (fun v => (v.pool p.val).repeat_ = false)
    (fun v => v))
  ∧
  (∀ (e : Bool) (x : BitVec 64), Happens (.bistOnDemandDone · e x)
    (fun v => v.rotateWaiting.bist.demand = none)
    (fun v => v.rotateWaiting))
  ∧
  (∀ (e : Bool) (x : BitVec 64) (d : Demand) (w : State), Happens (.bistOnDemandDone · e x)
    (fun v => w = v.rotateWaiting ∧ w.bist.demand = some d ∧ d.stopped = .none ∧ d.custom = false ∧ w.demandWaits d = false ∧ d.start + patternTicks d.count ≤ w.tick ∧ (e = true ∨ x = Config.bistExpected d.part d.count))
    (fun _ => ((((State.recordTest d.part d.unit 2 1 d.count .none (some (Config.bistExpected d.part d.count)) d.from_ (State.returnUnit d { w with bist := { w.bist with demand := none } })).reloadPart d.part).postBist
          d.part d.unit 2 0 .none).commandDone d.waiter 0 0 0)))
  ∧
  (∀ (e : Bool) (x : BitVec 64) (d : Demand) (w : State), Happens (.bistOnDemandDone · e x)
    (fun v => w = v.rotateWaiting ∧ w.bist.demand = some d ∧ d.stopped = .none ∧ d.custom = false ∧ w.demandWaits d = false ∧ d.start + patternTicks d.count ≤ w.tick ∧ e = false ∧ x ≠ Config.bistExpected d.part d.count)
    (fun _ => (((State.logOpen { origin := .mbx d.waiter.mbx, reason := Rc.bistFailed }
          ((State.recordTest d.part d.unit 2 2 d.count .none (some x) d.from_ (State.returnUnit d { w with bist := { w.bist with demand := none } })).reloadPart d.part)).postBist
          d.part d.unit 2 Rc.bistFailed .none).commandDone d.waiter Rc.bistFailed 0 0)))
  ∧
  (∀ (e : Bool) (x : BitVec 64) (d : Demand) (w : State), Happens (.bistOnDemandDone · e x)
    (fun v => w = v.rotateWaiting ∧ w.bist.demand = some d ∧ d.stopped ≠ .none)
    (fun _ => (((State.recordTest d.part d.unit 2 3 d.count d.stopped (some x) d.from_ (State.returnUnit d { w with bist := { w.bist with demand := none } })).reloadPart d.part).postBist
          d.part d.unit 2 Rc.bistIncomplete d.stopped).commandDone d.waiter Rc.bistIncomplete 0 0))
  ∧
  (∀ (e : Bool) (x : BitVec 64) (d : Demand) (w : State), Happens (.bistOnDemandDone · e x)
    (fun v => w = v.rotateWaiting ∧ w.bist.demand = some d ∧ d.stopped = .none ∧ d.custom = true ∧ w.demandWaits d = false ∧ d.start + patternTicks d.count ≤ w.tick)
    (fun _ => ((((State.recordTest d.part d.unit 2 4 d.count .none (some x) d.from_ (State.returnUnit d { w with bist := { w.bist with demand := none } })).reloadPart d.part).postBist
          d.part d.unit 2 0 .none).commandDone d.waiter 0 0 0)))

/-- For each record of a staged command (head, row, bar, stitch zone, axis, echo, wake, trigger generator,
run entry, TRIGOUT, profile, channel, DAC, plane, port, scrub, policy, reference, head temperature,
power policy, head supply, thermal thresholds): for every payload of the record's length whose fields
are in range and whose reserved bytes are 0, laying out the record that the payload spells gives the
payload back. No bit of a record is dropped; that each bit is read right is shown by the clauses on
fields. (R98, R100, R102, R147, R152, R153, R160, R161, R179, R189, R193, R217.) -/
def Obligations.RecordsReadBackAsTheyWereSet : Prop :=
  (∀ p : List Byte, p.length = 8 → (∀ f ∈ headFields p, f.1 = true) →
    headBytes (fld p 0 2) (headOf p) = p)
  ∧
  (∀ p : List Byte, p.length = 12 → (∀ f ∈ rowFields p, f.1 = true) → fld p 9 3 = 0 →
    rowBytes (fld p 0 2) (fld p 2 1) (rowOf p) = p)
  ∧
  (∀ p : List Byte, p.length = 28 → (∀ f ∈ barFields p, f.1 = true) → fld p 18 2 = 0 → fld p 26 2 = 0 →
    barBytes (fld p 0 1) (barOf p) = p)
  ∧
  (∀ p : List Byte, p.length = 12 → (∀ f ∈ stitchFields p, f.1 = true) →
    stitchBytes (fld p 0 2) (stitchOf p) = p)
  ∧
  (∀ p : List Byte, p.length = 44 → fld p 14 2 = 0 → fld p 41 3 = 0 → fld p 1 1 < 2 → fld p 3 1 < 2 → fld p 7 1 < 2 → fld p 18 1 < 2 → fld p 40 1 < 2 →
    axisBytes (fld p 0 1) (axisOf p) = p)
  ∧
  (∀ p : List Byte, p.length = 12 → (∀ f ∈ echoFields p, f.1 = true) → fld p 3 1 = 0 → fld p 10 2 = 0 →
    echoBytes (fld p 0 1) (echoOf p) = p)
  ∧
  (∀ p : List Byte, p.length = 8 → (∀ f ∈ wakeFields p, f.1 = true) → fld p 1 1 = 0 → fld p 6 2 = 0 →
    wakeBytes (wakeOf p) = p)
  ∧
  (∀ p : List Byte, p.length = 24 → (∀ f ∈ trigFields p, f.1 = true) → fld p 20 4 = 0 → fld p 3 1 < 2 →
    trigBytes (fld p 0 1) (trigOfBytes p) = p)
  ∧
  (∀ p : List Byte, p.length = 24 → (∀ f ∈ runFields p 0, f.1 = true) → fld p 6 2 = 0 → fld p 22 2 < 16 →
    runBytes (runOf p 0) = p)
  ∧
  (∀ p : List Byte, p.length = 12 → (∀ f ∈ trigoutFields p, f.1 = true) → fld p 5 1 = 0 → fld p 10 2 = 0 →
    trigoutBytes (fld p 0 1) (trigoutOf p) = p)
  ∧
  (∀ p : List Byte, p.length = 20 → (∀ f ∈ profileFields p, f.1 = true) → fld p 3 1 = 0 →
    profileBytes (fld p 0 1) (fld p 1 1) (profileOf p) = p)
  ∧
  (∀ p : List Byte, p.length = 8 → (∀ f ∈ channelFields p, f.1 = true) → fld p 5 3 = 0 →
    channelBytes (fld p 0 1) (channelOf p) = p)
  ∧
  (∀ p : List Byte, p.length = 12 → (∀ f ∈ dacFields p, f.1 = true) →
    dacBytes (fld p 0 1) (dacOf p) = p)
  ∧
  (∀ p : List Byte, p.length = 40 → (∀ f ∈ planeFields p, f.1 = true) → fld p 6 2 = 0 → fld p 20 4 = 0 →
    planeBytes (fld p 0 1) (planeOf p) = p)
  ∧
  (∀ p : List Byte, p.length = 8 → (∀ f ∈ portFields p, f.1 = true) → fld p 6 2 = 0 →
    portBytes (fld p 0 1) (portOf p) = p)
  ∧
  (∀ p : List Byte, p.length = 8 → (∀ f ∈ scrubFields p, f.1 = true) → fld p 4 4 = 0 →
    scrubBytes (scrubOf p) = p)
  ∧
  (∀ p : List Byte, p.length = 16 → (∀ f ∈ policyFields p, f.1 = true) → fld p 1 1 < 16 →
    policyBytes (fld p 0 1) (policyOf p) = p)
  ∧
  (∀ p : List Byte, p.length = 8 → (∀ f ∈ refFields p, f.1 = true) → fld p 3 1 = 0 →
    refBytes (fld p 0 1) (fld p 1 1) (refOf p) = p)
  ∧
  (∀ p : List Byte, p.length = 16 → (∀ f ∈ tempFields p, f.1 = true) → fld p 2 2 = 0 → fld p 14 2 = 0 →
    tempBytes (fld p 0 1) (tempOf p) = p)
  ∧
  (∀ p : List Byte, p.length = 12 → fld p 1 1 = 0 → fld p 6 2 = 0 → BitVec.ofNat 8 (fld p 0 1) &&& 0xE4 = 0 →
    powerBytes (powerOf p) = p)
  ∧
  (∀ p : List Byte, p.length = 8 → (∀ f ∈ hvFields p, f.1 = true) → fld p 3 1 = 0 →
    hvBytes (fld p 0 1) (hvOf p) = p)
  ∧
  (∀ p : List Byte, p.length = 12 → fld p 1 1 = 0 → fld p 10 2 = 0 →
    thermBytes (fld p 0 1) (thermOf p) = p)
end

