-- ==== Sys2Proof/Laws/Fields.lean ====
section
/-!
SUPPORT. The fields of a layout: what a little-endian number reads back as, and where the fields of a
concatenation lie.
-/

namespace Sys2Proof.Laws

open Sys2Proof Sys2Proof.Machine

@[simp] theorem length_le (n v : Nat) : (le n v).length = n := by
  induction n generalizing v with
  | zero => rfl
  | succ n ih => simp [le, ih]

@[simp] theorem length_leInt (n : Nat) (v : Int) : (leInt n v).length = n := by simp [leInt]

@[simp] theorem length_zeros (n : Nat) : (zeros n).length = n := by simp [zeros]

/-- A number laid out in `n` bytes reads back modulo 256^n. -/
@[simp] theorem ofLE_le (n v : Nat) : ofLE (le n v) = v % 256 ^ n := by
  induction n generalizing v with
  | zero => simp [le, ofLE, Nat.mod_one]
  | succ n ih =>
    simp only [le, ofLE, ih, BitVec.toNat_ofNat]
    rw [show (2 : Nat) ^ 8 = 256 from rfl, Nat.pow_succ', Nat.mod_mul]

@[simp] theorem ofLE_zeros (n : Nat) : ofLE (zeros n) = 0 := by
  induction n with
  | zero => rfl
  | succ n ih => simp only [zeros, List.replicate_succ, ofLE] at ih ⊢; rw [ih]; rfl

/-- A field that ends before the second part lies in the first. -/
theorem fld_left (a b : List Byte) (off n : Nat) (h : off + n ≤ a.length) : fld (a ++ b) off n = fld a off n := by
  simp only [fld]
  rw [List.drop_append_of_le_length (by omega), List.take_append_of_le_length (by simp; omega)]

/-- A field that starts behind the first part lies in the second. -/
theorem fld_right (a b : List Byte) (off n : Nat) (h : a.length ≤ off) : fld (a ++ b) off n = fld b (off - a.length) n := by
  simp only [fld]
  rw [List.drop_append, List.drop_eq_nil_of_le h, List.nil_append]

/-- A field that is a whole layout. -/
theorem fld_le (n v : Nat) : fld (le n v) 0 n = v % 256 ^ n := by
  simp [fld, List.take_of_length_le]

theorem fld_leInt (n : Nat) (v : Int) : fld (leInt n v) 0 n = (v % (2 ^ (8 * n) : Int)).toNat % 256 ^ n := by
  simp [leInt, fld_le]

/-- One byte. -/
theorem fld_byte (b : Byte) : fld [b] 0 1 = b.toNat := by simp [fld, ofLE]

/-- Reserved bytes read 0. -/
theorem fld_zeros (k off n : Nat) : fld (zeros k) off n = 0 := by
  simp only [fld, zeros, List.drop_replicate, List.take_replicate]
  exact ofLE_zeros _

/-- The length of equal fields in a row. -/
theorem length_fields {α : Type} (n : Nat) (f : α → List Byte) (hf : ∀ a, (f a).length = n) (l : List α) :
    (l.flatMap f).length = n * l.length := by
  induction l with
  | nil => rfl
  | cons a l ih => simp [List.flatMap_cons, hf, ih, Nat.mul_succ, Nat.add_comm]

/-- One of equal fields in a row. -/
theorem fld_fields {α : Type} (n : Nat) (f : α → List Byte) (hf : ∀ a, (f a).length = n) :
    ∀ (l : List α) (i : Nat) (h : i < l.length), fld (l.flatMap f) (n * i) n = fld (f l[i]) 0 n
  | a :: l, 0, _ => by
    simp only [List.flatMap_cons, Nat.mul_zero, List.getElem_cons_zero]
    exact fld_left _ _ _ _ (by simp [hf])
  | a :: l, i + 1, h => by
    simp only [List.flatMap_cons, List.getElem_cons_succ]
    rw [fld_right _ _ _ _ (by simp [hf, Nat.mul_succ]), hf, Nat.mul_succ, Nat.add_sub_cancel]
    exact fld_fields n f hf l i (by simpa using h)

/-- A part of one of equal fields in a row. -/
theorem fld_field {α : Type} (n : Nat) (f : α → List Byte) (hf : ∀ a, (f a).length = n) :
    ∀ (l : List α) (i o m : Nat) (h : i < l.length) (_ : o + m ≤ n), fld (l.flatMap f) (n * i + o) m = fld (f l[i]) o m
  | a :: l, 0, o, m, _, hm => by
    simp only [List.flatMap_cons, Nat.mul_zero, Nat.zero_add, List.getElem_cons_zero]
    exact fld_left _ _ _ _ (by simp [hf, hm])
  | a :: l, i + 1, o, m, h, hm => by
    simp only [List.flatMap_cons, List.getElem_cons_succ]
    rw [fld_right _ _ _ _ (by simp [hf, Nat.mul_succ]; omega), hf,
      show n * (i + 1) + o - n = n * i + o by rw [Nat.mul_succ]; omega]
    exact fld_field n f hf l i o m (by simpa using h) hm

/-- A number that fits its field reads back. -/
theorem ofLE_le_lt {n v : Nat} (h : v < 256 ^ n) : ofLE (le n v) = v := by simp [Nat.mod_eq_of_lt h]

end Sys2Proof.Laws
end

