-- ==== Sys2Proof/Laws/Table.lean ====
section
/-!
SUPPORT. Reading a table after an update.
-/

namespace Sys2Proof.Laws

open Sys2Proof

variable {α : Type}

/-- What was stored under a number reads back. -/
@[simp] theorem table_get_set_same (d : α) (t : Table α) (k : Nat) (a : α) : (t.set k a).get d k = a := by
  induction t with
  | nil => simp [Table.set, Table.get]
  | cons x t ih =>
    obtain ⟨i, b⟩ := x
    simp only [Table.set]
    split
    · simp [Table.get]
    · split
      · simp [Table.get]
      · rename_i h1 h2
        simp [Table.get, ih, Ne.symm h2]

/-- Other numbers read as before. -/
@[simp] theorem table_get_set_other (d : α) (t : Table α) (k j : Nat) (a : α) (h : k ≠ j) :
    (t.set k a).get d j = t.get d j := by
  induction t with
  | nil => simp [Table.set, Table.get, h]
  | cons x t ih =>
    obtain ⟨i, b⟩ := x
    simp only [Table.set]
    split
    · simp [Table.get, h]
    · split
      · rename_i h1 h2
        subst h2
        simp [Table.get, h]
      · simp [Table.get, ih]

/-- The same for a table read without a default. -/
@[simp] theorem table_find_set_same (t : Table α) (k : Nat) (a : α) : (t.set k a).find? k = some a := by
  induction t with
  | nil => simp [Table.set, Table.find?]
  | cons x t ih =>
    obtain ⟨i, b⟩ := x
    simp only [Table.set]
    split
    · simp [Table.find?]
    · split
      · simp [Table.find?]
      · rename_i h1 h2
        simp [Table.find?, ih, Ne.symm h2]

/-- Other numbers are found as before. -/
@[simp] theorem table_find_set_other (t : Table α) (k j : Nat) (a : α) (h : k ≠ j) :
    (t.set k a).find? j = t.find? j := by
  induction t with
  | nil => simp [Table.set, Table.find?, h]
  | cons x t ih =>
    obtain ⟨i, b⟩ := x
    simp only [Table.set]
    split
    · simp [Table.find?, h]
    · split
      · rename_i h1 h2
        subst h2
        simp [Table.find?, h]
      · simp [Table.find?, ih]

end Sys2Proof.Laws
end

