-- ==== Sys2Proof/Laws/State.lean ====
section
/-!
SUPPORT. What each update of State leaves as it was, field by field, and what it reads back as.  Every
later proof uses these and unfolds no update.
-/

namespace Sys2Proof.Laws

open Sys2Proof Sys2Proof.Machine

variable (s : State)

/-- `setAxis` changes `axes` alone. -/
@[simp] theorem setAxis_frame (n : Nat) (a : Axis) :
    (s.setAxis n a).sys = s.sys ∧ (s.setAxis n a).pwr = s.pwr ∧ (s.setAxis n a).tick = s.tick ∧
    (s.setAxis n a).aon = s.aon ∧ (s.setAxis n a).host = s.host ∧ (s.setAxis n a).ring = s.ring ∧
    (s.setAxis n a).ints = s.ints ∧ (s.setAxis n a).holdoffs = s.holdoffs ∧ (s.setAxis n a).dps = s.dps ∧
    (s.setAxis n a).mboxes = s.mboxes ∧ (s.setAxis n a).rung = s.rung ∧ (s.setAxis n a).classRun = s.classRun ∧
    (s.setAxis n a).lastRound = s.lastRound ∧ (s.setAxis n a).sets = s.sets ∧
    (s.setAxis n a).checks = s.checks ∧ (s.setAxis n a).held = s.held ∧ (s.setAxis n a).base = s.base ∧
    (s.setAxis n a).commits = s.commits ∧ (s.setAxis n a).commitId = s.commitId ∧
    (s.setAxis n a).coverage = s.coverage ∧ (s.setAxis n a).coverRuns = s.coverRuns ∧
    (s.setAxis n a).wakeAt = s.wakeAt ∧ (s.setAxis n a).echoes = s.echoes ∧ (s.setAxis n a).trigs = s.trigs ∧
    (s.setAxis n a).evals = s.evals ∧ (s.setAxis n a).trigouts = s.trigouts ∧ (s.setAxis n a).chans = s.chans ∧
    (s.setAxis n a).amps = s.amps ∧ (s.setAxis n a).fires = s.fires ∧ (s.setAxis n a).raster = s.raster ∧
    (s.setAxis n a).planes = s.planes ∧ (s.setAxis n a).plait = s.plait ∧ (s.setAxis n a).ports = s.ports ∧
    (s.setAxis n a).banks = s.banks ∧ (s.setAxis n a).catchUps = s.catchUps ∧
    (s.setAxis n a).health = s.health ∧ (s.setAxis n a).pair = s.pair ∧ (s.setAxis n a).mem = s.mem ∧
    (s.setAxis n a).dma = s.dma ∧ (s.setAxis n a).power = s.power ∧ (s.setAxis n a).therm = s.therm ∧
    (s.setAxis n a).cal = s.cal ∧ (s.setAxis n a).flash = s.flash ∧ (s.setAxis n a).otp = s.otp ∧
    (s.setAxis n a).bist = s.bist ∧ (s.setAxis n a).log = s.log ∧ (s.setAxis n a).out = s.out ∧
    (s.setAxis n a).fresh = s.fresh ∧ (s.setAxis n a).pending = s.pending := by
  and_intros <;> rfl

/-- What was stored under a number reads back. -/
@[simp] theorem setAxis_same (n : Nat) (a : Axis) : (s.setAxis n a).axis n = a := by
  simp [State.setAxis, State.axis]

/-- Other numbers read as before. -/
@[simp] theorem setAxis_other (n : Nat) (a : Axis) (k : Nat) (h : n ≠ k) : (s.setAxis n a).axis k = s.axis k := by
  simp [State.setAxis, State.axis, h]

/-- `setEcho` changes `echoes` alone. -/
@[simp] theorem setEcho_frame (n : Nat) (a : Echo) :
    (s.setEcho n a).sys = s.sys ∧ (s.setEcho n a).pwr = s.pwr ∧ (s.setEcho n a).tick = s.tick ∧
    (s.setEcho n a).aon = s.aon ∧ (s.setEcho n a).host = s.host ∧ (s.setEcho n a).ring = s.ring ∧
    (s.setEcho n a).ints = s.ints ∧ (s.setEcho n a).holdoffs = s.holdoffs ∧ (s.setEcho n a).dps = s.dps ∧
    (s.setEcho n a).mboxes = s.mboxes ∧ (s.setEcho n a).rung = s.rung ∧ (s.setEcho n a).classRun = s.classRun ∧
    (s.setEcho n a).lastRound = s.lastRound ∧ (s.setEcho n a).sets = s.sets ∧
    (s.setEcho n a).checks = s.checks ∧ (s.setEcho n a).held = s.held ∧ (s.setEcho n a).base = s.base ∧
    (s.setEcho n a).commits = s.commits ∧ (s.setEcho n a).commitId = s.commitId ∧
    (s.setEcho n a).coverage = s.coverage ∧ (s.setEcho n a).coverRuns = s.coverRuns ∧
    (s.setEcho n a).axes = s.axes ∧ (s.setEcho n a).wakeAt = s.wakeAt ∧ (s.setEcho n a).trigs = s.trigs ∧
    (s.setEcho n a).evals = s.evals ∧ (s.setEcho n a).trigouts = s.trigouts ∧ (s.setEcho n a).chans = s.chans ∧
    (s.setEcho n a).amps = s.amps ∧ (s.setEcho n a).fires = s.fires ∧ (s.setEcho n a).raster = s.raster ∧
    (s.setEcho n a).planes = s.planes ∧ (s.setEcho n a).plait = s.plait ∧ (s.setEcho n a).ports = s.ports ∧
    (s.setEcho n a).banks = s.banks ∧ (s.setEcho n a).catchUps = s.catchUps ∧
    (s.setEcho n a).health = s.health ∧ (s.setEcho n a).pair = s.pair ∧ (s.setEcho n a).mem = s.mem ∧
    (s.setEcho n a).dma = s.dma ∧ (s.setEcho n a).power = s.power ∧ (s.setEcho n a).therm = s.therm ∧
    (s.setEcho n a).cal = s.cal ∧ (s.setEcho n a).flash = s.flash ∧ (s.setEcho n a).otp = s.otp ∧
    (s.setEcho n a).bist = s.bist ∧ (s.setEcho n a).log = s.log ∧ (s.setEcho n a).out = s.out ∧
    (s.setEcho n a).fresh = s.fresh ∧ (s.setEcho n a).pending = s.pending := by
  and_intros <;> rfl

/-- What was stored under a number reads back. -/
@[simp] theorem setEcho_same (n : Nat) (a : Echo) : (s.setEcho n a).echo n = a := by
  simp [State.setEcho, State.echo]

/-- Other numbers read as before. -/
@[simp] theorem setEcho_other (n : Nat) (a : Echo) (k : Nat) (h : n ≠ k) : (s.setEcho n a).echo k = s.echo k := by
  simp [State.setEcho, State.echo, h]

/-- `setTrig` changes `trigs` alone. -/
@[simp] theorem setTrig_frame (n : Nat) (a : Trig) :
    (s.setTrig n a).sys = s.sys ∧ (s.setTrig n a).pwr = s.pwr ∧ (s.setTrig n a).tick = s.tick ∧
    (s.setTrig n a).aon = s.aon ∧ (s.setTrig n a).host = s.host ∧ (s.setTrig n a).ring = s.ring ∧
    (s.setTrig n a).ints = s.ints ∧ (s.setTrig n a).holdoffs = s.holdoffs ∧ (s.setTrig n a).dps = s.dps ∧
    (s.setTrig n a).mboxes = s.mboxes ∧ (s.setTrig n a).rung = s.rung ∧ (s.setTrig n a).classRun = s.classRun ∧
    (s.setTrig n a).lastRound = s.lastRound ∧ (s.setTrig n a).sets = s.sets ∧
    (s.setTrig n a).checks = s.checks ∧ (s.setTrig n a).held = s.held ∧ (s.setTrig n a).base = s.base ∧
    (s.setTrig n a).commits = s.commits ∧ (s.setTrig n a).commitId = s.commitId ∧
    (s.setTrig n a).coverage = s.coverage ∧ (s.setTrig n a).coverRuns = s.coverRuns ∧
    (s.setTrig n a).axes = s.axes ∧ (s.setTrig n a).wakeAt = s.wakeAt ∧ (s.setTrig n a).echoes = s.echoes ∧
    (s.setTrig n a).evals = s.evals ∧ (s.setTrig n a).trigouts = s.trigouts ∧ (s.setTrig n a).chans = s.chans ∧
    (s.setTrig n a).amps = s.amps ∧ (s.setTrig n a).fires = s.fires ∧ (s.setTrig n a).raster = s.raster ∧
    (s.setTrig n a).planes = s.planes ∧ (s.setTrig n a).plait = s.plait ∧ (s.setTrig n a).ports = s.ports ∧
    (s.setTrig n a).banks = s.banks ∧ (s.setTrig n a).catchUps = s.catchUps ∧
    (s.setTrig n a).health = s.health ∧ (s.setTrig n a).pair = s.pair ∧ (s.setTrig n a).mem = s.mem ∧
    (s.setTrig n a).dma = s.dma ∧ (s.setTrig n a).power = s.power ∧ (s.setTrig n a).therm = s.therm ∧
    (s.setTrig n a).cal = s.cal ∧ (s.setTrig n a).flash = s.flash ∧ (s.setTrig n a).otp = s.otp ∧
    (s.setTrig n a).bist = s.bist ∧ (s.setTrig n a).log = s.log ∧ (s.setTrig n a).out = s.out ∧
    (s.setTrig n a).fresh = s.fresh ∧ (s.setTrig n a).pending = s.pending := by
  and_intros <;> rfl

/-- What was stored under a number reads back. -/
@[simp] theorem setTrig_same (n : Nat) (a : Trig) : (s.setTrig n a).trig n = a := by
  simp [State.setTrig, State.trig]

/-- Other numbers read as before. -/
@[simp] theorem setTrig_other (n : Nat) (a : Trig) (k : Nat) (h : n ≠ k) : (s.setTrig n a).trig k = s.trig k := by
  simp [State.setTrig, State.trig, h]

/-- `setTrigout` changes `trigouts` alone. -/
@[simp] theorem setTrigout_frame (n : Nat) (a : Trigout) :
    (s.setTrigout n a).sys = s.sys ∧ (s.setTrigout n a).pwr = s.pwr ∧ (s.setTrigout n a).tick = s.tick ∧
    (s.setTrigout n a).aon = s.aon ∧ (s.setTrigout n a).host = s.host ∧ (s.setTrigout n a).ring = s.ring ∧
    (s.setTrigout n a).ints = s.ints ∧ (s.setTrigout n a).holdoffs = s.holdoffs ∧
    (s.setTrigout n a).dps = s.dps ∧ (s.setTrigout n a).mboxes = s.mboxes ∧ (s.setTrigout n a).rung = s.rung ∧
    (s.setTrigout n a).classRun = s.classRun ∧ (s.setTrigout n a).lastRound = s.lastRound ∧
    (s.setTrigout n a).sets = s.sets ∧ (s.setTrigout n a).checks = s.checks ∧ (s.setTrigout n a).held = s.held ∧
    (s.setTrigout n a).base = s.base ∧ (s.setTrigout n a).commits = s.commits ∧
    (s.setTrigout n a).commitId = s.commitId ∧ (s.setTrigout n a).coverage = s.coverage ∧
    (s.setTrigout n a).coverRuns = s.coverRuns ∧ (s.setTrigout n a).axes = s.axes ∧
    (s.setTrigout n a).wakeAt = s.wakeAt ∧ (s.setTrigout n a).echoes = s.echoes ∧
    (s.setTrigout n a).trigs = s.trigs ∧ (s.setTrigout n a).evals = s.evals ∧
    (s.setTrigout n a).chans = s.chans ∧ (s.setTrigout n a).amps = s.amps ∧ (s.setTrigout n a).fires = s.fires ∧
    (s.setTrigout n a).raster = s.raster ∧ (s.setTrigout n a).planes = s.planes ∧
    (s.setTrigout n a).plait = s.plait ∧ (s.setTrigout n a).ports = s.ports ∧
    (s.setTrigout n a).banks = s.banks ∧ (s.setTrigout n a).catchUps = s.catchUps ∧
    (s.setTrigout n a).health = s.health ∧ (s.setTrigout n a).pair = s.pair ∧ (s.setTrigout n a).mem = s.mem ∧
    (s.setTrigout n a).dma = s.dma ∧ (s.setTrigout n a).power = s.power ∧ (s.setTrigout n a).therm = s.therm ∧
    (s.setTrigout n a).cal = s.cal ∧ (s.setTrigout n a).flash = s.flash ∧ (s.setTrigout n a).otp = s.otp ∧
    (s.setTrigout n a).bist = s.bist ∧ (s.setTrigout n a).log = s.log ∧ (s.setTrigout n a).out = s.out ∧
    (s.setTrigout n a).fresh = s.fresh ∧ (s.setTrigout n a).pending = s.pending := by
  and_intros <;> rfl

/-- What was stored under a number reads back. -/
@[simp] theorem setTrigout_same (n : Nat) (a : Trigout) : (s.setTrigout n a).trigoutOf n = a := by
  simp [State.setTrigout, State.trigoutOf]

/-- Other numbers read as before. -/
@[simp] theorem setTrigout_other (n : Nat) (a : Trigout) (k : Nat) (h : n ≠ k) : (s.setTrigout n a).trigoutOf k = s.trigoutOf k := by
  simp [State.setTrigout, State.trigoutOf, h]

/-- `setChan` changes `chans` alone. -/
@[simp] theorem setChan_frame (n : Nat) (a : Channel) :
    (s.setChan n a).sys = s.sys ∧ (s.setChan n a).pwr = s.pwr ∧ (s.setChan n a).tick = s.tick ∧
    (s.setChan n a).aon = s.aon ∧ (s.setChan n a).host = s.host ∧ (s.setChan n a).ring = s.ring ∧
    (s.setChan n a).ints = s.ints ∧ (s.setChan n a).holdoffs = s.holdoffs ∧ (s.setChan n a).dps = s.dps ∧
    (s.setChan n a).mboxes = s.mboxes ∧ (s.setChan n a).rung = s.rung ∧ (s.setChan n a).classRun = s.classRun ∧
    (s.setChan n a).lastRound = s.lastRound ∧ (s.setChan n a).sets = s.sets ∧
    (s.setChan n a).checks = s.checks ∧ (s.setChan n a).held = s.held ∧ (s.setChan n a).base = s.base ∧
    (s.setChan n a).commits = s.commits ∧ (s.setChan n a).commitId = s.commitId ∧
    (s.setChan n a).coverage = s.coverage ∧ (s.setChan n a).coverRuns = s.coverRuns ∧
    (s.setChan n a).axes = s.axes ∧ (s.setChan n a).wakeAt = s.wakeAt ∧ (s.setChan n a).echoes = s.echoes ∧
    (s.setChan n a).trigs = s.trigs ∧ (s.setChan n a).evals = s.evals ∧ (s.setChan n a).trigouts = s.trigouts ∧
    (s.setChan n a).amps = s.amps ∧ (s.setChan n a).fires = s.fires ∧ (s.setChan n a).raster = s.raster ∧
    (s.setChan n a).planes = s.planes ∧ (s.setChan n a).plait = s.plait ∧ (s.setChan n a).ports = s.ports ∧
    (s.setChan n a).banks = s.banks ∧ (s.setChan n a).catchUps = s.catchUps ∧
    (s.setChan n a).health = s.health ∧ (s.setChan n a).pair = s.pair ∧ (s.setChan n a).mem = s.mem ∧
    (s.setChan n a).dma = s.dma ∧ (s.setChan n a).power = s.power ∧ (s.setChan n a).therm = s.therm ∧
    (s.setChan n a).cal = s.cal ∧ (s.setChan n a).flash = s.flash ∧ (s.setChan n a).otp = s.otp ∧
    (s.setChan n a).bist = s.bist ∧ (s.setChan n a).log = s.log ∧ (s.setChan n a).out = s.out ∧
    (s.setChan n a).fresh = s.fresh ∧ (s.setChan n a).pending = s.pending := by
  and_intros <;> rfl

/-- What was stored under a number reads back. -/
@[simp] theorem setChan_same (n : Nat) (a : Channel) : (s.setChan n a).chan n = a := by
  simp [State.setChan, State.chan]

/-- Other numbers read as before. -/
@[simp] theorem setChan_other (n : Nat) (a : Channel) (k : Nat) (h : n ≠ k) : (s.setChan n a).chan k = s.chan k := by
  simp [State.setChan, State.chan, h]

/-- `setAmp` changes `amps` alone. -/
@[simp] theorem setAmp_frame (n : Nat) (a : Amp) :
    (s.setAmp n a).sys = s.sys ∧ (s.setAmp n a).pwr = s.pwr ∧ (s.setAmp n a).tick = s.tick ∧
    (s.setAmp n a).aon = s.aon ∧ (s.setAmp n a).host = s.host ∧ (s.setAmp n a).ring = s.ring ∧
    (s.setAmp n a).ints = s.ints ∧ (s.setAmp n a).holdoffs = s.holdoffs ∧ (s.setAmp n a).dps = s.dps ∧
    (s.setAmp n a).mboxes = s.mboxes ∧ (s.setAmp n a).rung = s.rung ∧ (s.setAmp n a).classRun = s.classRun ∧
    (s.setAmp n a).lastRound = s.lastRound ∧ (s.setAmp n a).sets = s.sets ∧ (s.setAmp n a).checks = s.checks ∧
    (s.setAmp n a).held = s.held ∧ (s.setAmp n a).base = s.base ∧ (s.setAmp n a).commits = s.commits ∧
    (s.setAmp n a).commitId = s.commitId ∧ (s.setAmp n a).coverage = s.coverage ∧
    (s.setAmp n a).coverRuns = s.coverRuns ∧ (s.setAmp n a).axes = s.axes ∧ (s.setAmp n a).wakeAt = s.wakeAt ∧
    (s.setAmp n a).echoes = s.echoes ∧ (s.setAmp n a).trigs = s.trigs ∧ (s.setAmp n a).evals = s.evals ∧
    (s.setAmp n a).trigouts = s.trigouts ∧ (s.setAmp n a).chans = s.chans ∧ (s.setAmp n a).fires = s.fires ∧
    (s.setAmp n a).raster = s.raster ∧ (s.setAmp n a).planes = s.planes ∧ (s.setAmp n a).plait = s.plait ∧
    (s.setAmp n a).ports = s.ports ∧ (s.setAmp n a).banks = s.banks ∧ (s.setAmp n a).catchUps = s.catchUps ∧
    (s.setAmp n a).health = s.health ∧ (s.setAmp n a).pair = s.pair ∧ (s.setAmp n a).mem = s.mem ∧
    (s.setAmp n a).dma = s.dma ∧ (s.setAmp n a).power = s.power ∧ (s.setAmp n a).therm = s.therm ∧
    (s.setAmp n a).cal = s.cal ∧ (s.setAmp n a).flash = s.flash ∧ (s.setAmp n a).otp = s.otp ∧
    (s.setAmp n a).bist = s.bist ∧ (s.setAmp n a).log = s.log ∧ (s.setAmp n a).out = s.out ∧
    (s.setAmp n a).fresh = s.fresh ∧ (s.setAmp n a).pending = s.pending := by
  and_intros <;> rfl

/-- What was stored under a number reads back. -/
@[simp] theorem setAmp_same (n : Nat) (a : Amp) : (s.setAmp n a).amp n = a := by
  simp [State.setAmp, State.amp]

/-- Other numbers read as before. -/
@[simp] theorem setAmp_other (n : Nat) (a : Amp) (k : Nat) (h : n ≠ k) : (s.setAmp n a).amp k = s.amp k := by
  simp [State.setAmp, State.amp, h]

/-- `setRbar` changes `raster` alone. -/
@[simp] theorem setRbar_frame (n : Nat) (a : RasterBar) :
    (s.setRbar n a).sys = s.sys ∧ (s.setRbar n a).pwr = s.pwr ∧ (s.setRbar n a).tick = s.tick ∧
    (s.setRbar n a).aon = s.aon ∧ (s.setRbar n a).host = s.host ∧ (s.setRbar n a).ring = s.ring ∧
    (s.setRbar n a).ints = s.ints ∧ (s.setRbar n a).holdoffs = s.holdoffs ∧ (s.setRbar n a).dps = s.dps ∧
    (s.setRbar n a).mboxes = s.mboxes ∧ (s.setRbar n a).rung = s.rung ∧ (s.setRbar n a).classRun = s.classRun ∧
    (s.setRbar n a).lastRound = s.lastRound ∧ (s.setRbar n a).sets = s.sets ∧
    (s.setRbar n a).checks = s.checks ∧ (s.setRbar n a).held = s.held ∧ (s.setRbar n a).base = s.base ∧
    (s.setRbar n a).commits = s.commits ∧ (s.setRbar n a).commitId = s.commitId ∧
    (s.setRbar n a).coverage = s.coverage ∧ (s.setRbar n a).coverRuns = s.coverRuns ∧
    (s.setRbar n a).axes = s.axes ∧ (s.setRbar n a).wakeAt = s.wakeAt ∧ (s.setRbar n a).echoes = s.echoes ∧
    (s.setRbar n a).trigs = s.trigs ∧ (s.setRbar n a).evals = s.evals ∧ (s.setRbar n a).trigouts = s.trigouts ∧
    (s.setRbar n a).chans = s.chans ∧ (s.setRbar n a).amps = s.amps ∧ (s.setRbar n a).fires = s.fires ∧
    (s.setRbar n a).planes = s.planes ∧ (s.setRbar n a).plait = s.plait ∧ (s.setRbar n a).ports = s.ports ∧
    (s.setRbar n a).banks = s.banks ∧ (s.setRbar n a).catchUps = s.catchUps ∧
    (s.setRbar n a).health = s.health ∧ (s.setRbar n a).pair = s.pair ∧ (s.setRbar n a).mem = s.mem ∧
    (s.setRbar n a).dma = s.dma ∧ (s.setRbar n a).power = s.power ∧ (s.setRbar n a).therm = s.therm ∧
    (s.setRbar n a).cal = s.cal ∧ (s.setRbar n a).flash = s.flash ∧ (s.setRbar n a).otp = s.otp ∧
    (s.setRbar n a).bist = s.bist ∧ (s.setRbar n a).log = s.log ∧ (s.setRbar n a).out = s.out ∧
    (s.setRbar n a).fresh = s.fresh ∧ (s.setRbar n a).pending = s.pending := by
  and_intros <;> rfl

/-- What was stored under a number reads back. -/
@[simp] theorem setRbar_same (n : Nat) (a : RasterBar) : (s.setRbar n a).rbar n = a := by
  simp [State.setRbar, State.rbar]

/-- Other numbers read as before. -/
@[simp] theorem setRbar_other (n : Nat) (a : RasterBar) (k : Nat) (h : n ≠ k) : (s.setRbar n a).rbar k = s.rbar k := by
  simp [State.setRbar, State.rbar, h]

/-- `setPlane` changes `planes` alone. -/
@[simp] theorem setPlane_frame (n : Nat) (a : Plane) :
    (s.setPlane n a).sys = s.sys ∧ (s.setPlane n a).pwr = s.pwr ∧ (s.setPlane n a).tick = s.tick ∧
    (s.setPlane n a).aon = s.aon ∧ (s.setPlane n a).host = s.host ∧ (s.setPlane n a).ring = s.ring ∧
    (s.setPlane n a).ints = s.ints ∧ (s.setPlane n a).holdoffs = s.holdoffs ∧ (s.setPlane n a).dps = s.dps ∧
    (s.setPlane n a).mboxes = s.mboxes ∧ (s.setPlane n a).rung = s.rung ∧
    (s.setPlane n a).classRun = s.classRun ∧ (s.setPlane n a).lastRound = s.lastRound ∧
    (s.setPlane n a).sets = s.sets ∧ (s.setPlane n a).checks = s.checks ∧ (s.setPlane n a).held = s.held ∧
    (s.setPlane n a).base = s.base ∧ (s.setPlane n a).commits = s.commits ∧
    (s.setPlane n a).commitId = s.commitId ∧ (s.setPlane n a).coverage = s.coverage ∧
    (s.setPlane n a).coverRuns = s.coverRuns ∧ (s.setPlane n a).axes = s.axes ∧
    (s.setPlane n a).wakeAt = s.wakeAt ∧ (s.setPlane n a).echoes = s.echoes ∧ (s.setPlane n a).trigs = s.trigs ∧
    (s.setPlane n a).evals = s.evals ∧ (s.setPlane n a).trigouts = s.trigouts ∧
    (s.setPlane n a).chans = s.chans ∧ (s.setPlane n a).amps = s.amps ∧ (s.setPlane n a).fires = s.fires ∧
    (s.setPlane n a).raster = s.raster ∧ (s.setPlane n a).plait = s.plait ∧ (s.setPlane n a).ports = s.ports ∧
    (s.setPlane n a).banks = s.banks ∧ (s.setPlane n a).catchUps = s.catchUps ∧
    (s.setPlane n a).health = s.health ∧ (s.setPlane n a).pair = s.pair ∧ (s.setPlane n a).mem = s.mem ∧
    (s.setPlane n a).dma = s.dma ∧ (s.setPlane n a).power = s.power ∧ (s.setPlane n a).therm = s.therm ∧
    (s.setPlane n a).cal = s.cal ∧ (s.setPlane n a).flash = s.flash ∧ (s.setPlane n a).otp = s.otp ∧
    (s.setPlane n a).bist = s.bist ∧ (s.setPlane n a).log = s.log ∧ (s.setPlane n a).out = s.out ∧
    (s.setPlane n a).fresh = s.fresh ∧ (s.setPlane n a).pending = s.pending := by
  and_intros <;> rfl

/-- What was stored under a number reads back. -/
@[simp] theorem setPlane_same (n : Nat) (a : Plane) : (s.setPlane n a).plane n = a := by
  simp [State.setPlane, State.plane]

/-- Other numbers read as before. -/
@[simp] theorem setPlane_other (n : Nat) (a : Plane) (k : Nat) (h : n ≠ k) : (s.setPlane n a).plane k = s.plane k := by
  simp [State.setPlane, State.plane, h]

/-- `setPort` changes `ports` alone. -/
@[simp] theorem setPort_frame (n : Nat) (a : Port) :
    (s.setPort n a).sys = s.sys ∧ (s.setPort n a).pwr = s.pwr ∧ (s.setPort n a).tick = s.tick ∧
    (s.setPort n a).aon = s.aon ∧ (s.setPort n a).host = s.host ∧ (s.setPort n a).ring = s.ring ∧
    (s.setPort n a).ints = s.ints ∧ (s.setPort n a).holdoffs = s.holdoffs ∧ (s.setPort n a).dps = s.dps ∧
    (s.setPort n a).mboxes = s.mboxes ∧ (s.setPort n a).rung = s.rung ∧ (s.setPort n a).classRun = s.classRun ∧
    (s.setPort n a).lastRound = s.lastRound ∧ (s.setPort n a).sets = s.sets ∧
    (s.setPort n a).checks = s.checks ∧ (s.setPort n a).held = s.held ∧ (s.setPort n a).base = s.base ∧
    (s.setPort n a).commits = s.commits ∧ (s.setPort n a).commitId = s.commitId ∧
    (s.setPort n a).coverage = s.coverage ∧ (s.setPort n a).coverRuns = s.coverRuns ∧
    (s.setPort n a).axes = s.axes ∧ (s.setPort n a).wakeAt = s.wakeAt ∧ (s.setPort n a).echoes = s.echoes ∧
    (s.setPort n a).trigs = s.trigs ∧ (s.setPort n a).evals = s.evals ∧ (s.setPort n a).trigouts = s.trigouts ∧
    (s.setPort n a).chans = s.chans ∧ (s.setPort n a).amps = s.amps ∧ (s.setPort n a).fires = s.fires ∧
    (s.setPort n a).raster = s.raster ∧ (s.setPort n a).planes = s.planes ∧ (s.setPort n a).plait = s.plait ∧
    (s.setPort n a).banks = s.banks ∧ (s.setPort n a).catchUps = s.catchUps ∧
    (s.setPort n a).health = s.health ∧ (s.setPort n a).pair = s.pair ∧ (s.setPort n a).mem = s.mem ∧
    (s.setPort n a).dma = s.dma ∧ (s.setPort n a).power = s.power ∧ (s.setPort n a).therm = s.therm ∧
    (s.setPort n a).cal = s.cal ∧ (s.setPort n a).flash = s.flash ∧ (s.setPort n a).otp = s.otp ∧
    (s.setPort n a).bist = s.bist ∧ (s.setPort n a).log = s.log ∧ (s.setPort n a).out = s.out ∧
    (s.setPort n a).fresh = s.fresh ∧ (s.setPort n a).pending = s.pending := by
  and_intros <;> rfl

/-- What was stored under a number reads back. -/
@[simp] theorem setPort_same (n : Nat) (a : Port) : (s.setPort n a).port n = a := by
  simp [State.setPort, State.port]

/-- Other numbers read as before. -/
@[simp] theorem setPort_other (n : Nat) (a : Port) (k : Nat) (h : n ≠ k) : (s.setPort n a).port k = s.port k := by
  simp [State.setPort, State.port, h]

/-- `setDp` changes `dps` alone. -/
@[simp] theorem setDp_frame (n : Nat) (a : DataPort) :
    (s.setDp n a).sys = s.sys ∧ (s.setDp n a).pwr = s.pwr ∧ (s.setDp n a).tick = s.tick ∧
    (s.setDp n a).aon = s.aon ∧ (s.setDp n a).host = s.host ∧ (s.setDp n a).ring = s.ring ∧
    (s.setDp n a).ints = s.ints ∧ (s.setDp n a).holdoffs = s.holdoffs ∧ (s.setDp n a).mboxes = s.mboxes ∧
    (s.setDp n a).rung = s.rung ∧ (s.setDp n a).classRun = s.classRun ∧ (s.setDp n a).lastRound = s.lastRound ∧
    (s.setDp n a).sets = s.sets ∧ (s.setDp n a).checks = s.checks ∧ (s.setDp n a).held = s.held ∧
    (s.setDp n a).base = s.base ∧ (s.setDp n a).commits = s.commits ∧ (s.setDp n a).commitId = s.commitId ∧
    (s.setDp n a).coverage = s.coverage ∧ (s.setDp n a).coverRuns = s.coverRuns ∧ (s.setDp n a).axes = s.axes ∧
    (s.setDp n a).wakeAt = s.wakeAt ∧ (s.setDp n a).echoes = s.echoes ∧ (s.setDp n a).trigs = s.trigs ∧
    (s.setDp n a).evals = s.evals ∧ (s.setDp n a).trigouts = s.trigouts ∧ (s.setDp n a).chans = s.chans ∧
    (s.setDp n a).amps = s.amps ∧ (s.setDp n a).fires = s.fires ∧ (s.setDp n a).raster = s.raster ∧
    (s.setDp n a).planes = s.planes ∧ (s.setDp n a).plait = s.plait ∧ (s.setDp n a).ports = s.ports ∧
    (s.setDp n a).banks = s.banks ∧ (s.setDp n a).catchUps = s.catchUps ∧ (s.setDp n a).health = s.health ∧
    (s.setDp n a).pair = s.pair ∧ (s.setDp n a).mem = s.mem ∧ (s.setDp n a).dma = s.dma ∧
    (s.setDp n a).power = s.power ∧ (s.setDp n a).therm = s.therm ∧ (s.setDp n a).cal = s.cal ∧
    (s.setDp n a).flash = s.flash ∧ (s.setDp n a).otp = s.otp ∧ (s.setDp n a).bist = s.bist ∧
    (s.setDp n a).log = s.log ∧ (s.setDp n a).out = s.out ∧ (s.setDp n a).fresh = s.fresh ∧
    (s.setDp n a).pending = s.pending := by
  and_intros <;> rfl

/-- What was stored under a number reads back. -/
@[simp] theorem setDp_same (n : Nat) (a : DataPort) : (s.setDp n a).dp n = a := by
  simp [State.setDp, State.dp]

/-- Other numbers read as before. -/
@[simp] theorem setDp_other (n : Nat) (a : DataPort) (k : Nat) (h : n ≠ k) : (s.setDp n a).dp k = s.dp k := by
  simp [State.setDp, State.dp, h]

/-- `setMbox` changes `mboxes` alone. -/
@[simp] theorem setMbox_frame (n : Nat) (a : Mailbox) :
    (s.setMbox n a).sys = s.sys ∧ (s.setMbox n a).pwr = s.pwr ∧ (s.setMbox n a).tick = s.tick ∧
    (s.setMbox n a).aon = s.aon ∧ (s.setMbox n a).host = s.host ∧ (s.setMbox n a).ring = s.ring ∧
    (s.setMbox n a).ints = s.ints ∧ (s.setMbox n a).holdoffs = s.holdoffs ∧ (s.setMbox n a).dps = s.dps ∧
    (s.setMbox n a).rung = s.rung ∧ (s.setMbox n a).classRun = s.classRun ∧
    (s.setMbox n a).lastRound = s.lastRound ∧ (s.setMbox n a).sets = s.sets ∧
    (s.setMbox n a).checks = s.checks ∧ (s.setMbox n a).held = s.held ∧ (s.setMbox n a).base = s.base ∧
    (s.setMbox n a).commits = s.commits ∧ (s.setMbox n a).commitId = s.commitId ∧
    (s.setMbox n a).coverage = s.coverage ∧ (s.setMbox n a).coverRuns = s.coverRuns ∧
    (s.setMbox n a).axes = s.axes ∧ (s.setMbox n a).wakeAt = s.wakeAt ∧ (s.setMbox n a).echoes = s.echoes ∧
    (s.setMbox n a).trigs = s.trigs ∧ (s.setMbox n a).evals = s.evals ∧ (s.setMbox n a).trigouts = s.trigouts ∧
    (s.setMbox n a).chans = s.chans ∧ (s.setMbox n a).amps = s.amps ∧ (s.setMbox n a).fires = s.fires ∧
    (s.setMbox n a).raster = s.raster ∧ (s.setMbox n a).planes = s.planes ∧ (s.setMbox n a).plait = s.plait ∧
    (s.setMbox n a).ports = s.ports ∧ (s.setMbox n a).banks = s.banks ∧ (s.setMbox n a).catchUps = s.catchUps ∧
    (s.setMbox n a).health = s.health ∧ (s.setMbox n a).pair = s.pair ∧ (s.setMbox n a).mem = s.mem ∧
    (s.setMbox n a).dma = s.dma ∧ (s.setMbox n a).power = s.power ∧ (s.setMbox n a).therm = s.therm ∧
    (s.setMbox n a).cal = s.cal ∧ (s.setMbox n a).flash = s.flash ∧ (s.setMbox n a).otp = s.otp ∧
    (s.setMbox n a).bist = s.bist ∧ (s.setMbox n a).log = s.log ∧ (s.setMbox n a).out = s.out ∧
    (s.setMbox n a).fresh = s.fresh ∧ (s.setMbox n a).pending = s.pending := by
  and_intros <;> rfl

/-- What was stored under a number reads back. -/
@[simp] theorem setMbox_same (n : Nat) (a : Mailbox) : (s.setMbox n a).mbox n = a := by
  simp [State.setMbox, State.mbox]

/-- Other numbers read as before. -/
@[simp] theorem setMbox_other (n : Nat) (a : Mailbox) (k : Nat) (h : n ≠ k) : (s.setMbox n a).mbox k = s.mbox k := by
  simp [State.setMbox, State.mbox, h]

/-- `setSset` changes `sets` alone. -/
@[simp] theorem setSset_frame (n : Nat) (a : ShadowSet) :
    (s.setSset n a).sys = s.sys ∧ (s.setSset n a).pwr = s.pwr ∧ (s.setSset n a).tick = s.tick ∧
    (s.setSset n a).aon = s.aon ∧ (s.setSset n a).host = s.host ∧ (s.setSset n a).ring = s.ring ∧
    (s.setSset n a).ints = s.ints ∧ (s.setSset n a).holdoffs = s.holdoffs ∧ (s.setSset n a).dps = s.dps ∧
    (s.setSset n a).mboxes = s.mboxes ∧ (s.setSset n a).rung = s.rung ∧ (s.setSset n a).classRun = s.classRun ∧
    (s.setSset n a).lastRound = s.lastRound ∧ (s.setSset n a).checks = s.checks ∧
    (s.setSset n a).held = s.held ∧ (s.setSset n a).base = s.base ∧ (s.setSset n a).commits = s.commits ∧
    (s.setSset n a).commitId = s.commitId ∧ (s.setSset n a).coverage = s.coverage ∧
    (s.setSset n a).coverRuns = s.coverRuns ∧ (s.setSset n a).axes = s.axes ∧
    (s.setSset n a).wakeAt = s.wakeAt ∧ (s.setSset n a).echoes = s.echoes ∧ (s.setSset n a).trigs = s.trigs ∧
    (s.setSset n a).evals = s.evals ∧ (s.setSset n a).trigouts = s.trigouts ∧ (s.setSset n a).chans = s.chans ∧
    (s.setSset n a).amps = s.amps ∧ (s.setSset n a).fires = s.fires ∧ (s.setSset n a).raster = s.raster ∧
    (s.setSset n a).planes = s.planes ∧ (s.setSset n a).plait = s.plait ∧ (s.setSset n a).ports = s.ports ∧
    (s.setSset n a).banks = s.banks ∧ (s.setSset n a).catchUps = s.catchUps ∧
    (s.setSset n a).health = s.health ∧ (s.setSset n a).pair = s.pair ∧ (s.setSset n a).mem = s.mem ∧
    (s.setSset n a).dma = s.dma ∧ (s.setSset n a).power = s.power ∧ (s.setSset n a).therm = s.therm ∧
    (s.setSset n a).cal = s.cal ∧ (s.setSset n a).flash = s.flash ∧ (s.setSset n a).otp = s.otp ∧
    (s.setSset n a).bist = s.bist ∧ (s.setSset n a).log = s.log ∧ (s.setSset n a).out = s.out ∧
    (s.setSset n a).fresh = s.fresh ∧ (s.setSset n a).pending = s.pending := by
  and_intros <;> rfl

/-- What was stored under a number reads back. -/
@[simp] theorem setSset_same (n : Nat) (a : ShadowSet) : (s.setSset n a).sset n = a := by
  simp [State.setSset, State.sset]

/-- Other numbers read as before. -/
@[simp] theorem setSset_other (n : Nat) (a : ShadowSet) (k : Nat) (h : n ≠ k) : (s.setSset n a).sset k = s.sset k := by
  simp [State.setSset, State.sset, h]

/-- `setChan32` changes `dma` alone. -/
@[simp] theorem setChan32_frame (n : Nat) (a : DmaChan) :
    (s.setChan32 n a).sys = s.sys ∧ (s.setChan32 n a).pwr = s.pwr ∧ (s.setChan32 n a).tick = s.tick ∧
    (s.setChan32 n a).aon = s.aon ∧ (s.setChan32 n a).host = s.host ∧ (s.setChan32 n a).ring = s.ring ∧
    (s.setChan32 n a).ints = s.ints ∧ (s.setChan32 n a).holdoffs = s.holdoffs ∧ (s.setChan32 n a).dps = s.dps ∧
    (s.setChan32 n a).mboxes = s.mboxes ∧ (s.setChan32 n a).rung = s.rung ∧
    (s.setChan32 n a).classRun = s.classRun ∧ (s.setChan32 n a).lastRound = s.lastRound ∧
    (s.setChan32 n a).sets = s.sets ∧ (s.setChan32 n a).checks = s.checks ∧ (s.setChan32 n a).held = s.held ∧
    (s.setChan32 n a).base = s.base ∧ (s.setChan32 n a).commits = s.commits ∧
    (s.setChan32 n a).commitId = s.commitId ∧ (s.setChan32 n a).coverage = s.coverage ∧
    (s.setChan32 n a).coverRuns = s.coverRuns ∧ (s.setChan32 n a).axes = s.axes ∧
    (s.setChan32 n a).wakeAt = s.wakeAt ∧ (s.setChan32 n a).echoes = s.echoes ∧
    (s.setChan32 n a).trigs = s.trigs ∧ (s.setChan32 n a).evals = s.evals ∧
    (s.setChan32 n a).trigouts = s.trigouts ∧ (s.setChan32 n a).chans = s.chans ∧
    (s.setChan32 n a).amps = s.amps ∧ (s.setChan32 n a).fires = s.fires ∧ (s.setChan32 n a).raster = s.raster ∧
    (s.setChan32 n a).planes = s.planes ∧ (s.setChan32 n a).plait = s.plait ∧
    (s.setChan32 n a).ports = s.ports ∧ (s.setChan32 n a).banks = s.banks ∧
    (s.setChan32 n a).catchUps = s.catchUps ∧ (s.setChan32 n a).health = s.health ∧
    (s.setChan32 n a).pair = s.pair ∧ (s.setChan32 n a).mem = s.mem ∧ (s.setChan32 n a).power = s.power ∧
    (s.setChan32 n a).therm = s.therm ∧ (s.setChan32 n a).cal = s.cal ∧ (s.setChan32 n a).flash = s.flash ∧
    (s.setChan32 n a).otp = s.otp ∧ (s.setChan32 n a).bist = s.bist ∧ (s.setChan32 n a).log = s.log ∧
    (s.setChan32 n a).out = s.out ∧ (s.setChan32 n a).fresh = s.fresh ∧
    (s.setChan32 n a).pending = s.pending := by
  and_intros <;> rfl

/-- What was stored under a number reads back. -/
@[simp] theorem setChan32_same (n : Nat) (a : DmaChan) : (s.setChan32 n a).chan32 n = a := by
  simp [State.setChan32, State.chan32]

/-- Other numbers read as before. -/
@[simp] theorem setChan32_other (n : Nat) (a : DmaChan) (k : Nat) (h : n ≠ k) : (s.setChan32 n a).chan32 k = s.chan32 k := by
  simp [State.setChan32, State.chan32, h]

/-- `setSession` changes `plait` alone. -/
@[simp] theorem setSession_frame (n : Nat) (a : Session) :
    (s.setSession n a).sys = s.sys ∧ (s.setSession n a).pwr = s.pwr ∧ (s.setSession n a).tick = s.tick ∧
    (s.setSession n a).aon = s.aon ∧ (s.setSession n a).host = s.host ∧ (s.setSession n a).ring = s.ring ∧
    (s.setSession n a).ints = s.ints ∧ (s.setSession n a).holdoffs = s.holdoffs ∧
    (s.setSession n a).dps = s.dps ∧ (s.setSession n a).mboxes = s.mboxes ∧ (s.setSession n a).rung = s.rung ∧
    (s.setSession n a).classRun = s.classRun ∧ (s.setSession n a).lastRound = s.lastRound ∧
    (s.setSession n a).sets = s.sets ∧ (s.setSession n a).checks = s.checks ∧ (s.setSession n a).held = s.held ∧
    (s.setSession n a).base = s.base ∧ (s.setSession n a).commits = s.commits ∧
    (s.setSession n a).commitId = s.commitId ∧ (s.setSession n a).coverage = s.coverage ∧
    (s.setSession n a).coverRuns = s.coverRuns ∧ (s.setSession n a).axes = s.axes ∧
    (s.setSession n a).wakeAt = s.wakeAt ∧ (s.setSession n a).echoes = s.echoes ∧
    (s.setSession n a).trigs = s.trigs ∧ (s.setSession n a).evals = s.evals ∧
    (s.setSession n a).trigouts = s.trigouts ∧ (s.setSession n a).chans = s.chans ∧
    (s.setSession n a).amps = s.amps ∧ (s.setSession n a).fires = s.fires ∧
    (s.setSession n a).raster = s.raster ∧ (s.setSession n a).planes = s.planes ∧
    (s.setSession n a).ports = s.ports ∧ (s.setSession n a).banks = s.banks ∧
    (s.setSession n a).catchUps = s.catchUps ∧ (s.setSession n a).health = s.health ∧
    (s.setSession n a).pair = s.pair ∧ (s.setSession n a).mem = s.mem ∧ (s.setSession n a).dma = s.dma ∧
    (s.setSession n a).power = s.power ∧ (s.setSession n a).therm = s.therm ∧ (s.setSession n a).cal = s.cal ∧
    (s.setSession n a).flash = s.flash ∧ (s.setSession n a).otp = s.otp ∧ (s.setSession n a).bist = s.bist ∧
    (s.setSession n a).log = s.log ∧ (s.setSession n a).out = s.out ∧ (s.setSession n a).fresh = s.fresh ∧
    (s.setSession n a).pending = s.pending := by
  and_intros <;> rfl

/-- What was stored under a number reads back. -/
@[simp] theorem setSession_same (n : Nat) (a : Session) : (s.setSession n a).session n = a := by
  simp [State.setSession, State.session]

/-- Other numbers read as before. -/
@[simp] theorem setSession_other (n : Nat) (a : Session) (k : Nat) (h : n ≠ k) : (s.setSession n a).session k = s.session k := by
  simp [State.setSession, State.session, h]

/-- `setPool` changes `bist` alone. -/
@[simp] theorem setPool_frame (n : Nat) (a : Pool) :
    (s.setPool n a).sys = s.sys ∧ (s.setPool n a).pwr = s.pwr ∧ (s.setPool n a).tick = s.tick ∧
    (s.setPool n a).aon = s.aon ∧ (s.setPool n a).host = s.host ∧ (s.setPool n a).ring = s.ring ∧
    (s.setPool n a).ints = s.ints ∧ (s.setPool n a).holdoffs = s.holdoffs ∧ (s.setPool n a).dps = s.dps ∧
    (s.setPool n a).mboxes = s.mboxes ∧ (s.setPool n a).rung = s.rung ∧ (s.setPool n a).classRun = s.classRun ∧
    (s.setPool n a).lastRound = s.lastRound ∧ (s.setPool n a).sets = s.sets ∧
    (s.setPool n a).checks = s.checks ∧ (s.setPool n a).held = s.held ∧ (s.setPool n a).base = s.base ∧
    (s.setPool n a).commits = s.commits ∧ (s.setPool n a).commitId = s.commitId ∧
    (s.setPool n a).coverage = s.coverage ∧ (s.setPool n a).coverRuns = s.coverRuns ∧
    (s.setPool n a).axes = s.axes ∧ (s.setPool n a).wakeAt = s.wakeAt ∧ (s.setPool n a).echoes = s.echoes ∧
    (s.setPool n a).trigs = s.trigs ∧ (s.setPool n a).evals = s.evals ∧ (s.setPool n a).trigouts = s.trigouts ∧
    (s.setPool n a).chans = s.chans ∧ (s.setPool n a).amps = s.amps ∧ (s.setPool n a).fires = s.fires ∧
    (s.setPool n a).raster = s.raster ∧ (s.setPool n a).planes = s.planes ∧ (s.setPool n a).plait = s.plait ∧
    (s.setPool n a).ports = s.ports ∧ (s.setPool n a).banks = s.banks ∧ (s.setPool n a).catchUps = s.catchUps ∧
    (s.setPool n a).health = s.health ∧ (s.setPool n a).pair = s.pair ∧ (s.setPool n a).mem = s.mem ∧
    (s.setPool n a).dma = s.dma ∧ (s.setPool n a).power = s.power ∧ (s.setPool n a).therm = s.therm ∧
    (s.setPool n a).cal = s.cal ∧ (s.setPool n a).flash = s.flash ∧ (s.setPool n a).otp = s.otp ∧
    (s.setPool n a).log = s.log ∧ (s.setPool n a).out = s.out ∧ (s.setPool n a).fresh = s.fresh ∧
    (s.setPool n a).pending = s.pending := by
  and_intros <;> rfl

/-- What was stored under a number reads back. -/
@[simp] theorem setPool_same (n : Nat) (a : Pool) : (s.setPool n a).pool n = a := by
  simp [State.setPool, State.pool]

/-- Other numbers read as before. -/
@[simp] theorem setPool_other (n : Nat) (a : Pool) (k : Nat) (h : n ≠ k) : (s.setPool n a).pool k = s.pool k := by
  simp [State.setPool, State.pool, h]

/-- `setDom` changes `therm` alone. -/
@[simp] theorem setDom_frame (n : Nat) (a : Domain) :
    (s.setDom n a).sys = s.sys ∧ (s.setDom n a).pwr = s.pwr ∧ (s.setDom n a).tick = s.tick ∧
    (s.setDom n a).aon = s.aon ∧ (s.setDom n a).host = s.host ∧ (s.setDom n a).ring = s.ring ∧
    (s.setDom n a).ints = s.ints ∧ (s.setDom n a).holdoffs = s.holdoffs ∧ (s.setDom n a).dps = s.dps ∧
    (s.setDom n a).mboxes = s.mboxes ∧ (s.setDom n a).rung = s.rung ∧ (s.setDom n a).classRun = s.classRun ∧
    (s.setDom n a).lastRound = s.lastRound ∧ (s.setDom n a).sets = s.sets ∧ (s.setDom n a).checks = s.checks ∧
    (s.setDom n a).held = s.held ∧ (s.setDom n a).base = s.base ∧ (s.setDom n a).commits = s.commits ∧
    (s.setDom n a).commitId = s.commitId ∧ (s.setDom n a).coverage = s.coverage ∧
    (s.setDom n a).coverRuns = s.coverRuns ∧ (s.setDom n a).axes = s.axes ∧ (s.setDom n a).wakeAt = s.wakeAt ∧
    (s.setDom n a).echoes = s.echoes ∧ (s.setDom n a).trigs = s.trigs ∧ (s.setDom n a).evals = s.evals ∧
    (s.setDom n a).trigouts = s.trigouts ∧ (s.setDom n a).chans = s.chans ∧ (s.setDom n a).amps = s.amps ∧
    (s.setDom n a).fires = s.fires ∧ (s.setDom n a).raster = s.raster ∧ (s.setDom n a).planes = s.planes ∧
    (s.setDom n a).plait = s.plait ∧ (s.setDom n a).ports = s.ports ∧ (s.setDom n a).banks = s.banks ∧
    (s.setDom n a).catchUps = s.catchUps ∧ (s.setDom n a).health = s.health ∧ (s.setDom n a).pair = s.pair ∧
    (s.setDom n a).mem = s.mem ∧ (s.setDom n a).dma = s.dma ∧ (s.setDom n a).power = s.power ∧
    (s.setDom n a).cal = s.cal ∧ (s.setDom n a).flash = s.flash ∧ (s.setDom n a).otp = s.otp ∧
    (s.setDom n a).bist = s.bist ∧ (s.setDom n a).log = s.log ∧ (s.setDom n a).out = s.out ∧
    (s.setDom n a).fresh = s.fresh ∧ (s.setDom n a).pending = s.pending := by
  and_intros <;> rfl

/-- What was stored under a number reads back. -/
@[simp] theorem setDom_same (n : Nat) (a : Domain) : (s.setDom n a).dom n = a := by
  simp [State.setDom, State.dom]

/-- Other numbers read as before. -/
@[simp] theorem setDom_other (n : Nat) (a : Domain) (k : Nat) (h : n ≠ k) : (s.setDom n a).dom k = s.dom k := by
  simp [State.setDom, State.dom, h]

/-- `setHvt` changes `power` alone. -/
@[simp] theorem setHvt_frame (n : Nat) (a : Hv) :
    (s.setHvt n a).sys = s.sys ∧ (s.setHvt n a).pwr = s.pwr ∧ (s.setHvt n a).tick = s.tick ∧
    (s.setHvt n a).aon = s.aon ∧ (s.setHvt n a).host = s.host ∧ (s.setHvt n a).ring = s.ring ∧
    (s.setHvt n a).ints = s.ints ∧ (s.setHvt n a).holdoffs = s.holdoffs ∧ (s.setHvt n a).dps = s.dps ∧
    (s.setHvt n a).mboxes = s.mboxes ∧ (s.setHvt n a).rung = s.rung ∧ (s.setHvt n a).classRun = s.classRun ∧
    (s.setHvt n a).lastRound = s.lastRound ∧ (s.setHvt n a).sets = s.sets ∧ (s.setHvt n a).checks = s.checks ∧
    (s.setHvt n a).held = s.held ∧ (s.setHvt n a).base = s.base ∧ (s.setHvt n a).commits = s.commits ∧
    (s.setHvt n a).commitId = s.commitId ∧ (s.setHvt n a).coverage = s.coverage ∧
    (s.setHvt n a).coverRuns = s.coverRuns ∧ (s.setHvt n a).axes = s.axes ∧ (s.setHvt n a).wakeAt = s.wakeAt ∧
    (s.setHvt n a).echoes = s.echoes ∧ (s.setHvt n a).trigs = s.trigs ∧ (s.setHvt n a).evals = s.evals ∧
    (s.setHvt n a).trigouts = s.trigouts ∧ (s.setHvt n a).chans = s.chans ∧ (s.setHvt n a).amps = s.amps ∧
    (s.setHvt n a).fires = s.fires ∧ (s.setHvt n a).raster = s.raster ∧ (s.setHvt n a).planes = s.planes ∧
    (s.setHvt n a).plait = s.plait ∧ (s.setHvt n a).ports = s.ports ∧ (s.setHvt n a).banks = s.banks ∧
    (s.setHvt n a).catchUps = s.catchUps ∧ (s.setHvt n a).health = s.health ∧ (s.setHvt n a).pair = s.pair ∧
    (s.setHvt n a).mem = s.mem ∧ (s.setHvt n a).dma = s.dma ∧ (s.setHvt n a).therm = s.therm ∧
    (s.setHvt n a).cal = s.cal ∧ (s.setHvt n a).flash = s.flash ∧ (s.setHvt n a).otp = s.otp ∧
    (s.setHvt n a).bist = s.bist ∧ (s.setHvt n a).log = s.log ∧ (s.setHvt n a).out = s.out ∧
    (s.setHvt n a).fresh = s.fresh ∧ (s.setHvt n a).pending = s.pending := by
  and_intros <;> rfl

/-- What was stored under a number reads back. -/
@[simp] theorem setHvt_same (n : Nat) (a : Hv) : (s.setHvt n a).hvt n = a := by
  simp [State.setHvt, State.hvt]

/-- Other numbers read as before. -/
@[simp] theorem setHvt_other (n : Nat) (a : Hv) (k : Nat) (h : n ≠ k) : (s.setHvt n a).hvt k = s.hvt k := by
  simp [State.setHvt, State.hvt, h]

/-- `emit` changes the record of what left the block alone. -/
@[simp] theorem emit_frame (o : Output) :
    (s.emit o).sys = s.sys ∧ (s.emit o).pwr = s.pwr ∧ (s.emit o).tick = s.tick ∧ (s.emit o).aon = s.aon ∧
    (s.emit o).host = s.host ∧ (s.emit o).ring = s.ring ∧ (s.emit o).ints = s.ints ∧
    (s.emit o).holdoffs = s.holdoffs ∧ (s.emit o).dps = s.dps ∧ (s.emit o).mboxes = s.mboxes ∧
    (s.emit o).rung = s.rung ∧ (s.emit o).classRun = s.classRun ∧ (s.emit o).lastRound = s.lastRound ∧
    (s.emit o).sets = s.sets ∧ (s.emit o).checks = s.checks ∧ (s.emit o).held = s.held ∧
    (s.emit o).base = s.base ∧ (s.emit o).commits = s.commits ∧ (s.emit o).commitId = s.commitId ∧
    (s.emit o).coverage = s.coverage ∧ (s.emit o).coverRuns = s.coverRuns ∧ (s.emit o).axes = s.axes ∧
    (s.emit o).wakeAt = s.wakeAt ∧ (s.emit o).echoes = s.echoes ∧ (s.emit o).trigs = s.trigs ∧
    (s.emit o).evals = s.evals ∧ (s.emit o).trigouts = s.trigouts ∧ (s.emit o).chans = s.chans ∧
    (s.emit o).amps = s.amps ∧ (s.emit o).fires = s.fires ∧ (s.emit o).raster = s.raster ∧
    (s.emit o).planes = s.planes ∧ (s.emit o).plait = s.plait ∧ (s.emit o).ports = s.ports ∧
    (s.emit o).banks = s.banks ∧ (s.emit o).catchUps = s.catchUps ∧ (s.emit o).health = s.health ∧
    (s.emit o).pair = s.pair ∧ (s.emit o).mem = s.mem ∧ (s.emit o).dma = s.dma ∧ (s.emit o).power = s.power ∧
    (s.emit o).therm = s.therm ∧ (s.emit o).cal = s.cal ∧ (s.emit o).flash = s.flash ∧ (s.emit o).otp = s.otp ∧
    (s.emit o).bist = s.bist ∧ (s.emit o).log = s.log ∧ (s.emit o).fresh = s.fresh ∧
    (s.emit o).pending = s.pending := by
  and_intros <;> rfl

/-- What leaves the block is recorded. -/
@[simp] theorem emit_out (o : Output) : (s.emit o).out = o :: s.out := rfl

/-- `setClock` changes the two counters and the time of the last activity alone. -/
@[simp] theorem setClock_frame (m : Moment) :
    (s.setClock m).sys = s.sys ∧ (s.setClock m).pwr = s.pwr ∧ (s.setClock m).host = s.host ∧ (s.setClock m).ring = s.ring ∧
    (s.setClock m).ints = s.ints ∧ (s.setClock m).holdoffs = s.holdoffs ∧ (s.setClock m).dps = s.dps ∧
    (s.setClock m).mboxes = s.mboxes ∧ (s.setClock m).rung = s.rung ∧ (s.setClock m).classRun = s.classRun ∧
    (s.setClock m).lastRound = s.lastRound ∧ (s.setClock m).sets = s.sets ∧ (s.setClock m).checks = s.checks ∧
    (s.setClock m).held = s.held ∧ (s.setClock m).base = s.base ∧ (s.setClock m).commits = s.commits ∧
    (s.setClock m).commitId = s.commitId ∧ (s.setClock m).coverage = s.coverage ∧
    (s.setClock m).coverRuns = s.coverRuns ∧ (s.setClock m).axes = s.axes ∧ (s.setClock m).wakeAt = s.wakeAt ∧
    (s.setClock m).echoes = s.echoes ∧ (s.setClock m).trigs = s.trigs ∧ (s.setClock m).evals = s.evals ∧
    (s.setClock m).trigouts = s.trigouts ∧ (s.setClock m).chans = s.chans ∧ (s.setClock m).amps = s.amps ∧
    (s.setClock m).fires = s.fires ∧ (s.setClock m).raster = s.raster ∧ (s.setClock m).planes = s.planes ∧
    (s.setClock m).plait = s.plait ∧ (s.setClock m).ports = s.ports ∧ (s.setClock m).banks = s.banks ∧
    (s.setClock m).catchUps = s.catchUps ∧ (s.setClock m).health = s.health ∧ (s.setClock m).pair = s.pair ∧
    (s.setClock m).mem = s.mem ∧ (s.setClock m).dma = s.dma ∧ (s.setClock m).therm = s.therm ∧ (s.setClock m).cal = s.cal ∧
    (s.setClock m).flash = s.flash ∧ (s.setClock m).otp = s.otp ∧ (s.setClock m).bist = s.bist ∧
    (s.setClock m).log = s.log ∧ (s.setClock m).out = s.out ∧ (s.setClock m).fresh = s.fresh ∧
    (s.setClock m).pending = s.pending := by
  and_intros <;> rfl

end Sys2Proof.Laws
end

