-- ==== Sys2Proof/Laws/Exchange.lean ====
section
/-!
SUPPORT. The mailbox exchange, once and for all commands: what it does to a request that is served at once,
by the outcome of its command.
-/

namespace Sys2Proof.Laws

open Sys2Proof Sys2Proof.Machine

variable (s : State)

/-! ## Interrupts and responses -/

/-- A message changes the pending bits and the record of what left the block alone. -/
theorem sendMsix_eq (n : Nat) :
    s.sendMsix n = { s with ints := (s.sendMsix n).ints, out := (s.sendMsix n).out } := by
  unfold State.sendMsix
  (repeat' split) <;> rfl

/-- A source changes INT_STATUS and the messages alone. -/
theorem raiseInt_eq (n : Nat) :
    s.raiseInt n = { s with ints := (s.raiseInt n).ints, out := (s.raiseInt n).out } := by
  unfold State.raiseInt
  dsimp only
  split
  · rw [sendMsix_eq]
  · rfl

/-- The mailbox that a response leaves. -/
def answeredBox (b : Mailbox) (now : Moment) (r : Response) : Mailbox :=
  { b with busy := false, respReady := true, response := r, respOver := [], cycle := b.cycle.note now (bit28 1) 0 0 }

/-- A response changes its mailbox and the interrupts alone. -/
theorem respond_eq (n : Nat) (r : Response) :
    s.respond n r = { s with
      mboxes := s.mboxes.set n (answeredBox (s.mbox n) s.now r)
      ints := (s.respond n r).ints, out := (s.respond n r).out } := by
  unfold State.respond
  dsimp only
  rw [raiseInt_eq]
  rfl

/-! ## The request in its buffer -/

/-- Bytes written from an index upward leave lower ones. -/
theorem putBytes_below : ∀ (bs : List Byte) (t : Table Byte) (o i : Nat), i < o →
    (putBytes t o bs).get 0 i = t.get 0 i
  | [], _, _, _, _ => rfl
  | b :: bs, t, o, i, h => by
    simp only [putBytes]
    rw [putBytes_below bs _ (o + 1) i (by omega), table_get_set_other _ _ _ _ _ (by omega)]

/-- Bytes written from an index upward read back. -/
theorem putBytes_get : ∀ (bs : List Byte) (t : Table Byte) (o i : Nat), i < bs.length →
    (putBytes t o bs).get 0 (o + i) = bs.getD i 0
  | b :: bs, t, o, 0, _ => by
    simp only [putBytes, Nat.add_zero]
    rw [putBytes_below bs _ (o + 1) o (by omega)]
    simp
  | b :: bs, t, o, i + 1, h => by
    simp only [putBytes]
    rw [show o + (i + 1) = (o + 1) + i by omega, putBytes_get bs _ (o + 1) i (by simpa using h)]
    simp

/-- The header of a request, as bytes. -/
theorem requestBytes_header (op : BitVec 16) (rq : Request) (i : Nat) (h : i < 8) :
    (requestBytes op rq).getD i 0
      = (le 2 op.toNat ++ le 2 rq.tag.toNat ++ le 2 rq.length ++ le 2 (requestFlags rq)).getD i 0 := by
  simp only [requestBytes, List.getD_eq_getElem?_getD]
  rw [List.append_assoc, List.getElem?_append_left (by simpa using h)]

/-- A request written into the idle buffer is what the buffer holds. -/
theorem bufferHolds_put (b : Mailbox) (op : BitVec 16) (rq : Request) (h : rq.length < 65536) :
    bufferHolds { b with request := putBytes b.request 0 (requestBytes op rq) } op rq = true := by
  have hl : 8 < (requestBytes op rq).length := by simp [requestBytes]; omega
  have hg : ∀ i, i < 8 → reqByte { b with request := putBytes b.request 0 (requestBytes op rq) } i
      = (le 2 op.toNat ++ le 2 rq.tag.toNat ++ le 2 rq.length ++ le 2 (requestFlags rq)).getD i 0 := by
    intro i hi
    have := putBytes_get (requestBytes op rq) b.request 0 i (by omega)
    rw [Nat.zero_add] at this
    rw [reqByte, this, requestBytes_header op rq i hi]
  have ho : op.toNat < 65536 := op.isLt
  have ht : rq.tag.toNat < 65536 := rq.tag.isLt
  have hf : requestFlags rq < 4 := by unfold requestFlags b2n; split <;> split <;> decide
  have h0 : reqField { b with request := putBytes b.request 0 (requestBytes op rq) } 0 = op.toNat := by
    simp only [reqField, hg 0 (by omega), hg (0 + 1) (by omega)]
    simp [le, ofLE]; omega
  have h2 : reqField { b with request := putBytes b.request 0 (requestBytes op rq) } 2 = rq.tag.toNat := by
    simp only [reqField, hg 2 (by omega), hg (2 + 1) (by omega)]
    simp [le, ofLE]; omega
  have h4 : reqField { b with request := putBytes b.request 0 (requestBytes op rq) } 4 = rq.length := by
    simp only [reqField, hg 4 (by omega), hg (4 + 1) (by omega)]
    simp [le, ofLE]; omega
  have h6 : reqField { b with request := putBytes b.request 0 (requestBytes op rq) } 6 = requestFlags rq := by
    simp only [reqField, hg 6 (by omega), hg (6 + 1) (by omega)]
    simp [le, ofLE]; omega
  have hp : (List.range (rq.payload.take 1008).length).all
      (fun i => reqByte { b with request := putBytes b.request 0 (requestBytes op rq) } (16 + i) == rq.payload.getD i 0)
      = true := by
    simp only [List.all_eq_true, List.mem_range, beq_iff_eq]
    intro i hi
    have hlen : 16 + i < (requestBytes op rq).length := by simp [requestBytes] at hi ⊢; omega
    have := putBytes_get (requestBytes op rq) b.request 0 (16 + i) hlen
    rw [Nat.zero_add] at this
    rw [reqByte, this]
    have h16 : (le 2 op.toNat ++ le 2 rq.tag.toNat ++ le 2 rq.length ++ le 2 (requestFlags rq) ++ zeros 8).length = 16 := by
      simp
    simp only [requestBytes, List.getD_eq_getElem?_getD]
    rw [List.getElem?_append_right (by omega), h16, Nat.add_sub_cancel_left,
      List.getElem?_take_of_lt (by simp at hi; omega)]
  simp only [bufferHolds, h0, h2, h4, h6, hp, beq_self_eq_true, Bool.and_self, Nat.mod_eq_of_lt hf]

/-! ## The exchange -/

/-- With no doorbell waiting, the undefined opcodes of other mailboxes add nothing. -/
theorem serveUndefined_none (k : Nat) (h : s.rung = []) : State.serveUndefined k s = s := by
  cases k with
  | zero => rfl
  | succ k =>
    have hb : s.nextBell = none := by simp [State.nextBell, State.nextRound, h]
    simp only [State.serveUndefined]
    split
    · rfl
    · rw [hb]

/-- The mailbox record once a request has rung. -/
theorem ringWith_eq (op : BitVec 16) (rq : Request) (hb : (s.mbox rq.mbx.val).busy = false) :
    s.ringWith op rq = { s with
      mboxes := (s.ringWith op rq).mboxes, rung := s.rung ++ [rq.mbx.val] } := by
  unfold State.ringWith State.ringBell
  dsimp only
  rw [if_neg]
  · rfl
  · simp [hb]

/-- The record of a mailbox whose request is being served. -/
theorem served_mbox (c : Cmd) (rq : Request) (hb : (s.mbox rq.mbx.val).busy = false) :
    (s.served c rq).mbox rq.mbx.val = { s.mbox rq.mbx.val with
      request := putBytes (s.mbox rq.mbx.val).request 0 (requestBytes c.op rq)
      busy := true, respReady := false, rungAt := s.aon } := by
  unfold State.served State.takeBell State.ringWith State.ringBell
  dsimp only
  rw [if_neg]
  · simp [State.mbox, State.setMbox]
  · simp [hb]

/-- Other mailboxes read as before. -/
theorem served_mbox_other (c : Cmd) (rq : Request) (k : Nat) (hb : (s.mbox rq.mbx.val).busy = false)
    (hk : rq.mbx.val ≠ k) : (s.served c rq).mbox k = s.mbox k := by
  unfold State.served State.takeBell State.ringWith State.ringBell
  dsimp only
  rw [if_neg]
  · simp [State.mbox, State.setMbox, hk]
  · simp [hb]

/-- What the exchange leaves as it was when a request is served (R70–R75). -/
theorem served_eq (c : Cmd) (rq : Request) (hb : (s.mbox rq.mbx.val).busy = false) (hr : s.rung = []) :
    s.served c rq = { s with
      mboxes := (s.served c rq).mboxes, rung := [], classRun := 0
      lastRound := if ringClass rq.mbx.val = 3 then rq.mbx.val else s.lastRound
      power := { s.power with lastActivity := s.aon } } := by
  unfold State.served
  rw [ringWith_eq s c.op rq hb]
  simp [State.takeBell, hr]

/-- The doorbell that firmware services is the only one that waits. -/
theorem nextBell_single (n : Nat) (h : s.rung = [n]) : s.nextBell = some n := by
  have h3 : ringClass n = 1 ∨ ringClass n = 2 ∨ ringClass n = 3 := by
    unfold ringClass; split
    · exact .inl rfl
    · split
      · exact .inr (.inl rfl)
      · exact .inr (.inr rfl)
  rcases h3 with h3 | h3 | h3 <;>
    (simp [State.nextBell, State.nextRound, h, insertNat, h3]; try (split <;> simp))

/-- The answers leave the doorbells, and everything but the mailbox and the interrupts. -/
@[simp] theorem respond_rung (n : Nat) (r : Response) : (s.respond n r).rung = s.rung := by
  rw [respond_eq]

/-- A request that finds the link and its mailbox free is written and rings (R70, R72). -/
theorem arrive_eq (op : BitVec 16) (rq : Request) (hl : s.hostReaches = true) (hr : s.rung = [])
    (hb : (s.mbox rq.mbx.val).busy = false) : s.arrive op rq = s.ringWith op rq := by
  unfold State.arrive
  simp [hl, hr, hb]

/-- Its turn has come. -/
theorem turnOf_ringWith (op : BitVec 16) (rq : Request) (hf : s.firmwareRuns = true) (hr : s.rung = [])
    (hb : (s.mbox rq.mbx.val).busy = false) (hn : rq.length < 65536) :
    (s.ringWith op rq).turnOf op rq = true := by
  have hfw : (s.ringWith op rq).firmwareRuns = true := by rw [ringWith_eq s op rq hb]; exact hf
  have hrg : (s.ringWith op rq).rung = [rq.mbx.val] := by rw [ringWith_eq s op rq hb]; simp [hr]
  have hmb : (s.ringWith op rq).mbox rq.mbx.val = { s.mbox rq.mbx.val with
      request := putBytes (s.mbox rq.mbx.val).request 0 (requestBytes op rq)
      busy := true, respReady := false, rungAt := s.aon } := by
    unfold State.ringWith State.ringBell
    dsimp only
    rw [if_neg]
    · simp [State.mbox, State.setMbox]
    · simp [hb]
  have hh := bufferHolds_put (s.mbox rq.mbx.val) op rq hn
  have hh' : bufferHolds ((s.ringWith op rq).mbox rq.mbx.val) op rq = true := by rw [hmb]; exact hh
  unfold State.turnOf
  simp [hfw, nextBell_single _ _ hrg, hh']

/-- A request that passes the generic checks is not barred (R78, R329). -/
theorem barred_none (c : Cmd) (size : Nat) (rq : Request) (h5 : rq.length = size) (h6 : rq.length ≤ 1008)
    (h7 : c.only15 = true → rq.mbx = 15) (h8 : s.sys ∈ c.states) (h9 : s.otp.lc ∈ c.lc)
    (h10 : s.secondary = true → c.staged = false ∧ c.primary = false) : s.barred c size rq = none := by
  unfold State.barred
  rw [if_neg (by omega)]
  have hm : (c.only15 && rq.mbx.val != 15) = false := by
    cases h : c.only15
    · rfl
    · simp [h7 h]
  have hs : (s.secondary && (c.staged || c.primary)) = false := by
    cases h : s.secondary
    · rfl
    · simp [h10 h]
  simp [hm, hs, h8, h9]

/-- A device that is not in DOZE is not woken by an access. -/
theorem hostAccess_awake (h : s.pwr ≠ .doze) : s.hostAccess = s := by
  unfold State.hostAccess
  have hp : (s.pwr == PwrState.doze) = false := by simpa using h
  simp [hp]

/-- A request that is served at once: what the command makes of it (R78). -/
theorem serve_eq (c : Cmd) (size : Nat) (body : Request → State → Verdict) (m : Moment) (rq : Request)
    (h : Serves c size rq (s.clock m)) :
    serve c size body m rq s = State.serveUndefined 16
      (((s.clock m).served c rq).conclude c rq (body rq ((s.clock m).served c rq))) := by
  obtain ⟨h1, h2, h3, h4, h5, h6, h7, h8, h9, h10, h11, h12⟩ := h
  unfold serve
  dsimp only
  rw [arrive_eq _ _ _ h1 h3 h4, turnOf_ringWith _ _ _ h2 h3 h4 (by omega), if_pos rfl]
  have hv := served_eq (s.clock m) c rq h4 h3
  congr 1
  change ((s.clock m).served c rq).execute c size body rq = _
  unfold State.execute
  dsimp only
  have hbar : ((s.clock m).served c rq).barred c size rq = none := by
    apply barred_none _ c size rq h5 h6 h7
    · rw [hv]; exact h8
    · rw [hv]; exact h9
    · rw [hv]; exact h10
  rw [hbar]
  dsimp only
  have hp : (((s.clock m).served c rq).sset rq.mbx.val).poisoned = false := by rw [hv]; exact h11
  rw [hp, if_neg (by simp)]
  have hw : (if c.wakes = true then ((s.clock m).served c rq).hostAccess else (s.clock m).served c rq)
      = (s.clock m).served c rq := by
    split
    · rename_i h
      exact hostAccess_awake _ (by rw [hv]; exact h12 h)
    · rfl
  rw [hw]

/-- An immediate command: its state, and its payload in the response. -/
theorem serve_done (c : Cmd) (size : Nat) (body : Request → State → Verdict) (m : Moment) (rq : Request) (t : State)
    (p : List Byte) (h : Serves c size rq (s.clock m))
    (hb : body rq ((s.clock m).served c rq) = .done t p) (ht : t.rung = [])
    (hl : (s.clock m).logRefuses = true → c.logsLater = false ∧ t.log.next = (s.clock m).log.next) :
    serve c size body m rq s = t.answered rq p := by
  rw [serve_eq s c size body m rq h, hb]
  have hv := served_eq (s.clock m) c rq h.2.2.2.1 h.2.2.1
  have hlog : (logs c ((s.clock m).served c rq) t && ((s.clock m).served c rq).logRefuses) = false := by
    have e1 : ((s.clock m).served c rq).logRefuses = (s.clock m).logRefuses := by rw [hv]; rfl
    have e2 : ((s.clock m).served c rq).log = (s.clock m).log := by rw [hv]
    rw [e1]
    cases hx : (s.clock m).logRefuses
    · simp
    · obtain ⟨ha, hb⟩ := hl hx
      simp [logs, e2, ha, hb]
  simp only [State.conclude, hlog, State.answered, Bool.false_eq_true, if_false]
  exact serveUndefined_none _ _ (by simp [ht])

/-- A refused command: nothing but the response. -/
theorem serve_refuse (c : Cmd) (size : Nat) (body : Request → State → Verdict) (m : Moment) (rq : Request)
    (r : Reason) (cls : Byte) (obj : Nat) (p : List Byte) (h : Serves c size rq (s.clock m))
    (hb : body rq ((s.clock m).served c rq) = .refuse r cls obj p) :
    serve c size body m rq s = ((s.clock m).served c rq).deniedFor rq r cls obj p := by
  rw [serve_eq s c size body m rq h, hb]
  have hv := served_eq (s.clock m) c rq h.2.2.2.1 h.2.2.1
  simp only [State.conclude, State.deniedFor]
  exact serveUndefined_none _ _ (by rw [respond_rung, hv])

/-- A staged command: its change joins the mailbox's set. -/
theorem serve_stage (c : Cmd) (size : Nat) (body : Request → State → Verdict) (m : Moment) (rq : Request) (ch : Change)
    (h : Serves c size rq (s.clock m)) (hs : Stages rq ch (s.clock m))
    (hb : body rq ((s.clock m).served c rq) = .stage ch) :
    serve c size body m rq s = ((s.clock m).served c rq).stagedFor rq ch := by
  rw [serve_eq s c size body m rq h, hb]
  have hv := served_eq (s.clock m) c rq h.2.2.2.1 h.2.2.1
  have hset : ((s.clock m).served c rq).sset rq.mbx.val = (s.clock m).sset rq.mbx.val := by rw [hv]; rfl
  have hf : setFits (((s.clock m).served c rq).sset rq.mbx.val) ch = true := by rw [hset]; exact hs.2
  simp only [State.conclude, State.stageFor, hf, hs.1, State.stagedFor, Bool.not_true, Bool.false_eq_true, if_false]
  refine serveUndefined_none _ _ ?_
  rw [respond_rung]
  change ((s.clock m).served c rq).rung = []
  rw [hv]

/-- A command that completes later: its state, and ACCEPTED in the response. -/
theorem serve_accept (c : Cmd) (size : Nat) (body : Request → State → Verdict) (m : Moment) (rq : Request) (t : State)
    (h : Serves c size rq (s.clock m)) (hb : body rq ((s.clock m).served c rq) = .accept t) (ht : t.rung = [])
    (hn : ((s.clock m).mbox rq.mbx.val).pending < 8)
    (hl : (s.clock m).logRefuses = true → c.logsLater = false ∧ t.log.next = (s.clock m).log.next) :
    serve c size body m rq s = t.acceptedFor (((s.clock m).served c rq).waiterOf rq c.op) rq := by
  rw [serve_eq s c size body m rq h, hb]
  have hv := served_eq (s.clock m) c rq h.2.2.2.1 h.2.2.1
  have hlog : (logs c ((s.clock m).served c rq) t && ((s.clock m).served c rq).logRefuses) = false := by
    have e1 : ((s.clock m).served c rq).logRefuses = (s.clock m).logRefuses := by rw [hv]; rfl
    have e2 : ((s.clock m).served c rq).log = (s.clock m).log := by rw [hv]
    rw [e1]
    cases hx : (s.clock m).logRefuses
    · simp
    · obtain ⟨ha, hb⟩ := hl hx
      simp [logs, e2, ha, hb]
  have hp : ¬ 8 ≤ (((s.clock m).served c rq).mbox rq.mbx.val).pending := by
    rw [served_mbox _ c rq h.2.2.2.1]; simpa using hn
  simp only [State.conclude, hlog, if_neg hp, State.acceptedFor, Bool.false_eq_true, if_false]
  exact serveUndefined_none _ _ (by rw [respond_rung]; exact ht)

/-! ## From the body of a command to what the command does -/

/-- A command whose fields are in range goes on (R78). -/
theorem checked_ok {fields : List (Bool × Nat)} {k : Verdict} (h : ∀ f ∈ fields, f.1 = true) : checked fields k = k := by
  have hb : firstBad fields = none := by
    induction fields with
    | nil => rfl
    | cons f l ih =>
      obtain ⟨b, o⟩ := f
      have hb : b = true := h (b, o) (by simp)
      simp only [firstBad, hb, if_true]
      exact ih (fun g hg => h g (by simp [hg]))
  simp [checked, hb]

variable {s}

/-- A command completes in its response where its body does. -/
theorem answers_of {i : Moment → Request → Instr} {c : Cmd} {size : Request → Nat}
    {body : Request → State → Verdict} {ok : Request → State → Prop} {t : Request → State → State}
    {P : Request → State → List Byte → Prop}
    (hi : ∀ m rq s, exec (i m rq) s = .next (serve c (size rq) body m rq s))
    (hb : ∀ rq v, ok rq v → ∃ p, body rq v = .done (t rq v) p ∧ P rq v p)
    (ht : ∀ rq v, v.rung = [] → (t rq v).rung = [])
    (hl : ∀ rq v, ok rq v → v.logRefuses = true → c.logsLater = false ∧ (t rq v).log.next = v.log.next) :
    Answers i c size ok t P := by
  intro m rq s h hok
  obtain ⟨p, hp, hP⟩ := hb _ _ hok
  have hv := served_eq (s.clock m) c rq h.2.2.2.1 h.2.2.1
  refine ⟨p, ?_, hP⟩
  rw [hi, serve_done s c (size rq) body m rq _ p h hp (ht _ _ (by rw [hv]))]
  intro hlr
  have := hl rq ((s.clock m).served c rq) hok (by rw [hv]; exact hlr)
  rw [this.2]
  exact ⟨this.1, by rw [hv]⟩

/-- A command that only reports. -/
theorem reads_of {i : Moment → Request → Instr} {c : Cmd} {size : Request → Nat}
    {body : Request → State → Verdict} {ok : Request → State → Prop} {P : Request → State → List Byte → Prop}
    (hi : ∀ m rq s, exec (i m rq) s = .next (serve c (size rq) body m rq s)) (hc : c.logsLater = false)
    (hb : ∀ rq v, ok rq v → ∃ p, body rq v = .done v p ∧ P rq v p) : Reads i c size ok P :=
  answers_of hi hb (fun _ _ h => h) (fun _ _ _ _ => ⟨hc, rfl⟩)

/-- A command whose response carries no payload. -/
theorem acts_of {i : Moment → Request → Instr} {c : Cmd} {size : Request → Nat}
    {body : Request → State → Verdict} {ok : Request → State → Prop} {t : Request → State → State}
    (hi : ∀ m rq s, exec (i m rq) s = .next (serve c (size rq) body m rq s))
    (hb : ∀ rq v, ok rq v → body rq v = .done (t rq v) [])
    (ht : ∀ rq v, v.rung = [] → (t rq v).rung = [])
    (hl : ∀ rq v, ok rq v → v.logRefuses = true → c.logsLater = false ∧ (t rq v).log.next = v.log.next) :
    Acts i c size ok t := answers_of hi (fun rq v h => ⟨[], hb rq v h, rfl⟩) ht hl

/-- A command completes later where its body says so. -/
theorem accepts_of {i : Moment → Request → Instr} {c : Cmd} {size : Request → Nat}
    {body : Request → State → Verdict} {ok : Request → State → Prop} {t : Request → State → State}
    (hi : ∀ m rq s, exec (i m rq) s = .next (serve c (size rq) body m rq s))
    (hb : ∀ rq v, ok rq v → body rq v = .accept (t rq v))
    (ht : ∀ rq v, v.rung = [] → (t rq v).rung = [])
    (hl : ∀ rq v, ok rq v → v.logRefuses = true → c.logsLater = false ∧ (t rq v).log.next = v.log.next) :
    Accepts i c size ok t := by
  intro m rq s h hp hok
  have hv := served_eq (s.clock m) c rq h.2.2.2.1 h.2.2.1
  rw [hi, serve_accept s c (size rq) body m rq _ h (hb _ _ hok) (ht _ _ (by rw [hv])) hp]
  intro hlr
  have := hl rq ((s.clock m).served c rq) hok (by rw [hv]; exact hlr)
  rw [this.2]
  exact ⟨this.1, by rw [hv]⟩

/-- A command stages its change where its body does. -/
theorem stages_of {i : Moment → Request → Instr} {c : Cmd} {size : Request → Nat}
    {body : Request → State → Verdict} {ok : Request → State → Prop} {ch : Request → State → Change}
    (hi : ∀ m rq s, exec (i m rq) s = .next (serve c (size rq) body m rq s))
    (hb : ∀ rq v, ok rq v → body rq v = .stage (ch rq v)) : StagesAs i c size ok ch := by
  intro m rq s h hok hs
  rw [hi, serve_stage s c (size rq) body m rq _ h hs (hb _ _ hok)]

/-- A command is refused where its body refuses it. -/
theorem denies_of {i : Moment → Request → Instr} {c : Cmd} {size : Request → Nat}
    {body : Request → State → Verdict} {ok : Request → State → Prop} {r : Reason} {cls : Byte} {obj : Request → Nat}
    (hi : ∀ m rq s, exec (i m rq) s = .next (serve c (size rq) body m rq s))
    (hb : ∀ rq v, ok rq v → body rq v = .refuse r cls (obj rq) []) : Denies i c size ok r cls obj := by
  intro m rq s h hok
  rw [hi, serve_refuse s c (size rq) body m rq r cls _ _ h (hb _ _ hok)]

/-- A command is refused, and names the holder, where its body refuses it. -/
theorem deniesWith_of {i : Moment → Request → Instr} {c : Cmd} {size : Request → Nat}
    {body : Request → State → Verdict} {ok : Request → State → Prop} {r : Reason} {cls : Byte} {obj : Request → Nat}
    {payload : Request → State → List Byte}
    (hi : ∀ m rq s, exec (i m rq) s = .next (serve c (size rq) body m rq s))
    (hb : ∀ rq v, ok rq v → body rq v = .refuse r cls (obj rq) (payload rq v)) :
    DeniesWith i c size ok r cls obj payload := by
  intro m rq s h hok
  rw [hi, serve_refuse s c (size rq) body m rq r cls _ _ h (hb _ _ hok)]

/-- A command submits its changes where its body does, if no doorbell waits after the commit. -/
theorem submits_of {i : Moment → Request → Instr} {c : Cmd} {size : Request → Nat}
    {body : Request → State → Verdict} {ok : Request → State → Prop} {kind : Request → CommitKind}
    {cs : Request → State → List Change}
    (hi : ∀ m rq s, exec (i m rq) s = .next (serve c (size rq) body m rq s))
    (hb : ∀ rq v, ok rq v → body rq v = .submit (kind rq) (cs rq v))
    (ht : ∀ n o k w l (v : State), v.rung = [] → (v.submitCommit n o k w l).rung = []) :
    Submits i c size ok kind cs := by
  intro m rq s h hok
  have hv := served_eq (s.clock m) c rq h.2.2.2.1 h.2.2.1
  rw [hi, serve_eq s c (size rq) body m rq h, hb _ _ hok]
  simp only [State.conclude]
  rw [serveUndefined_none _ _ (ht _ _ _ _ _ _ (by rw [hv]))]

/-- A command of the table that is no mailbox command: its meaning is a function of the state at its moment. -/
theorem happens_of {i : Moment → Instr} {ok : State → Prop} {t f : State → State}
    (hi : ∀ m s, exec (i m) s = .next (f (s.clock m))) (hf : ∀ v, ok v → f v = t v) : Happens i ok t := by
  intro m s h
  rw [hi, hf _ h]

end Sys2Proof.Laws
end

