-- ==== Sys2Proof/Laws/Framer.lean ====
section
/-!
SUPPORT. What leaves the framers of the ports up to a moment changes the ports and the record of what left the
block alone; the moment of a row changes the clocks besides.
-/

namespace Sys2Proof.Laws

open Sys2Proof Sys2Proof.Machine

variable (s : State)

/-- From `s` to `t` the ports and what left the block alone have changed. -/
def Framed (s t : State) : Prop := t = { s with ports := t.ports, out := t.out }

theorem framed_trans {s t u : State} (h : Framed s t) (k : Framed t u) : Framed s u := by
  unfold Framed at *
  rw [h] at k
  exact k

/-- A frame leaves its port, or is dropped. -/
theorem framed_leaveFrame (p t : Nat) (f : TxFrame) : Framed s (s.leaveFrame p t f) := by
  unfold State.leaveFrame
  dsimp only
  split <;> rfl

/-- Frames leave a port. -/
theorem framed_pumpFrames (p n : Nat) : Framed s (s.pumpFrames p n) := by
  induction n generalizing s with
  | zero => rfl
  | succ n ih =>
    unfold State.pumpFrames
    dsimp only
    (repeat' split) <;> first | exact framed_trans (framed_leaveFrame s _ _ _) (ih _) | rfl

/-- A strobe leaves its port. -/
theorem framed_leaveStrobe (p t : Nat) (x : TxStrobe) : Framed s (s.leaveStrobe p t x) := rfl

/-- Strobes leave a port. -/
theorem framed_pumpStrobes (p n : Nat) : Framed s (s.pumpStrobes p n) := by
  induction n generalizing s with
  | zero => rfl
  | succ n ih =>
    unfold State.pumpStrobes
    dsimp only
    (repeat' split) <;> first | exact framed_trans (framed_leaveStrobe s _ _ _) (ih _) | rfl

theorem framed_foldl (l : List Nat) : Framed s (l.foldl State.pumpPort s) := by
  induction l generalizing s with
  | nil => rfl
  | cons p l ih =>
    refine framed_trans ?_ (ih _)
    exact framed_trans (framed_pumpFrames s p _) (framed_pumpStrobes _ p _)

/-- What was due to leave by now has left. -/
theorem transmit_eq : s.transmit = { s with ports := s.transmit.ports, out := s.transmit.out } := framed_foldl s _

/-- `clock` changes the two counters, the time of the last activity, the ports and the record of what left the
block alone. -/
theorem clock_eq (m : Moment) : s.clock m = { s.setClock m with ports := (s.clock m).ports, out := (s.clock m).out } :=
  transmit_eq (s.setClock m)

/-- The fields that `clock` leaves as they were. -/
@[simp] theorem clock_frame (m : Moment) :
    (s.clock m).sys = s.sys ∧ (s.clock m).pwr = s.pwr ∧ (s.clock m).host = s.host ∧ (s.clock m).ring = s.ring ∧
    (s.clock m).ints = s.ints ∧ (s.clock m).holdoffs = s.holdoffs ∧ (s.clock m).dps = s.dps ∧
    (s.clock m).mboxes = s.mboxes ∧ (s.clock m).rung = s.rung ∧ (s.clock m).classRun = s.classRun ∧
    (s.clock m).lastRound = s.lastRound ∧ (s.clock m).sets = s.sets ∧ (s.clock m).checks = s.checks ∧
    (s.clock m).held = s.held ∧ (s.clock m).base = s.base ∧ (s.clock m).commits = s.commits ∧
    (s.clock m).commitId = s.commitId ∧ (s.clock m).coverage = s.coverage ∧
    (s.clock m).coverRuns = s.coverRuns ∧ (s.clock m).axes = s.axes ∧ (s.clock m).wakeAt = s.wakeAt ∧
    (s.clock m).echoes = s.echoes ∧ (s.clock m).trigs = s.trigs ∧ (s.clock m).evals = s.evals ∧
    (s.clock m).trigouts = s.trigouts ∧ (s.clock m).chans = s.chans ∧ (s.clock m).amps = s.amps ∧
    (s.clock m).fires = s.fires ∧ (s.clock m).raster = s.raster ∧ (s.clock m).planes = s.planes ∧
    (s.clock m).plait = s.plait ∧ (s.clock m).banks = s.banks ∧ (s.clock m).catchUps = s.catchUps ∧
    (s.clock m).health = s.health ∧ (s.clock m).pair = s.pair ∧ (s.clock m).mem = s.mem ∧
    (s.clock m).dma = s.dma ∧ (s.clock m).therm = s.therm ∧ (s.clock m).cal = s.cal ∧
    (s.clock m).flash = s.flash ∧ (s.clock m).otp = s.otp ∧ (s.clock m).bist = s.bist ∧
    (s.clock m).log = s.log ∧ (s.clock m).fresh = s.fresh ∧ (s.clock m).pending = s.pending := by
  rw [clock_eq]
  simp

/-- A state in whose framers nothing waits sends nothing. -/
theorem transmit_idle (h : ∀ p ∈ s.ports.map (·.1), (s.port p).waiting = [] ∧ (s.port p).strobes = []) :
    s.transmit = s := by
  unfold State.transmit
  have key : ∀ l : List Nat, (∀ p ∈ l, (s.port p).waiting = [] ∧ (s.port p).strobes = []) →
      l.foldl State.pumpPort s = s := by
    intro l
    induction l with
    | nil => intro _; rfl
    | cons p l ih =>
      intro hl
      have hp := hl p (by simp)
      have : s.pumpPort p = s := by simp [State.pumpPort, State.pumpFrames, State.pumpStrobes, hp]
      rw [List.foldl_cons, this]
      exact ih (fun q hq => hl q (by simp [hq]))
  exact key _ h

end Sys2Proof.Laws
end

