-- ==== Sys2Proof/Laws/Memory.lean ====
section
/-!
SUPPORT. Memory: a byte stored reads back and no other byte changes, and every operation keeps the
canonical form.
-/

namespace Sys2Proof.Laws

open Sys2Proof Sys2Proof.Machine

/-! ## Reading after writing -/

/-- A listed address at or above `lo` keeps an address below it unlisted. -/
theorem memRead_above : ∀ (m : Memory) (lo a : Nat), memAbove lo m = true → a < lo → memRead m a = 0
  | [], _, _, _, _ => rfl
  | (i, v) :: t, lo, a, h, ha => by
    simp only [memAbove, Bool.and_eq_true, decide_eq_true_eq] at h
    have hne : i ≠ a := by omega
    simp only [memRead, if_neg hne]
    exact memRead_above t (i + 1) a h.2 (by omega)

/-- A byte stored reads back. -/
theorem memRead_memWrite_same : ∀ (m : Memory) (lo a : Nat) (v : Byte), memAbove lo m = true →
    memRead (memWrite m a v) a = v
  | [], _, a, v, _ => by
    simp only [memWrite]
    split
    · rename_i h; simp [memRead, h]
    · simp [memRead]
  | (i, w) :: t, lo, a, v, h => by
    simp only [memAbove, Bool.and_eq_true, decide_eq_true_eq] at h
    simp only [memWrite]
    split
    · rename_i h1
      split
      · rename_i h2
        simp only [memRead, if_neg (show i ≠ a by omega)]
        rw [memRead_above t (i + 1) a h.2 (by omega), h2]
      · simp [memRead]
    · split
      · rename_i h1 h2
        subst h2
        split
        · rename_i h3
          rw [memRead_above t (a + 1) a h.2 (by omega), h3]
        · simp [memRead]
      · rename_i h1 h2
        simp only [memRead, if_neg (show i ≠ a by omega)]
        exact memRead_memWrite_same t (i + 1) a v h.2

/-- No other byte changes. -/
theorem memRead_memWrite_other : ∀ (m : Memory) (a b : Nat) (v : Byte), a ≠ b →
    memRead (memWrite m a v) b = memRead m b
  | [], a, b, v, hab => by
    simp only [memWrite]
    split
    · rfl
    · simp [memRead, hab]
  | (i, w) :: t, a, b, v, hab => by
    simp only [memWrite]
    split
    · split
      · rfl
      · simp [memRead, hab]
    · split
      · rename_i h2
        subst h2
        split <;> simp [memRead, hab]
      · simp [memRead, memRead_memWrite_other t a b v hab]

/-! ## The canonical form -/

/-- A bound below the lowest address may be lowered. -/
theorem memAbove_mono : ∀ (m : Memory) (lo lo' : Nat), lo' ≤ lo → memAbove lo m = true → memAbove lo' m = true
  | [], _, _, _, _ => rfl
  | (i, v) :: t, lo, lo', hle, h => by
    simp only [memAbove, Bool.and_eq_true, decide_eq_true_eq] at h ⊢
    exact ⟨⟨by omega, h.1.2⟩, h.2⟩

/-- Storing a byte at or above the bound keeps the form. -/
theorem memAbove_memWrite : ∀ (m : Memory) (lo a : Nat) (v : Byte), lo ≤ a → memAbove lo m = true →
    memAbove lo (memWrite m a v) = true
  | [], lo, a, v, ha, _ => by
    simp only [memWrite]
    split
    · rfl
    · rename_i h
      simp only [memAbove, Bool.and_eq_true, decide_eq_true_eq, bne_iff_ne]
      exact ⟨⟨ha, h⟩, trivial⟩
  | (i, w) :: t, lo, a, v, ha, h => by
    have h0 := h
    simp only [memAbove, Bool.and_eq_true, decide_eq_true_eq] at h
    simp only [memWrite]
    split
    · rename_i h1
      split
      · exact h0
      · rename_i h2
        simp only [memAbove, Bool.and_eq_true, decide_eq_true_eq]
        exact ⟨⟨ha, by simpa using h2⟩, ⟨by omega, h.1.2⟩, h.2⟩
    · split
      · rename_i h1 h2
        subst h2
        split
        · exact memAbove_mono t (a + 1) lo (by omega) h.2
        · rename_i h3
          simp only [memAbove, Bool.and_eq_true, decide_eq_true_eq]
          exact ⟨⟨ha, by simpa using h3⟩, h.2⟩
      · rename_i h1 h2
        simp only [memAbove, Bool.and_eq_true, decide_eq_true_eq]
        exact ⟨h.1, memAbove_memWrite t (i + 1) a v (by omega) h.2⟩

/-- Storing a byte keeps the canonical form. -/
theorem memWrite_wf {m : Memory} (a : Nat) (v : Byte) (h : Memory.wf m = true) : Memory.wf (memWrite m a v) = true :=
  memAbove_memWrite m 0 a v (Nat.zero_le _) h

/-- Storing bytes keeps the canonical form. -/
theorem memWriteN_wf : ∀ (bs : List Byte) {m : Memory} (a : Nat), Memory.wf m = true → Memory.wf (memWriteN m a bs) = true
  | [], _, _, h => h
  | b :: bs, _, a, h => memWriteN_wf bs (a + 1) (memWrite_wf a b h)

/-- Unlisting cells keeps the canonical form. -/
theorem memAbove_filter : ∀ (m : Memory) (lo : Nat) (p : Host.Cell → Bool), memAbove lo m = true →
    memAbove lo (List.filter p m) = true
  | [], _, _, _ => rfl
  | (i, v) :: t, lo, p, h => by
    simp only [memAbove, Bool.and_eq_true, decide_eq_true_eq] at h
    have ht := memAbove_filter t (i + 1) p h.2
    simp only [List.filter]
    split
    · simp only [memAbove, Bool.and_eq_true, decide_eq_true_eq]
      exact ⟨h.1, ht⟩
    · exact memAbove_mono _ (i + 1) lo (by omega) ht

/-- Clearing a range keeps the canonical form. -/
theorem memFilter_wf {m : Memory} (p : Host.Cell → Bool) (h : Memory.wf m = true) : Memory.wf (List.filter p m) = true :=
  memAbove_filter m 0 p h

/-- Programming the boot flash keeps the canonical form. -/
theorem flashProgram_wf : ∀ (bs : List Byte) {m : Memory} (a : Nat), Memory.wf m = true →
    Memory.wf (flashProgram m a bs) = true
  | [], _, _, h => h
  | _ :: bs, _, a, h => flashProgram_wf bs (a + 1) (memWrite_wf a _ h)

/-- An image chunk keeps the canonical form. -/
theorem flashImage_wf {m : Memory} (a : Nat) (bs : List Byte) (h : Memory.wf m = true) :
    Memory.wf (flashImage m a bs) = true := by
  unfold flashImage
  split
  · exact flashProgram_wf bs a (memFilter_wf _ h)
  · exact flashProgram_wf bs a h

/-- Writes to HBM keep its canonical form. -/
theorem hbmWrite_wf (s : State) (a : Nat) (bs : List Byte) (h : Memory.wf s.mem.hbm = true) :
    Memory.wf (s.hbmWrite a bs).mem.hbm = true := memWriteN_wf bs a h

/-- Writes to on-chip memory keep its canonical form. -/
theorem onchipWrite_wf (s : State) (a : Nat) (bs : List Byte) (h : Memory.wf s.mem.onchip = true) :
    Memory.wf (s.onchipWrite a bs).mem.onchip = true := memWriteN_wf bs a h

/-! ## Many bytes -/

/-- Bytes stored below or above an address leave it as it was. -/
theorem memRead_memWriteN_other : ∀ (bs : List Byte) (m : Memory) (a b : Nat), b < a ∨ a + bs.length ≤ b →
    memRead (memWriteN m a bs) b = memRead m b
  | [], _, _, _, _ => rfl
  | v :: bs, m, a, b, h => by
    simp only [List.length_cons] at h
    simp only [memWriteN]
    rw [memRead_memWriteN_other bs (memWrite m a v) (a + 1) b (by omega), memRead_memWrite_other m a b v (by omega)]

/-- Bytes stored read back. -/
theorem memReadN_memWriteN : ∀ (bs : List Byte) (m : Memory) (a : Nat), Memory.wf m = true →
    memReadN (memWriteN m a bs) a bs.length = bs
  | [], _, _, _ => rfl
  | v :: bs, m, a, h => by
    simp only [List.length_cons, memReadN, memWriteN]
    have hw := memWrite_wf a v h
    rw [memReadN_memWriteN bs (memWrite m a v) (a + 1) hw,
      memRead_memWriteN_other bs (memWrite m a v) (a + 1) a (by omega), memRead_memWrite_same m 0 a v h]

/-- Programming the boot flash below or above an address leaves it as it was. -/
theorem memRead_flashProgram_other : ∀ (bs : List Byte) (m : Memory) (a b : Nat), b < a ∨ a + bs.length ≤ b →
    memRead (flashProgram m a bs) b = memRead m b
  | [], _, _, _, _ => rfl
  | v :: bs, m, a, b, h => by
    simp only [List.length_cons] at h
    simp only [flashProgram]
    rw [memRead_flashProgram_other bs _ (a + 1) b (by omega), memRead_memWrite_other m a b _ (by omega)]

/-- Bytes programmed where the boot flash is erased read back (the flash lists complements). -/
theorem flashProgram_readBack : ∀ (bs : List Byte) (m : Memory) (a : Nat), Memory.wf m = true →
    (∀ b, a ≤ b → b < a + bs.length → memRead m b = 0) → memReadN (flashProgram m a bs) a bs.length = bs.map (~~~ ·)
  | [], _, _, _, _ => rfl
  | v :: bs, m, a, h, e => by
    simp only [List.length_cons] at e
    simp only [List.length_cons, memReadN, flashProgram, List.map_cons]
    have hw := memWrite_wf a (memRead m a ||| ~~~v) h
    rw [flashProgram_readBack bs _ (a + 1) hw (fun b h1 h2 => by
        rw [memRead_memWrite_other m a b _ (by omega)]; exact e b (by omega) (by omega)),
      memRead_flashProgram_other bs _ (a + 1) a (by omega), memRead_memWrite_same m 0 a _ h, e a (by omega) (by omega)]
    simp

/-- A read of several bytes, byte by byte. -/
theorem memReadN_eq_map : ∀ (n : Nat) (m : Memory) (a : Nat), memReadN m a n = (List.range n).map (fun i => memRead m (a + i))
  | 0, _, _ => rfl
  | n + 1, m, a => by
    simp only [memReadN, List.range_succ_eq_map, List.map_cons, List.map_map, Nat.add_zero]
    rw [memReadN_eq_map n m (a + 1)]
    congr 1
    refine List.map_congr_left (fun i _ => ?_)
    simp only [Function.comp_apply]
    congr 1
    omega

/-- A record programmed into an erased boot flash reads back. -/
theorem flashRead_programmed (s : State) (a : Nat) (bs : List Byte) (h : s.flash.bytes = flashProgram [] a bs) :
    s.flashRead a bs.length = bs := by
  have r := flashProgram_readBack bs [] a rfl (fun _ _ _ => rfl)
  rw [memReadN_eq_map] at r
  have r' := congrArg (List.map (~~~ ·)) r
  simp only [List.map_map, Function.comp_def, BitVec.not_not, List.map_id'] at r'
  unfold State.flashRead State.flashByte
  rw [h]
  exact r'

end Sys2Proof.Laws
end

