-- ==== Sys2Proof/Laws/KeepsBase.lean ====
section
/-!
SUPPORT. What is left alone, operation by operation: the queue of commands, the doorbells where no doorbell is
taken, and the memories or their canonical form.  Here the shared operations, and the units of the print path.
-/

namespace Sys2Proof.Laws

open Sys2Proof Sys2Proof.Machine

set_option linter.all false

/-- From `s` to `t` the queue of commands, the doorbells and the memories stay as they are. -/
@[simp] abbrev Kept (s t : State) : Prop :=
  t.pending = s.pending ∧ t.rung = s.rung ∧ t.mem.hbm = s.mem.hbm ∧ t.mem.onchip = s.mem.onchip ∧
    t.flash.bytes = s.flash.bytes

/-- As `Kept`, but that HBM may change, in its canonical form. -/
@[simp] abbrev KeptHbm (s t : State) : Prop :=
  t.pending = s.pending ∧ t.rung = s.rung ∧ (s.mem.hbm.wf = true → t.mem.hbm.wf = true) ∧
    t.mem.onchip = s.mem.onchip ∧ t.flash.bytes = s.flash.bytes

/-- As `Kept`, but that HBM and the on-chip memories may change, in their canonical form. -/
@[simp] abbrev KeptRam (s t : State) : Prop :=
  t.pending = s.pending ∧ t.rung = s.rung ∧ (s.mem.hbm.wf = true → t.mem.hbm.wf = true) ∧
    (s.mem.onchip.wf = true → t.mem.onchip.wf = true) ∧ t.flash.bytes = s.flash.bytes

/-- As `Kept`, but that the boot flash may change, in its canonical form. -/
@[simp] abbrev KeptFlash (s t : State) : Prop :=
  t.pending = s.pending ∧ t.rung = s.rung ∧ t.mem.hbm = s.mem.hbm ∧ t.mem.onchip = s.mem.onchip ∧
    (s.flash.bytes.wf = true → t.flash.bytes.wf = true)

/-- No doorbell is left where none was, and the memories may change, in their canonical form. -/
@[simp] abbrev KeptRest (s t : State) : Prop :=
  t.pending = s.pending ∧ (s.rung = [] → t.rung = []) ∧ (s.mem.hbm.wf = true → t.mem.hbm.wf = true) ∧
    (s.mem.onchip.wf = true → t.mem.onchip.wf = true) ∧ (s.flash.bytes.wf = true → t.flash.bytes.wf = true)

/-! ## Ops -/

@[simp] theorem foldl_pending {α : Type} (f : State → α → State) (h : ∀ s a, (f s a).pending = s.pending) (l : List α) (s : State) :
    (l.foldl f s).pending = s.pending := by
  induction l generalizing s with
  | nil => rfl
  | cons a l ih => rw [List.foldl_cons, ih, h]

@[simp] theorem ite_pending (c : Prop) [Decidable c] (a b : State) : (if c then a else b).pending = if c then a.pending else b.pending := by
  split <;> rfl

@[simp] theorem foldl_rung {α : Type} (f : State → α → State) (h : ∀ s a, (f s a).rung = s.rung) (l : List α) (s : State) :
    (l.foldl f s).rung = s.rung := by
  induction l generalizing s with
  | nil => rfl
  | cons a l ih => rw [List.foldl_cons, ih, h]

@[simp] theorem ite_rung (c : Prop) [Decidable c] (a b : State) : (if c then a else b).rung = if c then a.rung else b.rung := by
  split <;> rfl

@[simp] theorem foldl_hbm {α : Type} (f : State → α → State) (h : ∀ s a, (f s a).mem.hbm = s.mem.hbm) (l : List α) (s : State) :
    (l.foldl f s).mem.hbm = s.mem.hbm := by
  induction l generalizing s with
  | nil => rfl
  | cons a l ih => rw [List.foldl_cons, ih, h]

@[simp] theorem ite_hbm (c : Prop) [Decidable c] (a b : State) : (if c then a else b).mem.hbm = if c then a.mem.hbm else b.mem.hbm := by
  split <;> rfl

@[simp] theorem foldl_onchip {α : Type} (f : State → α → State) (h : ∀ s a, (f s a).mem.onchip = s.mem.onchip) (l : List α) (s : State) :
    (l.foldl f s).mem.onchip = s.mem.onchip := by
  induction l generalizing s with
  | nil => rfl
  | cons a l ih => rw [List.foldl_cons, ih, h]

@[simp] theorem ite_onchip (c : Prop) [Decidable c] (a b : State) : (if c then a else b).mem.onchip = if c then a.mem.onchip else b.mem.onchip := by
  split <;> rfl

@[simp] theorem foldl_flashBytes {α : Type} (f : State → α → State) (h : ∀ s a, (f s a).flash.bytes = s.flash.bytes) (l : List α) (s : State) :
    (l.foldl f s).flash.bytes = s.flash.bytes := by
  induction l generalizing s with
  | nil => rfl
  | cons a l ih => rw [List.foldl_cons, ih, h]

@[simp] theorem ite_flashBytes (c : Prop) [Decidable c] (a b : State) : (if c then a else b).flash.bytes = if c then a.flash.bytes else b.flash.bytes := by
  split <;> rfl

@[simp] theorem foldl_rung_nil {α : Type} (f : State → α → State) (h : ∀ s a, s.rung = [] → (f s a).rung = []) (l : List α) (s : State)
    (hs : s.rung = []) : (l.foldl f s).rung = [] := by
  induction l generalizing s with
  | nil => exact hs
  | cons a l ih => exact ih _ (h _ _ hs)

@[simp] theorem foldl_hbm_wf {α : Type} (f : State → α → State) (h : ∀ s a, s.mem.hbm.wf = true → (f s a).mem.hbm.wf = true) (l : List α) (s : State)
    (hs : s.mem.hbm.wf = true) : (l.foldl f s).mem.hbm.wf = true := by
  induction l generalizing s with
  | nil => exact hs
  | cons a l ih => exact ih _ (h _ _ hs)

@[simp] theorem foldl_onchip_wf {α : Type} (f : State → α → State) (h : ∀ s a, s.mem.onchip.wf = true → (f s a).mem.onchip.wf = true) (l : List α) (s : State)
    (hs : s.mem.onchip.wf = true) : (l.foldl f s).mem.onchip.wf = true := by
  induction l generalizing s with
  | nil => exact hs
  | cons a l ih => exact ih _ (h _ _ hs)

@[simp] theorem foldl_flashBytes_wf {α : Type} (f : State → α → State) (h : ∀ s a, s.flash.bytes.wf = true → (f s a).flash.bytes.wf = true) (l : List α) (s : State)
    (hs : s.flash.bytes.wf = true) : (l.foldl f s).flash.bytes.wf = true := by
  induction l generalizing s with
  | nil => exact hs
  | cons a l ih => exact ih _ (h _ _ hs)

@[simp] theorem foldlp_pending {α β : Type} (f : State × β → α → State × β) (h : ∀ x a, (f x a).1.pending = x.1.pending) (l : List α) (x : State × β) :
    (l.foldl f x).1.pending = x.1.pending := by
  induction l generalizing x with
  | nil => rfl
  | cons a l ih => rw [List.foldl_cons, ih, h]

@[simp] theorem foldlp_rung {α β : Type} (f : State × β → α → State × β) (h : ∀ x a, (f x a).1.rung = x.1.rung) (l : List α) (x : State × β) :
    (l.foldl f x).1.rung = x.1.rung := by
  induction l generalizing x with
  | nil => rfl
  | cons a l ih => rw [List.foldl_cons, ih, h]

@[simp] theorem foldlp_hbm {α β : Type} (f : State × β → α → State × β) (h : ∀ x a, (f x a).1.mem.hbm = x.1.mem.hbm) (l : List α) (x : State × β) :
    (l.foldl f x).1.mem.hbm = x.1.mem.hbm := by
  induction l generalizing x with
  | nil => rfl
  | cons a l ih => rw [List.foldl_cons, ih, h]

@[simp] theorem foldlp_onchip {α β : Type} (f : State × β → α → State × β) (h : ∀ x a, (f x a).1.mem.onchip = x.1.mem.onchip) (l : List α) (x : State × β) :
    (l.foldl f x).1.mem.onchip = x.1.mem.onchip := by
  induction l generalizing x with
  | nil => rfl
  | cons a l ih => rw [List.foldl_cons, ih, h]

@[simp] theorem foldlp_flashBytes {α β : Type} (f : State × β → α → State × β) (h : ∀ x a, (f x a).1.flash.bytes = x.1.flash.bytes) (l : List α) (x : State × β) :
    (l.foldl f x).1.flash.bytes = x.1.flash.bytes := by
  induction l generalizing x with
  | nil => rfl
  | cons a l ih => rw [List.foldl_cons, ih, h]

@[simp] theorem ite_wf (c : Prop) [Decidable c] (a b : Memory) : Memory.wf (if c then a else b) = if c then Memory.wf a else Memory.wf b := by
  split <;> rfl

@[simp] theorem keeps_setClock (m : Moment) (s : State) :
    Kept s (State.setClock m s) := by
  unfold State.setClock
  simp

@[simp] theorem keeps_loadTick (s : State) :
    Kept s (State.loadTick s) := by
  unfold State.loadTick
  generalize max (s.tick + 1) (s.aon * 390625 / 1000) = x
  exact ⟨rfl, rfl, rfl, rfl, rfl⟩

@[simp] theorem keeps_sendMsix (n : ℕ) (s : State) :
    Kept s (State.sendMsix n s) := by
  unfold State.sendMsix
  simp

@[simp] theorem keeps_raiseInt (n : ℕ) (s : State) :
    Kept s (State.raiseInt n s) := by
  unfold State.raiseInt
  simp

@[simp] theorem keeps_countEntry (s : State) :
    Kept s (State.countEntry s) := by
  unfold State.countEntry
  simp

@[simp] theorem keeps_writeEntry (e : EventEntry) (s : State) :
    Kept s (State.writeEntry e s) := by
  unfold State.writeEntry
  simp

@[simp] theorem keeps_reportLost (s : State) :
    Kept s (State.reportLost s) := by
  unfold State.reportLost
  simp

@[simp] theorem keeps_post (b : EventBody) (s : State) :
    Kept s (State.post b s) := by
  unfold State.post
  simp

@[simp] theorem keeps_postLimited (k : EventKey) (b : EventBody) (s : State) :
    Kept s (State.postLimited k b s) := by
  unfold State.postLimited
  split <;> simp

@[simp] theorem keeps_countRefusal (s : State) :
    Kept s (State.countRefusal s) := by
  unfold State.countRefusal
  simp

@[simp] theorem keeps_logPut (e : LogBody) (s : State) :
    Kept s (State.logPut e s) := by
  unfold State.logPut
  simp

@[simp] theorem keeps_logEntry (q : LogReq) (s : State) :
    Kept s (State.logEntry q s) := by
  unfold State.logEntry
  simp

@[simp] theorem keeps_logOpen (q : LogReq) (s : State) :
    Kept s (State.logOpen q s) := by
  unfold State.logOpen
  simp

@[simp] theorem keeps_postStateChange (old : SysState) (new : SysState) (fault : Reason) (s : State) :
    Kept s (State.postStateChange old new fault s) := by
  unfold State.postStateChange
  simp

@[simp] theorem keeps_respond (n : ℕ) (r : Response) (s : State) :
    Kept s (State.respond n r s) := by
  unfold State.respond
  simp

@[simp] theorem keeps_addPending (w : Waiter) (s : State) :
    Kept s (State.addPending w s) := by
  unfold State.addPending
  simp

@[simp] theorem keeps_finishDone (w : Waiter) (reason : Reason) (cls : Byte) (obj : ℕ) (s : State) :
    Kept s (State.finishDone w reason cls obj s) := by
  unfold State.finishDone
  simp

@[simp] theorem keeps_drainDone (k n : ℕ) (s : State) :
    Kept s (State.drainDone k n s) := by
  induction n generalizing s with
  | zero => simp [State.drainDone]
  | succ n ih =>
    unfold State.drainDone
    dsimp only
    (repeat' split) <;> simp [*]

@[simp] theorem keeps_commandDone (w : Waiter) (reason : Reason) (cls : Byte) (obj : ℕ) (s : State) :
    Kept s (State.commandDone w reason cls obj s) := by
  unfold State.commandDone
  simp

@[simp] theorem keeps_hbmWrite (a : ℕ) (bs : List Byte) (s : State) :
    KeptHbm s (State.hbmWrite a bs s) := by
  unfold State.hbmWrite
  (repeat' split) <;> simp +contextual [memWriteN_wf, flashImage_wf, memFilter_wf]

/-! ## Geom -/

@[simp] theorem keeps_coverageDone (s : State) :
    Kept s (coverageDone s) := by
  unfold coverageDone
  split <;> simp

/-! ## Axis -/

@[simp] theorem keeps_noteMotion (n : ℕ) (s : State) :
    Kept s (State.noteMotion n s) := by
  unfold State.noteMotion
  simp

@[simp] theorem keeps_postMotion (n : ℕ) (s : State) :
    Kept s (State.postMotion n s) := by
  unfold State.postMotion
  simp

@[simp] theorem keeps_faultAxis (n : ℕ) (reason : Reason) (count : ℕ) (s : State) :
    Kept s (State.faultAxis n reason count s) := by
  unfold State.faultAxis
  simp

@[simp] theorem keeps_echoCount (k : ℕ) (forward : Bool) (s : State) :
    Kept s (State.echoCount k forward s) := by
  unfold State.echoCount
  simp

@[simp] theorem keeps_echoEdges (axis : ℕ) (forward : Bool) (n : ℕ) (s : State) :
    Kept s (State.echoEdges axis forward n s) := by
  induction n generalizing s with
  | zero => refine ⟨?_, ?_, ?_, ?_, ?_⟩ <;> unfold State.echoEdges <;> (try intro h) <;> (try simp [*, memWriteN_wf, flashImage_wf, memFilter_wf])
  | succ k ih => refine ⟨?_, ?_, ?_, ?_, ?_⟩ <;> unfold State.echoEdges <;> (try dsimp only) <;> (repeat' split) <;> (try intro h) <;> (try simp [*, memWriteN_wf, flashImage_wf, memFilter_wf]) <;> (try simp +contextual [*, memWriteN_wf, flashImage_wf, memFilter_wf])

@[simp] theorem keeps_echoStep (k : ℕ) (s : State) :
    Kept s (echoStep k s) := by
  unfold echoStep
  simp

@[simp] theorem keeps_countEdge (n : ℕ) (delta : ℤ) (ts : ℕ) (s : State) :
    Kept s (State.countEdge n delta ts s) := by
  unfold State.countEdge
  simp

@[simp] theorem keeps_illegalEdge (n : ℕ) (s : State) :
    Kept s (State.illegalEdge n s) := by
  unfold State.illegalEdge
  simp

@[simp] theorem keeps_quadratureEdge (n : ℕ) (rawA : List Bool) (rawB : List Bool) (s : State) :
    Kept s (quadratureEdge n rawA rawB s).1 := by
  unfold quadratureEdge
  dsimp only
  (repeat' split) <;> simp

@[simp] theorem keeps_presetDone (n : ℕ) (v : Word) (reason : Reason) (o : Origin) (s : State) :
    Kept s (State.presetDone n v reason o s) := by
  unfold State.presetDone
  simp

@[simp] theorem keeps_indexEvent (n : ℕ) (rawZ : List Bool) (s : State) :
    Kept s (indexEvent n rawZ s) := by
  unfold indexEvent
  dsimp only
  (repeat' split) <;> simp

@[simp] theorem keeps_cancelPreset (n : ℕ) (o : Origin) (s : State) :
    Kept s (State.cancelPreset n o s) := by
  unfold State.cancelPreset
  dsimp only
  (repeat' split) <;> simp

@[simp] theorem keeps_speedWindowEnd (n : ℕ) (s : State) :
    Kept s (speedWindowEnd n s) := by
  unfold speedWindowEnd
  simp

@[simp] theorem keeps_restartAxis (s : State) (n : ℕ) :
    Kept s (State.restartAxis s n) := by
  unfold State.restartAxis
  simp

@[simp] theorem keeps_axesRestart (s : State) :
    Kept s (State.axesRestart s) := by
  unfold State.axesRestart
  simp

@[simp] theorem keeps_ssiLatch (n : ℕ) (s : State) :
    Kept s (State.ssiLatch n s) := by
  unfold State.ssiLatch
  simp

@[simp] theorem keeps_ssiFrameStart (n : ℕ) (dataHigh : Bool) (s : State) :
    Kept s (ssiFrameStart n dataHigh s) := by
  unfold ssiFrameStart
  simp

@[simp] theorem keeps_ssiDataHigh (n : ℕ) (s : State) :
    Kept s (ssiDataHigh n s) := by
  unfold ssiDataHigh
  dsimp only
  (repeat' split) <;> simp

@[simp] theorem keeps_ssiFail (n : ℕ) (kind : ℕ) (s : State) :
    Kept s (State.ssiFail n kind s) := by
  unfold State.ssiFail
  simp

@[simp] theorem keeps_ssiFrameEnd (n : ℕ) (bits : List Bool) (endLow : Bool) (s : State) :
    Kept s (ssiFrameEnd n bits endLow s).1 := by
  unfold ssiFrameEnd
  dsimp only
  (repeat' split) <;> simp

/-! ## Trig -/

@[simp] theorem keeps_countDrop (g : ℕ) (reason : Reason) (line : Word) (s : State) :
    Kept s (State.countDrop g reason line s) := by
  unfold State.countDrop
  simp

@[simp] theorem keeps_loadRun (g : ℕ) (n : ℕ) (s : State) :
    Kept s (State.loadRun g n s) := by
  unfold State.loadRun
  simp

@[simp] theorem keeps_loadFresh (g : ℕ) (s : State) :
    Kept s (State.loadFresh g s) := by
  unfold State.loadFresh
  simp

@[simp] theorem keeps_consume (g : ℕ) (s : State) :
    Kept s (State.consume g s) := by
  unfold State.consume
  simp

@[simp] theorem keeps_trigoutLevels (s : State) :
    Kept s (State.trigoutLevels s) := by
  unfold State.trigoutLevels
  simp

@[simp] theorem keeps_spitBurstDone (g : ℕ) (s : State) :
    Kept s (spitBurstDone g s) := by
  unfold spitBurstDone
  dsimp only
  (repeat' split) <;> simp

/-! ## Wave -/

@[simp] theorem keeps_noteWave (w : PrepWave) (tempKnown : Bool) (head : ℕ) (s : State) :
    Kept s (State.noteWave w tempKnown head s) := by
  unfold State.noteWave
  simp

@[simp] theorem keeps_noteFire (w : PrepWave) (line : Option Word) (s : State) :
    Kept s (State.noteFire w line s) := by
  unfold State.noteFire
  simp

@[simp] theorem keeps_setAmpEn (k : ℕ) (v : Bool) (cause : ℕ) (s : State) :
    Kept s (State.setAmpEn k v cause s) := by
  unfold State.setAmpEn
  simp

@[simp] theorem keeps_ampUpdate (cause : ℕ) (s : State) :
    Kept s (State.ampUpdate cause s) := by
  unfold State.ampUpdate
  simp

/-! ## Plane -/

@[simp] theorem keeps_dropWork (f : Work → Bool) (s : State) :
    Kept s (State.dropWork f s) := by
  unfold State.dropWork
  simp

@[simp] theorem keeps_consumedCheck (b : ℕ) (o : ℤ) (s : State) :
    Kept s (State.consumedCheck b o s) := by
  unfold State.consumedCheck
  simp

@[simp] theorem keeps_primeCheck (b : ℕ) (s : State) :
    Kept s (State.primeCheck b s) := by
  unfold State.primeCheck
  split <;> simp

@[simp] theorem keeps_moveWindow (b : ℕ) (s : State) :
    Kept s (State.moveWindow b s) := by
  unfold State.moveWindow
  dsimp only
  (repeat' split) <;> simp

@[simp] theorem keeps_areaWrite (a : ℕ) (bs : List Byte) (s : State) :
    KeptHbm s (State.areaWrite a bs s) := by
  unfold State.areaWrite
  (repeat' split) <;> simp +contextual

@[simp] theorem keeps_retryPlane (n : ℕ) (s : State) :
    Kept s (State.retryPlane n s) := by
  unfold State.retryPlane
  simp

/-! ## Plait -/

@[simp] theorem keeps_countDecoded (d : Decoded) (s : State) :
    Kept s (State.countDecoded d s) := by
  unfold State.countDecoded
  simp

@[simp] theorem keeps_failSession (k : ℕ) (reason : Reason) (s : State) :
    Kept s (State.failSession k reason s) := by
  unfold State.failSession
  simp

@[simp] theorem keeps_showOut (k : ℕ) (s : State) :
    Kept s (State.showOut k s) := by
  unfold State.showOut
  split <;> simp

@[simp] theorem keeps_emitBlock (k : ℕ) (r : PlaneRec) (lines : List (List Byte)) (s : State) (t : ℕ) :
    KeptHbm s (State.emitBlock k r lines s t) := by
  unfold State.emitBlock
  dsimp only
  (repeat' split) <;> simp +contextual

@[simp] theorem keeps_dropRaw (k : ℕ) (n : ℕ) (s : State) :
    Kept s (State.dropRaw k n s) := by
  unfold State.dropRaw
  split <;> simp

@[simp] theorem keeps_sessionBlockEmit (k : ℕ) (s : State) :
    KeptHbm s (sessionBlockEmit k s) := by
  unfold sessionBlockEmit
  dsimp only
  (repeat' split) <;> simp +contextual

@[simp] theorem keeps_feedSession (k : ℕ) (bs : List Byte) (s : State) :
    Kept s (State.feedSession k bs s) := by
  unfold State.feedSession
  simp

@[simp] theorem keeps_endSession (k : ℕ) (s : State) :
    Kept s (State.endSession k s) := by
  unfold State.endSession
  simp

@[simp] theorem keeps_verifyBlock (r : PlaneRec) (x : State × VerifyRes) (block : Nat) :
    Kept x.1 (verifyBlock r x block).1 := by
  unfold verifyBlock
  dsimp only
  (repeat' split) <;> simp

@[simp] theorem keeps_setVerified (w : Waiter) (v : Option VerifyRes) (s : State) :
    Kept s (State.setVerified w v s) := by
  unfold State.setVerified
  simp

@[simp] theorem keeps_verifyNext (s : State) :
    Kept s (State.verifyNext s) := by
  unfold State.verifyNext
  dsimp only
  (repeat' split) <;> simp

@[simp] theorem keeps_verifyDone (s : State) :
    Kept s (verifyDone s) := by
  unfold verifyDone
  dsimp only
  (repeat' split) <;> simp

@[simp] theorem keeps_decodeDone (s : State) :
    KeptHbm s (decodeDone s) := by
  unfold decodeDone
  dsimp only
  (repeat' split) <;> simp +contextual

/-! ## Cane -/

@[simp] theorem keeps_emitRims (s : State) :
    Kept s (State.emitRims s) := by
  unfold State.emitRims
  simp

@[simp] theorem keeps_leaveFrame (p t : ℕ) (f : TxFrame) (s : State) :
    Kept s (State.leaveFrame p t f s) := by
  unfold State.leaveFrame
  simp

@[simp] theorem keeps_pumpFrames (p n : ℕ) (s : State) :
    Kept s (State.pumpFrames p n s) := by
  induction n generalizing s with
  | zero => simp [State.pumpFrames]
  | succ n ih =>
    unfold State.pumpFrames
    dsimp only
    (repeat' split) <;> simp [*]

@[simp] theorem keeps_sendAs (rank p : ℕ) (f : FrameBody) (s : State) :
    Kept s (State.sendAs rank p f s) := by
  unfold State.sendAs
  simp

@[simp] theorem keeps_sendFrame (p : ℕ) (f : FrameBody) (s : State) :
    Kept s (State.sendFrame p f s) := by
  unfold State.sendFrame
  simp

@[simp] theorem keeps_resendFrame (p : ℕ) (f : TxFrame) (s : State) :
    Kept s (State.resendFrame p f s) := by
  unfold State.resendFrame
  simp

@[simp] theorem keeps_leaveStrobe (p t : ℕ) (x : TxStrobe) (s : State) :
    Kept s (State.leaveStrobe p t x s) := by
  unfold State.leaveStrobe
  simp

@[simp] theorem keeps_pumpStrobes (p n : ℕ) (s : State) :
    Kept s (State.pumpStrobes p n s) := by
  induction n generalizing s with
  | zero => simp [State.pumpStrobes]
  | succ n ih =>
    unfold State.pumpStrobes
    dsimp only
    (repeat' split) <;> simp [*]

@[simp] theorem keeps_pumpPort (s : State) (p : ℕ) :
    Kept s (State.pumpPort s p) := by
  unfold State.pumpPort
  simp

@[simp] theorem keeps_transmit (s : State) :
    Kept s (State.transmit s) := by
  unfold State.transmit
  simp

@[simp] theorem keeps_clock (m : Moment) (s : State) :
    Kept s (State.clock m s) := by
  unfold State.clock
  simp

@[simp] theorem keeps_strobePort (b : ℕ) (kind : StrobeKind) (line : Word) (fire : ℕ) (lineTime : ℕ) (bank : ℕ) (s : State) (p : ℕ) :
    Kept s (State.strobePort b kind line fire lineTime bank s p) := by
  unfold State.strobePort
  simp

@[simp] theorem keeps_noteStrobe (b : ℕ) (s : State) :
    Kept s (State.noteStrobe b s) := by
  unfold State.noteStrobe
  simp

@[simp] theorem keeps_strobe (b : ℕ) (kind : StrobeKind) (line : Word) (fire : ℕ) (lineTime : ℕ) (bank : ℕ) (s : State) :
    Kept s (State.strobe b kind line fire lineTime bank s) := by
  unfold State.strobe
  simp

@[simp] theorem keeps_sendWaves (b p : ℕ) (l : PrepLine) (s : State) :
    Kept s (State.sendWaves b p l s) := by
  unfold State.sendWaves
  simp

@[simp] theorem keeps_wavesFirst (b : ℕ) (line : Word) (s : State) :
    Kept s (State.wavesFirst b line s) := by
  unfold State.wavesFirst
  split <;> simp

@[simp] theorem keeps_nozSend (b : ℕ) (p : ℕ) (s : State) :
    Kept s (nozSend b p s) := by
  unfold nozSend
  dsimp only
  (repeat' split) <;> simp

@[simp] theorem keeps_sendConfig (p : ℕ) (s : State) :
    Kept s (State.sendConfig p s) := by
  unfold State.sendConfig
  simp

@[simp] theorem keeps_sendBanked (rank : ℕ) (acc : State × List (ℕ × ℕ)) (f : ℕ × ℕ × List Byte) :
    Kept acc.1 (State.sendBanked rank acc f).1 := by
  unfold State.sendBanked
  dsimp only
  (repeat' split) <;> simp

@[simp] theorem keeps_sendCfg (first : Bool) (frames : List (ℕ × ℕ × List Byte)) (s : State) :
    Kept s (State.sendCfg first frames s).1 := by
  have h : ∀ (l : List (ℕ × ℕ × List Byte)) (k : ℕ) (acc : State × List (ℕ × ℕ)),
      Kept acc.1 (l.foldl (State.sendBanked k) acc).1 := by
    intro l
    induction l with
    | nil => simp
    | cons f l ih =>
      intro k acc
      have h1 := ih k (State.sendBanked k acc f)
      have h2 := keeps_sendBanked k acc f
      simp only [Kept, List.foldl_cons] at *
      simp [h1, h2]
  exact h frames _ (s, [])

@[simp] theorem keeps_enterPort (p : ℕ) (st : PortState) (reason : Reason) (s : State) :
    Kept s (State.enterPort p st reason s) := by
  unfold State.enterPort
  simp

@[simp] theorem keeps_forgetAwaits (p : ℕ) (s : State) :
    Kept s (State.forgetAwaits p s) := by
  unfold State.forgetAwaits
  simp

@[simp] theorem keeps_leaveUp (p : ℕ) (s : State) :
    Kept s (State.leaveUp p s) := by
  unfold State.leaveUp
  simp

@[simp] theorem keeps_startTraining (p : ℕ) (s : State) :
    Kept s (State.startTraining p s) := by
  unfold State.startTraining
  simp

@[simp] theorem keeps_portsOff (s : State) :
    Kept s (State.portsOff s) := by
  unfold State.portsOff
  simp

@[simp] theorem keeps_portsOn (s : State) :
    Kept s (State.portsOn s) := by
  unfold State.portsOn
  simp

@[simp] theorem keeps_rxLocked (p : ℕ) (s : State) :
    Kept s (rxLocked p s) := by
  unfold rxLocked
  simp

@[simp] theorem keeps_blockLockAcquired (p : ℕ) (inverted : Bool) (s : State) :
    Kept s (blockLockAcquired p inverted s) := by
  unfold blockLockAcquired
  simp

@[simp] theorem keeps_tsySend (p : ℕ) (s : State) :
    Kept s (tsySend p s) := by
  unfold tsySend
  dsimp only
  (repeat' split) <;> simp

@[simp] theorem keeps_frameDiscarded (p : ℕ) (d : FrameDefect) (s : State) :
    Kept s (frameDiscarded p d s) := by
  unfold frameDiscarded
  (repeat' split) <;> simp

@[simp] theorem keeps_lineDeadline (p : ℕ) (b : ℕ) (line : Word) (s : State) :
    Kept s (lineDeadline p b line s) := by
  unfold lineDeadline
  split <;> simp

@[simp] theorem keeps_bankCatchup (s : State) :
    Kept s (bankCatchup s) := by
  unfold bankCatchup
  dsimp only
  (repeat' split) <;> simp

end Sys2Proof.Laws
end

