-- ==== Sys2Proof/Laws/KeepsHealth.lean ====
section
/-!
SUPPORT. What is left alone, operation by operation: the queue of commands, the doorbells where no doorbell is
taken, and the memories or their canonical form.  Here nozzle health, the twin’s stream, and a change taking effect.
-/

namespace Sys2Proof.Laws

open Sys2Proof Sys2Proof.Machine

set_option linter.all false

/-! ## Health -/

@[simp] theorem keeps_setRecord (id : ℕ) (r : Word) (s : State) :
    Kept s (State.setRecord id r s) := by
  unfold State.setRecord
  simp

@[simp] theorem keeps_setBarStat (b : ℕ) (x : HealthStat) (s : State) :
    Kept s (State.setBarStat b x s) := by
  unfold State.setBarStat
  simp

@[simp] theorem keeps_setHeadStat (h : ℕ) (x : HealthStat) (s : State) :
    Kept s (State.setHeadStat h x s) := by
  unfold State.setHeadStat
  simp

@[simp] theorem keeps_countHealth (b : ℕ) (h : ℕ) (f : HealthStat → HealthStat) (s : State) :
    Kept s (State.countHealth b h f s) := by
  unfold State.countHealth
  simp

@[simp] theorem keeps_setHeater (h : ℕ) (x : Heater) (s : State) :
    Kept s (State.setHeater h x s) := by
  unfold State.setHeater
  simp

@[simp] theorem keeps_setSweep (b : ℕ) (x : Sweep) (s : State) :
    Kept s (State.setSweep b x s) := by
  unfold State.setSweep
  simp

@[simp] theorem keeps_postNoDonor (id : ℕ) (s : State) :
    Kept s (State.postNoDonor id s) := by
  unfold State.postNoDonor
  simp

@[simp] theorem keeps_degrade (h : ℕ) (lost : ℕ) (s : State) :
    Kept s (State.degrade h lost s) := by
  unfold State.degrade
  simp

@[simp] theorem keeps_undegrade (s : State) :
    Kept s (State.undegrade s) := by
  unfold State.undegrade
  simp

@[simp] theorem keeps_classOut (auto : Bool) (cfg : Cfg) (id : ℕ) (cls : ℕ) (s : State) :
    Kept s (State.classOut auto cfg id cls s).1 := by
  unfold State.classOut
  dsimp only
  (repeat' split) <;> simp

@[simp] theorem keeps_stageAuto (c : Change) (s : State) :
    Kept s (State.stageAuto c s) := by
  unfold State.stageAuto
  dsimp only
  split <;> simp

@[simp] theorem keeps_stageClass (id : ℕ) (cls : ℕ) (s : State) :
    Kept s (State.stageClass id cls s) := by
  refine ⟨?_, ?_, ?_, ?_, ?_⟩ <;> unfold State.stageClass <;> (try dsimp only) <;> (repeat' split) <;> (try intro h) <;> (try (rename_i heq; obtain ⟨rfl, _⟩ := Prod.ext_iff.mp heq)) <;> (first | done | (simp; done) | (simp [*, memWriteN_wf, flashImage_wf, memFilter_wf]; done) | (simp +contextual [*, memWriteN_wf, flashImage_wf, memFilter_wf]; done) | skip)

@[simp] theorem keeps_rawResult (id : ℕ) (raw : ℕ) (s : State) :
    Kept s (State.rawResult id raw s) := by
  unfold State.rawResult
  dsimp only
  (repeat' split) <;> simp

@[simp] theorem keeps_reform (ended : List ℕ) (s : State) :
    Kept s (State.reform ended s) := by
  refine ⟨?_, ?_, ?_, ?_, ?_⟩ <;> unfold State.reform <;> (try dsimp only) <;> (repeat' split) <;> (try intro h) <;> (try (rename_i heq; obtain ⟨rfl, _⟩ := Prod.ext_iff.mp heq)) <;> (first | done | (simp; done) | (simp [*, memWriteN_wf, flashImage_wf, memFilter_wf]; done) | (simp +contextual [*, memWriteN_wf, flashImage_wf, memFilter_wf]; done) | skip) <;> (first | refine (foldl_pending _ ?_ _ _).trans ?_ | refine (foldl_rung _ ?_ _ _).trans ?_ | refine (foldl_hbm _ ?_ _ _).trans ?_ | refine (foldl_onchip _ ?_ _ _).trans ?_ | refine (foldl_flashBytes _ ?_ _ _).trans ?_ | refine (foldlp_pending _ ?_ _ _).trans ?_ | refine (foldlp_rung _ ?_ _ _).trans ?_ | refine (foldlp_hbm _ ?_ _ _).trans ?_ | refine (foldlp_onchip _ ?_ _ _).trans ?_ | refine (foldlp_flashBytes _ ?_ _ _).trans ?_ | refine foldl_hbm_wf _ ?_ _ _ ?_ | refine foldl_onchip_wf _ ?_ _ _ ?_ | refine foldl_flashBytes_wf _ ?_ _ _ ?_) <;> (try intro s a) <;> (try dsimp only) <;> (repeat' split) <;> (try intro h) <;> (try (rename_i heq; obtain ⟨rfl, _⟩ := Prod.ext_iff.mp heq)) <;> (first | done | (simp; done) | (simp [*, memWriteN_wf, flashImage_wf, memFilter_wf]; done) | (simp +contextual [*, memWriteN_wf, flashImage_wf, memFilter_wf]; done) | skip)

@[simp] theorem keeps_sendRecords (p : ℕ) (records : List Byte) (s : State) :
    Kept s (State.sendRecords p records s) := by
  unfold State.sendRecords
  simp

@[simp] theorem keeps_issueHead (b : ℕ) (h : ℕ) (s : State) :
    Kept s (State.issueHead b h s) := by
  unfold State.issueHead
  simp

@[simp] theorem keeps_trimSweep (b : ℕ) (s : State) :
    Kept s (State.trimSweep b s) := by
  unfold State.trimSweep
  dsimp only
  (repeat' split) <;> simp

@[simp] theorem keeps_endSweep (b : ℕ) (s : State) :
    Kept s (State.endSweep b s) := by
  unfold State.endSweep
  simp

@[simp] theorem keeps_sweepPump (b : ℕ) (s : State) :
    Kept s (State.sweepPump b s) := by
  unfold State.sweepPump
  simp

@[simp] theorem keeps_settleRequest (id : ℕ) (result : Bool) (s : State) :
    Kept s (State.settleRequest id result s) := by
  unfold State.settleRequest
  simp

@[simp] theorem keeps_reissue (p : ℕ) (s : State) :
    Kept s (State.reissue p s) := by
  unfold State.reissue
  simp

@[simp] theorem keeps_healthReqTimeout (id : ℕ) (s : State) :
    Kept s (healthReqTimeout id s) := by
  unfold healthReqTimeout
  split <;> simp

@[simp] theorem keeps_healthAssess (s : State) :
    Kept s (healthAssess s) := by
  unfold healthAssess
  dsimp only
  (repeat' split) <;> simp

@[simp] theorem keeps_queueHlt (p : ℕ) (recs : List HltRec) (s : State) :
    Kept s (State.queueHlt p recs s) := by
  unfold State.queueHlt
  simp

@[simp] theorem keeps_sendHeater (h : ℕ) (s : State) :
    Kept s (State.sendHeater h s) := by
  unfold State.sendHeater
  simp

@[simp] theorem keeps_heaterHead (h : ℕ) (s : State) :
    Kept s (State.heaterHead h s) := by
  unfold State.heaterHead
  dsimp only
  (repeat' split) <;> simp

@[simp] theorem keeps_heaterLoop (s : State) :
    Kept s (heaterLoop s) := by
  unfold heaterLoop
  simp

@[simp] theorem keeps_reportOuts (mbx : ℕ) (cls : ℕ) (ids : List ℕ) (s : State) :
    Kept s (State.reportOuts mbx cls ids s).1 := by
  refine ⟨?_, ?_, ?_, ?_, ?_⟩ <;> unfold State.reportOuts <;> (try dsimp only)
  · exact foldlp_pending _ (by intro s a; (try dsimp only) <;> (repeat' split) <;> (try intro h) <;> (try (rename_i heq; obtain ⟨rfl, _⟩ := Prod.ext_iff.mp heq)) <;> (first | done | (simp; done) | (simp [*, memWriteN_wf, flashImage_wf, memFilter_wf]; done) | (simp +contextual [*, memWriteN_wf, flashImage_wf, memFilter_wf]; done) | skip)) _ _
  · exact foldlp_rung _ (by intro s a; (try dsimp only) <;> (repeat' split) <;> (try intro h) <;> (try (rename_i heq; obtain ⟨rfl, _⟩ := Prod.ext_iff.mp heq)) <;> (first | done | (simp; done) | (simp [*, memWriteN_wf, flashImage_wf, memFilter_wf]; done) | (simp +contextual [*, memWriteN_wf, flashImage_wf, memFilter_wf]; done) | skip)) _ _
  · exact foldlp_hbm _ (by intro s a; (try dsimp only) <;> (repeat' split) <;> (try intro h) <;> (try (rename_i heq; obtain ⟨rfl, _⟩ := Prod.ext_iff.mp heq)) <;> (first | done | (simp; done) | (simp [*, memWriteN_wf, flashImage_wf, memFilter_wf]; done) | (simp +contextual [*, memWriteN_wf, flashImage_wf, memFilter_wf]; done) | skip)) _ _
  · exact foldlp_onchip _ (by intro s a; (try dsimp only) <;> (repeat' split) <;> (try intro h) <;> (try (rename_i heq; obtain ⟨rfl, _⟩ := Prod.ext_iff.mp heq)) <;> (first | done | (simp; done) | (simp [*, memWriteN_wf, flashImage_wf, memFilter_wf]; done) | (simp +contextual [*, memWriteN_wf, flashImage_wf, memFilter_wf]; done) | skip)) _ _
  · exact foldlp_flashBytes _ (by intro s a; (try dsimp only) <;> (repeat' split) <;> (try intro h) <;> (try (rename_i heq; obtain ⟨rfl, _⟩ := Prod.ext_iff.mp heq)) <;> (first | done | (simp; done) | (simp [*, memWriteN_wf, flashImage_wf, memFilter_wf]; done) | (simp +contextual [*, memWriteN_wf, flashImage_wf, memFilter_wf]; done) | skip)) _ _

/-! ## Twin -/

@[simp] theorem keeps_pairChange (i : ℕ) (s : State) :
    Kept s (State.pairChange i s) := by
  unfold State.pairChange
  simp

@[simp] theorem keeps_setPair (st : PairState) (reason : Reason) (s : State) :
    Kept s (State.setPair st reason s) := by
  unfold State.setPair
  simp

@[simp] theorem keeps_flagWithdrawn (w : Bool) (s : State) :
    Kept s (State.flagWithdrawn w s) := by
  unfold State.flagWithdrawn
  simp

@[simp] theorem keeps_withdraw (s : State) :
    Kept s (State.withdraw s) := by
  unfold State.withdraw
  simp

@[simp] theorem keeps_startResync (reason : Reason) (s : State) :
    Kept s (State.startResync reason s) := by
  unfold State.startResync
  simp

@[simp] theorem keeps_unpair (reason : Reason) (s : State) :
    Kept s (State.unpair reason s) := by
  unfold State.unpair
  simp

@[simp] theorem keeps_resyncDone (reason : Reason) (s : State) :
    Kept s (State.resyncDone reason s) := by
  unfold State.resyncDone
  split <;> simp

@[simp] theorem keeps_leavePair (s : State) :
    Kept s (State.leavePair s) := by
  unfold State.leavePair
  simp

@[simp] theorem keeps_driveActGpio (s : State) :
    Kept s (State.driveActGpio s) := by
  unfold State.driveActGpio
  simp

@[simp] theorem keeps_releaseGpio (s : State) :
    Kept s (State.releaseGpio s) := by
  unfold State.releaseGpio
  simp

@[simp] theorem keeps_driveSsi (on : Bool) (s : State) :
    Kept s (State.driveSsi on s) := by
  unfold State.driveSsi
  simp

@[simp] theorem keeps_releaseBalls (s : State) :
    Kept s (State.releaseBalls s) := by
  unfold State.releaseBalls
  simp

@[simp] theorem keeps_driveBalls (s : State) :
    Kept s (State.driveBalls s) := by
  unfold State.driveBalls
  simp

@[simp] theorem keeps_promote (reason : Reason) (s : State) :
    Kept s (State.promote reason s) := by
  unfold State.promote
  simp

@[simp] theorem keeps_trySynced (s : State) :
    Kept s (State.trySynced s) := by
  unfold State.trySynced
  simp

@[simp] theorem keeps_mismatch (b : ℕ) (p : ℕ) (line : Word) (s : State) :
    Kept s (State.mismatch b p line s) := by
  unfold State.mismatch
  simp

@[simp] theorem keeps_settleLine (b : ℕ) (line : Word) (s : State) :
    Kept s (State.settleLine b line s) := by
  unfold State.settleLine
  dsimp only
  (repeat' split) <;> simp

@[simp] theorem keeps_lineMatch (b : ℕ) (line : Word) (s : State) :
    Kept s (State.lineMatch b line s) := by
  unfold State.lineMatch
  simp

@[simp] theorem keeps_compareDigests (own : Digest) (twin : Digest) (s : State) :
    Kept s (State.compareDigests own twin s) := by
  unfold State.compareDigests
  simp

@[simp] theorem keeps_closeDigest (d : Digest) (s : State) :
    Kept s (State.closeDigest d s) := by
  unfold State.closeDigest
  dsimp only
  (repeat' split) <;> simp

@[simp] theorem keeps_digestReceived (b : ℕ) (p : ℕ) (line : Word) (digest : Word) (excluded : Bool) (s : State) :
    Kept s (digestReceived b p line digest excluded s) := by
  unfold digestReceived
  dsimp only
  (repeat' split) <;> simp

@[simp] theorem keeps_digestAbsent (b : ℕ) (p : ℕ) (line : Word) (s : State) :
    Kept s (digestAbsent b p line s) := by
  unfold digestAbsent
  dsimp only
  (repeat' split) <;> simp

/-! ## Apply -/

@[simp] theorem keeps_seqFrom (b : ℕ) (n : ℕ) (last : Option ℤ) (s : State) :
    Kept s (State.seqFrom b n last s) := by
  unfold State.seqFrom
  dsimp only
  (repeat' split) <;> simp

@[simp] theorem keeps_seqStart (b : ℕ) (s : State) :
    Kept s (State.seqStart b s) := by
  unfold State.seqStart
  simp

@[simp] theorem keeps_seqAdvance (b : ℕ) (s : State) :
    Kept s (State.seqAdvance b s) := by
  unfold State.seqAdvance
  dsimp only
  (repeat' split) <;> simp

@[simp] theorem keeps_postHv (k : ℕ) (reason : Reason) (s : State) :
    Kept s (State.postHv k reason s) := by
  unfold State.postHv
  simp

@[simp] theorem keeps_driveHven (k : ℕ) (v : Bool) (s : State) :
    Kept s (State.driveHven k v s) := by
  unfold State.driveHven
  simp

@[simp] theorem keeps_hvUpdate (s : State) :
    Kept s (State.hvUpdate s) := by
  unfold State.hvUpdate
  simp

@[simp] theorem keeps_hvLow (s : State) :
    Kept s (State.hvLow s) := by
  unfold State.hvLow
  simp

@[simp] theorem keeps_cancelLine (b : ℕ) (g : ℕ) (s : State) (l : TLine) :
    Kept s (State.cancelLine b g s l) := by
  unfold State.cancelLine
  simp

@[simp] theorem keeps_cancelHeld (g : ℕ) (s : State) :
    Kept s (State.cancelHeld g s) := by
  unfold State.cancelHeld
  simp

@[simp] theorem keeps_cutBurst (g : ℕ) (reason : Reason) (s : State) :
    Kept s (State.cutBurst g reason s) := by
  unfold State.cutBurst
  simp

@[simp] theorem keeps_enterSequence (g : ℕ) (s : State) :
    Kept s (State.enterSequence g s) := by
  unfold State.enterSequence
  simp

@[simp] theorem keeps_hookTrigEnable (g : ℕ) (e : Bool) (start : ℕ) (s : State) :
    Kept s (State.hookTrigEnable g e start s) := by
  unfold State.hookTrigEnable
  simp

@[simp] theorem keeps_hookRunStart (g : ℕ) (entry : ℕ) (s : State) :
    Kept s (State.hookRunStart g entry s) := by
  unfold State.hookRunStart
  simp

@[simp] theorem keeps_hookRun (g : ℕ) (s : State) :
    Kept s (State.hookRun g s) := by
  unfold State.hookRun
  simp

@[simp] theorem keeps_hookAxisEnable (n : ℕ) (e : Bool) (s : State) :
    Kept s (State.hookAxisEnable n e s) := by
  unfold State.hookAxisEnable
  simp

@[simp] theorem keeps_hookAxis (n : ℕ) (old : AxisRec) (s : State) :
    Kept s (State.hookAxis n old s) := by
  unfold State.hookAxis
  simp

@[simp] theorem keeps_hookEcho (k : ℕ) (old : EchoRec) (s : State) :
    Kept s (State.hookEcho k old s) := by
  unfold State.hookEcho
  simp

@[simp] theorem keeps_hookTrig (g : ℕ) (s : State) :
    Kept s (State.hookTrig g s) := by
  unfold State.hookTrig
  simp

@[simp] theorem keeps_hookTrigout (k : ℕ) (old : TrigoutRec) (s : State) :
    Kept s (State.hookTrigout k old s) := by
  unfold State.hookTrigout
  simp

@[simp] theorem keeps_hookBinding (c : ℕ) (s : State) :
    Kept s (State.hookBinding c s) := by
  unfold State.hookBinding
  simp

@[simp] theorem keeps_hookPlane (p : ℕ) (e : Bool) (s : State) :
    Kept s (State.hookPlane p e s) := by
  unfold State.hookPlane
  split <;> simp

@[simp] theorem keeps_hookPolicy (b : ℕ) (s : State) :
    Kept s (State.hookPolicy b s) := by
  unfold State.hookPolicy
  simp

@[simp] theorem keeps_dropAuto (i : ℕ) (s : State) :
    Kept s (State.dropAuto i s) := by
  unfold State.dropAuto
  simp

@[simp] theorem keeps_hookNozzles (host : Bool) (cs : List Change) (old : Cfg) (s : State) :
    Kept s (State.hookNozzles host cs old s) := by
  unfold State.hookNozzles
  simp

@[simp] theorem keeps_hookTemp (h : ℕ) (old : HeadTempRec) (s : State) :
    Kept s (State.hookTemp h old s) := by
  unfold State.hookTemp
  simp

@[simp] theorem keeps_hookHv (k : ℕ) (s : State) :
    Kept s (State.hookHv k s) := by
  unfold State.hookHv
  simp

@[simp] theorem keeps_hookTherm (d : ℕ) (s : State) :
    Kept s (State.hookTherm d s) := by
  unfold State.hookTherm
  dsimp only
  (repeat' split) <;> simp

@[simp] theorem keeps_hook (old : Cfg) (c : Change) (s : State) :
    Kept s (State.hook old c s) := by
  unfold State.hook
  split <;> simp

@[simp] theorem keeps_foldCommits (s : State) :
    Kept s (State.foldCommits s) := by
  unfold State.foldCommits
  simp

@[simp] theorem keeps_runHooks (host : Bool) (old : Cfg) (cs : List Change) (s : State) :
    Kept s (State.runHooks host old cs s) := by
  unfold State.runHooks
  dsimp only
  split <;> simp

@[simp] theorem keeps_postApplied (id : Word) (b : ℕ) (line : Word) (s : State) :
    Kept s (State.postApplied id b line s) := by
  unfold State.postApplied
  simp

@[simp] theorem keeps_appliedBy (id : Word) (b : ℕ) (s : State) :
    Kept s (State.appliedBy id b s) := by
  unfold State.appliedBy
  (repeat' split) <;> simp

@[simp] theorem keeps_takePart (part : Part) (b : ℕ) (s : State) (k : Commit) :
    Kept s (State.takePart part b s k) := by
  unfold State.takePart
  simp

@[simp] theorem keeps_takeParts (part : Part) (b : ℕ) (y : Word) (s : State) :
    Kept s (State.takeParts part b y s) := by
  refine ⟨?_, ?_, ?_, ?_, ?_⟩ <;> unfold State.takeParts <;> (try dsimp only) <;> (repeat' split) <;> (try intro h) <;> (try (rename_i heq; obtain ⟨rfl, _⟩ := Prod.ext_iff.mp heq)) <;> (first | done | (simp; done) | (simp [*, memWriteN_wf, flashImage_wf, memFilter_wf]; done) | (simp +contextual [*, memWriteN_wf, flashImage_wf, memFilter_wf]; done) | skip) <;> (first | refine (foldl_pending _ ?_ _ _).trans ?_ | refine (foldl_rung _ ?_ _ _).trans ?_ | refine (foldl_hbm _ ?_ _ _).trans ?_ | refine (foldl_onchip _ ?_ _ _).trans ?_ | refine (foldl_flashBytes _ ?_ _ _).trans ?_ | refine (foldlp_pending _ ?_ _ _).trans ?_ | refine (foldlp_rung _ ?_ _ _).trans ?_ | refine (foldlp_hbm _ ?_ _ _).trans ?_ | refine (foldlp_onchip _ ?_ _ _).trans ?_ | refine (foldlp_flashBytes _ ?_ _ _).trans ?_ | refine foldl_hbm_wf _ ?_ _ _ ?_ | refine foldl_onchip_wf _ ?_ _ _ ?_ | refine foldl_flashBytes_wf _ ?_ _ _ ?_) <;> (try intro s a) <;> (try dsimp only) <;> (repeat' split) <;> (try intro h) <;> (try (rename_i heq; obtain ⟨rfl, _⟩ := Prod.ext_iff.mp heq)) <;> (first | done | (simp; done) | (simp [*, memWriteN_wf, flashImage_wf, memFilter_wf]; done) | (simp +contextual [*, memWriteN_wf, flashImage_wf, memFilter_wf]; done) | skip)

@[simp] theorem keeps_applyPending (s : State) :
    Kept s (State.applyPending s) := by
  refine ⟨?_, ?_, ?_, ?_, ?_⟩ <;> unfold State.applyPending <;> (try dsimp only) <;> (repeat' split) <;> (try intro h) <;> (try (rename_i heq; obtain ⟨rfl, _⟩ := Prod.ext_iff.mp heq)) <;> (first | done | (simp; done) | (simp [*, memWriteN_wf, flashImage_wf, memFilter_wf]; done) | (simp +contextual [*, memWriteN_wf, flashImage_wf, memFilter_wf]; done) | skip) <;> (first | refine (foldl_pending _ ?_ _ _).trans ?_ | refine (foldl_rung _ ?_ _ _).trans ?_ | refine (foldl_hbm _ ?_ _ _).trans ?_ | refine (foldl_onchip _ ?_ _ _).trans ?_ | refine (foldl_flashBytes _ ?_ _ _).trans ?_ | refine (foldlp_pending _ ?_ _ _).trans ?_ | refine (foldlp_rung _ ?_ _ _).trans ?_ | refine (foldlp_hbm _ ?_ _ _).trans ?_ | refine (foldlp_onchip _ ?_ _ _).trans ?_ | refine (foldlp_flashBytes _ ?_ _ _).trans ?_ | refine foldl_hbm_wf _ ?_ _ _ ?_ | refine foldl_onchip_wf _ ?_ _ _ ?_ | refine foldl_flashBytes_wf _ ?_ _ _ ?_) <;> (try intro s a) <;> (try dsimp only) <;> (repeat' split) <;> (try intro h) <;> (try (rename_i heq; obtain ⟨rfl, _⟩ := Prod.ext_iff.mp heq)) <;> (first | done | (simp; done) | (simp [*, memWriteN_wf, flashImage_wf, memFilter_wf]; done) | (simp +contextual [*, memWriteN_wf, flashImage_wf, memFilter_wf]; done) | skip) <;> (first | refine (foldl_pending _ ?_ _ _).trans ?_ | refine (foldl_rung _ ?_ _ _).trans ?_ | refine (foldl_hbm _ ?_ _ _).trans ?_ | refine (foldl_onchip _ ?_ _ _).trans ?_ | refine (foldl_flashBytes _ ?_ _ _).trans ?_ | refine (foldlp_pending _ ?_ _ _).trans ?_ | refine (foldlp_rung _ ?_ _ _).trans ?_ | refine (foldlp_hbm _ ?_ _ _).trans ?_ | refine (foldlp_onchip _ ?_ _ _).trans ?_ | refine (foldlp_flashBytes _ ?_ _ _).trans ?_ | refine foldl_hbm_wf _ ?_ _ _ ?_ | refine foldl_onchip_wf _ ?_ _ _ ?_ | refine foldl_flashBytes_wf _ ?_ _ _ ?_) <;> (try intro s a) <;> (try dsimp only) <;> (repeat' split) <;> (try intro h) <;> (try (rename_i heq; obtain ⟨rfl, _⟩ := Prod.ext_iff.mp heq)) <;> (first | done | (simp; done) | (simp [*, memWriteN_wf, flashImage_wf, memFilter_wf]; done) | (simp +contextual [*, memWriteN_wf, flashImage_wf, memFilter_wf]; done) | skip)

end Sys2Proof.Laws
end

