-- ==== Sys2Proof/Laws/KeepsUnits.lean ====
section
/-!
SUPPORT. What is left alone, operation by operation: the queue of commands, the doorbells where no doorbell is
taken, and the memories or their canonical form.  Here self-test, the one-time memory, the flash, the rails and the transitions.
-/

namespace Sys2Proof.Laws

open Sys2Proof Sys2Proof.Machine

set_option linter.all false

/-! ## Bist -/

@[simp] theorem keeps_postBist (part : ℕ) (unit : ℕ) (kind : ℕ) (reason : Reason) (cause : StopCause) (s : State) :
    Kept s (State.postBist part unit kind reason cause s) := by
  unfold State.postBist
  simp

@[simp] theorem keeps_recordTest (part : ℕ) (unit : ℕ) (kind : ℕ) (result : ℕ) (patterns : ℕ) (cause : StopCause)
    (sig : Option (BitVec 64)) (seed : BitVec 64) (s : State) :
    Kept s (State.recordTest part unit kind result patterns cause sig seed s) := by
  unfold State.recordTest
  simp

@[simp] theorem keeps_stopPeriodic (p : ℕ) (cause : StopCause) (s : State) :
    Kept s (State.stopPeriodic p cause s) := by
  unfold State.stopPeriodic
  simp

@[simp] theorem keeps_stopAllPeriodic (cause : StopCause) (s : State) :
    Kept s (State.stopAllPeriodic cause s) := by
  unfold State.stopAllPeriodic
  simp

@[simp] theorem keeps_stopDemand (cause : StopCause) (s : State) :
    Kept s (State.stopDemand cause s) := by
  unfold State.stopDemand
  split <;> simp

@[simp] theorem keeps_preemptFixed (s : State) :
    Kept s (State.preemptFixed s) := by
  unfold State.preemptFixed
  split <;> simp

@[simp] theorem keeps_demandRests (p u : ℕ) (s : State) :
    Kept s (State.demandRests p u s) := by
  unfold State.demandRests
  split <;> simp

@[simp] theorem keeps_tryRotate (s : State) (p : ℕ) :
    Kept s (State.tryRotate s p) := by
  unfold State.tryRotate
  dsimp only
  (repeat' split) <;> simp

@[simp] theorem keeps_restUnit (p u : ℕ) (s : State) :
    Kept s (State.restUnit p u s) := by
  unfold State.restUnit
  simp

@[simp] theorem keeps_rotateWaiting (s : State) :
    Kept s (State.rotateWaiting s) := by
  unfold State.rotateWaiting
  simp

@[simp] theorem keeps_bistSliceStart (p : ℕ) (s : State) :
    Kept s (bistSliceStart p s) := by
  unfold bistSliceStart
  simp

@[simp] theorem keeps_rotate (p : ℕ) (s : State) :
    Kept s (State.rotate p s) := by
  unfold State.rotate
  dsimp only
  (repeat' split) <;> simp

@[simp] theorem keeps_bistSliceEnd (p : ℕ) (misr : BitVec 64) (s : State) :
    Kept s (bistSliceEnd p misr s) := by
  unfold bistSliceEnd
  dsimp only
  (repeat' split) <;> simp

@[simp] theorem keeps_retireUnit (p : ℕ) (unit : ℕ) (s : State) :
    Kept s (State.retireUnit p unit s) := by
  unfold State.retireUnit
  simp

@[simp] theorem keeps_bistRepeatDone (p : ℕ) (misr : BitVec 64) (s : State) :
    Kept s (bistRepeatDone p misr s) := by
  unfold bistRepeatDone
  dsimp only
  (repeat' split) <;> simp

@[simp] theorem keeps_dropPulses (s : State) :
    Kept s (State.dropPulses s) := by
  unfold State.dropPulses
  dsimp only
  (repeat' split) <;> simp

@[simp] theorem keeps_stopPart (part : ℕ) (s : State) :
    Kept s (State.stopPart part s) := by
  unfold State.stopPart
  simp

@[simp] theorem keeps_reloadPart (part : ℕ) (s : State) :
    Kept s (State.reloadPart part s) := by
  unfold State.reloadPart
  simp

@[simp] theorem keeps_returnUnit (d : Demand) (s : State) :
    Kept s (State.returnUnit d s) := by
  unfold State.returnUnit
  dsimp only
  (repeat' split) <;> simp

@[simp] theorem keeps_beginDemand (d : Demand) (s : State) :
    Kept s (State.beginDemand d s) := by
  unfold State.beginDemand
  dsimp only
  (repeat' split) <;> simp

@[simp] theorem keeps_bistOnDemandDone (expected : Bool) (misr : BitVec 64) (s : State) :
    Kept s (bistOnDemandDone expected misr s) := by
  unfold bistOnDemandDone
  dsimp only
  (repeat' split) <;> simp

/-! ## OtpArray -/

@[simp] theorem keeps_repairSlot (q : Word) (s : State) :
    Kept s (State.repairSlot q s) := by
  unfold State.repairSlot
  simp

@[simp] theorem keeps_latchOtp (margins : Table (Word × Word)) (s : State) :
    Kept s (State.latchOtp margins s) := by
  unfold State.latchOtp
  simp

@[simp] theorem keeps_postOtpBoot (s : State) :
    Kept s (State.postOtpBoot s) := by
  unfold State.postOtpBoot
  simp

@[simp] theorem keeps_interruptOtp (s : State) :
    Kept s (State.interruptOtp s) := by
  unfold State.interruptOtp
  split <;> simp

/-! ## Flash -/

@[simp] theorem keeps_startFlash (s : State) :
    KeptFlash s (State.startFlash s) := by
  unfold State.startFlash
  split <;> simp +contextual [flashErase, flashProgram_wf, flashImage_wf, memWriteN_wf, memFilter_wf]

@[simp] theorem keeps_queueFlash (op : FlashOp) (s : State) :
    KeptFlash s (State.queueFlash op s) := by
  unfold State.queueFlash
  simp +contextual

@[simp] theorem keeps_endFlash (bytes : Memory) (s : State) :
    (State.endFlash bytes s).pending = s.pending ∧ (State.endFlash bytes s).rung = s.rung ∧
      (State.endFlash bytes s).mem.hbm = s.mem.hbm ∧ (State.endFlash bytes s).mem.onchip = s.mem.onchip ∧
      (bytes.wf = true → (State.endFlash bytes s).flash.bytes.wf = true) := by
  have h := keeps_startFlash { s with flash := { s.flash with bytes := bytes, ops := s.flash.ops.tail } }
  exact h

@[simp] theorem keeps_interruptFlash (s : State) :
    KeptFlash s (State.interruptFlash s) := by
  unfold State.interruptFlash State.cutRecord
  dsimp only
  (repeat' split) <;> simp +contextual [flashErase, flashProgram_wf, flashImage_wf, memWriteN_wf, memFilter_wf]

/-! ## Rails -/

@[simp] theorem keeps_writeVout (k : ℕ) (s : State) :
    Kept s (State.writeVout k s) := by
  unfold State.writeVout
  simp

@[simp] theorem keeps_raiseNext (s : State) :
    Kept s (State.raiseNext s) := by
  unfold State.raiseNext
  split <;> simp

@[simp] theorem keeps_railsUp (s : State) :
    Kept s (State.railsUp s) := by
  unfold State.railsUp
  simp

@[simp] theorem keeps_beginWake (s : State) :
    Kept s (State.beginWake s) := by
  unfold State.beginWake
  split <;> simp

@[simp] theorem keeps_railsDone (s : State) :
    Kept s (State.railsDone s) := by
  unfold State.railsDone
  simp

@[simp] theorem keeps_lowerFrom (n : ℕ) (s : State) :
    Kept s (State.lowerFrom n s) := by
  induction n generalizing s with
  | zero => simp [State.lowerFrom]
  | succ n ih =>
    unfold State.lowerFrom
    dsimp only
    (repeat' split) <;> simp [*]

@[simp] theorem keeps_lowerNext (s : State) :
    Kept s (State.lowerNext s) := by
  unfold State.lowerNext
  simp

@[simp] theorem keeps_railsDown (s : State) :
    Kept s (State.railsDown s) := by
  unfold State.railsDown
  simp

/-! ## Transition -/

@[simp] theorem keeps_cancelSent (p : ℕ) (s : State) (y : Buffered) :
    Kept s (State.cancelSent p s y) := by
  unfold State.cancelSent
  simp

@[simp] theorem keeps_cancelUnstrobed (s : State) :
    Kept s (State.cancelUnstrobed s) := by
  unfold State.cancelUnstrobed
  simp

@[simp] theorem keeps_clearRings (s : State) :
    Kept s (State.clearRings s) := by
  unfold State.clearRings
  simp

@[simp] theorem keeps_startSequences (s : State) :
    Kept s (State.startSequences s) := by
  unfold State.startSequences
  simp

@[simp] theorem keeps_endChecks (resume : Reason) (s : State) :
    Kept s (State.endChecks resume s) := by
  unfold State.endChecks
  simp

@[simp] theorem keeps_leaveArmed (s : State) :
    Kept s (State.leaveArmed s) := by
  unfold State.leaveArmed
  simp

@[simp] theorem keeps_setSysFor (new : SysState) (o : Origin) (code : Reason) (obj : ℕ) (s : State) (list : Option Word) :
    Kept s (State.setSysFor new o code obj s list) := by
  unfold State.setSysFor
  dsimp only
  cases list <;> (repeat' split) <;> simp

@[simp] theorem keeps_setSys (new : SysState) (o : Origin) (code : Reason) (s : State) :
    Kept s (State.setSys new o code s) := by
  unfold State.setSys
  simp

@[simp] theorem keeps_startReform (s : State) :
    Kept s (State.startReform s) := by
  unfold State.startReform
  split <;> simp

@[simp] theorem keeps_enterReady (o : Origin) (s : State) :
    Kept s (State.enterReady o s) := by
  unfold State.enterReady
  simp

@[simp] theorem keeps_retryAll (s : State) :
    Kept s (State.retryAll s) := by
  unfold State.retryAll
  simp

@[simp] theorem keeps_arming (b : ℕ) (s : State) :
    Kept s (State.arming b s) := by
  unfold State.arming
  dsimp only
  (repeat' split) <;> simp

@[simp] theorem keeps_enterArmed (o : Origin) (s : State) :
    Kept s (State.enterArmed o s) := by
  unfold State.enterArmed
  simp

@[simp] theorem keeps_enterPaused (o : Origin) (s : State) :
    Kept s (State.enterPaused o s) := by
  unfold State.enterPaused
  simp

@[simp] theorem keeps_applyEvent (e : StateEvent) (o : Origin) (s : State) :
    Kept s (State.applyEvent e o s) := by
  unfold State.applyEvent
  split <;> simp

@[simp] theorem keeps_requestEvent (e : StateEvent) (o : Origin) (s : State) :
    Kept s (State.requestEvent e o s) := by
  unfold State.requestEvent
  simp

@[simp] theorem keeps_takeEvent (s : State) (e : StateEvent × ℕ × Origin) :
    Kept s (State.takeEvent s e) := by
  unfold State.takeEvent
  dsimp only
  (repeat' split) <;> simp

@[simp] theorem keeps_stateEventApply (s : State) :
    Kept s (stateEventApply s) := by
  unfold stateEventApply
  dsimp only
  split <;> simp

@[simp] theorem keeps_haltPrinting (s : State) :
    Kept s (State.haltPrinting s) := by
  unfold State.haltPrinting
  simp

@[simp] theorem keeps_firstTicket (s : State) :
    Kept s (State.firstTicket s) := by
  unfold State.firstTicket
  simp

@[simp] theorem keeps_wipe (s : State) :
    (State.wipe s).pending = s.pending ∧ (State.wipe s).rung = [] ∧
    (State.wipe s).mem.hbm.wf = true ∧
    (s.mem.onchip.wf = true → (State.wipe s).mem.onchip.wf = true) ∧
    (State.wipe s).flash.bytes = s.flash.bytes := by
  refine ⟨rfl, rfl, rfl, fun h => ?_, rfl⟩
  exact memFilter_wf _ h

@[simp] theorem keeps_ampLow (cause : ℕ) (s : State) :
    Kept s (State.ampLow cause s) := by
  unfold State.ampLow
  simp

@[simp] theorem keeps_stopTests (c : StopCause) (s : State) :
    Kept s (State.stopTests c s) := by
  unfold State.stopTests
  dsimp only
  (repeat' split) <;> simp

@[simp] theorem keeps_reduce (code : Reason) (phase : ℕ) (s : State) :
    KeptRest s (State.reduce code phase s) := by
  unfold State.reduce
  (repeat' split) <;> simp +contextual

@[simp] theorem keeps_enterFaultFor (reduced : Bool) (code : Reason) (o : Origin) (obj : ℕ) (s : State)
    (list : Option Word) :
    KeptRest s (State.enterFaultFor reduced code o obj s list) := by
  unfold State.enterFaultFor
  dsimp only
  (repeat' split) <;> simp +contextual

@[simp] theorem keeps_enterFaultAs (reduced : Bool) (code : Reason) (o : Origin) (s : State) :
    KeptRest s (State.enterFaultAs reduced code o s) := by
  unfold State.enterFaultAs
  (repeat' split) <;> simp +contextual

@[simp] theorem keeps_enterFault (code : Reason) (o : Origin) (s : State) :
    KeptRest s (State.enterFault code o s) := by
  unfold State.enterFault
  (repeat' split) <;> simp +contextual

@[simp] theorem keeps_enterSafe (code : Reason) (s : State) :
    (State.enterSafe code s).pending = s.pending ∧
    (s.mem.hbm.wf = true → (State.enterSafe code s).mem.hbm.wf = true) ∧
    (s.mem.onchip.wf = true → (State.enterSafe code s).mem.onchip.wf = true) ∧
    (s.flash.bytes.wf = true → (State.enterSafe code s).flash.bytes.wf = true) := by
  unfold State.enterSafe
  (repeat' split) <;> simp +contextual

@[simp] theorem keeps_enterUpsett (first : ℕ) (kind : ℕ) (o : Origin) (s : State) :
    (State.enterUpsett first kind o s).pending = s.pending ∧
    (s.mem.hbm.wf = true → (State.enterUpsett first kind o s).mem.hbm.wf = true) ∧
    (s.mem.onchip.wf = true → (State.enterUpsett first kind o s).mem.onchip.wf = true) ∧
    (s.flash.bytes.wf = true → (State.enterUpsett first kind o s).flash.bytes.wf = true) := by
  unfold State.enterUpsett
  (repeat' split) <;> simp +contextual

@[simp] theorem keeps_enterOff (s : State) :
    (State.enterOff s).pending = s.pending ∧
    (s.mem.hbm.wf = true → (State.enterOff s).mem.hbm.wf = true) ∧
    (s.mem.onchip.wf = true → (State.enterOff s).mem.onchip.wf = true) ∧
    (s.flash.bytes.wf = true → (State.enterOff s).flash.bytes.wf = true) := by
  refine ⟨?_, ?_, ?_, ?_⟩ <;> unfold State.enterOff <;> (try dsimp only) <;> (try intro h) <;> (first | rfl | (simp; done) | simp [*])

end Sys2Proof.Laws
end

