-- ==== Sys2Proof/Laws/KeepsLines.lean ====
section
/-!
SUPPORT. What is left alone, operation by operation: the queue of commands, the doorbells where no doorbell is
taken, and the memories or their canonical form.  Here commits, the line engines and the firing of lines.
-/

namespace Sys2Proof.Laws

open Sys2Proof Sys2Proof.Machine

set_option linter.all false

/-! ## Commit -/

@[simp] theorem keeps_noteCheck (s : State) :
    Kept s (State.noteCheck s) := by
  unfold State.noteCheck
  dsimp only
  (repeat' split) <;> simp

@[simp] theorem keeps_flipBanks (b : ℕ) (y : Option Word) (s : State) :
    Kept s (State.flipBanks b y s) := by
  unfold State.flipBanks
  simp

@[simp] theorem keeps_answerAccepted (h : Held) (id : Word) (bars : List BarApply) (s : State) :
    Kept s (State.answerAccepted h id bars s) := by
  unfold State.answerAccepted
  split <;> simp

@[simp] theorem keeps_answerRefused (h : Held) (r : Refused) (s : State) :
    Kept s (State.answerRefused h r s) := by
  unfold State.answerRefused
  split <;> simp

@[simp] theorem keeps_returnSet (h : Held) (later : List Change) (s : State) :
    Kept s (State.returnSet h later s) := by
  unfold State.returnSet
  split <;> simp

@[simp] theorem keeps_restoreBanks (h : Held) (s : State) :
    Kept s (State.restoreBanks h s) := by
  unfold State.restoreBanks
  simp

@[simp] theorem keeps_healthRefused (h : Held) (code : Reason) (s : State) :
    Kept s (State.healthRefused h code s) := by
  unfold State.healthRefused
  simp

@[simp] theorem keeps_refuseCommit (h : Held) (r : Refused) (s : State) :
    Kept s (State.refuseCommit h r s) := by
  unfold State.refuseCommit
  simp

@[simp] theorem keeps_disarm (o : Origin) (was : List ℕ) (s : State) :
    Kept s (State.disarm o was s) := by
  unfold State.disarm
  simp

@[simp] theorem keeps_healthCommits (h : Held) (before : Cfg) (id : Word) (bars : List BarApply) (s : State) :
    Kept s (State.healthCommits h before id bars s) := by
  unfold State.healthCommits
  simp

@[simp] theorem keeps_ownEcho (o : Origin) (s : State) (c : Change) : Kept s (State.ownEcho o s c) := by
  cases c <;> simp [State.ownEcho]

@[simp] theorem keeps_installCommit (id : Word) (o : Origin) (changes : List Change) (lines : List (ℕ × Option Word)) (s : State) :
    Kept s (State.installCommit id o changes lines s) := by
  unfold State.installCommit
  simp

@[simp] theorem keeps_acceptCommit (h : Held) (s : State) :
    Kept s (State.acceptCommit h s) := by
  unfold State.acceptCommit
  split <;> simp

@[simp] theorem keeps_serveFront (s : State) :
    Kept s (State.serveFront s) := by
  unfold State.serveFront
  dsimp only
  (repeat' split) <;> simp

@[simp] theorem keeps_serveHeld (n : ℕ) (s : State) :
    Kept s (serveHeld n s) := by
  induction n generalizing s with
  | zero => refine ⟨?_, ?_, ?_, ?_, ?_⟩ <;> unfold serveHeld <;> (try intro h) <;> (try simp [*, memWriteN_wf, flashImage_wf, memFilter_wf])
  | succ k ih => refine ⟨?_, ?_, ?_, ?_, ?_⟩ <;> unfold serveHeld <;> (try dsimp only) <;> (repeat' split) <;> (try intro h) <;> (try simp [*, memWriteN_wf, flashImage_wf, memFilter_wf]) <;> (try simp +contextual [*, memWriteN_wf, flashImage_wf, memFilter_wf])

@[simp] theorem keeps_servePrepare (s : State) :
    Kept s (State.servePrepare s) := by
  unfold State.servePrepare
  dsimp only
  (repeat' split) <;> simp

@[simp] theorem keeps_commitAccept (s : State) :
    Kept s (commitAccept s) := by
  unfold commitAccept
  simp

@[simp] theorem keeps_submitCommit (set : ℕ) (o : Origin) (kind : CommitKind) (w : Option Waiter) (cs : List Change) (s : State) :
    Kept s (State.submitCommit set o kind w cs s) := by
  unfold State.submitCommit
  split <;> simp

@[simp] theorem keeps_answerTime (n : ℕ) (s : State) :
    Kept s (answerTime n s) := by
  unfold answerTime
  (repeat' split) <;> simp

@[simp] theorem keeps_fwAutoSubmit (s : State) :
    Kept s (fwAutoSubmit s) := by
  unfold fwAutoSubmit
  simp

@[simp] theorem keeps_undoPrepare (s : State) :
    Kept s (State.undoPrepare s) := by
  unfold State.undoPrepare
  dsimp only
  (repeat' split) <;> simp

@[simp] theorem keeps_commitPrepare (changes : List Change) (s : State) :
    Kept s (commitPrepare changes s) := by
  unfold commitPrepare
  (repeat' split) <;> simp

@[simp] theorem keeps_readyFront (s : State) :
    Kept s (State.readyFront s) := by
  unfold State.readyFront
  split <;> simp

@[simp] theorem keeps_commitReady (_ok : Bool) (s : State) :
    Kept s (commitReady _ok s) := by
  unfold commitReady
  simp

@[simp] theorem keeps_readyTimeout (s : State) :
    Kept s (readyTimeout s) := by
  unfold readyTimeout
  split <;> simp

@[simp] theorem keeps_unprepare (b : ℕ) (y : Word) (s : State) :
    Kept s (State.unprepare b y s) := by
  unfold State.unprepare
  dsimp only
  (repeat' split) <;> simp

@[simp] theorem keeps_commitMirror (id : Word) (lines : List (ℕ × Word)) (s : State) :
    Kept s (commitMirror id lines s) := by
  unfold commitMirror
  (repeat' split) <;> simp

/-! ## LineEngine -/

@[simp] theorem keeps_noteWaves (cfg : Cfg) (b : ℕ) (line : Option Word) (ws : List PrepWave) (s : State) :
    Kept s (State.noteWaves cfg b line ws s) := by
  unfold State.noteWaves
  simp

@[simp] theorem keeps_noteUnread (b : ℕ) (us : List (ℤ × ℕ)) (s : State) :
    Kept s (State.noteUnread b us s) := by
  unfold State.noteUnread
  simp

@[simp] theorem keeps_prepareNext (b : ℕ) (s : State) :
    Kept s (State.prepareNext b s) := by
  suffices h : ∀ t, t = State.prepareNext b s → Kept s t from h _ rfl
  intro t ht
  delta State.prepareNext at ht
  split at ht
  · subst ht; simp
  · extract_lets y cfg r lost port waves s1 s2 s3 x line s4 at ht
    split at ht
    · subst ht; simp
    · have h1 : Kept s s1 := by simp [s1]
      have h2 : Kept s s2 := by simp [s2, h1]
      have h3 : Kept s s3 := by simp [s3, h2]
      have h4 : Kept s s4 := by simp [s4, h3]
      subst ht
      simp [h4]

@[simp] theorem keeps_takeData (b : ℕ) (s : State) :
    Kept s (State.takeData b s) := by
  unfold State.takeData
  split <;> simp

@[simp] theorem keeps_linePrepare (b : ℕ) (s : State) :
    Kept s (linePrepare b s) := by
  unfold linePrepare
  dsimp only
  (repeat' split) <;> simp

@[simp] theorem keeps_countStarved (b : ℕ) (ext : ℤ) (post : Bool) (s : State) :
    Kept s (State.countStarved b ext post s) := by
  unfold State.countStarved
  simp

@[simp] theorem keeps_prepareDue (b : ℕ) (last : ℤ) (s : State) :
    Kept s (State.prepareDue b last s).1 := by
  unfold State.prepareDue
  dsimp only
  (repeat' split) <;> simp

@[simp] theorem keeps_prepareThrough (b : ℕ) (last : ℤ) (n : ℕ) (s : State) :
    Kept s (State.prepareThrough b last n s) := by
  induction n generalizing s with
  | zero => refine ⟨?_, ?_, ?_, ?_, ?_⟩ <;> unfold State.prepareThrough <;> (try intro h) <;> (try simp [*, memWriteN_wf, flashImage_wf, memFilter_wf])
  | succ k ih => refine ⟨?_, ?_, ?_, ?_, ?_⟩ <;> unfold State.prepareThrough <;> (try dsimp only) <;> (repeat' split) <;> (try intro h) <;> (try simp [*, memWriteN_wf, flashImage_wf, memFilter_wf]) <;> (try simp +contextual [*, memWriteN_wf, flashImage_wf, memFilter_wf])

@[simp] theorem keeps_ticketArrives (b : ℕ) (y : Word) (s : State) :
    Kept s (State.ticketArrives b y s) := by
  unfold State.ticketArrives
  simp

@[simp] theorem keeps_park (u : ℕ) (w : Work) (s : State) :
    Kept s (State.park u w s) := by
  unfold State.park
  simp

@[simp] theorem keeps_giveWork (u : ℕ) (w : Work) (s : State) :
    Kept s (State.giveWork u w s) := by
  unfold State.giveWork
  simp

theorem keeps_takeUnit (b u : ℕ) (s t : State) (h : State.takeUnit b s = some (u, t)) : Kept s t := by
  unfold State.takeUnit at h
  split at h
  · cases h; simp
  · simp only [Option.ite_none_right_eq_some, Option.map_eq_some_iff] at h
    obtain ⟨-, w, -, hw⟩ := h
    cases hw
    simp

@[simp] theorem keeps_settle (b : ℕ) (p : ℕ) (block : ℕ) (blank : Bool) (s : State) :
    Kept s (State.settle b p block blank s) := by
  unfold State.settle
  simp

@[simp] theorem keeps_decompSchedule (s : State) :
    Kept s (decompSchedule s) := by
  unfold decompSchedule
  dsimp only
  (repeat' split)
  all_goals first
    | (simp; done)
    | (have := keeps_takeUnit _ _ _ _ (by assumption); simp_all)

@[simp] theorem keeps_indexReread (b : ℕ) (s : State) :
    Kept s (indexReread b s) := by
  unfold indexReread
  (repeat' split) <;> simp

@[simp] theorem keeps_postBad (p : ℕ) (block : ℕ) (reason : Reason) (action : ℕ) (fallback : Bool) (s : State) :
    Kept s (State.postBad p block reason action fallback s) := by
  unfold State.postBad
  simp

@[simp] theorem keeps_letWait (p : ℕ) (block : ℕ) (s : State) :
    Kept s (State.letWait p block s) := by
  unfold State.letWait
  simp

@[simp] theorem keeps_badAction (b : ℕ) (p : ℕ) (block : ℕ) (action : ℕ) (s : State) :
    Kept s (State.badAction b p block action s) := by
  unfold State.badAction
  simp

@[simp] theorem keeps_badBlock (b : ℕ) (p : ℕ) (r : PlaneRec) (block : ℕ) (reason : Reason) (s : State) :
    Kept s (State.badBlock b p r block reason s) := by
  unfold State.badBlock
  simp

@[simp] theorem keeps_peerFails (p : ℕ) (r : PlaneRec) (block : ℕ) (s : State) :
    Kept s (State.peerFails p r block s) := by
  unfold State.peerFails
  simp

@[simp] theorem keeps_writeBlock (b : ℕ) (r : PlaneRec) (block : ℕ) (o : ℤ) (pos : ℕ) (raw : List Byte) (s : State) :
    KeptHbm s (State.writeBlock b r block o pos raw s) := by
  refine ⟨?_, ?_, ?_, ?_, ?_⟩ <;> unfold State.writeBlock <;> (try dsimp only) <;> (repeat' split) <;> (try intro h) <;> (try (rename_i heq; obtain ⟨rfl, _⟩ := Prod.ext_iff.mp heq)) <;> (first | done | (simp; done) | (simp [*, memWriteN_wf, flashImage_wf, memFilter_wf]; done) | (simp +contextual [*, memWriteN_wf, flashImage_wf, memFilter_wf]; done) | skip) <;> (first | refine (foldl_pending _ ?_ _ _).trans ?_ | refine (foldl_rung _ ?_ _ _).trans ?_ | refine (foldl_hbm _ ?_ _ _).trans ?_ | refine (foldl_onchip _ ?_ _ _).trans ?_ | refine (foldl_flashBytes _ ?_ _ _).trans ?_ | refine (foldlp_pending _ ?_ _ _).trans ?_ | refine (foldlp_rung _ ?_ _ _).trans ?_ | refine (foldlp_hbm _ ?_ _ _).trans ?_ | refine (foldlp_onchip _ ?_ _ _).trans ?_ | refine (foldlp_flashBytes _ ?_ _ _).trans ?_ | refine foldl_hbm_wf _ ?_ _ _ ?_ | refine foldl_onchip_wf _ ?_ _ _ ?_ | refine foldl_flashBytes_wf _ ?_ _ _ ?_) <;> (try intro s a) <;> (try dsimp only) <;> (repeat' split) <;> (try intro h) <;> (try (rename_i heq; obtain ⟨rfl, _⟩ := Prod.ext_iff.mp heq)) <;> (first | done | (simp; done) | (simp [*, memWriteN_wf, flashImage_wf, memFilter_wf]; done) | (simp +contextual [*, memWriteN_wf, flashImage_wf, memFilter_wf]; done) | skip)

@[simp] theorem keeps_keepOutput (r : PlaneRec) (w : Work) (d : Decoded) (s : State) :
    KeptHbm s (State.keepOutput r w d s) := by
  unfold State.keepOutput
  split <;> simp +contextual

@[simp] theorem keeps_finishBlock (r : PlaneRec) (w : Work) (d : Decoded) (s : State) :
    KeptHbm s (State.finishBlock r w d s) := by
  unfold State.finishBlock
  dsimp only
  (repeat' split) <;> simp +contextual

@[simp] theorem keeps_blockDecodeDone (u : ℕ) (s : State) :
    KeptHbm s (blockDecodeDone u s) := by
  unfold blockDecodeDone
  (repeat' split) <;> simp +contextual

@[simp] theorem keeps_decompResume (b : ℕ) (s : State) :
    Kept s (decompResume b s) := by
  unfold decompResume
  dsimp only
  (repeat' split)
  all_goals first
    | (simp; done)
    | (have := keeps_takeUnit _ _ _ _ (by assumption); simp_all)

@[simp] theorem keeps_peerBlockResponse (p : ℕ) (block : ℕ) (bytes : Option (List Byte)) (s : State) :
    KeptHbm s (peerBlockResponse p block bytes s) := by
  unfold peerBlockResponse
  dsimp only
  (repeat' split) <;> simp +contextual

@[simp] theorem keeps_peerRequestTimeout (p : ℕ) (s : State) :
    Kept s (peerRequestTimeout p s) := by
  unfold peerRequestTimeout
  split <;> simp

@[simp] theorem keeps_peerBlockRequest (p : ℕ) (block : ℕ) (s : State) :
    Kept s (peerBlockRequest p block s) := by
  unfold peerBlockRequest
  simp

/-! ## Scheduler -/

@[simp] theorem keeps_strobeLine (b : ℕ) (kind : StrobeKind) (l : TLine) (s : State) :
    Kept s (State.strobeLine b kind l s).1 := by
  unfold State.strobeLine
  simp

@[simp] theorem keeps_sendWav (b : ℕ) (kind : FireKind) (s : State) (w : PrepWave) :
    Kept s (State.sendWav b kind s w) := by
  unfold State.sendWav
  simp

@[simp] theorem keeps_emitPulse (b : ℕ) (g : ℕ) (kind : FireKind) (fire : ℕ) (s : State) :
    Kept s (State.emitPulse b g kind fire s) := by
  unfold State.emitPulse
  simp

@[simp] theorem keeps_holdOne (b g : Nat) (x : State × List TLine) (l : TLine) :
    Kept x.1 (State.holdOne b g x l).1 := by
  refine ⟨?_, ?_, ?_, ?_, ?_⟩ <;> unfold State.holdOne <;> (try dsimp only) <;> (repeat' split) <;> (try simp [*])

@[simp] theorem keeps_holdAll (b : ℕ) (g : ℕ) (s : State) :
    Kept s (State.holdAll b g s) := by
  unfold State.holdAll
  simp

@[simp] theorem keeps_correctOne (b g : Nat) (x : State × List TLine) (l : TLine) :
    Kept x.1 (State.correctOne b g x l).1 := by
  refine ⟨?_, ?_, ?_, ?_, ?_⟩ <;> unfold State.correctOne <;> (try dsimp only) <;> (repeat' split) <;> (try simp [*])

@[simp] theorem keeps_correctAll (b : ℕ) (g : ℕ) (s : State) :
    Kept s (State.correctAll b g s) := by
  unfold State.correctAll
  simp

@[simp] theorem keeps_releaseFrom (b : ℕ) (g : ℕ) (n : List TLine) (n1 : List TLine) (s : State) :
    Kept s (State.releaseFrom b g n n1 s) := by
  suffices h : ∀ (rest before : List TLine) (s t : State), t = State.releaseFrom b g before rest s → Kept s t from h _ _ _ _ rfl
  intro rest
  induction rest with
  | nil => intro before s t ht; subst ht; simp [State.releaseFrom]
  | cons l rest ih =>
    intro before s t ht
    rw [State.releaseFrom] at ht
    split at ht
    · exact ih _ _ _ ht
    · extract_lets c floor at ht
      split at ht
      · subst ht; simp
      · split at ht <;> split at ht
        all_goals first | (subst ht; simp; done) | skip
        all_goals
          extract_lets r spaced f out s1 t1 t2 s2 s3 at ht
          have h1 : Kept s s1 := by simp [s1, out]
          have h2 : Kept s s2 := by simp [s2, h1]
          have h3 : Kept s s3 := by simp only [s3]; split <;> simp [h2]
          have := ih _ _ _ ht
          simp [this, h3]

@[simp] theorem keeps_releaseDue (b : ℕ) (g : ℕ) (s : State) :
    Kept s (State.releaseDue b g s) := by
  unfold State.releaseDue
  simp

@[simp] theorem keeps_takeLine (b : ℕ) (y : Word) (s : State) :
    Kept s (State.takeLine b y s) := by
  unfold State.takeLine
  simp

@[simp] theorem keeps_issueTicket (b : ℕ) (g : ℕ) (f : ℕ) (lineTime : ℕ) (period : ℕ) (s : State) :
    Kept s (State.issueTicket b g f lineTime period s) := by
  unfold State.issueTicket
  simp

@[simp] theorem keeps_dueHit (b : ℕ) (g : ℕ) (a : Aim) (s : State) :
    Kept s (State.dueHit b g a s) := by
  suffices h : ∀ t, t = State.dueHit b g a s → Kept s t from h _ rfl
  intro t ht
  delta State.dueHit at ht
  extract_lets y r s1 t period near f s2 at ht
  have hs1 : Kept s s1 := by
    refine ⟨?_, ?_, ?_, ?_, ?_⟩ <;> (try simp only [s1]) <;> (repeat' split) <;> simp []
  have hs2 : Kept s s2 := by
    refine ⟨?_, ?_, ?_, ?_, ?_⟩ <;> (try simp only [s2]) <;> (repeat' split) <;> simp [hs1]
  subst ht
  refine ⟨?_, ?_, ?_, ?_, ?_⟩ <;> (repeat' split) <;> simp [hs1, hs2]

@[simp] theorem keeps_hits (b : ℕ) (g : ℕ) (n : ℕ) (s : State) :
    Kept s (State.hits b g n s) := by
  induction n generalizing s with
  | zero => refine ⟨?_, ?_, ?_, ?_, ?_⟩ <;> unfold State.hits <;> (try intro h) <;> (try simp [*, memWriteN_wf, flashImage_wf, memFilter_wf])
  | succ k ih => refine ⟨?_, ?_, ?_, ?_, ?_⟩ <;> unfold State.hits <;> (try dsimp only) <;> (repeat' split) <;> (try intro h) <;> (try simp [*, memWriteN_wf, flashImage_wf, memFilter_wf]) <;> (try simp +contextual [*, memWriteN_wf, flashImage_wf, memFilter_wf])

@[simp] theorem keeps_burstStep (b : ℕ) (g : ℕ) (periodic : Bool) (s : State) :
    Kept s (State.burstStep b g periodic s) := by
  unfold State.burstStep
  dsimp only
  (repeat' split) <;> simp

@[simp] theorem keeps_evalBar (b : ℕ) (edge : Bool) (s : State) :
    Kept s (State.evalBar b edge s) := by
  unfold State.evalBar
  simp

@[simp] theorem keeps_evalOnce (e : Evals) (s : State) (b : ℕ) :
    Kept s (State.evalOnce e s b) := by
  unfold State.evalOnce
  simp

@[simp] theorem keeps_settleEvals (s : State) :
    Kept s (State.settleEvals s) := by
  unfold State.settleEvals
  simp

@[simp] theorem keeps_askEdge (n : ℕ) (s : State) :
    Kept s (State.askEdge n s) := by
  unfold State.askEdge
  simp

@[simp] theorem keeps_askPeriodic (s : State) :
    Kept s (State.askPeriodic s) := by
  unfold State.askPeriodic
  simp

@[simp] theorem keeps_atTick_pending (te : Nat) (f : State → State) (h : ∀ s, (f s).pending = s.pending) (s : State) :
    (State.atTick te f s).pending = s.pending := by simp [State.atTick, h]

@[simp] theorem keeps_atTick_rung (te : Nat) (f : State → State) (h : ∀ s, (f s).rung = s.rung) (s : State) :
    (State.atTick te f s).rung = s.rung := by simp [State.atTick, h]

@[simp] theorem keeps_atTick_hbm (te : Nat) (f : State → State) (h : ∀ s, (f s).mem.hbm = s.mem.hbm) (s : State) :
    (State.atTick te f s).mem.hbm = s.mem.hbm := by simp [State.atTick, h]

@[simp] theorem keeps_atTick_onchip (te : Nat) (f : State → State) (h : ∀ s, (f s).mem.onchip = s.mem.onchip) (s : State) :
    (State.atTick te f s).mem.onchip = s.mem.onchip := by simp [State.atTick, h]

@[simp] theorem keeps_atTick_flashBytes (te : Nat) (f : State → State) (h : ∀ s, (f s).flash.bytes = s.flash.bytes) (s : State) :
    (State.atTick te f s).flash.bytes = s.flash.bytes := by simp [State.atTick, h]

@[simp] theorem keeps_sendStream (s : State) :
    Kept s (State.sendStream s) := by
  unfold State.sendStream
  simp

@[simp] theorem keeps_periodicEvaluation (s : State) :
    Kept s (periodicEvaluation s) := by
  unfold periodicEvaluation
  simp

@[simp] theorem keeps_afterSample (n : ℕ) (old : State) (r : State × Option StreamEdge) (h : Kept old r.1) :
    Kept old (State.afterSample n old r) := by
  unfold State.afterSample
  dsimp only
  (repeat' split) <;> simp_all

@[simp] theorem keeps_inputMismatch (n : ℕ) (s : State) :
    Kept s (State.inputMismatch n s) := by
  unfold State.inputMismatch
  simp

@[simp] theorem keeps_disagree (s : State) (e : StreamEdge) :
    Kept s (State.disagree s e) := by
  unfold State.disagree
  dsimp only
  (repeat' split) <;> simp

@[simp] theorem keeps_compareEdges (es : List StreamEdge) (s : State) :
    Kept s (State.compareEdges es s) := by
  unfold State.compareEdges
  dsimp only
  (repeat' split) <;> simp

@[simp] theorem keeps_dropUnmatched (closed : ℕ) (s : State) :
    Kept s (State.dropUnmatched closed s) := by
  unfold State.dropUnmatched
  simp

@[simp] theorem keeps_streamEdge (s : State) (e : StreamEdge) :
    Kept s (State.streamEdge s e) := by
  unfold State.streamEdge
  simp

@[simp] theorem keeps_streamMotion (s : State) (x : ℕ × ℕ × ℕ) :
    Kept s (State.streamMotion s x) := by
  unfold State.streamMotion
  simp

@[simp] theorem keeps_eventsThrough (te : ℕ) (s : State) :
    Kept s (State.eventsThrough te s) := by
  unfold State.eventsThrough
  simp

@[simp] theorem keeps_streamTick (edges : List StreamEdge) (motions : List (ℕ × ℕ × ℕ)) (te : ℕ) (s : State) :
    Kept s (State.streamTick edges motions te s) := by
  unfold State.streamTick
  simp

@[simp] theorem keeps_takeStream (edges : List StreamEdge) (motions : List (ℕ × ℕ × ℕ)) (closed : ℕ) (s : State) :
    Kept s (State.takeStream edges motions closed s) := by
  unfold State.takeStream
  simp

@[simp] theorem keeps_tickleEmit (b : ℕ) (s : State) :
    Kept s (tickleEmit b s) := by
  unfold tickleEmit
  simp

@[simp] theorem keeps_dryRisk (b : ℕ) (s : State) :
    Kept s (dryRisk b s) := by
  unfold dryRisk
  simp

@[simp] theorem keeps_playWave (f : ℕ) (line : Option Word) (s : State) (w : PrepWave) :
    Kept s (State.playWave f line s w) := by
  unfold State.playWave
  simp

@[simp] theorem keeps_pulseTrigouts (g : ℕ) (f : ℕ) (kind : FireKind) (s : State) :
    Kept s (State.pulseTrigouts g f kind s) := by
  unfold State.pulseTrigouts
  simp

@[simp] theorem keeps_ejected (b g f : ℕ) (spit : Bool) (s : State) :
    Kept s (State.ejected b g f spit s) := by
  unfold State.ejected
  simp

@[simp] theorem keeps_firePasses (b : ℕ) (g : ℕ) (f : ℕ) (lineTime : ℕ) (kind : FireKind) (line : Option Word) (ws : List PrepWave) (s : State) :
    Kept s (State.firePasses b g f lineTime kind line ws s) := by
  unfold State.firePasses
  simp

@[simp] theorem keeps_digestPort (b : ℕ) (l : TLine) (ws : List PrepWave) (s : State) (q : PrepPort) :
    Kept s (State.digestPort b l ws s q) := by
  unfold State.digestPort
  simp

@[simp] theorem keeps_fireLine (b : ℕ) (g : ℕ) (l : TLine) (s : State) :
    Kept s (State.fireLine b g l s) := by
  unfold State.fireLine
  dsimp only
  (repeat' split) <;> simp

@[simp] theorem keeps_firePulse (b : ℕ) (g : ℕ) (p : Pulse) (s : State) :
    Kept s (State.firePulse b g p s) := by
  unfold State.firePulse
  simp

@[simp] theorem keeps_fireTime (b : ℕ) (s : State) :
    Kept s (fireTime b s) := by
  unfold fireTime
  dsimp only
  (repeat' split) <;> simp

@[simp] theorem keeps_fireEnd (b : ℕ) (s : State) :
    Kept s (fireEnd b s) := by
  unfold fireEnd
  simp

@[simp] theorem keeps_trigoutPulse (k : ℕ) (s : State) :
    Kept s (trigoutPulse k s) := by
  unfold trigoutPulse
  simp

end Sys2Proof.Laws
end

