-- ==== Sys2Proof/Laws/KeepsLinks.lean ====
section
/-!
SUPPORT. What is left alone, operation by operation: the queue of commands, the doorbells where no doorbell is
taken, and the memories or their canonical form.  Here the Cane ports, wake, temperature and pairing.
-/

namespace Sys2Proof.Laws

open Sys2Proof Sys2Proof.Machine

set_option linter.all false

/-! ## CanePorts -/

@[simp] theorem keeps_losePort (p : ℕ) (s : State) :
    KeptRest s (State.losePort p s) := by
  unfold State.losePort
  (try dsimp only)
  (repeat' split) <;> simp +contextual

@[simp] theorem keeps_blockLockLoss (p : ℕ) (s : State) :
    KeptRest s (blockLockLoss p s) := by
  unfold blockLockLoss
  (try dsimp only)
  (repeat' split) <;> simp +contextual

@[simp] theorem keeps_rimMissing (p : ℕ) (s : State) :
    KeptRest s (rimMissing p s) := by
  unfold rimMissing
  (try dsimp only)
  (repeat' split) <;> simp +contextual

@[simp] theorem keeps_judgeDown (p : ℕ) (s : State) :
    KeptRest s (State.judgeDown p s) := by
  unfold State.judgeDown
  (try dsimp only)
  (repeat' split) <;> simp +contextual

@[simp] theorem keeps_trainTimeout (p : ℕ) (s : State) :
    KeptRest s (trainTimeout p s) := by
  unfold trainTimeout
  (try dsimp only)
  (repeat' split) <;> simp +contextual

@[simp] theorem keeps_trainRestart (p : ℕ) (s : State) :
    KeptRest s (trainRestart p s) := by
  unfold trainRestart
  (try dsimp only)
  (repeat' split) <;> simp +contextual

@[simp] theorem keeps_rimReceived (p : ℕ) (fault : Bool) (blockLock : Bool) (spaced : Bool) (s : State) :
    KeptRest s (rimReceived p fault blockLock spaced s) := by
  unfold rimReceived
  (try dsimp only)
  (repeat' split) <;> simp +contextual

@[simp] theorem keeps_stsReceived (p : ℕ) (sts : Sts) (s : State) :
    Kept s (stsReceived p sts s) := by
  suffices h : ∀ t, t = stsReceived p sts s → Kept s t from h _ rfl
  intro t ht
  delta stsReceived at ht
  extract_lets x hears s1 s2 s3 at ht
  have hs1 : Kept s s1 := by
    refine ⟨?_, ?_, ?_, ?_, ?_⟩ <;> (try simp only [s1]) <;> (repeat' split) <;> simp []
  have hs2 : Kept s s2 := by
    refine ⟨?_, ?_, ?_, ?_, ?_⟩ <;> (try simp only [s2]) <;> (repeat' split) <;> simp [hs1]
  have hs3 : Kept s s3 := by
    refine ⟨?_, ?_, ?_, ?_, ?_⟩ <;> (try simp only [s3]) <;> (repeat' split) <;> simp [hs1, hs2]
  subst ht
  refine ⟨?_, ?_, ?_, ?_, ?_⟩ <;> (repeat' split) <;> simp [hs1, hs2, hs3]

@[simp] theorem keeps_hltReceived (p : ℕ) (seq : ℕ) (recs : List HltRec) (s : State) :
    Kept s (hltReceived p seq recs s) := by
  unfold hltReceived
  simp

@[simp] theorem keeps_portUp (p : ℕ) (s : State) :
    Kept s (State.portUp p s) := by
  unfold State.portUp
  simp

@[simp] theorem keeps_configurePort (p : ℕ) (s : State) :
    Kept s (State.configurePort p s) := by
  unfold State.configurePort
  (try dsimp only)
  (repeat' split) <;> simp

@[simp] theorem keeps_tsyExchange (p : ℕ) (t1 : ℕ) (tRx : ℕ) (tTx : ℕ) (t4 : ℕ) (s : State) :
    Kept s (State.tsyExchange p t1 tRx tTx t4 s) := by
  unfold State.tsyExchange
  simp

@[simp] theorem keeps_frameAcked (p : ℕ) (seq : ℕ) (s : State) :
    Kept s (State.frameAcked p seq s) := by
  unfold State.frameAcked
  simp

@[simp] theorem keeps_ackReceived (p : ℕ) (seq : ℕ) (tRx : ℕ) (tTx : ℕ) (t4 : ℕ) (s : State) :
    Kept s (ackReceived p seq tRx tTx t4 s) := by
  unfold ackReceived
  (try dsimp only)
  (repeat' split) <;> simp

@[simp] theorem keeps_retransmit (p : ℕ) (f : TxFrame) (s : State) :
    KeptRest s (State.retransmit p f s) := by
  unfold State.retransmit
  (try dsimp only)
  (repeat' split) <;> simp +contextual

@[simp] theorem keeps_nakReceived (p : ℕ) (seq : ℕ) (_code : ℕ) (s : State) :
    KeptRest s (nakReceived p seq _code s) := by
  unfold nakReceived
  (try dsimp only)
  (repeat' split) <;> simp +contextual

@[simp] theorem keeps_ackTimeout (p : ℕ) (seq : ℕ) (s : State) :
    KeptRest s (ackTimeout p seq s) := by
  unfold ackTimeout
  (try dsimp only)
  (repeat' split) <;> simp +contextual

/-! ## Wake -/

@[simp] theorem keeps_startWake (src : ℕ) (s : State) :
    Kept s (State.startWake src s) := by
  unfold State.startWake
  (repeat' split) <;> simp

@[simp] theorem keeps_postPower (old : PwrState) (s : State) :
    Kept s (State.postPower old s) := by
  unfold State.postPower
  simp

@[simp] theorem keeps_runLink (s : State) :
    Kept s (State.runLink s) := by
  unfold State.runLink
  simp

@[simp] theorem keeps_finishWakeAs (o : Origin) (s : State) :
    KeptRest s (State.finishWakeAs o s) := by
  unfold State.finishWakeAs
  (try dsimp only)
  (repeat' split) <;> simp +contextual

@[simp] theorem keeps_finishWake (s : State) :
    KeptRest s (State.finishWake s) := by
  unfold State.finishWake
  (try dsimp only)
  (repeat' split) <;> simp +contextual

@[simp] theorem keeps_wakeComplete (s : State) :
    KeptRest s (wakeComplete s) := by
  unfold wakeComplete
  (try dsimp only)
  (repeat' split) <;> simp +contextual

@[simp] theorem keeps_hostAccess (s : State) :
    KeptRest s (State.hostAccess s) := by
  unfold State.hostAccess
  (try dsimp only)
  (repeat' split) <;> simp +contextual

/-! ## Thermal -/

@[simp] theorem keeps_setCeiling (c : ℕ) (s : State) :
    Kept s (State.setCeiling c s) := by
  unfold State.setCeiling
  simp

@[simp] theorem keeps_combineCeilings (s : State) :
    Kept s (State.combineCeilings s) := by
  unfold State.combineCeilings
  simp

@[simp] theorem keeps_refreshCeiling (s : State) :
    Kept s (State.refreshCeiling s) := by
  unfold State.refreshCeiling
  simp

@[simp] theorem keeps_postSensor (k : ℕ) (valid : Bool) (s : State) :
    Kept s (State.postSensor k valid s) := by
  unfold State.postSensor
  simp

@[simp] theorem keeps_sampleTk (k : ℕ) (r : Reading) (s : State) :
    Kept s (State.sampleTk k r s) := by
  unfold State.sampleTk
  simp

@[simp] theorem keeps_vote (s : State) :
    Kept s (State.vote s) := by
  unfold State.vote
  simp

@[simp] theorem keeps_sampleHbm (r : Reading) (s : State) :
    Kept s (State.sampleHbm r s) := by
  unfold State.sampleHbm
  (repeat' split) <;> simp

@[simp] theorem keeps_followDieMax (s : State) :
    Kept s (State.followDieMax s) := by
  unfold State.followDieMax
  simp

@[simp] theorem keeps_thermalSample (r : TempReadings) (s : State) :
    Kept s (thermalSample r s) := by
  unfold thermalSample
  simp

@[simp] theorem keeps_sensorValidityChange (i : ℕ) (s : State) :
    KeptRest s (sensorValidityChange i s) := by
  unfold sensorValidityChange
  (try dsimp only)
  (repeat' split) <;> simp +contextual

@[simp] theorem keeps_thermGradient (s : State) :
    Kept s (thermGradient s) := by
  unfold thermGradient
  simp

@[simp] theorem keeps_resumeTimeouts (s : State) :
    Kept s (State.resumeTimeouts s) := by
  unfold State.resumeTimeouts
  split <;> simp

@[simp] theorem keeps_shed (old : ℕ) (s : State) :
    Kept s (State.shed old s) := by
  unfold State.shed
  simp

@[simp] theorem keeps_setLevel (d : ℕ) (n : ℕ) (s : State) :
    Kept s (State.setLevel d n s) := by
  unfold State.setLevel
  simp

@[simp] theorem keeps_thermLevel (d : ℕ) (s : State) :
    Kept s (thermLevel d s) := by
  unfold thermLevel
  simp

@[simp] theorem keeps_hbmSensorLost (s : State) :
    Kept s (hbmSensorLost s) := by
  unfold hbmSensorLost
  simp

@[simp] theorem keeps_keeperTrip (s : State) :
    (keeperTrip s).pending = s.pending ∧
    (s.mem.hbm.wf = true → (keeperTrip s).mem.hbm.wf = true) ∧
    (s.mem.onchip.wf = true → (keeperTrip s).mem.onchip.wf = true) ∧
    (s.flash.bytes.wf = true → (keeperTrip s).flash.bytes.wf = true) := by
  unfold keeperTrip
  (repeat' split) <;> simp +contextual

@[simp] theorem keeps_safeRestart (s : State) :
    (safeRestart s).pending = s.pending ∧
    (s.mem.hbm.wf = true → (safeRestart s).mem.hbm.wf = true) ∧
    (s.mem.onchip.wf = true → (safeRestart s).mem.onchip.wf = true) ∧
    (s.flash.bytes.wf = true → (safeRestart s).flash.bytes.wf = true) := by
  unfold safeRestart
  (repeat' split) <;> simp +contextual

@[simp] theorem keeps_reportTrip (s : State) :
    Kept s (State.reportTrip s) := by
  unfold State.reportTrip
  simp

/-! ## Pairing -/

@[simp] theorem keeps_pairTrainTimeout (s : State) :
    Kept s (pairTrainTimeout s) := by
  unfold pairTrainTimeout
  split <;> simp

@[simp] theorem keeps_pairRetrain (s : State) :
    Kept s (pairRetrain s) := by
  unfold pairRetrain
  simp

@[simp] theorem keeps_takeRole (old s : State) :
    Kept s (State.takeRole old s) := by
  unfold State.takeRole
  simp

@[simp] theorem keeps_pairHello (h : Hello) (s : State) :
    Kept s (pairHello h s) := by
  unfold pairHello
  (repeat' split) <;> simp

@[simp] theorem keeps_hbToggle (s : State) :
    Kept s (hbToggle s) := by
  unfold hbToggle
  simp

@[simp] theorem keeps_ownFault (s : State) (n : ℕ) :
    Kept s (State.ownFault s n) := by
  unfold State.ownFault
  simp

@[simp] theorem keeps_ownInputs (s : State) :
    Kept s (State.ownInputs s) := by
  unfold State.ownInputs
  simp

@[simp] theorem keeps_loseLink (s : State) :
    Kept s (State.loseLink s) := by
  unfold State.loseLink
  simp

@[simp] theorem keeps_heartbeatTimeout (pinSilent : Bool) (s : State) :
    Kept s (heartbeatTimeout pinSilent s) := by
  unfold heartbeatTimeout
  simp

@[simp] theorem keeps_faultDeclared (s : State) :
    Kept s (faultDeclared s) := by
  unfold faultDeclared
  simp

@[simp] theorem keeps_sendSnapshot (s : State) :
    Kept s (State.sendSnapshot s) := by
  unfold State.sendSnapshot
  simp

@[simp] theorem keeps_pushTemps (x : TempSnap) (s : State) :
    Kept s (State.pushTemps x s) := by
  unfold State.pushTemps
  simp

@[simp] theorem keeps_twinStatus (contiguous : Bool) (free : ℕ) (sysState : ℕ) (fault : Reason) (s : State) :
    Kept s (State.twinStatus contiguous free sysState fault s) := by
  unfold State.twinStatus
  simp

@[simp] theorem keeps_takePairConfig (both : Bool) (gpio : ℕ) (low : Bool) (m : ℕ) (s : State) :
    Kept s (State.takePairConfig both gpio low m s) := by
  unfold State.takePairConfig
  simp

@[simp] theorem keeps_toUnitS (c : Control) (s : State) :
    Kept s (State.toUnitS c s) := by
  unfold State.toUnitS
  split <;> simp

@[simp] theorem keeps_toUnitP (c : Control) (s : State) :
    Kept s (State.toUnitP c s) := by
  unfold State.toUnitP
  split <;> simp

@[simp] theorem keeps_controlMessage (c : Control) (latency : ℕ) (s : State) :
    Kept s (controlMessage c latency s) := by
  unfold controlMessage
  (repeat' split) <;> simp

@[simp] theorem keeps_inputFallback (s : State) :
    Kept s (inputFallback s) := by
  unfold inputFallback
  simp

@[simp] theorem keeps_ceilingApply (s : State) :
    Kept s (ceilingApply s) := by
  unfold ceilingApply
  split <;> simp

@[simp] theorem keeps_tempSnapshotSend (s : State) :
    Kept s (tempSnapshotSend s) := by
  unfold tempSnapshotSend
  simp

@[simp] theorem keeps_installTrig (s : State) (x : TrigSnap) :
    Kept s (State.installTrig s x) := by
  unfold State.installTrig
  simp

@[simp] theorem keeps_installJoin (s : State) (j : ℕ × Word) :
    Kept s (State.installJoin s j) := by
  unfold State.installJoin
  simp

@[simp] theorem keeps_installHistory (s : State) (h : ℕ × List (ℕ × ℤ × Word)) :
    Kept s (State.installHistory s h) := by
  unfold State.installHistory
  split <;> simp

@[simp] theorem keeps_followTwin (target : SysState) (s : State) :
    Kept s (State.followTwin target s) := by
  unfold State.followTwin
  dsimp only
  (repeat' split) <;> simp

@[simp] theorem keeps_resyncSnapshot (x : Snapshot) (s : State) :
    Kept s (resyncSnapshot x s) := by
  unfold resyncSnapshot
  dsimp only
  (repeat' split) <;> simp

@[simp] theorem keeps_resyncTimeout (s : State) :
    Kept s (resyncTimeout s) := by
  unfold resyncTimeout
  split <;> simp

@[simp] theorem keeps_setCounter (d : ℤ) (s : State) :
    Kept s (State.setCounter d s) := by
  unfold State.setCounter
  simp

@[simp] theorem keeps_timeExchange (t1 : ℕ) (tRx : ℕ) (tTx : ℕ) (t4 : ℕ) (s : State) :
    Kept s (timeExchange t1 tRx tTx t4 s) := by
  suffices h : ∀ t, t = timeExchange t1 tRx tTx t4 s → Kept s t from h _ rfl
  intro t ht
  delta timeExchange at ht
  extract_lets out back theta d s0 theta2 n good was pr sa sb s1 s2 at ht
  have h0 : Kept s s0 := by simp only [s0]; split <;> simp
  have h1 : Kept s sa := by simp [sa, h0]
  have h2 : Kept s sb := by simp only [sb]; split <;> simp [h1]
  have h3 : Kept s s2 := by simp [s2, h2]
  split at ht
  · subst ht; simp
  · split at ht
    · subst ht; simp [h2]
    · split at ht
      · split at ht
        · subst ht; simp [h3]
        · subst ht; exact h3
      · subst ht; exact h2

@[simp] theorem keeps_bulkForward (a : ℕ) (bytes : List Byte) (s : State) :
    KeptHbm s (bulkForward a bytes s) := by
  unfold bulkForward
  (repeat' split) <;> simp +contextual

end Sys2Proof.Laws
end

