-- ==== Sys2Proof/Laws/KeepsStores.lean ====
section
/-!
SUPPORT. What is left alone, operation by operation: the queue of commands, the doorbells where no doorbell is
taken, and the memories or their canonical form.  Here memory, DMA, the one-time memory’s operations, calibration and the data ports.
-/

namespace Sys2Proof.Laws

open Sys2Proof Sys2Proof.Machine

set_option linter.all false

/-! ## Mem -/

@[simp] theorem keeps_resetRegions (s : State) :
    Kept s (State.resetRegions s) := by
  unfold State.resetRegions
  simp

@[simp] theorem keeps_onchipWrite (a : ℕ) (bs : List Byte) (s : State) :
    (State.onchipWrite a bs s).pending = s.pending ∧
    (State.onchipWrite a bs s).rung = s.rung ∧
    (State.onchipWrite a bs s).mem.hbm = s.mem.hbm ∧
    (s.mem.onchip.wf = true → (State.onchipWrite a bs s).mem.onchip.wf = true) ∧
    (State.onchipWrite a bs s).flash.bytes = s.flash.bytes := by
  unfold State.onchipWrite
  (repeat' split) <;> simp +contextual [memWriteN_wf, flashImage_wf, memFilter_wf]

@[simp] theorem keeps_noteError (src : ℕ) (kind : ℕ) (master : ℕ) (unit : ℕ) (address : ℕ) (s : State) :
    Kept s (State.noteError src kind master unit address s) := by
  unfold State.noteError
  simp

@[simp] theorem keeps_violation (master a : ℕ) (k : Access) (s : State) :
    KeptRest s (State.violation master a k s) := by
  unfold State.violation
  (try dsimp only)
  (repeat' split) <;> simp +contextual

@[simp] theorem keeps_postBank (bank : ℕ) (reason : Reason) (pending : Bool) (retired : Bool) (s : State) :
    Kept s (State.postBank bank reason pending retired s) := by
  unfold State.postBank
  simp

@[simp] theorem keeps_retireBank (r : Retire) (s : State) :
    KeptRest s (State.retireBank r s) := by
  unfold State.retireBank
  (try dsimp only)
  (repeat' split) <;> simp +contextual

@[simp] theorem keeps_clearForReform (s : State) :
    Kept s (State.clearForReform s) := by
  unfold State.clearForReform
  dsimp only
  (repeat' split) <;> simp

@[simp] theorem keeps_reformPool (bank : ℕ) (s : State) :
    (State.reformPool bank s).pending = s.pending ∧ (State.reformPool bank s).rung = s.rung ∧
      (State.reformPool bank s).mem.hbm = s.mem.hbm ∧
      (s.mem.onchip.wf = true → (State.reformPool bank s).mem.onchip.wf = true) ∧
      (State.reformPool bank s).flash.bytes = s.flash.bytes := by
  unfold State.reformPool
  simp +contextual [memFilter_wf]

@[simp] theorem keeps_weaveReformDone (s : State) :
    KeptRest s (weaveReformDone s) := by
  unfold weaveReformDone
  (try dsimp only)
  (repeat' split) <;> simp +contextual

@[simp] theorem keeps_rowPending (row : HbmRow) (reason : Reason) (s : State) :
    Kept s (State.rowPending row reason s) := by
  unfold State.rowPending
  simp

@[simp] theorem keeps_corrected (e : MemError) (s : State) :
    KeptRest s (State.corrected e s) := by
  unfold State.corrected
  (try dsimp only)
  (repeat' split) <;> simp +contextual

@[simp] theorem keeps_consumeStake (a : ℕ) (s : State) :
    KeptRest s (State.consumeStake a s) := by
  unfold State.consumeStake
  (try dsimp only)
  (repeat' split) <;> simp +contextual

@[simp] theorem keeps_uncorrectable (e : MemError) (s : State) :
    KeptRest s (State.uncorrectable e s) := by
  unfold State.uncorrectable
  (try dsimp only)
  (repeat' split) <;> simp +contextual

@[simp] theorem keeps_scrubStep (source : Fin 3) (found : List MemError) (passEnd : Bool) (s : State) :
    KeptRest s (scrubStep source found passEnd s) := by
  unfold scrubStep
  (try dsimp only)
  (repeat' split) <;> simp +contextual

@[simp] theorem keeps_poisonRewrite (a : ℕ) (s : State) :
    KeptRest s (poisonRewrite a s) := by
  unfold poisonRewrite
  (try dsimp only)
  (repeat' split) <;> simp +contextual

@[simp] theorem keeps_tapWrite (a : ℕ) (v : Word) (s : State) :
    (State.tapWrite a v s).pending = s.pending ∧
    (State.tapWrite a v s).rung = s.rung ∧
    (State.tapWrite a v s).mem.hbm = s.mem.hbm ∧
    (s.mem.onchip.wf = true → (State.tapWrite a v s).mem.onchip.wf = true) ∧
    (State.tapWrite a v s).flash.bytes = s.flash.bytes := by
  unfold State.tapWrite
  (repeat' split) <;> simp +contextual

@[simp] theorem keeps_debugTapAccess (address : ℕ) (write : Option Word) (s : State) :
    KeptRest s (debugTapAccess address write s) := by
  unfold debugTapAccess
  (try dsimp only)
  (repeat' split) <;> simp +contextual

/-! ## Dma -/

@[simp] theorem keeps_hostWrites (c size n a : ℕ) (bs : List Byte) (s : State) :
    Kept s (hostWrites c size n a bs s) := by
  induction n generalizing a bs s with
  | zero => simp [hostWrites]
  | succ n ih =>
    unfold hostWrites
    dsimp only
    split <;> simp [ih]

@[simp] theorem keeps_spaceWrite (c space a : ℕ) (bs : List Byte) (s : State) :
    KeptRam s (State.spaceWrite c space a bs s) := by
  unfold State.spaceWrite
  (try dsimp only)
  (repeat' split) <;> simp +contextual

@[simp] theorem keeps_dmaHalt (c : ℕ) (reason : Reason) (f : Failure) (s : State) :
    Kept s (State.dmaHalt c reason f s) := by
  unfold State.dmaHalt
  simp

@[simp] theorem keeps_dmaDenied (c : ℕ) (f : Failure) (write poisoned : Bool) (s : State) :
    KeptRest s (State.dmaDenied c f write poisoned s) := by
  unfold State.dmaDenied
  (try dsimp only)
  (repeat' split) <;> simp +contextual

@[simp] theorem keeps_elementDone (c k pos : ℕ) (irq : Bool) (s : State) :
    Kept s (State.elementDone c k pos irq s) := by
  unfold State.elementDone
  dsimp only
  split <;> simp

@[simp] theorem keeps_gatherDone (c pos : ℕ) (irq : Bool) (s : State) :
    Kept s (State.gatherDone c pos irq s) := by
  unfold State.gatherDone
  dsimp only
  (repeat' split) <;> simp

@[simp] theorem keeps_scatterOn (c n : ℕ) (s : State) :
    Kept s (State.scatterOn c n s) := by
  unfold State.scatterOn
  dsimp only
  (repeat' split) <;> simp

@[simp] theorem keeps_dmaElement (c : ℕ) (k : ℕ) (bs : List Byte) (s : State) :
    Kept s (State.dmaElement c k bs s) := by
  unfold State.dmaElement
  simp

@[simp] theorem keeps_dmaFetch (c k : ℕ) (s : State) :
    KeptRest s (State.dmaFetch c k s) := by
  unfold State.dmaFetch
  (try dsimp only)
  (repeat' split) <;> simp +contextual

@[simp] theorem keeps_dmaTake (c : ℕ) (s : State) :
    Kept s (State.dmaTake c s) := by
  unfold State.dmaTake
  dsimp only
  (repeat' split) <;> simp

@[simp] theorem keeps_dmaAsk (c a n : ℕ) (s : State) :
    Kept s (State.dmaAsk c a n s) := by
  unfold State.dmaAsk
  dsimp only
  (repeat' split) <;> simp

@[simp] theorem keeps_dmaBackward (c n : ℕ) (s : State) :
    KeptRest s (State.dmaBackward c n s) := by
  unfold State.dmaBackward
  (try dsimp only)
  (repeat' split) <;> simp +contextual

@[simp] theorem keeps_dmaRead (c n : ℕ) (s : State) :
    KeptRest s (State.dmaRead c n s) := by
  unfold State.dmaRead
  (try dsimp only)
  (repeat' split) <;> simp +contextual

@[simp] theorem keeps_dmaAgain (c : ℕ) (s : State) :
    Kept s (State.dmaAgain c s) := by
  unfold State.dmaAgain
  dsimp only
  (repeat' split) <;> simp

@[simp] theorem keeps_dmaWrite (c : ℕ) (s : State) :
    KeptRest s (State.dmaWrite c s) := by
  unfold State.dmaWrite
  (try dsimp only)
  (repeat' split) <;> simp +contextual

@[simp] theorem keeps_dmaFail (c : ℕ) (s : State) :
    Kept s (State.dmaFail c s) := by
  unfold State.dmaFail
  dsimp only
  (repeat' split) <;> simp

@[simp] theorem keeps_dmaStep (c : ℕ) (s : State) :
    KeptRest s (State.dmaStep c s) := by
  unfold State.dmaStep
  (try dsimp only)
  (repeat' split) <;> simp +contextual

@[simp] theorem keeps_dmaPause (c : ℕ) (s : State) :
    Kept s (State.dmaPause c s) := by
  unfold State.dmaPause
  dsimp only
  (repeat' split) <;> simp

@[simp] theorem keeps_dmaGo (c goal n : ℕ) (s : State) :
    KeptRest s (State.dmaGo c goal n s) := by
  induction n generalizing s with
  | zero => simp [State.dmaGo]
  | succ n ih =>
    unfold State.dmaGo
    dsimp only
    (repeat' split) <;> simp +contextual [ih]

@[simp] theorem keeps_dmaRun (c : ℕ) (s : State) :
    KeptRest s (State.dmaRun c s) := by
  unfold State.dmaRun
  (try dsimp only)
  (repeat' split) <;> simp +contextual

@[simp] theorem keeps_dmaPreemptChan (c : ℕ) (counts : Bool) (s : State) :
    Kept s (State.dmaPreemptChan c counts s) := by
  unfold State.dmaPreemptChan
  simp

@[simp] theorem keeps_dmaPreemptAll (s : State) :
    Kept s (State.dmaPreemptAll s) := by
  unfold State.dmaPreemptAll
  simp

@[simp] theorem keeps_assignUnits (n : ℕ) (s : State) :
    KeptRest s (assignUnits n s) := by
  induction n generalizing s with
  | zero => simp [assignUnits]
  | succ n ih =>
    unfold assignUnits
    dsimp only
    (repeat' split) <;> simp +contextual [ih]

@[simp] theorem keeps_dmaUnitAssign (s : State) :
    KeptRest s (dmaUnitAssign s) := by
  unfold dmaUnitAssign
  (try dsimp only)
  (repeat' split) <;> simp +contextual

@[simp] theorem keeps_dmaPreempt (s : State) :
    Kept s (dmaPreempt s) := by
  unfold dmaPreempt
  (repeat' split) <;> simp

@[simp] theorem keeps_dmaYield (s : State) :
    KeptRest s (dmaYield s) := by
  unfold dmaYield
  (try dsimp only)
  (repeat' split) <;> simp +contextual

@[simp] theorem keeps_dmaGoOn (c : ℕ) (s : State) :
    KeptRest s (State.dmaGoOn c s) := by
  unfold State.dmaGoOn
  split <;> simp +contextual

@[simp] theorem keeps_dmaHostCompletion (c a : ℕ) (r : Completion) (s : State) :
    KeptRest s (dmaHostCompletion c a r s) := by
  unfold dmaHostCompletion
  (try dsimp only)
  (repeat' split) <;> simp +contextual

@[simp] theorem keeps_dmaHostTimeout (c : ℕ) (s : State) :
    KeptRest s (dmaHostTimeout c s) := by
  unfold dmaHostTimeout
  (try dsimp only)
  (repeat' split) <;> simp +contextual

@[simp] theorem keeps_dmaMemTimeout (c : ℕ) (s : State) :
    Kept s (dmaMemTimeout c s) := by
  unfold dmaMemTimeout
  dsimp only
  (repeat' split) <;> simp

@[simp] theorem keeps_dmaTransferEnd (c : ℕ) (s : State) :
    Kept s (dmaTransferEnd c s) := by
  unfold dmaTransferEnd
  simp

@[simp] theorem keeps_dmaRewait (c : ℕ) (x : DmaChan) (s : State) :
    Kept s (State.dmaRewait c x s) := by
  unfold State.dmaRewait
  simp

@[simp] theorem keeps_dmaPass (c n skipped : ℕ) (s : State) :
    Kept s (State.dmaPass c n skipped s) := by
  unfold State.dmaPass
  dsimp only
  (repeat' split) <;> simp

@[simp] theorem keeps_dmaFlush (c n : ℕ) (s : State) :
    KeptRest s (State.dmaFlush c n s) := by
  induction n generalizing s with
  | zero => simp [State.dmaFlush]
  | succ n ih =>
    unfold State.dmaFlush
    dsimp only
    split <;> simp +contextual [ih]

@[simp] theorem keeps_dmaSkipPair (c : ℕ) (s : State) :
    KeptRest s (State.dmaSkipPair c s) := by
  unfold State.dmaSkipPair
  (try dsimp only)
  (repeat' split) <;> simp +contextual

/-! ## Otp -/

@[simp] theorem keeps_driveVqps (s : State) :
    Kept s (State.driveVqps s) := by
  unfold State.driveVqps
  simp

@[simp] theorem keeps_queueOtp (op : OtpOp) (w : Waiter) (s : State) :
    Kept s (State.queueOtp op w s) := by
  unfold State.queueOtp
  simp

@[simp] theorem keeps_endOtp (reason : Reason) (w : Waiter) (s : State) :
    Kept s (State.endOtp reason w s) := by
  unfold State.endOtp
  simp

@[simp] theorem keeps_logOtp (old : Table OtpWord) (op : OtpOp) (w : Waiter) (reason : Reason) (s : State) :
    Kept s (State.logOtp old op w reason s) := by
  unfold State.logOtp
  dsimp only
  (repeat' split) <;> simp

@[simp] theorem keeps_otpOperationDone (x : OtpPulses) (s : State) :
    Kept s (otpOperationDone x s) := by
  unfold otpOperationDone
  (repeat' split) <;> simp

@[simp] theorem keeps_otpRecheckDue (margins : Table (Word × Word)) (s : State) :
    Kept s (otpRecheckDue margins s) := by
  unfold otpRecheckDue
  dsimp only
  (repeat' split) <;> simp

/-! ## Cal -/

@[simp] theorem keeps_ownDac (target : ℕ) (own : Bool) (s : State) :
    Kept s (State.ownDac target own s) := by
  unfold State.ownDac
  simp

@[simp] theorem keeps_calDueAt (k : ℕ) (s : State) :
    Kept s (State.calDueAt k s) := by
  unfold State.calDueAt
  dsimp only
  (repeat' split) <;> simp

@[simp] theorem keeps_calDriftDue (s : State) :
    Kept s (calDriftDue s) := by
  unfold calDriftDue
  refine ⟨foldl_pending _ ?_ _ _, foldl_rung _ ?_ _ _, foldl_hbm _ ?_ _ _, foldl_onchip _ ?_ _ _, foldl_flashBytes _ ?_ _ _⟩ <;> intro s a <;> dsimp only <;> split <;> (try rfl) <;> split <;> simp

@[simp] theorem keeps_beginRun (r : CalRun) (s : State) :
    Kept s (State.beginRun r s) := by
  unfold State.beginRun
  simp

@[simp] theorem keeps_startDue (s : State) :
    Kept s (State.startDue s) := by
  unfold State.startDue
  (repeat' split) <;> simp

@[simp] theorem keeps_endCalWaiter (w : Waiter) (reason : Reason) (s : State) :
    Kept s (State.endCalWaiter w reason s) := by
  unfold State.endCalWaiter
  simp

@[simp] theorem keeps_endCalRun (r : CalRun) (applied : Bool) (reason : Reason) (s : State) :
    Kept s (State.endCalRun r applied reason s) := by
  unfold State.endCalRun
  dsimp only
  (repeat' split) <;> simp

@[simp] theorem keeps_calRunStart (s : State) :
    Kept s (calRunStart s) := by
  unfold calRunStart
  dsimp only
  (repeat' split) <;> simp

@[simp] theorem keeps_calRunDone (coeffs : List (ℕ × Coeff)) (s : State) :
    Kept s (calRunDone coeffs s) := by
  unfold calRunDone
  (repeat' split) <;> simp

@[simp] theorem keeps_adcScan (raws : List ℤ) (s : State) :
    Kept s (adcScan raws s) := by
  unfold adcScan
  simp

@[simp] theorem keeps_loadCal (s : State) :
    Kept s (State.loadCal s) := by
  unfold State.loadCal
  simp

@[simp] theorem keeps_calStored (ok : Bool) (s : State) :
    KeptRest s (calStored ok s) := by
  unfold calStored State.cutRecord
  dsimp only
  cases ok <;> (repeat' split) <;> simp +contextual [flashProgram_wf]

/-! ## DataPorts -/

@[simp] theorem keeps_portVector (p : ℕ) (was : Bool) (s : State) :
    Kept s (State.portVector p was s) := by
  unfold State.portVector
  simp

@[simp] theorem keeps_postPort (p : ℕ) (code : BitVec 16) (reason : Reason) (detail : ℕ) (s : State) :
    Kept s (State.postPort p code reason detail s) := by
  unfold State.postPort
  simp

@[simp] theorem keeps_setTarget (p : ℕ) (v : Word) (s : State) :
    Kept s (State.setTarget p v s) := by
  unfold State.setTarget
  simp

@[simp] theorem keeps_bindSession (p : ℕ) (s : State) :
    Kept s (State.bindSession p s) := by
  unfold State.bindSession
  simp

@[simp] theorem keeps_portError (p : ℕ) (code : Reason) (s : State) :
    Kept s (State.portError p code s) := by
  unfold State.portError
  simp

@[simp] theorem keeps_dpOpen (p : ℕ) (ctrl : Word) (s : State) :
    Kept s (dpOpen p ctrl s) := by
  unfold dpOpen
  dsimp only
  (repeat' split) <;> simp

@[simp] theorem keeps_dpFlush (p : ℕ) (ctrl : Word) (s : State) :
    Kept s (dpFlush p ctrl s) := by
  unfold dpFlush
  simp

@[simp] theorem keeps_startClose (p : ℕ) (s : State) :
    Kept s (State.startClose p s) := by
  unfold State.startClose
  simp

@[simp] theorem keeps_dpClose (p : ℕ) (ctrl : Word) (s : State) :
    Kept s (dpClose p ctrl s) := by
  unfold dpClose
  simp

@[simp] theorem keeps_unbindSession (p : ℕ) (s : State) :
    Kept s (State.unbindSession p s) := by
  unfold State.unbindSession
  simp

@[simp] theorem keeps_dpCloseComplete (p : ℕ) (s : State) :
    Kept s (dpCloseComplete p s) := by
  unfold dpCloseComplete
  simp

@[simp] theorem keeps_dpAbort (p : ℕ) (ctrl : Word) (s : State) :
    Kept s (dpAbort p ctrl s) := by
  unfold dpAbort
  simp

@[simp] theorem keeps_acceptBytes (p : ℕ) (bs : List Byte) (s : State) :
    Kept s (State.acceptBytes p bs s) := by
  unfold State.acceptBytes
  simp

@[simp] theorem keeps_dpWindowWrite (p : ℕ) (bytes : List Byte) (poisoned : Bool) (s : State) :
    KeptRest s (dpWindowWrite p bytes poisoned s) := by
  suffices h : ∀ t, t = dpWindowWrite p bytes poisoned s → KeptRest s t from h _ rfl
  intro t ht
  delta dpWindowWrite at ht
  extract_lets a1 a2 s1 x n drop a3 s2 a4 s3 take s4 y a5 at ht
  have hs1 : KeptRest s s1 := by
    refine ⟨?_, ?_, ?_, ?_, ?_⟩ <;> (try simp only [s1, a1, a2, x, n, drop, a3, a4, take, y, a5]) <;> (repeat' split) <;> simp (config := { contextual := true }) []
  have hs2 : KeptRest s s2 := by
    refine ⟨?_, ?_, ?_, ?_, ?_⟩ <;> (try simp only [s2, a1, a2, x, n, drop, a3, a4, take, y, a5]) <;> (repeat' split) <;> simp (config := { contextual := true }) [hs1]
  have hs3 : KeptRest s s3 := by
    refine ⟨?_, ?_, ?_, ?_, ?_⟩ <;> (try simp only [s3, a1, a2, x, n, drop, a3, a4, take, y, a5]) <;> (repeat' split) <;> simp (config := { contextual := true }) [hs1, hs2]
  have hs4 : KeptRest s s4 := by
    refine ⟨?_, ?_, ?_, ?_, ?_⟩ <;> (try simp only [s4, a1, a2, x, n, drop, a3, a4, take, y, a5]) <;> (repeat' split) <;> simp (config := { contextual := true }) [hs1, hs2, hs3]
  (repeat' split at ht) <;> subst ht <;> refine ⟨?_, ?_, ?_, ?_, ?_⟩ <;> simp (config := { contextual := true }) [hs1, hs2, hs3, hs4]

@[simp] theorem keeps_dpWindowRead (p : ℕ) (count : ℕ) (s : State) :
    KeptRest s (dpWindowRead p count s) := by
  unfold dpWindowRead
  (try dsimp only)
  (repeat' split) <;> simp +contextual

@[simp] theorem keeps_dpHbmWriteDone (p : ℕ) (count : ℕ) (s : State) :
    KeptHbm s (dpHbmWriteDone p count s) := by
  unfold dpHbmWriteDone
  (repeat' split) <;> simp +contextual

@[simp] theorem keeps_dpStallTimeout (p : ℕ) (s : State) :
    Kept s (dpStallTimeout p s) := by
  unfold dpStallTimeout
  simp

end Sys2Proof.Laws
end

