-- ==== Sys2Proof/Laws/KeepsHost.lean ====
section
/-!
SUPPORT. What is left alone, operation by operation: the queue of commands, the doorbells where no doorbell is
taken, and the memories or their canonical form.  Here registers, the log, system control, mailboxes, power and start-up.
-/

namespace Sys2Proof.Laws

open Sys2Proof Sys2Proof.Machine

set_option linter.all false

/-! ## Registers -/

@[simp] theorem keeps_returns (v : ℕ) (s : State) :
    Kept s (State.returns v s) := by
  unfold State.returns
  simp

@[simp] theorem keeps_tickLoRead (wide : Bool) (s : State) :
    Kept s (tickLoRead wide s) := by
  unfold tickLoRead
  simp

@[simp] theorem keeps_aonLoRead (wide : Bool) (s : State) :
    Kept s (aonLoRead wide s) := by
  unfold aonLoRead
  simp

@[simp] theorem keeps_ringLostRead (s : State) :
    Kept s (ringLostRead s) := by
  unfold ringLostRead
  simp

@[simp] theorem keeps_dpDroppedRead (p : ℕ) (s : State) :
    Kept s (dpDroppedRead p s) := by
  unfold dpDroppedRead
  simp

@[simp] theorem keeps_pairDivergencesRead (s : State) :
    Kept s (pairDivergencesRead s) := by
  unfold pairDivergencesRead
  simp

@[simp] theorem keeps_unsupportedRequest (offset : ℕ) (size : ℕ) (s : State) :
    Kept s (unsupportedRequest offset size s) := by
  unfold unsupportedRequest
  simp

@[simp] theorem keeps_ringEnableWrite (v : Word) (s : State) :
    Kept s (ringEnableWrite v s) := by
  unfold ringEnableWrite
  simp

@[simp] theorem keeps_ringConsWrite (v : Word) (s : State) :
    Kept s (ringConsWrite v s) := by
  unfold ringConsWrite
  simp

@[simp] theorem keeps_intEnableWrite (v : Word) (s : State) :
    Kept s (intEnableWrite v s) := by
  unfold intEnableWrite
  simp

@[simp] theorem keeps_intHoldoffExpiry (s : State) :
    Kept s (intHoldoffExpiry s) := by
  unfold intHoldoffExpiry
  (repeat' split) <;> simp

@[simp] theorem keeps_clearInts (v : Word) (s : State) :
    Kept s (State.clearInts v s) := by
  unfold State.clearInts
  simp

@[simp] theorem keeps_writeMsix (a : ℕ) (v : Word) (s : State) :
    Kept s (State.writeMsix a v s) := by
  unfold State.writeMsix
  split <;> simp

@[simp] theorem keeps_writePort (p : ℕ) (o : ℕ) (v : Word) (s : State) :
    Kept s (State.writePort p o v s) := by
  unfold State.writePort
  split <;> simp

@[simp] theorem keeps_ringBell (n : ℕ) (s : State) :
    (State.ringBell n s).pending = s.pending ∧
    (State.ringBell n s).mem.hbm = s.mem.hbm ∧
    (State.ringBell n s).mem.onchip = s.mem.onchip ∧
    (State.ringBell n s).flash.bytes = s.flash.bytes := by
  unfold State.ringBell
  simp

@[simp] theorem keeps_writeMbx (n : ℕ) (o : ℕ) (v : Word) (s : State) :
    (State.writeMbx n o v s).pending = s.pending ∧
    (State.writeMbx n o v s).mem.hbm = s.mem.hbm ∧
    (State.writeMbx n o v s).mem.onchip = s.mem.onchip ∧
    (State.writeMbx n o v s).flash.bytes = s.flash.bytes := by
  unfold State.writeMbx
  split <;> simp

@[simp] theorem keeps_writeBuffer (n : ℕ) (o : ℕ) (v : Word) (s : State) :
    Kept s (State.writeBuffer n o v s) := by
  unfold State.writeBuffer
  simp

@[simp] theorem keeps_writeReg (a : ℕ) (v : Word) (s : State) :
    (State.writeReg a v s).pending = s.pending ∧
    (State.writeReg a v s).mem.hbm = s.mem.hbm ∧
    (State.writeReg a v s).mem.onchip = s.mem.onchip ∧
    (State.writeReg a v s).flash.bytes = s.flash.bytes := by
  unfold State.writeReg
  (try dsimp only)
  (repeat' split) <;> simp

/-! ## Log -/

@[simp] theorem keeps_logTwin (q : Word) (e : LogBody) (s : State) :
    Kept s (State.logTwin q e s) := by
  unfold State.logTwin
  simp

@[simp] theorem keeps_twinLogEntry (q : Word) (e : LogBody) (s : State) :
    Kept s (twinLogEntry q e s) := by
  unfold twinLogEntry
  simp

/-! ## System -/

@[simp] theorem keeps_setRefuse (r : Reason) (cls : Byte) (obj : ℕ) (s : State) :
    Kept s (State.setRefuse r cls obj s) := by
  unfold State.setRefuse
  simp

@[simp] theorem keeps_logPrintEn (r : Reason) (flags : BitVec 16) (s : State) :
    Kept s (State.logPrintEn r flags s) := by
  unfold State.logPrintEn
  simp

@[simp] theorem keeps_startPrintCheck (s : State) :
    KeptRest s (State.startPrintCheck s) := by
  unfold State.startPrintCheck
  (try dsimp only)
  (repeat' split) <;> simp +contextual

@[simp] theorem keeps_cancelPrintCheck (s : State) :
    Kept s (State.cancelPrintCheck s) := by
  unfold State.cancelPrintCheck
  simp

@[simp] theorem keeps_printEnWrite (v : Bool) (s : State) :
    KeptRest s (printEnWrite v s) := by
  unfold printEnWrite
  (try dsimp only)
  (repeat' split) <;> simp +contextual

@[simp] theorem keeps_popCheck (s : State) :
    Kept s (State.popCheck s) := by
  unfold State.popCheck
  simp

@[simp] theorem keeps_checkDone (s : State) :
    Kept s (checkDone s) := by
  unfold checkDone
  dsimp only
  (repeat' split) <;> simp

@[simp] theorem keeps_resumeCheckDone (s : State) :
    Kept s (resumeCheckDone s) := by
  unfold resumeCheckDone
  dsimp only
  (repeat' split) <;> simp

@[simp] theorem keeps_cfgCheckDone (s : State) :
    Kept s (cfgCheckDone s) := by
  unfold cfgCheckDone
  dsimp only
  (repeat' split) <;> simp

@[simp] theorem keeps_resetEntry (s : State) :
    (resetEntry s).pending = s.pending ∧
    (s.mem.hbm.wf = true → (resetEntry s).mem.hbm.wf = true) ∧
    (s.mem.onchip.wf = true → (resetEntry s).mem.onchip.wf = true) ∧
    (s.flash.bytes.wf = true → (resetEntry s).flash.bytes.wf = true) := by
  unfold resetEntry
  (repeat' split) <;> simp +contextual

@[simp] theorem keeps_writeDpCtrl (p : ℕ) (v : Word) (s : State) :
    (State.writeDpCtrl p v s).pending = s.pending ∧
    (State.writeDpCtrl p v s).mem.hbm = s.mem.hbm ∧
    (State.writeDpCtrl p v s).mem.onchip = s.mem.onchip ∧
    (State.writeDpCtrl p v s).flash.bytes = s.flash.bytes := by
  unfold State.writeDpCtrl
  split <;> simp

@[simp] theorem keeps_writeAny (a : ℕ) (v : Word) (s : State) :
    (State.writeAny a v s).pending = s.pending ∧
    (s.mem.hbm.wf = true → (State.writeAny a v s).mem.hbm.wf = true) ∧
    (s.mem.onchip.wf = true → (State.writeAny a v s).mem.onchip.wf = true) ∧
    (s.flash.bytes.wf = true → (State.writeAny a v s).flash.bytes.wf = true) := by
  unfold State.writeAny
  (try dsimp only)
  (repeat' split) <;> simp +contextual

/-! ## Mailbox -/

@[simp] theorem keeps_takeBell (n : ℕ) (s : State) :
    (State.takeBell n s).pending = s.pending ∧
    (State.takeBell n s).mem.hbm = s.mem.hbm ∧
    (State.takeBell n s).mem.onchip = s.mem.onchip ∧
    (State.takeBell n s).flash.bytes = s.flash.bytes := by
  unfold State.takeBell
  simp

@[simp] theorem keeps_serveUndefined (n : ℕ) (s : State) :
    (State.serveUndefined n s).pending = s.pending ∧
    (State.serveUndefined n s).mem.hbm = s.mem.hbm ∧
    (State.serveUndefined n s).mem.onchip = s.mem.onchip ∧
    (State.serveUndefined n s).flash.bytes = s.flash.bytes := by
  induction n generalizing s with
  | zero => refine ⟨?_, ?_, ?_, ?_⟩ <;> unfold State.serveUndefined <;> (try intro h) <;> (try simp [*, memWriteN_wf, flashImage_wf, memFilter_wf])
  | succ k ih => refine ⟨?_, ?_, ?_, ?_⟩ <;> unfold State.serveUndefined <;> (try dsimp only) <;> (repeat' split) <;> (try intro h) <;> (try simp [*, memWriteN_wf, flashImage_wf, memFilter_wf]) <;> (try simp +contextual [*, memWriteN_wf, flashImage_wf, memFilter_wf])

@[simp] theorem keeps_stageFor (c : Cmd) (rq : Request) (ch : Change) (s : State) :
    Kept s (State.stageFor c rq ch s) := by
  unfold State.stageFor
  simp

@[simp] theorem keeps_ringWith (op : BitVec 16) (rq : Request) (s : State) :
    (State.ringWith op rq s).pending = s.pending ∧
    (State.ringWith op rq s).mem.hbm = s.mem.hbm ∧
    (State.ringWith op rq s).mem.onchip = s.mem.onchip ∧
    (State.ringWith op rq s).flash.bytes = s.flash.bytes := by
  unfold State.ringWith
  simp

@[simp] theorem keeps_arrive (op : BitVec 16) (rq : Request) (s : State) :
    (State.arrive op rq s).pending = s.pending ∧
    (State.arrive op rq s).mem.hbm = s.mem.hbm ∧
    (State.arrive op rq s).mem.onchip = s.mem.onchip ∧
    (State.arrive op rq s).flash.bytes = s.flash.bytes := by
  unfold State.arrive
  simp

@[simp] theorem keeps_registerWrite (offset : ℕ) (size : ℕ) (v : BitVec 64) (s : State) :
    (registerWrite offset size v s).pending = s.pending ∧
    (s.mem.hbm.wf = true → (registerWrite offset size v s).mem.hbm.wf = true) ∧
    (s.mem.onchip.wf = true → (registerWrite offset size v s).mem.onchip.wf = true) ∧
    (s.flash.bytes.wf = true → (registerWrite offset size v s).flash.bytes.wf = true) := by
  unfold registerWrite
  (try dsimp only)
  (repeat' split) <;> simp +contextual

/-! ## Power -/

@[simp] theorem keeps_abandonDrift (s : State) :
    Kept s (State.abandonDrift s) := by
  unfold State.abandonDrift
  simp

@[simp] theorem keeps_closePorts (s : State) :
    Kept s (State.closePorts s) := by
  unfold State.closePorts
  simp

@[simp] theorem keeps_gate (t : PwrState) (s : State) :
    (State.gate t s).pending = s.pending ∧
    (s.mem.hbm.wf = true → (State.gate t s).mem.hbm.wf = true) ∧
    (s.mem.onchip.wf = true → (State.gate t s).mem.onchip.wf = true) ∧
    (State.gate t s).flash.bytes = s.flash.bytes := by
  unfold State.gate
  (repeat' split) <;> simp +contextual

@[simp] theorem keeps_finishEntry (e : Entry) (s : State) :
    (State.finishEntry e s).pending = s.pending ∧
    (s.mem.hbm.wf = true → (State.finishEntry e s).mem.hbm.wf = true) ∧
    (s.mem.onchip.wf = true → (State.finishEntry e s).mem.onchip.wf = true) ∧
    (State.finishEntry e s).flash.bytes = s.flash.bytes := by
  unfold State.finishEntry
  (repeat' split) <;> simp +contextual

@[simp] theorem keeps_dropSupplies (e : Entry) (s : State) :
    Kept s (State.dropSupplies e s) := by
  unfold State.dropSupplies
  dsimp only
  (repeat' split) <;> simp

@[simp] theorem keeps_tryEntry (s : State) :
    (State.tryEntry s).pending = s.pending ∧
    (s.mem.hbm.wf = true → (State.tryEntry s).mem.hbm.wf = true) ∧
    (s.mem.onchip.wf = true → (State.tryEntry s).mem.onchip.wf = true) ∧
    (State.tryEntry s).flash.bytes = s.flash.bytes := by
  unfold State.tryEntry
  (repeat' split) <;> simp +contextual

@[simp] theorem keeps_beginEntry (e : Entry) (s : State) :
    (State.beginEntry e s).pending = s.pending ∧
    (s.mem.hbm.wf = true → (State.beginEntry e s).mem.hbm.wf = true) ∧
    (s.mem.onchip.wf = true → (State.beginEntry e s).mem.onchip.wf = true) ∧
    (State.beginEntry e s).flash.bytes = s.flash.bytes := by
  unfold State.beginEntry
  (repeat' split) <;> simp +contextual

@[simp] theorem keeps_powerEntry (s : State) :
    (powerEntry s).pending = s.pending ∧
    (s.mem.hbm.wf = true → (powerEntry s).mem.hbm.wf = true) ∧
    (s.mem.onchip.wf = true → (powerEntry s).mem.onchip.wf = true) ∧
    (powerEntry s).flash.bytes = s.flash.bytes := by
  unfold powerEntry
  (repeat' split) <;> simp +contextual

@[simp] theorem keeps_dozeTimer (s : State) :
    (dozeTimer s).pending = s.pending ∧
    (s.mem.hbm.wf = true → (dozeTimer s).mem.hbm.wf = true) ∧
    (s.mem.onchip.wf = true → (dozeTimer s).mem.onchip.wf = true) ∧
    (dozeTimer s).flash.bytes = s.flash.bytes := by
  unfold dozeTimer
  extract_lets limit
  split <;> simp +contextual

@[simp] theorem keeps_sleepTimer (s : State) :
    (sleepTimer s).pending = s.pending ∧
    (s.mem.hbm.wf = true → (sleepTimer s).mem.hbm.wf = true) ∧
    (s.mem.onchip.wf = true → (sleepTimer s).mem.onchip.wf = true) ∧
    (sleepTimer s).flash.bytes = s.flash.bytes := by
  unfold sleepTimer
  extract_lets limit
  split <;> simp +contextual

@[simp] theorem keeps_dpCloseEnd (p : ℕ) (s : State) :
    (dpCloseEnd p s).pending = s.pending ∧
    (s.mem.hbm.wf = true → (dpCloseEnd p s).mem.hbm.wf = true) ∧
    (s.mem.onchip.wf = true → (dpCloseEnd p s).mem.onchip.wf = true) ∧
    (dpCloseEnd p s).flash.bytes = s.flash.bytes := by
  unfold dpCloseEnd
  (repeat' split) <;> simp +contextual

@[simp] theorem keeps_countWake (src : ℕ) (s : State) :
    Kept s (State.countWake src s) := by
  unfold State.countWake
  dsimp only
  (repeat' split) <;> simp

@[simp] theorem keeps_wakePin (s : State) :
    (wakePin s).pending = s.pending ∧
    (s.mem.hbm.wf = true → (wakePin s).mem.hbm.wf = true) ∧
    (s.mem.onchip.wf = true → (wakePin s).mem.onchip.wf = true) ∧
    (s.flash.bytes.wf = true → (wakePin s).flash.bytes.wf = true) := by
  unfold wakePin
  (repeat' split) <;> simp +contextual

@[simp] theorem keeps_pcieWake (s : State) :
    Kept s (pcieWake s) := by
  unfold pcieWake
  simp

@[simp] theorem keeps_aonWakeTimer (s : State) :
    Kept s (aonWakeTimer s) := by
  unfold aonWakeTimer
  simp

@[simp] theorem keeps_motionWakeTransition (n : ℕ) (s : State) :
    Kept s (motionWakeTransition n s) := by
  unfold motionWakeTransition
  simp

@[simp] theorem keeps_wakeWindowEnd (s : State) :
    Kept s (wakeWindowEnd s) := by
  unfold wakeWindowEnd
  simp

@[simp] theorem keeps_railStep (s : State) :
    Kept s (railStep s) := by
  unfold railStep
  simp

@[simp] theorem keeps_pgFall (s : State) :
    Kept s (pgFall s) := by
  unfold pgFall
  (repeat' split) <;> simp

@[simp] theorem keeps_pgTimeout (s : State) :
    Kept s (pgTimeout s) := by
  unfold pgTimeout
  split <;> simp

@[simp] theorem keeps_railLost (k : ℕ) (s : State) :
    KeptRest s (railLost k s) := by
  unfold railLost
  (try dsimp only)
  (repeat' split) <;> simp +contextual

@[simp] theorem keeps_pmbusAlert (k : ℕ) (status : BitVec 16) (s : State) :
    Kept s (pmbusAlert k status s) := by
  unfold pmbusAlert
  simp

@[simp] theorem keeps_refDetectDone (edges : ℕ) (s : State) :
    Kept s (refDetectDone edges s) := by
  unfold refDetectDone
  simp

@[simp] theorem keeps_refLost (s : State) :
    KeptRest s (refLost s) := by
  unfold refLost
  (try dsimp only)
  (repeat' split) <;> simp +contextual

@[simp] theorem keeps_pllUnlock (pll : Pll) (s : State) :
    KeptRest s (pllUnlock pll s) := by
  unfold pllUnlock
  (try dsimp only)
  (repeat' split) <;> simp +contextual

@[simp] theorem keeps_hostLinkLoss (s : State) :
    Kept s (hostLinkLoss s) := by
  unfold hostLinkLoss
  simp

@[simp] theorem keeps_pcieLinkUp (s : State) :
    Kept s (pcieLinkUp s) := by
  unfold pcieLinkUp
  simp

@[simp] theorem keeps_aonTrim (count : ℕ) (s : State) :
    Kept s (aonTrim count s) := by
  unfold aonTrim
  simp

@[simp] theorem keeps_hvCondition (k : ℕ) (code : Reason) (s : State) :
    Kept s (State.hvCondition k code s) := by
  unfold State.hvCondition
  simp

@[simp] theorem keeps_hvFail (k : ℕ) (code : Reason) (ok : Bool) (s : State) :
    Kept s (State.hvFail k code ok s) := by
  unfold State.hvFail
  simp

@[simp] theorem keeps_hvokTimeout (k : ℕ) (s : State) :
    Kept s (hvokTimeout k s) := by
  unfold hvokTimeout
  split <;> simp

@[simp] theorem keeps_hvLost (k : ℕ) (s : State) :
    KeptRest s (hvLost k s) := by
  unfold hvLost
  (try dsimp only)
  (repeat' split) <;> simp +contextual

@[simp] theorem keeps_hvDischarged (k : ℕ) (s : State) :
    (hvDischarged k s).pending = s.pending ∧
    (s.mem.hbm.wf = true → (hvDischarged k s).mem.hbm.wf = true) ∧
    (s.mem.onchip.wf = true → (hvDischarged k s).mem.onchip.wf = true) ∧
    (hvDischarged k s).flash.bytes = s.flash.bytes := by
  unfold hvDischarged
  (repeat' split) <;> simp +contextual

@[simp] theorem keeps_hvDischargeTimeout (k : ℕ) (s : State) :
    (hvDischargeTimeout k s).pending = s.pending ∧
    (s.mem.hbm.wf = true → (hvDischargeTimeout k s).mem.hbm.wf = true) ∧
    (s.mem.onchip.wf = true → (hvDischargeTimeout k s).mem.onchip.wf = true) ∧
    (hvDischargeTimeout k s).flash.bytes = s.flash.bytes := by
  unfold hvDischargeTimeout
  (repeat' split) <;> simp +contextual

@[simp] theorem keeps_vddioLost (s : State) :
    KeptRest s (vddioLost s) := by
  unfold vddioLost
  (try dsimp only)
  (repeat' split) <;> simp +contextual

@[simp] theorem keeps_imageWriteDone (ok : Bool) (s : State) :
    KeptFlash s (imageWriteDone ok s) := by
  unfold imageWriteDone
  (repeat' split) <;> simp +contextual [memWriteN_wf, flashImage_wf, memFilter_wf]

@[simp] theorem keeps_eventHoldoffExpiry (k : EventKey) (s : State) :
    Kept s (eventHoldoffExpiry k s) := by
  unfold eventHoldoffExpiry
  (repeat' split) <;> simp

/-! ## Upsett -/

@[simp] theorem keeps_porAssert (s : State) :
    (porAssert s).pending = s.pending ∧
    (s.mem.hbm.wf = true → (porAssert s).mem.hbm.wf = true) ∧
    (s.mem.onchip.wf = true → (porAssert s).mem.onchip.wf = true) ∧
    (s.flash.bytes.wf = true → (porAssert s).flash.bytes.wf = true) := by
  unfold porAssert
  (repeat' split) <;> simp +contextual

@[simp] theorem keeps_porRelease (vddAonGood : Bool) (s : State) :
    (porRelease vddAonGood s).pending = s.pending ∧
    (s.mem.hbm.wf = true → (porRelease vddAonGood s).mem.hbm.wf = true) ∧
    (s.mem.onchip.wf = true → (porRelease vddAonGood s).mem.onchip.wf = true) ∧
    (s.flash.bytes.wf = true → (porRelease vddAonGood s).flash.bytes.wf = true) := by
  unfold porRelease
  (repeat' split) <;> simp +contextual

@[simp] theorem keeps_rstnAssert (s : State) :
    (rstnAssert s).pending = s.pending ∧
    (s.mem.hbm.wf = true → (rstnAssert s).mem.hbm.wf = true) ∧
    (s.mem.onchip.wf = true → (rstnAssert s).mem.onchip.wf = true) ∧
    (s.flash.bytes.wf = true → (rstnAssert s).flash.bytes.wf = true) := by
  unfold rstnAssert
  (repeat' split) <;> simp +contextual

@[simp] theorem keeps_rstnRelease (s : State) :
    Kept s (rstnRelease s) := by
  unfold rstnRelease
  simp

@[simp] theorem keeps_readBoot (s : State) :
    Kept s (State.readBoot s) := by
  unfold State.readBoot
  simp

@[simp] theorem keeps_latchPairId (s : State) :
    Kept s (State.latchPairId s) := by
  unfold State.latchPairId
  dsimp only
  (repeat' split) <;> simp

@[simp] theorem keeps_startPhase (p : ℕ) (s : State) :
    Kept s (State.startPhase p s) := by
  unfold State.startPhase
  split <;> simp

@[simp] theorem keeps_passPhase (p : ℕ) (next : ℕ) (s : State) :
    Kept s (State.passPhase p next s) := by
  unfold State.passPhase
  simp

@[simp] theorem keeps_readOtp (margins : Table (Word × Word)) (s : State) :
    Kept s (State.readOtp margins s) := by
  unfold State.readOtp
  simp

@[simp] theorem keeps_retireAtBoot (s : State) (f : ℕ × ℕ) :
    Kept s (State.retireAtBoot s f) := by
  unfold State.retireAtBoot
  simp

@[simp] theorem keeps_startupTest (b : StartupBist) (part unit count : ℕ) (s : State) :
    Kept s (State.startupTest b part unit count s) := by
  unfold State.startupTest
  dsimp only
  (repeat' split) <;> simp

@[simp] theorem keeps_startupTests (b : StartupBist) (s : State) :
    Kept s (State.startupTests b s) := by
  unfold State.startupTests
  simp

@[simp] theorem keeps_countBoot (s : State) :
    Kept s (State.countBoot s) := by
  unfold State.countBoot
  simp

@[simp] theorem keeps_reportPrev (s : State) :
    Kept s (State.reportPrev s) := by
  unfold State.reportPrev
  simp

@[simp] theorem keeps_bootFirmware (slotB : Bool) (fw : BitVec 24) (s : State) :
    Kept s (State.bootFirmware slotB fw s) := by
  unfold State.bootFirmware
  simp

@[simp] theorem keeps_retireAtU6 (s : State) (k : ℕ) :
    (State.retireAtU6 s k).pending = s.pending ∧ (State.retireAtU6 s k).rung = s.rung ∧
      (State.retireAtU6 s k).mem.hbm = s.mem.hbm ∧
      (s.mem.onchip.wf = true → (State.retireAtU6 s k).mem.onchip.wf = true) ∧
      (State.retireAtU6 s k).flash.bytes = s.flash.bytes := by
  unfold State.retireAtU6
  simp +contextual

@[simp] theorem keeps_endUpsett (s : State) :
    KeptRest s (State.endUpsett s) := by
  unfold State.endUpsett
  (try dsimp only)
  (repeat' split) <;> simp +contextual

@[simp] theorem keeps_upsettPhaseDone (i : PhaseInput) (s : State) :
    (upsettPhaseDone i s).pending = s.pending ∧
    (s.mem.hbm.wf = true → (upsettPhaseDone i s).mem.hbm.wf = true) ∧
    (s.mem.onchip.wf = true → (upsettPhaseDone i s).mem.onchip.wf = true) ∧
    (s.flash.bytes.wf = true → (upsettPhaseDone i s).flash.bytes.wf = true) := by
  unfold upsettPhaseDone
  dsimp only
  (repeat' split) <;> simp +contextual

@[simp] theorem keeps_upsettPhaseTimeout (edges : Bool) (s : State) :
    KeptRest s (upsettPhaseTimeout edges s) := by
  unfold upsettPhaseTimeout
  (try dsimp only)
  (repeat' split) <;> simp +contextual

@[simp] theorem keeps_railRetry (s : State) :
    Kept s (railRetry s) := by
  unfold railRetry
  split <;> simp

end Sys2Proof.Laws
end

