-- ==== Sys2Proof/Laws/KeepsBodies.lean ====
section
/-!
SUPPORT. What is left alone, operation by operation: the queue of commands, the doorbells where no doorbell is
taken, and the memories or their canonical form.  Here the bodies of the mailbox commands.
-/

namespace Sys2Proof.Laws

open Sys2Proof Sys2Proof.Machine

set_option linter.all false

def Keeps (s t : State) : Prop :=
  t.pending = s.pending ∧ (s.mem.hbm.wf = true → t.mem.hbm.wf = true) ∧ (s.mem.onchip.wf = true → t.mem.onchip.wf = true)
    ∧ (s.flash.bytes.wf = true → t.flash.bytes.wf = true)
def KeepsV (s : State) : Verdict → Prop
  | .done t _ => Keeps s t
  | .refuse _ _ _ _ => True
  | .stage _ => True
  | .stageWith t _ => Keeps s t
  | .accept t => Keeps s t
  | .submit _ _ => True
theorem keepsV_letS {s v : State} {b : State → Verdict} (hv : Keeps s v) (h : ∀ x, Keeps s x → KeepsV s (b x)) : KeepsV s (have x := v; b x) := h v hv
theorem keepsV_letA {α : Sort _} {s : State} {v : α} {b : α → Verdict} (h : ∀ x, KeepsV s (b x)) : KeepsV s (have x := v; b x) := h v
theorem keeps_refl (s : State) : Keeps s s := ⟨rfl, id, id, id⟩
theorem keeps_trans {s t u : State} (h : Keeps s t) (k : Keeps t u) : Keeps s u :=
  ⟨k.1.trans h.1, fun x => k.2.1 (h.2.1 x), fun x => k.2.2.1 (h.2.2.1 x), fun x => k.2.2.2 (h.2.2.2 x)⟩
theorem keepsV_checked {s : State} {fs : List (Bool × Nat)} {k : Verdict} (h : KeepsV s k) : KeepsV s (checked fs k) := by
  unfold checked; split <;> first | exact h | trivial
theorem keepsV_geomHeadSetBody (rq : Request) (s : State) : KeepsV s (geomHeadSetBody rq s) := by
  unfold geomHeadSetBody <;> (try dsimp only) <;> (repeat' (first | split | apply keepsV_checked | trivial)) <;> (try (simp +contextual [KeepsV, Keeps]; done))
theorem keepsV_geomRowSetBody (rq : Request) (s : State) : KeepsV s (geomRowSetBody rq s) := by
  unfold geomRowSetBody <;> (try dsimp only) <;> (repeat' (first | split | apply keepsV_checked | trivial)) <;> (try (simp +contextual [KeepsV, Keeps]; done))
theorem keepsV_geomBarSetBody (rq : Request) (s : State) : KeepsV s (geomBarSetBody rq s) := by
  unfold geomBarSetBody <;> (try dsimp only) <;> (repeat' (first | split | apply keepsV_checked | trivial)) <;> (try (simp +contextual [KeepsV, Keeps]; done))
theorem keepsV_geomNmapWriteBody (rq : Request) (s : State) : KeepsV s (geomNmapWriteBody rq s) := by
  unfold geomNmapWriteBody <;> (try dsimp only) <;> (repeat' (first | split | apply keepsV_checked | trivial)) <;> (try (simp +contextual [KeepsV, Keeps]; done))
theorem keepsV_geomNmapLoadBody (rq : Request) (s : State) : KeepsV s (geomNmapLoadBody rq s) := by
  unfold geomNmapLoadBody <;> (try dsimp only) <;> (repeat' (first | split | apply keepsV_checked | trivial)) <;> (try (simp +contextual [KeepsV, Keeps]; done))
theorem keepsV_geomNmapReadBody (rq : Request) (s : State) : KeepsV s (geomNmapReadBody rq s) := by
  unfold geomNmapReadBody <;> (try dsimp only) <;> (repeat' (first | split | apply keepsV_checked | trivial)) <;> (try (simp +contextual [KeepsV, Keeps]; done))
theorem keepsV_geomStitchSetBody (rq : Request) (s : State) : KeepsV s (geomStitchSetBody rq s) := by
  unfold geomStitchSetBody <;> (try dsimp only) <;> (repeat' (first | split | apply keepsV_checked | trivial)) <;> (try (simp +contextual [KeepsV, Keeps]; done))
theorem keepsV_geomMaskLoadBody (rq : Request) (s : State) : KeepsV s (geomMaskLoadBody rq s) := by
  unfold geomMaskLoadBody <;> (try dsimp only) <;> (repeat' (first | split | apply keepsV_checked | trivial)) <;> (try (simp +contextual [KeepsV, Keeps]; done))
theorem keepsV_geomSwathBody (rq : Request) (s : State) : KeepsV s (geomSwathBody rq s) := by
  unfold geomSwathBody <;> (try dsimp only) <;> (repeat' (first | split | apply keepsV_checked | trivial)) <;> (try (simp +contextual [KeepsV, Keeps]; done))
theorem keepsV_geomGetBody (rq : Request) (s : State) : KeepsV s (geomGetBody rq s) := by
  unfold geomGetBody <;> (try dsimp only) <;> (repeat' (first | split | apply keepsV_checked | trivial)) <;> (try (simp +contextual [KeepsV, Keeps]; done))
theorem keepsV_geomCoverageBody (rq : Request) (s : State) : KeepsV s (geomCoverageBody rq s) := by
  unfold geomCoverageBody <;> (try dsimp only) <;> (repeat' (first | split | apply keepsV_checked | trivial)) <;> (try (simp +contextual [KeepsV, Keeps]; done))
theorem keepsV_axisConfigBody (rq : Request) (s : State) : KeepsV s (axisConfigBody rq s) := by
  unfold axisConfigBody <;> (try dsimp only) <;> (repeat' (first | split | apply keepsV_checked | trivial)) <;> (try (simp +contextual [KeepsV, Keeps]; done))
theorem keepsV_axisEnableBody (rq : Request) (s : State) : KeepsV s (axisEnableBody rq s) := by
  unfold axisEnableBody <;> (try dsimp only) <;> (repeat' (first | split | apply keepsV_checked | trivial)) <;> (try (simp +contextual [KeepsV, Keeps]; done))
theorem keepsV_axisReadBody (rq : Request) (s : State) : KeepsV s (axisReadBody rq s) := by
  unfold axisReadBody <;> (try dsimp only) <;> (repeat' (first | split | apply keepsV_checked | trivial)) <;> (try (simp +contextual [KeepsV, Keeps]; done))
theorem keepsV_axisPresetBody (rq : Request) (s : State) : KeepsV s (axisPresetBody rq s) := by
  unfold axisPresetBody <;> (try dsimp only) <;> (repeat' (first | split | apply keepsV_checked | trivial)) <;> (try (simp +contextual [KeepsV, Keeps]; done))
theorem keepsV_axisClearBody (rq : Request) (s : State) : KeepsV s (axisClearBody rq s) := by
  unfold axisClearBody
  dsimp only
  refine keepsV_checked ?_
  (repeat' split) <;> simp only [refuseAs, refuseObj, stakeRefusal, badValue, KeepsV] <;> simp +contextual [Keeps]
theorem keepsV_axisEchoSetBody (rq : Request) (s : State) : KeepsV s (axisEchoSetBody rq s) := by
  unfold axisEchoSetBody <;> (try dsimp only) <;> (repeat' (first | split | apply keepsV_checked | trivial)) <;> (try (simp +contextual [KeepsV, Keeps]; done))
theorem keepsV_axisWakeSetBody (rq : Request) (s : State) : KeepsV s (axisWakeSetBody rq s) := by
  unfold axisWakeSetBody <;> (try dsimp only) <;> (repeat' (first | split | apply keepsV_checked | trivial)) <;> (try (simp +contextual [KeepsV, Keeps]; done))
theorem keepsV_axisBarPositionBody (rq : Request) (s : State) : KeepsV s (axisBarPositionBody rq s) := by
  unfold axisBarPositionBody <;> (try dsimp only) <;> (repeat' (first | split | apply keepsV_checked | trivial)) <;> (try (simp +contextual [KeepsV, Keeps]; done))
theorem keepsV_axisGetBody (rq : Request) (s : State) : KeepsV s (axisGetBody rq s) := by
  unfold axisGetBody <;> (try dsimp only) <;> (repeat' (first | split | apply keepsV_checked | trivial)) <;> (try (simp +contextual [KeepsV, Keeps]; done))
theorem keepsV_trigConfigBody (rq : Request) (s : State) : KeepsV s (trigConfigBody rq s) := by
  unfold trigConfigBody <;> (try dsimp only) <;> (repeat' (first | split | apply keepsV_checked | trivial)) <;> (try (simp +contextual [KeepsV, Keeps]; done))
theorem keepsV_trigEnableBody (rq : Request) (s : State) : KeepsV s (trigEnableBody rq s) := by
  unfold trigEnableBody <;> (try dsimp only) <;> (repeat' (first | split | apply keepsV_checked | trivial)) <;> (try (simp +contextual [KeepsV, Keeps]; done))
theorem keepsV_trigRunWriteBody (rq : Request) (s : State) : KeepsV s (trigRunWriteBody rq s) := by
  unfold trigRunWriteBody <;> (try dsimp only) <;> (repeat' (first | split | apply keepsV_checked | trivial)) <;> (try (simp +contextual [KeepsV, Keeps]; done))
theorem keepsV_trigRunStartBody (rq : Request) (s : State) : KeepsV s (trigRunStartBody rq s) := by
  unfold trigRunStartBody <;> (try dsimp only) <;> (repeat' (first | split | apply keepsV_checked | trivial)) <;> (try (simp +contextual [KeepsV, Keeps]; done))
theorem keepsV_trigStatusBody (rq : Request) (s : State) : KeepsV s (trigStatusBody rq s) := by
  unfold trigStatusBody <;> (try dsimp only) <;> (repeat' (first | split | apply keepsV_checked | trivial)) <;> (try (simp +contextual [KeepsV, Keeps]; done))
theorem keepsV_trigSpitBody (rq : Request) (s : State) : KeepsV s (trigSpitBody rq s) := by
  unfold trigSpitBody <;> (try dsimp only) <;> (repeat' (first | split | apply keepsV_checked | trivial)) <;> (try (simp +contextual [KeepsV, Keeps]; done))
theorem keepsV_trigSpitResumeBody (rq : Request) (s : State) : KeepsV s (trigSpitResumeBody rq s) := by
  unfold trigSpitResumeBody
  dsimp only
  refine keepsV_checked ?_
  (repeat' split) <;> simp only [refuseAs, refuseObj, stakeRefusal, badValue, KeepsV] <;> simp +contextual [Keeps]
theorem keepsV_trigTrigoutSetBody (rq : Request) (s : State) : KeepsV s (trigTrigoutSetBody rq s) := by
  unfold trigTrigoutSetBody <;> (try dsimp only) <;> (repeat' (first | split | apply keepsV_checked | trivial)) <;> (try (simp +contextual [KeepsV, Keeps]; done))
theorem keepsV_trigGetBody (rq : Request) (s : State) : KeepsV s (trigGetBody rq s) := by
  unfold trigGetBody <;> (try dsimp only) <;> (repeat' (first | split | apply keepsV_checked | trivial)) <;> (try (simp +contextual [KeepsV, Keeps]; done))
theorem keepsV_trigClearBody (rq : Request) (s : State) : KeepsV s (trigClearBody rq s) := by
  unfold trigClearBody <;> (try dsimp only) <;> (repeat' (first | split | apply keepsV_checked | trivial)) <;> (try (simp +contextual [KeepsV, Keeps]; done))
theorem keepsV_waveWaveSetBody (rq : Request) (s : State) : KeepsV s (waveWaveSetBody rq s) := by
  unfold waveWaveSetBody <;> (try dsimp only) <;> (repeat' (first | split | apply keepsV_checked | trivial)) <;> (try (simp +contextual [KeepsV, Keeps]; done))
theorem keepsV_waveProfileSetBody (rq : Request) (s : State) : KeepsV s (waveProfileSetBody rq s) := by
  unfold waveProfileSetBody <;> (try dsimp only) <;> (repeat' (first | split | apply keepsV_checked | trivial)) <;> (try (simp +contextual [KeepsV, Keeps]; done))
theorem keepsV_waveBarSetBody (rq : Request) (s : State) : KeepsV s (waveBarSetBody rq s) := by
  unfold waveBarSetBody <;> (try dsimp only) <;> (repeat' (first | split | apply keepsV_checked | trivial)) <;> (try (simp +contextual [KeepsV, Keeps]; done))
theorem keepsV_waveChannelSetBody (rq : Request) (s : State) : KeepsV s (waveChannelSetBody rq s) := by
  unfold waveChannelSetBody <;> (try dsimp only) <;> (repeat' (first | split | apply keepsV_checked | trivial)) <;> (try (simp +contextual [KeepsV, Keeps]; done))
theorem keepsV_waveDacSetBody (rq : Request) (s : State) : KeepsV s (waveDacSetBody rq s) := by
  unfold waveDacSetBody <;> (try dsimp only) <;> (repeat' (first | split | apply keepsV_checked | trivial)) <;> (try (simp +contextual [KeepsV, Keeps]; done))
theorem keepsV_waveCurveSetBody (rq : Request) (s : State) : KeepsV s (waveCurveSetBody rq s) := by
  unfold waveCurveSetBody <;> (try dsimp only) <;> (repeat' (first | split | apply keepsV_checked | trivial)) <;> (try (simp +contextual [KeepsV, Keeps]; done))
theorem keepsV_waveGetBody (rq : Request) (s : State) : KeepsV s (waveGetBody rq s) := by
  unfold waveGetBody <;> (try dsimp only) <;> (repeat' (first | split | apply keepsV_checked | trivial)) <;> (try (simp +contextual [KeepsV, Keeps]; done))
theorem keepsV_waveStatusBody (rq : Request) (s : State) : KeepsV s (waveStatusBody rq s) := by
  unfold waveStatusBody <;> (try dsimp only) <;> (repeat' (first | split | apply keepsV_checked | trivial)) <;> (try (simp +contextual [KeepsV, Keeps]; done))
theorem keepsV_waveClearBody (rq : Request) (s : State) : KeepsV s (waveClearBody rq s) := by
  unfold waveClearBody <;> (try dsimp only) <;> (repeat' (first | split | apply keepsV_checked | trivial)) <;> (try (simp +contextual [KeepsV, Keeps]; done))
theorem keepsV_planeDefineBody (rq : Request) (s : State) : KeepsV s (planeDefineBody rq s) := by
  unfold planeDefineBody <;> (try dsimp only) <;> (repeat' (first | split | apply keepsV_checked | trivial)) <;> (try (simp +contextual [KeepsV, Keeps]; done))
theorem keepsV_planeEnableBody (rq : Request) (s : State) : KeepsV s (planeEnableBody rq s) := by
  unfold planeEnableBody <;> (try dsimp only) <;> (repeat' (first | split | apply keepsV_checked | trivial)) <;> (try (simp +contextual [KeepsV, Keeps]; done))
theorem keepsV_planeRingSetBody (rq : Request) (s : State) : KeepsV s (planeRingSetBody rq s) := by
  unfold planeRingSetBody <;> (try dsimp only) <;> (repeat' (first | split | apply keepsV_checked | trivial)) <;> (try (simp +contextual [KeepsV, Keeps]; done))
theorem keepsV_onEntries (s : State) (n first count : Nat) (k : PlaneRec → Verdict) (hk : ∀ r, KeepsV s (k r)) : KeepsV s (onEntries s n first count k) := by
  unfold onEntries; split
  · trivial
  · split
    · trivial
    · exact hk _
theorem keepsV_planeIndexWriteBody (rq : Request) (s : State) : KeepsV s (planeIndexWriteBody rq s) := by
  unfold planeIndexWriteBody <;> (try dsimp only) <;> (repeat' (first | split | apply keepsV_checked | apply keepsV_onEntries | apply keepsV_onChannel | intro _ | trivial)) <;> (try (simp +contextual [KeepsV, Keeps]; done))
theorem keepsV_planeIndexReadBody (rq : Request) (s : State) : KeepsV s (planeIndexReadBody rq s) := by
  unfold planeIndexReadBody <;> (try dsimp only) <;> (repeat' (first | split | apply keepsV_checked | apply keepsV_onEntries | apply keepsV_onChannel | intro _ | trivial)) <;> (try (simp +contextual [KeepsV, Keeps]; done))
theorem keepsV_planeStatusBody (rq : Request) (s : State) : KeepsV s (planeStatusBody rq s) := by
  unfold planeStatusBody <;> (try dsimp only) <;> (repeat' (first | split | apply keepsV_checked | trivial)) <;> (try (simp +contextual [KeepsV, Keeps]; done))
theorem keepsV_planeRetryBody (rq : Request) (s : State) : KeepsV s (planeRetryBody rq s) := by
  unfold planeRetryBody <;> (try dsimp only) <;> (repeat' (first | split | apply keepsV_checked | trivial)) <;> (try (simp +contextual [KeepsV, Keeps]; done))
theorem keepsV_planeGetBody (rq : Request) (s : State) : KeepsV s (planeGetBody rq s) := by
  unfold planeGetBody <;> (try dsimp only) <;> (repeat' (first | split | apply keepsV_checked | trivial)) <;> (try (simp +contextual [KeepsV, Keeps]; done))
theorem keepsV_planeClearBody (rq : Request) (s : State) : KeepsV s (planeClearBody rq s) := by
  unfold planeClearBody <;> (try dsimp only) <;> (repeat' (first | split | apply keepsV_checked | trivial)) <;> (try (simp +contextual [KeepsV, Keeps]; done))
theorem keepsV_plaitSessionOpenBody (rq : Request) (s : State) : KeepsV s (plaitSessionOpenBody rq s) := by
  unfold plaitSessionOpenBody <;> (try dsimp only) <;> (repeat' (first | split | apply keepsV_checked | trivial)) <;> (try (simp +contextual [KeepsV, Keeps]; done))
theorem keepsV_plaitSessionEndBody (rq : Request) (s : State) : KeepsV s (plaitSessionEndBody rq s) := by
  unfold plaitSessionEndBody <;> (try dsimp only) <;> (repeat' (first | split | apply keepsV_checked | trivial)) <;> (try (simp +contextual [KeepsV, Keeps]; done))
theorem keepsV_plaitSessionStatusBody (rq : Request) (s : State) : KeepsV s (plaitSessionStatusBody rq s) := by
  unfold plaitSessionStatusBody <;> (try dsimp only) <;> (repeat' (first | split | apply keepsV_checked | trivial)) <;> (try (simp +contextual [KeepsV, Keeps]; done))
theorem keepsV_plaitVerifyBody (rq : Request) (s : State) : KeepsV s (plaitVerifyBody rq s) := by
  unfold plaitVerifyBody <;> (try dsimp only) <;> (repeat' (first | split | apply keepsV_checked | apply keepsV_onEntries | apply keepsV_onChannel | intro _ | trivial)) <;> (try (simp +contextual [KeepsV, Keeps]; done))
theorem keepsV_plaitVerifyResultBody (rq : Request) (s : State) : KeepsV s (plaitVerifyResultBody rq s) := by
  unfold plaitVerifyResultBody <;> (try dsimp only) <;> (repeat' (first | split | apply keepsV_checked | trivial)) <;> (try (simp +contextual [KeepsV, Keeps]; done))
theorem keepsV_plaitDecodeBody (rq : Request) (s : State) : KeepsV s (plaitDecodeBody rq s) := by
  unfold plaitDecodeBody <;> (try dsimp only) <;> (repeat' (first | split | apply keepsV_checked | apply keepsV_onEntries | apply keepsV_onChannel | intro _ | trivial)) <;> (try (simp +contextual [KeepsV, Keeps]; done))
theorem keepsV_plaitStatusBody (rq : Request) (s : State) : KeepsV s (plaitStatusBody rq s) := by
  unfold plaitStatusBody <;> (try dsimp only) <;> (repeat' (first | split | apply keepsV_checked | trivial)) <;> (try (simp +contextual [KeepsV, Keeps]; done))
theorem keepsV_plaitClearBody (rq : Request) (s : State) : KeepsV s (plaitClearBody rq s) := by
  unfold plaitClearBody <;> (try dsimp only) <;> (repeat' (first | split | apply keepsV_checked | trivial)) <;> (try (simp +contextual [KeepsV, Keeps]; done))
theorem keepsV_canePortSetBody (rq : Request) (s : State) : KeepsV s (canePortSetBody rq s) := by
  unfold canePortSetBody <;> (try dsimp only) <;> (repeat' (first | split | apply keepsV_checked | trivial)) <;> (try (simp +contextual [KeepsV, Keeps]; done))
theorem keepsV_canePortStatusBody (rq : Request) (s : State) : KeepsV s (canePortStatusBody rq s) := by
  unfold canePortStatusBody <;> (try dsimp only) <;> (repeat' (first | split | apply keepsV_checked | trivial)) <;> (try (simp +contextual [KeepsV, Keeps]; done))
theorem keepsV_caneModuleInfoBody (rq : Request) (s : State) : KeepsV s (caneModuleInfoBody rq s) := by
  unfold caneModuleInfoBody <;> (try dsimp only) <;> (repeat' (first | split | apply keepsV_checked | trivial)) <;> (try (simp +contextual [KeepsV, Keeps]; done))
theorem keepsV_caneClearBody (rq : Request) (s : State) : KeepsV s (caneClearBody rq s) := by
  unfold caneClearBody <;> (try dsimp only) <;> (repeat' (first | split | apply keepsV_checked | trivial)) <;> (try (simp +contextual [KeepsV, Keeps]; done))
theorem keepsV_caneGetBody (rq : Request) (s : State) : KeepsV s (caneGetBody rq s) := by
  unfold caneGetBody <;> (try dsimp only) <;> (repeat' (first | split | apply keepsV_checked | trivial)) <;> (try (simp +contextual [KeepsV, Keeps]; done))
theorem keepsV_healthPolicySetBody (rq : Request) (s : State) : KeepsV s (healthPolicySetBody rq s) := by
  unfold healthPolicySetBody <;> (try dsimp only) <;> (repeat' (first | split | apply keepsV_checked | trivial)) <;> (try (simp +contextual [KeepsV, Keeps]; done))
theorem keepsV_healthRefSetBody (rq : Request) (s : State) : KeepsV s (healthRefSetBody rq s) := by
  unfold healthRefSetBody <;> (try dsimp only) <;> (repeat' (first | split | apply keepsV_checked | trivial)) <;> (try (simp +contextual [KeepsV, Keeps]; done))
theorem keepsV_healthSubstSetBody (rq : Request) (s : State) : KeepsV s (healthSubstSetBody rq s) := by
  unfold healthSubstSetBody <;> (try dsimp only) <;> (repeat' (first | split | apply keepsV_checked | trivial)) <;> (try (simp +contextual [KeepsV, Keeps]; done))
theorem keepsV_healthSubstClearBody (rq : Request) (s : State) : KeepsV s (healthSubstClearBody rq s) := by
  unfold healthSubstClearBody <;> (try dsimp only) <;> (repeat' (first | split | apply keepsV_checked | trivial)) <;> (try (simp +contextual [KeepsV, Keeps]; done))
theorem keepsV_healthReportOutBody (rq : Request) (s : State) : KeepsV s (healthReportOutBody rq s) := by
  unfold healthReportOutBody <;> (try dsimp only) <;> (repeat' (first | split | apply keepsV_checked | trivial)) <;> (try (simp +contextual [KeepsV, Keeps]; done))
theorem keepsV_healthReleaseOutBody (rq : Request) (s : State) : KeepsV s (healthReleaseOutBody rq s) := by
  unfold healthReleaseOutBody <;> (try dsimp only) <;> (repeat' (first | split | apply keepsV_checked | trivial)) <;> (try (simp +contextual [KeepsV, Keeps]; done))
theorem keepsV_healthTempSetBody (rq : Request) (s : State) : KeepsV s (healthTempSetBody rq s) := by
  unfold healthTempSetBody <;> (try dsimp only) <;> (repeat' (first | split | apply keepsV_checked | trivial)) <;> (try (simp +contextual [KeepsV, Keeps]; done))
theorem keepsV_healthNozzleReadBody (rq : Request) (s : State) : KeepsV s (healthNozzleReadBody rq s) := by
  unfold healthNozzleReadBody <;> (try dsimp only) <;> (repeat' (first | split | apply keepsV_checked | trivial)) <;> (try (simp +contextual [KeepsV, Keeps]; done))
theorem keepsV_healthSubstReadBody (rq : Request) (s : State) : KeepsV s (healthSubstReadBody rq s) := by
  unfold healthSubstReadBody <;> (try dsimp only) <;> (repeat' (first | split | apply keepsV_checked | trivial)) <;> (try (simp +contextual [KeepsV, Keeps]; done))
theorem keepsV_healthStatusBody (rq : Request) (s : State) : KeepsV s (healthStatusBody rq s) := by
  unfold healthStatusBody <;> (try dsimp only) <;> (repeat' (first | split | apply keepsV_checked | trivial)) <;> (try (simp +contextual [KeepsV, Keeps]; done))
theorem keepsV_healthGetBody (rq : Request) (s : State) : KeepsV s (healthGetBody rq s) := by
  unfold healthGetBody <;> (try dsimp only) <;> (repeat' (first | split | apply keepsV_checked | trivial)) <;> (try (simp +contextual [KeepsV, Keeps]; done))
theorem keepsV_healthClearBody (rq : Request) (s : State) : KeepsV s (healthClearBody rq s) := by
  unfold healthClearBody <;> (try dsimp only) <;> (repeat' (first | split | apply keepsV_checked | trivial)) <;> (try (simp +contextual [KeepsV, Keeps]; done))
theorem keepsV_bistRunBody (rq : Request) (s : State) : KeepsV s (bistRunBody rq s) := by
  unfold bistRunBody
  dsimp only
  split
  · trivial
  refine keepsV_checked ?_
  (repeat' split) <;> simp only [refuseAs, refuseObj, stakeRefusal, badValue, KeepsV] <;> simp +contextual [Keeps]
theorem keepsV_bistStopBody (rq : Request) (s : State) : KeepsV s (bistStopBody rq s) := by
  unfold bistStopBody <;> (try dsimp only) <;> (repeat' (first | split | apply keepsV_checked | trivial)) <;> (try (simp +contextual [KeepsV, Keeps]; done))
theorem keepsV_bistStatusBody (rq : Request) (s : State) : KeepsV s (bistStatusBody rq s) := by
  unfold bistStatusBody <;> (try dsimp only) <;> (repeat' (first | split | apply keepsV_checked | trivial)) <;> (try (simp +contextual [KeepsV, Keeps]; done))
theorem keepsV_bistResultBody (rq : Request) (s : State) : KeepsV s (bistResultBody rq s) := by
  unfold bistResultBody <;> (try dsimp only) <;> (repeat' (first | split | apply keepsV_checked | trivial)) <;> (try (simp +contextual [KeepsV, Keeps]; done))
theorem keepsV_bistConfigBody (rq : Request) (s : State) : KeepsV s (bistConfigBody rq s) := by
  unfold bistConfigBody <;> (try dsimp only) <;> (repeat' (first | split | apply keepsV_checked | trivial)) <;> (try (simp +contextual [KeepsV, Keeps]; done))
theorem keepsV_bistGetBody (rq : Request) (s : State) : KeepsV s (bistGetBody rq s) := by
  unfold bistGetBody <;> (try dsimp only) <;> (repeat' (first | split | apply keepsV_checked | trivial)) <;> (try (simp +contextual [KeepsV, Keeps]; done))
theorem keepsV_caneRetrainBody (rq : Request) (s : State) : KeepsV s (caneRetrainBody rq s) := by
  unfold caneRetrainBody
  dsimp only
  refine keepsV_checked ?_
  (repeat' split) <;> simp only [refuseAs, refuseObj, stakeRefusal, badValue, KeepsV] <;> simp +contextual [Keeps]
theorem keepsV_powerThermReadBody (rq : Request) (s : State) : KeepsV s (powerThermReadBody rq s) := by
  unfold powerThermReadBody <;> (try dsimp only) <;> (repeat' (first | split | apply keepsV_checked | trivial)) <;> (try (simp +contextual [KeepsV, Keeps]; done))
theorem keepsV_powerThermSetBody (rq : Request) (s : State) : KeepsV s (powerThermSetBody rq s) := by
  unfold powerThermSetBody <;> (try dsimp only) <;> (repeat' (first | split | apply keepsV_checked | trivial)) <;> (try (simp +contextual [KeepsV, Keeps]; done))
theorem keepsV_powerThermGetBody (rq : Request) (s : State) : KeepsV s (powerThermGetBody rq s) := by
  unfold powerThermGetBody <;> (try dsimp only) <;> (repeat' (first | split | apply keepsV_checked | trivial)) <;> (try (simp +contextual [KeepsV, Keeps]; done))
theorem keepsV_powerThermClearBody (rq : Request) (s : State) : KeepsV s (powerThermClearBody rq s) := by
  unfold powerThermClearBody <;> (try dsimp only) <;> (repeat' (first | split | apply keepsV_checked | trivial)) <;> (try (simp +contextual [KeepsV, Keeps]; done))
theorem keepsV_pairConfigBody (rq : Request) (s : State) : KeepsV s (pairConfigBody rq s) := by
  unfold pairConfigBody
  dsimp only
  refine keepsV_checked ?_
  (repeat' split) <;> simp only [refuseAs, refuseObj, stakeRefusal, badValue, KeepsV] <;> simp +contextual [Keeps]
theorem keepsV_pairStatusBody (rq : Request) (s : State) : KeepsV s (pairStatusBody rq s) := by
  unfold pairStatusBody <;> (try dsimp only) <;> (repeat' (first | split | apply keepsV_checked | trivial)) <;> (try (simp +contextual [KeepsV, Keeps]; done))
theorem keepsV_pairPromoteBody (rq : Request) (s : State) : KeepsV s (pairPromoteBody rq s) := by
  unfold pairPromoteBody; split
  · trivial
  · split
    · trivial
    · show Keeps _ _
      simp only [Keeps, keeps_promote, true_and]; exact ⟨id, id, id⟩
theorem keepsV_pairResyncBody (rq : Request) (s : State) : KeepsV s (pairResyncBody rq s) := by
  unfold pairResyncBody
  dsimp only
  (repeat' split) <;> simp only [refuseAs, refuseObj, stakeRefusal, badValue, KeepsV] <;> simp +contextual [Keeps]
theorem keepsV_pairUnpairBody (rq : Request) (s : State) : KeepsV s (pairUnpairBody rq s) := by
  unfold pairUnpairBody; extract_lets s1 s2 a1 s3
  have hs1 : Keeps s s1 := by
    simp only [s1, a1]; (repeat' split) <;> simp +contextual [Keeps]
  have ks1 := hs1; simp only [Keeps] at ks1
  have hs2 : Keeps s s2 := by
    simp only [s2, a1]; (repeat' split) <;> simp +contextual [Keeps, ks1]
  have ks2 := hs2; simp only [Keeps] at ks2
  have hs3 : Keeps s s3 := by
    simp only [s3, a1]; (repeat' split) <;> simp +contextual [Keeps, ks1, ks2]
  have ks3 := hs3; simp only [Keeps] at ks3
  (repeat' split) <;> simp only [refuseAs, refuseObj, stakeRefusal, badValue, KeepsV] <;> simp +contextual [Keeps, ks1, ks2, ks3]
theorem keepsV_pairGetBody (rq : Request) (s : State) : KeepsV s (pairGetBody rq s) := by
  unfold pairGetBody <;> (try dsimp only) <;> (repeat' (first | split | apply keepsV_checked | trivial)) <;> (try (simp +contextual [KeepsV, Keeps]; done))
theorem keepsV_pairRejoinBody (rq : Request) (s : State) : KeepsV s (pairRejoinBody rq s) := by
  unfold pairRejoinBody
  dsimp only
  (repeat' split) <;> simp only [refuseAs, refuseObj, stakeRefusal, badValue, KeepsV] <;> simp +contextual [Keeps]
theorem keepsV_memStakeHandoverBody (rq : Request) (s : State) : KeepsV s (memStakeHandoverBody rq s) := by
  unfold memStakeHandoverBody; extract_lets p bank x me new clear s1 lo a1 m s2
  have hs1 : Keeps s s1 := by
    simp only [s1, a1, m]; (repeat' split) <;> simp +contextual [Keeps]
  have ks1 := hs1; simp only [Keeps] at ks1
  have hs2 : Keeps s s2 := by
    simp only [s2, a1, m]; (repeat' split) <;> simp +contextual [Keeps, ks1, memFilter_wf]
  have ks2 := hs2; simp only [Keeps] at ks2
  refine keepsV_checked ?_
  (repeat' split) <;> simp only [refuseAs, refuseObj, stakeRefusal, badValue, KeepsV] <;> simp +contextual [Keeps, ks1, ks2]
theorem keepsV_memStatusBody (rq : Request) (s : State) : KeepsV s (memStatusBody rq s) := by
  unfold memStatusBody <;> (try dsimp only) <;> (repeat' (first | split | apply keepsV_checked | trivial)) <;> (try (simp +contextual [KeepsV, Keeps]; done))
theorem keepsV_memRegionsBody (rq : Request) (s : State) : KeepsV s (memRegionsBody rq s) := by
  unfold memRegionsBody <;> (try dsimp only) <;> (repeat' (first | split | apply keepsV_checked | trivial)) <;> (try (simp +contextual [KeepsV, Keeps]; done))
theorem keepsV_memStakeStatusBody (rq : Request) (s : State) : KeepsV s (memStakeStatusBody rq s) := by
  unfold memStakeStatusBody <;> (try dsimp only) <;> (repeat' (first | split | apply keepsV_checked | trivial)) <;> (try (simp +contextual [KeepsV, Keeps]; done))
theorem keepsV_memBankRetireBody (rq : Request) (s : State) : KeepsV s (memBankRetireBody rq s) := by
  unfold memBankRetireBody <;> (try dsimp only) <;> (repeat' (first | split | apply keepsV_checked | trivial)) <;> (try (simp +contextual [KeepsV, Keeps]; done))
theorem keepsV_memScrubSetBody (rq : Request) (s : State) : KeepsV s (memScrubSetBody rq s) := by
  unfold memScrubSetBody <;> (try dsimp only) <;> (repeat' (first | split | apply keepsV_checked | trivial)) <;> (try (simp +contextual [KeepsV, Keeps]; done))
theorem keepsV_memErrorsBody (rq : Request) (s : State) : KeepsV s (memErrorsBody rq s) := by
  unfold memErrorsBody <;> (try dsimp only) <;> (repeat' (first | split | apply keepsV_checked | trivial)) <;> (try (simp +contextual [KeepsV, Keeps]; done))
theorem keepsV_memHbmRowsBody (rq : Request) (s : State) : KeepsV s (memHbmRowsBody rq s) := by
  unfold memHbmRowsBody <;> (try dsimp only) <;> (repeat' (first | split | apply keepsV_checked | trivial)) <;> (try (simp +contextual [KeepsV, Keeps]; done))
theorem keepsV_memClearBody (rq : Request) (s : State) : KeepsV s (memClearBody rq s) := by
  unfold memClearBody <;> (try dsimp only) <;> (repeat' (first | split | apply keepsV_checked | trivial)) <;> (try (simp +contextual [KeepsV, Keeps]; done))
theorem keepsV_memGetBody (rq : Request) (s : State) : KeepsV s (memGetBody rq s) := by
  unfold memGetBody <;> (try dsimp only) <;> (repeat' (first | split | apply keepsV_checked | trivial)) <;> (try (simp +contextual [KeepsV, Keeps]; done))
theorem keepsV_onChannel (closed : Reason) (rq : Request) (s : State) (k : Nat → DmaChan → Verdict) (hk : ∀ c x, KeepsV s (k c x)) : KeepsV s (onChannel closed rq s k) := by
  unfold onChannel; apply keepsV_checked; extract_lets x; split
  · trivial
  · split
    · unfold dmaOwned; trivial
    · exact hk _ _
theorem keepsV_dmaOpenBody (rq : Request) (s : State) : KeepsV s (dmaOpenBody rq s) := by
  unfold dmaOpenBody <;> (try dsimp only) <;> (repeat' (first | split | apply keepsV_checked | trivial)) <;> (try (simp +contextual [KeepsV, Keeps]; done))
theorem keepsV_dmaCloseBody (rq : Request) (s : State) : KeepsV s (dmaCloseBody rq s) := by
  unfold dmaCloseBody; apply keepsV_onChannel; intro c x; (try dsimp only); (repeat' split) <;> simp only [refuseAs, refuseObj, KeepsV] <;> simp +contextual [Keeps]
theorem keepsV_dmaStartBody (rq : Request) (s : State) : KeepsV s (dmaStartBody rq s) := by
  unfold dmaStartBody; extract_lets p ga sa; apply keepsV_checked; apply keepsV_onChannel; intro c x; (try dsimp only); (repeat' split) <;> simp only [refuseAs, refuseObj, KeepsV] <;> simp +contextual [Keeps]
theorem keepsV_dmaStatusBody (rq : Request) (s : State) : KeepsV s (dmaStatusBody rq s) := by
  unfold dmaStatusBody <;> (try dsimp only) <;> (repeat' (first | split | apply keepsV_checked | trivial)) <;> (try (simp +contextual [KeepsV, Keeps]; done))
theorem keepsV_dmaResumeBody (rq : Request) (s : State) : KeepsV s (dmaResumeBody rq s) := by
  unfold dmaResumeBody; apply keepsV_onChannel; intro c x; (try dsimp only); (repeat' split) <;> simp only [refuseAs, refuseObj, KeepsV] <;> simp +contextual [Keeps]
theorem keepsV_dmaSkipBody (rq : Request) (s : State) : KeepsV s (dmaSkipBody rq s) := by
  unfold dmaSkipBody; apply keepsV_onChannel; intro c x; (try dsimp only); (repeat' split) <;> simp only [refuseAs, refuseObj, KeepsV] <;> simp +contextual [Keeps]
theorem keepsV_dmaAbortBody (rq : Request) (s : State) : KeepsV s (dmaAbortBody rq s) := by
  unfold dmaAbortBody; apply keepsV_onChannel; intro c x; (try dsimp only); (repeat' split) <;> simp only [refuseAs, refuseObj, KeepsV] <;> simp +contextual [Keeps]
theorem keepsV_dmaClearBody (rq : Request) (s : State) : KeepsV s (dmaClearBody rq s) := by
  unfold dmaClearBody; apply keepsV_onChannel; intro c x; apply keepsV_checked; (try dsimp only); (repeat' split) <;> simp only [refuseAs, refuseObj, KeepsV] <;> simp +contextual [Keeps]
theorem keepsV_otpStatusBody (rq : Request) (s : State) : KeepsV s (otpStatusBody rq s) := by
  unfold otpStatusBody <;> (try dsimp only) <;> (repeat' (first | split | apply keepsV_checked | trivial)) <;> (try (simp +contextual [KeepsV, Keeps]; done))
theorem keepsV_otpReadBody (rq : Request) (s : State) : KeepsV s (otpReadBody rq s) := by
  unfold otpReadBody <;> (try dsimp only) <;> (repeat' (first | split | apply keepsV_checked | trivial)) <;> (try (simp +contextual [KeepsV, Keeps]; done))
theorem keepsV_otpProgramBody (rq : Request) (s : State) : KeepsV s (otpProgramBody rq s) := by
  unfold otpProgramBody <;> (try dsimp only) <;> (repeat' (first | split | apply keepsV_checked | trivial)) <;> (try (simp +contextual [KeepsV, Keeps]; done))
theorem keepsV_otpRepairPulseBody (rq : Request) (s : State) : KeepsV s (otpRepairPulseBody rq s) := by
  unfold otpRepairPulseBody <;> (try dsimp only) <;> (repeat' (first | split | apply keepsV_checked | trivial)) <;> (try (simp +contextual [KeepsV, Keeps]; done))
theorem keepsV_memHbmRepairBody (rq : Request) (s : State) : KeepsV s (memHbmRepairBody rq s) := by
  unfold memHbmRepairBody <;> (try dsimp only) <;> (repeat' (first | split | apply keepsV_checked | trivial)) <;> (try (simp +contextual [KeepsV, Keeps]; done))
theorem keepsV_otpLcChallengeBody (rq : Request) (s : State) : KeepsV s (otpLcChallengeBody rq s) := by
  unfold otpLcChallengeBody <;> (try dsimp only) <;> (repeat' (first | split | apply keepsV_checked | trivial)) <;> (try (simp +contextual [KeepsV, Keeps]; done))
theorem keepsV_otpLcAdvanceBody (rq : Request) (s : State) : KeepsV s (otpLcAdvanceBody rq s) := by
  unfold otpLcAdvanceBody <;> (try dsimp only) <;> (repeat' (first | split | apply keepsV_checked | trivial)) <;> (try (simp +contextual [KeepsV, Keeps]; done))
theorem keepsV_otpRevokeKeyBody (rq : Request) (s : State) : KeepsV s (otpRevokeKeyBody rq s) := by
  unfold otpRevokeKeyBody <;> (try dsimp only) <;> (repeat' (first | split | apply keepsV_checked | trivial)) <;> (try (simp +contextual [KeepsV, Keeps]; done))
theorem keepsV_otpMarginCheckBody (rq : Request) (s : State) : KeepsV s (otpMarginCheckBody rq s) := by
  unfold otpMarginCheckBody <;> (try dsimp only) <;> (repeat' (first | split | apply keepsV_checked | trivial)) <;> (try (simp +contextual [KeepsV, Keeps]; done))
theorem keepsV_calStatusBody (rq : Request) (s : State) : KeepsV s (calStatusBody rq s) := by
  unfold calStatusBody <;> (try dsimp only) <;> (repeat' (first | split | apply keepsV_checked | trivial)) <;> (try (simp +contextual [KeepsV, Keeps]; done))
theorem keepsV_calRunBody (rq : Request) (s : State) : KeepsV s (calRunBody rq s) := by
  unfold calRunBody <;> (try dsimp only) <;> (repeat' (first | split | apply keepsV_checked | trivial)) <;> (try (simp +contextual [KeepsV, Keeps]; done))
theorem keepsV_calStoreBody (rq : Request) (s : State) : KeepsV s (calStoreBody rq s) := by
  unfold calStoreBody <;> (try dsimp only) <;> (repeat' (first | split | apply keepsV_checked | trivial)) <;> (try (simp +contextual [KeepsV, Keeps]; done))
theorem keepsV_calAdcReadBody (rq : Request) (s : State) : KeepsV s (calAdcReadBody rq s) := by
  unfold calAdcReadBody <;> (try dsimp only) <;> (repeat' (first | split | apply keepsV_checked | trivial)) <;> (try (simp +contextual [KeepsV, Keeps]; done))
theorem keepsV_calCoeffReadBody (rq : Request) (s : State) : KeepsV s (calCoeffReadBody rq s) := by
  unfold calCoeffReadBody <;> (try dsimp only) <;> (repeat' (first | split | apply keepsV_checked | trivial)) <;> (try (simp +contextual [KeepsV, Keeps]; done))
theorem keepsV_logStatusBody (rq : Request) (s : State) : KeepsV s (logStatusBody rq s) := by
  unfold logStatusBody <;> (try dsimp only) <;> (repeat' (first | split | apply keepsV_checked | trivial)) <;> (try (simp +contextual [KeepsV, Keeps]; done))
theorem keepsV_logReadBody (rq : Request) (s : State) : KeepsV s (logReadBody rq s) := by
  unfold logReadBody <;> (try dsimp only) <;> (repeat' (first | split | apply keepsV_checked | trivial)) <;> (try (simp +contextual [KeepsV, Keeps]; done))
theorem keepsV_logAckBody (rq : Request) (s : State) : KeepsV s (logAckBody rq s) := by
  unfold logAckBody <;> (try dsimp only) <;> (repeat' (first | split | apply keepsV_checked | trivial)) <;> (try (simp +contextual [KeepsV, Keeps]; done))
theorem keepsV_logConfigBody (rq : Request) (s : State) : KeepsV s (logConfigBody rq s) := by
  unfold logConfigBody <;> (try dsimp only) <;> (repeat' (first | split | apply keepsV_checked | trivial)) <;> (try (simp +contextual [KeepsV, Keeps]; done))
theorem keepsV_logEpochSetBody (rq : Request) (s : State) : KeepsV s (logEpochSetBody rq s) := by
  unfold logEpochSetBody <;> (try dsimp only) <;> (repeat' (first | split | apply keepsV_checked | trivial)) <;> (try (simp +contextual [KeepsV, Keeps]; done))
theorem keepsV_logGetBody (rq : Request) (s : State) : KeepsV s (logGetBody rq s) := by
  unfold logGetBody <;> (try dsimp only) <;> (repeat' (first | split | apply keepsV_checked | trivial)) <;> (try (simp +contextual [KeepsV, Keeps]; done))
theorem keepsV_sysNopBody (rq : Request) (s : State) : KeepsV s (sysNopBody rq s) := by
  unfold sysNopBody <;> (try dsimp only) <;> (repeat' (first | split | apply keepsV_checked | trivial)) <;> (try (simp +contextual [KeepsV, Keeps]; done))
theorem keepsV_sysInfoBody (rq : Request) (s : State) : KeepsV s (sysInfoBody rq s) := by
  unfold sysInfoBody <;> (try dsimp only) <;> (repeat' (first | split | apply keepsV_checked | trivial)) <;> (try (simp +contextual [KeepsV, Keeps]; done))
theorem keepsV_sysStateBody (rq : Request) (s : State) : KeepsV s (sysStateBody rq s) := by
  unfold sysStateBody <;> (try dsimp only) <;> (repeat' (first | split | apply keepsV_checked | trivial)) <;> (try (simp +contextual [KeepsV, Keeps]; done))
theorem keepsV_sysPauseBody (rq : Request) (s : State) : KeepsV s (sysPauseBody rq s) := by
  unfold sysPauseBody; show Keeps _ _; (repeat' split) <;> simp +contextual [Keeps]
theorem keepsV_sysResumeBody (rq : Request) (s : State) : KeepsV s (sysResumeBody rq s) := by
  unfold sysResumeBody <;> (try dsimp only) <;> (repeat' (first | split | apply keepsV_checked | trivial)) <;> (try (simp +contextual [KeepsV, Keeps]; done))
theorem keepsV_sysResetBody (rq : Request) (s : State) : KeepsV s (sysResetBody rq s) := by
  unfold sysResetBody <;> (try dsimp only) <;> (repeat' (first | split | apply keepsV_checked | trivial)) <;> (try (simp +contextual [KeepsV, Keeps]; done))
theorem keepsV_sysDoneListBody (rq : Request) (s : State) : KeepsV s (sysDoneListBody rq s) := by
  unfold sysDoneListBody <;> (try dsimp only) <;> (repeat' (first | split | apply keepsV_checked | trivial)) <;> (try (simp +contextual [KeepsV, Keeps]; done))
theorem keepsV_cfgCommitBody (rq : Request) (s : State) : KeepsV s (cfgCommitBody rq s) := by
  unfold cfgCommitBody <;> (try dsimp only) <;> (repeat' (first | split | apply keepsV_checked | trivial)) <;> (try (simp +contextual [KeepsV, Keeps]; done))
theorem keepsV_cfgDiscardBody (rq : Request) (s : State) : KeepsV s (cfgDiscardBody rq s) := by
  unfold cfgDiscardBody <;> (try dsimp only) <;> (repeat' (first | split | apply keepsV_checked | trivial)) <;> (try (simp +contextual [KeepsV, Keeps]; done))
theorem keepsV_cfgStagedBody (rq : Request) (s : State) : KeepsV s (cfgStagedBody rq s) := by
  unfold cfgStagedBody <;> (try dsimp only) <;> (repeat' (first | split | apply keepsV_checked | trivial)) <;> (try (simp +contextual [KeepsV, Keeps]; done))
theorem keepsV_cfgCheckBody (rq : Request) (s : State) : KeepsV s (cfgCheckBody rq s) := by
  unfold cfgCheckBody <;> (try dsimp only) <;> (repeat' (first | split | apply keepsV_checked | trivial)) <;> (try (simp +contextual [KeepsV, Keeps]; done))
theorem keepsV_cfgOwnerBody (rq : Request) (s : State) : KeepsV s (cfgOwnerBody rq s) := by
  unfold cfgOwnerBody <;> (try dsimp only) <;> (repeat' (first | split | apply keepsV_checked | trivial)) <;> (try (simp +contextual [KeepsV, Keeps]; done))
theorem keepsV_powerStatusBody (hvok : Byte) (rq : Request) (s : State) : KeepsV s (powerStatusBody hvok rq s) := by
  unfold powerStatusBody <;> (try dsimp only) <;> (repeat' (first | split | apply keepsV_checked | trivial)) <;> (try (simp +contextual [KeepsV, Keeps]; done))
theorem keepsV_powerSetStateBody (rq : Request) (s : State) : KeepsV s (powerSetStateBody rq s) := by
  unfold powerSetStateBody <;> (try dsimp only) <;> (repeat' (first | split | apply keepsV_checked | trivial)) <;> (try (simp +contextual [KeepsV, Keeps]; done))
theorem keepsV_powerPolicySetBody (rq : Request) (s : State) : KeepsV s (powerPolicySetBody rq s) := by
  unfold powerPolicySetBody <;> (try dsimp only) <;> (repeat' (first | split | apply keepsV_checked | trivial)) <;> (try (simp +contextual [KeepsV, Keeps]; done))
theorem keepsV_powerHvSetBody (rq : Request) (s : State) : KeepsV s (powerHvSetBody rq s) := by
  unfold powerHvSetBody <;> (try dsimp only) <;> (repeat' (first | split | apply keepsV_checked | trivial)) <;> (try (simp +contextual [KeepsV, Keeps]; done))
theorem keepsV_powerRailReadBody (bus : Option (List ℕ)) (rq : Request) (s : State) : KeepsV s (powerRailReadBody bus rq s) := by
  unfold powerRailReadBody; extract_lets k a s1
  have hs1 : Keeps s s1 := by
    simp only [s1]; (repeat' split) <;> simp +contextual [Keeps]
  have ks1 := hs1; simp only [Keeps] at ks1
  refine keepsV_checked ?_
  (repeat' split) <;> simp only [refuseAs, refuseObj, stakeRefusal, badValue, KeepsV] <;> simp +contextual [Keeps, ks1]
theorem keepsV_powerImageWriteBody (rq : Request) (s : State) : KeepsV s (powerImageWriteBody rq s) := by
  unfold powerImageWriteBody <;> (try dsimp only) <;> (repeat' (first | split | apply keepsV_checked | trivial)) <;> (try (simp +contextual [KeepsV, Keeps]; done))
theorem keepsV_powerGetBody (rq : Request) (s : State) : KeepsV s (powerGetBody rq s) := by
  unfold powerGetBody <;> (try dsimp only) <;> (repeat' (first | split | apply keepsV_checked | trivial)) <;> (try (simp +contextual [KeepsV, Keeps]; done))

end Sys2Proof.Laws
end

