-- ==== Sys2Proof/Laws/KeepsRows.lean ====
section
/-!
SUPPORT. What is left alone, operation by operation: the queue of commands, the doorbells where no doorbell is
taken, and the memories or their canonical form.  Here every row of the table.
-/

namespace Sys2Proof.Laws

open Sys2Proof Sys2Proof.Machine

set_option linter.all false

theorem keeps_conclude (c : Cmd) (rq : Request) (v : Verdict) (s : State) (h : KeepsV s v) : Keeps s (s.conclude c rq v) := by
  unfold State.conclude
  split
  · simp [Keeps]
  · split
    · simp [Keeps]
    · simp only [KeepsV, Keeps] at h; simp [Keeps, h]; exact ⟨h.2.1, h.2.2.1, h.2.2.2⟩
  · simp [Keeps]
  · simp only [KeepsV, Keeps] at h
    dsimp only
    split
    · simp [Keeps, h]; exact ⟨h.2.1, h.2.2.1, h.2.2.2⟩
    · simp [Keeps]
  · simp only [KeepsV, Keeps] at h
    split
    · simp [Keeps]
    · dsimp only
      split
      · simp [Keeps]
      · simp [Keeps, h]; exact ⟨h.2.1, h.2.2.1, h.2.2.2⟩
  · simp [Keeps]

theorem keeps_execute (c : Cmd) (size : Nat) (body : Request → State → Verdict) (rq : Request) (s : State)
    (h : ∀ rq s, KeepsV s (body rq s)) : Keeps s (s.execute c size body rq) := by
  unfold State.execute
  dsimp only
  split
  · simp [Keeps]
  · split
    · simp [Keeps]
    · split
      · exact keeps_trans (t := s.hostAccess) (by simp +contextual [Keeps]) (keeps_conclude _ _ _ _ (h _ _))
      · exact keeps_conclude _ _ _ _ (h _ _)

theorem keeps_serve (c : Cmd) (size : Nat) (body : Request → State → Verdict) (m : Moment) (rq : Request) (s : State)
    (h : ∀ rq s, KeepsV s (body rq s)) : Keeps s (serve c size body m rq s) := by
  have ha : Keeps s ((s.clock m).arrive c.op rq) := by simp +contextual [Keeps]
  unfold serve
  dsimp only
  split
  · have h1 : Keeps ((s.clock m).arrive c.op rq) (((s.clock m).arrive c.op rq).takeBell rq.mbx.val) := by simp +contextual [Keeps]
    have h2 := keeps_execute c size body rq (((s.clock m).arrive c.op rq).takeBell rq.mbx.val) h
    have h3 : ∀ t : State, Keeps t (State.serveUndefined 16 t) := fun t => by simp +contextual [Keeps]
    exact keeps_trans ha (keeps_trans h1 (keeps_trans h2 (h3 _)))
  · exact ha

theorem keeps_execSysNop (m : Moment) (rq : Request) (s t : State) (h : execSysNop m rq s = .next t) : Keeps s t := by
  cases h; exact keeps_serve _ _ _ _ _ _ (fun rq s => keepsV_sysNopBody rq s)
theorem keeps_execSysInfo (m : Moment) (rq : Request) (s t : State) (h : execSysInfo m rq s = .next t) : Keeps s t := by
  cases h; exact keeps_serve _ _ _ _ _ _ (fun rq s => keepsV_sysInfoBody rq s)
theorem keeps_execSysState (m : Moment) (rq : Request) (s t : State) (h : execSysState m rq s = .next t) : Keeps s t := by
  cases h; exact keeps_serve _ _ _ _ _ _ (fun rq s => keepsV_sysStateBody rq s)
theorem keeps_execSysPause (m : Moment) (rq : Request) (s t : State) (h : execSysPause m rq s = .next t) : Keeps s t := by
  cases h; exact keeps_serve _ _ _ _ _ _ (fun rq s => keepsV_sysPauseBody rq s)
theorem keeps_execSysResume (m : Moment) (rq : Request) (s t : State) (h : execSysResume m rq s = .next t) : Keeps s t := by
  cases h; exact keeps_serve _ _ _ _ _ _ (fun rq s => keepsV_sysResumeBody rq s)
theorem keeps_execSysReset (m : Moment) (rq : Request) (s t : State) (h : execSysReset m rq s = .next t) : Keeps s t := by
  cases h; exact keeps_serve _ _ _ _ _ _ (fun rq s => keepsV_sysResetBody rq s)
theorem keeps_execSysDoneList (m : Moment) (rq : Request) (s t : State) (h : execSysDoneList m rq s = .next t) : Keeps s t := by
  cases h; exact keeps_serve _ _ _ _ _ _ (fun rq s => keepsV_sysDoneListBody rq s)
theorem keeps_execCfgCommit (m : Moment) (rq : Request) (s t : State) (h : execCfgCommit m rq s = .next t) : Keeps s t := by
  cases h; exact keeps_serve _ _ _ _ _ _ (fun rq s => keepsV_cfgCommitBody rq s)
theorem keeps_execCfgDiscard (m : Moment) (rq : Request) (s t : State) (h : execCfgDiscard m rq s = .next t) : Keeps s t := by
  cases h; exact keeps_serve _ _ _ _ _ _ (fun rq s => keepsV_cfgDiscardBody rq s)
theorem keeps_execCfgStaged (m : Moment) (rq : Request) (s t : State) (h : execCfgStaged m rq s = .next t) : Keeps s t := by
  cases h; exact keeps_serve _ _ _ _ _ _ (fun rq s => keepsV_cfgStagedBody rq s)
theorem keeps_execCfgCheck (m : Moment) (rq : Request) (s t : State) (h : execCfgCheck m rq s = .next t) : Keeps s t := by
  cases h; exact keeps_serve _ _ _ _ _ _ (fun rq s => keepsV_cfgCheckBody rq s)
theorem keeps_execCfgOwner (m : Moment) (rq : Request) (s t : State) (h : execCfgOwner m rq s = .next t) : Keeps s t := by
  cases h; exact keeps_serve _ _ _ _ _ _ (fun rq s => keepsV_cfgOwnerBody rq s)
theorem keeps_execGeomHeadSet (m : Moment) (rq : Request) (s t : State) (h : execGeomHeadSet m rq s = .next t) : Keeps s t := by
  cases h; exact keeps_serve _ _ _ _ _ _ (fun rq s => keepsV_geomHeadSetBody rq s)
theorem keeps_execGeomRowSet (m : Moment) (rq : Request) (s t : State) (h : execGeomRowSet m rq s = .next t) : Keeps s t := by
  cases h; exact keeps_serve _ _ _ _ _ _ (fun rq s => keepsV_geomRowSetBody rq s)
theorem keeps_execGeomBarSet (m : Moment) (rq : Request) (s t : State) (h : execGeomBarSet m rq s = .next t) : Keeps s t := by
  cases h; exact keeps_serve _ _ _ _ _ _ (fun rq s => keepsV_geomBarSetBody rq s)
theorem keeps_execGeomNmapWrite (m : Moment) (rq : Request) (s t : State) (h : execGeomNmapWrite m rq s = .next t) : Keeps s t := by
  cases h; exact keeps_serve _ _ _ _ _ _ (fun rq s => keepsV_geomNmapWriteBody rq s)
theorem keeps_execGeomNmapLoad (m : Moment) (rq : Request) (s t : State) (h : execGeomNmapLoad m rq s = .next t) : Keeps s t := by
  cases h; exact keeps_serve _ _ _ _ _ _ (fun rq s => keepsV_geomNmapLoadBody rq s)
theorem keeps_execGeomNmapRead (m : Moment) (rq : Request) (s t : State) (h : execGeomNmapRead m rq s = .next t) : Keeps s t := by
  cases h; exact keeps_serve _ _ _ _ _ _ (fun rq s => keepsV_geomNmapReadBody rq s)
theorem keeps_execGeomStitchSet (m : Moment) (rq : Request) (s t : State) (h : execGeomStitchSet m rq s = .next t) : Keeps s t := by
  cases h; exact keeps_serve _ _ _ _ _ _ (fun rq s => keepsV_geomStitchSetBody rq s)
theorem keeps_execGeomMaskLoad (m : Moment) (rq : Request) (s t : State) (h : execGeomMaskLoad m rq s = .next t) : Keeps s t := by
  cases h; exact keeps_serve _ _ _ _ _ _ (fun rq s => keepsV_geomMaskLoadBody rq s)
theorem keeps_execGeomSwath (m : Moment) (rq : Request) (s t : State) (h : execGeomSwath m rq s = .next t) : Keeps s t := by
  cases h; exact keeps_serve _ _ _ _ _ _ (fun rq s => keepsV_geomSwathBody rq s)
theorem keeps_execGeomGet (m : Moment) (rq : Request) (s t : State) (h : execGeomGet m rq s = .next t) : Keeps s t := by
  cases h; exact keeps_serve _ _ _ _ _ _ (fun rq s => keepsV_geomGetBody rq s)
theorem keeps_execGeomCoverage (m : Moment) (rq : Request) (s t : State) (h : execGeomCoverage m rq s = .next t) : Keeps s t := by
  cases h; exact keeps_serve _ _ _ _ _ _ (fun rq s => keepsV_geomCoverageBody rq s)
theorem keeps_execAxisConfig (m : Moment) (rq : Request) (s t : State) (h : execAxisConfig m rq s = .next t) : Keeps s t := by
  cases h; exact keeps_serve _ _ _ _ _ _ (fun rq s => keepsV_axisConfigBody rq s)
theorem keeps_execAxisEnable (m : Moment) (rq : Request) (s t : State) (h : execAxisEnable m rq s = .next t) : Keeps s t := by
  cases h; exact keeps_serve _ _ _ _ _ _ (fun rq s => keepsV_axisEnableBody rq s)
theorem keeps_execAxisRead (m : Moment) (rq : Request) (s t : State) (h : execAxisRead m rq s = .next t) : Keeps s t := by
  cases h; exact keeps_serve _ _ _ _ _ _ (fun rq s => keepsV_axisReadBody rq s)
theorem keeps_execAxisPreset (m : Moment) (rq : Request) (s t : State) (h : execAxisPreset m rq s = .next t) : Keeps s t := by
  cases h; exact keeps_serve _ _ _ _ _ _ (fun rq s => keepsV_axisPresetBody rq s)
theorem keeps_execAxisClear (m : Moment) (rq : Request) (s t : State) (h : execAxisClear m rq s = .next t) : Keeps s t := by
  cases h; exact keeps_serve _ _ _ _ _ _ (fun rq s => keepsV_axisClearBody rq s)
theorem keeps_execAxisEchoSet (m : Moment) (rq : Request) (s t : State) (h : execAxisEchoSet m rq s = .next t) : Keeps s t := by
  cases h; exact keeps_serve _ _ _ _ _ _ (fun rq s => keepsV_axisEchoSetBody rq s)
theorem keeps_execAxisWakeSet (m : Moment) (rq : Request) (s t : State) (h : execAxisWakeSet m rq s = .next t) : Keeps s t := by
  cases h; exact keeps_serve _ _ _ _ _ _ (fun rq s => keepsV_axisWakeSetBody rq s)
theorem keeps_execAxisBarPosition (m : Moment) (rq : Request) (s t : State) (h : execAxisBarPosition m rq s = .next t) : Keeps s t := by
  cases h; exact keeps_serve _ _ _ _ _ _ (fun rq s => keepsV_axisBarPositionBody rq s)
theorem keeps_execAxisGet (m : Moment) (rq : Request) (s t : State) (h : execAxisGet m rq s = .next t) : Keeps s t := by
  cases h; exact keeps_serve _ _ _ _ _ _ (fun rq s => keepsV_axisGetBody rq s)
theorem keeps_execTrigConfig (m : Moment) (rq : Request) (s t : State) (h : execTrigConfig m rq s = .next t) : Keeps s t := by
  cases h; exact keeps_serve _ _ _ _ _ _ (fun rq s => keepsV_trigConfigBody rq s)
theorem keeps_execTrigEnable (m : Moment) (rq : Request) (s t : State) (h : execTrigEnable m rq s = .next t) : Keeps s t := by
  cases h; exact keeps_serve _ _ _ _ _ _ (fun rq s => keepsV_trigEnableBody rq s)
theorem keeps_execTrigRunWrite (m : Moment) (rq : Request) (s t : State) (h : execTrigRunWrite m rq s = .next t) : Keeps s t := by
  cases h; exact keeps_serve _ _ _ _ _ _ (fun rq s => keepsV_trigRunWriteBody rq s)
theorem keeps_execTrigRunStart (m : Moment) (rq : Request) (s t : State) (h : execTrigRunStart m rq s = .next t) : Keeps s t := by
  cases h; exact keeps_serve _ _ _ _ _ _ (fun rq s => keepsV_trigRunStartBody rq s)
theorem keeps_execTrigStatus (m : Moment) (rq : Request) (s t : State) (h : execTrigStatus m rq s = .next t) : Keeps s t := by
  cases h; exact keeps_serve _ _ _ _ _ _ (fun rq s => keepsV_trigStatusBody rq s)
theorem keeps_execTrigSpit (m : Moment) (rq : Request) (s t : State) (h : execTrigSpit m rq s = .next t) : Keeps s t := by
  cases h; exact keeps_serve _ _ _ _ _ _ (fun rq s => keepsV_trigSpitBody rq s)
theorem keeps_execTrigSpitResume (m : Moment) (rq : Request) (s t : State) (h : execTrigSpitResume m rq s = .next t) : Keeps s t := by
  cases h; exact keeps_serve _ _ _ _ _ _ (fun rq s => keepsV_trigSpitResumeBody rq s)
theorem keeps_execTrigTrigoutSet (m : Moment) (rq : Request) (s t : State) (h : execTrigTrigoutSet m rq s = .next t) : Keeps s t := by
  cases h; exact keeps_serve _ _ _ _ _ _ (fun rq s => keepsV_trigTrigoutSetBody rq s)
theorem keeps_execTrigGet (m : Moment) (rq : Request) (s t : State) (h : execTrigGet m rq s = .next t) : Keeps s t := by
  cases h; exact keeps_serve _ _ _ _ _ _ (fun rq s => keepsV_trigGetBody rq s)
theorem keeps_execTrigClear (m : Moment) (rq : Request) (s t : State) (h : execTrigClear m rq s = .next t) : Keeps s t := by
  cases h; exact keeps_serve _ _ _ _ _ _ (fun rq s => keepsV_trigClearBody rq s)
theorem keeps_execWaveWaveSet (m : Moment) (rq : Request) (s t : State) (h : execWaveWaveSet m rq s = .next t) : Keeps s t := by
  cases h; exact keeps_serve _ _ _ _ _ _ (fun rq s => keepsV_waveWaveSetBody rq s)
theorem keeps_execWaveProfileSet (m : Moment) (rq : Request) (s t : State) (h : execWaveProfileSet m rq s = .next t) : Keeps s t := by
  cases h; exact keeps_serve _ _ _ _ _ _ (fun rq s => keepsV_waveProfileSetBody rq s)
theorem keeps_execWaveBarSet (m : Moment) (rq : Request) (s t : State) (h : execWaveBarSet m rq s = .next t) : Keeps s t := by
  cases h; exact keeps_serve _ _ _ _ _ _ (fun rq s => keepsV_waveBarSetBody rq s)
theorem keeps_execWaveChannelSet (m : Moment) (rq : Request) (s t : State) (h : execWaveChannelSet m rq s = .next t) : Keeps s t := by
  cases h; exact keeps_serve _ _ _ _ _ _ (fun rq s => keepsV_waveChannelSetBody rq s)
theorem keeps_execWaveDacSet (m : Moment) (rq : Request) (s t : State) (h : execWaveDacSet m rq s = .next t) : Keeps s t := by
  cases h; exact keeps_serve _ _ _ _ _ _ (fun rq s => keepsV_waveDacSetBody rq s)
theorem keeps_execWaveCurveSet (m : Moment) (rq : Request) (s t : State) (h : execWaveCurveSet m rq s = .next t) : Keeps s t := by
  cases h; exact keeps_serve _ _ _ _ _ _ (fun rq s => keepsV_waveCurveSetBody rq s)
theorem keeps_execWaveGet (m : Moment) (rq : Request) (s t : State) (h : execWaveGet m rq s = .next t) : Keeps s t := by
  cases h; exact keeps_serve _ _ _ _ _ _ (fun rq s => keepsV_waveGetBody rq s)
theorem keeps_execWaveStatus (m : Moment) (rq : Request) (s t : State) (h : execWaveStatus m rq s = .next t) : Keeps s t := by
  cases h; exact keeps_serve _ _ _ _ _ _ (fun rq s => keepsV_waveStatusBody rq s)
theorem keeps_execWaveClear (m : Moment) (rq : Request) (s t : State) (h : execWaveClear m rq s = .next t) : Keeps s t := by
  cases h; exact keeps_serve _ _ _ _ _ _ (fun rq s => keepsV_waveClearBody rq s)
theorem keeps_execPlaneDefine (m : Moment) (rq : Request) (s t : State) (h : execPlaneDefine m rq s = .next t) : Keeps s t := by
  cases h; exact keeps_serve _ _ _ _ _ _ (fun rq s => keepsV_planeDefineBody rq s)
theorem keeps_execPlaneEnable (m : Moment) (rq : Request) (s t : State) (h : execPlaneEnable m rq s = .next t) : Keeps s t := by
  cases h; exact keeps_serve _ _ _ _ _ _ (fun rq s => keepsV_planeEnableBody rq s)
theorem keeps_execPlaneRingSet (m : Moment) (rq : Request) (s t : State) (h : execPlaneRingSet m rq s = .next t) : Keeps s t := by
  cases h; exact keeps_serve _ _ _ _ _ _ (fun rq s => keepsV_planeRingSetBody rq s)
theorem keeps_execPlaneIndexWrite (m : Moment) (rq : Request) (s t : State) (h : execPlaneIndexWrite m rq s = .next t) : Keeps s t := by
  cases h; exact keeps_serve _ _ _ _ _ _ (fun rq s => keepsV_planeIndexWriteBody rq s)
theorem keeps_execPlaneIndexRead (m : Moment) (rq : Request) (s t : State) (h : execPlaneIndexRead m rq s = .next t) : Keeps s t := by
  cases h; exact keeps_serve _ _ _ _ _ _ (fun rq s => keepsV_planeIndexReadBody rq s)
theorem keeps_execPlaneStatus (m : Moment) (rq : Request) (s t : State) (h : execPlaneStatus m rq s = .next t) : Keeps s t := by
  cases h; exact keeps_serve _ _ _ _ _ _ (fun rq s => keepsV_planeStatusBody rq s)
theorem keeps_execPlaneRetry (m : Moment) (rq : Request) (s t : State) (h : execPlaneRetry m rq s = .next t) : Keeps s t := by
  cases h; exact keeps_serve _ _ _ _ _ _ (fun rq s => keepsV_planeRetryBody rq s)
theorem keeps_execPlaneGet (m : Moment) (rq : Request) (s t : State) (h : execPlaneGet m rq s = .next t) : Keeps s t := by
  cases h; exact keeps_serve _ _ _ _ _ _ (fun rq s => keepsV_planeGetBody rq s)
theorem keeps_execPlaneClear (m : Moment) (rq : Request) (s t : State) (h : execPlaneClear m rq s = .next t) : Keeps s t := by
  cases h; exact keeps_serve _ _ _ _ _ _ (fun rq s => keepsV_planeClearBody rq s)
theorem keeps_execPlaitSessionOpen (m : Moment) (rq : Request) (s t : State) (h : execPlaitSessionOpen m rq s = .next t) : Keeps s t := by
  cases h; exact keeps_serve _ _ _ _ _ _ (fun rq s => keepsV_plaitSessionOpenBody rq s)
theorem keeps_execPlaitSessionEnd (m : Moment) (rq : Request) (s t : State) (h : execPlaitSessionEnd m rq s = .next t) : Keeps s t := by
  cases h; exact keeps_serve _ _ _ _ _ _ (fun rq s => keepsV_plaitSessionEndBody rq s)
theorem keeps_execPlaitSessionStatus (m : Moment) (rq : Request) (s t : State) (h : execPlaitSessionStatus m rq s = .next t) : Keeps s t := by
  cases h; exact keeps_serve _ _ _ _ _ _ (fun rq s => keepsV_plaitSessionStatusBody rq s)
theorem keeps_execPlaitVerify (m : Moment) (rq : Request) (s t : State) (h : execPlaitVerify m rq s = .next t) : Keeps s t := by
  cases h; exact keeps_serve _ _ _ _ _ _ (fun rq s => keepsV_plaitVerifyBody rq s)
theorem keeps_execPlaitVerifyResult (m : Moment) (rq : Request) (s t : State) (h : execPlaitVerifyResult m rq s = .next t) : Keeps s t := by
  cases h; exact keeps_serve _ _ _ _ _ _ (fun rq s => keepsV_plaitVerifyResultBody rq s)
theorem keeps_execPlaitDecode (m : Moment) (rq : Request) (s t : State) (h : execPlaitDecode m rq s = .next t) : Keeps s t := by
  cases h; exact keeps_serve _ _ _ _ _ _ (fun rq s => keepsV_plaitDecodeBody rq s)
theorem keeps_execPlaitStatus (m : Moment) (rq : Request) (s t : State) (h : execPlaitStatus m rq s = .next t) : Keeps s t := by
  cases h; exact keeps_serve _ _ _ _ _ _ (fun rq s => keepsV_plaitStatusBody rq s)
theorem keeps_execPlaitClear (m : Moment) (rq : Request) (s t : State) (h : execPlaitClear m rq s = .next t) : Keeps s t := by
  cases h; exact keeps_serve _ _ _ _ _ _ (fun rq s => keepsV_plaitClearBody rq s)
theorem keeps_execCanePortSet (m : Moment) (rq : Request) (s t : State) (h : execCanePortSet m rq s = .next t) : Keeps s t := by
  cases h; exact keeps_serve _ _ _ _ _ _ (fun rq s => keepsV_canePortSetBody rq s)
theorem keeps_execCanePortStatus (m : Moment) (rq : Request) (s t : State) (h : execCanePortStatus m rq s = .next t) : Keeps s t := by
  cases h; exact keeps_serve _ _ _ _ _ _ (fun rq s => keepsV_canePortStatusBody rq s)
theorem keeps_execCaneModuleInfo (m : Moment) (rq : Request) (s t : State) (h : execCaneModuleInfo m rq s = .next t) : Keeps s t := by
  cases h; exact keeps_serve _ _ _ _ _ _ (fun rq s => keepsV_caneModuleInfoBody rq s)
theorem keeps_execCaneRetrain (m : Moment) (rq : Request) (s t : State) (h : execCaneRetrain m rq s = .next t) : Keeps s t := by
  cases h; exact keeps_serve _ _ _ _ _ _ (fun rq s => keepsV_caneRetrainBody rq s)
theorem keeps_execCaneClear (m : Moment) (rq : Request) (s t : State) (h : execCaneClear m rq s = .next t) : Keeps s t := by
  cases h; exact keeps_serve _ _ _ _ _ _ (fun rq s => keepsV_caneClearBody rq s)
theorem keeps_execCaneGet (m : Moment) (rq : Request) (s t : State) (h : execCaneGet m rq s = .next t) : Keeps s t := by
  cases h; exact keeps_serve _ _ _ _ _ _ (fun rq s => keepsV_caneGetBody rq s)
theorem keeps_execHealthPolicySet (m : Moment) (rq : Request) (s t : State) (h : execHealthPolicySet m rq s = .next t) : Keeps s t := by
  cases h; exact keeps_serve _ _ _ _ _ _ (fun rq s => keepsV_healthPolicySetBody rq s)
theorem keeps_execHealthRefSet (m : Moment) (rq : Request) (s t : State) (h : execHealthRefSet m rq s = .next t) : Keeps s t := by
  cases h; exact keeps_serve _ _ _ _ _ _ (fun rq s => keepsV_healthRefSetBody rq s)
theorem keeps_execHealthSubstSet (m : Moment) (rq : Request) (s t : State) (h : execHealthSubstSet m rq s = .next t) : Keeps s t := by
  cases h; exact keeps_serve _ _ _ _ _ _ (fun rq s => keepsV_healthSubstSetBody rq s)
theorem keeps_execHealthSubstClear (m : Moment) (rq : Request) (s t : State) (h : execHealthSubstClear m rq s = .next t) : Keeps s t := by
  cases h; exact keeps_serve _ _ _ _ _ _ (fun rq s => keepsV_healthSubstClearBody rq s)
theorem keeps_execHealthReportOut (m : Moment) (rq : Request) (s t : State) (h : execHealthReportOut m rq s = .next t) : Keeps s t := by
  cases h; exact keeps_serve _ _ _ _ _ _ (fun rq s => keepsV_healthReportOutBody rq s)
theorem keeps_execHealthReleaseOut (m : Moment) (rq : Request) (s t : State) (h : execHealthReleaseOut m rq s = .next t) : Keeps s t := by
  cases h; exact keeps_serve _ _ _ _ _ _ (fun rq s => keepsV_healthReleaseOutBody rq s)
theorem keeps_execHealthTempSet (m : Moment) (rq : Request) (s t : State) (h : execHealthTempSet m rq s = .next t) : Keeps s t := by
  cases h; exact keeps_serve _ _ _ _ _ _ (fun rq s => keepsV_healthTempSetBody rq s)
theorem keeps_execHealthNozzleRead (m : Moment) (rq : Request) (s t : State) (h : execHealthNozzleRead m rq s = .next t) : Keeps s t := by
  cases h; exact keeps_serve _ _ _ _ _ _ (fun rq s => keepsV_healthNozzleReadBody rq s)
theorem keeps_execHealthSubstRead (m : Moment) (rq : Request) (s t : State) (h : execHealthSubstRead m rq s = .next t) : Keeps s t := by
  cases h; exact keeps_serve _ _ _ _ _ _ (fun rq s => keepsV_healthSubstReadBody rq s)
theorem keeps_execHealthStatus (m : Moment) (rq : Request) (s t : State) (h : execHealthStatus m rq s = .next t) : Keeps s t := by
  cases h; exact keeps_serve _ _ _ _ _ _ (fun rq s => keepsV_healthStatusBody rq s)
theorem keeps_execHealthGet (m : Moment) (rq : Request) (s t : State) (h : execHealthGet m rq s = .next t) : Keeps s t := by
  cases h; exact keeps_serve _ _ _ _ _ _ (fun rq s => keepsV_healthGetBody rq s)
theorem keeps_execHealthClear (m : Moment) (rq : Request) (s t : State) (h : execHealthClear m rq s = .next t) : Keeps s t := by
  cases h; exact keeps_serve _ _ _ _ _ _ (fun rq s => keepsV_healthClearBody rq s)
theorem keeps_execPairConfig (m : Moment) (rq : Request) (s t : State) (h : execPairConfig m rq s = .next t) : Keeps s t := by
  cases h; exact keeps_serve _ _ _ _ _ _ (fun rq s => keepsV_pairConfigBody rq s)
theorem keeps_execPairStatus (m : Moment) (rq : Request) (s t : State) (h : execPairStatus m rq s = .next t) : Keeps s t := by
  cases h; exact keeps_serve _ _ _ _ _ _ (fun rq s => keepsV_pairStatusBody rq s)
theorem keeps_execPairPromote (m : Moment) (rq : Request) (s t : State) (h : execPairPromote m rq s = .next t) : Keeps s t := by
  cases h; exact keeps_serve _ _ _ _ _ _ (fun rq s => keepsV_pairPromoteBody rq s)
theorem keeps_execPairResync (m : Moment) (rq : Request) (s t : State) (h : execPairResync m rq s = .next t) : Keeps s t := by
  cases h; exact keeps_serve _ _ _ _ _ _ (fun rq s => keepsV_pairResyncBody rq s)
theorem keeps_execPairUnpair (m : Moment) (rq : Request) (s t : State) (h : execPairUnpair m rq s = .next t) : Keeps s t := by
  cases h; exact keeps_serve _ _ _ _ _ _ (fun rq s => keepsV_pairUnpairBody rq s)
theorem keeps_execPairGet (m : Moment) (rq : Request) (s t : State) (h : execPairGet m rq s = .next t) : Keeps s t := by
  cases h; exact keeps_serve _ _ _ _ _ _ (fun rq s => keepsV_pairGetBody rq s)
theorem keeps_execPairRejoin (m : Moment) (rq : Request) (s t : State) (h : execPairRejoin m rq s = .next t) : Keeps s t := by
  cases h; exact keeps_serve _ _ _ _ _ _ (fun rq s => keepsV_pairRejoinBody rq s)
theorem keeps_execMemStatus (m : Moment) (rq : Request) (s t : State) (h : execMemStatus m rq s = .next t) : Keeps s t := by
  cases h; exact keeps_serve _ _ _ _ _ _ (fun rq s => keepsV_memStatusBody rq s)
theorem keeps_execMemRegions (m : Moment) (rq : Request) (s t : State) (h : execMemRegions m rq s = .next t) : Keeps s t := by
  cases h; exact keeps_serve _ _ _ _ _ _ (fun rq s => keepsV_memRegionsBody rq s)
theorem keeps_execMemStakeStatus (m : Moment) (rq : Request) (s t : State) (h : execMemStakeStatus m rq s = .next t) : Keeps s t := by
  cases h; exact keeps_serve _ _ _ _ _ _ (fun rq s => keepsV_memStakeStatusBody rq s)
theorem keeps_execMemStakeHandover (m : Moment) (rq : Request) (s t : State) (h : execMemStakeHandover m rq s = .next t) : Keeps s t := by
  cases h; exact keeps_serve _ _ _ _ _ _ (fun rq s => keepsV_memStakeHandoverBody rq s)
theorem keeps_execMemBankRetire (m : Moment) (rq : Request) (s t : State) (h : execMemBankRetire m rq s = .next t) : Keeps s t := by
  cases h; exact keeps_serve _ _ _ _ _ _ (fun rq s => keepsV_memBankRetireBody rq s)
theorem keeps_execMemScrubSet (m : Moment) (rq : Request) (s t : State) (h : execMemScrubSet m rq s = .next t) : Keeps s t := by
  cases h; exact keeps_serve _ _ _ _ _ _ (fun rq s => keepsV_memScrubSetBody rq s)
theorem keeps_execMemErrors (m : Moment) (rq : Request) (s t : State) (h : execMemErrors m rq s = .next t) : Keeps s t := by
  cases h; exact keeps_serve _ _ _ _ _ _ (fun rq s => keepsV_memErrorsBody rq s)
theorem keeps_execMemHbmRows (m : Moment) (rq : Request) (s t : State) (h : execMemHbmRows m rq s = .next t) : Keeps s t := by
  cases h; exact keeps_serve _ _ _ _ _ _ (fun rq s => keepsV_memHbmRowsBody rq s)
theorem keeps_execMemHbmRepair (m : Moment) (rq : Request) (s t : State) (h : execMemHbmRepair m rq s = .next t) : Keeps s t := by
  cases h; exact keeps_serve _ _ _ _ _ _ (fun rq s => keepsV_memHbmRepairBody rq s)
theorem keeps_execMemClear (m : Moment) (rq : Request) (s t : State) (h : execMemClear m rq s = .next t) : Keeps s t := by
  cases h; exact keeps_serve _ _ _ _ _ _ (fun rq s => keepsV_memClearBody rq s)
theorem keeps_execMemGet (m : Moment) (rq : Request) (s t : State) (h : execMemGet m rq s = .next t) : Keeps s t := by
  cases h; exact keeps_serve _ _ _ _ _ _ (fun rq s => keepsV_memGetBody rq s)
theorem keeps_execDmaOpen (m : Moment) (rq : Request) (s t : State) (h : execDmaOpen m rq s = .next t) : Keeps s t := by
  cases h; exact keeps_serve _ _ _ _ _ _ (fun rq s => keepsV_dmaOpenBody rq s)
theorem keeps_execDmaClose (m : Moment) (rq : Request) (s t : State) (h : execDmaClose m rq s = .next t) : Keeps s t := by
  cases h; exact keeps_serve _ _ _ _ _ _ (fun rq s => keepsV_dmaCloseBody rq s)
theorem keeps_execDmaStart (m : Moment) (rq : Request) (s t : State) (h : execDmaStart m rq s = .next t) : Keeps s t := by
  cases h; exact keeps_serve _ _ _ _ _ _ (fun rq s => keepsV_dmaStartBody rq s)
theorem keeps_execDmaStatus (m : Moment) (rq : Request) (s t : State) (h : execDmaStatus m rq s = .next t) : Keeps s t := by
  cases h; exact keeps_serve _ _ _ _ _ _ (fun rq s => keepsV_dmaStatusBody rq s)
theorem keeps_execDmaResume (m : Moment) (rq : Request) (s t : State) (h : execDmaResume m rq s = .next t) : Keeps s t := by
  cases h; exact keeps_serve _ _ _ _ _ _ (fun rq s => keepsV_dmaResumeBody rq s)
theorem keeps_execDmaSkip (m : Moment) (rq : Request) (s t : State) (h : execDmaSkip m rq s = .next t) : Keeps s t := by
  cases h; exact keeps_serve _ _ _ _ _ _ (fun rq s => keepsV_dmaSkipBody rq s)
theorem keeps_execDmaAbort (m : Moment) (rq : Request) (s t : State) (h : execDmaAbort m rq s = .next t) : Keeps s t := by
  cases h; exact keeps_serve _ _ _ _ _ _ (fun rq s => keepsV_dmaAbortBody rq s)
theorem keeps_execDmaClear (m : Moment) (rq : Request) (s t : State) (h : execDmaClear m rq s = .next t) : Keeps s t := by
  cases h; exact keeps_serve _ _ _ _ _ _ (fun rq s => keepsV_dmaClearBody rq s)
theorem keeps_execPowerStatus (m : Moment) (rq : Request) (hvok : Byte) (s t : State) (h : execPowerStatus m rq hvok s = .next t) : Keeps s t := by
  cases h; exact keeps_serve _ _ _ _ _ _ (fun rq s => keepsV_powerStatusBody _ rq s)
theorem keeps_execPowerSetState (m : Moment) (rq : Request) (s t : State) (h : execPowerSetState m rq s = .next t) : Keeps s t := by
  cases h; exact keeps_serve _ _ _ _ _ _ (fun rq s => keepsV_powerSetStateBody rq s)
theorem keeps_execPowerPolicySet (m : Moment) (rq : Request) (s t : State) (h : execPowerPolicySet m rq s = .next t) : Keeps s t := by
  cases h; exact keeps_serve _ _ _ _ _ _ (fun rq s => keepsV_powerPolicySetBody rq s)
theorem keeps_execPowerHvSet (m : Moment) (rq : Request) (s t : State) (h : execPowerHvSet m rq s = .next t) : Keeps s t := by
  cases h; exact keeps_serve _ _ _ _ _ _ (fun rq s => keepsV_powerHvSetBody rq s)
theorem keeps_execPowerRailRead (m : Moment) (rq : Request) (bus : Option (List Nat)) (s t : State) (h : execPowerRailRead m rq bus s = .next t) : Keeps s t := by
  cases h; exact keeps_serve _ _ _ _ _ _ (fun rq s => keepsV_powerRailReadBody _ rq s)
theorem keeps_execPowerImageWrite (m : Moment) (rq : Request) (s t : State) (h : execPowerImageWrite m rq s = .next t) : Keeps s t := by
  cases h; exact keeps_serve _ _ _ _ _ _ (fun rq s => keepsV_powerImageWriteBody rq s)
theorem keeps_execPowerGet (m : Moment) (rq : Request) (s t : State) (h : execPowerGet m rq s = .next t) : Keeps s t := by
  cases h; exact keeps_serve _ _ _ _ _ _ (fun rq s => keepsV_powerGetBody rq s)
theorem keeps_execPowerThermRead (m : Moment) (rq : Request) (s t : State) (h : execPowerThermRead m rq s = .next t) : Keeps s t := by
  cases h; exact keeps_serve _ _ _ _ _ _ (fun rq s => keepsV_powerThermReadBody rq s)
theorem keeps_execPowerThermSet (m : Moment) (rq : Request) (s t : State) (h : execPowerThermSet m rq s = .next t) : Keeps s t := by
  cases h; exact keeps_serve _ _ _ _ _ _ (fun rq s => keepsV_powerThermSetBody rq s)
theorem keeps_execPowerThermGet (m : Moment) (rq : Request) (s t : State) (h : execPowerThermGet m rq s = .next t) : Keeps s t := by
  cases h; exact keeps_serve _ _ _ _ _ _ (fun rq s => keepsV_powerThermGetBody rq s)
theorem keeps_execPowerThermClear (m : Moment) (rq : Request) (s t : State) (h : execPowerThermClear m rq s = .next t) : Keeps s t := by
  cases h; exact keeps_serve _ _ _ _ _ _ (fun rq s => keepsV_powerThermClearBody rq s)
theorem keeps_execCalStatus (m : Moment) (rq : Request) (s t : State) (h : execCalStatus m rq s = .next t) : Keeps s t := by
  cases h; exact keeps_serve _ _ _ _ _ _ (fun rq s => keepsV_calStatusBody rq s)
theorem keeps_execCalRun (m : Moment) (rq : Request) (s t : State) (h : execCalRun m rq s = .next t) : Keeps s t := by
  cases h; exact keeps_serve _ _ _ _ _ _ (fun rq s => keepsV_calRunBody rq s)
theorem keeps_execCalStore (m : Moment) (rq : Request) (s t : State) (h : execCalStore m rq s = .next t) : Keeps s t := by
  cases h; exact keeps_serve _ _ _ _ _ _ (fun rq s => keepsV_calStoreBody rq s)
theorem keeps_execCalAdcRead (m : Moment) (rq : Request) (s t : State) (h : execCalAdcRead m rq s = .next t) : Keeps s t := by
  cases h; exact keeps_serve _ _ _ _ _ _ (fun rq s => keepsV_calAdcReadBody rq s)
theorem keeps_execCalCoeffRead (m : Moment) (rq : Request) (s t : State) (h : execCalCoeffRead m rq s = .next t) : Keeps s t := by
  cases h; exact keeps_serve _ _ _ _ _ _ (fun rq s => keepsV_calCoeffReadBody rq s)
theorem keeps_execOtpStatus (m : Moment) (rq : Request) (s t : State) (h : execOtpStatus m rq s = .next t) : Keeps s t := by
  cases h; exact keeps_serve _ _ _ _ _ _ (fun rq s => keepsV_otpStatusBody rq s)
theorem keeps_execOtpRead (m : Moment) (rq : Request) (s t : State) (h : execOtpRead m rq s = .next t) : Keeps s t := by
  cases h; exact keeps_serve _ _ _ _ _ _ (fun rq s => keepsV_otpReadBody rq s)
theorem keeps_execOtpProgram (m : Moment) (rq : Request) (s t : State) (h : execOtpProgram m rq s = .next t) : Keeps s t := by
  cases h; exact keeps_serve _ _ _ _ _ _ (fun rq s => keepsV_otpProgramBody rq s)
theorem keeps_execOtpRepairPulse (m : Moment) (rq : Request) (s t : State) (h : execOtpRepairPulse m rq s = .next t) : Keeps s t := by
  cases h; exact keeps_serve _ _ _ _ _ _ (fun rq s => keepsV_otpRepairPulseBody rq s)
theorem keeps_execOtpLcChallenge (m : Moment) (rq : Request) (s t : State) (h : execOtpLcChallenge m rq s = .next t) : Keeps s t := by
  cases h; exact keeps_serve _ _ _ _ _ _ (fun rq s => keepsV_otpLcChallengeBody rq s)
theorem keeps_execOtpLcAdvance (m : Moment) (rq : Request) (s t : State) (h : execOtpLcAdvance m rq s = .next t) : Keeps s t := by
  cases h; exact keeps_serve _ _ _ _ _ _ (fun rq s => keepsV_otpLcAdvanceBody rq s)
theorem keeps_execOtpRevokeKey (m : Moment) (rq : Request) (s t : State) (h : execOtpRevokeKey m rq s = .next t) : Keeps s t := by
  cases h; exact keeps_serve _ _ _ _ _ _ (fun rq s => keepsV_otpRevokeKeyBody rq s)
theorem keeps_execOtpMarginCheck (m : Moment) (rq : Request) (s t : State) (h : execOtpMarginCheck m rq s = .next t) : Keeps s t := by
  cases h; exact keeps_serve _ _ _ _ _ _ (fun rq s => keepsV_otpMarginCheckBody rq s)
theorem keeps_execBistStatus (m : Moment) (rq : Request) (s t : State) (h : execBistStatus m rq s = .next t) : Keeps s t := by
  cases h; exact keeps_serve _ _ _ _ _ _ (fun rq s => keepsV_bistStatusBody rq s)
theorem keeps_execBistRun (m : Moment) (rq : Request) (s t : State) (h : execBistRun m rq s = .next t) : Keeps s t := by
  cases h; exact keeps_serve _ _ _ _ _ _ (fun rq s => keepsV_bistRunBody rq s)
theorem keeps_execBistStop (m : Moment) (rq : Request) (s t : State) (h : execBistStop m rq s = .next t) : Keeps s t := by
  cases h; exact keeps_serve _ _ _ _ _ _ (fun rq s => keepsV_bistStopBody rq s)
theorem keeps_execBistResult (m : Moment) (rq : Request) (s t : State) (h : execBistResult m rq s = .next t) : Keeps s t := by
  cases h; exact keeps_serve _ _ _ _ _ _ (fun rq s => keepsV_bistResultBody rq s)
theorem keeps_execBistConfig (m : Moment) (rq : Request) (s t : State) (h : execBistConfig m rq s = .next t) : Keeps s t := by
  cases h; exact keeps_serve _ _ _ _ _ _ (fun rq s => keepsV_bistConfigBody rq s)
theorem keeps_execBistGet (m : Moment) (rq : Request) (s t : State) (h : execBistGet m rq s = .next t) : Keeps s t := by
  cases h; exact keeps_serve _ _ _ _ _ _ (fun rq s => keepsV_bistGetBody rq s)
theorem keeps_execLogStatus (m : Moment) (rq : Request) (s t : State) (h : execLogStatus m rq s = .next t) : Keeps s t := by
  cases h; exact keeps_serve _ _ _ _ _ _ (fun rq s => keepsV_logStatusBody rq s)
theorem keeps_execLogRead (m : Moment) (rq : Request) (s t : State) (h : execLogRead m rq s = .next t) : Keeps s t := by
  cases h; exact keeps_serve _ _ _ _ _ _ (fun rq s => keepsV_logReadBody rq s)
theorem keeps_execLogAck (m : Moment) (rq : Request) (s t : State) (h : execLogAck m rq s = .next t) : Keeps s t := by
  cases h; exact keeps_serve _ _ _ _ _ _ (fun rq s => keepsV_logAckBody rq s)
theorem keeps_execLogConfig (m : Moment) (rq : Request) (s t : State) (h : execLogConfig m rq s = .next t) : Keeps s t := by
  cases h; exact keeps_serve _ _ _ _ _ _ (fun rq s => keepsV_logConfigBody rq s)
theorem keeps_execLogEpochSet (m : Moment) (rq : Request) (s t : State) (h : execLogEpochSet m rq s = .next t) : Keeps s t := by
  cases h; exact keeps_serve _ _ _ _ _ _ (fun rq s => keepsV_logEpochSetBody rq s)
theorem keeps_execLogGet (m : Moment) (rq : Request) (s t : State) (h : execLogGet m rq s = .next t) : Keeps s t := by
  cases h; exact keeps_serve _ _ _ _ _ _ (fun rq s => keepsV_logGetBody rq s)
theorem keeps_execPrintEnWrite (m : Moment) (v : Bool) (s t : State) (h : execPrintEnWrite m v s = .next t) : Keeps s t := by
  cases h; simp +contextual [Keeps]
theorem keeps_execCheckDone (m : Moment) (s t : State) (h : execCheckDone m s = .next t) : Keeps s t := by
  cases h; simp +contextual [Keeps]
theorem keeps_execResumeCheckDone (m : Moment) (s t : State) (h : execResumeCheckDone m s = .next t) : Keeps s t := by
  cases h; simp +contextual [Keeps]
theorem keeps_execCfgCheckDone (m : Moment) (s t : State) (h : execCfgCheckDone m s = .next t) : Keeps s t := by
  cases h; simp +contextual [Keeps]
theorem keeps_execDpOpen (m : Moment) (p : Fin 8) (ctrl : Word) (s t : State) (h : execDpOpen m p ctrl s = .next t) : Keeps s t := by
  cases h; simp +contextual [Keeps]
theorem keeps_execDpFlush (m : Moment) (p : Fin 8) (ctrl : Word) (s t : State) (h : execDpFlush m p ctrl s = .next t) : Keeps s t := by
  cases h; simp +contextual [Keeps]
theorem keeps_execDpClose (m : Moment) (p : Fin 8) (ctrl : Word) (s t : State) (h : execDpClose m p ctrl s = .next t) : Keeps s t := by
  cases h; simp +contextual [Keeps]
theorem keeps_execDpCloseComplete (m : Moment) (p : Fin 8) (s t : State) (h : execDpCloseComplete m p s = .next t) : Keeps s t := by
  cases h; simp +contextual [Keeps]
theorem keeps_execDpAbort (m : Moment) (p : Fin 8) (ctrl : Word) (s t : State) (h : execDpAbort m p ctrl s = .next t) : Keeps s t := by
  cases h; simp +contextual [Keeps]
theorem keeps_execDpWindowWrite (m : Moment) (p : Fin 8) (bytes : List Byte) (poisoned : Bool) (s t : State) (h : execDpWindowWrite m p bytes poisoned s = .next t) : Keeps s t := by
  cases h; simp +contextual [Keeps]
theorem keeps_execDpWindowRead (m : Moment) (p : Fin 8) (count : Nat) (s t : State) (h : execDpWindowRead m p count s = .next t) : Keeps s t := by
  cases h; simp +contextual [Keeps]
theorem keeps_execDpHbmWriteDone (m : Moment) (p : Fin 8) (count : Nat) (s t : State) (h : execDpHbmWriteDone m p count s = .next t) : Keeps s t := by
  cases h; simp +contextual [Keeps]
theorem keeps_execDpStallTimeout (m : Moment) (p : Fin 8) (s t : State) (h : execDpStallTimeout m p s = .next t) : Keeps s t := by
  cases h; simp +contextual [Keeps]
theorem keeps_execTickLoRead (m : Moment) (wide : Bool) (s t : State) (h : execTickLoRead m wide s = .next t) : Keeps s t := by
  cases h; simp +contextual [Keeps]
theorem keeps_execAonLoRead (m : Moment) (wide : Bool) (s t : State) (h : execAonLoRead m wide s = .next t) : Keeps s t := by
  cases h; simp +contextual [Keeps]
theorem keeps_execRingLostRead (m : Moment) (s t : State) (h : execRingLostRead m s = .next t) : Keeps s t := by
  cases h; simp +contextual [Keeps]
theorem keeps_execDpDroppedRead (m : Moment) (p : Fin 8) (s t : State) (h : execDpDroppedRead m p s = .next t) : Keeps s t := by
  cases h; simp +contextual [Keeps]
theorem keeps_execPairDivergencesRead (m : Moment) (s t : State) (h : execPairDivergencesRead m s = .next t) : Keeps s t := by
  cases h; simp +contextual [Keeps]
theorem keeps_execRingEnableWrite (m : Moment) (v : Word) (s t : State) (h : execRingEnableWrite m v s = .next t) : Keeps s t := by
  cases h; simp +contextual [Keeps]
theorem keeps_execRingConsWrite (m : Moment) (v : Word) (s t : State) (h : execRingConsWrite m v s = .next t) : Keeps s t := by
  cases h; simp +contextual [Keeps]
theorem keeps_execIntEnableWrite (m : Moment) (v : Word) (s t : State) (h : execIntEnableWrite m v s = .next t) : Keeps s t := by
  cases h; simp +contextual [Keeps]
theorem keeps_execRegisterWrite (m : Moment) (offset : Nat) (size : Nat) (v : BitVec 64) (s t : State) (h : execRegisterWrite m offset size v s = .next t) : Keeps s t := by
  cases h; simp +contextual [Keeps]
theorem keeps_execIntHoldoffExpiry (m : Moment) (s t : State) (h : execIntHoldoffExpiry m s = .next t) : Keeps s t := by
  cases h; simp +contextual [Keeps]
theorem keeps_execResetEntry (m : Moment) (s t : State) (h : execResetEntry m s = .next t) : Keeps s t := by
  cases h; simp +contextual [Keeps]
theorem keeps_execCommitAccept (m : Moment) (s t : State) (h : execCommitAccept m s = .next t) : Keeps s t := by
  cases h; simp +contextual [Keeps]
theorem keeps_execCoverageDone (m : Moment) (s t : State) (h : execCoverageDone m s = .next t) : Keeps s t := by
  cases h; simp +contextual [Keeps]
theorem keeps_execSpitBurstDone (m : Moment) (g : Fin 16) (s t : State) (h : execSpitBurstDone m g s = .next t) : Keeps s t := by
  cases h; simp +contextual [Keeps]
theorem keeps_execVerifyDone (m : Moment) (s t : State) (h : execVerifyDone m s = .next t) : Keeps s t := by
  cases h; simp +contextual [Keeps]
theorem keeps_execDecodeDone (m : Moment) (s t : State) (h : execDecodeDone m s = .next t) : Keeps s t := by
  cases h; simp +contextual [Keeps]
theorem keeps_execWeaveReformDone (m : Moment) (s t : State) (h : execWeaveReformDone m s = .next t) : Keeps s t := by
  cases h; simp +contextual [Keeps]
theorem keeps_execImageWriteDone (m : Moment) (ok : Bool) (s t : State) (h : execImageWriteDone m ok s = .next t) : Keeps s t := by
  cases h; simp +contextual [Keeps]
theorem keeps_execCalStored (m : Moment) (ok : Bool) (s t : State) (h : execCalStored m ok s = .next t) : Keeps s t := by
  cases h; simp +contextual [Keeps]
theorem keeps_execOtpOperationDone (m : Moment) (pulses : OtpPulses) (s t : State) (h : execOtpOperationDone m pulses s = .next t) : Keeps s t := by
  cases h; simp +contextual [Keeps]
theorem keeps_execPorRelease (m : Moment) (vddAonGood : Bool) (s t : State) (h : execPorRelease m vddAonGood s = .next t) : Keeps s t := by
  cases h; simp +contextual [Keeps]
theorem keeps_execPorAssert (m : Moment) (s t : State) (h : execPorAssert m s = .next t) : Keeps s t := by
  cases h; simp +contextual [Keeps]
theorem keeps_execRstnAssert (m : Moment) (s t : State) (h : execRstnAssert m s = .next t) : Keeps s t := by
  cases h; simp +contextual [Keeps]
theorem keeps_execWakePin (m : Moment) (s t : State) (h : execWakePin m s = .next t) : Keeps s t := by
  cases h; simp +contextual [Keeps]
theorem keeps_execUpsettPhaseDone (m : Moment) (info : PhaseInput) (s t : State) (h : execUpsettPhaseDone m info s = .next t) : Keeps s t := by
  cases h; simp +contextual [Keeps]
theorem keeps_execUpsettPhaseTimeout (m : Moment) (edges : Bool) (s t : State) (h : execUpsettPhaseTimeout m edges s = .next t) : Keeps s t := by
  cases h; simp +contextual [Keeps]
theorem keeps_execRailRetry (m : Moment) (s t : State) (h : execRailRetry m s = .next t) : Keeps s t := by
  cases h; simp +contextual [Keeps]
theorem keeps_execRefDetectDone (m : Moment) (edges : Nat) (s t : State) (h : execRefDetectDone m edges s = .next t) : Keeps s t := by
  cases h; simp +contextual [Keeps]
theorem keeps_execRailStep (m : Moment) (s t : State) (h : execRailStep m s = .next t) : Keeps s t := by
  cases h; simp +contextual [Keeps]
theorem keeps_execPgFall (m : Moment) (s t : State) (h : execPgFall m s = .next t) : Keeps s t := by
  cases h; simp +contextual [Keeps]
theorem keeps_execPgTimeout (m : Moment) (s t : State) (h : execPgTimeout m s = .next t) : Keeps s t := by
  cases h; simp +contextual [Keeps]
theorem keeps_execRailLost (m : Moment) (k : Fin 8) (s t : State) (h : execRailLost m k s = .next t) : Keeps s t := by
  cases h; simp +contextual [Keeps]
theorem keeps_execRefLost (m : Moment) (s t : State) (h : execRefLost m s = .next t) : Keeps s t := by
  cases h; simp +contextual [Keeps]
theorem keeps_execPllUnlock (m : Moment) (pll : Pll) (s t : State) (h : execPllUnlock m pll s = .next t) : Keeps s t := by
  cases h; simp +contextual [Keeps]
theorem keeps_execHostLinkLoss (m : Moment) (s t : State) (h : execHostLinkLoss m s = .next t) : Keeps s t := by
  cases h; simp +contextual [Keeps]
theorem keeps_execPcieLinkUp (m : Moment) (s t : State) (h : execPcieLinkUp m s = .next t) : Keeps s t := by
  cases h; simp +contextual [Keeps]
theorem keeps_execAonTrim (m : Moment) (count : Nat) (s t : State) (h : execAonTrim m count s = .next t) : Keeps s t := by
  cases h; simp +contextual [Keeps]
theorem keeps_execPmbusAlert (m : Moment) (rail : Fin 8) (status : BitVec 16) (s t : State) (h : execPmbusAlert m rail status s = .next t) : Keeps s t := by
  cases h; simp +contextual [Keeps]
theorem keeps_execDozeTimer (m : Moment) (s t : State) (h : execDozeTimer m s = .next t) : Keeps s t := by
  cases h; simp +contextual [Keeps]
theorem keeps_execSleepTimer (m : Moment) (s t : State) (h : execSleepTimer m s = .next t) : Keeps s t := by
  cases h; simp +contextual [Keeps]
theorem keeps_execPowerEntry (m : Moment) (s t : State) (h : execPowerEntry m s = .next t) : Keeps s t := by
  cases h; simp +contextual [Keeps]
theorem keeps_execHvDischarged (m : Moment) (k : Fin 8) (s t : State) (h : execHvDischarged m k s = .next t) : Keeps s t := by
  cases h; simp +contextual [Keeps]
theorem keeps_execPcieWake (m : Moment) (s t : State) (h : execPcieWake m s = .next t) : Keeps s t := by
  cases h; simp +contextual [Keeps]
theorem keeps_execAonWakeTimer (m : Moment) (s t : State) (h : execAonWakeTimer m s = .next t) : Keeps s t := by
  cases h; simp +contextual [Keeps]
theorem keeps_execWakeComplete (m : Moment) (s t : State) (h : execWakeComplete m s = .next t) : Keeps s t := by
  cases h; simp +contextual [Keeps]
theorem keeps_execHvokTimeout (m : Moment) (k : Fin 8) (s t : State) (h : execHvokTimeout m k s = .next t) : Keeps s t := by
  cases h; simp +contextual [Keeps]
theorem keeps_execHvLost (m : Moment) (k : Fin 8) (s t : State) (h : execHvLost m k s = .next t) : Keeps s t := by
  cases h; simp +contextual [Keeps]
theorem keeps_execHvDischargeTimeout (m : Moment) (k : Fin 8) (s t : State) (h : execHvDischargeTimeout m k s = .next t) : Keeps s t := by
  cases h; simp +contextual [Keeps]
theorem keeps_execVddioLost (m : Moment) (s t : State) (h : execVddioLost m s = .next t) : Keeps s t := by
  cases h; simp +contextual [Keeps]
theorem keeps_execThermalSample (m : Moment) (r : TempReadings) (s t : State) (h : execThermalSample m r s = .next t) : Keeps s t := by
  cases h; simp +contextual [Keeps]
theorem keeps_execSensorValidityChange (m : Moment) (info : Fin 16) (s t : State) (h : execSensorValidityChange m info s = .next t) : Keeps s t := by
  cases h; simp +contextual [Keeps]
theorem keeps_execThermGradient (m : Moment) (s t : State) (h : execThermGradient m s = .next t) : Keeps s t := by
  cases h; simp +contextual [Keeps]
theorem keeps_execThermLevel (m : Moment) (domain : Fin 2) (s t : State) (h : execThermLevel m domain s = .next t) : Keeps s t := by
  cases h; simp +contextual [Keeps]
theorem keeps_execHbmSensorLost (m : Moment) (s t : State) (h : execHbmSensorLost m s = .next t) : Keeps s t := by
  cases h; simp +contextual [Keeps]
theorem keeps_execKeeperTrip (m : Moment) (s t : State) (h : execKeeperTrip m s = .next t) : Keeps s t := by
  cases h; simp +contextual [Keeps]
theorem keeps_execSafeRestart (m : Moment) (s t : State) (h : execSafeRestart m s = .next t) : Keeps s t := by
  cases h; simp +contextual [Keeps]
theorem keeps_execQuadratureEdge (m : Moment) (n : Fin 8) (rawA : List Bool) (rawB : List Bool) (s t : State) (h : execQuadratureEdge m n rawA rawB s = .next t) : Keeps s t := by
  cases h; simp +contextual [Keeps]
theorem keeps_execIndexEvent (m : Moment) (n : Fin 8) (rawZ : List Bool) (s t : State) (h : execIndexEvent m n rawZ s = .next t) : Keeps s t := by
  cases h; simp +contextual [Keeps]
theorem keeps_execSsiFrameStart (m : Moment) (n : Fin 8) (dataHigh : Bool) (s t : State) (h : execSsiFrameStart m n dataHigh s = .next t) : Keeps s t := by
  cases h; simp +contextual [Keeps]
theorem keeps_execSsiFrameEnd (m : Moment) (n : Fin 8) (bits : List Bool) (endLow : Bool) (s t : State) (h : execSsiFrameEnd m n bits endLow s = .next t) : Keeps s t := by
  cases h; simp +contextual [Keeps]
theorem keeps_execSpeedWindowEnd (m : Moment) (n : Fin 8) (s t : State) (h : execSpeedWindowEnd m n s = .next t) : Keeps s t := by
  cases h; simp +contextual [Keeps]
theorem keeps_execEventHoldoffExpiry (m : Moment) (key : EventKey) (s t : State) (h : execEventHoldoffExpiry m key s = .next t) : Keeps s t := by
  cases h; simp +contextual [Keeps]
theorem keeps_execEchoStep (m : Moment) (k : Fin 4) (s t : State) (h : execEchoStep m k s = .next t) : Keeps s t := by
  cases h; simp +contextual [Keeps]
theorem keeps_execMotionWakeTransition (m : Moment) (n : Fin 8) (s t : State) (h : execMotionWakeTransition m n s = .next t) : Keeps s t := by
  cases h; simp +contextual [Keeps]
theorem keeps_execWakeWindowEnd (m : Moment) (s t : State) (h : execWakeWindowEnd m s = .next t) : Keeps s t := by
  cases h; simp +contextual [Keeps]
theorem keeps_execPeriodicEvaluation (m : Moment) (s t : State) (h : execPeriodicEvaluation m s = .next t) : Keeps s t := by
  cases h; simp +contextual [Keeps]
theorem keeps_execTickleEmit (m : Moment) (b : Fin 16) (s t : State) (h : execTickleEmit m b s = .next t) : Keeps s t := by
  cases h; simp +contextual [Keeps]
theorem keeps_execDryRisk (m : Moment) (b : Fin 16) (s t : State) (h : execDryRisk m b s = .next t) : Keeps s t := by
  cases h; simp +contextual [Keeps]
theorem keeps_execTrigoutPulse (m : Moment) (k : Fin 8) (s t : State) (h : execTrigoutPulse m k s = .next t) : Keeps s t := by
  cases h; simp +contextual [Keeps]
theorem keeps_execLinePrepare (m : Moment) (b : Fin 16) (s t : State) (h : execLinePrepare m b s = .next t) : Keeps s t := by
  cases h; simp +contextual [Keeps]
theorem keeps_execNozSend (m : Moment) (b : Fin 16) (p : Fin 32) (s t : State) (h : execNozSend m b p s = .next t) : Keeps s t := by
  cases h; simp +contextual [Keeps]
theorem keeps_execDecompSchedule (m : Moment) (s t : State) (h : execDecompSchedule m s = .next t) : Keeps s t := by
  cases h; simp +contextual [Keeps]
theorem keeps_execIndexReread (m : Moment) (b : Fin 16) (s t : State) (h : execIndexReread m b s = .next t) : Keeps s t := by
  cases h; simp +contextual [Keeps]
theorem keeps_execBlockDecodeDone (m : Moment) (u : Fin 5) (s t : State) (h : execBlockDecodeDone m u s = .next t) : Keeps s t := by
  cases h; simp +contextual [Keeps]
theorem keeps_execDecompResume (m : Moment) (b : Fin 16) (s t : State) (h : execDecompResume m b s = .next t) : Keeps s t := by
  cases h; simp +contextual [Keeps]
theorem keeps_execPeerBlockResponse (m : Moment) (p : Fin 64) (block : Nat) (bytes : Option (List Byte)) (s t : State) (h : execPeerBlockResponse m p block bytes s = .next t) : Keeps s t := by
  cases h; simp +contextual [Keeps]
theorem keeps_execPeerRequestTimeout (m : Moment) (p : Fin 64) (s t : State) (h : execPeerRequestTimeout m p s = .next t) : Keeps s t := by
  cases h; simp +contextual [Keeps]
theorem keeps_execPeerBlockRequest (m : Moment) (p : Fin 64) (block : Nat) (s t : State) (h : execPeerBlockRequest m p block s = .next t) : Keeps s t := by
  cases h; simp +contextual [Keeps]
theorem keeps_execSessionBlockEmit (m : Moment) (k : Fin 16) (s t : State) (h : execSessionBlockEmit m k s = .next t) : Keeps s t := by
  cases h; simp +contextual [Keeps]
theorem keeps_execRxLocked (m : Moment) (p : Fin 32) (s t : State) (h : execRxLocked m p s = .next t) : Keeps s t := by
  cases h; simp +contextual [Keeps]
theorem keeps_execBlockLockAcquired (m : Moment) (p : Fin 32) (inverted : Bool) (s t : State) (h : execBlockLockAcquired m p inverted s = .next t) : Keeps s t := by
  cases h; simp +contextual [Keeps]
theorem keeps_execBlockLockLoss (m : Moment) (p : Fin 32) (s t : State) (h : execBlockLockLoss m p s = .next t) : Keeps s t := by
  cases h; simp +contextual [Keeps]
theorem keeps_execRimReceived (m : Moment) (p : Fin 32) (fault : Bool) (blockLock : Bool) (spaced : Bool) (s t : State) (h : execRimReceived m p fault blockLock spaced s = .next t) : Keeps s t := by
  cases h; simp +contextual [Keeps]
theorem keeps_execRimMissing (m : Moment) (p : Fin 32) (s t : State) (h : execRimMissing m p s = .next t) : Keeps s t := by
  cases h; simp +contextual [Keeps]
theorem keeps_execTrainTimeout (m : Moment) (p : Fin 32) (s t : State) (h : execTrainTimeout m p s = .next t) : Keeps s t := by
  cases h; simp +contextual [Keeps]
theorem keeps_execTrainRestart (m : Moment) (p : Fin 32) (s t : State) (h : execTrainRestart m p s = .next t) : Keeps s t := by
  cases h; simp +contextual [Keeps]
theorem keeps_execStsReceived (m : Moment) (p : Fin 32) (sts : Sts) (s t : State) (h : execStsReceived m p sts s = .next t) : Keeps s t := by
  cases h; simp +contextual [Keeps]
theorem keeps_execHltReceived (m : Moment) (p : Fin 32) (seq : Nat) (recs : List HltRec) (s t : State) (h : execHltReceived m p seq recs s = .next t) : Keeps s t := by
  cases h; simp +contextual [Keeps]
theorem keeps_execAckReceived (m : Moment) (p : Fin 32) (seq : Nat) (tRx : Nat) (tTx : Nat) (t4 : Nat) (s t : State) (h : execAckReceived m p seq tRx tTx t4 s = .next t) : Keeps s t := by
  cases h; simp +contextual [Keeps]
theorem keeps_execNakReceived (m : Moment) (p : Fin 32) (seq : Nat) (code : Nat) (s t : State) (h : execNakReceived m p seq code s = .next t) : Keeps s t := by
  cases h; simp +contextual [Keeps]
theorem keeps_execAckTimeout (m : Moment) (p : Fin 32) (seq : Nat) (s t : State) (h : execAckTimeout m p seq s = .next t) : Keeps s t := by
  cases h; simp +contextual [Keeps]
theorem keeps_execLineDeadline (m : Moment) (p : Fin 32) (b : Fin 16) (line : Word) (s t : State) (h : execLineDeadline m p b line s = .next t) : Keeps s t := by
  cases h; simp +contextual [Keeps]
theorem keeps_execTsySend (m : Moment) (p : Fin 32) (s t : State) (h : execTsySend m p s = .next t) : Keeps s t := by
  cases h; simp +contextual [Keeps]
theorem keeps_execBankCatchup (m : Moment) (s t : State) (h : execBankCatchup m s = .next t) : Keeps s t := by
  cases h; simp +contextual [Keeps]
theorem keeps_execHealthAssess (m : Moment) (s t : State) (h : execHealthAssess m s = .next t) : Keeps s t := by
  cases h; simp +contextual [Keeps]
theorem keeps_execHealthReqTimeout (m : Moment) (nozzle : Nat) (s t : State) (h : execHealthReqTimeout m nozzle s = .next t) : Keeps s t := by
  cases h; simp +contextual [Keeps]
theorem keeps_execFwAutoSubmit (m : Moment) (s t : State) (h : execFwAutoSubmit m s = .next t) : Keeps s t := by
  cases h; simp +contextual [Keeps]
theorem keeps_execHeaterLoop (m : Moment) (s t : State) (h : execHeaterLoop m s = .next t) : Keeps s t := by
  cases h; simp +contextual [Keeps]
theorem keeps_execPairTrainTimeout (m : Moment) (s t : State) (h : execPairTrainTimeout m s = .next t) : Keeps s t := by
  cases h; simp +contextual [Keeps]
theorem keeps_execPairRetrain (m : Moment) (s t : State) (h : execPairRetrain m s = .next t) : Keeps s t := by
  cases h; simp +contextual [Keeps]
theorem keeps_execPairHello (m : Moment) (h : Hello) (s t : State) (h : execPairHello m h s = .next t) : Keeps s t := by
  cases h; simp +contextual [Keeps]
theorem keeps_execHbToggle (m : Moment) (s t : State) (h : execHbToggle m s = .next t) : Keeps s t := by
  cases h; simp +contextual [Keeps]
theorem keeps_execHeartbeatTimeout (m : Moment) (pinSilent : Bool) (s t : State) (h : execHeartbeatTimeout m pinSilent s = .next t) : Keeps s t := by
  cases h; simp +contextual [Keeps]
theorem keeps_execFaultDeclared (m : Moment) (s t : State) (h : execFaultDeclared m s = .next t) : Keeps s t := by
  cases h; simp +contextual [Keeps]
theorem keeps_execControlMessage (m : Moment) (c : Control) (latency : Nat) (s t : State) (h : execControlMessage m c latency s = .next t) : Keeps s t := by
  cases h; simp +contextual [Keeps]
theorem keeps_execInputFallback (m : Moment) (s t : State) (h : execInputFallback m s = .next t) : Keeps s t := by
  cases h; simp +contextual [Keeps]
theorem keeps_execStateEventApply (m : Moment) (s t : State) (h : execStateEventApply m s = .next t) : Keeps s t := by
  cases h; simp +contextual [Keeps]
theorem keeps_execCeilingApply (m : Moment) (s t : State) (h : execCeilingApply m s = .next t) : Keeps s t := by
  cases h; simp +contextual [Keeps]
theorem keeps_execTempSnapshotSend (m : Moment) (s t : State) (h : execTempSnapshotSend m s = .next t) : Keeps s t := by
  cases h; simp +contextual [Keeps]
theorem keeps_execCommitPrepare (m : Moment) (changes : List Change) (s t : State) (h : execCommitPrepare m changes s = .next t) : Keeps s t := by
  cases h; simp +contextual [Keeps]
theorem keeps_execCommitReady (m : Moment) (ready : Bool) (s t : State) (h : execCommitReady m ready s = .next t) : Keeps s t := by
  cases h; simp +contextual [Keeps]
theorem keeps_execCommitMirror (m : Moment) (id : Word) (lines : List (Nat × Word)) (s t : State) (h : execCommitMirror m id lines s = .next t) : Keeps s t := by
  cases h; simp +contextual [Keeps]
theorem keeps_execReadyTimeout (m : Moment) (s t : State) (h : execReadyTimeout m s = .next t) : Keeps s t := by
  cases h; simp +contextual [Keeps]
theorem keeps_execDigestReceived (m : Moment) (b : Fin 16) (p : Fin 32) (line : Word) (digest : Word) (excluded : Bool) (s t : State) (h : execDigestReceived m b p line digest excluded s = .next t) : Keeps s t := by
  cases h; simp +contextual [Keeps]
theorem keeps_execDigestAbsent (m : Moment) (b : Fin 16) (p : Fin 32) (line : Word) (s t : State) (h : execDigestAbsent m b p line s = .next t) : Keeps s t := by
  cases h; simp +contextual [Keeps]
theorem keeps_execResyncSnapshot (m : Moment) (x : Snapshot) (s t : State) (h : execResyncSnapshot m x s = .next t) : Keeps s t := by
  cases h; simp +contextual [Keeps]
theorem keeps_execResyncTimeout (m : Moment) (s t : State) (h : execResyncTimeout m s = .next t) : Keeps s t := by
  cases h; simp +contextual [Keeps]
theorem keeps_execTimeExchange (m : Moment) (t1 : Nat) (tRx : Nat) (tTx : Nat) (t4 : Nat) (s t : State) (h : execTimeExchange m t1 tRx tTx t4 s = .next t) : Keeps s t := by
  cases h; simp +contextual [Keeps]
theorem keeps_execBulkForward (m : Moment) (address : Nat) (bytes : List Byte) (s t : State) (h : execBulkForward m address bytes s = .next t) : Keeps s t := by
  cases h; simp +contextual [Keeps]
theorem keeps_execTwinLogEntry (m : Moment) (seq : Word) (e : LogBody) (s t : State) (h : execTwinLogEntry m seq e s = .next t) : Keeps s t := by
  cases h; simp +contextual [Keeps]
theorem keeps_execScrubStep (m : Moment) (source : Fin 3) (found : List MemError) (passEnd : Bool) (s t : State) (h : execScrubStep m source found passEnd s = .next t) : Keeps s t := by
  cases h; simp +contextual [Keeps]
theorem keeps_execPoisonRewrite (m : Moment) (address : Nat) (s t : State) (h : execPoisonRewrite m address s = .next t) : Keeps s t := by
  cases h; simp +contextual [Keeps]
theorem keeps_execDmaUnitAssign (m : Moment) (s t : State) (h : execDmaUnitAssign m s = .next t) : Keeps s t := by
  cases h; simp +contextual [Keeps]
theorem keeps_execDmaPreempt (m : Moment) (s t : State) (h : execDmaPreempt m s = .next t) : Keeps s t := by
  cases h; simp +contextual [Keeps]
theorem keeps_execDmaYield (m : Moment) (s t : State) (h : execDmaYield m s = .next t) : Keeps s t := by
  cases h; simp +contextual [Keeps]
theorem keeps_execDmaHostCompletion (m : Moment) (c : Fin 32) (r : HostReply) (s t : State) (h : execDmaHostCompletion m c r s = .next t) : Keeps s t := by
  cases h; simp +contextual [Keeps]
theorem keeps_execDmaMemTimeout (m : Moment) (c : Fin 32) (s t : State) (h : execDmaMemTimeout m c s = .next t) : Keeps s t := by
  cases h; simp +contextual [Keeps]
theorem keeps_execDmaHostTimeout (m : Moment) (c : Fin 32) (s t : State) (h : execDmaHostTimeout m c s = .next t) : Keeps s t := by
  cases h; simp +contextual [Keeps]
theorem keeps_execDmaTransferEnd (m : Moment) (c : Fin 32) (s t : State) (h : execDmaTransferEnd m c s = .next t) : Keeps s t := by
  cases h; simp +contextual [Keeps]
theorem keeps_execCalDriftDue (m : Moment) (s t : State) (h : execCalDriftDue m s = .next t) : Keeps s t := by
  unfold execCalDriftDue at h; injection h with h; subst h; refine ⟨?_, ?_, ?_, ?_⟩ <;> simp +contextual
theorem keeps_execCalRunStart (m : Moment) (s t : State) (h : execCalRunStart m s = .next t) : Keeps s t := by
  cases h; simp +contextual [Keeps]
theorem keeps_execCalRunDone (m : Moment) (coeffs : List (Nat × Coeff)) (s t : State) (h : execCalRunDone m coeffs s = .next t) : Keeps s t := by
  cases h; simp +contextual [Keeps]
theorem keeps_execAdcScan (m : Moment) (raws : List Int) (s t : State) (h : execAdcScan m raws s = .next t) : Keeps s t := by
  cases h; simp +contextual [Keeps]
theorem keeps_execOtpRecheckDue (m : Moment) (margins : Table (Word × Word)) (s t : State) (h : execOtpRecheckDue m margins s = .next t) : Keeps s t := by
  cases h; simp +contextual [Keeps]
theorem keeps_execBistSliceStart (m : Moment) (pool : Fin 5) (s t : State) (h : execBistSliceStart m pool s = .next t) : Keeps s t := by
  cases h; simp +contextual [Keeps]
theorem keeps_execBistSliceEnd (m : Moment) (pool : Fin 5) (misr : BitVec 64) (s t : State) (h : execBistSliceEnd m pool misr s = .next t) : Keeps s t := by
  cases h; simp +contextual [Keeps]
theorem keeps_execBistRepeatDone (m : Moment) (pool : Fin 5) (misr : BitVec 64) (s t : State) (h : execBistRepeatDone m pool misr s = .next t) : Keeps s t := by
  cases h; simp +contextual [Keeps]
theorem keeps_execBistOnDemandDone (m : Moment) (expected : Bool) (misr : BitVec 64) (s t : State) (h : execBistOnDemandDone m expected misr s = .next t) : Keeps s t := by
  cases h; simp +contextual [Keeps]
theorem keeps_execRstnRelease (m : Moment) (s t : State) (h : execRstnRelease m s = .next t) : Keeps s t := by
  cases h; simp +contextual [Keeps]
theorem keeps_execFireTime (m : Moment) (b : Fin 16) (s t : State) (h : execFireTime m b s = .next t) : Keeps s t := by
  cases h; simp +contextual [Keeps]
theorem keeps_execFireEnd (m : Moment) (b : Fin 16) (s t : State) (h : execFireEnd m b s = .next t) : Keeps s t := by
  unfold execFireEnd at h; injection h with h; subst h; refine ⟨?_, ?_, ?_, ?_⟩ <;> simp +contextual
theorem keeps_execSsiDataHigh (m : Moment) (n : Fin 8) (s t : State) (h : execSsiDataHigh m n s = .next t) : Keeps s t := by
  cases h; simp +contextual [Keeps]
theorem keeps_execAnswerTime (m : Moment) (n : Fin 16) (s t : State) (h : execAnswerTime m n s = .next t) : Keeps s t := by
  cases h; simp +contextual [Keeps]
theorem keeps_execFrameDiscarded (m : Moment) (p : Fin 32) (d : FrameDefect) (s t : State) (h : execFrameDiscarded m p d s = .next t) : Keeps s t := by
  cases h; simp +contextual [Keeps]
theorem keeps_execDebugTapAccess (m : Moment) (address : Nat) (write : Option Word) (s t : State) (h : execDebugTapAccess m address write s = .next t) : Keeps s t := by
  cases h; simp +contextual [Keeps]
theorem keeps_execUnsupportedRequest (m : Moment) (offset : Nat) (size : Nat) (s t : State) (h : execUnsupportedRequest m offset size s = .next t) : Keeps s t := by
  cases h; simp +contextual [Keeps]

end Sys2Proof.Laws
end

