-- ==== Sys2Proof/Laws/Posting.lean ====
section
/-!
SUPPORT. An event, or an entry of the change log, changes the ring, the interrupts, what left the block, the log
and the count of free values alone; every other field reads as before.
-/

namespace Sys2Proof.Laws

open Sys2Proof Sys2Proof.Machine

variable (s : State)

/-- From `s` to `t` the ring, the interrupts and what left the block alone have changed. -/
def Posted (s t : State) : Prop := t = { s with ring := t.ring, ints := t.ints, out := t.out }

theorem posted_trans {s t u : State} (h : Posted s t) (k : Posted t u) : Posted s u := by
  unfold Posted at *
  rw [h] at k
  exact k

theorem posted_raiseInt (n : Nat) : Posted s (s.raiseInt n) := by
  unfold Posted
  rw [raiseInt_eq]

/-- An entry counts towards the next message. -/
theorem posted_countEntry : Posted s s.countEntry := by
  unfold State.countEntry
  dsimp only
  split
  · refine posted_trans ?_ (posted_raiseInt _ 0)
    rfl
  · rfl

/-- An entry goes to the ring. -/
theorem posted_writeEntry (e : EventEntry) : Posted s (s.writeEntry e) := by
  unfold State.writeEntry
  refine posted_trans ?_ (posted_countEntry _)
  rfl

/-- Lost events are reported by an entry. -/
theorem posted_reportLost : Posted s s.reportLost := by
  unfold State.reportLost
  dsimp only
  split
  · refine posted_trans ?_ (posted_writeEntry _ _)
    rfl
  · rfl

/-- An event. -/
theorem post_eq (b : EventBody) : s.post b = { s with
    ring := (s.post b).ring, ints := (s.post b).ints, out := (s.post b).out } := by
  change Posted s (s.post b)
  unfold State.post
  dsimp only
  split
  · refine posted_trans (posted_reportLost s) (posted_trans ?_ (posted_writeEntry _ _))
    rfl
  · refine posted_trans (posted_reportLost s) (posted_trans ?_ (posted_reportLost _))
    rfl

/-- What the log’s operations change, in sequence. -/
theorem logged_trans {s t u : State} (h : t = { s with log := t.log, ring := t.ring, ints := t.ints, out := t.out })
    (k : u = { t with log := u.log, ring := u.ring, ints := u.ints, out := u.out }) :
    u = { s with log := u.log, ring := u.ring, ints := u.ints, out := u.out } := by
  rw [h] at k
  exact k

theorem logged_post (b : EventBody) : s.post b = { s with
    log := (s.post b).log, ring := (s.post b).ring, ints := (s.post b).ints, out := (s.post b).out } := by
  rw [post_eq]

/-- An entry of the log. -/
theorem logPut_eq (e : LogBody) : s.logPut e = { s with
    log := (s.logPut e).log, ring := (s.logPut e).ring, ints := (s.logPut e).ints, out := (s.logPut e).out } := by
  unfold State.logPut
  extract_lets full openGap first g l s1 s2 first2 s3 s4
  have h2 : s2 = { s with log := s2.log, ring := s2.ring, ints := s2.ints, out := s2.out } := by
    simp only [s2]
    split
    · exact logged_trans (t := s1) rfl (logged_post _ _)
    · rfl
  have h3 : s3 = { s with log := s3.log, ring := s3.ring, ints := s3.ints, out := s3.out } := by
    refine logged_trans h2 ?_
    simp only [s3]
    split <;> rfl
  have h4 : s4 = { s with log := s4.log, ring := s4.ring, ints := s4.ints, out := s4.out } := by
    refine logged_trans h3 ?_
    simp only [s4]
    split <;> rfl
  split
  · exact logged_trans h4 (logged_trans (t := { s4 with log := { s4.log with log75 := true } }) rfl (logged_post _ _))
  · exact h4

theorem logEntry_eq (q : LogReq) : s.logEntry q = { s with
    log := (s.logEntry q).log, ring := (s.logEntry q).ring, ints := (s.logEntry q).ints, out := (s.logEntry q).out } := by
  unfold State.logEntry
  rw [logPut_eq]

theorem logOpen_eq (q : LogReq) : s.logOpen q = { s with
    log := (s.logOpen q).log, ring := (s.logOpen q).ring, ints := (s.logOpen q).ints, out := (s.logOpen q).out
    fresh := s.fresh + 2 } := by
  unfold State.logOpen
  rw [logEntry_eq]

@[simp] theorem post_sys (b : EventBody) : (s.post b).sys = s.sys := by rw [post_eq]
@[simp] theorem post_pwr (b : EventBody) : (s.post b).pwr = s.pwr := by rw [post_eq]
@[simp] theorem post_tick (b : EventBody) : (s.post b).tick = s.tick := by rw [post_eq]
@[simp] theorem post_aon (b : EventBody) : (s.post b).aon = s.aon := by rw [post_eq]
@[simp] theorem post_host (b : EventBody) : (s.post b).host = s.host := by rw [post_eq]
@[simp] theorem post_holdoffs (b : EventBody) : (s.post b).holdoffs = s.holdoffs := by rw [post_eq]
@[simp] theorem post_dps (b : EventBody) : (s.post b).dps = s.dps := by rw [post_eq]
@[simp] theorem post_mboxes (b : EventBody) : (s.post b).mboxes = s.mboxes := by rw [post_eq]
@[simp] theorem post_classRun (b : EventBody) : (s.post b).classRun = s.classRun := by rw [post_eq]
@[simp] theorem post_lastRound (b : EventBody) : (s.post b).lastRound = s.lastRound := by rw [post_eq]
@[simp] theorem post_sets (b : EventBody) : (s.post b).sets = s.sets := by rw [post_eq]
@[simp] theorem post_checks (b : EventBody) : (s.post b).checks = s.checks := by rw [post_eq]
@[simp] theorem post_held (b : EventBody) : (s.post b).held = s.held := by rw [post_eq]
@[simp] theorem post_base (b : EventBody) : (s.post b).base = s.base := by rw [post_eq]
@[simp] theorem post_commits (b : EventBody) : (s.post b).commits = s.commits := by rw [post_eq]
@[simp] theorem post_commitId (b : EventBody) : (s.post b).commitId = s.commitId := by rw [post_eq]
@[simp] theorem post_coverage (b : EventBody) : (s.post b).coverage = s.coverage := by rw [post_eq]
@[simp] theorem post_coverRuns (b : EventBody) : (s.post b).coverRuns = s.coverRuns := by rw [post_eq]
@[simp] theorem post_axes (b : EventBody) : (s.post b).axes = s.axes := by rw [post_eq]
@[simp] theorem post_wakeAt (b : EventBody) : (s.post b).wakeAt = s.wakeAt := by rw [post_eq]
@[simp] theorem post_echoes (b : EventBody) : (s.post b).echoes = s.echoes := by rw [post_eq]
@[simp] theorem post_trigs (b : EventBody) : (s.post b).trigs = s.trigs := by rw [post_eq]
@[simp] theorem post_evals (b : EventBody) : (s.post b).evals = s.evals := by rw [post_eq]
@[simp] theorem post_trigouts (b : EventBody) : (s.post b).trigouts = s.trigouts := by rw [post_eq]
@[simp] theorem post_chans (b : EventBody) : (s.post b).chans = s.chans := by rw [post_eq]
@[simp] theorem post_amps (b : EventBody) : (s.post b).amps = s.amps := by rw [post_eq]
@[simp] theorem post_fires (b : EventBody) : (s.post b).fires = s.fires := by rw [post_eq]
@[simp] theorem post_raster (b : EventBody) : (s.post b).raster = s.raster := by rw [post_eq]
@[simp] theorem post_planes (b : EventBody) : (s.post b).planes = s.planes := by rw [post_eq]
@[simp] theorem post_plait (b : EventBody) : (s.post b).plait = s.plait := by rw [post_eq]
@[simp] theorem post_ports (b : EventBody) : (s.post b).ports = s.ports := by rw [post_eq]
@[simp] theorem post_banks (b : EventBody) : (s.post b).banks = s.banks := by rw [post_eq]
@[simp] theorem post_catchUps (b : EventBody) : (s.post b).catchUps = s.catchUps := by rw [post_eq]
@[simp] theorem post_health (b : EventBody) : (s.post b).health = s.health := by rw [post_eq]
@[simp] theorem post_pair (b : EventBody) : (s.post b).pair = s.pair := by rw [post_eq]
@[simp] theorem post_mem (b : EventBody) : (s.post b).mem = s.mem := by rw [post_eq]
@[simp] theorem post_dma (b : EventBody) : (s.post b).dma = s.dma := by rw [post_eq]
@[simp] theorem post_power (b : EventBody) : (s.post b).power = s.power := by rw [post_eq]
@[simp] theorem post_therm (b : EventBody) : (s.post b).therm = s.therm := by rw [post_eq]
@[simp] theorem post_cal (b : EventBody) : (s.post b).cal = s.cal := by rw [post_eq]
@[simp] theorem post_flash (b : EventBody) : (s.post b).flash = s.flash := by rw [post_eq]
@[simp] theorem post_otp (b : EventBody) : (s.post b).otp = s.otp := by rw [post_eq]
@[simp] theorem post_bist (b : EventBody) : (s.post b).bist = s.bist := by rw [post_eq]
@[simp] theorem post_log (b : EventBody) : (s.post b).log = s.log := by rw [post_eq]
@[simp] theorem post_fresh (b : EventBody) : (s.post b).fresh = s.fresh := by rw [post_eq]

@[simp] theorem logEntry_sys (q : LogReq) : (s.logEntry q).sys = s.sys := by rw [logEntry_eq]
@[simp] theorem logEntry_pwr (q : LogReq) : (s.logEntry q).pwr = s.pwr := by rw [logEntry_eq]
@[simp] theorem logEntry_tick (q : LogReq) : (s.logEntry q).tick = s.tick := by rw [logEntry_eq]
@[simp] theorem logEntry_aon (q : LogReq) : (s.logEntry q).aon = s.aon := by rw [logEntry_eq]
@[simp] theorem logEntry_host (q : LogReq) : (s.logEntry q).host = s.host := by rw [logEntry_eq]
@[simp] theorem logEntry_holdoffs (q : LogReq) : (s.logEntry q).holdoffs = s.holdoffs := by rw [logEntry_eq]
@[simp] theorem logEntry_dps (q : LogReq) : (s.logEntry q).dps = s.dps := by rw [logEntry_eq]
@[simp] theorem logEntry_mboxes (q : LogReq) : (s.logEntry q).mboxes = s.mboxes := by rw [logEntry_eq]
@[simp] theorem logEntry_classRun (q : LogReq) : (s.logEntry q).classRun = s.classRun := by rw [logEntry_eq]
@[simp] theorem logEntry_lastRound (q : LogReq) : (s.logEntry q).lastRound = s.lastRound := by rw [logEntry_eq]
@[simp] theorem logEntry_sets (q : LogReq) : (s.logEntry q).sets = s.sets := by rw [logEntry_eq]
@[simp] theorem logEntry_checks (q : LogReq) : (s.logEntry q).checks = s.checks := by rw [logEntry_eq]
@[simp] theorem logEntry_held (q : LogReq) : (s.logEntry q).held = s.held := by rw [logEntry_eq]
@[simp] theorem logEntry_base (q : LogReq) : (s.logEntry q).base = s.base := by rw [logEntry_eq]
@[simp] theorem logEntry_commits (q : LogReq) : (s.logEntry q).commits = s.commits := by rw [logEntry_eq]
@[simp] theorem logEntry_commitId (q : LogReq) : (s.logEntry q).commitId = s.commitId := by rw [logEntry_eq]
@[simp] theorem logEntry_coverage (q : LogReq) : (s.logEntry q).coverage = s.coverage := by rw [logEntry_eq]
@[simp] theorem logEntry_coverRuns (q : LogReq) : (s.logEntry q).coverRuns = s.coverRuns := by rw [logEntry_eq]
@[simp] theorem logEntry_axes (q : LogReq) : (s.logEntry q).axes = s.axes := by rw [logEntry_eq]
@[simp] theorem logEntry_wakeAt (q : LogReq) : (s.logEntry q).wakeAt = s.wakeAt := by rw [logEntry_eq]
@[simp] theorem logEntry_echoes (q : LogReq) : (s.logEntry q).echoes = s.echoes := by rw [logEntry_eq]
@[simp] theorem logEntry_trigs (q : LogReq) : (s.logEntry q).trigs = s.trigs := by rw [logEntry_eq]
@[simp] theorem logEntry_evals (q : LogReq) : (s.logEntry q).evals = s.evals := by rw [logEntry_eq]
@[simp] theorem logEntry_trigouts (q : LogReq) : (s.logEntry q).trigouts = s.trigouts := by rw [logEntry_eq]
@[simp] theorem logEntry_chans (q : LogReq) : (s.logEntry q).chans = s.chans := by rw [logEntry_eq]
@[simp] theorem logEntry_amps (q : LogReq) : (s.logEntry q).amps = s.amps := by rw [logEntry_eq]
@[simp] theorem logEntry_fires (q : LogReq) : (s.logEntry q).fires = s.fires := by rw [logEntry_eq]
@[simp] theorem logEntry_raster (q : LogReq) : (s.logEntry q).raster = s.raster := by rw [logEntry_eq]
@[simp] theorem logEntry_planes (q : LogReq) : (s.logEntry q).planes = s.planes := by rw [logEntry_eq]
@[simp] theorem logEntry_plait (q : LogReq) : (s.logEntry q).plait = s.plait := by rw [logEntry_eq]
@[simp] theorem logEntry_ports (q : LogReq) : (s.logEntry q).ports = s.ports := by rw [logEntry_eq]
@[simp] theorem logEntry_banks (q : LogReq) : (s.logEntry q).banks = s.banks := by rw [logEntry_eq]
@[simp] theorem logEntry_catchUps (q : LogReq) : (s.logEntry q).catchUps = s.catchUps := by rw [logEntry_eq]
@[simp] theorem logEntry_health (q : LogReq) : (s.logEntry q).health = s.health := by rw [logEntry_eq]
@[simp] theorem logEntry_pair (q : LogReq) : (s.logEntry q).pair = s.pair := by rw [logEntry_eq]
@[simp] theorem logEntry_mem (q : LogReq) : (s.logEntry q).mem = s.mem := by rw [logEntry_eq]
@[simp] theorem logEntry_dma (q : LogReq) : (s.logEntry q).dma = s.dma := by rw [logEntry_eq]
@[simp] theorem logEntry_power (q : LogReq) : (s.logEntry q).power = s.power := by rw [logEntry_eq]
@[simp] theorem logEntry_therm (q : LogReq) : (s.logEntry q).therm = s.therm := by rw [logEntry_eq]
@[simp] theorem logEntry_cal (q : LogReq) : (s.logEntry q).cal = s.cal := by rw [logEntry_eq]
@[simp] theorem logEntry_flash (q : LogReq) : (s.logEntry q).flash = s.flash := by rw [logEntry_eq]
@[simp] theorem logEntry_otp (q : LogReq) : (s.logEntry q).otp = s.otp := by rw [logEntry_eq]
@[simp] theorem logEntry_bist (q : LogReq) : (s.logEntry q).bist = s.bist := by rw [logEntry_eq]
@[simp] theorem logEntry_fresh (q : LogReq) : (s.logEntry q).fresh = s.fresh := by rw [logEntry_eq]

@[simp] theorem logOpen_sys (q : LogReq) : (s.logOpen q).sys = s.sys := by rw [logOpen_eq]
@[simp] theorem logOpen_pwr (q : LogReq) : (s.logOpen q).pwr = s.pwr := by rw [logOpen_eq]
@[simp] theorem logOpen_tick (q : LogReq) : (s.logOpen q).tick = s.tick := by rw [logOpen_eq]
@[simp] theorem logOpen_aon (q : LogReq) : (s.logOpen q).aon = s.aon := by rw [logOpen_eq]
@[simp] theorem logOpen_host (q : LogReq) : (s.logOpen q).host = s.host := by rw [logOpen_eq]
@[simp] theorem logOpen_holdoffs (q : LogReq) : (s.logOpen q).holdoffs = s.holdoffs := by rw [logOpen_eq]
@[simp] theorem logOpen_dps (q : LogReq) : (s.logOpen q).dps = s.dps := by rw [logOpen_eq]
@[simp] theorem logOpen_mboxes (q : LogReq) : (s.logOpen q).mboxes = s.mboxes := by rw [logOpen_eq]
@[simp] theorem logOpen_classRun (q : LogReq) : (s.logOpen q).classRun = s.classRun := by rw [logOpen_eq]
@[simp] theorem logOpen_lastRound (q : LogReq) : (s.logOpen q).lastRound = s.lastRound := by rw [logOpen_eq]
@[simp] theorem logOpen_sets (q : LogReq) : (s.logOpen q).sets = s.sets := by rw [logOpen_eq]
@[simp] theorem logOpen_checks (q : LogReq) : (s.logOpen q).checks = s.checks := by rw [logOpen_eq]
@[simp] theorem logOpen_held (q : LogReq) : (s.logOpen q).held = s.held := by rw [logOpen_eq]
@[simp] theorem logOpen_base (q : LogReq) : (s.logOpen q).base = s.base := by rw [logOpen_eq]
@[simp] theorem logOpen_commits (q : LogReq) : (s.logOpen q).commits = s.commits := by rw [logOpen_eq]
@[simp] theorem logOpen_commitId (q : LogReq) : (s.logOpen q).commitId = s.commitId := by rw [logOpen_eq]
@[simp] theorem logOpen_coverage (q : LogReq) : (s.logOpen q).coverage = s.coverage := by rw [logOpen_eq]
@[simp] theorem logOpen_coverRuns (q : LogReq) : (s.logOpen q).coverRuns = s.coverRuns := by rw [logOpen_eq]
@[simp] theorem logOpen_axes (q : LogReq) : (s.logOpen q).axes = s.axes := by rw [logOpen_eq]
@[simp] theorem logOpen_wakeAt (q : LogReq) : (s.logOpen q).wakeAt = s.wakeAt := by rw [logOpen_eq]
@[simp] theorem logOpen_echoes (q : LogReq) : (s.logOpen q).echoes = s.echoes := by rw [logOpen_eq]
@[simp] theorem logOpen_trigs (q : LogReq) : (s.logOpen q).trigs = s.trigs := by rw [logOpen_eq]
@[simp] theorem logOpen_evals (q : LogReq) : (s.logOpen q).evals = s.evals := by rw [logOpen_eq]
@[simp] theorem logOpen_trigouts (q : LogReq) : (s.logOpen q).trigouts = s.trigouts := by rw [logOpen_eq]
@[simp] theorem logOpen_chans (q : LogReq) : (s.logOpen q).chans = s.chans := by rw [logOpen_eq]
@[simp] theorem logOpen_amps (q : LogReq) : (s.logOpen q).amps = s.amps := by rw [logOpen_eq]
@[simp] theorem logOpen_fires (q : LogReq) : (s.logOpen q).fires = s.fires := by rw [logOpen_eq]
@[simp] theorem logOpen_raster (q : LogReq) : (s.logOpen q).raster = s.raster := by rw [logOpen_eq]
@[simp] theorem logOpen_planes (q : LogReq) : (s.logOpen q).planes = s.planes := by rw [logOpen_eq]
@[simp] theorem logOpen_plait (q : LogReq) : (s.logOpen q).plait = s.plait := by rw [logOpen_eq]
@[simp] theorem logOpen_ports (q : LogReq) : (s.logOpen q).ports = s.ports := by rw [logOpen_eq]
@[simp] theorem logOpen_banks (q : LogReq) : (s.logOpen q).banks = s.banks := by rw [logOpen_eq]
@[simp] theorem logOpen_catchUps (q : LogReq) : (s.logOpen q).catchUps = s.catchUps := by rw [logOpen_eq]
@[simp] theorem logOpen_health (q : LogReq) : (s.logOpen q).health = s.health := by rw [logOpen_eq]
@[simp] theorem logOpen_pair (q : LogReq) : (s.logOpen q).pair = s.pair := by rw [logOpen_eq]
@[simp] theorem logOpen_mem (q : LogReq) : (s.logOpen q).mem = s.mem := by rw [logOpen_eq]
@[simp] theorem logOpen_dma (q : LogReq) : (s.logOpen q).dma = s.dma := by rw [logOpen_eq]
@[simp] theorem logOpen_power (q : LogReq) : (s.logOpen q).power = s.power := by rw [logOpen_eq]
@[simp] theorem logOpen_therm (q : LogReq) : (s.logOpen q).therm = s.therm := by rw [logOpen_eq]
@[simp] theorem logOpen_cal (q : LogReq) : (s.logOpen q).cal = s.cal := by rw [logOpen_eq]
@[simp] theorem logOpen_flash (q : LogReq) : (s.logOpen q).flash = s.flash := by rw [logOpen_eq]
@[simp] theorem logOpen_otp (q : LogReq) : (s.logOpen q).otp = s.otp := by rw [logOpen_eq]
@[simp] theorem logOpen_bist (q : LogReq) : (s.logOpen q).bist = s.bist := by rw [logOpen_eq]

end Sys2Proof.Laws
end

