-- ==== Sys2Proof/WellFormed.lean ====
section
/-!
DEFINITION. When a command is well formed: its operands lie in the ranges that the manual gives the
registers, requests and frames they come from.
-/

namespace Sys2Proof

/-- A clock reading fits its counter: 64 bits of TIME (R34), 48 bits of AON (R60). -/
def Moment.wf (m : Moment) : Bool := decide (m.tick < 2 ^ 64) && decide (m.aon < 2 ^ 48)

/-- A request as R70 lays it out: a 16-bit length, and as payload the bytes that the buffer holds for it,
at most 1,008. -/
def Request.wf (rq : Request) : Bool :=
  decide (rq.length < 2 ^ 16) && decide (rq.payload.length = min rq.length 1008)

/-- One sample of the 16 die sensors (R413). -/
def TempReadings.wf (r : TempReadings) : Bool := decide (r.die.length = 16)

/-- An STS frame of R294: at most 8 heads and 4 supply words. -/
def Sts.wf (x : Sts) : Bool :=
  decide (x.heads.length ≤ 8) && decide (x.protocol < 256) && decide (x.vendor < 65536)
    && decide (x.moduleType < 65536) && decide (x.bufferLines < 256) && decide (x.source < 256)
    && x.supplies.all (fun v => decide (v < 65536))
    && x.heads.all (fun h => decide (h.heaterDuty < 256))

/-- An HLT record of R293: 32 samples of 12 bits. -/
def HltRec.wf (r : HltRec) : Bool :=
  decide (r.localHead < 8) && decide (r.nozzle < 8192) && decide (r.samples.length = 32)
    && r.samples.all (fun v => decide (v < 4096))

/-- A word in error lies in its memory: 24 MiB of Weave, 8 MiB of Stake, 24 GiB of HBM (R351). -/
def MemError.wf (e : MemError) : Bool :=
  if e.source = 0 then decide (e.address < 0x1800000)
  else if e.source = 1 then decide (0x2000000 ≤ e.address) && decide (e.address < 0x2800000)
  else decide (e.address < 0x600000000)

/-- A host completion returns at most one read request's bytes (R46). -/
def Completion.wf : Completion → Bool
  | .data bytes => decide (bytes.length ≤ 4096)
  | .error => true
  | .poisoned => true

/-- Axes and heads that a CONTROL message names exist. -/
def Control.wf : Control → Bool
  | .stream es ms _ => es.all (fun e => decide (e.axis < 8)) && ms.all (fun x => decide (x.2.1 < 8))
  | .preset a _ => decide (a < 8)
  | .ceiling c => decide (c ≤ 0x8000)
  | .combined c _ => decide (c ≤ 0x8000)
  | .temps vs _ _ => vs.all (fun v => decide (v.1 < 256))
  | .pairConfig _ g _ _ => decide (g < 16 ∨ g = 0xFF)
  | .status _ f y _ => decide (f ≤ 32768) && decide (y < 8)
  | .heartbeat => true
  | .stateEvent _ _ => true
  | .haltReport => true
  | .withdrawn _ => true
  | .unpair => true

/-- A log entry's time is 48 bits of AON ticks and a 16-bit boot counter (R479). -/
def LogBody.wf (e : LogBody) : Bool := decide (e.aon < 2 ^ 48) && decide (e.boot < 65536)

/-- The words of the array that an operation pulsed exist (R441). -/
def OtpPulses.wf (p : OtpPulses) : Bool := p.bits.all (fun b => decide (b.1 < 512) && decide (b.2.bit < 32))

/-- The pools, partitions and banks that a phase reports exist (R36, R464, R351). -/
def PhaseInput.wf (i : PhaseInput) : Bool :=
  i.bist.misrs.all (fun p => decide (p.1 < 384))
    && i.bist.rows.all (fun r => decide (r.1 < 40) && decide (r.2 < 2 ^ 19))

/-- The operands of a command lie in the ranges the manual gives them. -/
def Instr.wf : Instr → Bool
  | .sysNop m rq | .sysInfo m rq | .sysState m rq | .sysPause m rq
  | .sysResume m rq | .sysReset m rq | .sysDoneList m rq | .cfgCommit m rq
  | .cfgDiscard m rq | .cfgStaged m rq | .cfgCheck m rq | .cfgOwner m rq
  | .geomHeadSet m rq | .geomRowSet m rq | .geomBarSet m rq | .geomNmapWrite m rq
  | .geomNmapLoad m rq | .geomNmapRead m rq | .geomStitchSet m rq | .geomMaskLoad m rq
  | .geomSwath m rq | .geomGet m rq | .geomCoverage m rq | .axisConfig m rq
  | .axisEnable m rq | .axisRead m rq | .axisPreset m rq | .axisClear m rq
  | .axisEchoSet m rq | .axisWakeSet m rq | .axisBarPosition m rq | .axisGet m rq
  | .trigConfig m rq | .trigEnable m rq | .trigRunWrite m rq | .trigRunStart m rq
  | .trigStatus m rq | .trigSpit m rq | .trigSpitResume m rq | .trigTrigoutSet m rq
  | .trigGet m rq | .trigClear m rq | .waveWaveSet m rq | .waveProfileSet m rq
  | .waveBarSet m rq | .waveChannelSet m rq | .waveDacSet m rq | .waveCurveSet m rq
  | .waveGet m rq | .waveStatus m rq | .waveClear m rq | .planeDefine m rq
  | .planeEnable m rq | .planeRingSet m rq | .planeIndexWrite m rq | .planeIndexRead m rq
  | .planeStatus m rq | .planeRetry m rq | .planeGet m rq | .planeClear m rq
  | .plaitSessionOpen m rq | .plaitSessionEnd m rq | .plaitSessionStatus m rq | .plaitVerify m rq
  | .plaitVerifyResult m rq | .plaitDecode m rq | .plaitStatus m rq | .plaitClear m rq
  | .canePortSet m rq | .canePortStatus m rq | .caneModuleInfo m rq | .caneRetrain m rq
  | .caneClear m rq | .caneGet m rq | .healthPolicySet m rq | .healthRefSet m rq
  | .healthSubstSet m rq | .healthSubstClear m rq | .healthReportOut m rq | .healthReleaseOut m rq
  | .healthTempSet m rq | .healthNozzleRead m rq | .healthSubstRead m rq | .healthStatus m rq
  | .healthGet m rq | .healthClear m rq | .pairConfig m rq | .pairStatus m rq
  | .pairPromote m rq | .pairResync m rq | .pairUnpair m rq | .pairGet m rq
  | .pairRejoin m rq | .memStatus m rq | .memRegions m rq | .memStakeStatus m rq
  | .memStakeHandover m rq | .memBankRetire m rq | .memScrubSet m rq | .memErrors m rq
  | .memHbmRows m rq | .memHbmRepair m rq | .memClear m rq | .memGet m rq
  | .dmaOpen m rq | .dmaClose m rq | .dmaStart m rq | .dmaStatus m rq
  | .dmaResume m rq | .dmaSkip m rq | .dmaAbort m rq | .dmaClear m rq
  | .powerStatus m rq _ | .powerSetState m rq | .powerPolicySet m rq | .powerHvSet m rq
  | .powerImageWrite m rq | .powerGet m rq | .powerThermRead m rq | .powerThermSet m rq
  | .powerThermGet m rq | .powerThermClear m rq | .calStatus m rq | .calRun m rq
  | .calStore m rq | .calAdcRead m rq | .calCoeffRead m rq | .otpStatus m rq
  | .otpRead m rq | .otpProgram m rq | .otpRepairPulse m rq | .otpLcChallenge m rq
  | .otpLcAdvance m rq | .otpRevokeKey m rq | .otpMarginCheck m rq | .bistStatus m rq
  | .bistRun m rq | .bistStop m rq | .bistResult m rq | .bistConfig m rq
  | .bistGet m rq | .logStatus m rq | .logRead m rq | .logAck m rq
  | .logConfig m rq | .logEpochSet m rq | .logGet m rq => m.wf && rq.wf
  | .printEnWrite m _ | .checkDone m | .resumeCheckDone m | .cfgCheckDone m
  | .dpOpen m _ _ | .dpFlush m _ _ | .dpClose m _ _ | .dpCloseComplete m _
  | .dpAbort m _ _ | .dpWindowRead m _ _ | .dpHbmWriteDone m _ _ | .dpStallTimeout m _
  | .tickLoRead m _ | .aonLoRead m _ | .ringLostRead m | .dpDroppedRead m _
  | .pairDivergencesRead m | .ringEnableWrite m _ | .ringConsWrite m _ | .intEnableWrite m _
  | .intHoldoffExpiry m | .resetEntry m | .commitAccept m | .coverageDone m
  | .spitBurstDone m _ | .verifyDone m | .decodeDone m | .weaveReformDone m
  | .imageWriteDone m _ | .calStored m _ | .porRelease m _ | .porAssert m
  | .rstnAssert m | .wakePin m | .upsettPhaseTimeout m _ | .railRetry m
  | .refDetectDone m _ | .railStep m | .pgFall m | .pgTimeout m
  | .railLost m _ | .refLost m | .pllUnlock m _ | .hostLinkLoss m
  | .pcieLinkUp m | .aonTrim m _ | .pmbusAlert m _ _ | .dozeTimer m
  | .sleepTimer m | .powerEntry m | .hvDischarged m _ | .pcieWake m
  | .aonWakeTimer m | .wakeComplete m | .hvokTimeout m _ | .hvLost m _
  | .hvDischargeTimeout m _ | .vddioLost m | .sensorValidityChange m _ | .thermGradient m
  | .thermLevel m _ | .hbmSensorLost m | .keeperTrip m | .safeRestart m
  | .quadratureEdge m _ _ _ | .indexEvent m _ _ | .ssiFrameStart m _ _ | .speedWindowEnd m _
  | .eventHoldoffExpiry m _ | .echoStep m _ | .motionWakeTransition m _ | .wakeWindowEnd m
  | .periodicEvaluation m | .tickleEmit m _ | .dryRisk m _ | .trigoutPulse m _
  | .linePrepare m _ | .nozSend m _ _ | .decompSchedule m | .indexReread m _
  | .blockDecodeDone m _ | .decompResume m _ | .peerBlockResponse m _ _ _ | .peerRequestTimeout m _
  | .peerBlockRequest m _ _ | .sessionBlockEmit m _ | .rxLocked m _ | .blockLockAcquired m _ _
  | .blockLockLoss m _ | .rimReceived m _ _ _ _ | .rimMissing m _ | .trainTimeout m _
  | .trainRestart m _ | .ackReceived m _ _ _ _ _ | .nakReceived m _ _ _ | .ackTimeout m _ _
  | .lineDeadline m _ _ _ | .tsySend m _ | .bankCatchup m | .healthAssess m
  | .healthReqTimeout m _ | .fwAutoSubmit m | .heaterLoop m | .pairTrainTimeout m
  | .pairRetrain m | .pairHello m _ | .hbToggle m | .heartbeatTimeout m _
  | .faultDeclared m | .inputFallback m | .stateEventApply m | .ceilingApply m
  | .tempSnapshotSend m | .commitPrepare m _ | .commitReady m _ | .commitMirror m _ _
  | .readyTimeout m | .digestReceived m _ _ _ _ _ | .digestAbsent m _ _ _ | .resyncSnapshot m _
  | .resyncTimeout m | .timeExchange m _ _ _ _ | .poisonRewrite m _ | .dmaUnitAssign m
  | .dmaPreempt m | .dmaYield m | .dmaMemTimeout m _ | .dmaHostTimeout m _
  | .dmaTransferEnd m _ | .calDriftDue m | .calRunStart m | .calRunDone m _
  | .otpRecheckDue m _ | .bistSliceStart m _ | .bistSliceEnd m _ _ | .bistRepeatDone m _ _
  | .bistOnDemandDone m _ _ | .rstnRelease m | .fireTime m _ | .fireEnd m _
  | .ssiDataHigh m _ | .answerTime m _ | .frameDiscarded m _ _ | .debugTapAccess m _ _ => m.wf
  | .dpWindowWrite m _ bytes _ => m.wf && decide (bytes.length ≤ 4096)
  | .registerWrite m offset size _ => m.wf && decide (offset < 65536) && decide (1 ≤ size ∧ size ≤ 8)
  | .powerRailRead m rq _ => m.wf && rq.wf
  | .otpOperationDone m pulses => m.wf && pulses.wf
  | .upsettPhaseDone m i => m.wf && i.wf
  | .thermalSample m r => m.wf && r.wf
  | .ssiFrameEnd m _ bits _ => m.wf && decide (bits.length ≤ 64)
  | .stsReceived m _ sts => m.wf && sts.wf
  | .hltReceived m _ _ recs => m.wf && recs.all HltRec.wf
  | .controlMessage m c _ => m.wf && c.wf
  | .bulkForward m _ bytes => m.wf && decide (bytes.length ≤ 4096)
  | .twinLogEntry m _ e => m.wf && e.wf
  | .scrubStep m _ found _ => m.wf && found.all MemError.wf
  | .dmaHostCompletion m _ r => m.wf && r.completion.wf
  | .adcScan m raws => m.wf && decide (raws.length = 16)
  | .unsupportedRequest m offset size => m.wf && decide (offset < 65536) && decide (1 ≤ size ∧ size ≤ 8)

end Sys2Proof
end

