-- ==== Sys2Proof/Tests/Slice0.lean ====
section
/-!
SUPPORT. Tests: the ill-formed terms that `wf` refuses, small facts of the manual, and for every clause of the
statements a state and operands that meet all of its hypotheses together, at the ends of the ranges where it
names ranges.
-/

open Sys2Proof Sys2Proof.Machine

namespace Sys2Proof.Tests

set_option Elab.async false

/-- A payload of `n` bytes with the fields listed (offset, bytes, value); the rest is 0. -/
def pay (n : Nat) (l : List (Nat × Nat × Nat)) : List Byte :=
  (List.range n).map (fun i =>
    match List.find? (fun (f : Nat × Nat × Nat) => decide (f.1 ≤ i ∧ i < f.1 + f.2.1)) l with
    | some f => BitVec.ofNat 8 (f.2.2 / 256 ^ (i - f.1))
    | none => 0)

/-- A request of mailbox 15 with that payload. -/
def rqOf (n : Nat) (l : List (Nat × Nat × Nat)) : Request :=
  { mbx := 15, tag := 0xA5, length := n, autoCommit := false, readShadow := false, payload := pay n l }

/-- The state right after reset, of a device in life-cycle state MFG. -/
def dev : State := { State.reset with otp := { lc := .mfg } }

def m0 : Moment := ⟨0, 0⟩

/-- A waiting command of mailbox 15. -/
def w0 : Waiter := ⟨15, 0x0004, 0xA5, 0⟩

/-- A plane of one tile of 64 lines, of bar 15, and one as large as a plane may be. -/
def plane0 : PlaneRec :=
  { bar := 15, codeWidth := 4, policy := 0, fallbackHalt := false, starveHalt := false, width := 64, height := 64
    yFirst := 0, areaBase := 0, areaLimit := 0x10000 }
def planeBig : PlaneRec := { plane0 with width := 262144, height := 16777216, areaLimit := 0x8000000 }

/-- A submitted commit of mailbox 15. -/
def held0 : Held := { set := 15, origin := .mbx 15, kind := .set, waiter := some w0, changes := [], since := m0 }

/-- A configuration that passes the checks: bar 15 prints the plane. -/
def printCfg : Cfg :=
  { tgEn := [(15, true)], bars := [(15, { codeWidth := 4, trigger := 15, rasterWidth := 64 })], axes := [(0, {})]
    axisEn := [(0, true)], planes := [(63, plane0)], bound := [(63, true)]
    rings := [(15, { depth := 256, base := 0x20000 })] }

/-- A unit's block is decoded to the end, as this. -/
def isDone (x : DecodeStep) (d : Decoded) : Bool :=
  match x with
  | .done e => e == d
  | _ => false
theorem eq_of_isDone {x : DecodeStep} {d : Decoded} (h : isDone x d = true) : x = .done d := by
  unfold isDone at h
  split at h
  · rw [eq_of_beq h]
  · cases h

/-- A status frame of a module without faults. -/
def sts0 : Sts :=
  { protocol := 1, vendor := 0, moduleType := 0, headsPresent := 0, bufferLines := 8, moduleFw := 0, source := 2
    fault := false, hvGood := true, supplies := [0, 0, 0, 0], heads := [], lateStrobes := 0, missingData := 0
    overlaps := 0, crcErrors := 0 }

/-- The hypotheses of a clause on a mailbox command hold of this request and this state. -/
abbrev Met (c : Cmd) (size : Request → Nat) (ok : Request → State → Prop) (m : Moment) (rq : Request) (s : State) : Prop :=
  Serves c (size rq) rq (s.clock m) ∧ ok rq ((s.clock m).served c rq)

/-- The same of a staged clause, with the change that it stages. -/
abbrev MetStages (c : Cmd) (size : Request → Nat) (ok : Request → State → Prop) (ch : Request → State → Change)
    (m : Moment) (rq : Request) (s : State) : Prop :=
  Met c size ok m rq s ∧ Stages rq (ch rq ((s.clock m).served c rq)) (s.clock m)

/-- The same of a clause of a command that answers ACCEPTED. -/
abbrev MetAccepts (c : Cmd) (size : Request → Nat) (ok : Request → State → Prop) (m : Moment) (rq : Request) (s : State) : Prop :=
  Met c size ok m rq s ∧ ((s.clock m).mbox rq.mbx.val).pending < 8

/-- The condition of a clause on another command holds of this state at this moment. -/
abbrev Now (m : Moment) (s : State) (ok : State → Prop) : Prop := ok (s.clock m)

/-- A word is not its complement. -/
theorem not_ne_self (x : BitVec 64) : ~~~x ≠ x := by
  intro h
  have h0 := congrArg (fun y : BitVec 64 => y.getLsbD 0) h
  simp at h0

/-- What every step of a fold keeps, the fold keeps. -/
theorem foldl_keeps {α β : Type} (g : State → β) (f : State → α → State) (h : ∀ s a, g (f s a) = g s)
    (l : List α) (s : State) : g (l.foldl f s) = g s := by
  induction l generalizing s with
  | nil => rfl
  | cons a l ih => rw [List.foldl_cons, ih, h]

/-- The start-up tests leave the life-cycle state (R468). -/
theorem startupTests_lc (b : StartupBist) (s : State) : (s.startupTests b).otp.lc = s.otp.lc := by
  have one : ∀ (p u c : Nat) (s : State), (s.startupTest b p u c).otp.lc = s.otp.lc := fun _ _ _ _ => rfl
  have log : ∀ (s : State), (s.logOpen { origin := .boot }).otp.lc = s.otp.lc := by
    intro s; unfold State.logOpen; simp
  have boot : ∀ (s : State) (f : Nat × Nat), (s.retireAtBoot f).otp.lc = s.otp.lc := by
    intro s f; unfold State.retireAtBoot; simp [State.setPool]
  unfold State.startupTests
  dsimp only
  rw [log, foldl_keeps (fun s : State => s.otp.lc) _ boot]
  refine (foldl_keeps (fun s : State => s.otp.lc) _ (fun s k => one k 0 16384 s) _ _).trans ?_
  refine foldl_keeps (fun s : State => s.otp.lc) _ (fun s p => ?_) _ _
  exact foldl_keeps (fun s : State => s.otp.lc) _ (fun s u => one p u 4096 s) _ _

/-- In MFG no start-up test ends in FAULT. -/
theorem startupFault_mfg (b : StartupBist) (s : State) (h : s.otp.lc = .mfg) :
    (s.startupTests b).startupFault b = none := by
  unfold State.startupFault
  rw [startupTests_lc, h]
  rfl

/-- A wrong signature of partition 5 ends in FAULT in OEM. -/
theorem startupFault_five (s : State) (h : s.otp.lc = .oem) :
    (s.startupTests { misrs := [(80, ~~~Config.bistExpected 5 16384)] }).startupFault
      { misrs := [(80, ~~~Config.bistExpected 5 16384)] } = some 5 := by
  unfold State.startupFault
  rw [startupTests_lc, h]
  have first : bistVerdict 5 16384 (startupMisr { misrs := [(80, ~~~Config.bistExpected 5 16384)] } 5 0 16384) = 2 := by
    have m : startupMisr { misrs := [(80, ~~~Config.bistExpected 5 16384)] } 5 0 16384 = ~~~Config.bistExpected 5 16384 := by
      simp [startupMisr, Table.find?]
    rw [m]; exact if_neg (not_ne_self _)
  rw [if_neg (by decide)]
  show List.find? _ (5 :: _) = some 5
  exact List.find?_cons_of_pos (decide_eq_true first)

/-- With no flash operation left, nothing more is erased. -/
theorem startFlash_bytes (s : State) (m : Memory) :
    ({ s with fresh := s.fresh + 1, flash := { s.flash with ops := [], bytes := m } }.startFlash).flash.bytes = m := rfl

/-- Bytes programmed into an erased boot flash read back. -/
theorem programmed_reads_back (s : State) (a : Nat) (bs : List Byte) (n : bs.length = 232) (e : s.flash.bytes = []) :
    ({ s with fresh := s.fresh + 1, flash := { s.flash with ops := [], bytes := flashProgram s.flash.bytes a bs } }.startFlash).flashRead a 232
      = bs := by
  have back := Sys2Proof.Laws.flashRead_programmed _ a bs ((startFlash_bytes s _).trans (congrArg (flashProgram · a bs) e))
  rwa [n] at back

/-! ## Ill-formed terms are refused -/

/-- A well-formed request, sample, status frame, sense record, error, completion, message, log entry, pulses and
phase input are accepted. -/
theorem test_well_formed_terms_are_accepted :
    Moment.wf ⟨2 ^ 64 - 1, 2 ^ 48 - 1⟩ = true ∧ (rqOf 1008 []).wf = true
    ∧ TempReadings.wf { die := List.replicate 16 none, tk0 := none, tk1 := none, hbm := none } = true
    ∧ sts0.wf = true ∧ HltRec.wf { localHead := 7, nozzle := 8191, line := 0, samples := List.replicate 32 4095 } = true
    ∧ MemError.wf { source := 0, address := 0x17FFFFF, bank := 0, row := 0, correctable := true, master := 0 } = true
    ∧ (Completion.data (zeros 4096)).wf = true ∧ Control.wf (.ceiling 0x8000) = true ∧ (bootEntry 0).wf = true
    ∧ OtpPulses.wf { bits := [(511, ⟨31, true, true⟩)], sourceGood := true } = true ∧ PhaseInput.wf {} = true
    ∧ Instr.wf (.sysNop m0 (rqOf 0 [])) = true := by decide +kernel

theorem test_wf_refuses_a_clock_beyond_its_counter :
    Moment.wf ⟨2 ^ 64, 0⟩ = false ∧ Moment.wf ⟨0, 2 ^ 48⟩ = false := by decide +kernel
theorem test_wf_refuses_a_request_whose_payload_is_not_its_length :
    Request.wf { rqOf 4 [] with length := 5 } = false ∧ Request.wf { rqOf 4 [] with length := 65536 } = false := by
  decide +kernel
theorem test_wf_refuses_a_sample_of_15_sensors :
    TempReadings.wf { die := List.replicate 15 none, tk0 := none, tk1 := none, hbm := none } = false := by decide +kernel
theorem test_wf_refuses_a_status_frame_of_9_heads :
    Sts.wf { sts0 with heads := List.replicate 9 ⟨none, 0, false, false⟩ } = false
    ∧ Sts.wf { sts0 with bufferLines := 256 } = false := by decide +kernel
theorem test_wf_refuses_a_sense_record_of_31_samples :
    HltRec.wf { localHead := 0, nozzle := 0, line := 0, samples := List.replicate 31 0 } = false
    ∧ HltRec.wf { localHead := 0, nozzle := 0, line := 0, samples := List.replicate 32 4096 } = false := by decide +kernel
theorem test_wf_refuses_an_error_outside_its_memory :
    MemError.wf { source := 0, address := 0x1800000, bank := 0, row := 0, correctable := true, master := 0 } = false
    ∧ MemError.wf { source := 1, address := 0x2800000, bank := 0, row := 0, correctable := true, master := 0 } = false
    ∧ MemError.wf { source := 2, address := 0x600000000, bank := 0, row := 0, correctable := true, master := 0 } = false := by
  decide +kernel
theorem test_wf_refuses_a_completion_of_4097_bytes : (Completion.data (zeros 4097)).wf = false := by decide +kernel
theorem test_wf_refuses_a_message_about_axis_8 :
    Control.wf (.preset 8 none) = false ∧ Control.wf (.ceiling 0x8001) = false
    ∧ Control.wf (.pairConfig false 16 false 64) = false ∧ Control.wf (.stream [] [(0, 8, 1)] 0) = false := by
  decide +kernel
theorem test_wf_refuses_a_log_entry_beyond_its_fields :
    LogBody.wf { bootEntry 0 with aon := 2 ^ 48 } = false ∧ LogBody.wf { bootEntry 0 with boot := 65536 } = false := by
  decide +kernel
theorem test_wf_refuses_a_pulse_on_word_512 :
    OtpPulses.wf { bits := [(512, ⟨0, true, true⟩)], sourceGood := true } = false
    ∧ OtpPulses.wf { bits := [(0, ⟨32, true, true⟩)], sourceGood := true } = false := by decide +kernel
theorem test_wf_refuses_a_phase_input_about_partition_24 :
    PhaseInput.wf { bist := ⟨[(384, 0)], []⟩ } = false ∧ PhaseInput.wf { bist := ⟨[], [(40, 0)]⟩ } = false
    ∧ PhaseInput.wf { bist := ⟨[], [(0, 2 ^ 19)]⟩ } = false := by decide +kernel
theorem test_wf_refuses_a_register_write_beyond_the_window :
    Instr.wf (.registerWrite m0 65536 4 0) = false ∧ Instr.wf (.registerWrite m0 0 9 0) = false
    ∧ Instr.wf (.dpWindowWrite m0 0 (zeros 4097) false) = false := by decide +kernel

/-! ## Small facts of the manual -/

/-- DEV_ID and VERSION read 0x00012096 and 0x000001B0 (R48). -/
theorem test_identity_reads : dev.readReg 0x00 = 0x00012096 ∧ dev.readReg 0x04 = 0x000001B0 := by decide +kernel

/-- Little-endian fields (R5): the bytes 01 02 03 04 are 0x04030201, and laying it out gives them back. -/
theorem test_fields_are_little_endian :
    fld [1, 2, 3, 4] 0 4 = 0x04030201 ∧ le 4 0x04030201 = [1, 2, 3, 4] := by decide +kernel

/-- CRC-32C of "123456789" is 0xE3069283 (the check value of the polynomial of R242). -/
theorem test_crc32c_check_value :
    crc32c [0x31, 0x32, 0x33, 0x34, 0x35, 0x36, 0x37, 0x38, 0x39] = 0xE3069283 := by decide +kernel

/-- The decoder of command words answers none: no row of the table has bits. -/
theorem test_no_row_has_bits : decodeTableWord 0 0 = none ∧ decodeTableWord 32 5 = none := by decide +kernel

/-! ## The general statements -/

/-- The queue, the memories: a state with an empty queue, and one whose front command runs. -/
theorem test_AnEmptyQueueIdles_met : State.reset.pending = [] := rfl
theorem test_CommandsLeaveTheQueue_met :
    (∃ t, exec (.tickLoRead m0 true) dev = .next t)
    ∧ ∃ t, step { dev with pending := [.tickLoRead m0 true, .sysNop m0 (rqOf 0 [])] } = .next t := ⟨⟨_, rfl⟩, ⟨_, rfl⟩⟩
theorem test_StepsKeepTheMemoriesCanonical_met :
    ∃ t, CanonicalMemories { dev with mem := { hbm := [(0, 1), (0x5FFFFFFFF, 2)] }, pending := [.tickLoRead m0 true] }
      ∧ step { dev with mem := { hbm := [(0, 1), (0x5FFFFFFFF, 2)] }, pending := [.tickLoRead m0 true] } = .next t :=
  ⟨_, by decide +kernel, rfl⟩

/-- Each reason of the order is met: the wrong length, a mailbox other than 15, the wrong state, the wrong
life-cycle state, and unit S of a pair. -/
theorem test_RequestsAreValidatedInOrder_met :
    (MailboxRow .geomHeadSet geomHeadSetCmd (fun _ => 8) geomHeadSetBody)
    ∧ (Arrives (rqOf 9 []) (dev.clock m0) ∧ barredFor geomHeadSetCmd 8 (rqOf 9 []) (dev.clock m0) = some Rc.badLength)
    ∧ (Arrives { rqOf 0 [] with mbx := 14 } (dev.clock m0)
      ∧ barredFor pairPromoteCmd 0 { rqOf 0 [] with mbx := 14 } (dev.clock m0) = some Rc.mailboxRestricted)
    ∧ (Arrives (rqOf 4 []) (dev.clock m0) ∧ barredFor sysResetCmd 4 (rqOf 4 []) (dev.clock m0) = some Rc.wrongState)
    ∧ (Arrives (rqOf 0 []) (State.reset.clock m0)
      ∧ barredFor memHbmRepairCmd 0 (rqOf 0 []) (State.reset.clock m0) = some Rc.notPermittedInLifecycle)
    ∧ (Arrives (rqOf 8 []) (State.clock m0 { dev with pair := { unitS := true, state := .paired } })
      ∧ barredFor geomHeadSetCmd 8 (rqOf 8 []) (State.clock m0 { dev with pair := { unitS := true, state := .paired } })
        = some Rc.roleSecondary) :=
  ⟨fun _ _ _ => rfl, by decide +kernel, by decide +kernel, by decide +kernel, by decide +kernel, by decide +kernel⟩

theorem test_RingsThatAreIgnored_met :
    (bufferHolds ((State.clock m0 { dev with mboxes := [(15, { busy := true })] }).mbox 15) sysNopCmd.op (rqOf 0 []) = false
      ∧ (State.clock m0 { dev with mboxes := [(15, { busy := true })] }).hostReaches = true
      ∧ ((State.clock m0 { dev with mboxes := [(15, { busy := true })] }).mbox 15).busy = true)
    ∧ bufferHolds ((State.clock m0 { dev with host := { linkUp := false } }).mbox 15) sysNopCmd.op (rqOf 0 []) = false
      ∧ (State.clock m0 { dev with host := { linkUp := false } }).hostReaches = false := by decide +kernel

theorem test_TheExchangeTouchesItsMailboxAlone_met : (dev.mbox (rqOf 0 []).mbx.val).busy = false := by decide +kernel

/-- A write at the end of HBM, and the bytes beside it. -/
theorem test_HbmBytesReadBack_met :
    Memory.wf dev.mem.hbm = true ∧ hbmUserEnd - 2 + ([1, 2] : List Byte).length ≤ hbmUserEnd ∧ (0x5FFFFFFFD < 0x5FFFFFFFE ∨ 0x5FFFFFFFE + [1, 2].length ≤ 0x5FFFFFFFD)
    ∧ (0x600000000 < 0x5FFFFFFFE ∨ 0x5FFFFFFFE + ([1, 2] : List Byte).length ≤ 0x600000000) := by decide +kernel

/-- A DP_CTRL value for each action, on a port that is open, closed, or closed and free to open. -/
theorem test_OneDataPortAction_met :
    (dev.clock m0).hostReaches = true
    ∧ (15 : Word).getLsbD 3 = true
    ∧ ((7 : Word).getLsbD 3 = false ∧ (7 : Word).getLsbD 2 = true)
    ∧ ((3 : Word).getLsbD 3 = false ∧ (3 : Word).getLsbD 2 = false ∧ (3 : Word).getLsbD 1 = true)
    ∧ ((1 : Word).getLsbD 3 = false ∧ (1 : Word).getLsbD 2 = false ∧ (1 : Word).getLsbD 1 = false ∧ (1 : Word).getLsbD 0 = true)
    ∧ ((State.clock m0 { dev with dps := [(7, { open_ := true })] }).dp 7).open_ = true
    ∧ ((dev.clock m0).dp 7).open_ = false
    ∧ (((State.clock m0 { dev with base := { planes := [(63, plane0)] }, dps := [(7, { limit := 0x10000 })] }).setTarget 7 1).openRefusal 7
        = none
      ∧ (((State.clock m0 { dev with base := { planes := [(63, plane0)] }, dps := [(7, { limit := 0x10000 })] }).setTarget 7 1).dp 7).compress
        = false) := by decide +kernel

theorem test_SlotZeroTakesPrecedence_met :
    State.region8 { dev with otp := { regions := [(3, .valid), (5, .valid)] } } 3 = .valid
    ∧ State.region8 { dev with otp := { regions := [(3, .valid), (5, .valid)] } } 5 = .valid
    ∧ (State.region8 { dev with otp := { regions := [(4, .valid), (6, .valid)] } } 3 ≠ .valid
      ∧ State.region8 { dev with otp := { regions := [(4, .valid), (6, .valid)] } } 4 = .valid)
    ∧ (State.region8 { dev with otp := { regions := [(4, .valid), (6, .valid)] } } 5 ≠ .valid
      ∧ State.region8 { dev with otp := { regions := [(4, .valid), (6, .valid)] } } 6 = .valid)
    ∧ (dev.region8 3 ≠ .valid ∧ dev.region8 4 ≠ .valid ∧ dev.region8 5 ≠ .valid ∧ dev.region8 6 ≠ .valid) := by decide +kernel

/-- The last nozzle of the map, written in every field, and a nozzle that the write does not name. -/
theorem test_MaskedNozzleWrites_met :
    (∃ e n, e = nmapRec (Cfg.apply {} (.nmap false 15 [(2097151, 0x1FFFFFFF)])) 2097151
      ∧ n = (if 2097151 = 2097151 then nmapMerge 15 (nmapRec {} 2097151) 0x1FFFFFFF else nmapRec {} 2097151))
    ∧ (∃ e n, e = nmapRec (Cfg.apply {} (.nmap false 15 [(2097151, 0x1FFFFFFF)])) 0
      ∧ n = (if 0 = 2097151 then nmapMerge 15 (nmapRec {} 2097151) 0x1FFFFFFF else nmapRec {} 0))
    ∧ (Cfg.substs {}) = [] := ⟨⟨_, _, rfl, rfl⟩, ⟨_, _, rfl, rfl⟩, rfl⟩

theorem test_VectorZeroCountsEntries_met :
    ((1 : Word).getLsbD 0 = true ∧ (dev.ints.cycle.set dev.now).getLsbD 0 = false)
    ∧ ((2 : Word).getLsbD 0 = false ∧ ((dev.raiseInt 0).ints.cycle.set (dev.raiseInt 0).now).getLsbD 0 = true)
    ∧ ((State.clock ⟨0, 1024⟩ { dev with ints := { firstAt := some 0, holdoff := 1000 } }).ints.firstAt = some 0
      ∧ (State.clock ⟨0, 1024⟩ { dev with ints := { firstAt := some 0, holdoff := 1000 } }).ints.status.getLsbD 0 = false
      ∧ (State.clock ⟨0, 1024⟩ { dev with ints := { firstAt := some 0, holdoff := 1000 } }).ints.holdoff ≠ 0
      ∧ (State.clock ⟨0, 1024⟩ { dev with ints := { firstAt := some 0, holdoff := 1000 } }).ints.holdoff * 1024
        ≤ ((State.clock ⟨0, 1024⟩ { dev with ints := { firstAt := some 0, holdoff := 1000 } }).aon - 0) * 1000)
    ∧ (dev.clock m0).ints.holdoff = 0
    ∧ ((dev.raiseInt 0).clock m0).ints.status.getLsbD 0 = true := by decide +kernel

theorem test_EnteringEachSystemState_met :
    dev.sys.operating = true ∧ dev.sys ≠ .off ∧ dev.sys ≠ .safe := by decide +kernel

/-- HEALTH.REPORT_OUT with its immediate flag 0, of the last nozzle. -/
theorem test_HealthReportOutStages_met :
    Met healthReportOutCmd nozzleListSize
      (fun rq _ => 1 ≤ fld rq.payload 0 2 ∧ fld rq.payload 0 2 ≤ 250 ∧ fld rq.payload 2 1 < 3 ∧ bit (fld rq.payload 3 1) 0 = false
        ∧ (∀ f ∈ (nozzleListFields rq.payload).drop 1, f.1 = true))
      m0 (rqOf 12 [(0, 2, 1), (2, 1, 2), (8, 4, 2097151)]) dev
    ∧ ∃ v r, v = (dev.clock m0).served healthReportOutCmd (rqOf 12 [(0, 2, 1), (2, 1, 2), (8, 4, 2097151)])
      ∧ r = State.reportOuts 15 (reportClass 2) (nozzleIds (pay 12 [(0, 2, 1), (2, 1, 2), (8, 4, 2097151)])) v
      ∧ Stages (rqOf 12 []) (.outs r.2.1 r.2.2) (dev.clock m0) :=
  ⟨by decide +kernel, _, _, rfl, rfl, by decide +kernel⟩

/-! ## A state and operands for each clause -/

theorem test_SystemReadsAnswer_met :
    (Met sysNopCmd (fun _ => 0)
      (fun _ _ => True)
      m0 (rqOf 0 [])
      dev)
    ∧
    (Met sysInfoCmd (fun _ => 0)
      (fun _ _ => True)
      m0 (rqOf 0 [])
      dev)
    ∧
    (Met sysStateCmd (fun _ => 0)
      (fun _ _ => True)
      m0 (rqOf 0 [])
      dev)
    ∧
    (Met sysDoneListCmd (fun _ => 0)
      (fun _ _ => True)
      m0 (rqOf 0 [])
      dev)
    ∧
    (Met cfgStagedCmd (fun _ => 0)
      (fun _ _ => True)
      m0 (rqOf 0 [])
      dev)
    ∧
    (Met cfgOwnerCmd (fun _ => 8)
      (fun rq _ => ownedCount (fld rq.payload 0 1) ≠ 0 ∧ fld rq.payload 4 4 < ownedCount (fld rq.payload 0 1))
      m0 (rqOf 8 [(0, 1, 9), (4, 4, 2208)])
      dev) := by
  and_intros <;> decide +kernel

theorem test_GeometryAndAxisReadsAnswer_met :
    (Met geomNmapReadCmd (fun _ => 8)
      (fun rq _ => fld rq.payload 0 4 < 2097152 ∧ 1 ≤ fld rq.payload 4 2 ∧ fld rq.payload 4 2 ≤ 248
        ∧ fld rq.payload 0 4 + fld rq.payload 4 2 ≤ 2097152)
      m0 (rqOf 8 [(0, 4, 2096904), (4, 2, 248)])
      dev)
    ∧
    (Met geomGetCmd (fun _ => 4)
      (fun rq _ => fld rq.payload 0 1 < 6 ∧ (fld rq.payload 0 1 = 1 → fld rq.payload 1 1 < 8)
        ∧ fld rq.payload 2 2 < (if fld rq.payload 0 1 < 2 then 256 else if fld rq.payload 0 1 = 3 then 512 else 16))
      m0 (rqOf 4 [(0, 1, 5)])
      dev)
    ∧
    (Met axisReadCmd (fun _ => 4)
      (fun rq _ => fld rq.payload 0 1 < 8)
      m0 (rqOf 4 [(0, 1, 7)])
      dev)
    ∧
    (Met axisBarPositionCmd (fun _ => 4)
      (fun rq _ => fld rq.payload 0 1 < 16)
      m0 (rqOf 4 [(0, 1, 15)])
      dev)
    ∧
    (Met axisGetCmd (fun _ => 4)
      (fun rq _ => fld rq.payload 0 1 < 3
        ∧ fld rq.payload 1 1 < (if fld rq.payload 0 1 = 0 then 8 else if fld rq.payload 0 1 = 1 then 4 else 1))
      m0 (rqOf 4 [(0, 1, 2)])
      dev) := by
  and_intros <;> decide +kernel

theorem test_TriggerAndWaveReadsAnswer_met :
    (Met trigStatusCmd (fun _ => 4)
      (fun rq _ => fld rq.payload 0 1 < 16)
      m0 (rqOf 4 [(0, 1, 15)])
      dev)
    ∧
    (Met trigGetCmd (fun _ => 4)
      (fun rq _ => fld rq.payload 0 1 < 3
        ∧ fld rq.payload 2 2 < (if fld rq.payload 0 1 = 0 then 16 else if fld rq.payload 0 1 = 1 then 16384 else 8))
      m0 (rqOf 4 [(0, 1, 2)])
      dev)
    ∧
    (Met waveGetCmd (fun _ => 4)
      (fun rq _ => fld rq.payload 0 1 < 6
        ∧ fld rq.payload 1 1 < (if fld rq.payload 0 1 = 1 then 4 else if fld rq.payload 0 1 = 5 then 2 else 1)
        ∧ fld rq.payload 2 2 < (if fld rq.payload 0 1 = 0 then 256 else if fld rq.payload 0 1 < 3 then 16 else if fld rq.payload 0 1 = 3 then 128 else if fld rq.payload 0 1 = 4 then 8 else 136))
      m0 (rqOf 4 [(0, 1, 5)])
      dev)
    ∧
    (Met waveStatusCmd (fun _ => 4)
      (fun rq _ => fld rq.payload 0 1 < 2 ∧ fld rq.payload 2 2 < (if fld rq.payload 0 1 = 0 then 136 else 16))
      m0 (rqOf 4 [(0, 1, 1)])
      dev) := by
  and_intros <;> decide +kernel

theorem test_RasterReadsAnswer_met :
    (Met planeGetCmd (fun _ => 4)
      (fun rq v => fld rq.payload 0 1 < 2 ∧ fld rq.payload 2 2 < (if fld rq.payload 0 1 = 0 then 64 else 16)
        ∧ (fld rq.payload 0 1 = 0 → (Table.find? (v.readCfg rq).planes (fld rq.payload 2 2)).isSome = true))
      m0 (rqOf 4 [(0, 1, 1)])
      dev)
    ∧
    (Met plaitSessionStatusCmd (fun _ => 4)
      (fun rq _ => fld rq.payload 0 1 < 16)
      m0 (rqOf 4 [(0, 1, 15)])
      dev)
    ∧
    (Met plaitVerifyResultCmd (fun _ => 0)
      (fun _ _ => True)
      m0 (rqOf 0 [])
      dev)
    ∧
    (Met plaitStatusCmd (fun _ => 0)
      (fun _ _ => True)
      m0 (rqOf 0 [])
      dev) := by
  and_intros <;> decide +kernel

theorem test_RasterReadsAnswer_met_by_parts :
    (Met planeIndexReadCmd (fun _ => 8)
      (fun rq v => fld rq.payload 0 1 < 64 ∧ 1 ≤ fld rq.payload 2 2 ∧ fld rq.payload 2 2 ≤ 63
        ∧ ∃ r, Table.find? v.inForce.planes (fld rq.payload 0 1) = some r
        ∧ fld rq.payload 4 4 + fld rq.payload 2 2 ≤ planeBlocks r)
      m0 (rqOf 8 [(0, 1, 63), (2, 2, 63), (4, 4, 8388545)])
      { dev with base := { planes := [(63, planeBig)] } }) :=
    ⟨by decide +kernel, by decide +kernel, by decide +kernel, by decide +kernel, ⟨planeBig, by decide +kernel, by decide +kernel⟩⟩

theorem test_CaneAndHealthReadsAnswer_met :
    (Met canePortStatusCmd (fun _ => 4)
      (fun rq _ => fld rq.payload 0 1 < 32)
      m0 (rqOf 4 [(0, 1, 31)])
      dev)
    ∧
    (Met caneModuleInfoCmd (fun _ => 4)
      (fun rq v => fld rq.payload 0 1 < 32 ∧ (v.port (fld rq.payload 0 1)).passedHello = true
        ∧ (v.port (fld rq.payload 0 1)).sts.isSome = true)
      m0 (rqOf 4 [(0, 1, 31)])
      { dev with ports := [(31, { passedHello := true, sts := some sts0 })] })
    ∧
    (Met caneGetCmd (fun _ => 4)
      (fun rq _ => fld rq.payload 0 1 < 32)
      m0 (rqOf 4 [(0, 1, 31)])
      dev)
    ∧
    (Met healthNozzleReadCmd (fun _ => 8)
      (fun rq _ => fld rq.payload 0 4 < 2097152 ∧ 1 ≤ fld rq.payload 4 2 ∧ fld rq.payload 4 2 ≤ 80
        ∧ fld rq.payload 0 4 + fld rq.payload 4 2 ≤ 2097152)
      m0 (rqOf 8 [(0, 4, 2097072), (4, 2, 80)])
      dev)
    ∧
    (Met healthSubstReadCmd (fun _ => 8)
      (fun rq _ => fld rq.payload 0 4 < 2097152 ∧ 1 ≤ fld rq.payload 4 2 ∧ fld rq.payload 4 2 ≤ 41)
      m0 (rqOf 8 [(0, 4, 2097151), (4, 2, 41)])
      dev)
    ∧
    (Met healthStatusCmd (fun _ => 4)
      (fun rq _ => fld rq.payload 0 1 < 2 ∧ fld rq.payload 2 2 < (if fld rq.payload 0 1 = 0 then 16 else 256))
      m0 (rqOf 4 [(0, 1, 1)])
      dev)
    ∧
    (Met healthGetCmd (fun _ => 4)
      (fun rq _ => fld rq.payload 0 1 < 3
        ∧ fld rq.payload 2 2 < (if fld rq.payload 0 1 = 0 then 16 else if fld rq.payload 0 1 = 1 then 2048 else 256))
      m0 (rqOf 4 [(0, 1, 2)])
      dev) := by
  and_intros <;> decide +kernel

theorem test_PairMemoryAndDmaReadsAnswer_met :
    (Met pairStatusCmd (fun _ => 0)
      (fun _ _ => True)
      m0 (rqOf 0 [])
      dev)
    ∧
    (Met pairGetCmd (fun _ => 0)
      (fun _ _ => True)
      m0 (rqOf 0 [])
      dev)
    ∧
    (Met memStatusCmd (fun _ => 0)
      (fun _ _ => True)
      m0 (rqOf 0 [])
      dev)
    ∧
    (Met memRegionsCmd (fun _ => 4)
      (fun rq _ => fld rq.payload 0 1 < 12)
      m0 (rqOf 4 [(0, 1, 11)])
      dev)
    ∧
    (Met memStakeStatusCmd (fun _ => 4)
      (fun rq _ => fld rq.payload 0 1 < 8)
      m0 (rqOf 4 [(0, 1, 7)])
      dev)
    ∧
    (Met memErrorsCmd (fun _ => 4)
      (fun rq _ => fld rq.payload 0 1 < 3)
      m0 (rqOf 4 [(0, 1, 2)])
      dev)
    ∧
    (Met memHbmRowsCmd (fun _ => 0)
      (fun _ _ => True)
      m0 (rqOf 0 [])
      dev)
    ∧
    (Met memGetCmd (fun _ => 0)
      (fun _ _ => True)
      m0 (rqOf 0 [])
      dev)
    ∧
    (Met dmaStatusCmd (fun _ => 4)
      (fun rq _ => fld rq.payload 0 1 < 32)
      m0 (rqOf 4 [(0, 1, 31)])
      dev) := by
  and_intros <;> decide +kernel

theorem test_PowerAndThermalReadsAnswer_met :
    (Met powerGetCmd (fun _ => 4)
      (fun rq _ => fld rq.payload 0 1 < 2 ∧ fld rq.payload 1 1 < (if fld rq.payload 0 1 = 0 then 1 else 8))
      m0 (rqOf 4 [(0, 1, 1)])
      dev)
    ∧
    (Met powerThermReadCmd (fun _ => 0)
      (fun _ _ => True)
      m0 (rqOf 0 [])
      dev)
    ∧
    (Met powerThermGetCmd (fun _ => 4)
      (fun rq _ => fld rq.payload 0 1 < 2)
      m0 (rqOf 4 [(0, 1, 1)])
      dev) := by
  and_intros <;> decide +kernel

theorem test_CalOtpBistAndLogReadsAnswer_met :
    (Met calStatusCmd (fun _ => 0)
      (fun _ _ => True)
      m0 (rqOf 0 [])
      dev)
    ∧
    (Met calAdcReadCmd (fun _ => 0)
      (fun _ _ => True)
      m0 (rqOf 0 [])
      dev)
    ∧
    (Met calCoeffReadCmd (fun _ => 4)
      (fun rq _ => fld rq.payload 0 1 < 25)
      m0 (rqOf 4 [(0, 1, 24)])
      dev)
    ∧
    (Met otpStatusCmd (fun _ => 0)
      (fun _ _ => True)
      m0 (rqOf 0 [])
      dev)
    ∧
    (Met otpReadCmd (fun _ => 4)
      (fun rq _ => fld rq.payload 0 2 < 512 ∧ fld rq.payload 2 1 < 4 ∧ 1 ≤ fld rq.payload 3 1
        ∧ fld rq.payload 3 1 ≤ 64 ∧ fld rq.payload 0 2 + fld rq.payload 3 1 ≤ 512)
      m0 (rqOf 4 [(0, 2, 448), (2, 1, 3), (3, 1, 64)])
      dev)
    ∧
    (Met bistStatusCmd (fun _ => 0)
      (fun _ _ => True)
      m0 (rqOf 0 [])
      dev)
    ∧
    (Met bistResultCmd (fun _ => 4)
      (fun rq v => fld rq.payload 0 1 < 24
        ∧ fld rq.payload 1 1 < (if fld rq.payload 0 1 < 5 then (poolSize (fld rq.payload 0 1)).1 else 1)
        ∧ fld rq.payload 2 1 < 2 ∧ (v.otp.lc = .field → fld rq.payload 2 1 = 0))
      m0 (rqOf 4 [(0, 1, 23), (2, 1, 1)])
      dev)
    ∧
    (Met bistGetCmd (fun _ => 0)
      (fun _ _ => True)
      m0 (rqOf 0 [])
      dev)
    ∧
    (Met logStatusCmd (fun _ => 0)
      (fun _ _ => True)
      m0 (rqOf 0 [])
      dev)
    ∧
    (Met logReadCmd (fun _ => 8)
      (fun rq v => 1 ≤ fld rq.payload 4 2 ∧ fld rq.payload 4 2 ≤ 31 ∧ v.mem.poison = [])
      m0 (rqOf 8 [(4, 2, 31)])
      { dev with mem := { poison := [] } })
    ∧
    (Met logGetCmd (fun _ => 0)
      (fun _ _ => True)
      m0 (rqOf 0 [])
      dev) := by
  and_intros <;> decide +kernel

theorem test_GeometryStages_met :
    (MetStages geomHeadSetCmd (fun _ => 8)
      (fun rq v => (∀ f ∈ headFields rq.payload, f.1 = true)
        ∧ ((headOf rq.payload).bar = 0xFF ∨ (∀ cfg ∈ [v.inForce, v.view rq.mbx.val], ∀ x ∈ cfg.heads, x.1 ≠ fld rq.payload 0 2 → x.2.bar ≠ 0xFF →
      x.2.port = (headOf rq.payload).port → x.2.localHead ≠ (headOf rq.payload).localHead))) (fun rq _ => .head (fld rq.payload 0 2) (headOf rq.payload))
      m0 (rqOf 8 [(0, 2, 255), (2, 1, 15), (3, 1, 31), (4, 1, 7), (5, 1, 8), (6, 2, 1024)])
      dev)
    ∧
    (MetStages geomRowSetCmd (fun _ => 12)
      (fun rq v => (∀ f ∈ rowFields rq.payload, f.1 = true)
        ∧ fld rq.payload 2 1 < (headRec (v.view rq.mbx.val) (fld rq.payload 0 2)).rows) (fun rq _ => .row (fld rq.payload 0 2) (fld rq.payload 2 1) (rowOf rq.payload))
      m0 (rqOf 12 [(0, 2, 255), (2, 1, 7), (3, 1, 8), (4, 2, 4095), (6, 2, 65535), (8, 1, 7)])
      { dev with base := { heads := [(255, { rows := 8 })] } })
    ∧
    (Met geomRowSetCmd (fun _ => 12)
      (fun rq v => (∀ f ∈ rowFields rq.payload, f.1 = true)
        ∧ (headRec (v.view rq.mbx.val) (fld rq.payload 0 2)).rows ≤ fld rq.payload 2 1)
      m0 (rqOf 12 [(0, 2, 255), (2, 1, 7), (3, 1, 8), (4, 2, 4095), (6, 2, 65535), (8, 1, 7)])
      dev)
    ∧
    (MetStages geomBarSetCmd (fun _ => 28)
      (fun rq v => (∀ f ∈ barFields rq.payload, f.1 = true)
        ∧ ((barOf rq.payload).scanning = true ∨ (barOf rq.payload).passMask = 0)
        ∧ (v.barEnabled (fld rq.payload 0 1) = true → barLockedChange (barRec v.inForce (fld rq.payload 0 1)) (barOf rq.payload) = false)) (fun rq _ => .bar (fld rq.payload 0 1) (barOf rq.payload))
      m0 (rqOf 28 [(0, 1, 15), (1, 1, 1), (2, 1, 4), (3, 1, 15), (4, 4, 262144), (8, 1, 7), (9, 1, 7), (20, 4, 1), (24, 1, 16), (25, 1, 15)])
      dev)
    ∧
    (Met geomBarSetCmd (fun _ => 28)
      (fun rq _ => (∀ f ∈ barFields rq.payload, f.1 = true) ∧ (barOf rq.payload).scanning = false
        ∧ (barOf rq.payload).passMask ≠ 0)
      m0 (rqOf 28 [(0, 1, 15), (1, 1, 0), (2, 1, 4), (3, 1, 15), (4, 4, 262144), (8, 1, 7), (9, 1, 7), (20, 4, 1), (24, 1, 1), (25, 1, 15)])
      dev)
    ∧
    (Met geomBarSetCmd (fun _ => 28)
      (fun rq v => (∀ f ∈ barFields rq.payload, f.1 = true)
        ∧ ((barOf rq.payload).scanning = true ∨ (barOf rq.payload).passMask = 0)
        ∧ v.barEnabled (fld rq.payload 0 1) = true
        ∧ barLockedChange (barRec v.inForce (fld rq.payload 0 1)) (barOf rq.payload) = true)
      m0 (rqOf 28 [(0, 1, 15), (1, 1, 1), (2, 1, 4), (3, 1, 15), (4, 4, 262144), (8, 1, 7), (9, 1, 7), (20, 4, 1), (24, 1, 16), (25, 1, 15)])
      { dev with base := { tgEn := [(15, true)] } })
    ∧
    (MetStages geomNmapWriteCmd (fun rq => 8 + 4 * fld rq.payload 4 2)
      (fun rq _ => fld rq.payload 0 4 < 2097152 ∧ 1 ≤ fld rq.payload 4 2 ∧ fld rq.payload 4 2 ≤ 248
        ∧ fld rq.payload 0 4 + fld rq.payload 4 2 ≤ 2097152 ∧ 1 ≤ fld rq.payload 6 1 ∧ fld rq.payload 6 1 ≤ 15
        ∧ (∀ e ∈ (nmapEntriesOf (fld rq.payload 0 4) (rq.payload.drop 8) (fld rq.payload 4 2)), nmapReserved (BitVec.ofNat 4 (fld rq.payload 6 1)) e.2 = false ∧ nmapFirmwareOnly (BitVec.ofNat 4 (fld rq.payload 6 1)) e.2 = false)) (fun rq _ => .nmap false (BitVec.ofNat 4 (fld rq.payload 6 1)) (nmapEntriesOf (fld rq.payload 0 4) (rq.payload.drop 8) (fld rq.payload 4 2)))
      m0 (rqOf 1000 [(0, 4, 2096904), (4, 2, 248), (6, 1, 15)])
      dev)
    ∧
    (MetStages geomNmapLoadCmd (fun _ => 20)
      (fun rq v => fld rq.payload 0 4 < 2097152 ∧ 1 ≤ fld rq.payload 4 4 ∧ fld rq.payload 4 4 ≤ 262144
        ∧ fld rq.payload 0 4 + fld rq.payload 4 4 ≤ 2097152 ∧ 1 ≤ fld rq.payload 16 1 ∧ fld rq.payload 16 1 ≤ 15
        ∧ sourceOk (fld rq.payload 8 8) (fld rq.payload 4 4 * 4) = true
        ∧ (∀ e ∈ (nmapEntriesOf (fld rq.payload 0 4) (v.hbmRead (fld rq.payload 8 8) (fld rq.payload 4 4 * 4)) (fld rq.payload 4 4)), nmapReserved (BitVec.ofNat 4 (fld rq.payload 16 1)) e.2 = false ∧ nmapFirmwareOnly (BitVec.ofNat 4 (fld rq.payload 16 1)) e.2 = false)) (fun rq v => .nmap true (BitVec.ofNat 4 (fld rq.payload 16 1)) (nmapEntriesOf (fld rq.payload 0 4) (v.hbmRead (fld rq.payload 8 8) (fld rq.payload 4 4 * 4)) (fld rq.payload 4 4)))
      m0 (rqOf 20 [(0, 4, 2097151), (4, 4, 1), (16, 1, 15)])
      dev)
    ∧
    (Met geomNmapLoadCmd (fun _ => 20)
      (fun rq _ => fld rq.payload 0 4 < 2097152 ∧ 1 ≤ fld rq.payload 4 4 ∧ fld rq.payload 4 4 ≤ 262144
        ∧ fld rq.payload 0 4 + fld rq.payload 4 4 ≤ 2097152 ∧ 1 ≤ fld rq.payload 16 1 ∧ fld rq.payload 16 1 ≤ 15
        ∧ sourceOk (fld rq.payload 8 8) (fld rq.payload 4 4 * 4) = false)
      m0 (rqOf 20 [(0, 4, 1835008), (4, 4, 262144), (8, 8, 1), (16, 1, 15)])
      dev)
    ∧
    (MetStages geomStitchSetCmd (fun _ => 12)
      (fun rq v => (∀ f ∈ stitchFields rq.payload, f.1 = true)
        ∧ ((stitchOf rq.payload).enable = true → ((headRec (v.view rq.mbx.val) (stitchOf rq.payload).left).bar = (stitchOf rq.payload).bar ∧ (headRec (v.view rq.mbx.val) (stitchOf rq.payload).right).bar = (stitchOf rq.payload).bar ∧ (stitchOf rq.payload).left ≠ (stitchOf rq.payload).right
      ∧ (stitchOf rq.payload).xStart + (stitchOf rq.payload).width ≤ (barRec (v.view rq.mbx.val) (stitchOf rq.payload).bar).rasterWidth))) (fun rq _ => .stitch (fld rq.payload 0 2) (stitchOf rq.payload))
      m0 (rqOf 12 [(0, 2, 511), (2, 1, 15), (3, 1, 0), (6, 1, 64), (8, 4, 262143)])
      dev)
    ∧
    (Met geomStitchSetCmd (fun _ => 12)
      (fun rq v => (∀ f ∈ stitchFields rq.payload, f.1 = true) ∧ (stitchOf rq.payload).enable = true
        ∧ ¬ ((headRec (v.view rq.mbx.val) (stitchOf rq.payload).left).bar = (stitchOf rq.payload).bar
        ∧ (headRec (v.view rq.mbx.val) (stitchOf rq.payload).right).bar = (stitchOf rq.payload).bar
        ∧ (stitchOf rq.payload).left ≠ (stitchOf rq.payload).right
      ∧ (stitchOf rq.payload).xStart + (stitchOf rq.payload).width ≤ (barRec (v.view rq.mbx.val) (stitchOf rq.payload).bar).rasterWidth))
      m0 (rqOf 12 [(0, 2, 511), (2, 1, 15), (3, 1, 1), (6, 1, 64), (8, 4, 262143)])
      dev)
    ∧
    (MetStages geomMaskLoadCmd (fun _ => 16)
      (fun rq _ => fld rq.payload 0 1 = 1 ∧ fld rq.payload 1 1 < 16 ∧ fld rq.payload 2 2 = 256
        ∧ sourceOk (fld rq.payload 8 8) 32768 = true) (fun rq v => .passMask (fld rq.payload 1 1) { bytes := (List.range 32768).zip (v.hbmRead (fld rq.payload 8 8) 32768) })
      m0 (rqOf 16 [(0, 1, 1), (1, 1, 15), (2, 2, 256)])
      dev)
    ∧
    (MetStages geomMaskLoadCmd (fun _ => 16)
      (fun rq _ => fld rq.payload 0 1 = 0 ∧ fld rq.payload 2 2 ∈ [1, 2, 4, 8, 16, 32, 64, 128, 256]
        ∧ sourceOk (fld rq.payload 8 8) (fld rq.payload 2 2 * 8) = true) (fun rq v => .stitchMask (fld rq.payload 1 1) { height := fld rq.payload 2 2, lines := maskLines 0 (fld rq.payload 2 2) (v.hbmRead (fld rq.payload 8 8) (fld rq.payload 2 2 * 8)) })
      m0 (rqOf 16 [(0, 1, 0), (2, 2, 256)])
      dev)
    ∧
    (MetStages geomSwathCmd (fun _ => 8)
      (fun rq v => fld rq.payload 0 1 < 16 ∧ (barRec (v.view rq.mbx.val) (fld rq.payload 0 1)).scanning = true
        ∧ fld rq.payload 1 1 < (barRec (v.view rq.mbx.val) (fld rq.payload 0 1)).passCount) (fun rq _ => .swath (fld rq.payload 0 1) { passIndex := fld rq.payload 1 1, offset := fld rq.payload 4 4 })
      m0 (rqOf 8 [(0, 1, 15), (1, 1, 15)])
      { dev with base := { bars := [(15, { scanning := true, passCount := 16 })] } })
    ∧
    (Met geomSwathCmd (fun _ => 8)
      (fun rq v => fld rq.payload 0 1 < 16 ∧ (barRec (v.view rq.mbx.val) (fld rq.payload 0 1)).scanning = false)
      m0 (rqOf 8 [(0, 1, 15)])
      dev) := by
  and_intros <;> decide +kernel

theorem test_AxesAndTriggersStage_met :
    (MetStages axisConfigCmd (fun _ => 44)
      (fun rq v => (∀ f ∈ axisFields rq.payload, f.1 = true) ∧ ssiTimingOk (axisOf rq.payload) = true
        ∧ (v.axisInUse (fld rq.payload 0 1) = true → axisLockedChange (axisRec v.inForce (fld rq.payload 0 1)) (axisOf rq.payload) = false)) (fun rq _ => .axis (fld rq.payload 0 1) (axisOf rq.payload))
      m0 (rqOf 44 [(0, 1, 7), (1, 1, 0), (2, 1, 7), (3, 1, 1), (4, 2, 1), (7, 1, 1), (8, 4, 16777215)])
      dev)
    ∧
    (Met axisConfigCmd (fun _ => 44)
      (fun rq _ => (∀ f ∈ axisFields rq.payload, f.1 = true) ∧ ssiTimingOk (axisOf rq.payload) = false)
      m0 (rqOf 44 [(0, 1, 7), (1, 1, 1), (2, 1, 7), (3, 1, 1), (4, 2, 1), (7, 1, 1), (8, 4, 16777215), (16, 1, 48), (17, 1, 47), (24, 2, 20), (26, 1, 40), (27, 1, 1), (28, 4, 400), (34, 2, 1), (36, 4, 1)])
      dev)
    ∧
    (Met axisConfigCmd (fun _ => 44)
      (fun rq v => (∀ f ∈ axisFields rq.payload, f.1 = true) ∧ ssiTimingOk (axisOf rq.payload) = true
        ∧ v.axisInUse (fld rq.payload 0 1) = true
        ∧ axisLockedChange (axisRec v.inForce (fld rq.payload 0 1)) (axisOf rq.payload) = true)
      m0 (rqOf 44 [(0, 1, 7), (1, 1, 0), (2, 1, 7), (3, 1, 1), (4, 2, 1), (7, 1, 1), (8, 4, 16777215)])
      { dev with base := { tgEn := [(0, true)], bars := [(0, { axisA := 7 })] } })
    ∧
    (MetStages axisEnableCmd (fun _ => 4)
      (fun rq v => fld rq.payload 0 1 < 8 ∧ fld rq.payload 1 1 < 2
        ∧ (fld rq.payload 1 1 = 0 → v.axisInUse (fld rq.payload 0 1) = false)) (fun rq _ => .axisEnable (fld rq.payload 0 1) (fld rq.payload 1 1 == 1))
      m0 (rqOf 4 [(0, 1, 7), (1, 1, 1)])
      dev)
    ∧
    (Met axisEnableCmd (fun _ => 4)
      (fun rq v => fld rq.payload 0 1 < 8 ∧ fld rq.payload 1 1 = 0 ∧ v.axisInUse (fld rq.payload 0 1) = true)
      m0 (rqOf 4 [(0, 1, 7), (1, 1, 0)])
      { dev with base := { tgEn := [(0, true)], bars := [(0, { axisA := 7 })] } })
    ∧
    (MetStages axisEchoSetCmd (fun _ => 12)
      (fun rq _ => (∀ f ∈ echoFields rq.payload, f.1 = true)
        ∧ (echoOf rq.payload).ratioM ≤ (echoOf rq.payload).ratioN) (fun rq _ => .echo (fld rq.payload 0 1) (echoOf rq.payload))
      m0 (rqOf 12 [(0, 1, 3), (1, 1, 1), (2, 1, 7), (4, 2, 65535), (6, 2, 65535), (8, 2, 8)])
      dev)
    ∧
    (Met axisEchoSetCmd (fun _ => 12)
      (fun rq _ => (∀ f ∈ echoFields rq.payload, f.1 = true)
        ∧ (echoOf rq.payload).ratioN < (echoOf rq.payload).ratioM)
      m0 (rqOf 12 [(0, 1, 3), (1, 1, 1), (2, 1, 7), (4, 2, 65535), (6, 2, 65534), (8, 2, 8)])
      dev)
    ∧
    (MetStages axisWakeSetCmd (fun _ => 8)
      (fun rq v => (∀ f ∈ wakeFields rq.payload, f.1 = true)
        ∧ (∀ k < 8, (wakeOf rq.payload).mask.getLsbD k = true → (axisRec (v.view rq.mbx.val) k).ssi = false)) (fun rq _ => .wake (wakeOf rq.payload))
      m0 (rqOf 8 [(0, 1, 255), (2, 2, 1), (4, 2, 1)])
      dev)
    ∧
    (MetStages trigConfigCmd (fun _ => 24)
      (fun rq v => (∀ f ∈ trigFields rq.payload, f.1 = true)
        ∧ (v.tgEnabled (fld rq.payload 0 1) = true → (trigRec v.inForce (fld rq.payload 0 1)).sourceBar = (trigOfBytes rq.payload).sourceBar)) (fun rq _ => .trig (fld rq.payload 0 1) (trigOfBytes rq.payload))
      m0 (rqOf 24 [(0, 1, 15), (1, 1, 15), (2, 1, 1), (4, 4, 3120), (8, 2, 20000), (10, 2, 1), (12, 1, 15), (13, 1, 1), (14, 2, 1), (16, 2, 100), (18, 2, 1)])
      dev)
    ∧
    (Met trigConfigCmd (fun _ => 24)
      (fun rq v => (∀ f ∈ trigFields rq.payload, f.1 = true) ∧ v.tgEnabled (fld rq.payload 0 1) = true
        ∧ (trigRec v.inForce (fld rq.payload 0 1)).sourceBar ≠ (trigOfBytes rq.payload).sourceBar)
      m0 (rqOf 24 [(0, 1, 15), (1, 1, 14), (2, 1, 1), (4, 4, 3120), (8, 2, 20000), (10, 2, 1), (12, 1, 15), (13, 1, 1), (14, 2, 1), (16, 2, 100), (18, 2, 1)])
      { dev with base := { tgEn := [(15, true)] } })
    ∧
    (MetStages trigRunWriteCmd (fun rq => 8 + 24 * fld rq.payload 4 2)
      (fun rq _ => fld rq.payload 0 1 < 16 ∧ fld rq.payload 2 2 < 1024 ∧ 1 ≤ fld rq.payload 4 2
        ∧ fld rq.payload 4 2 ≤ 41 ∧ fld rq.payload 2 2 + fld rq.payload 4 2 ≤ 1024
        ∧ (∀ k < fld rq.payload 4 2, ∀ f ∈ runFields rq.payload (8 + 24 * k), f.1 = true)) (fun rq _ => .run (fld rq.payload 0 1) (fld rq.payload 2 2) ((List.range (fld rq.payload 4 2)).map (fun k => runOf rq.payload (8 + 24 * k))))
      m0 (rqOf 992 [(0, 1, 15), (2, 2, 983), (4, 2, 41), (16, 4, 1), (20, 4, 16777216), (40, 4, 1), (44, 4, 16777216), (64, 4, 1), (68, 4, 16777216), (88, 4, 1), (92, 4, 16777216), (112, 4, 1), (116, 4, 16777216), (136, 4, 1), (140, 4, 16777216), (160, 4, 1), (164, 4, 16777216), (184, 4, 1), (188, 4, 16777216), (208, 4, 1), (212, 4, 16777216), (232, 4, 1), (236, 4, 16777216), (256, 4, 1), (260, 4, 16777216), (280, 4, 1), (284, 4, 16777216), (304, 4, 1), (308, 4, 16777216), (328, 4, 1), (332, 4, 16777216), (352, 4, 1), (356, 4, 16777216), (376, 4, 1), (380, 4, 16777216), (400, 4, 1), (404, 4, 16777216), (424, 4, 1), (428, 4, 16777216), (448, 4, 1), (452, 4, 16777216), (472, 4, 1), (476, 4, 16777216), (496, 4, 1), (500, 4, 16777216), (520, 4, 1), (524, 4, 16777216), (544, 4, 1), (548, 4, 16777216), (568, 4, 1), (572, 4, 16777216), (592, 4, 1), (596, 4, 16777216), (616, 4, 1), (620, 4, 16777216), (640, 4, 1), (644, 4, 16777216), (664, 4, 1), (668, 4, 16777216), (688, 4, 1), (692, 4, 16777216), (712, 4, 1), (716, 4, 16777216), (736, 4, 1), (740, 4, 16777216), (760, 4, 1), (764, 4, 16777216), (784, 4, 1), (788, 4, 16777216), (808, 4, 1), (812, 4, 16777216), (832, 4, 1), (836, 4, 16777216), (856, 4, 1), (860, 4, 16777216), (880, 4, 1), (884, 4, 16777216), (904, 4, 1), (908, 4, 16777216), (928, 4, 1), (932, 4, 16777216), (952, 4, 1), (956, 4, 16777216), (976, 4, 1), (980, 4, 16777216)])
      dev)
    ∧
    (Met trigRunWriteCmd (fun rq => 8 + 24 * fld rq.payload 4 2)
      (fun rq _ => fld rq.payload 0 1 < 16 ∧ fld rq.payload 2 2 < 1024 ∧ 1 ≤ fld rq.payload 4 2
        ∧ fld rq.payload 4 2 ≤ 41 ∧ 1024 < fld rq.payload 2 2 + fld rq.payload 4 2)
      m0 (rqOf 992 [(0, 1, 15), (2, 2, 1023), (4, 2, 41)])
      dev)
    ∧
    (MetStages trigRunStartCmd (fun _ => 4)
      (fun rq _ => fld rq.payload 0 1 < 16
        ∧ fld rq.payload 2 2 < 1024) (fun rq _ => .runStart (fld rq.payload 0 1) (fld rq.payload 2 2))
      m0 (rqOf 4 [(0, 1, 15), (2, 2, 1023)])
      dev)
    ∧
    (MetStages trigTrigoutSetCmd (fun _ => 12)
      (fun rq _ => (∀ f ∈ trigoutFields rq.payload, f.1 = true)) (fun rq _ => .trigout (fld rq.payload 0 1) (trigoutOf rq.payload))
      m0 (rqOf 12 [(0, 1, 7), (1, 1, 1), (2, 1, 15), (3, 1, 5), (4, 1, 1), (6, 2, 1)])
      dev) := by
  and_intros <;> decide +kernel

theorem test_WaveformsStage_met :
    (MetStages waveWaveSetCmd (fun rq => waveSetSize rq)
      (fun rq _ => (∀ f ∈ waveFields rq.payload, f.1 = true) ∧ waveTicks (waveOf rq.payload) ≤ 65535
        ∧ ((waveOf rq.payload).segs.getLast?.map segLevel).getD 0 = 0
        ∧ (∀ w ∈ (waveOf rq.payload).windows, windowOk (waveTicks (waveOf rq.payload)) w = true)) (fun rq _ => .wave (fld rq.payload 0 1) (waveOf rq.payload))
      m0 (rqOf 56 [(1, 1, 5), (2, 1, 1), (4, 2, 0), (6, 2, 65535), (36, 4, 1073676288), (40, 4, 1073676288), (44, 4, 1073676288), (48, 4, 1073676288), (52, 4, 196608)])
      dev)
    ∧
    (Met waveWaveSetCmd (fun rq => waveSetSize rq)
      (fun rq _ => (∀ f ∈ waveFields rq.payload, f.1 = true) ∧ 65535 < waveTicks (waveOf rq.payload))
      m0 (rqOf 56 [(1, 1, 5), (2, 1, 0), (36, 4, 1073676288), (40, 4, 1073676288), (44, 4, 1073676288), (48, 4, 1073676288), (52, 4, 262144)])
      dev)
    ∧
    (Met waveWaveSetCmd (fun rq => waveSetSize rq)
      (fun rq _ => (∀ f ∈ waveFields rq.payload, f.1 = true) ∧ waveTicks (waveOf rq.payload) ≤ 65535
        ∧ ((waveOf rq.payload).segs.getLast?.map segLevel).getD 0 ≠ 0)
      m0 (rqOf 40 [(1, 1, 1), (2, 1, 0), (36, 4, 65537)])
      dev)
    ∧
    (MetStages waveProfileSetCmd (fun _ => 20)
      (fun rq _ => (∀ f ∈ profileFields rq.payload, f.1 = true)
        ∧ fld rq.payload 4 1 = 0) (fun rq _ => .profile (fld rq.payload 0 1) (fld rq.payload 1 1) (profileOf rq.payload))
      m0 (rqOf 20 [(0, 1, 15), (1, 1, 3), (4, 1, 0)])
      dev)
    ∧
    (Met waveProfileSetCmd (fun _ => 20)
      (fun rq _ => (∀ f ∈ profileFields rq.payload, f.1 = true) ∧ fld rq.payload 4 1 ≠ 0)
      m0 (rqOf 20 [(0, 1, 15), (1, 1, 3), (4, 1, 1)])
      dev)
    ∧
    (MetStages waveBarSetCmd (fun _ => 4)
      (fun rq _ => fld rq.payload 0 1 < 16) (fun rq _ => .waveBar (fld rq.payload 0 1) { tickleWave := fld rq.payload 1 1, tickleWindows := BitVec.ofNat 8 (fld rq.payload 2 1) })
      m0 (rqOf 4 [(0, 1, 15)])
      dev)
    ∧
    (MetStages waveChannelSetCmd (fun _ => 8)
      (fun rq v => (∀ f ∈ channelFields rq.payload, f.1 = true)
        ∧ ((channelOf rq.payload).enable = true → overlapOf ((v.view rq.mbx.val).apply (.channel (fld rq.payload 0 1) (channelOf rq.payload))) (fld rq.payload 0 1) = none)) (fun rq _ => .channel (fld rq.payload 0 1) (channelOf rq.payload))
      m0 (rqOf 8 [(0, 1, 127), (1, 1, 1), (2, 1, 15), (3, 1, 3), (4, 1, 1)])
      dev)
    ∧
    (MetStages waveDacSetCmd (fun _ => 12)
      (fun rq v => (∀ f ∈ dacFields rq.payload, f.1 = true)
        ∧ ((dacOf rq.payload).enable = true → overlapOf ((v.view rq.mbx.val).apply (.dac (fld rq.payload 0 1) (dacOf rq.payload))) (128 + fld rq.payload 0 1) = none)) (fun rq _ => .dac (fld rq.payload 0 1) (dacOf rq.payload))
      m0 (rqOf 12 [(0, 1, 7), (1, 1, 1), (2, 1, 15), (3, 1, 3), (4, 1, 1), (5, 1, 1), (6, 2, 100), (8, 4, 1)])
      dev)
    ∧
    (MetStages waveCurveSetCmd (fun _ => 132)
      (fun rq _ => (∀ f ∈ curveFields rq.payload, f.1 = true)
        ∧ curveOrdered (curveOf rq.payload).points = true) (fun rq _ => .curve (fld rq.payload 0 1) (fld rq.payload 1 1) (curveOf rq.payload))
      m0 (rqOf 132 [(0, 1, 135), (1, 1, 0)])
      dev)
    ∧
    (Met waveCurveSetCmd (fun _ => 132)
      (fun rq _ => (∀ f ∈ curveFields rq.payload, f.1 = true) ∧ curveOrdered (curveOf rq.payload).points = false)
      m0 (rqOf 132 [(0, 1, 135), (1, 1, 0), (4, 4, 1)])
      dev) := by
  and_intros <;> decide +kernel

theorem test_RasterCaneAndHealthStage_met :
    (MetStages planeDefineCmd (fun _ => 40)
      (fun rq v => (∀ f ∈ planeFields rq.payload, f.1 = true) ∧ v.planeBound (fld rq.payload 0 1) = false
        ∧ areaReserved (planeOf rq.payload).areaBase (planeOf rq.payload).areaLimit = false
        ∧ (planeOf rq.payload).areaBase + indexBytes (planeOf rq.payload) < (planeOf rq.payload).areaLimit
        ∧ areaHit (v.view rq.mbx.val) v.inForce (planeOf rq.payload).areaBase (planeOf rq.payload).areaLimit (some (fld rq.payload 0 1)) none = none) (fun rq _ => .plane (fld rq.payload 0 1) (planeOf rq.payload))
      m0 (rqOf 40 [(0, 1, 63), (1, 1, 15), (2, 1, 4), (3, 1, 2), (4, 1, 1), (5, 1, 1), (8, 4, 262144), (12, 4, 1), (24, 8, 0x5dfffe000), (32, 8, 0x5e0000000)])
      dev)
    ∧
    (Met planeDefineCmd (fun _ => 40)
      (fun rq v => (∀ f ∈ planeFields rq.payload, f.1 = true) ∧ v.planeBound (fld rq.payload 0 1) = true)
      m0 (rqOf 40 [(0, 1, 63), (1, 1, 15), (2, 1, 4), (3, 1, 2), (4, 1, 1), (5, 1, 1), (8, 4, 262144), (12, 4, 1)])
      { dev with base := { bound := [(63, true)] } })
    ∧
    (Met planeDefineCmd (fun _ => 40)
      (fun rq v => (∀ f ∈ planeFields rq.payload, f.1 = true) ∧ v.planeBound (fld rq.payload 0 1) = false
        ∧ areaReserved (planeOf rq.payload).areaBase (planeOf rq.payload).areaLimit = true)
      m0 (rqOf 40 [(0, 1, 63), (1, 1, 15), (2, 1, 4), (3, 1, 2), (4, 1, 1), (5, 1, 1), (8, 4, 262144), (12, 4, 1), (32, 8, 1)])
      dev)
    ∧
    (Met planeDefineCmd (fun _ => 40)
      (fun rq v => (∀ f ∈ planeFields rq.payload, f.1 = true) ∧ v.planeBound (fld rq.payload 0 1) = false
        ∧ areaReserved (planeOf rq.payload).areaBase (planeOf rq.payload).areaLimit = false
        ∧ (planeOf rq.payload).areaLimit ≤ (planeOf rq.payload).areaBase + indexBytes (planeOf rq.payload))
      m0 (rqOf 40 [(0, 1, 63), (1, 1, 15), (2, 1, 4), (3, 1, 2), (4, 1, 1), (5, 1, 1), (8, 4, 262144), (12, 4, 1), (24, 8, 0), (32, 8, 4096)])
      dev)
    ∧
    (MetStages planeRingSetCmd (fun _ => 16)
      (fun rq v => (∀ f ∈ ringFields rq.payload, f.1 = true) ∧ v.barEnabled (fld rq.payload 0 1) = false
        ∧ areaReserved ({ depth := fld rq.payload 2 2, base := fld rq.payload 8 8 } : RingRec).base (({ depth := fld rq.payload 2 2, base := fld rq.payload 8 8 } : RingRec).base + 4096) = false ∧ (ringSpan v.inForce (fld rq.payload 0 1) ({ depth := fld rq.payload 2 2, base := fld rq.payload 8 8 } : RingRec)).2 ≤ hbmUserEnd ∧ areaHit (v.view rq.mbx.val) v.inForce (ringSpan v.inForce (fld rq.payload 0 1) ({ depth := fld rq.payload 2 2, base := fld rq.payload 8 8 } : RingRec)).1 (ringSpan v.inForce (fld rq.payload 0 1) ({ depth := fld rq.payload 2 2, base := fld rq.payload 8 8 } : RingRec)).2 none (some (fld rq.payload 0 1)) = none) (fun rq _ => .ring (fld rq.payload 0 1) ({ depth := fld rq.payload 2 2, base := fld rq.payload 8 8 } : RingRec))
      m0 (rqOf 16 [(0, 1, 15), (2, 2, 8192)])
      dev)
    ∧
    (Met planeRingSetCmd (fun _ => 16)
      (fun rq v => (∀ f ∈ ringFields rq.payload, f.1 = true) ∧ v.barEnabled (fld rq.payload 0 1) = true)
      m0 (rqOf 16 [(0, 1, 15), (2, 2, 8192)])
      { dev with base := { tgEn := [(15, true)] } })
    ∧
    (MetStages canePortSetCmd (fun _ => 8)
      (fun rq v => (∀ f ∈ portFields rq.payload, f.1 = true)
        ∧ ((portOf rq.payload).enable = false → (portRec v.inForce (fld rq.payload 0 1)).enable = true → v.portInUse (fld rq.payload 0 1) = false)) (fun rq _ => .port (fld rq.payload 0 1) (portOf rq.payload))
      m0 (rqOf 8 [(0, 1, 31), (1, 1, 1), (2, 1, 1), (3, 1, 7), (4, 2, 1000)])
      dev)
    ∧
    (Met canePortSetCmd (fun _ => 8)
      (fun rq v => (∀ f ∈ portFields rq.payload, f.1 = true) ∧ (portOf rq.payload).enable = false
        ∧ (portRec v.inForce (fld rq.payload 0 1)).enable = true ∧ v.portInUse (fld rq.payload 0 1) = true)
      m0 (rqOf 8 [(0, 1, 31), (1, 1, 0), (2, 1, 1), (3, 1, 7), (4, 2, 1000)])
      { dev with base := { ports := [(31, { enable := true })], heads := [(0, { bar := 15, port := 31 })], tgEn := [(15, true)] } })
    ∧
    (MetStages healthPolicySetCmd (fun _ => 16)
      (fun rq _ => (∀ f ∈ policyFields rq.payload, f.1 = true)) (fun rq _ => .policy (fld rq.payload 0 1) (policyOf rq.payload))
      m0 (rqOf 16 [(0, 1, 15), (1, 1, 15), (2, 1, 15), (3, 1, 15), (9, 1, 4), (10, 2, 8192), (12, 2, 512), (14, 2, 10)])
      dev)
    ∧
    (MetStages healthRefSetCmd (fun _ => 8)
      (fun rq v => (∀ f ∈ refFields rq.payload, f.1 = true)
        ∧ fld rq.payload 1 1 < (headRec (v.view rq.mbx.val) (fld rq.payload 0 1)).rows) (fun rq _ => .ref (fld rq.payload 0 1) (fld rq.payload 1 1) (refOf rq.payload))
      m0 (rqOf 8 [(0, 1, 255), (1, 1, 7), (4, 2, 2048), (6, 2, 496)])
      { dev with base := { heads := [(255, { rows := 8 })] } })
    ∧
    (Met healthRefSetCmd (fun _ => 8)
      (fun rq v => (∀ f ∈ refFields rq.payload, f.1 = true)
        ∧ (headRec (v.view rq.mbx.val) (fld rq.payload 0 1)).rows ≤ fld rq.payload 1 1)
      m0 (rqOf 8 [(0, 1, 255), (1, 1, 7), (4, 2, 2048), (6, 2, 496)])
      dev)
    ∧
    (MetStages healthSubstSetCmd (fun rq => healthSubstSetSize rq)
      (fun rq v => 1 ≤ fld rq.payload 0 2 ∧ fld rq.payload 0 2 ≤ 41
        ∧ (∀ k < fld rq.payload 0 2, ∀ f ∈ substFields rq.payload (8 + 24 * k), f.1 = true)
        ∧ substsDefect v.inForce (v.view rq.mbx.val) ((List.range (fld rq.payload 0 2)).map (fun k => substOf rq.payload (8 + 24 * k))) = none) (fun rq _ => .substs ((List.range (fld rq.payload 0 2)).map (fun k => substOf rq.payload (8 + 24 * k))))
      m0 (rqOf 32 [(0, 2, 1), (8, 4, 2097151), (13, 1, 1), (16, 4, 2097150)])
      { dev with base := { heads := [(255, { bar := 15, rows := 8, perRow := 1024 })], nmap := [(2097150, 0), (2097151, 0)] } })
    ∧
    (MetStages healthSubstClearCmd (fun rq => nozzleListSize rq)
      (fun rq v => (∀ f ∈ plainListFields rq.payload, f.1 = true)
        ∧ (∀ id ∈ nozzleIds rq.payload, ((Table.find? (v.view rq.mbx.val).substs id).isSome = true ∨ (Table.find? v.inForce.substs id).isSome = true)
      ∧ recHeld (v.record id) = false)) (fun rq _ => .substClear (nozzleIds rq.payload))
      m0 (rqOf 12 [(0, 2, 1), (8, 4, 2097151)])
      { dev with base := { substs := [(2097151, { neighbour := false, donors := [0] })] } })
    ∧
    (MetStages healthTempSetCmd (fun _ => 16)
      (fun rq _ => (∀ f ∈ tempFields rq.payload, f.1 = true)) (fun rq _ => .temp (fld rq.payload 0 1) (tempOf rq.payload))
      m0 (rqOf 16 [(0, 1, 255), (1, 1, 1), (4, 2, 800), (6, 2, 400)])
      dev) := by
  and_intros <;> decide +kernel

theorem test_MemoryPowerBistAndLogStage_met :
    (MetStages memScrubSetCmd (fun _ => 8)
      (fun rq _ => (∀ f ∈ scrubFields rq.payload, f.1 = true)) (fun rq _ => .scrub (scrubOf rq.payload))
      m0 (rqOf 8 [(0, 2, 60), (2, 2, 1)])
      dev)
    ∧
    (MetStages powerPolicySetCmd (fun _ => 12)
      (fun _ _ => True) (fun rq _ => .power (powerOf rq.payload))
      m0 (rqOf 12 [])
      dev)
    ∧
    (MetStages powerHvSetCmd (fun _ => 8)
      (fun rq _ => (∀ f ∈ hvFields rq.payload, f.1 = true)) (fun rq _ => .hv (fld rq.payload 0 1) (hvOf rq.payload))
      m0 (rqOf 8 [(0, 1, 7), (1, 1, 1), (2, 1, 1), (4, 2, 1), (6, 2, 1)])
      dev)
    ∧
    (MetStages powerThermSetCmd (fun _ => 12)
      (fun rq _ => fld rq.payload 0 1 < 2 ∧ thermInRange (fld rq.payload 0 1) (thermOf rq.payload) = true
        ∧ (thermOf rq.payload).warning ≤ (thermOf rq.payload).throttle
        ∧ (thermOf rq.payload).throttle + 8 < (thermOf rq.payload).shutdown) (fun rq _ => .therm (fld rq.payload 0 1) (thermOf rq.payload))
      m0 (rqOf 12 [(0, 1, 1), (2, 2, 370), (4, 2, 370), (6, 2, 379)])
      dev)
    ∧
    (Met powerThermSetCmd (fun _ => 12)
      (fun rq _ => fld rq.payload 0 1 < 2 ∧ thermInRange (fld rq.payload 0 1) (thermOf rq.payload) = false)
      m0 (rqOf 12 [(0, 1, 1)])
      dev)
    ∧
    (Met powerThermSetCmd (fun _ => 12)
      (fun rq _ => fld rq.payload 0 1 < 2 ∧ thermInRange (fld rq.payload 0 1) (thermOf rq.payload) = true
        ∧ ((thermOf rq.payload).throttle < (thermOf rq.payload).warning ∨ (thermOf rq.payload).shutdown ≤ (thermOf rq.payload).throttle + 8))
      m0 (rqOf 12 [(0, 1, 1), (2, 2, 371), (4, 2, 370), (6, 2, 380)])
      dev)
    ∧
    (MetStages bistConfigCmd (fun _ => 4)
      (fun rq v => (fld rq.payload 0 2 = 0 ∧ v.otp.lc ≠ .oem ∧ v.otp.lc ≠ .field ∨ 5 ≤ fld rq.payload 0 2
        ∧ fld rq.payload 0 2 ≤ 1440)) (fun rq _ => .bistPeriod (fld rq.payload 0 2))
      m0 (rqOf 4 [])
      dev)
    ∧
    (Met bistConfigCmd (fun _ => 4)
      (fun rq v => fld rq.payload 0 2 = 0 ∧ (v.otp.lc = .oem ∨ v.otp.lc = .field))
      m0 (rqOf 4 [(0, 2, 0)])
      { dev with otp := { lc := .oem } })
    ∧
    (MetStages logConfigCmd (fun _ => 4)
      (fun rq _ => fld rq.payload 0 1 < 2) (fun rq _ => .logMode (fld rq.payload 0 1 == 1))
      m0 (rqOf 4 [(0, 1, 1)])
      dev) := by
  and_intros <;> decide +kernel

theorem test_SystemCommandsAct_met :
    (Met sysPauseCmd (fun _ => 0)
      (fun _ v => v.logRefuses = false ∧ v.sys = .printing)
      m0 (rqOf 0 [])
      { dev with sys := .printing })
    ∧
    (Met sysPauseCmd (fun _ => 0)
      (fun _ v => v.logRefuses = false ∧ v.sys ≠ .printing)
      m0 (rqOf 0 [])
      { dev with sys := .paused })
    ∧
    (MetAccepts sysResumeCmd (fun _ => 0)
      (fun _ v => v.logRefuses = false)
      m0 (rqOf 0 [])
      { dev with sys := .paused })
    ∧
    (Met sysResetCmd (fun _ => 4)
      (fun rq v => v.logRefuses = false ∧ fld rq.payload 0 4 = 0xC0DE2096)
      m0 (rqOf 4 [(0, 4, 0xc0de2096)])
      { dev with sys := .fault })
    ∧
    (Met sysResetCmd (fun _ => 4)
      (fun rq _ => fld rq.payload 0 4 ≠ 0xC0DE2096)
      m0 (rqOf 4 [])
      { dev with sys := .fault })
    ∧
    (Met cfgDiscardCmd (fun _ => 0)
      (fun _ _ => True)
      m0 (rqOf 0 [])
      dev)
    ∧
    (MetAccepts cfgCheckCmd (fun _ => 4)
      (fun rq _ => fld rq.payload 0 1 < 2 ∧ fld rq.payload 1 1 < 2)
      m0 (rqOf 4 [(0, 1, 1), (1, 1, 1)])
      dev)
    ∧
    (MetAccepts geomCoverageCmd (fun _ => 4)
      (fun rq _ => fld rq.payload 0 1 < 16)
      m0 (rqOf 4 [(0, 1, 15)])
      dev) := by
  and_intros <;> decide +kernel

theorem test_AxisCommandsAct_met :
    (Met axisPresetCmd (fun _ => 8)
      (fun rq v => fld rq.payload 0 1 < 8 ∧ v.axisInUse (fld rq.payload 0 1) = false
        ∧ (axisRec v.inForce (fld rq.payload 0 1)).ssi = false ∧ fld rq.payload 1 1 = 0 ∧ v.logRefuses = false
        ∧ v.pair.state ≠ .paired)
      m0 (rqOf 8 [(0, 1, 7), (1, 1, 0)])
      dev)
    ∧
    (Met axisPresetCmd (fun _ => 8)
      (fun rq v => fld rq.payload 0 1 < 8 ∧ v.axisInUse (fld rq.payload 0 1) = false
        ∧ (axisRec v.inForce (fld rq.payload 0 1)).ssi = false ∧ fld rq.payload 1 1 = 0 ∧ v.pair.state = .paired)
      m0 (rqOf 8 [(0, 1, 7), (1, 1, 0)])
      { dev with pair := { state := .paired } })
    ∧
    (Met axisPresetCmd (fun _ => 8)
      (fun rq v => fld rq.payload 0 1 < 8 ∧ v.axisInUse (fld rq.payload 0 1) = false
        ∧ (axisRec v.inForce (fld rq.payload 0 1)).ssi = false ∧ fld rq.payload 1 1 = 1 ∧ v.pair.state ≠ .paired
        ∧ v.pair.state ≠ .syncing)
      m0 (rqOf 8 [(0, 1, 7), (1, 1, 1)])
      dev)
    ∧
    (Met axisPresetCmd (fun _ => 8)
      (fun rq v => fld rq.payload 0 1 < 8 ∧ v.axisInUse (fld rq.payload 0 1) = false
        ∧ (axisRec v.inForce (fld rq.payload 0 1)).ssi = false ∧ fld rq.payload 1 1 = 1
        ∧ (v.pair.state = .paired ∨ v.pair.state = .syncing))
      m0 (rqOf 8 [(0, 1, 7), (1, 1, 1)])
      { dev with pair := { state := .syncing } })
    ∧
    (Met axisPresetCmd (fun _ => 8)
      (fun rq v => fld rq.payload 0 1 < 8 ∧ v.axisInUse (fld rq.payload 0 1) = false
        ∧ (axisRec v.inForce (fld rq.payload 0 1)).ssi = false ∧ fld rq.payload 1 1 = 2
        ∧ (v.axis (fld rq.payload 0 1)).preset = none ∧ v.pair.state ≠ .paired ∧ v.pair.state ≠ .syncing)
      m0 (rqOf 8 [(0, 1, 7), (1, 1, 2)])
      dev)
    ∧
    (Met axisPresetCmd (fun _ => 8)
      (fun rq v => fld rq.payload 0 1 < 8 ∧ v.axisInUse (fld rq.payload 0 1) = false
        ∧ (axisRec v.inForce (fld rq.payload 0 1)).ssi = false ∧ fld rq.payload 1 1 = 2 ∧ v.logRefuses = false
        ∧ v.pair.state ≠ .paired ∧ v.pair.state ≠ .syncing)
      m0 (rqOf 8 [(0, 1, 7), (1, 1, 2)])
      dev)
    ∧
    (Met axisPresetCmd (fun _ => 8)
      (fun rq v => fld rq.payload 0 1 < 8 ∧ v.axisInUse (fld rq.payload 0 1) = false
        ∧ (axisRec v.inForce (fld rq.payload 0 1)).ssi = false ∧ fld rq.payload 1 1 = 2 ∧ v.logRefuses = false
        ∧ (v.pair.state = .paired ∨ v.pair.state = .syncing))
      m0 (rqOf 8 [(0, 1, 7), (1, 1, 2)])
      { dev with pair := { state := .paired } })
    ∧
    (Met axisPresetCmd (fun _ => 8)
      (fun rq v => fld rq.payload 0 1 < 8 ∧ fld rq.payload 1 1 < 3 ∧ v.axisInUse (fld rq.payload 0 1) = true)
      m0 (rqOf 8 [(0, 1, 7), (1, 1, 2)])
      { dev with base := { tgEn := [(0, true)], bars := [(0, { axisA := 7 })] } })
    ∧
    (Met axisPresetCmd (fun _ => 8)
      (fun rq v => fld rq.payload 0 1 < 8 ∧ fld rq.payload 1 1 < 3 ∧ v.axisInUse (fld rq.payload 0 1) = false
        ∧ (axisRec v.inForce (fld rq.payload 0 1)).ssi = true)
      m0 (rqOf 8 [(0, 1, 7), (1, 1, 2)])
      { dev with base := { axes := [(7, { ssi := true })] } })
    ∧
    (Met axisClearCmd (fun _ => 4)
      (fun rq _ => fld rq.payload 0 1 < 8 ∧ fld rq.payload 1 1 = 1)
      m0 (rqOf 4 [(0, 1, 7), (1, 1, 1)])
      dev)
    ∧
    (Met axisClearCmd (fun _ => 4)
      (fun rq v => fld rq.payload 0 1 < 8 ∧ fld rq.payload 1 1 = 2 ∧ v.logRefuses = false
        ∧ (v.follows = true → (v.axis (fld rq.payload 0 1)).faultReason = 0)
        ∧ (v.axis (fld rq.payload 0 1)).motion ≠ .faulted)
      m0 (rqOf 4 [(0, 1, 7), (1, 1, 2)])
      dev)
    ∧
    (Met axisClearCmd (fun _ => 4)
      (fun rq v => fld rq.payload 0 1 < 8 ∧ fld rq.payload 1 1 = 3 ∧ v.logRefuses = false
        ∧ (v.follows = true → (v.axis (fld rq.payload 0 1)).faultReason = 0)
        ∧ (v.axis (fld rq.payload 0 1)).motion ≠ .faulted)
      m0 (rqOf 4 [(0, 1, 7), (1, 1, 3)])
      dev)
    ∧
    (Met axisClearCmd (fun _ => 4)
      (fun rq v => fld rq.payload 0 1 < 8 ∧ fld rq.payload 1 1 = 2 ∧ v.logRefuses = false ∧ v.follows = false
        ∧ (v.axis (fld rq.payload 0 1)).motion = .faulted)
      m0 (rqOf 4 [(0, 1, 7), (1, 1, 2)])
      { dev with axes := [(7, { motion := .faulted })] })
    ∧
    (Met axisClearCmd (fun _ => 4)
      (fun rq v => fld rq.payload 0 1 < 8 ∧ fld rq.payload 1 1 = 3 ∧ v.logRefuses = false ∧ v.follows = false
        ∧ (v.axis (fld rq.payload 0 1)).motion = .faulted)
      m0 (rqOf 4 [(0, 1, 7), (1, 1, 3)])
      { dev with axes := [(7, { motion := .faulted })] })
    ∧
    (Met axisClearCmd (fun _ => 4)
      (fun rq v => fld rq.payload 0 1 < 8 ∧ fld rq.payload 1 1 = 2 ∧ v.logRefuses = false ∧ v.follows = true
        ∧ ((v.axis (fld rq.payload 0 1)).motion = .faulted ∨ (v.axis (fld rq.payload 0 1)).faultReason ≠ 0))
      m0 (rqOf 4 [(0, 1, 7), (1, 1, 2)])
      { dev with axes := [(7, { motion := .faulted })], pair := { unitS := true, state := .paired } })
    ∧
    (Met axisClearCmd (fun _ => 4)
      (fun rq v => fld rq.payload 0 1 < 8 ∧ fld rq.payload 1 1 = 3 ∧ v.logRefuses = false ∧ v.follows = true
        ∧ ((v.axis (fld rq.payload 0 1)).motion = .faulted ∨ (v.axis (fld rq.payload 0 1)).faultReason ≠ 0))
      m0 (rqOf 4 [(0, 1, 7), (1, 1, 3)])
      { dev with axes := [(7, { motion := .faulted })], pair := { unitS := true, state := .paired } }) := by
  and_intros <;> decide +kernel

theorem test_TriggerAndWaveformCommandsAct_met :
    (MetAccepts trigSpitCmd (fun _ => 8)
      (fun rq v => fld rq.payload 0 1 < 16 ∧ 1 ≤ fld rq.payload 2 2 ∧ 3120 ≤ fld rq.payload 4 4
        ∧ v.tgEnabled (fld rq.payload 0 1) = true
        ∧ (v.barMotion (trigRec v.inForce (fld rq.payload 0 1)).sourceBar) ≠ .forward
        ∧ (v.barMotion (trigRec v.inForce (fld rq.payload 0 1)).sourceBar) ≠ .settling
        ∧ (v.trig (fld rq.payload 0 1)).burst = none)
      m0 (rqOf 8 [(0, 1, 15), (2, 2, 1), (4, 4, 3120)])
      { dev with base := { tgEn := [(15, true)] } })
    ∧
    (Met trigSpitCmd (fun _ => 8)
      (fun rq v => fld rq.payload 0 1 < 16 ∧ 1 ≤ fld rq.payload 2 2 ∧ 3120 ≤ fld rq.payload 4 4
        ∧ v.tgEnabled (fld rq.payload 0 1) = false)
      m0 (rqOf 8 [(0, 1, 15), (2, 2, 1), (4, 4, 3120)])
      dev)
    ∧
    (Met trigSpitCmd (fun _ => 8)
      (fun rq v => fld rq.payload 0 1 < 16 ∧ 1 ≤ fld rq.payload 2 2 ∧ 3120 ≤ fld rq.payload 4 4
        ∧ v.tgEnabled (fld rq.payload 0 1) = true
        ∧ ((v.barMotion (trigRec v.inForce (fld rq.payload 0 1)).sourceBar) = .forward ∨ (v.barMotion (trigRec v.inForce (fld rq.payload 0 1)).sourceBar) = .settling))
      m0 (rqOf 8 [(0, 1, 15), (2, 2, 1), (4, 4, 3120)])
      { dev with base := { tgEn := [(15, true)] }, axes := [(0, { motion := .forward })] })
    ∧
    (Met trigSpitCmd (fun _ => 8)
      (fun rq v => fld rq.payload 0 1 < 16 ∧ 1 ≤ fld rq.payload 2 2 ∧ 3120 ≤ fld rq.payload 4 4
        ∧ v.tgEnabled (fld rq.payload 0 1) = true
        ∧ (v.barMotion (trigRec v.inForce (fld rq.payload 0 1)).sourceBar) ≠ .forward
        ∧ (v.barMotion (trigRec v.inForce (fld rq.payload 0 1)).sourceBar) ≠ .settling
        ∧ (v.trig (fld rq.payload 0 1)).burst ≠ none)
      m0 (rqOf 8 [(0, 1, 15), (2, 2, 1), (4, 4, 3120)])
      { dev with base := { tgEn := [(15, true)] }, trigs := [(15, { burst := some { waiter := w0, left := 1, interval := 1 } })] })
    ∧
    (Met trigSpitResumeCmd (fun _ => 4)
      (fun rq v => fld rq.payload 0 1 < 16 ∧ v.logRefuses = false ∧ v.tgEnabled (fld rq.payload 0 1) = true
        ∧ (v.rbar (v.inForce.sourceBar (fld rq.payload 0 1))).dryHold = true
        ∧ (v.rbar (v.inForce.sourceBar (fld rq.payload 0 1))).spitSince = true)
      m0 (rqOf 4 [(0, 1, 15)])
      { dev with sys := .armed, base := { tgEn := [(15, true)] }, raster := [(15, { dryHold := true, spitSince := true })] })
    ∧
    (Met trigSpitResumeCmd (fun _ => 4)
      (fun rq v => fld rq.payload 0 1 < 16 ∧ v.tgEnabled (fld rq.payload 0 1) = false)
      m0 (rqOf 4 [(0, 1, 15)])
      { dev with sys := .armed })
    ∧
    (Met trigSpitResumeCmd (fun _ => 4)
      (fun rq v => fld rq.payload 0 1 < 16 ∧ v.tgEnabled (fld rq.payload 0 1) = true
        ∧ (v.rbar (v.inForce.sourceBar (fld rq.payload 0 1))).dryHold = false)
      m0 (rqOf 4 [(0, 1, 15)])
      { dev with sys := .armed, base := { tgEn := [(15, true)] } })
    ∧
    (Met trigSpitResumeCmd (fun _ => 4)
      (fun rq v => fld rq.payload 0 1 < 16 ∧ v.tgEnabled (fld rq.payload 0 1) = true
        ∧ (v.rbar (v.inForce.sourceBar (fld rq.payload 0 1))).dryHold = true
        ∧ (v.rbar (v.inForce.sourceBar (fld rq.payload 0 1))).spitSince = false)
      m0 (rqOf 4 [(0, 1, 15)])
      { dev with sys := .armed, base := { tgEn := [(15, true)] }, raster := [(15, { dryHold := true })] })
    ∧
    (Met trigClearCmd (fun _ => 4)
      (fun rq _ => fld rq.payload 0 1 < 16 ∧ fld rq.payload 1 1 = 1)
      m0 (rqOf 4 [(0, 1, 15), (1, 1, 1)])
      dev)
    ∧
    (Met waveClearCmd (fun _ => 4)
      (fun rq _ => fld rq.payload 0 1 < 136 ∧ fld rq.payload 1 1 = 1)
      m0 (rqOf 4 [(0, 1, 135), (1, 1, 1)])
      dev) := by
  and_intros <;> decide +kernel

theorem test_PlaneCommandsAct_met :
    (Met planeIndexWriteCmd (fun rq => planeIndexWriteSize rq)
      (fun rq v => fld rq.payload 0 1 < 64 ∧ 1 ≤ fld rq.payload 2 2 ∧ fld rq.payload 2 2 ≤ 62
        ∧ Table.find? v.inForce.planes (fld rq.payload 0 1) = none)
      m0 (rqOf 1000 [(0, 1, 63), (2, 2, 62)])
      dev)
    ∧
    (Met planeStatusCmd (fun _ => 4)
      (fun rq _ => fld rq.payload 0 1 = 0 ∧ fld rq.payload 2 2 < 64)
      m0 (rqOf 4 [(0, 1, 0), (2, 2, 63)])
      dev)
    ∧
    (Met planeStatusCmd (fun _ => 4)
      (fun rq _ => fld rq.payload 0 1 = 1 ∧ fld rq.payload 2 2 < 16)
      m0 (rqOf 4 [(0, 1, 1), (2, 2, 15)])
      dev)
    ∧
    (Met planeRetryCmd (fun _ => 4)
      (fun rq v => fld rq.payload 0 1 < 64 ∧ (v.plane (fld rq.payload 0 1)).halted ≠ none)
      m0 (rqOf 4 [(0, 1, 63)])
      { dev with planes := [(63, { halted := some 0 })] })
    ∧
    (Met planeRetryCmd (fun _ => 4)
      (fun rq v => fld rq.payload 0 1 < 64 ∧ (v.plane (fld rq.payload 0 1)).halted = none)
      m0 (rqOf 4 [(0, 1, 63)])
      dev)
    ∧
    (Met planeClearCmd (fun _ => 4)
      (fun rq _ => fld rq.payload 0 1 = 0 ∧ fld rq.payload 1 1 = 1 ∧ fld rq.payload 2 2 < 64)
      m0 (rqOf 4 [(0, 1, 0), (1, 1, 1), (2, 2, 63)])
      dev)
    ∧
    (Met planeClearCmd (fun _ => 4)
      (fun rq _ => fld rq.payload 0 1 = 1 ∧ fld rq.payload 1 1 = 1 ∧ fld rq.payload 2 2 < 16)
      m0 (rqOf 4 [(0, 1, 1), (1, 1, 1), (2, 2, 15)])
      dev) := by
  and_intros <;> decide +kernel

theorem test_PlaneCommandsAct_met_by_parts :
    (Met planeIndexWriteCmd (fun rq => planeIndexWriteSize rq)
      (fun rq v => fld rq.payload 0 1 < 64 ∧ 1 ≤ fld rq.payload 2 2 ∧ fld rq.payload 2 2 ≤ 62
        ∧ (match Table.find? v.inForce.planes (fld rq.payload 0 1) with
      | some r => fld rq.payload 4 4 + fld rq.payload 2 2 ≤ planeBlocks r
      | none => False))
      m0 (rqOf 1000 [(0, 1, 63), (2, 2, 62), (4, 4, 8388546)])
      { dev with base := { planes := [(63, planeBig)] } })
    ∧
    (Met planeIndexWriteCmd (fun rq => planeIndexWriteSize rq)
      (fun rq v => fld rq.payload 0 1 < 64 ∧ 1 ≤ fld rq.payload 2 2 ∧ fld rq.payload 2 2 ≤ 62
        ∧ (match Table.find? v.inForce.planes (fld rq.payload 0 1) with
      | some r => planeBlocks r < fld rq.payload 4 4 + fld rq.payload 2 2
      | none => False))
      m0 (rqOf 1000 [(0, 1, 63), (2, 2, 62), (4, 4, 8388547)])
      { dev with base := { planes := [(63, planeBig)] } }) :=
  ⟨
    ⟨by decide +kernel, by decide +kernel, by decide +kernel, by decide +kernel, (by split; (rename_i r h; obtain rfl : r = planeBig := Option.some.inj (h.symm.trans (by decide +kernel)); decide +kernel); (rename_i h; exact absurd h (by decide +kernel)))⟩,
    ⟨by decide +kernel, by decide +kernel, by decide +kernel, by decide +kernel, (by split; (rename_i r h; obtain rfl : r = planeBig := Option.some.inj (h.symm.trans (by decide +kernel)); decide +kernel); (rename_i h; exact absurd h (by decide +kernel)))⟩
  ⟩

theorem test_CodecAndCaneCommandsAct_met :
    (Met plaitSessionOpenCmd (fun _ => 8)
      (fun rq v => fld rq.payload 0 1 < 16 ∧ fld rq.payload 1 1 < 64
        ∧ (v.session (fld rq.payload 0 1)).state ≠ .closed)
      m0 (rqOf 8 [(0, 1, 15), (1, 1, 63)])
      { dev with plait := { sessions := [(15, { state := .opened })] } })
    ∧
    (Met plaitSessionOpenCmd (fun _ => 8)
      (fun rq v => fld rq.payload 0 1 < 16 ∧ fld rq.payload 1 1 < 64
        ∧ (v.session (fld rq.payload 0 1)).state = .closed ∧ Table.find? v.inForce.planes (fld rq.payload 1 1) = none)
      m0 (rqOf 8 [(0, 1, 15), (1, 1, 63)])
      dev)
    ∧
    (Met plaitSessionEndCmd (fun _ => 4)
      (fun rq v => fld rq.payload 0 1 < 16 ∧ v.logRefuses = false
        ∧ (v.session (fld rq.payload 0 1)).state ≠ .closed ∧ (v.session (fld rq.payload 0 1)).port = none)
      m0 (rqOf 4 [(0, 1, 15)])
      { dev with plait := { sessions := [(15, { state := .opened })] } })
    ∧
    (Met plaitSessionEndCmd (fun _ => 4)
      (fun rq v => fld rq.payload 0 1 < 16 ∧ (v.session (fld rq.payload 0 1)).state = .closed)
      m0 (rqOf 4 [(0, 1, 15)])
      dev)
    ∧
    (Met plaitSessionEndCmd (fun _ => 4)
      (fun rq v => fld rq.payload 0 1 < 16 ∧ (v.session (fld rq.payload 0 1)).state ≠ .closed
        ∧ (v.session (fld rq.payload 0 1)).port ≠ none)
      m0 (rqOf 4 [(0, 1, 15)])
      { dev with plait := { sessions := [(15, { state := .opened, port := some 0 })] } })
    ∧
    (Met plaitClearCmd (fun _ => 4)
      (fun rq _ => fld rq.payload 0 1 = 1)
      m0 (rqOf 4 [(0, 1, 1)])
      dev)
    ∧
    (Met caneRetrainCmd (fun _ => 4)
      (fun rq v => fld rq.payload 0 1 < 32 ∧ v.logRefuses = false ∧ (v.port (fld rq.payload 0 1)).state = .off)
      m0 (rqOf 4 [(0, 1, 31)])
      { dev with ports := [(31, { state := .off })] })
    ∧
    (Met caneRetrainCmd (fun _ => 4)
      (fun rq v => fld rq.payload 0 1 < 32 ∧ v.logRefuses = false ∧ (v.port (fld rq.payload 0 1)).state ≠ .off
        ∧ v.portInUse (fld rq.payload 0 1) = true ∧ (v.port (fld rq.payload 0 1)).state = .up
        ∧ ((v.logOpen { origin := .mbx rq.mbx.val, cls := Cls.canePort, obj := fld rq.payload 0 1 }).losePort (fld rq.payload 0 1)).linkRuns = true)
      m0 (rqOf 4 [(0, 1, 31)])
      { dev with base := { heads := [(0, { bar := 15, port := 31 })], tgEn := [(15, true)] }, ports := [(31, { state := .up })] })
    ∧
    (Met caneRetrainCmd (fun _ => 4)
      (fun rq v => fld rq.payload 0 1 < 32 ∧ v.logRefuses = false ∧ (v.port (fld rq.payload 0 1)).state ≠ .off
        ∧ (v.port (fld rq.payload 0 1)).state ≠ .up
        ∧ ((((v.logOpen { origin := .mbx rq.mbx.val, cls := Cls.canePort, obj := fld rq.payload 0 1 }).setPort (fld rq.payload 0 1) { dropTraffic (v.port (fld rq.payload 0 1)) with
      downReason := if (v.port (fld rq.payload 0 1)).state = .up then 0 else (v.port (fld rq.payload 0 1)).downReason }).forgetAwaits (fld rq.payload 0 1)).enterPort (fld rq.payload 0 1) .down 0).linkRuns = true)
      m0 (rqOf 4 [(0, 1, 31)])
      dev)
    ∧
    (Met caneClearCmd (fun _ => 4)
      (fun rq _ => fld rq.payload 0 1 < 32 ∧ fld rq.payload 1 1 = 1)
      m0 (rqOf 4 [(0, 1, 31), (1, 1, 1)])
      dev) := by
  and_intros <;> decide +kernel

theorem test_CodecAndCaneCommandsAct_met_by_parts :
    (Met plaitSessionOpenCmd (fun _ => 8)
      (fun rq v => fld rq.payload 0 1 < 16 ∧ fld rq.payload 1 1 < 64
        ∧ (v.session (fld rq.payload 0 1)).state = .closed
        ∧ (match Table.find? v.inForce.planes (fld rq.payload 1 1) with
      | some r => fld rq.payload 4 4 < planeRows r
      | none => False))
      m0 (rqOf 8 [(0, 1, 15), (1, 1, 63), (4, 4, 262143)])
      { dev with base := { planes := [(63, planeBig)] } })
    ∧
    (Met plaitSessionOpenCmd (fun _ => 8)
      (fun rq v => fld rq.payload 0 1 < 16 ∧ fld rq.payload 1 1 < 64
        ∧ (v.session (fld rq.payload 0 1)).state = .closed
        ∧ (match Table.find? v.inForce.planes (fld rq.payload 1 1) with
      | some r => planeRows r ≤ fld rq.payload 4 4
      | none => False))
      m0 (rqOf 8 [(0, 1, 15), (1, 1, 63), (4, 4, 262144)])
      { dev with base := { planes := [(63, planeBig)] } })
    ∧
    (MetAccepts plaitVerifyCmd (fun _ => 12)
      (fun rq v => fld rq.payload 0 1 < 64 ∧ 1 ≤ fld rq.payload 8 4
        ∧ (match Table.find? v.inForce.planes (fld rq.payload 0 1) with
      | some r => fld rq.payload 4 4 + fld rq.payload 8 4 ≤ planeBlocks r
      | none => False))
      m0 (rqOf 12 [(0, 1, 63), (4, 4, 8388607), (8, 4, 1)])
      { dev with base := { planes := [(63, planeBig)] } })
    ∧
    (Met plaitVerifyCmd (fun _ => 12)
      (fun rq v => fld rq.payload 0 1 < 64 ∧ 1 ≤ fld rq.payload 8 4
        ∧ (match Table.find? v.inForce.planes (fld rq.payload 0 1) with
      | some r => planeBlocks r < fld rq.payload 4 4 + fld rq.payload 8 4
      | none => False))
      m0 (rqOf 12 [(0, 1, 63), (4, 4, 8388608), (8, 4, 1)])
      { dev with base := { planes := [(63, planeBig)] } })
    ∧
    (MetAccepts plaitDecodeCmd (fun _ => 16)
      (fun rq v => fld rq.payload 0 1 < 64 ∧ (match Table.find? v.inForce.planes (fld rq.payload 0 1) with
      | some r => fld rq.payload 4 4 + 1 ≤ planeBlocks r
        ∧ destOk v.inForce (fld rq.payload 8 8) (blockBytes r (fld rq.payload 4 4)) = true
      | none => False))
      m0 (rqOf 16 [(0, 1, 63), (4, 4, 0), (8, 8, 131072)])
      { dev with base := { planes := [(63, plane0)] } })
    ∧
    (Met plaitDecodeCmd (fun _ => 16)
      (fun rq v => fld rq.payload 0 1 < 64 ∧ (match Table.find? v.inForce.planes (fld rq.payload 0 1) with
      | some r => fld rq.payload 4 4 + 1 ≤ planeBlocks r
        ∧ destOk v.inForce (fld rq.payload 8 8) (blockBytes r (fld rq.payload 4 4)) = false
      | none => False))
      m0 (rqOf 16 [(0, 1, 63), (4, 4, 0), (8, 8, 0)])
      { dev with base := { planes := [(63, plane0)] } }) :=
  ⟨
    ⟨by decide +kernel, by decide +kernel, by decide +kernel, by decide +kernel, (by split; (rename_i r h; obtain rfl : r = planeBig := Option.some.inj (h.symm.trans (by decide +kernel)); decide +kernel); (rename_i h; exact absurd h (by decide +kernel)))⟩,
    ⟨by decide +kernel, by decide +kernel, by decide +kernel, by decide +kernel, (by split; (rename_i r h; obtain rfl : r = planeBig := Option.some.inj (h.symm.trans (by decide +kernel)); decide +kernel); (rename_i h; exact absurd h (by decide +kernel)))⟩,
    ⟨⟨by decide +kernel, by decide +kernel, by decide +kernel, (by split; (rename_i r h; obtain rfl : r = planeBig := Option.some.inj (h.symm.trans (by decide +kernel)); decide +kernel); (rename_i h; exact absurd h (by decide +kernel)))⟩, by decide +kernel⟩,
    ⟨by decide +kernel, by decide +kernel, by decide +kernel, (by split; (rename_i r h; obtain rfl : r = planeBig := Option.some.inj (h.symm.trans (by decide +kernel)); decide +kernel); (rename_i h; exact absurd h (by decide +kernel)))⟩,
    ⟨⟨by decide +kernel, by decide +kernel, (by split; (rename_i r h; obtain rfl : r = plane0 := Option.some.inj (h.symm.trans (by decide +kernel)); decide +kernel); (rename_i h; exact absurd h (by decide +kernel)))⟩, by decide +kernel⟩,
    ⟨by decide +kernel, by decide +kernel, (by split; (rename_i r h; obtain rfl : r = plane0 := Option.some.inj (h.symm.trans (by decide +kernel)); decide +kernel); (rename_i h; exact absurd h (by decide +kernel)))⟩
  ⟩

theorem test_HealthAndPairCommandsAct_met :
    (Met healthReportOutCmd (fun rq => nozzleListSize rq)
      (fun rq v => v.logRefuses = false ∧ 1 ≤ fld rq.payload 0 2 ∧ fld rq.payload 0 2 ≤ 250
        ∧ fld rq.payload 2 1 < 3 ∧ bit (fld rq.payload 3 1) 0 = true
        ∧ (∀ f ∈ (nozzleListFields rq.payload).drop 1, f.1 = true))
      m0 (rqOf 12 [(0, 2, 1), (2, 1, 2), (3, 1, 1), (8, 4, 2097151)])
      dev)
    ∧
    (Met healthReleaseOutCmd (fun rq => nozzleListSize rq)
      (fun rq _ => (∀ f ∈ plainListFields rq.payload, f.1 = true))
      m0 (rqOf 12 [(0, 2, 1), (8, 4, 2097151)])
      dev)
    ∧
    (Met healthClearCmd (fun _ => 4)
      (fun rq _ => fld rq.payload 0 1 = 0 ∧ (fld rq.payload 1 1 = 1 ∨ fld rq.payload 1 1 = 3)
        ∧ fld rq.payload 2 2 < 16)
      m0 (rqOf 4 [(0, 1, 0), (1, 1, 3), (2, 2, 15)])
      dev)
    ∧
    (Met healthClearCmd (fun _ => 4)
      (fun rq _ => fld rq.payload 0 1 = 0 ∧ fld rq.payload 1 1 = 2 ∧ fld rq.payload 2 2 < 16)
      m0 (rqOf 4 [(0, 1, 0), (1, 1, 2), (2, 2, 15)])
      dev)
    ∧
    (Met healthClearCmd (fun _ => 4)
      (fun rq _ => fld rq.payload 0 1 = 1 ∧ fld rq.payload 1 1 = 1 ∧ fld rq.payload 2 2 < 256)
      m0 (rqOf 4 [(0, 1, 1), (1, 1, 1), (2, 2, 255)])
      dev)
    ∧
    (Met healthClearCmd (fun _ => 4)
      (fun rq _ => fld rq.payload 0 1 = 1 ∧ fld rq.payload 1 1 = 2 ∧ fld rq.payload 2 2 < 256)
      m0 (rqOf 4 [(0, 1, 1), (1, 1, 2), (2, 2, 255)])
      dev)
    ∧
    (Met healthClearCmd (fun _ => 4)
      (fun rq _ => fld rq.payload 0 1 = 1 ∧ fld rq.payload 1 1 = 3 ∧ fld rq.payload 2 2 < 256)
      m0 (rqOf 4 [(0, 1, 1), (1, 1, 3), (2, 2, 255)])
      dev)
    ∧
    (Met pairConfigCmd (fun _ => 8)
      (fun rq v => v.logRefuses = false ∧ fld rq.payload 0 1 < 2
        ∧ (fld rq.payload 1 1 < 16 ∨ fld rq.payload 1 1 = 0xFF) ∧ fld rq.payload 2 1 < 2
        ∧ 16 ≤ fld rq.payload 3 1 ∧ v.inPair = false)
      m0 (rqOf 8 [(0, 1, 1), (2, 1, 1), (3, 1, 16)])
      dev)
    ∧
    (Met pairConfigCmd (fun _ => 8)
      (fun rq v => v.logRefuses = false ∧ fld rq.payload 0 1 < 2
        ∧ (fld rq.payload 1 1 < 16 ∨ fld rq.payload 1 1 = 0xFF) ∧ fld rq.payload 2 1 < 2
        ∧ 16 ≤ fld rq.payload 3 1 ∧ v.inPair = true)
      m0 (rqOf 8 [(0, 1, 1), (2, 1, 1), (3, 1, 16)])
      { dev with pair := { state := .paired } })
    ∧
    (Met pairPromoteCmd (fun _ => 0)
      (fun _ v => v.logRefuses = false ∧ v.acting = false ∧ v.hbPresent = false)
      m0 (rqOf 0 [])
      { dev with pair := { unitS := true } })
    ∧
    (Met pairPromoteCmd (fun _ => 0)
      (fun _ v => v.acting = true)
      m0 (rqOf 0 [])
      dev)
    ∧
    (Met pairPromoteCmd (fun _ => 0)
      (fun _ v => v.acting = false ∧ v.hbPresent = true)
      m0 (rqOf 0 [])
      { dev with pair := { unitS := true, state := .withdrawn } })
    ∧
    (MetAccepts pairResyncCmd (fun _ => 0)
      (fun _ v => v.logRefuses = false ∧ v.pair.unitS = true ∧ v.pair.promoted = false
        ∧ (v.pair.state = .paired ∨ v.pair.state = .withdrawn))
      m0 (rqOf 0 [])
      { dev with pair := { unitS := true, state := .withdrawn, lanes := 1 } })
    ∧
    (Met pairResyncCmd (fun _ => 0)
      (fun _ v => (v.pair.unitS = false ∨ v.pair.promoted = true ∨ v.pair.state ≠ .paired
        ∧ v.pair.state ≠ .withdrawn))
      m0 (rqOf 0 [])
      dev)
    ∧
    (Met pairUnpairCmd (fun _ => 0)
      (fun _ v => v.logRefuses = false ∧ v.pairRuns = false)
      m0 (rqOf 0 [])
      dev)
    ∧
    (Met pairUnpairCmd (fun _ => 0)
      (fun _ v => v.logRefuses = false ∧ v.pairRuns = true)
      m0 (rqOf 0 [])
      { dev with pair := { state := .withdrawn } })
    ∧
    (Met pairRejoinCmd (fun _ => 0)
      (fun _ v => v.logRefuses = false ∧ v.pair.noRetrain = false ∧ v.pair.state ≠ .incompatible)
      m0 (rqOf 0 [])
      { dev with pair := { noRetrain := false } })
    ∧
    (Met pairRejoinCmd (fun _ => 0)
      (fun _ v => v.logRefuses = false ∧ v.pair.noRetrain = true ∧ v.pair.state ≠ .incompatible
        ∧ v.pair.state ≠ .unpaired)
      m0 (rqOf 0 [])
      { dev with pair := { state := .withdrawn, noRetrain := true } })
    ∧
    (Met pairRejoinCmd (fun _ => 0)
      (fun _ v => v.logRefuses = false ∧ v.pair.noRetrain = true ∧ v.pair.state = .unpaired)
      m0 (rqOf 0 [])
      { dev with pair := { noRetrain := true, state := .unpaired } })
    ∧
    (Met pairRejoinCmd (fun _ => 0)
      (fun _ v => v.logRefuses = false ∧ v.pair.state = .incompatible)
      m0 (rqOf 0 [])
      { dev with pair := { state := .incompatible } }) := by
  and_intros <;> decide +kernel

theorem test_MemoryCommandsAct_met :
    (Met memStakeHandoverCmd (fun _ => 16)
      (fun rq v => (∀ f ∈ handoverFields rq.payload, f.1 = true) ∧ v.logRefuses = false ∧ fld rq.payload 0 1 = 6
        ∧ (((v.mem.stakes.get {} (fld rq.payload 0 1)).owner = some rq.mbx.val) ∨ ((v.mem.stakes.get {} (fld rq.payload 0 1)).owner = none ∧ (if fld rq.payload 1 1 = 0x0F then some (fld rq.payload 4 4) else none) = some rq.mbx.val)) ∧ BitVec.ofNat 32 (fld rq.payload 8 4) = (v.mem.stakes.get {} (fld rq.payload 0 1)).token ∧ ((v.mem.stakes.get {} (fld rq.payload 0 1)).owner = none → v.bist.demand = none) ∧ v.stakeInFlight (v.mem.stakes.get {} (fld rq.payload 0 1)).owner (fld rq.payload 0 1) = false ∧ (bit (fld rq.payload 2 1) 0 = true ∨ (v.mem.stakes.get {} (fld rq.payload 0 1)).owner = none ∨ (if fld rq.payload 1 1 = 0x0F then some (fld rq.payload 4 4) else none) = none))
      m0 (rqOf 16 [(0, 1, 6), (1, 1, 15), (4, 4, 15)])
      dev)
    ∧
    (Met memStakeHandoverCmd (fun _ => 16)
      (fun rq v => (∀ f ∈ handoverFields rq.payload, f.1 = true) ∧ v.logRefuses = false ∧ fld rq.payload 0 1 = 6
        ∧ (((v.mem.stakes.get {} (fld rq.payload 0 1)).owner = some rq.mbx.val) ∨ ((v.mem.stakes.get {} (fld rq.payload 0 1)).owner = none ∧ (if fld rq.payload 1 1 = 0x0F then some (fld rq.payload 4 4) else none) = some rq.mbx.val)) ∧ BitVec.ofNat 32 (fld rq.payload 8 4) = (v.mem.stakes.get {} (fld rq.payload 0 1)).token ∧ v.stakeInFlight (v.mem.stakes.get {} (fld rq.payload 0 1)).owner (fld rq.payload 0 1) = false ∧ ¬ (bit (fld rq.payload 2 1) 0 = true ∨ (v.mem.stakes.get {} (fld rq.payload 0 1)).owner = none ∨ (if fld rq.payload 1 1 = 0x0F then some (fld rq.payload 4 4) else none) = none))
      m0 (rqOf 16 [(0, 1, 6), (1, 1, 15), (4, 4, 14)])
      { dev with mem := { stakes := [(6, { owner := some 15 })] } })
    ∧
    (Met memStakeHandoverCmd (fun _ => 16)
      (fun rq _ => (∀ f ∈ handoverFields rq.payload, f.1 = true) ∧ fld rq.payload 0 1 ≠ 6)
      m0 (rqOf 16 [(0, 1, 7), (1, 1, 15), (4, 4, 15)])
      dev)
    ∧
    (Met memStakeHandoverCmd (fun _ => 16)
      (fun rq v => (∀ f ∈ handoverFields rq.payload, f.1 = true) ∧ fld rq.payload 0 1 = 6
        ∧ ¬ (((v.mem.stakes.get {} (fld rq.payload 0 1)).owner = some rq.mbx.val) ∨ ((v.mem.stakes.get {} (fld rq.payload 0 1)).owner = none ∧ (if fld rq.payload 1 1 = 0x0F then some (fld rq.payload 4 4) else none) = some rq.mbx.val)))
      m0 (rqOf 16 [(0, 1, 6), (1, 1, 15), (4, 4, 15)])
      { dev with mem := { stakes := [(6, { owner := some 14 })] } })
    ∧
    (Met memStakeHandoverCmd (fun _ => 16)
      (fun rq v => (∀ f ∈ handoverFields rq.payload, f.1 = true) ∧ fld rq.payload 0 1 = 6
        ∧ (((v.mem.stakes.get {} (fld rq.payload 0 1)).owner = some rq.mbx.val) ∨ ((v.mem.stakes.get {} (fld rq.payload 0 1)).owner = none ∧ (if fld rq.payload 1 1 = 0x0F then some (fld rq.payload 4 4) else none) = some rq.mbx.val)) ∧ ¬ BitVec.ofNat 32 (fld rq.payload 8 4) = (v.mem.stakes.get {} (fld rq.payload 0 1)).token)
      m0 (rqOf 16 [(0, 1, 6), (1, 1, 15), (4, 4, 15), (8, 4, 1)])
      dev)
    ∧
    (Met memStakeHandoverCmd (fun _ => 16)
      (fun rq v => (∀ f ∈ handoverFields rq.payload, f.1 = true) ∧ fld rq.payload 0 1 = 6
        ∧ (((v.mem.stakes.get {} (fld rq.payload 0 1)).owner = some rq.mbx.val) ∨ ((v.mem.stakes.get {} (fld rq.payload 0 1)).owner = none ∧ (if fld rq.payload 1 1 = 0x0F then some (fld rq.payload 4 4) else none) = some rq.mbx.val)) ∧ BitVec.ofNat 32 (fld rq.payload 8 4) = (v.mem.stakes.get {} (fld rq.payload 0 1)).token ∧ v.stakeInFlight (v.mem.stakes.get {} (fld rq.payload 0 1)).owner (fld rq.payload 0 1) = true)
      m0 (rqOf 16 [(0, 1, 6), (1, 1, 15), (4, 4, 15)])
      { dev with mem := { stakes := [(6, { owner := some 15 })] }, dma := [(31, { state := .running, owner := some 15, gather := { cur := some { address := 0x2600000, length := 1, end_ := true, link := false, ring := false, irq := false, space := 3, pos := 0 } } })] })
    ∧
    (MetAccepts memBankRetireCmd (fun _ => 4)
      (fun rq v => fld rq.payload 0 1 < 32 ∧ v.logRefuses = false ∧ v.bankGoing (fld rq.payload 0 1) = false
        ∧ v.banksGoing < 4)
      m0 (rqOf 4 [(0, 1, 31)])
      dev)
    ∧
    (Met memBankRetireCmd (fun _ => 4)
      (fun rq v => fld rq.payload 0 1 < 32 ∧ v.bankGoing (fld rq.payload 0 1) = true)
      m0 (rqOf 4 [(0, 1, 31)])
      { dev with mem := { retired := [31] } })
    ∧
    (Met memBankRetireCmd (fun _ => 4)
      (fun rq v => fld rq.payload 0 1 < 32 ∧ v.bankGoing (fld rq.payload 0 1) = false ∧ 4 ≤ v.banksGoing)
      m0 (rqOf 4 [(0, 1, 31)])
      { dev with mem := { retired := [0, 1, 2, 3] } })
    ∧
    (MetAccepts memHbmRepairCmd (fun _ => 0)
      (fun _ v => v.logRefuses = false ∧ v.mem.rowsPending ≠ [] ∧ v.lockedNow 2 = false
        ∧ v.mem.rowsPending.length ≤ (blankSlots v.otp.array).length)
      m0 (rqOf 0 [])
      { dev with mem := { rowsPending := [⟨0, 0, 0⟩] } })
    ∧
    (Met memHbmRepairCmd (fun _ => 0)
      (fun _ v => v.mem.rowsPending = [])
      m0 (rqOf 0 [])
      { dev with mem := { rowsPending := [] } })
    ∧
    (Met memHbmRepairCmd (fun _ => 0)
      (fun _ v => v.mem.rowsPending ≠ []
        ∧ (v.lockedNow 2 = true ∨ (blankSlots v.otp.array).length < v.mem.rowsPending.length))
      m0 (rqOf 0 [])
      { dev with mem := { rowsPending := [⟨0, 0, 0⟩] }, otp := { lc := .mfg, array := [(0x1FF, { low := 4 })] } })
    ∧
    (Met memClearCmd (fun _ => 4)
      (fun rq _ => fld rq.payload 0 1 = 1)
      m0 (rqOf 4 [(0, 1, 1)])
      dev) := by
  and_intros <;> decide +kernel

theorem test_DmaCommandsAct_met :
    (Met dmaOpenCmd (fun _ => 8)
      (fun rq v => fld rq.payload 0 1 < 32 ∧ fld rq.payload 1 1 < 4 ∧ fld rq.payload 4 4 ≤ 16777216
        ∧ v.logRefuses = false
        ∧ ((v.chan32 (fld rq.payload 0 1)).state = .closed ∨ (v.chan32 (fld rq.payload 0 1)).state = .idle
        ∧ (v.chan32 (fld rq.payload 0 1)).owner = some rq.mbx.val))
      m0 (rqOf 8 [(0, 1, 31), (1, 1, 3), (4, 4, 16777216)])
      { dev with dma := [(31, { state := .closed })] })
    ∧
    (Met dmaOpenCmd (fun _ => 8)
      (fun rq v => fld rq.payload 0 1 < 32 ∧ fld rq.payload 1 1 < 4 ∧ fld rq.payload 4 4 ≤ 16777216
        ∧ (v.chan32 (fld rq.payload 0 1)).state ≠ .closed ∧ (v.chan32 (fld rq.payload 0 1)).owner ≠ some rq.mbx.val)
      m0 (rqOf 8 [(0, 1, 31), (1, 1, 3), (4, 4, 16777216)])
      { dev with dma := [(31, { state := .running, owner := some 14 })] })
    ∧
    (Met dmaOpenCmd (fun _ => 8)
      (fun rq v => fld rq.payload 0 1 < 32 ∧ fld rq.payload 1 1 < 4 ∧ fld rq.payload 4 4 ≤ 16777216
        ∧ (v.chan32 (fld rq.payload 0 1)).state ≠ .closed ∧ (v.chan32 (fld rq.payload 0 1)).state ≠ .idle
        ∧ (v.chan32 (fld rq.payload 0 1)).owner = some rq.mbx.val)
      m0 (rqOf 8 [(0, 1, 31), (1, 1, 3), (4, 4, 16777216)])
      { dev with dma := [(31, { state := .running, owner := some 15 })] })
    ∧
    (Met dmaCloseCmd (fun _ => 4)
      (fun rq v => fld rq.payload 0 1 < 32 ∧ (v.chan32 (fld rq.payload 0 1)).owner = some rq.mbx.val
        ∧ v.logRefuses = false ∧ (v.chan32 (fld rq.payload 0 1)).state = .idle)
      m0 (rqOf 4 [(0, 1, 31)])
      { dev with dma := [(31, { state := .idle, owner := some 15 })] })
    ∧
    (Met dmaStartCmd (fun _ => 20)
      (fun rq v => fld rq.payload 0 1 < 32 ∧ fld rq.payload 1 1 < 4 ∧ fld rq.payload 2 1 < 4
        ∧ fld rq.payload 4 8 < 2 ^ 48 ∧ fld rq.payload 12 8 < 2 ^ 48
        ∧ (v.chan32 (fld rq.payload 0 1)).owner = some rq.mbx.val ∧ v.logRefuses = false
        ∧ (v.chan32 (fld rq.payload 0 1)).state = .idle ∧ fld rq.payload 4 8 % 16 = 0
        ∧ fld rq.payload 12 8 % 16 = 0
        ∧ v.listSpaceOk (v.chan32 (fld rq.payload 0 1)).owner (fld rq.payload 1 1) = true
        ∧ v.listSpaceOk (v.chan32 (fld rq.payload 0 1)).owner (fld rq.payload 2 1) = true ∧ v.dmaRuns = false)
      m0 (rqOf 20 [(0, 1, 31), (1, 1, 0), (2, 1, 0), (4, 8, 0xfffffffffff0), (12, 8, 0xfffffffffff0)])
      { dev with dma := [(31, { state := .idle, owner := some 15 })], sys := .upsett })
    ∧
    (Met dmaStartCmd (fun _ => 20)
      (fun rq v => fld rq.payload 0 1 < 32 ∧ fld rq.payload 1 1 < 4 ∧ fld rq.payload 2 1 < 4
        ∧ fld rq.payload 4 8 < 2 ^ 48 ∧ fld rq.payload 12 8 < 2 ^ 48
        ∧ (v.chan32 (fld rq.payload 0 1)).owner = some rq.mbx.val ∧ v.logRefuses = false
        ∧ (v.chan32 (fld rq.payload 0 1)).state = .idle ∧ fld rq.payload 4 8 % 16 = 0
        ∧ fld rq.payload 12 8 % 16 = 0
        ∧ v.listSpaceOk (v.chan32 (fld rq.payload 0 1)).owner (fld rq.payload 1 1) = true
        ∧ v.listSpaceOk (v.chan32 (fld rq.payload 0 1)).owner (fld rq.payload 2 1) = true ∧ v.dmaRuns = true)
      m0 (rqOf 20 [(0, 1, 31), (1, 1, 0), (2, 1, 0), (4, 8, 0xfffffffffff0), (12, 8, 0xfffffffffff0)])
      { dev with dma := [(31, { state := .idle, owner := some 15 })] })
    ∧
    (Met dmaStartCmd (fun _ => 20)
      (fun rq v => fld rq.payload 0 1 < 32 ∧ fld rq.payload 1 1 < 4 ∧ fld rq.payload 2 1 < 4
        ∧ fld rq.payload 4 8 < 2 ^ 48 ∧ fld rq.payload 12 8 < 2 ^ 48
        ∧ (v.chan32 (fld rq.payload 0 1)).owner = some rq.mbx.val ∧ (v.chan32 (fld rq.payload 0 1)).state = .idle
        ∧ (fld rq.payload 4 8 % 16 ≠ 0 ∨ fld rq.payload 12 8 % 16 ≠ 0 ∨ v.listSpaceOk (v.chan32 (fld rq.payload 0 1)).owner (fld rq.payload 1 1) = false ∨
      v.listSpaceOk (v.chan32 (fld rq.payload 0 1)).owner (fld rq.payload 2 1) = false))
      m0 (rqOf 20 [(0, 1, 31), (1, 1, 3), (2, 1, 3), (4, 8, 0xffffffffffff)])
      { dev with dma := [(31, { state := .idle, owner := some 15 })] })
    ∧
    (Met dmaResumeCmd (fun _ => 4)
      (fun rq v => fld rq.payload 0 1 < 32 ∧ (v.chan32 (fld rq.payload 0 1)).owner = some rq.mbx.val
        ∧ (v.chan32 (fld rq.payload 0 1)).state = .halted ∧ v.logRefuses = false
        ∧ (v.chan32 (fld rq.payload 0 1)).haltReason ≠ Rc.dmaLengthMismatch
        ∧ (v.chan32 (fld rq.payload 0 1)).haltReason ≠ Rc.loop)
      m0 (rqOf 4 [(0, 1, 31)])
      { dev with dma := [(31, { state := .halted, owner := some 15 })] })
    ∧
    (Met dmaResumeCmd (fun _ => 4)
      (fun rq v => fld rq.payload 0 1 < 32 ∧ (v.chan32 (fld rq.payload 0 1)).owner = some rq.mbx.val
        ∧ (v.chan32 (fld rq.payload 0 1)).state = .halted ∧ v.logRefuses = false
        ∧ (v.chan32 (fld rq.payload 0 1)).haltReason = Rc.loop)
      m0 (rqOf 4 [(0, 1, 31)])
      { dev with dma := [(31, { state := .halted, owner := some 15, haltReason := Rc.loop })] })
    ∧
    (Met dmaSkipCmd (fun _ => 4)
      (fun rq v => fld rq.payload 0 1 < 32 ∧ (v.chan32 (fld rq.payload 0 1)).owner = some rq.mbx.val
        ∧ (v.chan32 (fld rq.payload 0 1)).state = .halted ∧ v.logRefuses = false
        ∧ (v.chan32 (fld rq.payload 0 1)).haltReason = Rc.elementInvalid
        ∧ (v.chan32 (fld rq.payload 0 1)).failLink = false)
      m0 (rqOf 4 [(0, 1, 31)])
      { dev with dma := [(31, { state := .halted, owner := some 15, haltReason := Rc.elementInvalid })] })
    ∧
    (Met dmaSkipCmd (fun _ => 4)
      (fun rq v => fld rq.payload 0 1 < 32 ∧ (v.chan32 (fld rq.payload 0 1)).owner = some rq.mbx.val
        ∧ (v.chan32 (fld rq.payload 0 1)).state = .halted ∧ v.logRefuses = false
        ∧ (v.chan32 (fld rq.payload 0 1)).haltReason ≠ Rc.elementInvalid
        ∧ (v.chan32 (fld rq.payload 0 1)).haltReason ≠ Rc.loop
        ∧ (v.chan32 (fld rq.payload 0 1)).haltReason ≠ Rc.dmaLengthMismatch
        ∧ (v.chan32 (fld rq.payload 0 1)).failDirection ≠ 2)
      m0 (rqOf 4 [(0, 1, 31)])
      { dev with dma := [(31, { state := .halted, owner := some 15 })] })
    ∧
    (Met dmaAbortCmd (fun _ => 4)
      (fun rq v => fld rq.payload 0 1 < 32 ∧ (v.chan32 (fld rq.payload 0 1)).owner = some rq.mbx.val
        ∧ (v.chan32 (fld rq.payload 0 1)).state = .idle)
      m0 (rqOf 4 [(0, 1, 31)])
      { dev with dma := [(31, { state := .idle, owner := some 15 })] })
    ∧
    (Met dmaAbortCmd (fun _ => 4)
      (fun rq v => fld rq.payload 0 1 < 32 ∧ (v.chan32 (fld rq.payload 0 1)).owner = some rq.mbx.val
        ∧ (v.chan32 (fld rq.payload 0 1)).state ≠ .idle ∧ (v.chan32 (fld rq.payload 0 1)).state ≠ .closed)
      m0 (rqOf 4 [(0, 1, 31)])
      { dev with dma := [(31, { state := .running, owner := some 15 })] })
    ∧
    (Met dmaClearCmd (fun _ => 4)
      (fun rq v => fld rq.payload 0 1 < 32 ∧ (v.chan32 (fld rq.payload 0 1)).owner = some rq.mbx.val
        ∧ (v.chan32 (fld rq.payload 0 1)).state ≠ .closed ∧ fld rq.payload 1 1 = 1)
      m0 (rqOf 4 [(0, 1, 31), (1, 1, 1)])
      { dev with dma := [(31, { state := .running, owner := some 15 })] })
    ∧
    (Met dmaCloseCmd (fun _ => 4)
      (fun rq v => fld rq.payload 0 1 < 32 ∧ (v.chan32 (fld rq.payload 0 1)).state = .closed)
      m0 (rqOf 4 [(0, 1, 31)])
      { dev with dma := [(31, { state := .closed })] })
    ∧
    (Met dmaCloseCmd (fun _ => 4)
      (fun rq v => fld rq.payload 0 1 < 32 ∧ (v.chan32 (fld rq.payload 0 1)).state ≠ .closed
        ∧ (v.chan32 (fld rq.payload 0 1)).owner ≠ some rq.mbx.val)
      m0 (rqOf 4 [(0, 1, 31)])
      { dev with dma := [(31, { state := .running, owner := some 14 })] })
    ∧
    (Met dmaResumeCmd (fun _ => 4)
      (fun rq v => fld rq.payload 0 1 < 32 ∧ (v.chan32 (fld rq.payload 0 1)).state = .closed)
      m0 (rqOf 4 [(0, 1, 31)])
      { dev with dma := [(31, { state := .closed })] })
    ∧
    (Met dmaResumeCmd (fun _ => 4)
      (fun rq v => fld rq.payload 0 1 < 32 ∧ (v.chan32 (fld rq.payload 0 1)).state ≠ .closed
        ∧ (v.chan32 (fld rq.payload 0 1)).owner ≠ some rq.mbx.val)
      m0 (rqOf 4 [(0, 1, 31)])
      { dev with dma := [(31, { state := .running, owner := some 14 })] })
    ∧
    (Met dmaSkipCmd (fun _ => 4)
      (fun rq v => fld rq.payload 0 1 < 32 ∧ (v.chan32 (fld rq.payload 0 1)).state = .closed)
      m0 (rqOf 4 [(0, 1, 31)])
      { dev with dma := [(31, { state := .closed })] })
    ∧
    (Met dmaSkipCmd (fun _ => 4)
      (fun rq v => fld rq.payload 0 1 < 32 ∧ (v.chan32 (fld rq.payload 0 1)).state ≠ .closed
        ∧ (v.chan32 (fld rq.payload 0 1)).owner ≠ some rq.mbx.val)
      m0 (rqOf 4 [(0, 1, 31)])
      { dev with dma := [(31, { state := .running, owner := some 14 })] })
    ∧
    (Met dmaAbortCmd (fun _ => 4)
      (fun rq v => fld rq.payload 0 1 < 32 ∧ (v.chan32 (fld rq.payload 0 1)).state = .closed)
      m0 (rqOf 4 [(0, 1, 31)])
      { dev with dma := [(31, { state := .closed })] })
    ∧
    (Met dmaAbortCmd (fun _ => 4)
      (fun rq v => fld rq.payload 0 1 < 32 ∧ (v.chan32 (fld rq.payload 0 1)).state ≠ .closed
        ∧ (v.chan32 (fld rq.payload 0 1)).owner ≠ some rq.mbx.val)
      m0 (rqOf 4 [(0, 1, 31)])
      { dev with dma := [(31, { state := .running, owner := some 14 })] })
    ∧
    (Met dmaClearCmd (fun _ => 4)
      (fun rq v => fld rq.payload 0 1 < 32 ∧ (v.chan32 (fld rq.payload 0 1)).state = .closed)
      m0 (rqOf 4 [(0, 1, 31)])
      { dev with dma := [(31, { state := .closed })] })
    ∧
    (Met dmaClearCmd (fun _ => 4)
      (fun rq v => fld rq.payload 0 1 < 32 ∧ (v.chan32 (fld rq.payload 0 1)).state ≠ .closed
        ∧ (v.chan32 (fld rq.payload 0 1)).owner ≠ some rq.mbx.val)
      m0 (rqOf 4 [(0, 1, 31)])
      { dev with dma := [(31, { state := .running, owner := some 14 })] })
    ∧
    (Met dmaCloseCmd (fun _ => 4)
      (fun rq v => fld rq.payload 0 1 < 32 ∧ (v.chan32 (fld rq.payload 0 1)).owner = some rq.mbx.val
        ∧ (v.chan32 (fld rq.payload 0 1)).state ≠ .closed ∧ (v.chan32 (fld rq.payload 0 1)).state ≠ .idle)
      m0 (rqOf 4 [(0, 1, 31)])
      { dev with dma := [(31, { state := .running, owner := some 15 })] })
    ∧
    (Met dmaResumeCmd (fun _ => 4)
      (fun rq v => fld rq.payload 0 1 < 32 ∧ (v.chan32 (fld rq.payload 0 1)).owner = some rq.mbx.val
        ∧ (v.chan32 (fld rq.payload 0 1)).state ≠ .closed ∧ (v.chan32 (fld rq.payload 0 1)).state ≠ .halted)
      m0 (rqOf 4 [(0, 1, 31)])
      { dev with dma := [(31, { state := .running, owner := some 15 })] })
    ∧
    (Met dmaSkipCmd (fun _ => 4)
      (fun rq v => fld rq.payload 0 1 < 32 ∧ (v.chan32 (fld rq.payload 0 1)).owner = some rq.mbx.val
        ∧ (v.chan32 (fld rq.payload 0 1)).state ≠ .closed ∧ (v.chan32 (fld rq.payload 0 1)).state ≠ .halted)
      m0 (rqOf 4 [(0, 1, 31)])
      { dev with dma := [(31, { state := .running, owner := some 15 })] })
    ∧
    (Met dmaResumeCmd (fun _ => 4)
      (fun rq v => fld rq.payload 0 1 < 32 ∧ (v.chan32 (fld rq.payload 0 1)).owner = some rq.mbx.val
        ∧ (v.chan32 (fld rq.payload 0 1)).state = .halted
        ∧ (v.chan32 (fld rq.payload 0 1)).haltReason = Rc.dmaLengthMismatch)
      m0 (rqOf 4 [(0, 1, 31)])
      { dev with dma := [(31, { state := .halted, owner := some 15, haltReason := Rc.dmaLengthMismatch })] })
    ∧
    (Met dmaSkipCmd (fun _ => 4)
      (fun rq v => fld rq.payload 0 1 < 32 ∧ (v.chan32 (fld rq.payload 0 1)).owner = some rq.mbx.val
        ∧ (v.chan32 (fld rq.payload 0 1)).state = .halted
        ∧ ((v.chan32 (fld rq.payload 0 1)).haltReason = Rc.elementInvalid
        ∧ (v.chan32 (fld rq.payload 0 1)).failLink = true ∨ (v.chan32 (fld rq.payload 0 1)).haltReason = Rc.loop ∨ (v.chan32 (fld rq.payload 0 1)).haltReason = Rc.dmaLengthMismatch))
      m0 (rqOf 4 [(0, 1, 31)])
      { dev with dma := [(31, { state := .halted, owner := some 15, haltReason := Rc.elementInvalid, failLink := true })] }) := by
  and_intros <;> decide +kernel

theorem test_PowerAndCalibrationCommandsAct_met :
    (Met powerStatusCmd (fun _ => 0)
      (fun _ _ => True)
      m0 (rqOf 0 [])
      dev)
    ∧
    (Met powerSetStateCmd (fun _ => 4)
      (fun rq v => powerTarget (fld rq.payload 0 1) = some v.pwr)
      m0 (rqOf 4 [(0, 1, 1)])
      dev)
    ∧
    (Met powerSetStateCmd (fun _ => 4)
      (fun rq v => v.logRefuses = false ∧ fld rq.payload 0 1 = 1 ∧ v.pwr ≠ .ready)
      m0 (rqOf 4 [(0, 1, 1)])
      { dev with pwr := .doze })
    ∧
    (Met powerSetStateCmd (fun _ => 4)
      (fun rq _ => powerTarget (fld rq.payload 0 1) = none)
      m0 (rqOf 4 [])
      dev)
    ∧
    (Met powerRailReadCmd (fun _ => 4)
      (fun rq v => fld rq.payload 0 1 < 8 ∧ (v.railRec (fld rq.payload 0 1)).addr ≠ 0)
      m0 (rqOf 4 [(0, 1, 7)])
      { dev with otp := { lc := .mfg, regions := [(5, .valid)], shadow := [(0xE8, 0x21)] } })
    ∧
    (Met powerRailReadCmd (fun _ => 4)
      (fun rq v => fld rq.payload 0 1 < 8 ∧ (v.railRec (fld rq.payload 0 1)).addr = 0)
      m0 (rqOf 4 [(0, 1, 7)])
      dev)
    ∧
    (MetAccepts powerImageWriteCmd (fun rq => powerImageWriteSize rq)
      (fun rq v => fld rq.payload 0 1 < 2 ∧ 1 ≤ fld rq.payload 2 2 ∧ fld rq.payload 2 2 ≤ 1000
        ∧ (fld rq.payload 0 1 = 1 → v.host.fwSlotB = false) ∧ (fld rq.payload 0 1 = 0 → v.host.fwSlotB = true)
        ∧ fld rq.payload 4 4 + fld rq.payload 2 2 ≤ 0x400000)
      m0 (rqOf 1008 [(0, 1, 1), (2, 2, 1000), (4, 4, 4193304)])
      dev)
    ∧
    (Met powerImageWriteCmd (fun rq => powerImageWriteSize rq)
      (fun rq v => fld rq.payload 0 1 < 2 ∧ 1 ≤ fld rq.payload 2 2 ∧ fld rq.payload 2 2 ≤ 1000
        ∧ ((fld rq.payload 0 1 = 1) ↔ v.host.fwSlotB = true))
      m0 (rqOf 1008 [(0, 1, 0), (2, 2, 1000)])
      dev)
    ∧
    (Met powerImageWriteCmd (fun rq => powerImageWriteSize rq)
      (fun rq v => fld rq.payload 0 1 < 2 ∧ 1 ≤ fld rq.payload 2 2 ∧ fld rq.payload 2 2 ≤ 1000
        ∧ (fld rq.payload 0 1 = 1 → v.host.fwSlotB = false) ∧ (fld rq.payload 0 1 = 0 → v.host.fwSlotB = true)
        ∧ 0x400000 < fld rq.payload 4 4 + fld rq.payload 2 2)
      m0 (rqOf 1008 [(0, 1, 1), (2, 2, 1000), (4, 4, 4193305)])
      dev)
    ∧
    (Met powerThermClearCmd (fun _ => 4)
      (fun rq _ => fld rq.payload 0 1 = 1)
      m0 (rqOf 4 [(0, 1, 1)])
      dev)
    ∧
    (MetAccepts calRunCmd (fun _ => 4)
      (fun rq v => (∃ k ∈ calTargets, bit (fld rq.payload 0 2) k = true) ∧ v.logRefuses = false
        ∧ v.calRefusal (fld rq.payload 0 2) = none)
      m0 (rqOf 4 [(0, 2, 65281)])
      dev)
    ∧
    (MetAccepts calStoreCmd (fun _ => 0)
      (fun _ _ => True)
      m0 (rqOf 0 [])
      dev) := by
  and_intros <;> decide +kernel

theorem test_PowerAndCalibrationCommandsAct_met_by_parts :
    (Met powerSetStateCmd (fun _ => 4)
      (fun rq v => (match powerTarget (fld rq.payload 0 1) with
      | some t => t ≠ .ready ∧ t ≠ v.pwr
      | none => False) ∧ v.powerBusy = false)
      m0 (rqOf 4 [(0, 1, 4)])
      dev)
    ∧
    (Met powerSetStateCmd (fun _ => 4)
      (fun rq v => (match powerTarget (fld rq.payload 0 1) with
      | some t => t ≠ .ready ∧ t ≠ v.pwr
      | none => False) ∧ v.powerBusy = true)
      m0 (rqOf 4 [(0, 1, 4)])
      { dev with host := { bootCount := 1, checkBusy := true } }) :=
  ⟨
    ⟨by decide +kernel, (by split; (rename_i r h; obtain rfl : r = PwrState.offAon := Option.some.inj (h.symm.trans (by decide +kernel)); decide +kernel); (rename_i h; exact absurd h (by decide +kernel))), by decide +kernel⟩,
    ⟨by decide +kernel, (by split; (rename_i r h; obtain rfl : r = PwrState.offAon := Option.some.inj (h.symm.trans (by decide +kernel)); decide +kernel); (rename_i h; exact absurd h (by decide +kernel))), by decide +kernel⟩
  ⟩

theorem test_OtpCommandsAct_met :
    (MetAccepts otpProgramCmd (fun _ => 8)
      (fun rq v => fld rq.payload 0 2 < 512 ∧ fld rq.payload 2 1 < 2 ∧ 5 ≤ fld rq.payload 3 1
        ∧ fld rq.payload 3 1 ≤ 20 ∧ (BitVec.ofNat 32 (fld rq.payload 4 4)) ≠ 0 ∧ v.logRefuses = false
        ∧ programPermitted v.otp.lc (fld rq.payload 0 2) (BitVec.ofNat 32 (fld rq.payload 4 4)) = true
        ∧ isLcWord (fld rq.payload 0 2) = false ∧ (match regionOf (fld rq.payload 0 2) with
      | some i => v.lockedNow i
      | none => false) = false
        ∧ ((fld rq.payload 0 2) == lockWord && (List.range 8).any (fun i => ((BitVec.ofNat 32 (fld rq.payload 4 4))).getLsbD i && !regionGood (fun i => (otpAt v.otp.array i).normal) i)) = false ∧ v.otpTempOk = true)
      m0 (rqOf 8 [(0, 2, 511), (2, 1, 1), (3, 1, 20), (4, 4, 256)])
      dev)
    ∧
    (Met otpProgramCmd (fun _ => 8)
      (fun rq v => programPermitted v.otp.lc (fld rq.payload 0 2) (BitVec.ofNat 32 (fld rq.payload 4 4)) = false)
      m0 (rqOf 8 [(4, 4, 1)])
      { dev with otp := { lc := .field } })
    ∧
    (Met otpProgramCmd (fun _ => 8)
      (fun rq v => fld rq.payload 0 2 < 512 ∧ fld rq.payload 2 1 < 2 ∧ 5 ≤ fld rq.payload 3 1
        ∧ fld rq.payload 3 1 ≤ 20 ∧ (BitVec.ofNat 32 (fld rq.payload 4 4)) ≠ 0
        ∧ programPermitted v.otp.lc (fld rq.payload 0 2) (BitVec.ofNat 32 (fld rq.payload 4 4)) = true
        ∧ isLcWord (fld rq.payload 0 2) = true)
      m0 (rqOf 8 [(0, 2, 223), (2, 1, 1), (3, 1, 20), (4, 4, 1)])
      dev)
    ∧
    (Met otpProgramCmd (fun _ => 8)
      (fun rq v => fld rq.payload 0 2 < 512 ∧ fld rq.payload 2 1 < 2 ∧ 5 ≤ fld rq.payload 3 1
        ∧ fld rq.payload 3 1 ≤ 20 ∧ (BitVec.ofNat 32 (fld rq.payload 4 4)) ≠ 0
        ∧ programPermitted v.otp.lc (fld rq.payload 0 2) (BitVec.ofNat 32 (fld rq.payload 4 4)) = true
        ∧ isLcWord (fld rq.payload 0 2) = false ∧ (match regionOf (fld rq.payload 0 2) with
      | some i => v.lockedNow i
      | none => false) = true)
      m0 (rqOf 8 [(0, 2, 15), (2, 1, 1), (3, 1, 20), (4, 4, 1)])
      { dev with otp := { lc := .mfg, array := [(0x1FF, { low := 1 })] } })
    ∧
    (Met otpProgramCmd (fun _ => 8)
      (fun rq v => fld rq.payload 0 2 < 512 ∧ fld rq.payload 2 1 < 2 ∧ 5 ≤ fld rq.payload 3 1
        ∧ fld rq.payload 3 1 ≤ 20 ∧ (BitVec.ofNat 32 (fld rq.payload 4 4)) ≠ 0
        ∧ programPermitted v.otp.lc (fld rq.payload 0 2) (BitVec.ofNat 32 (fld rq.payload 4 4)) = true
        ∧ isLcWord (fld rq.payload 0 2) = false ∧ (match regionOf (fld rq.payload 0 2) with
      | some i => v.lockedNow i
      | none => false) = false
        ∧ ((fld rq.payload 0 2) == lockWord && (List.range 8).any (fun i => ((BitVec.ofNat 32 (fld rq.payload 4 4))).getLsbD i && !regionGood (fun i => (otpAt v.otp.array i).normal) i)) = true)
      m0 (rqOf 8 [(0, 2, 511), (2, 1, 1), (3, 1, 20), (4, 4, 1)])
      dev)
    ∧
    (Met otpProgramCmd (fun _ => 8)
      (fun rq v => fld rq.payload 0 2 < 512 ∧ fld rq.payload 2 1 < 2 ∧ 5 ≤ fld rq.payload 3 1
        ∧ fld rq.payload 3 1 ≤ 20 ∧ (BitVec.ofNat 32 (fld rq.payload 4 4)) ≠ 0
        ∧ programPermitted v.otp.lc (fld rq.payload 0 2) (BitVec.ofNat 32 (fld rq.payload 4 4)) = true
        ∧ isLcWord (fld rq.payload 0 2) = false ∧ (match regionOf (fld rq.payload 0 2) with
      | some i => v.lockedNow i
      | none => false) = false
        ∧ ((fld rq.payload 0 2) == lockWord && (List.range 8).any (fun i => ((BitVec.ofNat 32 (fld rq.payload 4 4))).getLsbD i && !regionGood (fun i => (otpAt v.otp.array i).normal) i)) = false ∧ v.otpTempOk = false)
      m0 (rqOf 8 [(0, 2, 0), (2, 1, 1), (3, 1, 20), (4, 4, 1)])
      { dev with therm := { dieMax := 341 } })
    ∧
    (MetAccepts otpRepairPulseCmd (fun _ => 4)
      (fun rq v => fld rq.payload 0 2 < 512 ∧ fld rq.payload 2 1 < 2 ∧ 5 ≤ fld rq.payload 3 1
        ∧ fld rq.payload 3 1 ≤ 20 ∧ v.logRefuses = false ∧ v.otpTempOk = true)
      m0 (rqOf 4 [(0, 2, 511), (2, 1, 1), (3, 1, 20)])
      dev)
    ∧
    (Met otpRepairPulseCmd (fun _ => 4)
      (fun rq v => fld rq.payload 0 2 < 512 ∧ fld rq.payload 2 1 < 2 ∧ 5 ≤ fld rq.payload 3 1
        ∧ fld rq.payload 3 1 ≤ 20 ∧ v.otpTempOk = false)
      m0 (rqOf 4 [(0, 2, 511), (2, 1, 1), (3, 1, 20)])
      { dev with therm := { dieMax := -1 } })
    ∧
    (Met otpLcChallengeCmd (fun _ => 0)
      (fun _ _ => True)
      m0 (rqOf 0 [])
      dev)
    ∧
    (MetAccepts otpLcAdvanceCmd (fun _ => 412)
      (fun rq v => 1 ≤ fld rq.payload 0 1 ∧ fld rq.payload 0 1 ≤ 5 ∧ v.logRefuses = false
        ∧ lcReachable v.otp.lc (fld rq.payload 0 1) = true ∧ v.lcReady (fld rq.payload 0 1) = true
        ∧ v.lcAuthorised rq.payload (fld rq.payload 0 1) = true)
      m0 (rqOf 412 [(0, 1, 2)])
      { dev with otp := { lc := .mfg, regions := [(0, .valid), (1, .valid), (3, .valid)] } })
    ∧
    (Met otpLcAdvanceCmd (fun _ => 412)
      (fun rq v => 1 ≤ fld rq.payload 0 1 ∧ fld rq.payload 0 1 ≤ 5
        ∧ lcReachable v.otp.lc (fld rq.payload 0 1) = false)
      m0 (rqOf 412 [(0, 1, 4)])
      dev)
    ∧
    (Met otpLcAdvanceCmd (fun _ => 412)
      (fun rq v => 1 ≤ fld rq.payload 0 1 ∧ fld rq.payload 0 1 ≤ 5
        ∧ lcReachable v.otp.lc (fld rq.payload 0 1) = true ∧ v.lcReady (fld rq.payload 0 1) = false)
      m0 (rqOf 412 [(0, 1, 2)])
      dev)
    ∧
    (Met otpLcAdvanceCmd (fun _ => 412)
      (fun rq v => 1 ≤ fld rq.payload 0 1 ∧ fld rq.payload 0 1 ≤ 5
        ∧ lcReachable v.otp.lc (fld rq.payload 0 1) = true ∧ v.lcReady (fld rq.payload 0 1) = true
        ∧ v.lcAuthorised rq.payload (fld rq.payload 0 1) = false)
      m0 (rqOf 412 [(0, 1, 5)])
      dev)
    ∧
    (MetAccepts otpRevokeKeyCmd (fun _ => 4)
      (fun rq v => fld rq.payload 0 1 < 2 ∧ v.logRefuses = false
        ∧ v.keysPresent.all (fun j => j == (fld rq.payload 0 1) || (v.keyRevoked j
      || List.any v.otp.ops (fun (x : OtpOp × Waiter) => x.1 == .revoke j))) = false)
      m0 (rqOf 4 [(0, 1, 1)])
      { dev with otp := { lc := .oem, regions := [(3, .valid)], shadow := [(0x080, 1)] } })
    ∧
    (Met otpRevokeKeyCmd (fun _ => 4)
      (fun rq v => fld rq.payload 0 1 < 2 ∧ v.keysPresent.all (fun j => j == (fld rq.payload 0 1) || (v.keyRevoked j
      || List.any v.otp.ops (fun (x : OtpOp × Waiter) => x.1 == .revoke j))) = true)
      m0 (rqOf 4 [(0, 1, 1)])
      { dev with otp := { lc := .oem } })
    ∧
    (MetAccepts otpMarginCheckCmd (fun _ => 0)
      (fun _ v => (v.logRefuses = true → v.power.enP.getLsbD 7 = (!v.otp.recheckFirst && (match v.otp.ops with
      | (op, _) :: _ => usesVqps op
      | [] => false))))
      m0 (rqOf 0 [])
      dev) := by
  and_intros <;> decide +kernel

theorem test_BistAndLogCommandsAct_met :
    (MetAccepts bistRunCmd (fun _ => 16)
      (fun rq v => fld rq.payload 0 1 < 24 ∧ (bit (fld rq.payload 2 1) 0 = true → v.otp.lc ≠ .oem
        ∧ 1 ≤ fld rq.payload 4 4 ∧ fld rq.payload 4 4 ≤ 16777216 ∧ fld rq.payload 8 8 ≠ 0) ∧ v.logRefuses = false
        ∧ 5 ≤ fld rq.payload 0 1 ∧ fld rq.payload 1 1 = 0 ∧ v.bist.demand = none
        ∧ neverTested (fld rq.payload 0 1) = false ∧ (v.sys = .ready ∨ v.sys = .fault)
        ∧ (fld rq.payload 0 1 = 13 → v.pair.state ≠ .paired) ∧ (v.mem.stakes.get {} 6).owner = none
        ∧ (v.stopPart (fld rq.payload 0 1)).stage < 2)
      m0 (rqOf 16 [(0, 1, 23), (1, 1, 0), (4, 4, 16777216), (8, 8, 1)])
      { dev with bist := { demand := none } })
    ∧
    (MetAccepts bistRunCmd (fun _ => 16)
      (fun rq v => fld rq.payload 0 1 < 24 ∧ (bit (fld rq.payload 2 1) 0 = true → v.otp.lc ≠ .oem
        ∧ 1 ≤ fld rq.payload 4 4 ∧ fld rq.payload 4 4 ≤ 16777216 ∧ fld rq.payload 8 8 ≠ 0) ∧ v.logRefuses = false
        ∧ fld rq.payload 0 1 < 5 ∧ fld rq.payload 1 1 < (poolSize (fld rq.payload 0 1)).1 ∧ v.bist.demand = none
        ∧ v.restingOf (fld rq.payload 0 1) = none ∧ v.sys = .ready
        ∧ (v.pool (fld rq.payload 0 1)).retired.contains (fld rq.payload 1 1) = false
        ∧ (v.mem.stakes.get {} 6).owner = none
        ∧ ((v.stopPeriodic (fld rq.payload 0 1) .preempted).pool (fld rq.payload 0 1)).retired.contains (fld rq.payload 1 1) = false ∧ ((v.stopPeriodic (fld rq.payload 0 1) .preempted).restUnit (fld rq.payload 0 1) (fld rq.payload 1 1)).stage < 2)
      m0 (rqOf 16 [(0, 1, 4), (1, 1, 4), (4, 4, 16777216), (8, 8, 1)])
      { dev with bist := { pools := [(4, { retired := [0] })] }, sys := .ready })
    ∧
    (MetAccepts bistRunCmd (fun _ => 16)
      (fun rq v => fld rq.payload 0 1 < 24 ∧ (bit (fld rq.payload 2 1) 0 = true → v.otp.lc ≠ .oem
        ∧ 1 ≤ fld rq.payload 4 4 ∧ fld rq.payload 4 4 ≤ 16777216 ∧ fld rq.payload 8 8 ≠ 0) ∧ v.logRefuses = false
        ∧ fld rq.payload 0 1 < 5 ∧ fld rq.payload 1 1 < (poolSize (fld rq.payload 0 1)).1 ∧ v.bist.demand = none
        ∧ v.restingOf (fld rq.payload 0 1) ≠ none
        ∧ ((v.stopPeriodic (fld rq.payload 0 1) .preempted).pool (fld rq.payload 0 1)).retired.contains (fld rq.payload 1 1) = false ∧ (v.mem.stakes.get {} 6).owner = none ∧ ((v.stopPeriodic (fld rq.payload 0 1) .preempted).restUnit (fld rq.payload 0 1) (fld rq.payload 1 1)).stage < 2)
      m0 (rqOf 16 [(0, 1, 4), (1, 1, 4), (4, 4, 16777216), (8, 8, 1)])
      { dev with bist := { demand := none } })
    ∧
    (MetAccepts bistRunCmd (fun _ => 16)
      (fun rq v => fld rq.payload 0 1 < 24 ∧ (bit (fld rq.payload 2 1) 0 = true → v.otp.lc ≠ .oem
        ∧ 1 ≤ fld rq.payload 4 4 ∧ fld rq.payload 4 4 ≤ 16777216 ∧ fld rq.payload 8 8 ≠ 0) ∧ v.logRefuses = false
        ∧ fld rq.payload 0 1 < 5 ∧ fld rq.payload 1 1 < (poolSize (fld rq.payload 0 1)).1 ∧ v.bist.demand = none
        ∧ (v.sys = .ready ∨ v.restingOf (fld rq.payload 0 1) ≠ none)
        ∧ (v.pool (fld rq.payload 0 1)).retired.contains (fld rq.payload 1 1) = true
        ∧ ((v.stopPeriodic (fld rq.payload 0 1) .preempted).pool (fld rq.payload 0 1)).retired.contains (fld rq.payload 1 1) = true ∧ (v.mem.stakes.get {} 6).owner = none ∧ (v.stopPeriodic (fld rq.payload 0 1) .preempted).stage < 2)
      m0 (rqOf 16 [(0, 1, 4), (1, 1, 4), (4, 4, 16777216), (8, 8, 1)])
      { dev with bist := { pools := [(4, { retired := [4] })] } })
    ∧
    (MetAccepts bistRunCmd (fun _ => 16)
      (fun rq v => fld rq.payload 0 1 < 24 ∧ (bit (fld rq.payload 2 1) 0 = true → v.otp.lc ≠ .oem
        ∧ 1 ≤ fld rq.payload 4 4 ∧ fld rq.payload 4 4 ≤ 16777216 ∧ fld rq.payload 8 8 ≠ 0) ∧ v.logRefuses = false
        ∧ 5 ≤ fld rq.payload 0 1 ∧ fld rq.payload 1 1 = 0 ∧ v.bist.demand = none
        ∧ neverTested (fld rq.payload 0 1) = false ∧ (v.sys = .ready ∨ v.sys = .fault)
        ∧ (fld rq.payload 0 1 = 13 → v.pair.state ≠ .paired) ∧ (v.mem.stakes.get {} 6).owner = none
        ∧ 2 ≤ (v.stopPart (fld rq.payload 0 1)).stage)
      m0 (rqOf 16 [(0, 1, 5), (1, 1, 0)])
      { dev with bist := { demand := none }, therm := { domains := [(0, { level := 3 })] } })
    ∧
    (Met bistRunCmd (fun _ => 16)
      (fun rq v => fld rq.payload 0 1 < 24 ∧ (bit (fld rq.payload 2 1) 0 = true → v.otp.lc ≠ .oem
        ∧ 1 ≤ fld rq.payload 4 4 ∧ fld rq.payload 4 4 ≤ 16777216 ∧ fld rq.payload 8 8 ≠ 0)
        ∧ 5 ≤ fld rq.payload 0 1 ∧ fld rq.payload 1 1 = 0 ∧ v.bist.demand ≠ none)
      m0 (rqOf 16 [(0, 1, 23), (1, 1, 0), (4, 4, 16777216), (8, 8, 1)])
      { dev with bist := { demand := some { part := 5, unit := 0, count := 1, custom := false, waiter := w0, start := 0, borrowed := false } } })
    ∧
    (Met bistRunCmd (fun _ => 16)
      (fun rq v => fld rq.payload 0 1 < 24 ∧ (bit (fld rq.payload 2 1) 0 = true → v.otp.lc ≠ .oem
        ∧ 1 ≤ fld rq.payload 4 4 ∧ fld rq.payload 4 4 ≤ 16777216 ∧ fld rq.payload 8 8 ≠ 0)
        ∧ 5 ≤ fld rq.payload 0 1 ∧ fld rq.payload 1 1 = 0 ∧ v.bist.demand = none
        ∧ (neverTested (fld rq.payload 0 1) = true ∨ v.sys ≠ .ready ∧ v.sys ≠ .fault))
      m0 (rqOf 16 [(0, 1, 10), (1, 1, 0), (4, 4, 16777216), (8, 8, 1)])
      { dev with bist := { demand := none } })
    ∧
    (Met bistRunCmd (fun _ => 16)
      (fun rq v => fld rq.payload 0 1 < 24 ∧ (bit (fld rq.payload 2 1) 0 = true → v.otp.lc ≠ .oem
        ∧ 1 ≤ fld rq.payload 4 4 ∧ fld rq.payload 4 4 ≤ 16777216 ∧ fld rq.payload 8 8 ≠ 0)
        ∧ fld rq.payload 0 1 < 5 ∧ fld rq.payload 1 1 < (poolSize (fld rq.payload 0 1)).1 ∧ v.bist.demand = none
        ∧ v.restingOf (fld rq.payload 0 1) = none ∧ v.sys ≠ .ready)
      m0 (rqOf 16 [(0, 1, 4), (1, 1, 4), (4, 4, 16777216), (8, 8, 1)])
      { dev with bist := { pools := [(4, { retired := [0] })] }, sys := .armed })
    ∧
    (Met bistStopCmd (fun _ => 0)
      (fun _ v => v.bist.demand = none)
      m0 (rqOf 0 [])
      { dev with bist := { demand := none } })
    ∧
    (Met bistStopCmd (fun _ => 0)
      (fun _ _ => True)
      m0 (rqOf 0 [])
      { dev with bist := { demand := some { part := 5, unit := 0, count := 1, custom := false, waiter := w0, start := 0, borrowed := false } } })
    ∧
    (Met logAckCmd (fun _ => 4)
      (fun rq v => ahead32 (logNewest v.log) (BitVec.ofNat 32 (fld rq.payload 0 4)) ≤ 0)
      m0 (rqOf 4 [])
      dev)
    ∧
    (Met logAckCmd (fun _ => 4)
      (fun rq v => 0 < ahead32 (logNewest v.log) (BitVec.ofNat 32 (fld rq.payload 0 4)))
      m0 (rqOf 4 [(0, 4, 3)])
      dev)
    ∧
    (Met logEpochSetCmd (fun _ => 8)
      (fun _ v => v.logRefuses = false)
      m0 (rqOf 8 [])
      dev) := by
  and_intros <;> decide +kernel

theorem test_CommitCommandsSubmit_met :
    (Met cfgCommitCmd (fun _ => 0)
      (fun rq v => (v.sset rq.mbx.val).staged ≠ [])
      m0 (rqOf 0 [])
      { dev with sets := [(15, { staged := [.axisEnable 0 true] })] })
    ∧
    (Met cfgCommitCmd (fun _ => 0)
      (fun rq v => (v.sset rq.mbx.val).staged = [])
      m0 (rqOf 0 [])
      dev)
    ∧
    (Met trigEnableCmd (fun _ => 4)
      (fun rq v => fld rq.payload 0 1 < 16 ∧ fld rq.payload 1 1 < 2 ∧ fld rq.payload 2 2 < 1024
        ∧ v.accepted.tgEn.get false (fld rq.payload 0 1) ≠ (fld rq.payload 1 1 == 1))
      m0 (rqOf 4 [(0, 1, 15), (1, 1, 1), (2, 2, 1023)])
      dev)
    ∧
    (Met trigEnableCmd (fun _ => 4)
      (fun rq v => fld rq.payload 0 1 < 16 ∧ fld rq.payload 1 1 < 2 ∧ fld rq.payload 2 2 < 1024
        ∧ v.accepted.tgEn.get false (fld rq.payload 0 1) = (fld rq.payload 1 1 == 1))
      m0 (rqOf 4 [(0, 1, 15), (1, 1, 1), (2, 2, 1023)])
      { dev with base := { tgEn := [(15, true)] } })
    ∧
    (Met planeEnableCmd (fun _ => 4)
      (fun rq v => fld rq.payload 0 1 < 64 ∧ fld rq.payload 1 1 < 2
        ∧ Table.find? v.inForce.planes (fld rq.payload 0 1) ≠ none
        ∧ v.accepted.bound.get false (fld rq.payload 0 1) = true ∧ fld rq.payload 1 1 = 0)
      m0 (rqOf 4 [(0, 1, 63), (1, 1, 0)])
      { dev with base := { planes := [(63, plane0)], bound := [(63, true)] } })
    ∧
    (Met planeEnableCmd (fun _ => 4)
      (fun rq v => fld rq.payload 0 1 < 64 ∧ fld rq.payload 1 1 < 2
        ∧ Table.find? v.inForce.planes (fld rq.payload 0 1) ≠ none
        ∧ v.accepted.bound.get false (fld rq.payload 0 1) = (fld rq.payload 1 1 == 1))
      m0 (rqOf 4 [(0, 1, 63), (1, 1, 0)])
      { dev with base := { planes := [(63, plane0)] } })
    ∧
    (Met planeEnableCmd (fun _ => 4)
      (fun rq v => fld rq.payload 0 1 < 64 ∧ fld rq.payload 1 1 < 2
        ∧ Table.find? v.inForce.planes (fld rq.payload 0 1) = none)
      m0 (rqOf 4 [(0, 1, 63), (1, 1, 1)])
      dev) := by
  and_intros <;> decide +kernel

theorem test_CommitCommandsSubmit_met_by_parts :
    (Met planeEnableCmd (fun _ => 4)
      (fun rq v => fld rq.payload 0 1 < 64 ∧ fld rq.payload 1 1 < 2
        ∧ (match Table.find? v.inForce.planes (fld rq.payload 0 1) with
      | some r => (∀ q ∈ barPlanes v.accepted r.bar, linesMeet q.2 r = false)
        ∧ (barPlanes v.accepted r.bar).length < 8
      | none => False) ∧ v.accepted.bound.get false (fld rq.payload 0 1) = false ∧ fld rq.payload 1 1 = 1)
      m0 (rqOf 4 [(0, 1, 63), (1, 1, 1)])
      { dev with base := { planes := [(63, plane0)] } }) :=
    ⟨by decide +kernel, by decide +kernel, by decide +kernel, (by split; (rename_i r h; obtain rfl : r = plane0 := Option.some.inj (h.symm.trans (by decide +kernel)); decide +kernel); (rename_i h; exact absurd h (by decide +kernel))), by decide +kernel, by decide +kernel⟩

theorem test_HostRegisterRows_met :
    (Now m0 { dev with sys := .ready, host := { bootCount := 1, checkBusy := false } }
      (fun v => v.hostReaches = true ∧ v.movedNow = false ∧ v.secondary = false ∧ v.sys = .ready
        ∧ v.host.checkBusy = false))
    ∧
    (Now m0 { dev with sys := .ready, host := { bootCount := 1, checkBusy := true } }
      (fun v => v.hostReaches = true ∧ v.movedNow = false ∧ v.secondary = false ∧ v.sys = .ready
        ∧ v.host.checkBusy = true))
    ∧
    (Now m0 { dev with sys := .armed }
      (fun v => v.hostReaches = true ∧ v.movedNow = false ∧ v.secondary = false
        ∧ (v.sys = .armed ∨ v.sys = .printing ∨ v.sys = .paused)))
    ∧
    (Now m0 { dev with sys := .upsett }
      (fun v => v.hostReaches = true ∧ v.movedNow = false ∧ v.secondary = false ∧ v.sys = .upsett))
    ∧
    (Now m0 { dev with pair := { unitS := true, state := .paired } }
      ((fun (_ : Bool) (v : State) => v.hostReaches = true ∧ v.movedNow = false ∧ v.secondary = true)
      true))
    ∧
    (Now m0 { dev with host := { bootCount := 1, moved := some (m0, .armed) } }
      ((fun (_ : Bool) (v : State) => v.hostReaches = true ∧ v.movedNow = true)
      true))
    ∧
    (Now m0 { dev with sys := .fault }
      (fun v => v.hostReaches = true ∧ v.movedNow = false ∧ v.secondary = false ∧ v.sys = .fault))
    ∧
    (Now m0 dev
      ((fun (_ : Bool) (v : State) => v.hostReaches = true)
      true))
    ∧
    (Now m0 dev
      (fun v => v.hostReaches = true))
    ∧
    (Now m0 dev
      ((fun (_ : Fin 8) (v : State) => v.hostReaches = true)
      7))
    ∧
    (Now m0 dev
      ((fun (w : Word) (v : State) => v.hostReaches = true ∧ w.getLsbD 0 = false)
      0))
    ∧
    (Now m0 { dev with ring := { enable := true } }
      ((fun (w : Word) (v : State) => v.hostReaches = true ∧ w.getLsbD 0 = true ∧ v.ring.enable = true)
      1))
    ∧
    (Now m0 { dev with ring := { enable := false } }
      ((fun (w : Word) (v : State) => v.hostReaches = true ∧ w.getLsbD 0 = true ∧ v.ring.enable = false)
      1))
    ∧
    (Now m0 dev
      ((fun (_ : Word) (v : State) => v.hostReaches = true)
      0))
    ∧
    (Now m0 dev
      ((fun (w : Word) (v : State) => v.hostReaches = true
        ∧ ((∀ k < 28, w.getLsbD k = true → v.ints.enable.getLsbD k = true ∨ v.ints.status.getLsbD k = false)))
      0))
    ∧
    (Now m0 { dev with rung := [] }
      ((fun (_ : BitVec 64) (v : State) => v.hostReaches = true ∧ v.rung = [])
      0))
    ∧
    (Now m0 dev
      ((fun (o k : Nat) (_ : BitVec 64) (v : State) => v.hostReaches = true ∧ accessOk o k = false)
      0 0 0))
    ∧
    (Now m0 dev
      ((fun (o k : Nat) (v : State) => v.hostReaches = true ∧ accessOk o k = false)
      0 0))
    ∧
    (Now ⟨0, 1024⟩ { dev with ints := { firstAt := some 0, holdoff := 1000 } }
      ((fun (t : Nat) (v : State) => v.ints.firstAt = some t ∧ v.ints.status.getLsbD 0 = false
        ∧ v.ints.holdoff ≠ 0 ∧ v.ints.holdoff * 1024 ≤ (v.aon - t) * 1000)
      0))
    ∧
    (Now ⟨0, 1024⟩ { dev with sys := .fault, power := { resetAt := some (1024, 15) } }
      ((fun (t n : Nat) (v : State) => v.power.resetAt = some (t, n) ∧ v.sys = .fault ∧ t ≤ v.aon)
      1024 15)) := by
  and_intros <;> ((try unfold Now); (try beta_reduce); decide +kernel)

theorem test_ChecksAndDataPortRows_met :
    (Now m0 { dev with base := printCfg, checks := [.printEn] }
      ((fun (l : List CheckKind) (v : State) => v.checks = .printEn :: l ∧ v.testsFixed = false
        ∧ (v.check v.inForce none) = none)
      []))
    ∧
    (Now m0 { dev with checks := [.printEn] }
      ((fun (l : List CheckKind) (x : Refused) (v : State) => v.checks = .printEn :: l ∧ v.testsFixed = false
        ∧ (v.check v.inForce none) = some x)
      [] (⟨Rc.noBarEnabled, Cls.system, 0, []⟩)))
    ∧
    (Now m0 { dev with checks := [.printEn], bist := { demand := some { part := 5, unit := 0, count := 1, custom := false, waiter := w0, start := 0, borrowed := false } } }
      ((fun (l : List CheckKind) (v : State) => v.checks = .printEn :: l ∧ v.testsFixed = true)
      []))
    ∧
    (Now m0 { dev with base := printCfg, checks := [.resume w0] }
      ((fun (l : List CheckKind) (w : Waiter) (v : State) => v.checks = .resume w :: l
        ∧ (v.check v.inForce none) = none)
      [] w0))
    ∧
    (Now m0 { dev with checks := [.resume w0] }
      ((fun (l : List CheckKind) (w : Waiter) (x : Refused) (v : State) => v.checks = .resume w :: l
        ∧ (v.check v.inForce none) = some x)
      [] w0 (⟨Rc.noBarEnabled, Cls.system, 0, []⟩)))
    ∧
    (Now m0 { dev with base := printCfg, checks := [.cfg w0 true false 0] }
      ((fun (l : List CheckKind) (w : Waiter) (mask : BitVec 16) (v : State) => v.checks = .cfg w true false mask :: l ∧ (v.check v.inForce none) = none)
      [] w0 0))
    ∧
    (Now m0 { dev with checks := [.cfg w0 false true 0x8000] }
      ((fun (l : List CheckKind) (w : Waiter) (mask : BitVec 16) (x : Refused) (v : State) => v.checks = .cfg w false true mask :: l ∧ v.check (v.view w.mbx) (some (barsOfMask mask.toNat)) = some x)
      [] w0 0x8000 (⟨Rc.axisAssignment, Cls.bar, 15, []⟩)))
    ∧
    (Now m0 { dev with base := { planes := [(63, plane0)] }, dps := [(7, { limit := 0x10000 })] }
      ((fun (p : Fin 8) (ctrl : Word) (v : State) => v.hostReaches = true ∧ portAction ctrl = .open_
        ∧ (v.setTarget p.val ctrl).openRefusal p.val = none ∧ ((v.setTarget p.val ctrl).dp p.val).compress = false)
      7 1))
    ∧
    (Now m0 dev
      ((fun (p : Fin 8) (ctrl : Word) (code : Reason) (v : State) => v.hostReaches = true
        ∧ portAction ctrl = .open_ ∧ (v.setTarget p.val ctrl).openRefusal p.val = some code)
      7 1 Rc.dpBadRange))
    ∧
    (Now m0 { dev with dps := [(7, { open_ := true })] }
      ((fun (p : Fin 8) (ctrl : Word) (v : State) => v.hostReaches = true ∧ portAction ctrl = .flush
        ∧ ((v.setTarget p.val ctrl).dp p.val).open_ = true)
      7 2))
    ∧
    (Now m0 dev
      ((fun (_ : Fin 8) (ctrl : Word) (v : State) => v.hostReaches = true ∧ portAction ctrl = .close)
      7 4))
    ∧
    (Now m0 { dev with dps := [(7, { open_ := true, closing := true })] }
      ((fun (p : Fin 8) (v : State) => (v.dp p.val).open_ = true ∧ (v.dp p.val).closing = true
        ∧ portBusy (v.dp p.val) = false ∧ (v.dp p.val).compress = false)
      7))
    ∧
    (Now m0 { dev with dps := [(7, { open_ := true })] }
      ((fun (p : Fin 8) (ctrl : Word) (v : State) => v.hostReaches = true ∧ portAction ctrl = .abort
        ∧ ((v.setTarget p.val ctrl).dp p.val).open_ = true ∧ ((v.setTarget p.val ctrl).dp p.val).compress = false)
      7 8))
    ∧
    (Now m0 dev
      ((fun (p : Fin 8) (_ : List Byte) (v : State) => v.hostReaches = true ∧ v.pwr ≠ .doze
        ∧ ((v.dp p.val).open_ = false ∨ (v.dp p.val).closing = true))
      7 []))
    ∧
    (Now m0 { dev with dps := [(7, { open_ := true, limit := 1 })] }
      ((fun (p : Fin 8) (bytes : List Byte) (v : State) => v.hostReaches = true ∧ v.pwr ≠ .doze
        ∧ (v.dp p.val).open_ = true ∧ (v.dp p.val).closing = false ∧ (v.dp p.val).compress = false ∧ bytes ≠ []
        ∧ bytes.length ≤ (v.dp p.val).limit - (v.dp p.val).ptr)
      7 [0]))
    ∧
    (Now m0 { dev with dps := [(7, { open_ := true })] }
      ((fun (p : Fin 8) (_ : Nat) (v : State) => v.hostReaches = true ∧ v.pwr ≠ .doze ∧ (v.dp p.val).open_ = true
        ∧ (v.dp p.val).compress = false)
      7 0))
    ∧
    (Now m0 dev
      ((fun (p : Fin 8) (_ : Nat) (v : State) => v.hostReaches = true ∧ v.pwr ≠ .doze
        ∧ ((v.dp p.val).open_ = false ∨ (v.dp p.val).compress = true))
      7 0))
    ∧
    (Now m0 dev
      ((fun (_ : Fin 8) (_ : Nat) (_ : State) => True)
      7 0))
    ∧
    (Now ⟨0, 10241⟩ { dev with dps := [(7, { open_ := true, tracks := true, blockEnd := some 1 })] }
      ((fun (p : Fin 8) (v : State) => v.midBlock p.val = true ∧ (v.dp p.val).stalled = false
        ∧ (v.dp p.val).closing = false ∧ (v.dp p.val).lastWrite + 10240 < v.aon)
      7)) := by
  and_intros <;> ((try unfold Now); (try beta_reduce); decide +kernel)

theorem test_LaterCompletionRows_met :
    (Now m0 { dev with pair := { preparing := none } }
      (fun v => v.pair.preparing = none ∧ v.serveFront.held = v.held))
    ∧
    (Now m0 { dev with pair := { preparing := none }, held := [] }
      (fun v => v.pair.preparing = none ∧ v.held = []))
    ∧
    (Now m0 { dev with pair := { preparing := none }, held := [{ held0 with begun := true }], checks := [] }
      ((fun (h : Held) (v : State) => v.pair.preparing = none ∧ v.held = [h] ∧ v.checks = [] ∧ h.begun = true
        ∧ h.awaits = [] ∧ v.pairPrepares h = false ∧ v.logRefuses = false
        ∧ v.ownership h.origin (v.accepted.applyAll h.changes) h.changes = none ∧ (v.acceptCommit h).held = [])
      { held0 with begun := true }))
    ∧
    (Now m0 { dev with pair := { preparing := none }, held := [held0], checks := [.printEn] }
      ((fun (h : Held) (l : List Held) (v : State) => v.pair.preparing = none ∧ v.held = h :: l ∧ v.checks ≠ [])
      held0 []))
    ∧
    (Now m0 { dev with coverRuns := [(w0, 15, [])] }
      ((fun (w : Waiter) (b : Nat) (r : List Nat) (l : List (Waiter × Nat × List Nat)) (v : State) => v.coverRuns = (w, b, r) :: l)
      w0 15 [] []))
    ∧
    (Now m0 { dev with trigs := [(15, { burst := some { waiter := w0, left := 0, interval := 1 } })] }
      ((fun (g : Fin 16) (u : Burst) (v : State) => (v.trig g.val).burst = some u ∧ u.left = 0 ∧ u.cut = none
        ∧ (∀ p ∈ (v.trig g.val).pulses, p.kind ≠ .spit))
      15 { waiter := w0, left := 0, interval := 1 }))
    ∧
    (Now m0 { dev with trigs := [(15, { burst := some { waiter := w0, left := 1, interval := 1, cut := some Rc.barMoving } })] }
      ((fun (g : Fin 16) (u : Burst) (c : Reason) (v : State) => (v.trig g.val).burst = some u ∧ u.cut = some c
        ∧ (∀ p ∈ (v.trig g.val).pulses, p.kind ≠ .spit))
      15 { waiter := w0, left := 1, interval := 1, cut := some Rc.barMoving } Rc.barMoving))
    ∧
    (Now m0 { dev with base := { planes := [(63, plane0)] }, plait := { jobs := [(w0, true, 63, 0, 0)] } }
      ((fun (w : Waiter) (n first count : Nat) (r : PlaneRec) (v : State) => jobOf true [] v.plait.jobs = some (w, true, n, first, count) ∧ v.freeUnit ≠ none ∧ v.linkRuns = true ∧ v.underTest 19 = false ∧ Table.find? v.inForce.planes n = some r)
      w0 63 0 0 plane0))
    ∧
    (Now m0 { dev with plait := { jobs := [(w0, true, 63, 0, 0)], units := [(0, { bar := 15, plane := 62, block := 0 }), (1, { bar := 15, plane := 62, block := 0 }), (2, { bar := 15, plane := 62, block := 0 }), (3, { bar := 15, plane := 62, block := 0 })] } }
      ((fun (j : Waiter × Bool × Nat × Nat × Nat) (v : State) => jobOf true [] v.plait.jobs = some j
        ∧ (v.freeUnit = none ∨ v.linkRuns = false ∨ v.underTest 19 = true))
      (w0, true, 63, 0, 0)))
    ∧
    (Now m0 { dev with plait := { jobs := [(w0, false, 63, 0, 0x20000)], units := [(0, { bar := 15, plane := 62, block := 0 }), (1, { bar := 15, plane := 62, block := 0 }), (2, { bar := 15, plane := 62, block := 0 }), (3, { bar := 15, plane := 62, block := 0 })] } }
      ((fun (j : Waiter × Bool × Nat × Nat × Nat) (v : State) => jobOf false [] v.plait.jobs = some j
        ∧ (v.freeUnit = none ∨ v.linkRuns = false ∨ v.underTest 19 = true))
      (w0, false, 63, 0, 0x20000)))
    ∧
    (Now m0 { dev with mem := { reforming := some { bank := 31, origin := .boot, reason := 0 }, retired := [0, 1, 2, 3] } }
      ((fun (r : Retire) (v : State) => v.mem.reforming = some r ∧ 4 ≤ v.mem.retired.length)
      { bank := 31, origin := .boot, reason := 0 }))
    ∧
    (Now m0 { dev with flash := { ops := [.image w0 0 []] } }
      ((fun (w : Waiter) (a : Nat) (bs : List Byte) (l : List FlashOp) (v : State) => v.flash.ops = .image w a bs :: l)
      w0 0 [] []))
    ∧
    (Now m0 { dev with flash := { ops := [.store w0 { seq := 1, serial := 0, coeffs := [], boot := 0, temp := 0 } (some true)] } }
      ((fun (w : Waiter) (r : CalSlot) (b : Bool) (l : List FlashOp) (v : State) => v.flash.ops = .store w r (some b) :: l)
      w0 { seq := 1, serial := 0, coeffs := [], boot := 0, temp := 0 } true []))
    ∧
    (Now ⟨0, 1000000000⟩ { dev with otp := { lc := .mfg, recheckFirst := false, ops := [(.program 0 1 true 5, w0)] } }
      ((fun (w : Waiter) (op : OtpOp) (l : List (OtpOp × Waiter)) (x : OtpPulses) (v : State) => v.otp.ops = (op, w) :: l ∧ op ≠ .margin ∧ v.otp.recheckFirst = false ∧ v.underTest 22 = false ∧ usesVqps op = true ∧ v.power.pg.getLsbD 7 = false ∧ x.sourceGood = false ∧ v.vqpsLate = true)
      w0 (.program 0 1 true 5) [] { bits := [], sourceGood := false }))
    ∧
    (Now m0 { dev with otp := { lc := .mfg, ops := [(.margin, w0)], recheckFirst := true } }
      ((fun (w : Waiter) (op : OtpOp) (l : List (OtpOp × Waiter)) (_ : OtpPulses) (v : State) => v.otp.ops = (op, w) :: l ∧ (v.otp.recheckFirst = true ∨ v.underTest 22 = true))
      w0 .margin [] { bits := [], sourceGood := true }))
    ∧
    (Now m0 dev
      ((fun (_ : Fin 32) (_ : Bool) (_ : State) => True)
      31 true))
    ∧
    (Now m0 dev
      ((fun (_ : Fin 32) (_ : Nat) (_ : State) => True)
      31 0))
    ∧
    (Now m0 dev
      ((fun (_ : Fin 32) (_ : State) => True)
      31))
    ∧
    (Now ⟨0, 5120⟩ { dev with held := [held0] }
      ((fun (n : Fin 16) (h : Held) (w : Waiter) (v : State) => v.held = [h] ∧ h.answered = false
        ∧ h.waiter = some w ∧ w.mbx = n.val
        ∧ (v.mbox n.val).rungAt + (if v.pwr = .doze then 40960 else 5120) ≤ v.aon ∧ (v.mbox n.val).pending < 8)
      15 held0 w0))
    ∧
    (Now m0 { dev with otp := { lc := .mfg }, sys := .ready }
      ((fun (a : Nat) (v : State) => v.otp.lc = .mfg ∧ (v.linkRuns = true ∨ v.pwr = .doze) ∧ v.sys = .ready
        ∧ v.underTest 23 = false ∧ v.regionAllows 10 a 4 .read = true)
      0))
    ∧
    (Now m0 { dev with otp := { lc := .mfg }, sys := .ready }
      ((fun (a : Nat) (v : State) => v.otp.lc = .mfg ∧ (v.linkRuns = true ∨ v.pwr = .doze) ∧ v.sys = .ready
        ∧ v.underTest 23 = false ∧ v.regionAllows 10 a 4 .read = false)
      0x10000000000))
    ∧
    (Now m0 { dev with otp := { lc := .field } }
      ((fun (_ : Nat) (_ : Option Word) (v : State) => (v.otp.lc = .field ∨ v.otp.lc = .scrapped))
      0 none)) := by
  and_intros <;> ((try unfold Now); (try beta_reduce); decide +kernel)

theorem test_LaterCompletionRows_met_by_parts :
    (Now m0 { dev with base := { planes := [(63, plane0)] }, plait := { jobs := [(w0, false, 63, 0, 0x20000)] }, mem := { hbm := [(13, 3)] } }
      ((fun (w : Waiter) (n block dst : Nat) (r : PlaneRec) (v : State) => jobOf false [] v.plait.jobs = some (w, false, n, block, dst) ∧ v.freeUnit ≠ none ∧ v.linkRuns = true ∧ v.underTest 19 = false ∧ Table.find? v.inForce.planes n = some r ∧ { v with plait := { v.plait with jobs := v.plait.jobs.erase (w, false, n, block, dst) } }.readBlock r block
      (indexEntryOf ({ v with plait := { v.plait with jobs := v.plait.jobs.erase (w, false, n, block, dst) } }.indexBytesOf r block)) = .empty)
      w0 63 0 0x20000 plane0))
    ∧
    (∃ (u : State), Now m0 { dev with sys := .fault, mem := { reforming := some { bank := 31, origin := .boot, reason := 0 }, retired := [0, 1, 2] } }
      ((fun (r : Retire) (v : State) => v.mem.reforming = some r ∧ v.mem.retired.length < 4 ∧ r.waiter = none
        ∧ u = ((((fun s : State => { s with mem := { s.mem with reforming := none } }) (v.logOpen { origin := r.origin, reason := r.reason })).reformPool r.bank).clearForReform).postBank r.bank r.reason false true ∧ u.inPair = false ∧ u.sys ≠ .ready)
      { bank := 31, origin := .boot, reason := 0 }))
    ∧
    (∃ (u : State), Now m0 { dev with sys := .fault, mem := { reforming := some { bank := 31, origin := .boot, reason := 0, waiter := some w0 }, retired := [0, 1, 2] } }
      ((fun (r : Retire) (w : Waiter) (v : State) => v.mem.reforming = some r ∧ v.mem.retired.length < 4
        ∧ r.waiter = some w
        ∧ u = (((fun s : State => { s with mem := { s.mem with reforming := none } }) (v.logOpen { origin := r.origin, reason := r.reason })).reformPool r.bank).clearForReform.postBank r.bank r.reason false true ∧ (u.commandDone w 0 0 0).inPair = false ∧ (u.commandDone w 0 0 0).sys ≠ .ready)
      { bank := 31, origin := .boot, reason := 0, waiter := some w0 } w0))
    ∧
    (∃ (u : State), Now m0 { dev with flash := { ops := [.store w0 { seq := 1, serial := 0, coeffs := [], boot := 0, temp := 0 } (some true)] } }
      ((fun (w : Waiter) (r : CalSlot) (b : Bool) (l : List FlashOp) (v : State) => v.flash.ops = .store w r (some b) :: l ∧ u = { v with fresh := v.fresh + 1, flash := { v.flash with ops := l, bytes := flashProgram v.flash.bytes (slotBase b) (recordBytes r) } }.startFlash ∧ u.flashRead (slotBase b) 232 = recordBytes r)
      w0 { seq := 1, serial := 0, coeffs := [], boot := 0, temp := 0 } true []))
    ∧
    (Now m0 { dev with otp := { lc := .mfg, recheckFirst := false, ops := [(.repair 511 false 20, w0)] } }
      ((fun (w : Waiter) (op : OtpOp) (l : List (OtpOp × Waiter)) (x : OtpPulses) (t : Table OtpWord) (weak : Nat) (reason : Reason) (v : State) => v.otp.ops = (op, w) :: l ∧ op ≠ .margin ∧ (∀ rs, op ≠ .rows rs) ∧ v.otp.recheckFirst = false ∧ v.underTest 22 = false ∧ ((usesVqps op = true → v.power.pg.getLsbD 7 = true ∨ x.sourceGood = true)) ∧ runPulses v.otp.tempLeft v.fresh (opBits v.otp op) x.bits v.otp.array 0 = some (t, weak, reason))
      w0 (.repair 511 false 20) [] { bits := [], sourceGood := true } [] 0 0)) :=
  ⟨
    ⟨by decide +kernel, by decide +kernel, by decide +kernel, by decide +kernel, by decide +kernel, rfl⟩,
    ⟨_, by decide +kernel, by decide +kernel, by decide +kernel, rfl, by decide +kernel, by decide +kernel⟩,
    ⟨_, by decide +kernel, by decide +kernel, by decide +kernel, rfl, by decide +kernel, by decide +kernel⟩,
    ⟨_, by decide +kernel, rfl, programmed_reads_back _ _ _ (by decide +kernel) rfl⟩,
    ⟨by decide +kernel, by decide +kernel, (fun _ h => nomatch h), by decide +kernel, by decide +kernel⟩
  ⟩

theorem test_StartAndResetRows_met :
    (Now m0 { dev with sys := .off }
      (fun v => v.sys = .off))
    ∧
    (Now m0 dev
      (fun _ => True))
    ∧
    (Now m0 { dev with sys := .fault }
      (fun v => v.sys = .fault ∧ v.outranked .upsett = false))
    ∧
    (Now m0 { dev with sys := .fault, host := { bootCount := 1, moved := some (m0, .off) } }
      (fun v => v.sys = .fault ∧ v.outranked .upsett = true))
    ∧
    (Now m0 { dev with power := { rstnHeld := false } }
      (fun v => v.sys ≠ .fault ∧ v.sys ≠ .off ∧ v.sys ≠ .safe ∧ v.power.rstnHeld = false))
    ∧
    (Now m0 { dev with sys := .safe }
      (fun v => (v.sys = .off ∨ v.sys = .safe)))
    ∧
    (Now m0 { dev with power := { rstnHeld := true } }
      (fun v => v.power.rstnHeld = true))
    ∧
    (Now m0 { dev with sys := .safe }
      (fun v => v.sys = .safe))
    ∧
    (Now m0 dev
      (fun v => v.sys ≠ .safe ∧ (v.sys ≠ .upsett ∨ v.power.restartKind ≠ 3 ∨ v.therm.restarts.head? ≠ some v.aon)))
    ∧
    (Now m0 { dev with sys := .upsett, power := { restartKind := 3 }, therm := { restarts := [0] } }
      (fun v => v.sys = .upsett ∧ v.power.restartKind = 3 ∧ v.therm.restarts.head? = some v.aon))
    ∧
    (Now m0 { dev with sys := .upsett, power := { phase := some 0 } }
      ((fun (_ : PhaseInput) (v : State) => v.phaseRuns = some 0)
      {}))
    ∧
    (Now m0 { dev with sys := .upsett, power := { phase := some 1 } }
      ((fun (i : PhaseInput) (v : State) => v.phaseRuns = some 1 ∧ (v.readOtp i.margins).otpFault = none)
      {}))
    ∧
    (Now m0 { dev with sys := .upsett, power := { phase := some 1 }, otp := { lc := .mfg, array := [(0xD0, { normal := 3, high := 3, low := 3 })] } }
      ((fun (i : PhaseInput) (c : Reason) (v : State) => v.phaseRuns = some 1
        ∧ (v.readOtp i.margins).otpFault = some c)
      {} Rc.idInvalid))
    ∧
    (Now m0 { dev with power := { seq := .idle, phase := some 2 }, sys := .upsett }
      ((fun (_ : PhaseInput) (v : State) => v.phaseRuns = some 2 ∧ v.power.seq = .idle ∧ v.power.enP &&& 0x7F = 0x7F)
      {}))
    ∧
    (Now m0 { dev with sys := .upsett, power := { phase := some 3, restartKind := 1 } }
      ((fun (_ : PhaseInput) (v : State) => v.phaseRuns = some 3 ∧ v.sys = .upsett ∧ v.power.restartKind ≠ 0)
      {}))
    ∧
    (Now m0 { dev with sys := .upsett, power := { restartKind := 0, phase := some 3 } }
      ((fun (_ : PhaseInput) (v : State) => v.phaseRuns = some 3 ∧ v.sys = .upsett ∧ v.power.restartKind = 0)
      {}))
    ∧
    (Now m0 { dev with otp := { lc := .scrapped }, sys := .upsett, power := { phase := some 4 } }
      ((fun (_ : PhaseInput) (v : State) => v.phaseRuns = some 4 ∧ v.otp.lc = .scrapped)
      {}))
    ∧
    (Now m0 { dev with sys := .upsett, power := { phase := some 5 } }
      ((fun (i : PhaseInput) (v : State) => v.phaseRuns = some 5 ∧ v.bootChoice i.imageA i.imageB = none)
      { imageA := none }))
    ∧
    (Now m0 { dev with sys := .upsett, power := { phase := some 5 } }
      ((fun (i : PhaseInput) (b : Bool) (x : BootImage) (v : State) => v.phaseRuns = some 5
        ∧ v.bootChoice i.imageA i.imageB = some (b, x))
      {} false {}))
    ∧
    (Now m0 { dev with sys := .upsett, power := { phase := some 6 }, mem := { failRows := (List.range 9).map (fun r => (32, r)) } }
      ((fun (_ : PhaseInput) (v : State) => v.phaseRuns = some 6 ∧ v.stakeFails = true)
      {}))
    ∧
    (Now m0 { dev with sys := .upsett, power := { phase := some 6 } }
      ((fun (_ : PhaseInput) (v : State) => v.phaseRuns = some 6 ∧ v.stakeFails = false ∧ v.weaveFails.length ≤ 4
        ∧ (v.sys = .upsett → v.cal.queue = [] ∧ v.cal.running = []))
      {}))
    ∧
    (Now m0 { dev with sys := .upsett, power := { phase := some 6 }, mem := { failRows := (List.range 45).map (fun r => (r % 5, r)) } }
      ((fun (_ : PhaseInput) (v : State) => v.phaseRuns = some 6 ∧ v.stakeFails = false ∧ 4 < v.weaveFails.length)
      {}))
    ∧
    (Now m0 { dev with sys := .upsett, power := { phase := some 7 }, pair := { state := .unpaired }, ports := (List.range 32).map (fun p => (p, { state := .up })) }
      ((fun (_ : PhaseInput) (v : State) => v.phaseRuns = some 7 ∧ v.sys = .upsett ∧ v.linksSettled = true)
      {}))
    ∧
    (Now m0 { dev with sys := .upsett, power := { phase := some 7 }, pair := { state := .training } }
      ((fun (_ : PhaseInput) (v : State) => v.phaseRuns = some 7 ∧ v.sys = .upsett ∧ v.linksSettled = false)
      {}))
    ∧
    (Now ⟨0, 1000000000⟩ { dev with power := { retryAt := none, phase := some 7 }, sys := .upsett, pair := { state := .unpaired }, ports := (List.range 32).map (fun p => (p, { state := .up })) }
      ((fun (k : Nat) (_ : Bool) (v : State) => v.phaseRuns = some k ∧ v.power.retryAt = none
        ∧ v.power.phaseAt + phaseMs k * msTicks ≤ v.aon ∧ (k = 7 → v.linksSettled = true)
        ∧ (k = 2 → 2 ≤ v.power.u2Fails))
      7 true))
    ∧
    (Now ⟨0, 1000000000⟩ { dev with power := { retryAt := none, phase := some 2 }, sys := .upsett }
      ((fun (_ : Bool) (v : State) => v.phaseRuns = some 2 ∧ v.power.retryAt = none
        ∧ v.power.phaseAt + phaseMs 2 * msTicks ≤ v.aon ∧ v.power.u2Fails < 2)
      true))
    ∧
    (Now m0 { dev with power := { seq := .idle, retryAt := some 0 } }
      ((fun (t : Nat) (v : State) => v.power.retryAt = some t ∧ t ≤ v.aon ∧ v.power.seq = .idle)
      0))
    ∧
    (Now m0 { dev with sys := .upsett, power := { refRunning := false } }
      ((fun (_ : Nat) (v : State) => v.sys = .upsett ∧ v.power.refRunning = false)
      0))
    ∧
    (Now ⟨0, 16384⟩ { dev with power := { refRunning := true } }
      ((fun (n : Nat) (v : State) => v.sys ≠ .off ∧ v.power.refRunning = true ∧ v.power.trimAt + 16384 ≤ v.aon
        ∧ 24875 ≤ n ∧ n ≤ 25125)
      25125)) := by
  and_intros <;> ((try unfold Now); (try beta_reduce); decide +kernel)

theorem test_StartAndResetRows_met_by_parts :
    (Now m0 { dev with sys := .upsett, power := { phase := some 4 } }
      ((fun (i : PhaseInput) (v : State) => v.phaseRuns = some 4 ∧ v.otp.lc ≠ .scrapped
        ∧ (v.startupTests i.bist).startupFault i.bist = none)
      {}))
    ∧
    (Now m0 { dev with sys := .upsett, power := { phase := some 4 }, otp := { lc := .oem } }
      ((fun (i : PhaseInput) (k : Nat) (v : State) => v.phaseRuns = some 4 ∧ v.otp.lc ≠ .scrapped
        ∧ (v.startupTests i.bist).startupFault i.bist = some k)
      { bist := { misrs := [(80, ~~~Config.bistExpected 5 16384)] } } 5))
    ∧
    (Config.trimRises = true → Now ⟨0, 16384⟩ { dev with power := { refRunning := true, aonTrim := 1 } }
      ((fun (n : Nat) (v : State) => v.sys ≠ .off ∧ v.power.refRunning = true ∧ v.power.trimAt + 16384 ≤ v.aon
        ∧ n < 24875 ∧ Config.trimRises = true ∧ v.power.aonTrim ≠ 0)
      24874)) :=
  ⟨
    ⟨by decide +kernel, by decide +kernel, startupFault_mfg _ _ (by decide +kernel)⟩,
    ⟨by decide +kernel, by decide +kernel, startupFault_five _ (by decide +kernel)⟩,
    fun h => ⟨by decide +kernel, by decide +kernel, by decide +kernel, by decide +kernel, h, by decide +kernel⟩
  ⟩

theorem test_PowerRows_met :
    (Now ⟨0, 10⟩ { dev with power := { seq := .up }, sys := .upsett, pwr := .run }
      (fun v => (v.power.enP.getLsbD 7 = false ∨ v.power.pg.getLsbD 7 = true) ∧ v.power.seq = .up
        ∧ v.power.pgSince + 10 ≤ v.aon ∧ v.sys = .upsett ∧ v.pwr = .run))
    ∧
    (Now ⟨0, 10⟩ { dev with power := { enP := 0x80 } }
      (fun v => v.power.enP.getLsbD 7 = true ∧ v.power.pg.getLsbD 7 = false ∧ v.power.pgSince + 10 ≤ v.aon))
    ∧
    (Now m0 dev
      (fun v => v.aon < v.power.pgSince + 10))
    ∧
    (Now m0 { dev with power := { seq := .down, enP := 0x3F } }
      ((fun (k : Nat) (v : State) => v.power.seq = .down ∧ v.lastDown = some k)
      6))
    ∧
    (Now ⟨0, 10000⟩ { dev with power := { seq := .down, enP := 0x3F } }
      ((fun (k : Nat) (v : State) => v.power.seq = .down ∧ v.lastDown = some k
        ∧ v.power.pgSince + (v.railRec k).pgTimeout * msTicks ≤ v.aon)
      6))
    ∧
    (Now m0 { dev with power := { enP := 0xFF, pg := 0xFF } }
      ((fun (k : Fin 8) (v : State) => v.power.enP.getLsbD k.val = true ∧ v.power.pg.getLsbD k.val = true)
      7))
    ∧
    (Now m0 dev
      ((fun (k : Fin 8) (v : State) => v.power.enP.getLsbD k.val = false)
      7))
    ∧
    (Now m0 dev
      (fun v => v.timeRuns = true))
    ∧
    (Now m0 dev
      ((fun (_ : Pll) (v : State) => (v.timeRuns = true ∨ v.pwr = .doze))
      .time))
    ∧
    (Now m0 dev
      (fun _ => True))
    ∧
    (Now m0 { dev with host := { bootCount := 1, linkUp := false } }
      (fun v => v.host.linkUp = false ∧ v.hostRuns = true))
    ∧
    (Now m0 { dev with otp := { lc := .mfg, regions := [(5, .valid)], shadow := [(0xE8, 0x21)] } }
      ((fun (k : Fin 8) (_ : BitVec 16) (v : State) => v.sys ≠ .off ∧ (v.railRec k.val).addr ≠ 0)
      7 0))
    ∧
    (Now ⟨0, 67107840000⟩ { dev with sys := .ready, pwr := .ready, power := { entry := none }, base := { power := { dozeAfter := 65535 } } }
      (fun v => v.inForce.power.dozeAfter ≠ 0 ∧ v.sys = .ready ∧ v.pwr = .ready ∧ v.power.entry = none
        ∧ v.working = false ∧ v.powerBusy = false
        ∧ v.power.lastActivity + v.inForce.power.dozeAfter * secondTicks ≤ v.aon))
    ∧
    (Now ⟨0, 67107840000⟩ { dev with sys := .ready, pwr := .doze, power := { entry := none, waking := none }, base := { power := { sleepAfter := 65535 } } }
      (fun v => v.inForce.power.sleepAfter ≠ 0 ∧ v.sys = .ready ∧ v.pwr = .doze ∧ v.power.entry = none
        ∧ v.power.waking = none ∧ v.powerBusy = false
        ∧ v.power.stateAt + v.inForce.power.sleepAfter * secondTicks ≤ v.aon))
    ∧
    (Now m0 { dev with sys := .armed, power := { entry := some { target := .doze, origin := .boot, due := 0 } } }
      ((fun (e : Entry) (v : State) => v.power.entry = some e ∧ v.sys ≠ .ready)
      { target := .doze, origin := .boot, due := 0 }))
    ∧
    (Now m0 { dev with sys := .ready, power := { entry := some { target := .doze, origin := .boot, due := 0, begun := true } } }
      ((fun (e : Entry) (v : State) => v.power.entry = some e ∧ v.sys = .ready ∧ e.begun = true)
      { target := .doze, origin := .boot, due := 0, begun := true }))
    ∧
    (Now m0 { dev with sys := .ready, power := { entry := some { target := .doze, origin := .boot, due := 0 } } }
      ((fun (e : Entry) (v : State) => v.power.entry = some e ∧ v.sys = .ready ∧ e.begun = false ∧ e.due ≤ v.aon
        ∧ v.powerBusy = false)
      { target := .doze, origin := .boot, due := 0 }))
    ∧
    (Now m0 { dev with power := { hv := [(7, { fallAt := some 0 })] } }
      ((fun (k : Fin 8) (t : Nat) (v : State) => (v.hvt k.val).fallAt = some t)
      7 0))
    ∧
    (Now ⟨0, 1000000000⟩ { dev with power := { hv := [(7, { riseAt := some 0 })], hven := 0x80 } }
      ((fun (k : Fin 8) (t : Nat) (v : State) => (v.hvt k.val).riseAt = some t
        ∧ v.power.hven.getLsbD k.val = true ∧ t + (v.inForce.hvs.get {} k.val).onTimeout * msTicks ≤ v.aon)
      7 0))
    ∧
    (Now m0 dev
      ((fun (k : Fin 8) (v : State) => v.power.hven.getLsbD k.val = false)
      7))
    ∧
    (Now ⟨0, 1000000000⟩ { dev with power := { hv := [(7, { fallAt := some 0 })] } }
      ((fun (k : Fin 8) (t : Nat) (v : State) => (v.hvt k.val).fallAt = some t
        ∧ t + (v.inForce.hvs.get {} k.val).dischargeTimeout * msTicks ≤ v.aon)
      7 0))
    ∧
    (Now m0 { dev with pwr := .sleep }
      (fun v => v.inForce.power.wakeMask.getLsbD 0 = true ∧ (v.pwr = .sleep ∨ v.pwr = .offAon)))
    ∧
    (Now ⟨0, 1000000000⟩ { dev with pwr := .sleep, base := { power := { wakeMask := 8, aonTimer := 1 } } }
      (fun v => v.inForce.power.wakeMask.getLsbD 3 = true ∧ v.inForce.power.aonTimer ≠ 0 ∧ v.gatedPower = true
        ∧ v.power.stateAt + v.inForce.power.aonTimer * secondTicks ≤ v.aon))
    ∧
    (Now m0 { dev with sys := .ready, pwr := .doze, power := { waking := some 1 } }
      (fun v => v.sys = .ready ∧ v.gatedPower = true ∧ v.entering = none ∧ v.power.waking ≠ none
        ∧ v.wakeReady = true))
    ∧
    (Now m0 dev
      (fun v => v.sys ≠ .off ∧ v.sys ≠ .fault ∧ v.sys ≠ .safe ∧ v.pwr ≠ .offAon))
    ∧
    (Now m0 { dev with sys := .fault, power := { reduced := false } }
      (fun v => v.sys = .fault ∧ v.power.reduced = false))
    ∧
    (Now m0 { dev with sys := .safe }
      (fun v => v.sys = .safe)) := by
  and_intros <;> ((try unfold Now); (try beta_reduce); decide +kernel)

theorem test_PowerRows_met_by_parts :
    (∃ (u : State), Now m0 { dev with power := { hven := 0x80 } }
      ((fun (k : Fin 8) (v : State) => v.power.hven.getLsbD k.val = true ∧ u = v.hvFail k.val Rc.hvLost false
        ∧ ((u.inForce.hvs.get {} k.val).failFault = false ∨ u.sys.armedState = false))
      7))
    ∧
    (∃ (u : State), Now m0 { dev with sys := .armed, base := { hvs := [(7, { failFault := true })] }, power := { hven := 0x80 } }
      ((fun (k : Fin 8) (v : State) => v.power.hven.getLsbD k.val = true ∧ u = v.hvFail k.val Rc.hvLost false
        ∧ (u.inForce.hvs.get {} k.val).failFault = true ∧ u.sys.armedState = true)
      7)) :=
  ⟨
    ⟨_, by decide +kernel, rfl, by decide +kernel⟩,
    ⟨_, by decide +kernel, rfl, by decide +kernel, by decide +kernel⟩
  ⟩

theorem test_ThermalRows_met :
    (Now ⟨0, 1023⟩ dev
      ((fun (_ : TempReadings) (v : State) => v.aon < v.therm.sampleAt + 1024)
      { die := List.replicate 16 none, tk0 := some 359, tk1 := some 359, hbm := none }))
    ∧
    (Now m0 { dev with therm := { valid := 0, validity := [(15, 4)] } }
      ((fun (i : Fin 16) (v : State) => 4 ≤ v.therm.validity.get 0 i.val ∧ v.therm.valid.getLsbD i.val = false)
      15))
    ∧
    (Now m0 { dev with therm := { gradCount := 4 } }
      (fun v => 4 ≤ v.therm.gradCount))
    ∧
    (Now m0 { dev with therm := { domains := [(1, { up := 4, level := 2 })] } }
      ((fun (d : Fin 2) (v : State) => 4 ≤ (v.dom d.val).up ∧ (v.dom d.val).level < 3)
      1))
    ∧
    (Now m0 { dev with therm := { domains := [(1, { up := 3, down := 4, level := 1 })] } }
      ((fun (d : Fin 2) (v : State) => (v.dom d.val).up < 4 ∧ 4 ≤ (v.dom d.val).down ∧ 0 < (v.dom d.val).level)
      1))
    ∧
    (Now m0 { dev with therm := { hbmLost := false, hbmMissing := 4 } }
      (fun v => 4 ≤ v.therm.hbmMissing ∧ v.therm.hbmLost = false))
    ∧
    (Now m0 { dev with therm := { dieVotes := 4 } }
      (fun v => v.sys ≠ .off ∧ v.sys ≠ .safe ∧ 4 ≤ v.therm.dieVotes))
    ∧
    (Now m0 { dev with therm := { dieVotes := 3, hbmVotes := 4 } }
      (fun v => v.sys ≠ .off ∧ v.sys ≠ .safe ∧ v.therm.dieVotes < 4 ∧ 4 ≤ v.therm.hbmVotes))
    ∧
    (Now ⟨0, 10240000⟩ { dev with sys := .safe, therm := { limited := false, coolSince := some 0, restarts := [1, 2] } }
      ((fun (t : Nat) (v : State) => v.sys = .safe ∧ v.therm.coolSince = some t ∧ t + 10240000 ≤ v.aon
        ∧ v.therm.limited = false ∧ v.recentRestarts.length < 3)
      0))
    ∧
    (Now ⟨0, 10240000⟩ { dev with sys := .safe, therm := { limited := false, coolSince := some 0, restarts := [1, 2, 3] } }
      ((fun (t : Nat) (v : State) => v.sys = .safe ∧ v.therm.coolSince = some t ∧ t + 10240000 ≤ v.aon
        ∧ v.therm.limited = false ∧ 3 ≤ v.recentRestarts.length)
      0)) := by
  and_intros <;> ((try unfold Now); (try beta_reduce); decide +kernel)

theorem test_ThermalRows_met_by_parts :
    (∃ (u : State), Now ⟨0, 1024⟩ { dev with sys := .safe }
      ((fun (r : TempReadings) (a b : Nat) (v : State) => v.sys ≠ .off ∧ v.therm.sampleAt + 1024 ≤ v.aon
        ∧ u = ({ v with therm := { v.therm with sampleAt := v.aon } }.sampleTk 16 r.tk0).sampleTk 17 r.tk1
        ∧ u.sys = .safe ∧ u.therm.tk0 = some a ∧ u.therm.tk1 = some b ∧ a < 360 ∧ b < 360 ∧ u.therm.coolSince = none)
      { die := List.replicate 16 none, tk0 := some 359, tk1 := some 359, hbm := none } 359 359))
    ∧
    (∃ (u : State), Now ⟨0, 1024⟩ { dev with therm := { valid := 0 } }
      ((fun (r : TempReadings) (v : State) => v.sys ≠ .off ∧ v.therm.sampleAt + 1024 ≤ v.aon
        ∧ u = ({ v with therm := { v.therm with sampleAt := v.aon } }.sampleTk 16 r.tk0).sampleTk 17 r.tk1
        ∧ u.sys ≠ .safe ∧ u.underTest 21 = false)
      { die := List.replicate 16 none, tk0 := some 359, tk1 := some 359, hbm := none })) :=
  ⟨
    ⟨_, by decide +kernel, by decide +kernel, rfl, by decide +kernel, by decide +kernel, by decide +kernel, by decide +kernel, by decide +kernel, by decide +kernel⟩,
    ⟨_, by decide +kernel, by decide +kernel, rfl, by decide +kernel, by decide +kernel⟩
  ⟩

theorem test_AxisRows_met :
    (Now m0 { dev with axes := [(7, { motion := .stopped })] }
      ((fun (n : Fin 8) (a b : List Bool) (v : State) => v.axesRun = true ∧ (axisRec v.inForce n.val).ssi = false
        ∧ (v.axis n.val).motion ≠ .disabled
        ∧ quadDelta (v.axis n.val).levelA (v.axis n.val).levelB (filtered (axisRec v.inForce n.val).filterDepth (v.axis n.val).levelA a) (filtered (axisRec v.inForce n.val).filterDepth (v.axis n.val).levelB b) = some 0)
      7 default default))
    ∧
    (Now m0 { dev with axes := [(7, { motion := .stopped })] }
      ((fun (n : Fin 8) (a b : List Bool) (v : State) => v.axesRun = true ∧ (axisRec v.inForce n.val).ssi = false
        ∧ (v.axis n.val).motion ≠ .disabled
        ∧ quadDelta (v.axis n.val).levelA (v.axis n.val).levelB (filtered (axisRec v.inForce n.val).filterDepth (v.axis n.val).levelA a) (filtered (axisRec v.inForce n.val).filterDepth (v.axis n.val).levelB b) = none)
      7 [false, false, false] [false, false, false]))
    ∧
    (Now m0 { dev with axes := [(7, { motion := .stopped })] }
      ((fun (n : Fin 8) (a b : List Bool) (d : Int) (v : State) => v.axesRun = true
        ∧ (axisRec v.inForce n.val).ssi = false ∧ (v.axis n.val).motion ≠ .disabled
        ∧ quadDelta (v.axis n.val).levelA (v.axis n.val).levelB (filtered (axisRec v.inForce n.val).filterDepth (v.axis n.val).levelA a) (filtered (axisRec v.inForce n.val).filterDepth (v.axis n.val).levelB b) = some d ∧ d ≠ 0 ∧ (axisRec v.inForce n.val).invert = false)
      7 [false, false, false] [] 1))
    ∧
    (Now m0 { dev with axes := [(7, { motion := .stopped })], base := { axes := [(7, { invert := true })] } }
      ((fun (n : Fin 8) (a b : List Bool) (d : Int) (v : State) => v.axesRun = true
        ∧ (axisRec v.inForce n.val).ssi = false ∧ (v.axis n.val).motion ≠ .disabled
        ∧ quadDelta (v.axis n.val).levelA (v.axis n.val).levelB (filtered (axisRec v.inForce n.val).filterDepth (v.axis n.val).levelA a) (filtered (axisRec v.inForce n.val).filterDepth (v.axis n.val).levelB b) = some d ∧ d ≠ 0 ∧ (axisRec v.inForce n.val).invert = true)
      7 [false, false, false] [] 1))
    ∧
    (Now m0 { dev with sys := .safe }
      ((fun (_ : Fin 8) (_ _ : List Bool) (v : State) => v.axesRun = false)
      7 default default))
    ∧
    (Now m0 { dev with axes := [(7, { motion := .stopped })] }
      ((fun (n : Fin 8) (z : List Bool) (v : State) => v.axesRun = true ∧ (axisRec v.inForce n.val).ssi = false
        ∧ (v.axis n.val).motion ≠ .disabled
        ∧ (filtered (axisRec v.inForce n.val).filterDepth (v.axis n.val).levelZ z) = (v.axis n.val).levelZ)
      7 default))
    ∧
    (Now m0 { dev with axes := [(7, { motion := .stopped, reverse := true })] }
      ((fun (n : Fin 8) (z : List Bool) (v : State) => v.axesRun = true ∧ (axisRec v.inForce n.val).ssi = false
        ∧ (v.axis n.val).motion ≠ .disabled
        ∧ (filtered (axisRec v.inForce n.val).filterDepth (v.axis n.val).levelZ z) ≠ (v.axis n.val).levelZ
        ∧ (filtered (axisRec v.inForce n.val).filterDepth (v.axis n.val).levelZ z) ≠ (v.axis n.val).reverse
        ∧ (v.axis n.val).preset = none ∧ (v.axis n.val).prevIndex = none)
      7 [false, false, false]))
    ∧
    (Now m0 { dev with axes := [(7, { motion := .stopped, reverse := true, preset := some (0x80, none) })] }
      ((fun (n : Fin 8) (z : List Bool) (x : Word) (o : Option Nat) (v : State) => v.axesRun = true
        ∧ (axisRec v.inForce n.val).ssi = false ∧ (v.axis n.val).motion ≠ .disabled
        ∧ (filtered (axisRec v.inForce n.val).filterDepth (v.axis n.val).levelZ z) ≠ (v.axis n.val).levelZ
        ∧ (filtered (axisRec v.inForce n.val).filterDepth (v.axis n.val).levelZ z) ≠ (v.axis n.val).reverse
        ∧ (v.axis n.val).preset = some (x, o))
      7 [false, false, false] 0x80 none))
    ∧
    (Now m0 { dev with sys := .safe }
      ((fun (_ : Fin 8) (_ : List Bool) (v : State) => v.axesRun = false)
      7 default))
    ∧
    (Now ⟨400, 0⟩ { dev with axes := [(7, { motion := .stopped })], base := { axes := [(7, { ssi := true, ssiFrame := 400 })] } }
      ((fun (n : Fin 8) (v : State) => v.axesRun = true ∧ (axisRec v.inForce n.val).ssi = true
        ∧ (v.axis n.val).motion ≠ .disabled ∧ (v.axis n.val).ssiPhase = .idle
        ∧ v.tick % (axisRec v.inForce n.val).ssiFrame = 0 ∧ (v.axis n.val).ssiReady ≤ v.tick)
      7))
    ∧
    (Now ⟨400, 0⟩ { dev with axes := [(7, { motion := .stopped })], base := { axes := [(7, { ssi := true, ssiFrame := 400 })] } }
      ((fun (n : Fin 8) (v : State) => v.axesRun = true ∧ (axisRec v.inForce n.val).ssi = true
        ∧ (v.axis n.val).motion ≠ .disabled ∧ (v.axis n.val).ssiPhase = .idle
        ∧ v.tick % (axisRec v.inForce n.val).ssiFrame = 0 ∧ (v.axis n.val).ssiReady ≤ v.tick ∧ v.follows = false
        ∧ v.pinsHeld = false)
      7))
    ∧
    (Now m0 { dev with sys := .safe }
      ((fun (_ : Fin 8) (_ : Bool) (v : State) => v.axesRun = false)
      7 true))
    ∧
    (Now ⟨400, 0⟩ { dev with axes := [(7, { ssiPhase := .waiting 0 })], base := { axes := [(7, { ssi := true, ssiTimeout := 1 })] } }
      ((fun (n : Fin 8) (_ : List Bool) (_ : Bool) (t : Nat) (v : State) => v.axesRun = true
        ∧ (v.axis n.val).ssiPhase = .waiting t ∧ t + (axisRec v.inForce n.val).ssiTimeout * 400 ≤ v.tick)
      7 [] true 0))
    ∧
    (Now ⟨360, 0⟩ { dev with axes := [(7, { ssiPhase := .shifting 0 })], base := { axes := [(7, { ssi := true, ssiBits := 8, ssiHalf := 20 })] } }
      ((fun (n : Fin 8) (l : List Bool) (e : Bool) (t k : Nat) (v : State) => v.axesRun = true
        ∧ (v.axis n.val).ssiPhase = .shifting t
        ∧ t + 2 * (axisRec v.inForce n.val).ssiHalf * (ssiBitsTotal (axisRec v.inForce n.val) + 1) + (axisRec v.inForce n.val).ssiSample ≤ v.tick ∧ l.length = ssiBitsTotal (axisRec v.inForce n.val) ∧ ssiDefect (axisRec v.inForce n.val) (v.axis n.val).ssiPrev l e = some k)
      7 (List.replicate 8 true) false 0 2))
    ∧
    (Now ⟨360, 0⟩ { dev with axes := [(7, { ssiPhase := .shifting 0 })], base := { axes := [(7, { ssi := true, ssiBits := 8, ssiHalf := 20 })] } }
      ((fun (n : Fin 8) (l : List Bool) (e : Bool) (t : Nat) (v : State) => v.axesRun = true
        ∧ (v.axis n.val).ssiPhase = .shifting t
        ∧ t + 2 * (axisRec v.inForce n.val).ssiHalf * (ssiBitsTotal (axisRec v.inForce n.val) + 1) + (axisRec v.inForce n.val).ssiSample ≤ v.tick ∧ l.length = ssiBitsTotal (axisRec v.inForce n.val) ∧ ssiDefect (axisRec v.inForce n.val) (v.axis n.val).ssiPrev l e = none ∧ (v.axis n.val).motion ≠ .faulted ∧ (v.axis n.val).ssiPrev = none)
      7 (List.replicate 8 true) true 0))
    ∧
    (Now ⟨360, 0⟩ { dev with axes := [(7, { ssiPhase := .shifting 0, ssiPrev := some 254 })], base := { axes := [(7, { ssi := true, ssiBits := 8, ssiHalf := 20, ssiMaxStep := 1 })] } }
      ((fun (n : Fin 8) (l : List Bool) (e : Bool) (t p : Nat) (v : State) => v.axesRun = true
        ∧ (v.axis n.val).ssiPhase = .shifting t
        ∧ t + 2 * (axisRec v.inForce n.val).ssiHalf * (ssiBitsTotal (axisRec v.inForce n.val) + 1) + (axisRec v.inForce n.val).ssiSample ≤ v.tick ∧ l.length = ssiBitsTotal (axisRec v.inForce n.val) ∧ ssiDefect (axisRec v.inForce n.val) (v.axis n.val).ssiPrev l e = none ∧ (v.axis n.val).motion ≠ .faulted ∧ (v.axis n.val).ssiPrev = some p ∧ ahead (axisRec v.inForce n.val).ssiBits p (ssiValue (axisRec v.inForce n.val) l) ≠ 0)
      7 (List.replicate 8 true) true 0 254))
    ∧
    (Now ⟨399, 0⟩ { dev with axes := [(7, { ssiPhase := .waiting 0 })], base := { axes := [(7, { ssi := true, ssiTimeout := 1 })] } }
      ((fun (n : Fin 8) (t : Nat) (v : State) => v.axesRun = true ∧ (v.axis n.val).ssiPhase = .waiting t
        ∧ v.tick < t + (axisRec v.inForce n.val).ssiTimeout * 400 ∧ v.follows = false ∧ v.pinsHeld = false)
      7 0))
    ∧
    (Now ⟨399, 0⟩ { dev with pair := { unitS := true, state := .paired }, axes := [(7, { ssiPhase := .waiting 0 })], base := { axes := [(7, { ssi := true, ssiTimeout := 1 })] } }
      ((fun (n : Fin 8) (t : Nat) (v : State) => v.axesRun = true ∧ (v.axis n.val).ssiPhase = .waiting t
        ∧ v.tick < t + (axisRec v.inForce n.val).ssiTimeout * 400 ∧ v.follows = true ∧ v.pinsHeld = true)
      7 0))
    ∧
    (Now m0 { dev with axes := [(7, { motion := .forward, windowWhole := true, windowEdges := 1 })] }
      ((fun (n : Fin 8) (v : State) => v.axesRun = true ∧ (v.axis n.val).motion = .forward
        ∧ (v.axis n.val).windowEnd ≤ v.tick ∧ (v.axis n.val).windowWhole = true ∧ (v.axis n.val).windowEdges ≠ 0)
      7))
    ∧
    (Now m0 { dev with axes := [(7, { motion := .forward, windowWhole := true, emptyWindows := 1 })] }
      ((fun (n : Fin 8) (v : State) => v.axesRun = true ∧ (v.axis n.val).motion = .forward
        ∧ (v.axis n.val).windowEnd ≤ v.tick ∧ (v.axis n.val).windowWhole = true ∧ (v.axis n.val).windowEdges = 0
        ∧ 1 ≤ (v.axis n.val).emptyWindows ∧ v.follows = false)
      7))
    ∧
    (Now m0 { dev with sys := .safe }
      ((fun (_ : Fin 8) (v : State) => v.axesRun = false)
      7))
    ∧
    (Now m0 { dev with holdoffs := [{ key := ⟨0, 0, 0⟩, until_ := 0, last := { code := 0, objClass := 0, objId := 0 }, waiting := none }] }
      ((fun (k : EventKey) (h : Holdoff) (v : State) => v.holdoffs.find? (fun h => h.key == k) = some h
        ∧ h.until_ ≤ v.aon ∧ h.waiting = none)
      (⟨0, 0, 0⟩) { key := ⟨0, 0, 0⟩, until_ := 0, last := { code := 0, objClass := 0, objId := 0 }, waiting := none }))
    ∧
    (Now m0 { dev with holdoffs := [{ key := ⟨0, 0, 0⟩, until_ := 0, last := { code := 0, objClass := 0, objId := 0 }, waiting := some { code := 0, objClass := 0, objId := 1 } }] }
      ((fun (k : EventKey) (h : Holdoff) (b : EventBody) (v : State) => v.holdoffs.find? (fun h => h.key == k) = some h ∧ h.until_ ≤ v.aon ∧ h.waiting = some b ∧ v.currentBody k b ≠ h.last)
      (⟨0, 0, 0⟩) { key := ⟨0, 0, 0⟩, until_ := 0, last := { code := 0, objClass := 0, objId := 0 }, waiting := some { code := 0, objClass := 0, objId := 1 } } { code := 0, objClass := 0, objId := 1 }))
    ∧
    (Now ⟨8, 0⟩ { dev with base := { echoes := [(3, { enable := true })] }, echoes := [(3, { pending := 1 })] }
      ((fun (k : Fin 4) (v : State) => v.axesRun = true ∧ (echoRec v.inForce k.val).enable = true
        ∧ (v.echo k.val).stopped = false ∧ 0 < (v.echo k.val).pending
        ∧ (v.echo k.val).lastStep + (echoRec v.inForce k.val).minEdge ≤ v.tick
        ∧ (v.echo k.val).since + 3 ≤ v.tick ∧ v.pinsHeld = false)
      3))
    ∧
    (Now ⟨8, 0⟩ { dev with base := { echoes := [(3, { enable := true })] }, echoes := [(3, { pending := -1 })] }
      ((fun (k : Fin 4) (v : State) => v.axesRun = true ∧ (echoRec v.inForce k.val).enable = true
        ∧ (v.echo k.val).stopped = false ∧ (v.echo k.val).pending < 0
        ∧ (v.echo k.val).lastStep + (echoRec v.inForce k.val).minEdge ≤ v.tick
        ∧ (v.echo k.val).since + 3 ≤ v.tick ∧ v.pinsHeld = false)
      3))
    ∧
    (Now m0 { dev with sys := .ready, pwr := .doze, base := { wake := { edges := 2 } }, power := { wakeAxes := 0x80 } }
      ((fun (n : Fin 8) (v : State) => v.timeRuns = false ∧ v.sys = .ready
        ∧ v.power.wakeAxes.getLsbD n.val = true ∧ (v.axis n.val).wakeCount + 1 ≠ v.inForce.wake.edges)
      7))
    ∧
    (Now m0 { dev with sys := .ready, power := { waking := none, wakeAxes := 0x80 }, pwr := .doze, base := { wake := { edges := 1 }, power := { wakeMask := 2 } } }
      ((fun (n : Fin 8) (v : State) => v.timeRuns = false ∧ v.sys = .ready
        ∧ v.power.wakeAxes.getLsbD n.val = true ∧ (v.axis n.val).wakeCount + 1 = v.inForce.wake.edges
        ∧ v.inForce.power.wakeMask.getLsbD 1 = true ∧ v.power.waking = none
        ∧ (v.setAxis n.val { (v.axis n.val) with wakeCount := (v.axis n.val).wakeCount + 1 }).lowerAxisWakes n.val = false)
      7))
    ∧
    (Now m0 { dev with sys := .ready, pwr := .doze, power := { wakeAxes := 0x81 }, base := { wake := { edges := 1 } }, pending := [.motionWakeTransition m0 0] }
      ((fun (n : Fin 8) (v : State) => v.timeRuns = false ∧ v.sys = .ready
        ∧ v.power.wakeAxes.getLsbD n.val = true
        ∧ (v.setAxis n.val { (v.axis n.val) with wakeCount := (v.axis n.val).wakeCount + 1 }).lowerAxisWakes n.val = true)
      7))
    ∧
    (Now ⟨0, 1024⟩ { dev with sys := .ready, pwr := .doze, base := { wake := { window := 1 } } }
      (fun v => v.timeRuns = false ∧ v.sys = .ready ∧ v.inForce.wake.window ≠ 0
        ∧ v.wakeAt + v.inForce.wake.window * 1024 ≤ v.aon)) := by
  and_intros <;> ((try unfold Now); (try beta_reduce); decide +kernel)

theorem test_FiringRows_met :
    (Now m0 dev
      (fun v => v.tick % 64 = 0 ∧ v.linkRuns = true ∧ v.follows = false ∧ v.leadsPair = false))
    ∧
    (Now m0 { dev with pair := { state := .paired } }
      (fun v => v.tick % 64 = 0 ∧ v.linkRuns = true ∧ v.follows = false ∧ v.leadsPair = true))
    ∧
    (Now ⟨1, 0⟩ dev
      (fun v => (v.tick % 64 ≠ 0 ∨ v.linkRuns = false)))
    ∧
    (Now m0 { dev with pair := { unitS := true, state := .paired } }
      (fun v => v.tick % 64 = 0 ∧ v.linkRuns = true ∧ v.follows = true))
    ∧
    (Now ⟨20000000, 0⟩ { dev with base := { tgEn := [(15, true)] } }
      ((fun (b : Fin 16) (v : State) => v.linkRuns = true ∧ v.underTest 15 = false ∧ v.underTest 16 = false
        ∧ v.inForce.enabledBar b.val = true
        ∧ v.tick % ((trigRec v.inForce (v.inForce.trigOf b.val)).ticklePeriod * 400) = 0
        ∧ v.keepAliveActive (v.inForce.trigOf b.val) = true ∧ (v.trig (v.inForce.trigOf b.val)).lines = []
        ∧ v.barMotion b.val ≠ .forward)
      15))
    ∧
    (Now m0 dev
      ((fun (b : Fin 16) (v : State) => (v.linkRuns = false ∨ v.tick % ((trigRec v.inForce (v.inForce.trigOf b.val)).ticklePeriod * 400) ≠ 0 ∨ v.keepAliveActive (v.inForce.trigOf b.val) = false ∨ (v.trig (v.inForce.trigOf b.val)).lines ≠ [] ∨ v.underTest 15 = true ∨ v.underTest 16 = true ∨ v.inForce.enabledBar b.val = false))
      15))
    ∧
    (Now ⟨0, 10240000⟩ { dev with base := { tgEn := [(15, true)] } }
      ((fun (b : Fin 16) (v : State) => v.barEnabled b.val = true ∧ (v.rbar b.val).dryRisk = false
        ∧ (v.rbar b.val).lastEject + (trigRec v.inForce (v.inForce.trigOf b.val)).dryTime * 1024000 ≤ v.aon)
      15))
    ∧
    (Now m0 { dev with base := { trigouts := [(7, { enable := true })] }, trigouts := [(7, { asserted := true })] }
      ((fun (k : Fin 8) (v : State) => (trigoutRec v.inForce k.val).event < 4
        ∧ (trigoutRec v.inForce k.val).enable = true ∧ (v.trigoutOf k.val).asserted = true
        ∧ (∀ p ∈ (v.trigoutOf k.val).pulses, p.2 ≤ v.tick) ∧ v.pinsHeld = false)
      7))
    ∧
    (Now m0 { dev with base := { trigouts := [(7, { enable := true })] }, trigouts := [(7, { pulses := [(0, 1)] })] }
      ((fun (k : Fin 8) (p : Nat × Nat) (v : State) => (trigoutRec v.inForce k.val).event < 4
        ∧ (trigoutRec v.inForce k.val).enable = true ∧ (v.trigoutOf k.val).asserted = false
        ∧ (v.trigoutOf k.val).pulses = [p] ∧ p.1 ≤ v.tick ∧ v.tick < p.2 ∧ v.pinsHeld = false)
      7 (0, 1)))
    ∧
    (Now m0 { dev with trigs := [(15, { lines := [{ line := 0, hit := 0, fire := 0, lineTime := 0, period := 0 }] })] }
      ((fun (b : Fin 16) (l : TLine) (v : State) => (v.trig (v.inForce.trigOf b.val)).lines.find? (fun l => !l.held && decide (l.fire < 16 * (v.tick + 1))) = some l ∧ (∀ p ∈ (v.trig (v.inForce.trigOf b.val)).pulses, 16 * (v.tick + 1) ≤ p.fire))
      15 { line := 0, hit := 0, fire := 0, lineTime := 0, period := 0 }))
    ∧
    (Now m0 { dev with trigs := [(15, { pulses := [{ kind := .spit, fire := 0, waves := [] }] })] }
      ((fun (b : Fin 16) (p : Pulse) (v : State) => (v.trig (v.inForce.trigOf b.val)).lines = []
        ∧ (v.trig (v.inForce.trigOf b.val)).pulses.find? (fun p => decide (p.fire < 16 * (v.tick + 1))) = some p)
      15 { kind := .spit, fire := 0, waves := [] }))
    ∧
    (Now m0 dev
      ((fun (_ : Fin 16) (_ : State) => True)
      15)) := by
  and_intros <;> ((try unfold Now); (try beta_reduce); decide +kernel)

theorem test_RasterRows_met :
    (Now m0 { dev with raster := [(15, { prepared := List.replicate 8 { line := 0, ext := 0, ports := [], waves := [] } })] }
      ((fun (b : Fin 16) (v : State) => 8 ≤ linesAhead (v.rbar b.val))
      15))
    ∧
    (Now m0 { dev with ports := [(31, { buffered := List.replicate 8 { bar := 15, line := 0, strobed := false } })] }
      ((fun (b : Fin 16) (p : Fin 32) (v : State) => 8 ≤ (bufferedLines (v.port p.val) b.val).length)
      15 31))
    ∧
    (Now m0 { dev with sys := .upsett }
      (fun v => v.rotateWaiting.decodes = false))
    ∧
    (Now m0 { dev with raster := [(15, { waitsIndex := some (63, 0) })], base := { planes := [(63, plane0)] }, mem := { hbm := [(13, 1)] } }
      ((fun (b : Fin 16) (p c : Nat) (r : PlaneRec) (v : State) => (v.rbar b.val).waitsIndex = some (p, c)
        ∧ Table.find? v.inForce.planes p = some r ∧ (indexEntryOf (v.indexBytesOf r c)).valid = true)
      15 63 0 plane0))
    ∧
    (Now m0 { dev with raster := [(15, { waitsIndex := some (63, 0) })], base := { planes := [(63, plane0)] } }
      ((fun (b : Fin 16) (p c : Nat) (r : PlaneRec) (v : State) => (v.rbar b.val).waitsIndex = some (p, c)
        ∧ Table.find? v.inForce.planes p = some r ∧ (indexEntryOf (v.indexBytesOf r c)).valid = false)
      15 63 0 plane0)) := by
  and_intros <;> ((try unfold Now); (try beta_reduce); decide +kernel)

theorem test_RasterRows_met_by_parts :
    (∃ (u : State), Now m0 { dev with sys := .printing, raster := [(15, { next := some 0, lastTicket := some 0 })] }
      ((fun (b : Fin 16) (x : Int) (v : State) => (v.sys = .printing ∨ v.sys = .paused)
        ∧ (v.rbar b.val).lastTicket ≠ none ∧ linesAhead (v.rbar b.val) < 8 ∧ u = v.takeData b.val
        ∧ (u.rbar b.val).due = some x ∧ u.badRows (u.cfgFor b.val (BitVec.ofInt 32 x)) b.val x = [])
      15 0))
    ∧
    (∃ (u : State), Now m0 { dev with raster := [(15, { prepared := [{ line := 0, ext := 0, ports := [{ port := 31, vectors := [], withheld := false }], waves := [] }] })], base := { ports := [(31, { enable := true })] }, ports := [(31, { state := .up })] }
      ((fun (b : Fin 16) (p : Fin 32) (l : PrepLine) (all : List (Nat × List Byte)) (v : State) => (v.rbar b.val).prepared.find? (fun l => l.ports.any (fun q => q.port == p.val && !q.sent)) = some l ∧ v.portServes p.val = true ∧ (bufferedLines (v.port p.val) b.val).length < 8 ∧ all = (l.ports.filter (fun q => q.port == p.val)).flatMap (·.vectors) ∧ u = v.setRbar b.val { (v.rbar b.val) with prepared := (v.rbar b.val).prepared.map (fun m =>
      if m.ext = l.ext then { m with ports := m.ports.map (fun q => if q.port == p.val then { q with sent := true } else q) } else m) })
      15 31 { line := 0, ext := 0, ports := [{ port := 31, vectors := [], withheld := false }], waves := [] } []))
    ∧
    (∃ (q : State) (w : State), Now m0 { dev with raster := [(15, { next := some 0 })], base := printCfg, mem := { hbm := [(13, 3)] } }
      ((fun (b : Nat) (k : Int) (p c : Nat) (r : PlaneRec) (u : Nat) (v : State) => q = v.rotateWaiting
        ∧ q.decodes = true
        ∧ leastClaim (q.claims.filter (fun (c : Nat × Int × Nat × Nat) => (q.takeUnit c.1).isSome)) = some (b, k, p, c) ∧ Table.find? q.inForce.planes p = some r ∧ (indexEntryOf (q.indexBytesOf r c)).valid = true ∧ (indexEntryOf (q.indexBytesOf r c)).empty = true ∧ q.takeUnit b = some (u, w))
      15 (-32000) 63 0 plane0 0))
    ∧
    (∃ (q : State), Now m0 { dev with raster := [(15, { next := some 0 })], base := printCfg }
      ((fun (b : Nat) (k : Int) (p c : Nat) (r : PlaneRec) (v : State) => q = v.rotateWaiting ∧ q.decodes = true
        ∧ leastClaim (q.claims.filter (fun (c : Nat × Int × Nat × Nat) => (q.takeUnit c.1).isSome)) = some (b, k, p, c) ∧ Table.find? q.inForce.planes p = some r ∧ (indexEntryOf (q.indexBytesOf r c)).valid = false)
      15 (-32000) 63 0 plane0))
    ∧
    (∃ (q : State), Now m0 { dev with raster := [(15, { next := some 0 })], base := printCfg, plait := { units := [(0, { bar := 15, plane := 62, block := 0 }), (1, { bar := 15, plane := 62, block := 0 }), (2, { bar := 15, plane := 62, block := 0 }), (3, { bar := 15, plane := 62, block := 0 })] }, mem := { hbm := [(13, 1)] } }
      (fun v => q = v.rotateWaiting ∧ q.decodes = true ∧ (∀ c ∈ q.claims, q.takeUnit c.1 = none)))
    ∧
    (∃ (q : State) (w : State), Now m0 { dev with raster := [(15, { next := some 0 })], base := printCfg, mem := { hbm := [(13, 1)] } }
      ((fun (b : Nat) (k : Int) (p c : Nat) (r : PlaneRec) (u : Nat) (v : State) => q = v.rotateWaiting
        ∧ q.decodes = true
        ∧ leastClaim (q.claims.filter (fun (c : Nat × Int × Nat × Nat) => (q.takeUnit c.1).isSome)) = some (b, k, p, c) ∧ Table.find? q.inForce.planes p = some r ∧ (indexEntryOf (q.indexBytesOf r c)).valid = true ∧ (indexEntryOf (q.indexBytesOf r c)).empty = false ∧ q.takeUnit b = some (u, w))
      15 (-32000) 63 0 plane0 0))
    ∧
    (∃ (q : State), Now m0 dev
      (fun v => q = v.rotateWaiting ∧ q.decodes = true
        ∧ leastClaim (q.claims.filter (fun (c : Nat × Int × Nat × Nat) => (q.takeUnit c.1).isSome)) = none)) :=
  ⟨
    ⟨_, by decide +kernel, by decide +kernel, by decide +kernel, rfl, by decide +kernel, by decide +kernel⟩,
    ⟨_, by decide +kernel, by decide +kernel, by decide +kernel, by decide +kernel, rfl⟩,
    ⟨_, _, rfl, by decide +kernel, by decide +kernel, by decide +kernel, by decide +kernel, by decide +kernel, rfl⟩,
    ⟨_, rfl, by decide +kernel, by decide +kernel, by decide +kernel, by decide +kernel⟩,
    ⟨_, rfl, by decide +kernel, by decide +kernel⟩,
    ⟨_, _, rfl, by decide +kernel, by decide +kernel, by decide +kernel, by decide +kernel, by decide +kernel, rfl⟩,
    ⟨_, rfl, by decide +kernel, by decide +kernel⟩
  ⟩

theorem test_CodecRows_met :
    (Now m0 dev
      ((fun (b : Fin 16) (v : State) => v.decodes = true ∧ (v.rbar b.val).parked = [])
      15))
    ∧
    (Now m0 { dev with base := { planes := [(63, plane0)] }, planes := [(63, { peer := [(0, 0)] })] }
      ((fun (p : Fin 64) (c : Nat) (r : PlaneRec) (v : State) => Table.find? v.inForce.planes p.val = some r
        ∧ (v.plane p.val).peer.any (fun q => q.1 == c) = true)
      63 0 plane0))
    ∧
    (Now m0 dev
      ((fun (p : Fin 64) (c : Nat) (_ : Option (List Byte)) (v : State) => (v.plane p.val).peer.any (fun q => q.1 == c) = false)
      63 0 default))
    ∧
    (Now ⟨40000, 0⟩ { dev with base := { planes := [(63, plane0)] }, planes := [(63, { peer := [(0, 0)] })] }
      ((fun (p : Fin 64) (q : Nat × Nat) (r : PlaneRec) (v : State) => (v.plane p.val).peer.find? (fun q => decide (q.2 + 40000 ≤ v.tick)) = some q ∧ Table.find? v.inForce.planes p.val = some r)
      63 (0, 0) plane0))
    ∧
    (Now m0 dev
      ((fun (p : Fin 64) (v : State) => (∀ q ∈ (v.plane p.val).peer, v.tick < q.2 + 40000))
      63))
    ∧
    (Now m0 dev
      ((fun (p : Fin 64) (_ : Nat) (v : State) => Table.find? v.inForce.planes p.val = none)
      63 0))
    ∧
    (Now m0 dev
      ((fun (k : Fin 16) (v : State) => (v.session k.val).captured = none)
      15))
    ∧
    (Now m0 { dev with pwr := .doze, plait := { sessions := [(15, { captured := some plane0 })] } }
      ((fun (k : Fin 16) (r : PlaneRec) (v : State) => (v.session k.val).captured = some r ∧ v.linkRuns = false)
      15 plane0))
    ∧
    (Now m0 { dev with plait := { sessions := [(15, { state := .opened, captured := some plane0, raw := List.replicate 2048 0 })] } }
      ((fun (k : Fin 16) (r : PlaneRec) (v : State) => (v.session k.val).captured = some r
        ∧ rowWaits (v.session k.val) = true ∧ 0 < v.activeCount 2 ∧ v.linkRuns = true ∧ v.underTest 19 = false)
      15 plane0)) := by
  and_intros <;> ((try unfold Now); (try beta_reduce); decide +kernel)

theorem test_CodecRows_met_by_parts :
    (Now m0 { dev with base := printCfg, raster := [(15, { next := some 0 })], plait := { units := [(4, { bar := 15, plane := 63, block := 0, entry := [0, 16, 0, 0, 0, 0, 0, 0, 16, 0, 0, 0, 64, 1, 0, 0] })] } }
      ((fun (u : Fin 5) (w : Work) (r : PlaneRec) (d : Decoded) (v : State) => Table.find? v.plait.units u.val = some w ∧ w.suspended = false ∧ v.decodes = true ∧ Table.find? v.inForce.planes w.plane = some r ∧ v.decodeStep r w = .done d)
      4 { bar := 15, plane := 63, block := 0, entry := [0, 16, 0, 0, 0, 0, 0, 0, 16, 0, 0, 0, 64, 1, 0, 0] } plane0 (⟨[], Rc.headerMismatch, [], {}, true⟩)))
    ∧
    (Now m0 { dev with base := printCfg, raster := [(15, { next := some 0 })], plait := { units := [(4, { bar := 15, plane := 63, block := 0 })] } }
      ((fun (u : Fin 5) (w : Work) (r : PlaneRec) (v : State) => Table.find? v.plait.units u.val = some w
        ∧ w.suspended = false ∧ v.decodes = true ∧ Table.find? v.inForce.planes w.plane = some r
        ∧ v.decodeStep r w = .empty)
      4 { bar := 15, plane := 63, block := 0 } plane0))
    ∧
    (Now m0 { dev with base := printCfg, raster := [(15, { next := some 0 })], plait := { units := [(4, { bar := 15, plane := 63, block := 0, entry := [0, 16, 0, 0, 0, 0, 0, 0, 0, 0, 0, 0, 64, 1, 0, 0] })] } }
      ((fun (u : Fin 5) (w : Work) (r : PlaneRec) (c : Reason) (v : State) => Table.find? v.plait.units u.val = some w ∧ w.suspended = false ∧ v.decodes = true ∧ Table.find? v.inForce.planes w.plane = some r ∧ v.decodeStep r w = .bad c)
      4 { bar := 15, plane := 63, block := 0, entry := [0, 16, 0, 0, 0, 0, 0, 0, 0, 0, 0, 0, 64, 1, 0, 0] } plane0 Rc.indexEntryInvalid))
    ∧
    (Now m0 { dev with base := printCfg, plait := { units := [(4, { bar := 15, plane := 63, block := 0 })] } }
      ((fun (u : Fin 5) (w : Work) (r : PlaneRec) (d : Decoded) (v : State) => Table.find? v.plait.units u.val = some w ∧ w.suspended = false ∧ v.decodes = true ∧ Table.find? v.inForce.planes w.plane = some r ∧ v.decodeStep r w = .suspend d)
      4 { bar := 15, plane := 63, block := 0 } plane0 (⟨[], 0, [], {}, false⟩)))
    ∧
    (∃ (u : State), Now m0 { dev with base := printCfg, raster := [(15, { next := some 0 })], planes := [(63, { peer := [(0, 0)] })] }
      ((fun (p : Fin 64) (c : Nat) (bs : List Byte) (r : PlaneRec) (d : Decoded) (v : State) => Table.find? v.inForce.planes p.val = some r ∧ (v.plane p.val).peer.any (fun q => q.1 == c) = true ∧ u = v.setPlane p.val { v.plane p.val with peer := (v.plane p.val).peer.filter (fun q => q.1 != c) } ∧ u.decodeStep r { bar := r.bar, plane := p.val, block := c, peerBytes := some bs } = .done d)
      63 0 [] plane0 (⟨[], Rc.headerMismatch, [], {}, true⟩)))
    ∧
    (∃ (e : IndexEntry), Now m0 { dev with base := { planes := [(63, plane0)] }, mem := { hbm := [(1, 16), (8, 1), (12, 64), (13, 1)] } }
      ((fun (p : Fin 64) (c : Nat) (r : PlaneRec) (v : State) => Table.find? v.inForce.planes p.val = some r
        ∧ e = indexEntryOf (v.indexBytesOf r c) ∧ c < planeBlocks r ∧ e.valid = true ∧ e.empty = false
        ∧ indexInvalid r c e = false ∧ v.poisoned 2 e.offset e.length = false)
      63 0 plane0)) :=
  ⟨
    ⟨by decide +kernel, by decide +kernel, by decide +kernel, by decide +kernel, eq_of_isDone (by decide +kernel)⟩,
    ⟨by decide +kernel, by decide +kernel, by decide +kernel, by decide +kernel, rfl⟩,
    ⟨by decide +kernel, by decide +kernel, by decide +kernel, by decide +kernel, rfl⟩,
    ⟨by decide +kernel, by decide +kernel, by decide +kernel, by decide +kernel, rfl⟩,
    ⟨_, by decide +kernel, by decide +kernel, rfl, eq_of_isDone (by decide +kernel)⟩,
    ⟨_, by decide +kernel, rfl, by decide +kernel, by decide +kernel, by decide +kernel, by decide +kernel, by decide +kernel⟩
  ⟩

theorem test_CaneRows_met :
    (Now m0 { dev with ports := [(31, { state := .electrical })] }
      ((fun (p : Fin 32) (v : State) => (v.port p.val).state = .electrical)
      31))
    ∧
    (Now m0 dev
      ((fun (p : Fin 32) (v : State) => (v.port p.val).state ≠ .electrical)
      31))
    ∧
    (Now m0 { dev with ports := [(31, { state := .blockLock })] }
      ((fun (p : Fin 32) (_ : Bool) (v : State) => (v.port p.val).state = .blockLock)
      31 true))
    ∧
    (Now m0 dev
      ((fun (_ : Fin 32) (_ : State) => True)
      31))
    ∧
    (Now m0 { dev with ports := [(31, { state := .rimLock, rims := 3 })] }
      ((fun (p : Fin 32) (_ _ : Bool) (v : State) => (v.port p.val).state = .rimLock ∧ (v.port p.val).rims = 3)
      31 true true))
    ∧
    (Now m0 { dev with ports := [(31, { state := .rimLock })] }
      ((fun (p : Fin 32) (_ _ : Bool) (v : State) => (v.port p.val).state = .rimLock)
      31 true true))
    ∧
    (Now m0 { dev with ports := [(31, { state := .up })] }
      ((fun (p : Fin 32) (v : State) => (v.port p.val).state = .up)
      31))
    ∧
    (Now ⟨240000, 0⟩ { dev with ports := [(31, { state := .electrical })] }
      ((fun (p : Fin 32) (us : Nat) (v : State) => trainTimeoutUs (v.port p.val).state = some us
        ∧ (v.port p.val).since + us * 400 ≤ v.tick)
      31 600))
    ∧
    (Now m0 dev
      ((fun (p : Fin 32) (v : State) => (v.port p.val).state = .down ∧ v.underTest (11 + p.val / 16) = false
        ∧ (v.port p.val).retry = false)
      31))
    ∧
    (Now ⟨3999999, 0⟩ { dev with ports := [(31, { retry := true })] }
      ((fun (p : Fin 32) (v : State) => (v.port p.val).state = .down ∧ (v.port p.val).retry = true
        ∧ v.tick < (v.port p.val).since + 4000000)
      31))
    ∧
    (Now m0 { dev with ports := [(31, { state := .up })] }
      ((fun (p : Fin 32) (x : Sts) (v : State) => (v.port p.val).state = .up ∧ x.source = (v.port p.val).source
        ∧ x.fault = false ∧ headFlags x = 0)
      31 sts0))
    ∧
    (Now m0 { dev with ports := [(31, { state := .hello })] }
      ((fun (p : Fin 32) (x : Sts) (v : State) => (v.port p.val).state = .hello
        ∧ x.source = (v.port p.val).source ∧ x.fault = false ∧ headFlags x = 0 ∧ x.protocol = 1 ∧ 8 ≤ x.bufferLines)
      31 sts0))
    ∧
    (Now m0 { dev with ports := [(31, { state := .hello })] }
      ((fun (p : Fin 32) (x : Sts) (v : State) => (v.port p.val).state = .hello
        ∧ x.source = (v.port p.val).source ∧ x.fault = false ∧ headFlags x = 0 ∧ x.bufferLines < 8)
      31 { sts0 with bufferLines := 7 }))
    ∧
    (Now m0 dev
      ((fun (p : Fin 32) (_ : Nat) (_ : List HltRec) (v : State) => (v.port p.val).state ≠ .up)
      31 0 default))
    ∧
    (Now m0 dev
      ((fun (p : Fin 32) (k _ _ _ : Nat) (v : State) => (v.port p.val).unacked.find? (fun f => f.seq == k) = none)
      31 0 0 0 0))
    ∧
    (Now m0 { dev with ports := [(31, { unacked := [{ seq := 0, body := .tsy 0 0 0, sentAt := 0 }] })] }
      ((fun (p : Fin 32) (k _ _ _ q t : Nat) (e : Int) (f : TxFrame) (v : State) => (v.port p.val).unacked.find? (fun f => f.seq == k) = some f ∧ f.body = .tsy q t e)
      31 0 0 0 0 0 0 0 { seq := 0, body := .tsy 0 0 0, sentAt := 0 }))
    ∧
    (Now m0 { dev with ports := [(31, { unacked := [{ seq := 0, body := .tsy 0 0 0, sentAt := 0 }] })] }
      ((fun (p : Fin 32) (k _ : Nat) (f : TxFrame) (v : State) => (v.port p.val).unacked.find? (fun f => f.seq == k) = some f)
      31 0 0 { seq := 0, body := .tsy 0 0 0, sentAt := 0 }))
    ∧
    (Now m0 dev
      ((fun (p : Fin 32) (k _ : Nat) (v : State) => (v.port p.val).unacked.find? (fun f => f.seq == k) = none)
      31 0 0))
    ∧
    (Now ⟨100000, 0⟩ { dev with ports := [(31, { unacked := [{ seq := 0, body := .tsy 0 0 0, sentAt := 0 }] })] }
      ((fun (p : Fin 32) (k : Nat) (f : TxFrame) (v : State) => (v.port p.val).unacked.find? (fun f => f.seq == k) = some f ∧ f.sentAt + frameTicks f.body + 1600 ≤ v.tick ∧ (∀ g ∈ (v.port p.val).waiting, ¬ (g.rank = 3 ∧ g.seq = k)))
      31 0 { seq := 0, body := .tsy 0 0 0, sentAt := 0 }))
    ∧
    (Now ⟨1600, 0⟩ { dev with ports := [(31, { unacked := [{ seq := 0, body := .tsy 0 0 0, sentAt := 0 }] })] }
      ((fun (p : Fin 32) (k : Nat) (f : TxFrame) (v : State) => (v.port p.val).unacked.find? (fun f => f.seq == k) = some f ∧ v.tick < f.sentAt + frameTicks f.body + 1600)
      31 0 { seq := 0, body := .tsy 0 0 0, sentAt := 0 }))
    ∧
    (Now m0 { dev with ports := [(31, { state := .up, unacked := [{ seq := 0, body := .noz 15 0 0 0 [], sentAt := 0 }] })], trigs := [(15, { lines := [{ line := 0, hit := 0, fire := 0, lineTime := 0, period := 0 }] })], base := { heads := [(0, { bar := 15, port := 31 })], bars := [(15, { trigger := 15 })], ports := [(31, { enable := true })] } }
      ((fun (p : Fin 32) (b : Fin 16) (l : Word) (f : Nat) (v : State) => v.lineFire b.val l = some f
        ∧ f ≤ 16 * v.tick + 12800 ∧ v.portServes p.val = true ∧ (v.inForce.portsOf b.val).contains p.val = true
        ∧ (b.val, l) ∉ (v.port p.val).lateFor ∧ v.nozOpen p.val b.val l = true)
      31 15 0 0))
    ∧
    (Now m0 { dev with raster := [(15, { prepared := [{ line := 0, ext := 0, ports := [], waves := [] }] })] }
      ((fun (p : Fin 32) (b : Fin 16) (l : Word) (v : State) => (v.nozOpen p.val b.val l = false ∨ v.portServes p.val = false))
      31 15 0))
    ∧
    (Now m0 dev
      ((fun (_ : Fin 32) (b : Fin 16) (l : Word) (v : State) => v.lineFire b.val l = none)
      31 15 0))
    ∧
    (Now ⟨400000, 0⟩ { dev with ports := [(31, { state := .up })] }
      ((fun (p : Fin 32) (v : State) => ((v.port p.val).state = .up ∨ (v.port p.val).state = .config)
        ∧ (v.port p.val).lastTsy + (portRec v.inForce p.val).tsyPeriod * 400000 ≤ v.tick)
      31))
    ∧
    (Now ⟨4000, 0⟩ { dev with ports := [(31, { state := .tsyAlign })] }
      ((fun (p : Fin 32) (v : State) => (v.port p.val).state = .tsyAlign ∧ (v.port p.val).lastTsy + 4000 ≤ v.tick)
      31))
    ∧
    (Now m0 dev
      (fun v => v.catchUps = []))
    ∧
    (Now m0 { dev with catchUps := [{ bars := [(15, 0, 1)], frames := [(31, 1, [0])] }] }
      ((fun (c : CatchUp) (v : State) => v.catchUps = [c] ∧ c.sent = false
        ∧ (∀ f ∈ c.frames, (v.port f.1).state ≠ .up ∧ (v.port f.1).state ≠ .config)
        ∧ (∀ x ∈ c.bars, v.bankOf x.1 ≠ x.2.2 ∧ (v.trig (v.inForce.trigOf x.1)).pulses = [] ∧
      (∀ l ∈ (v.trig (v.inForce.trigOf x.1)).lines, l.bank ≠ x.2.2) ∧ (∀ f ∈ v.fires, f.1 = x.1 → f.2 ≤ v.tick)))
      { bars := [(15, 0, 1)], frames := [(31, 1, [0])] }))
    ∧
    (Now m0 { dev with catchUps := [{ bars := [(15, 0, 1)], frames := [(31, 1, [0])] }], ports := [(31, { state := .up })] }
      ((fun (c : CatchUp) (a h : Nat) (w : List Byte) (v : State) => v.catchUps = [c] ∧ c.sent = false
        ∧ c.frames = [(a, h, w)] ∧ (v.port a).state = .up ∧ (∀ x ∈ c.bars, v.bankOf x.1 ≠ x.2.2
        ∧ (v.trig (v.inForce.trigOf x.1)).pulses = [] ∧
      (∀ l ∈ (v.trig (v.inForce.trigOf x.1)).lines, l.bank ≠ x.2.2) ∧ (∀ f ∈ v.fires, f.1 = x.1 → f.2 ≤ v.tick)))
      { bars := [(15, 0, 1)], frames := [(31, 1, [0])] } 31 1 [0]))
    ∧
    (Now m0 dev
      (fun v => (∀ c ∈ v.catchUps, c.sent = true))) := by
  and_intros <;> ((try unfold Now); (try beta_reduce); decide +kernel)

theorem test_CaneRows_met_by_parts :
    (∃ (u : State), Now m0 { dev with ports := [(31, { state := .up })] }
      ((fun (p : Fin 32) (k : Nat) (_ : List HltRec) (v : State) => (v.port p.val).state = .up
        ∧ u = v.sendFrame p.val (.ack [k]) ∧ u.healthLeads = true)
      31 0 []))
    ∧
    (∃ (x : State), Now m0 { dev with catchUps := [{ bars := [(15, 0, 1)], frames := [(31, 1, [0])] }], ports := [(31, { state := .up })] }
      ((fun (c : CatchUp) (a : Nat × Nat) (l : List (Nat × Nat)) (v : State) => v.catchUps = [c] ∧ c.sent = false
        ∧ v.sendCfg false c.frames = (x, a :: l) ∧ (∀ x ∈ c.bars, v.bankOf x.1 ≠ x.2.2
        ∧ (v.trig (v.inForce.trigOf x.1)).pulses = [] ∧
      (∀ l ∈ (v.trig (v.inForce.trigOf x.1)).lines, l.bank ≠ x.2.2) ∧ (∀ f ∈ v.fires, f.1 = x.1 → f.2 ≤ v.tick)))
      { bars := [(15, 0, 1)], frames := [(31, 1, [0])] } (31, 0) []))
    ∧
    (∃ (x : State), Now m0 { dev with catchUps := [{ bars := [(15, 0, 1)], frames := [(31, 1, [0])] }], ports := [(31, { state := .config })] }
      ((fun (c : CatchUp) (a h : Nat) (w : List Byte) (v : State) => v.catchUps = [c] ∧ c.sent = false
        ∧ c.frames = [(a, h, w)] ∧ (v.port a).state = .config ∧ x = v.sendAs 5 a (.cfg h w)
        ∧ (∀ x ∈ c.bars, v.bankOf x.1 ≠ x.2.2 ∧ (v.trig (v.inForce.trigOf x.1)).pulses = [] ∧
      (∀ l ∈ (v.trig (v.inForce.trigOf x.1)).lines, l.bank ≠ x.2.2) ∧ (∀ f ∈ v.fires, f.1 = x.1 → f.2 ≤ v.tick)))
      { bars := [(15, 0, 1)], frames := [(31, 1, [0])] } 31 1 [0])) :=
  ⟨
    ⟨_, by decide +kernel, rfl, by decide +kernel⟩,
    ⟨_, by decide +kernel, by decide +kernel, rfl, by decide +kernel⟩,
    ⟨_, by decide +kernel, by decide +kernel, by decide +kernel, by decide +kernel, rfl, by decide +kernel⟩
  ⟩

theorem test_HealthRows_met :
    (Now m0 { dev with health := { queue := [] } }
      (fun v => v.health.queue = []))
    ∧
    (Now m0 { dev with health := { queue := [(31, { localHead := 7, nozzle := 8191, line := 0, samples := List.replicate 32 0 })] }, base := { heads := [(255, { bar := 15, port := 31, localHead := 7, rows := 8, perRow := 1024 })] } }
      ((fun (p : Nat) (x : HltRec) (l : List (Nat × HltRec)) (h : Nat) (r : HeadRec) (v : State) => v.health.queue = (p, x) :: l ∧ v.activeCount 3 ≠ 0 ∧ v.linkRuns = true ∧ headAt v.inForce p x.localHead = some (h, r) ∧ x.nozzle < r.rows * r.perRow ∧ (refRec v.inForce h (x.nozzle / r.perRow)).amp = 0)
      31 { localHead := 7, nozzle := 8191, line := 0, samples := List.replicate 32 0 } [] 255 { bar := 15, port := 31, localHead := 7, rows := 8, perRow := 1024 }))
    ∧
    (Now m0 { dev with health := { queue := [(31, { localHead := 7, nozzle := 8191, line := 0, samples := List.replicate 32 0 })] }, base := { heads := [(255, { bar := 15, port := 31, localHead := 7, rows := 8, perRow := 1024 })], refs := [(2047, { amp := 2048 })] } }
      ((fun (p : Nat) (x : HltRec) (l : List (Nat × HltRec)) (h : Nat) (r : HeadRec) (v : State) => v.health.queue = (p, x) :: l ∧ v.activeCount 3 ≠ 0 ∧ v.linkRuns = true ∧ headAt v.inForce p x.localHead = some (h, r) ∧ x.nozzle < r.rows * r.perRow ∧ (refRec v.inForce h (x.nozzle / r.perRow)).amp ≠ 0)
      31 { localHead := 7, nozzle := 8191, line := 0, samples := List.replicate 32 0 } [] 255 { bar := 15, port := 31, localHead := 7, rows := 8, perRow := 1024 }))
    ∧
    (Now m0 dev
      ((fun (i : Nat) (v : State) => (∀ x ∈ v.health.requests, x.1 ≠ i))
      0))
    ∧
    (Now ⟨0, 1024000⟩ { dev with health := { requests := [(2097151, 0)] } }
      ((fun (i : Nat) (x : Nat × Nat) (r : HeadRec) (v : State) => v.health.requests.find? (fun x => x.1 == i) = some x ∧ r = headRec v.inForce (i / 8192) ∧ v.stage = 0 ∧ v.linkRuns = true ∧ v.healthLeads = true ∧ x.2 + (policyRec v.inForce r.bar).reqTimeout * 1024 ≤ v.aon)
      2097151 (2097151, 0) {}))
    ∧
    (Now m0 dev
      (fun v => (v.sset 16).staged = []))
    ∧
    (Now m0 { dev with sets := [(16, { staged := List.replicate 256 (.axisEnable 0 true) })] }
      (fun v => (v.sset 16).staged ≠ [] ∧ (v.sset 16).submitted = [] ∧ v.healthLeads = true
        ∧ 256 ≤ (v.sset 16).staged.length ∧ (∀ t, v.health.refusedAt = some t → t + 20480 ≤ v.aon)
        ∧ v.validAuto (v.sset 16).staged = ((v.sset 16).staged, [])))
    ∧
    (Now ⟨0, 10240⟩ dev
      (fun v => v.healthLeads = true ∧ v.linkRuns = true ∧ v.health.lastLoop + 10240 ≤ v.aon))
    ∧
    (Now m0 dev
      (fun v => v.aon < v.health.lastLoop + 10240)) := by
  and_intros <;> ((try unfold Now); (try beta_reduce); decide +kernel)

theorem test_PairRows_met :
    (Now ⟨2000000, 0⟩ { dev with pair := { trainFrom := some 0, state := .training } }
      ((fun (t : Nat) (v : State) => v.pair.trainFrom = some t ∧ v.pair.state = .training ∧ t + 2000000 ≤ v.tick)
      0))
    ∧
    (Now m0 dev
      (fun v => v.pair.state ≠ .training ∧ (v.pair.state ≠ .syncing ∨ v.sys ≠ .upsett)))
    ∧
    (Now ⟨2000000, 0⟩ { dev with pair := { state := .syncing, trainFrom := some 0 }, sys := .upsett }
      ((fun (t : Nat) (v : State) => v.pair.trainFrom = some t ∧ v.pair.state = .syncing ∧ v.sys = .upsett
        ∧ t + 2000000 ≤ v.tick)
      0))
    ∧
    (Now ⟨40000000, 0⟩ { dev with pair := { trainFrom := some 0 } }
      ((fun (t : Nat) (v : State) => v.pair.state = .unpaired ∧ v.pair.trainFrom = some t ∧ t + 40000000 ≤ v.tick
        ∧ v.mayTrain = true ∧ v.sys.operating = true)
      0))
    ∧
    (Now ⟨39999999, 0⟩ { dev with pair := { trainFrom := some 0 } }
      ((fun (t : Nat) (v : State) => v.pair.trainFrom = some t ∧ v.tick < t + 40000000)
      0))
    ∧
    (Now ⟨400, 0⟩ { dev with pair := { state := .paired } }
      (fun v => v.inPair = true ∧ v.pairRuns = true ∧ v.pinsHeld = false ∧ v.pair.lastToggle + 400 ≤ v.tick))
    ∧
    (Now ⟨400, 0⟩ { dev with pair := { unitS := true, state := .paired } }
      (fun v => v.inPair = true ∧ v.pairRuns = true ∧ v.pinsHeld = true ∧ v.pair.lastToggle + 400 ≤ v.tick))
    ∧
    (Now ⟨8000, 0⟩ { dev with pair := { unitS := true, state := .paired } }
      (fun v => v.inPair = true ∧ v.pairRuns = true ∧ v.pinsHeld = true ∧ v.pair.lastMsg + 8000 ≤ v.tick))
    ∧
    (Now ⟨7999, 0⟩ { dev with pair := { unitS := true, state := .paired } }
      (fun v => v.inPair = true ∧ v.pairRuns = true ∧ v.pinsHeld = true ∧ v.tick < v.pair.lastMsg + 8000))
    ∧
    (Now ⟨8000, 0⟩ { dev with pair := { state := .paired } }
      (fun v => v.inPair = true ∧ v.pairRuns = true ∧ v.pinsHeld = false ∧ v.pair.lastMsg + 8000 ≤ v.tick))
    ∧
    (Now ⟨7999, 0⟩ { dev with pair := { state := .paired } }
      (fun v => v.inPair = true ∧ v.pairRuns = true ∧ v.pinsHeld = false ∧ v.tick < v.pair.lastMsg + 8000))
    ∧
    (Now m0 { dev with pair := { unitS := true, state := .paired } }
      (fun v => v.inPair = true ∧ v.pinsHeld = true))
    ∧
    (Now m0 dev
      (fun v => (v.inPair = false ∨ v.pinsHeld = false)))
    ∧
    (Now m0 { dev with pair := { unitS := true, state := .paired } }
      ((fun (_ : Nat) (v : State) => v.inPair = true)
      0))
    ∧
    (Now m0 dev
      ((fun (_ : Nat) (_ : Control) (v : State) => v.inPair = false)
      0 .heartbeat))
    ∧
    (Now m0 { dev with pair := { unitS := true, state := .paired } }
      ((fun (_ _ : Nat) (v : State) => v.inPair = true ∧ v.leadsPair = false)
      0 0x8000))
    ∧
    (Now m0 { dev with pair := { state := .paired } }
      ((fun (_ : Nat) (v : State) => v.inPair = true ∧ v.leadsPair = true)
      0))
    ∧
    (Now ⟨320, 0⟩ { dev with pair := { unitS := true, state := .paired } }
      (fun v => v.follows = true ∧ v.pair.lastControl + 320 ≤ v.tick))
    ∧
    (Now ⟨319, 0⟩ dev
      (fun v => v.tick < v.pair.lastControl + 320))
    ∧
    (Now m0 { dev with pair := { stateEvents := [] } }
      (fun v => v.pair.stateEvents = []))
    ∧
    (Now m0 { dev with pair := { stateEvents := [(.armed, 0, .peer)] } }
      ((fun (e : StateEvent) (t : Nat) (o : Origin) (l : List (StateEvent × Nat × Origin)) (v : State) => v.pair.stateEvents = (e, t, o) :: l ∧ t ≤ v.tick ∧ (v.follows = true → t ≤ v.pair.streamClosed))
      .armed 0 .peer []))
    ∧
    (Now m0 dev
      (fun v => (∀ e ∈ v.pair.stateEvents, v.tick < e.2.1)))
    ∧
    (Now m0 { dev with pair := { ceilNext := [(0x8000, 0)] } }
      ((fun (c t : Nat) (l : List (Nat × Nat)) (v : State) => v.pair.ceilNext = (c, t) :: l ∧ t ≤ v.tick)
      0x8000 0 []))
    ∧
    (Now m0 { dev with pair := { ceilNext := [(0x8000, 1)] } }
      ((fun (c t : Nat) (l : List (Nat × Nat)) (v : State) => v.pair.ceilNext = (c, t) :: l ∧ v.tick < t)
      0x8000 1 []))
    ∧
    (Now ⟨400000, 0⟩ { dev with pair := { state := .paired } }
      (fun v => v.leadsPair = true ∧ v.pair.lastTempSend + 400000 ≤ v.tick))
    ∧
    (Now m0 dev
      ((fun (_ _ _ _ : Nat) (v : State) => (v.inPair = false ∨ v.pinsHeld = false))
      0 0 0 0))
    ∧
    (Now m0 { dev with pair := { unitS := true, state := .paired, timeAligned := true, counterSet := true } }
      ((fun (_ _ k : Nat) (v : State) => v.inPair = true ∧ v.pinsHeld = true ∧ k ≤ 6 ∧ v.pair.counterSet = true
        ∧ v.pair.timeAligned = true)
      0 0 6)) := by
  and_intros <;> ((try unfold Now); (try beta_reduce); decide +kernel)

theorem test_PairRows_met_by_parts :
    (Now m0 { dev with pair := { trainFrom := some 0 } }
      ((fun (h : Hello) (c : Reason) (t : Nat) (v : State) => (v.pairRuns = false ∨ v.pair.lanes = 0)
        ∧ v.pair.trainFrom = some t ∧ v.mayTrain = true ∧ v.helloRole h = .error c)
      { pairIdHigh := true, serial := 0, rev := 0, fw := 0x010000, lc := 1, hostBoth := false, acting := false, contiguous := false, sysState := 2 } Rc.pairIncompatible 0))
    ∧
    (∃ (w : State), Now m0 { dev with pair := { trainFrom := some 0 } }
      ((fun (h : Hello) (t : Nat) (v : State) => (v.pairRuns = false ∨ v.pair.lanes = 0)
        ∧ v.pair.trainFrom = some t ∧ v.mayTrain = true ∧ v.helloRole h = .ok true
        ∧ w = State.takeRole v { v with pair := { v.pair with
      unitS := false, promoted := false, lanes := 0xFF, twinSerial := h.serial
      trainFrom := if v.sys == .upsett then v.pair.trainFrom else none
      srcKept := v.pair.promoted || v.pair.srcKept, counterSet := false, slew := 0, motions := [], ceilPast := []
      twinContiguous := h.contiguous, twinSys := h.sysState, twinFault := 0, lastMsg := v.tick, lastPin := v.tick
      lastControl := v.tick, streamClosed := v.tick, edges := [], consec := [], consecMax := 0, resyncFails := 0
      fallback := false, timeAligned := false, goodAlign := 0, selfWithdrawn := false
      ceilTwin := 0x8000, ceilNext := [], temps := [], joins := [], ownDigests := [], twinDigests := [] } })
      { pairIdHigh := true, serial := 0, rev := 0x000001B0, fw := 0x010000, lc := 1, hostBoth := false, acting := false, contiguous := false, sysState := 2 } 0)) :=
  ⟨
    ⟨by decide +kernel, by decide +kernel, by decide +kernel, rfl⟩,
    ⟨_, by decide +kernel, by decide +kernel, by decide +kernel, rfl, rfl⟩
  ⟩

theorem test_MirrorRows_met :
    (Now m0 dev
      ((fun (_ : List Change) (v : State) => v.mirrors = false)
      default))
    ∧
    (Now m0 { dev with pair := { state := .paired } }
      ((fun (_ : Bool) (v : State) => v.leadsPair = true)
      true))
    ∧
    (Now m0 dev
      ((fun (_ : Bool) (v : State) => v.leadsPair = false)
      true))
    ∧
    (Now m0 dev
      ((fun (_ : Word) (_ : List (Nat × Word)) (v : State) => v.mirrors = false)
      0 default))
    ∧
    (Now m0 { dev with pair := { unitS := true, state := .paired } }
      ((fun (_ : Word) (_ : List (Nat × Word)) (v : State) => v.mirrors = true ∧ v.pair.prepared = none)
      0 default))
    ∧
    (Now m0 { dev with pair := { unitS := true, state := .paired, prepared := some [] }, trigs := [(15, { haveLast := true })] }
      ((fun (_ : Word) (l : List (Nat × Word)) (c : List Change) (v : State) => v.mirrors = true
        ∧ v.pair.prepared = some c ∧ v.ticketedPast l = true)
      0 [(15, 0)] []))
    ∧
    (Now m0 { dev with pair := { unitS := true, state := .paired, prepared := some [] } }
      ((fun (_ : Word) (l : List (Nat × Word)) (c : List Change) (v : State) => v.mirrors = true
        ∧ v.pair.prepared = some c ∧ v.ticketedPast l = false)
      0 [] []))
    ∧
    (Now ⟨800000, 0⟩ { dev with held := [{ held0 with prepared := true }] }
      ((fun (h : Held) (l : List Held) (v : State) => v.held = h :: l ∧ h.prepared = true ∧ h.ready = false
        ∧ h.since.tick + 800000 ≤ v.tick)
      { held0 with prepared := true } []))
    ∧
    (Now m0 { dev with held := [] }
      (fun v => v.held = []))
    ∧
    (Now m0 { dev with pair := { state := .paired, ownDigests := [{ bar := 15, port := 31, line := 0, digest := 0, excluded := false, closed := 0 }] } }
      ((fun (b : Fin 16) (p : Fin 32) (i d : Word) (x : Bool) (o : Digest) (v : State) => (v.pair.state = .paired ∨ v.pair.state = .syncing) ∧ v.comparesLine b.val i = true ∧ v.pair.ownDigests.find? (sameLine { bar := b.val, port := p.val, line := i, digest := d, excluded := x, closed := v.tick }) = some o)
      15 31 0 0 false { bar := 15, port := 31, line := 0, digest := 0, excluded := false, closed := 0 }))
    ∧
    (Now m0 { dev with pair := { state := .paired } }
      ((fun (b : Fin 16) (p : Fin 32) (i d : Word) (x : Bool) (v : State) => (v.pair.state = .paired ∨ v.pair.state = .syncing) ∧ v.comparesLine b.val i = true ∧ v.pair.ownDigests.find? (sameLine { bar := b.val, port := p.val, line := i, digest := d, excluded := x, closed := v.tick }) = none)
      15 31 0 0 true))
    ∧
    (Now m0 { dev with pair := { joins := [(15, 1)] } }
      ((fun (b : Fin 16) (_ : Fin 32) (i _ : Word) (_ : Bool) (v : State) => v.comparesLine b.val i = false)
      15 31 0 0 true))
    ∧
    (Now m0 { dev with pair := { ownDigests := [], twinDigests := [] } }
      ((fun (_ : Fin 16) (_ : Fin 32) (_ : Word) (v : State) => v.pair.ownDigests = [] ∧ v.pair.twinDigests = [])
      15 31 0))
    ∧
    (Now ⟨800000, 0⟩ { dev with pair := { ownDigests := [{ bar := 15, port := 31, line := 0, digest := 0, excluded := false, closed := 0 }] } }
      ((fun (b : Fin 16) (p : Fin 32) (i : Word) (d : Digest) (v : State) => v.pair.ownDigests = [d]
        ∧ v.pair.twinDigests = [] ∧ d.bar = b.val ∧ d.port = p.val ∧ d.line = i ∧ d.excluded = false
        ∧ d.closed + 800000 ≤ v.tick)
      15 31 0 { bar := 15, port := 31, line := 0, digest := 0, excluded := false, closed := 0 }))
    ∧
    (Now m0 dev
      ((fun (_ : Snapshot) (v : State) => (v.pinsHeld = false ∨ v.pair.state ≠ .syncing))
      { cfg := {}, health := [], gens := [], joins := [], histories := [], banks := [] }))
    ∧
    (Now m0 { dev with pair := { unitS := true, state := .syncing } }
      ((fun (_ : Snapshot) (v : State) => v.pinsHeld = true ∧ v.pair.state = .syncing)
      { cfg := {}, health := [], gens := [], joins := [], histories := [], banks := [] }))
    ∧
    (Now ⟨20000000, 0⟩ { dev with pair := { resyncFrom := some 0, state := .syncing, resyncFails := 1 } }
      ((fun (t : Nat) (v : State) => v.pair.resyncFrom = some t ∧ v.pair.state = .syncing ∧ t + 20000000 ≤ v.tick
        ∧ v.pair.resyncFails < 2)
      0))
    ∧
    (Now ⟨20000000, 0⟩ { dev with pair := { resyncFrom := some 0, state := .syncing, resyncFails := 2 } }
      ((fun (t : Nat) (v : State) => v.pair.resyncFrom = some t ∧ v.pair.state = .syncing ∧ t + 20000000 ≤ v.tick
        ∧ 2 ≤ v.pair.resyncFails)
      0))
    ∧
    (Now m0 { dev with pair := { resyncFrom := none } }
      (fun v => v.pair.resyncFrom = none))
    ∧
    (Now m0 { dev with pair := { unitS := true, state := .paired } }
      ((fun (a : Nat) (l : List Byte) (v : State) => v.inPair = true ∧ v.pinsHeld = true
        ∧ v.pair.hostBoth = false ∧ a + l.length ≤ hbmUserEnd)
      0x5DFFFFFFF [0]))
    ∧
    (Now m0 { dev with pair := { hostBoth := true } }
      ((fun (_ : Nat) (_ : List Byte) (v : State) => v.pair.hostBoth = true)
      0 []))
    ∧
    (Now m0 { dev with pair := { state := .withdrawn } }
      ((fun (_ : Word) (_ : LogBody) (v : State) => v.pairRuns = true)
      0 (bootEntry 0)))
    ∧
    (Now m0 dev
      ((fun (_ : Word) (_ : LogBody) (v : State) => v.pairRuns = false)
      0 (bootEntry 0))) := by
  and_intros <;> ((try unfold Now); (try beta_reduce); decide +kernel)

theorem test_MirrorRows_met_by_parts :
    (∃ (w : State), Now m0 { dev with pair := { unitS := true, state := .paired }, otp := { lc := .virgin } }
      ((fun (l : List Change) (e : Refused) (v : State) => v.mirrors = true
        ∧ w = State.noteCheck { v.undoPrepare with pair := { v.undoPrepare.pair with preparing := some (l, false, []), prepared := none } } ∧ w.judge .peer .set l = some e)
      [] (⟨Rc.notPermittedInLifecycle, Cls.system, 0, []⟩)))
    ∧
    (∃ (w x : State), Now m0 { dev with pair := { unitS := true, state := .paired } }
      ((fun (l : List Change) (v : State) => v.mirrors = true
        ∧ w = State.noteCheck { v.undoPrepare with pair := { v.undoPrepare.pair with preparing := some (l, false, []), prepared := none } } ∧ w.judge .peer .set l = none ∧ w.catchUpDue (w.preload w.accepted (w.accepted.applyAll l)) = false ∧ w.bankBusy w.accepted (w.accepted.applyAll l) = false ∧ w.sendCfg true (w.preload w.accepted (w.accepted.applyAll l)) = (x, []))
      []))
    ∧
    (∃ (w x : State), Now m0 { dev with pair := { unitS := true, state := .paired }, ports := [(31, { state := .up })] }
      ((fun (l : List Change) (a : Nat × Nat) (m : List (Nat × Nat)) (v : State) => v.mirrors = true
        ∧ w = State.noteCheck { v.undoPrepare with pair := { v.undoPrepare.pair with preparing := some (l, false, []), prepared := none } } ∧ w.judge .peer .set l = none ∧ w.catchUpDue (w.preload w.accepted (w.accepted.applyAll l)) = false ∧ w.bankBusy w.accepted (w.accepted.applyAll l) = false ∧ w.sendCfg true (w.preload w.accepted (w.accepted.applyAll l)) = (x, a :: m))
      [.head 0 { bar := 15, port := 31 }] (31, 0) [])) :=
  ⟨
    ⟨_, by decide +kernel, rfl, by decide +kernel⟩,
    ⟨_, _, by decide +kernel, rfl, by decide +kernel, by decide +kernel, by decide +kernel, rfl⟩,
    ⟨_, _, by decide +kernel, rfl, by decide +kernel, by decide +kernel, by decide +kernel, rfl⟩
  ⟩

theorem test_MemoryAndDmaRows_met :
    (Now m0 dev
      ((fun (_ : Fin 3) (_ : List MemError) (v : State) => v.linkRuns = true ∧ v.sys ≠ .off ∧ v.sys ≠ .safe)
      2 default))
    ∧
    (Now m0 dev
      (fun v => v.linkRuns = true ∧ v.sys ≠ .off ∧ v.sys ≠ .safe))
    ∧
    (Now m0 dev
      ((fun (a : Nat) (v : State) => a < 0xB80000 ∧ v.regionAllows 0 (a / 8 * 8) 8 .write = true)
      0))
    ∧
    (Now m0 { dev with mem := { regions := (List.range 96).map (fun i => (i, {})) } }
      ((fun (a : Nat) (v : State) => a < 0xB80000 ∧ v.regionAllows 0 (a / 8 * 8) 8 .write = false)
      0))
    ∧
    (Now m0 { dev with sys := .upsett }
      (fun v => v.rotateWaiting.dmaRuns = false))
    ∧
    (Now m0 { dev with dma := [(24, { state := .running, unit := some 0 }), (25, { state := .running, unit := some 1 }), (26, { state := .running, unit := some 2 }), (27, { state := .running, unit := some 3 }), (31, { state := .preempted, priority := 1 })] }
      ((fun (w x : Nat) (v : State) => v.dmaRuns = true ∧ v.freeDmaUnit = none ∧ v.bestWaiting = some w
        ∧ v.victim = some x ∧ (v.chan32 x).priority < (v.chan32 w).priority)
      31 24))
    ∧
    (Now m0 { dev with dma := [(24, { state := .running, unit := some 0 }), (25, { state := .running, unit := some 1 }), (26, { state := .running, unit := some 2 }), (27, { state := .running, unit := some 3 }), (31, { state := .preempted, priority := 0 })] }
      ((fun (w x : Nat) (v : State) => v.bestWaiting = some w ∧ v.victim = some x
        ∧ (v.chan32 w).priority ≤ (v.chan32 x).priority)
      31 24))
    ∧
    (Now m0 dev
      (fun v => (v.dmaRuns = false ∨ v.freeDmaUnit ≠ none)))
    ∧
    (Now m0 dev
      (fun v => v.dmaRuns = true))
    ∧
    (Now m0 { dev with dma := [(27, { fetching := some (0, .out 0), gather := { next := some 0 } })] }
      ((fun (c : Fin 32) (a : Nat) (r : Completion) (k t : Nat) (v : State) => (v.chan32 c.val).fetching = some (k, .out t) ∧ answerRead a r (v.chan32 c.val).reads = none ∧ a = ((v.chan32 c.val).list k).next.getD 0 / 32 * 32)
      27 0 .error 0 0))
    ∧
    (Now m0 { dev with dma := [(27, { fetching := some (0, .out 0), gather := { next := some 0 } })] }
      ((fun (c : Fin 32) (a : Nat) (r : Completion) (k t : Nat) (v : State) => (v.chan32 c.val).fetching = some (k, .out t) ∧ answerRead a r (v.chan32 c.val).reads = none ∧ a ≠ ((v.chan32 c.val).list k).next.getD 0 / 32 * 32)
      27 32 .error 0 0))
    ∧
    (Now ⟨40000, 0⟩ { dev with dma := [(27, { state := .running, memRead := some 0, reads := [{ n := 1, len := 1, reply := .got [0] }], scatter := { cur := some { address := 0, length := 1, end_ := true, link := false, ring := false, irq := false, space := 1, pos := 0 } } })] }
      ((fun (c : Fin 32) (t : Nat) (v : State) => (v.chan32 c.val).memRead = some t ∧ t + 40000 ≤ v.tick
        ∧ (v.chan32 c.val).state = .running ∧ v.dmaRuns = true ∧ (v.chan32 c.val).need = .write)
      27 0))
    ∧
    (Now ⟨39999, 0⟩ { dev with dma := [(27, { memRead := some 0 })] }
      ((fun (c : Fin 32) (t : Nat) (v : State) => (v.chan32 c.val).memRead = some t ∧ v.tick < t + 40000)
      27 0))
    ∧
    (Now ⟨20000000, 0⟩ { dev with dma := [(27, { reads := [{ n := 16, len := 16, reply := .out 0 }] })] }
      ((fun (c : Fin 32) (n : Nat) (v : State) => n = ((v.chan32 c.val).reads.filter (fun x => x.reply.late v.tick)).length + (if (v.chan32 c.val).fetching.any (fun f => f.2.late v.tick) = true then 1 else 0) ∧ n ≠ 0)
      27 1))
    ∧
    (Now m0 { dev with dma := [(27, { state := .running, ended := true })] }
      ((fun (c : Fin 32) (v : State) => (v.chan32 c.val).state = .running ∧ (v.chan32 c.val).ended = true)
      27))
    ∧
    (Now m0 dev
      ((fun (c : Fin 32) (v : State) => ((v.chan32 c.val).state ≠ .running ∨ (v.chan32 c.val).ended = false))
      31)) := by
  and_intros <;> ((try unfold Now); (try beta_reduce); decide +kernel)

theorem test_MemoryAndDmaRows_met_by_parts :
    (∃ (w : State), Now m0 dev
      (fun v => w = v.rotateWaiting ∧ w.dmaRuns = true))
    ∧
    (Now m0 dev
      ((fun (c : Fin 32) (a : Nat) (r : Completion) (v : State) => (∀ k t, (v.chan32 c.val).fetching ≠ some (k, .out t)) ∧ answerRead a r (v.chan32 c.val).reads = none)
      27 0 .error))
    ∧
    (∃ (y : DmaRead) (l : List DmaRead), Now m0 { dev with dma := [(27, { reads := [{ n := 16, len := 16, reply := .out 0 }] })] }
      ((fun (c : Fin 32) (a : Nat) (r : Completion) (v : State) => answerRead a r (v.chan32 c.val).reads = some (y, l) ∧ ((v.chan32 c.val).back ≠ none ∨ y.isRead = false))
      27 0 .error))
    ∧
    (∃ (y : DmaRead) (l : List DmaRead), Now m0 { dev with dma := [(27, { reads := [{ n := 16, len := 16, reply := .out 0 }] })] }
      ((fun (c : Fin 32) (a : Nat) (r : Completion) (v : State) => answerRead a r (v.chan32 c.val).reads = some (y, l) ∧ (v.chan32 c.val).back = none ∧ y.isRead = true)
      27 0 (.data (zeros 16))))
    ∧
    (Now ⟨19999999, 0⟩ { dev with dma := [(27, { reads := [{ n := 16, len := 16, reply := .out 0 }] })] }
      ((fun (c : Fin 32) (v : State) => (∀ x ∈ (v.chan32 c.val).reads, x.reply.late v.tick = false)
        ∧ (∀ f, (v.chan32 c.val).fetching = some f → f.2.late v.tick = false))
      27)) :=
  ⟨
    ⟨_, rfl, by decide +kernel⟩,
    ⟨(fun _ _ h => nomatch h), by decide +kernel⟩,
    ⟨_, _, rfl, Or.inr rfl⟩,
    ⟨_, _, rfl, by decide +kernel, by decide +kernel⟩,
    ⟨by decide +kernel, (fun _ h => nomatch h)⟩
  ⟩

theorem test_CalibrationAndOtpRows_met :
    (Now m0 dev
      (fun v => (∀ k ∈ calTargets, v.cal.driftCount.get 0 k < 4)))
    ∧
    (Now m0 { dev with cal := { driftCount := [(0, 4)] } }
      (fun v => 4 ≤ v.cal.driftCount.get 0 0 ∧ (∀ k ∈ calTargets, k ≠ 0 → v.cal.driftCount.get 0 k < 4)
        ∧ v.cal.due.getLsbD 0 = false ∧ v.calibrating 0 = false ∧ (v.calMayRun = true ∨ v.pwr = .doze)))
    ∧
    (Now m0 { dev with cal := { queue := [{ target := 0, origin := .boot }] } }
      ((fun (r : CalRun) (l : List CalRun) (v : State) => v.calMayRun = true ∧ v.cal.queue = r :: l
        ∧ (∀ x ∈ v.cal.running, x.origin = .fwAuto) ∧ v.calBar r.target = none)
      { target := 0, origin := .boot } []))
    ∧
    (Now m0 { dev with cal := { queue := [], due := 1 } }
      ((fun (k : Nat) (v : State) => v.calMayRun = true ∧ v.cal.queue = []
        ∧ calTargets.find? (fun (k : Nat) => v.cal.due.getLsbD k && (v.calBar k).isNone && !v.calibrating k) = some k)
      0))
    ∧
    (Now m0 { dev with sys := .upsett }
      (fun v => v.calMayRun = false))
    ∧
    (Now m0 { dev with base := { dacs := [(0, { enable := true })] }, cal := { queue := [{ target := 8, origin := .boot, waiter := some w0 }] } }
      ((fun (r : CalRun) (l : List CalRun) (c : Reason) (v : State) => v.calMayRun = true ∧ v.cal.queue = r :: l
        ∧ (∀ x ∈ v.cal.running, x.origin = .fwAuto) ∧ v.calBar r.target = some c ∧ r.waiter ≠ none)
      { target := 8, origin := .boot, waiter := some w0 } [] Rc.dacNotIdle))
    ∧
    (Now m0 { dev with base := { dacs := [(0, { enable := true })] }, cal := { queue := [{ target := 8, origin := .boot }] } }
      ((fun (r : CalRun) (l : List CalRun) (c : Reason) (v : State) => v.calMayRun = true ∧ v.cal.queue = r :: l
        ∧ (∀ x ∈ v.cal.running, x.origin = .fwAuto) ∧ v.calBar r.target = some c ∧ r.waiter = none)
      { target := 8, origin := .boot } [] Rc.dacNotIdle))
    ∧
    (Now m0 dev
      ((fun (l : List (Nat × Coeff)) (v : State) => v.calEnding l = none)
      default))
    ∧
    (Now ⟨0, 1024⟩ { dev with cal := { running := [{ target := 0, origin := .boot }] } }
      ((fun (x : Coeff) (r : CalRun) (v : State) => v.calEnding [(0, x)] = some r ∧ r.target = 0
        ∧ r.moved = false ∧ r.waiter = none ∧ coeffOk 0 x = true)
      { gain := 14746, offset := 64 } { target := 0, origin := .boot }))
    ∧
    (Now ⟨0, 1024⟩ { dev with cal := { running := [{ target := 0, origin := .boot }] } }
      ((fun (x : Coeff) (r : CalRun) (v : State) => v.calEnding [(0, x)] = some r ∧ r.target = 0
        ∧ r.moved = false ∧ r.waiter = none ∧ coeffOk 0 x = false)
      { gain := 14745, offset := 64 } { target := 0, origin := .boot }))
    ∧
    (Now ⟨0, 1023⟩ { dev with cal := { running := [{ target := 0, origin := .boot }] } }
      ((fun (_ : List (Nat × Coeff)) (v : State) => (∀ r ∈ v.cal.running, r.moved = false
        ∧ v.aon < r.start + calTicks r.target))
      []))
    ∧
    (Now ⟨0, 1024⟩ dev
      ((fun (_ : List Int) (v : State) => v.sys ≠ .off ∧ v.sys ≠ .safe ∧ v.pwr ≠ .sleep ∧ v.pwr ≠ .offAon
        ∧ v.cal.adcAt + 1024 ≤ v.aon ∧ (∀ r ∈ v.cal.running, r.target ≠ 0) ∧ v.underTest 17 = false
        ∧ v.underTest 21 = false)
      default))
    ∧
    (Now ⟨0, 1023⟩ dev
      ((fun (_ : List Int) (v : State) => v.aon < v.cal.adcAt + 1024)
      default))
    ∧
    (Now m0 { dev with otp := { lc := .mfg, ops := [], recheckFirst := false, recheckCount := 3 } }
      ((fun (_ : Table (Word × Word)) (v : State) => v.otp.ops = [] ∧ v.otp.recheckCount < 4
        ∧ v.otp.recheckFirst = false)
      default))
    ∧
    (Now m0 { dev with otp := { lc := .mfg, recheckFirst := false, ops := [(.margin, w0)] } }
      ((fun (t : Table (Word × Word)) (u : Waiter) (l : List (OtpOp × Waiter)) (v : State) => v.otp.ops = (.margin, u) :: l ∧ v.otp.recheckFirst = false ∧ v.underTest 22 = false ∧ recheckNew v.otp (withMargins v.otp.array t) = [])
      [] w0 []))
    ∧
    (Now m0 { dev with otp := { lc := .mfg, ops := [], recheckFirst := false, recheckCount := 4 } }
      ((fun (_ : Table (Word × Word)) (v : State) => v.otp.ops = [] ∧ 4 ≤ v.otp.recheckCount
        ∧ v.firmwareRuns = true ∧ v.otp.recheckFirst = false ∧ v.underTest 22 = false)
      default))
    ∧
    (Now m0 { dev with otp := { lc := .mfg, recheckFirst := true } }
      ((fun (_ : Table (Word × Word)) (v : State) => v.otp.recheckFirst = true ∧ v.underTest 22 = false)
      default))
    ∧
    (Now m0 { dev with bist := { demand := some { part := 22, unit := 0, count := 1, custom := false, waiter := w0, start := 0, borrowed := false } } }
      ((fun (_ : Table (Word × Word)) (v : State) => v.underTest 22 = true)
      default)) := by
  and_intros <;> ((try unfold Now); (try beta_reduce); decide +kernel)

theorem test_BistRows_met :
    (Now m0 { dev with bist := { pools := [(4, { nextSlice := 1 })] } }
      ((fun (p : Fin 5) (v : State) => (v.tryRotate p.val).aon < ((v.tryRotate p.val).pool p.val).nextSlice)
      4))
    ∧
    (Now ⟨1677722, 0⟩ { dev with bist := { pools := [(4, { inSlice := true, slices := 14 })] } }
      ((fun (p : Fin 5) (_ : BitVec 64) (v : State) => (v.pool p.val).inSlice = true
        ∧ (v.pool p.val).sliceStart + patternTicks 4096 ≤ v.tick ∧ (v.pool p.val).slices < 15)
      4 0))
    ∧
    (Now m0 dev
      ((fun (p : Fin 5) (_ : BitVec 64) (v : State) => (v.pool p.val).repeat_ = false)
      4 0))
    ∧
    (Now m0 dev
      ((fun (_ : Bool) (_ : BitVec 64) (v : State) => v.rotateWaiting.bist.demand = none)
      true 0)) := by
  and_intros <;> ((try unfold Now); (try beta_reduce); decide +kernel)

theorem test_BistRows_met_by_parts :
    (∃ (x w : State), Now m0 dev
      ((fun (p : Fin 5) (u : Nat) (v : State) => x = v.tryRotate p.val ∧ (x.pool p.val).nextSlice ≤ x.aon
        ∧ x.inForce.bistPeriod ≠ 0 ∧ (x.pool p.val).inSlice = false ∧ (x.pool p.val).repeat_ = false
        ∧ (x.pool p.val).wants = none
        ∧ w = x.setPool p.val { x.pool p.val with nextSlice := if (x.pool p.val).nextSlice + x.sliceInterval p.val ≤ x.aon then x.aon + x.sliceInterval p.val else (x.pool p.val).nextSlice + x.sliceInterval p.val } ∧ w.periodicHeld p.val = false ∧ w.restingOf p.val = some u)
      4 4))
    ∧
    (Now ⟨1677722, 0⟩ { dev with bist := { pools := [(4, { inSlice := true, slices := 15 })] } }
      ((fun (p : Fin 5) (x : BitVec 64) (v : State) => (v.pool p.val).inSlice = true
        ∧ (v.pool p.val).sliceStart + patternTicks 4096 ≤ v.tick ∧ 15 ≤ (v.pool p.val).slices
        ∧ x = Config.bistExpected p.val 65536)
      4 (Config.bistExpected 4 65536)))
    ∧
    (Now ⟨1677722, 0⟩ { dev with bist := { pools := [(4, { inSlice := true, slices := 15 })] } }
      ((fun (p : Fin 5) (x : BitVec 64) (v : State) => (v.pool p.val).inSlice = true
        ∧ (v.pool p.val).sliceStart + patternTicks 4096 ≤ v.tick ∧ 15 ≤ (v.pool p.val).slices
        ∧ x ≠ Config.bistExpected p.val 65536)
      4 (~~~Config.bistExpected 4 65536)))
    ∧
    (Now ⟨26843546, 0⟩ { dev with bist := { pools := [(4, { repeat_ := true })] } }
      ((fun (p : Fin 5) (x : BitVec 64) (v : State) => (v.pool p.val).repeat_ = true
        ∧ (v.pool p.val).sliceStart + patternTicks 65536 ≤ v.tick ∧ x = Config.bistExpected p.val 65536)
      4 (Config.bistExpected 4 65536)))
    ∧
    (Now ⟨26843546, 0⟩ { dev with bist := { pools := [(4, { repeat_ := true })] } }
      ((fun (p : Fin 5) (x : BitVec 64) (v : State) => (v.pool p.val).repeat_ = true
        ∧ (v.pool p.val).sliceStart + patternTicks 65536 ≤ v.tick ∧ x ≠ Config.bistExpected p.val 65536)
      4 (~~~Config.bistExpected 4 65536)))
    ∧
    (∃ (w : State), Now ⟨410, 0⟩ { dev with bist := { demand := some { part := 5, unit := 0, count := 1, custom := false, waiter := w0, start := 0, borrowed := false } } }
      ((fun (e : Bool) (x : BitVec 64) (d : Demand) (v : State) => w = v.rotateWaiting ∧ w.bist.demand = some d
        ∧ d.stopped = .none ∧ d.custom = false ∧ w.demandWaits d = false
        ∧ d.start + patternTicks d.count ≤ w.tick ∧ (e = true ∨ x = Config.bistExpected d.part d.count))
      true 0 { part := 5, unit := 0, count := 1, custom := false, waiter := w0, start := 0, borrowed := false }))
    ∧
    (∃ (w : State), Now ⟨410, 0⟩ { dev with bist := { demand := some { part := 5, unit := 0, count := 1, custom := false, waiter := w0, start := 0, borrowed := false } } }
      ((fun (e : Bool) (x : BitVec 64) (d : Demand) (v : State) => w = v.rotateWaiting ∧ w.bist.demand = some d
        ∧ d.stopped = .none ∧ d.custom = false ∧ w.demandWaits d = false
        ∧ d.start + patternTicks d.count ≤ w.tick ∧ e = false ∧ x ≠ Config.bistExpected d.part d.count)
      false (~~~Config.bistExpected 5 1) { part := 5, unit := 0, count := 1, custom := false, waiter := w0, start := 0, borrowed := false }))
    ∧
    (∃ (w : State), Now m0 { dev with bist := { demand := some { part := 5, unit := 0, count := 1, custom := false, waiter := w0, start := 0, borrowed := false, stopped := .thermal } } }
      ((fun (_ : Bool) (_ : BitVec 64) (d : Demand) (v : State) => w = v.rotateWaiting ∧ w.bist.demand = some d
        ∧ d.stopped ≠ .none)
      true 0 { part := 5, unit := 0, count := 1, custom := false, waiter := w0, start := 0, borrowed := false, stopped := .thermal }))
    ∧
    (∃ (w : State), Now ⟨410, 0⟩ { dev with bist := { demand := some { part := 5, unit := 0, count := 1, custom := true, waiter := w0, start := 0, borrowed := false } } }
      ((fun (_ : Bool) (_ : BitVec 64) (d : Demand) (v : State) => w = v.rotateWaiting ∧ w.bist.demand = some d
        ∧ d.stopped = .none ∧ d.custom = true ∧ w.demandWaits d = false ∧ d.start + patternTicks d.count ≤ w.tick)
      true 0 { part := 5, unit := 0, count := 1, custom := true, waiter := w0, start := 0, borrowed := false })) :=
  ⟨
    ⟨_, _, rfl, by decide +kernel, by decide +kernel, by decide +kernel, by decide +kernel, by decide +kernel, rfl, by decide +kernel, by decide +kernel⟩,
    ⟨by decide +kernel, by decide +kernel, by decide +kernel, rfl⟩,
    ⟨by decide +kernel, by decide +kernel, by decide +kernel, not_ne_self _⟩,
    ⟨by decide +kernel, by decide +kernel, rfl⟩,
    ⟨by decide +kernel, by decide +kernel, not_ne_self _⟩,
    ⟨_, rfl, by decide +kernel, by decide +kernel, by decide +kernel, by decide +kernel, by decide +kernel, Or.inl rfl⟩,
    ⟨_, rfl, by decide +kernel, by decide +kernel, by decide +kernel, by decide +kernel, by decide +kernel, rfl, not_ne_self _⟩,
    ⟨_, rfl, by decide +kernel, by decide +kernel⟩,
    ⟨_, rfl, by decide +kernel, by decide +kernel, by decide +kernel, by decide +kernel, by decide +kernel⟩
  ⟩

theorem test_RecordsReadBackAsTheyWereSet_met :
    (fun (p : List Byte) => p.length = 8 ∧ (∀ f ∈ headFields p, f.1 = true))
      (pay 8 [(0, 2, 255), (2, 1, 15), (3, 1, 31), (4, 1, 7), (5, 1, 8), (6, 2, 1024)])
    ∧
    (fun (p : List Byte) => p.length = 12 ∧ (∀ f ∈ rowFields p, f.1 = true) ∧ fld p 9 3 = 0)
      (pay 12 [(0, 2, 255), (2, 1, 7), (3, 1, 8), (4, 2, 4095), (6, 2, 65535), (8, 1, 7)])
    ∧
    (fun (p : List Byte) => p.length = 28 ∧ (∀ f ∈ barFields p, f.1 = true) ∧ fld p 18 2 = 0 ∧ fld p 26 2 = 0)
      (pay 28 [(0, 1, 15), (1, 1, 1), (2, 1, 4), (3, 1, 15), (4, 4, 262144), (8, 1, 7), (9, 1, 7), (20, 4, 1), (24, 1, 16), (25, 1, 15)])
    ∧
    (fun (p : List Byte) => p.length = 12 ∧ (∀ f ∈ stitchFields p, f.1 = true))
      (pay 12 [(0, 2, 511), (2, 1, 15), (3, 1, 0), (6, 1, 64), (8, 4, 262143)])
    ∧
    (fun (p : List Byte) => p.length = 44 ∧ fld p 14 2 = 0 ∧ fld p 41 3 = 0 ∧ fld p 1 1 < 2 ∧ fld p 3 1 < 2
      ∧ fld p 7 1 < 2 ∧ fld p 18 1 < 2 ∧ fld p 40 1 < 2)
      (pay 44 [(0, 1, 7), (1, 1, 0), (2, 1, 7), (3, 1, 1), (4, 2, 1), (7, 1, 1), (8, 4, 16777215), (16, 1, 48), (18, 1, 1), (40, 1, 1)])
    ∧
    (fun (p : List Byte) => p.length = 12 ∧ (∀ f ∈ echoFields p, f.1 = true) ∧ fld p 3 1 = 0 ∧ fld p 10 2 = 0)
      (pay 12 [(0, 1, 3), (1, 1, 1), (2, 1, 7), (4, 2, 65535), (6, 2, 65535), (8, 2, 8)])
    ∧
    (fun (p : List Byte) => p.length = 8 ∧ (∀ f ∈ wakeFields p, f.1 = true) ∧ fld p 1 1 = 0 ∧ fld p 6 2 = 0)
      (pay 8 [(0, 1, 255), (2, 2, 1), (4, 2, 1)])
    ∧
    (fun (p : List Byte) => p.length = 24 ∧ (∀ f ∈ trigFields p, f.1 = true) ∧ fld p 20 4 = 0 ∧ fld p 3 1 < 2)
      (pay 24 [(0, 1, 15), (1, 1, 15), (2, 1, 1), (4, 4, 3120), (8, 2, 20000), (10, 2, 1), (12, 1, 15), (13, 1, 1), (14, 2, 1), (16, 2, 100), (18, 2, 1)])
    ∧
    (fun (p : List Byte) => p.length = 24 ∧ (∀ f ∈ runFields p 0, f.1 = true) ∧ fld p 6 2 = 0 ∧ fld p 22 2 < 16)
      (pay 24 [(8, 4, 1), (12, 4, 16777216), (20, 2, 1023), (22, 2, 15)])
    ∧
    (fun (p : List Byte) => p.length = 12 ∧ (∀ f ∈ trigoutFields p, f.1 = true) ∧ fld p 5 1 = 0 ∧ fld p 10 2 = 0)
      (pay 12 [(0, 1, 7), (1, 1, 1), (2, 1, 15), (3, 1, 5), (4, 1, 1), (6, 2, 1)])
    ∧
    (fun (p : List Byte) => p.length = 20 ∧ (∀ f ∈ profileFields p, f.1 = true) ∧ fld p 3 1 = 0)
      (pay 20 [(0, 1, 15), (1, 1, 3)])
    ∧
    (fun (p : List Byte) => p.length = 8 ∧ (∀ f ∈ channelFields p, f.1 = true) ∧ fld p 5 3 = 0)
      (pay 8 [(0, 1, 127), (1, 1, 1), (2, 1, 15), (3, 1, 3), (4, 1, 1)])
    ∧
    (fun (p : List Byte) => p.length = 12 ∧ (∀ f ∈ dacFields p, f.1 = true))
      (pay 12 [(0, 1, 7), (1, 1, 1), (2, 1, 15), (3, 1, 3), (4, 1, 1), (5, 1, 1), (6, 2, 100), (8, 4, 1)])
    ∧
    (fun (p : List Byte) => p.length = 40 ∧ (∀ f ∈ planeFields p, f.1 = true) ∧ fld p 6 2 = 0 ∧ fld p 20 4 = 0)
      (pay 40 [(0, 1, 63), (1, 1, 15), (2, 1, 4), (3, 1, 2), (4, 1, 1), (5, 1, 1), (8, 4, 262144), (12, 4, 1)])
    ∧
    (fun (p : List Byte) => p.length = 8 ∧ (∀ f ∈ portFields p, f.1 = true) ∧ fld p 6 2 = 0)
      (pay 8 [(0, 1, 31), (1, 1, 1), (2, 1, 1), (3, 1, 7), (4, 2, 1000)])
    ∧
    (fun (p : List Byte) => p.length = 8 ∧ (∀ f ∈ scrubFields p, f.1 = true) ∧ fld p 4 4 = 0)
      (pay 8 [(0, 2, 60), (2, 2, 1)])
    ∧
    (fun (p : List Byte) => p.length = 16 ∧ (∀ f ∈ policyFields p, f.1 = true) ∧ fld p 1 1 < 16)
      (pay 16 [(0, 1, 15), (1, 1, 15), (2, 1, 15), (3, 1, 15), (9, 1, 4), (10, 2, 8192), (12, 2, 512), (14, 2, 10)])
    ∧
    (fun (p : List Byte) => p.length = 8 ∧ (∀ f ∈ refFields p, f.1 = true) ∧ fld p 3 1 = 0)
      (pay 8 [(0, 1, 255), (1, 1, 7), (4, 2, 2048), (6, 2, 496)])
    ∧
    (fun (p : List Byte) => p.length = 16 ∧ (∀ f ∈ tempFields p, f.1 = true) ∧ fld p 2 2 = 0 ∧ fld p 14 2 = 0)
      (pay 16 [(0, 1, 255), (1, 1, 1), (4, 2, 800), (6, 2, 400)])
    ∧
    (fun (p : List Byte) => p.length = 12 ∧ fld p 1 1 = 0 ∧ fld p 6 2 = 0 ∧ BitVec.ofNat 8 (fld p 0 1) &&& 0xE4 = 0)
      (pay 12 [(0, 1, 27), (2, 2, 65535)])
    ∧
    (fun (p : List Byte) => p.length = 8 ∧ (∀ f ∈ hvFields p, f.1 = true) ∧ fld p 3 1 = 0)
      (pay 8 [(0, 1, 7), (1, 1, 1), (2, 1, 1), (4, 2, 1), (6, 2, 1)])
    ∧
    (fun (p : List Byte) => p.length = 12 ∧ fld p 1 1 = 0 ∧ fld p 10 2 = 0)
      (pay 12 [(0, 1, 1), (2, 2, 380)]) := by
  and_intros <;> decide +kernel

end Sys2Proof.Tests
end

/-!
PROOFS. Host registers, the event ring and the interrupts: what each row of the host port makes of the state.
One equation per case of an operation; the settling theorem at the end puts them together.
-/

namespace Sys2Proof.Proofs.HostRegisters

open Sys2Proof Sys2Proof.Machine Sys2Proof.Laws

variable {v : State}

/-! ## PRINT_EN (R51) -/

/-- R43: the transition of the same cycle has the device, and the write is lost. -/
theorem printEnWrite_movedNow (e : Bool) (moved : v.movedNow = true) : printEnWrite e v = v := by
  unfold printEnWrite
  simp only [moved, Bool.or_true, if_true]

/-- R329: unit S of a pair refuses, whatever its state. -/
theorem printEnWrite_secondary (e : Bool) (reach : v.hostReaches = true) (still : v.movedNow = false)
    (sec : v.secondary = true) :
    printEnWrite e v = { v with host := { v.host with refuse := Rc.roleSecondary } } := by
  unfold printEnWrite
  simp only [reach, still, sec, if_true]
  rfl

section Heard

variable (reach : v.hostReaches = true) (still : v.movedNow = false) (prim : v.secondary = false)
include reach still prim

theorem printEnWrite_true_of_ready (ready : v.sys = .ready) (idle : v.host.checkBusy = false) :
    printEnWrite true v = v.startPrintCheck := by
  unfold printEnWrite
  simp only [reach, still, prim, ready, idle]
  rfl

theorem printEnWrite_false_of_ready (ready : v.sys = .ready) (busy : v.host.checkBusy = true) :
    printEnWrite false v = v.cancelPrintCheck := by
  unfold printEnWrite
  simp only [reach, still, prim, ready, busy]
  rfl

theorem printEnWrite_false_of_armed (armed : v.sys = .armed ∨ v.sys = .printing ∨ v.sys = .paused) :
    printEnWrite false v = v.requestEvent .ready .hostDirect := by
  unfold printEnWrite
  simp only [reach, still, prim]
  obtain h | h | h := armed <;> rw [h] <;> rfl

theorem printEnWrite_true_of_upsett (upsett : v.sys = .upsett) :
    printEnWrite true v
      = (v.logPrintEn Rc.wrongState 0x4).setRefuse Rc.wrongState 0 v.host.refuseObj.toNat := by
  unfold printEnWrite
  simp only [reach, still, prim, upsett]
  rfl

theorem printEnWrite_true_of_fault (fault : v.sys = .fault) :
    printEnWrite true v
      = (v.preemptFixed.logPrintEn Rc.wrongState 0x4).setRefuse Rc.wrongState 0 v.host.refuseObj.toNat := by
  unfold printEnWrite
  simp only [reach, still, prim, fault]
  rfl

end Heard

/-! ## Reads with an effect (R11, R50, R347) -/

section Reads

variable (reach : v.hostReaches = true)
include reach

theorem tickLoRead_of_reaches (wide : Bool) :
    tickLoRead wide v = { v.returns (if wide = true then v.tick else v.tick % 2 ^ 32) with
      host := { (v.returns (if wide = true then v.tick else v.tick % 2 ^ 32)).host with
        tickHi := BitVec.ofNat 32 (v.tick / 2 ^ 32) } } := by
  rw [tickLoRead, reach]; rfl

/-- The state once a read of AON_LO has latched the upper half of the count (R50). -/
def latchAonHi (v : State) : State :=
  { v with host := { v.host with aonHi := BitVec.ofNat 16 (v.aon / 2 ^ 32) } }

theorem aonLoRead_narrow : aonLoRead false v = (latchAonHi v).returns (v.aon % 2 ^ 32) := by
  rw [aonLoRead, reach]; rfl

theorem aonLoRead_wide :
    aonLoRead true v = (latchAonHi v).returns (v.aon % 2 ^ 32 + 2 ^ 32 * (latchAonHi v).readHst 0x2C) := by
  rw [aonLoRead, reach]; rfl

theorem ringLostRead_of_reaches :
    ringLostRead v = { v.returns (v.ring.lost - v.kept v.ring.cycle).toNat with
      ring := { v.ring with lost := v.kept v.ring.cycle } } := by
  rw [ringLostRead, reach]; rfl

theorem dpDroppedRead_of_reaches (p : Nat) :
    dpDroppedRead p v = (v.returns ((v.dp p).dropped - v.kept (v.dp p).cycle).toNat).setDp p
      { v.dp p with dropped := v.kept (v.dp p).cycle } := by
  rw [dpDroppedRead, reach]; rfl

theorem pairDivergencesRead_of_reaches :
    pairDivergencesRead v = { v.returns (v.pair.divergences - v.kept v.pair.cycle).toNat with
      pair := { v.pair with divergences := v.kept v.pair.cycle } } := by
  rw [pairDivergencesRead, reach]; rfl

/-! ## The event ring (R59) -/

theorem ringEnableWrite_zero (w : Word) (zero : w.getLsbD 0 = false) :
    ringEnableWrite w v = { v with ring := { v.ring with enable := false } } := by
  rw [ringEnableWrite, reach, zero]; rfl

theorem ringEnableWrite_enabled (w : Word) (one : w.getLsbD 0 = true) (on : v.ring.enable = true) :
    ringEnableWrite w v = v := by
  simp [ringEnableWrite, reach, one, on]

theorem ringEnableWrite_disabled (w : Word) (one : w.getLsbD 0 = true) (off : v.ring.enable = false) :
    ringEnableWrite w v = { v with
      ring := { v.ring with enable := true, prod := 0, cons := 0, phase := true } }.reportLost.reportTrip := by
  simp [ringEnableWrite, reach, one, off]

theorem ringConsWrite_of_reaches (w : Word) :
    ringConsWrite w v = { v with ring := { v.ring with cons := w.toNat % 4096 } }.reportLost := by
  simp [ringConsWrite, reach]

/-! ## The interrupts (R57, R58) -/

/-- Where every bit of the new mask was enabled before, or has its STATUS bit 0, no message goes out: each
step of the walk over the 28 vectors leaves the state it began with. -/
theorem intEnableWrite_silent (w : Word)
    (silent : ∀ k < 28, w.getLsbD k = true → v.ints.enable.getLsbD k = true ∨ v.ints.status.getLsbD k = false) :
    intEnableWrite w v = { v with ints := { v.ints with enable := w.extractLsb' 0 28 } } := by
  simp only [intEnableWrite, reach, Bool.not_true, Bool.false_eq_true, if_false]
  refine List.foldlRecOn (motive := (· = _)) _ _ rfl ?_
  rintro _ rfl k hk
  have quiet := silent k (List.mem_range.mp hk)
  refine if_neg fun sends => ?_
  simp only [Bool.and_eq_true, Bool.not_eq_true', BitVec.getLsbD_extractLsb', Nat.zero_add] at sends
  obtain ⟨⟨⟨_, new⟩, old⟩, status⟩ := sends
  obtain on | off := quiet new
  · exact absurd on (by simp [old])
  · exact absurd status (by simp [off])

/-! ## Writes of BAR0, and accesses that are not naturally aligned (R47) -/

/-- HST_SCRATCH has no effect of its own, so with no doorbell waiting nothing but the register changes. -/
theorem registerWrite_scratch (w : BitVec 64) (quiet : v.rung = []) :
    registerWrite 0x30 4 w v = { v with host := { v.host with scratch := w.extractLsb' 0 32 } } := by
  have write : v.writeAny 0x30 (w.extractLsb' 0 32)
      = { v with host := { v.host with scratch := w.extractLsb' 0 32 } } := by
    simp [State.writeAny, State.writeReg]
  have aligned : accessOk 0x30 4 = true := by decide
  simp only [registerWrite, reach, aligned, write]
  exact serveUndefined_none _ _ quiet

theorem registerWrite_misaligned (o k : Nat) (w : BitVec 64) (bad : accessOk o k = false) :
    registerWrite o k w v = { v with host := { v.host with aer := v.host.aer + 1 } } := by
  simp [registerWrite, reach, bad]

theorem unsupportedRequest_misaligned (o k : Nat) (bad : accessOk o k = false) :
    unsupportedRequest o k v = { v with host := { v.host with aer := v.host.aer + 1 } } := by
  simp [unsupportedRequest, reach, bad]

end Reads

/-! ## Timed rows (R58, R92) -/

theorem intHoldoffExpiry_due {t : Nat} (first : v.ints.firstAt = some t)
    (clear : v.ints.status.getLsbD 0 = false) (holds : v.ints.holdoff ≠ 0)
    (due : v.ints.holdoff * 1024 ≤ (v.aon - t) * 1000) : intHoldoffExpiry v = v.raiseInt 0 := by
  simp only [intHoldoffExpiry, first, clear, holds, Nat.not_lt.mpr due, decide_false, Bool.or_self, Bool.false_eq_true, if_false]

theorem resetEntry_due {t n : Nat} (at_ : v.power.resetAt = some (t, n)) (fault : v.sys = .fault)
    (due : t ≤ v.aon) : resetEntry v = v.enterUpsett 3 2 (.mbx n) := by
  simp [resetEntry, at_, fault, due]

/-! ## The rows -/

/-- Settles O43: each row is its operation at the row's moment, and each clause is one case of that operation. -/
theorem hostRegisterRows : Obligations.HostRegisterRows := by
  unfold Obligations.HostRegisterRows
  exact ⟨
    happens_of (f := printEnWrite true) (fun _ _ => rfl)
      fun _ ⟨reach, still, prim, ready, idle⟩ => printEnWrite_true_of_ready reach still prim ready idle,
    happens_of (f := printEnWrite false) (fun _ _ => rfl)
      fun _ ⟨reach, still, prim, ready, busy⟩ => printEnWrite_false_of_ready reach still prim ready busy,
    happens_of (f := printEnWrite false) (fun _ _ => rfl)
      fun _ ⟨reach, still, prim, armed⟩ => printEnWrite_false_of_armed reach still prim armed,
    happens_of (f := printEnWrite true) (fun _ _ => rfl)
      fun _ ⟨reach, still, prim, upsett⟩ => printEnWrite_true_of_upsett reach still prim upsett,
    fun e => happens_of (f := printEnWrite e) (fun _ _ => rfl)
      fun _ ⟨reach, still, sec⟩ => printEnWrite_secondary e reach still sec,
    fun e => happens_of (f := printEnWrite e) (fun _ _ => rfl)
      fun _ ⟨_, moved⟩ => printEnWrite_movedNow e moved,
    happens_of (f := printEnWrite true) (fun _ _ => rfl)
      fun _ ⟨reach, still, prim, fault⟩ => printEnWrite_true_of_fault reach still prim fault,
    fun wide => happens_of (f := tickLoRead wide) (fun _ _ => rfl)
      fun _ reach => tickLoRead_of_reaches reach wide,
    happens_of (f := aonLoRead false) (fun _ _ => rfl) fun _ reach => aonLoRead_narrow reach,
    happens_of (f := aonLoRead true) (fun _ _ => rfl) fun _ reach => aonLoRead_wide reach,
    happens_of (f := ringLostRead) (fun _ _ => rfl) fun _ reach => ringLostRead_of_reaches reach,
    fun p => happens_of (f := dpDroppedRead p.val) (fun _ _ => rfl)
      fun _ reach => dpDroppedRead_of_reaches reach p.val,
    happens_of (f := pairDivergencesRead) (fun _ _ => rfl) fun _ reach => pairDivergencesRead_of_reaches reach,
    fun w => happens_of (f := ringEnableWrite w) (fun _ _ => rfl)
      fun _ ⟨reach, zero⟩ => ringEnableWrite_zero reach w zero,
    fun w => happens_of (f := ringEnableWrite w) (fun _ _ => rfl)
      fun _ ⟨reach, one, on⟩ => ringEnableWrite_enabled reach w one on,
    fun w => happens_of (f := ringEnableWrite w) (fun _ _ => rfl)
      fun _ ⟨reach, one, off⟩ => ringEnableWrite_disabled reach w one off,
    fun w => happens_of (f := ringConsWrite w) (fun _ _ => rfl) fun _ reach => ringConsWrite_of_reaches reach w,
    fun w => happens_of (f := intEnableWrite w) (fun _ _ => rfl)
      fun _ ⟨reach, silent⟩ => intEnableWrite_silent reach w silent,
    fun w => happens_of (f := registerWrite 0x30 4 w) (fun _ _ => rfl)
      fun _ ⟨reach, quiet⟩ => registerWrite_scratch reach w quiet,
    fun o k w => happens_of (f := registerWrite o k w) (fun _ _ => rfl)
      fun _ ⟨reach, bad⟩ => registerWrite_misaligned reach o k w bad,
    fun o k => happens_of (f := unsupportedRequest o k) (fun _ _ => rfl)
      fun _ ⟨reach, bad⟩ => unsupportedRequest_misaligned reach o k bad,
    fun _ => happens_of (f := intHoldoffExpiry) (fun _ _ => rfl)
      fun _ ⟨first, clear, holds, due⟩ => intHoldoffExpiry_due first clear holds due,
    fun _ _ => happens_of (f := resetEntry) (fun _ _ => rfl)
      fun _ ⟨at_, fault, due⟩ => resetEntry_due at_ fault due⟩

end Sys2Proof.Proofs.HostRegisters

/-!
PROOFS. The queue of commands when it is empty, and what the transitions between the system states set.  The host
registers and the Keeper's records are read back after a transition, so what the steps behind it leave of them is
stated first, one lemma for each step.
-/

namespace Sys2Proof.Proofs.SystemState

open Sys2Proof Sys2Proof.Machine Sys2Proof.Laws

/-- Settles O2: the queue is the only thing that `step` looks at. -/
theorem anEmptyQueueIdles : Obligations.AnEmptyQueueIdles := by
  intro s empty
  simp only [step, empty]

/-! ## What the host and the Keeper read of the system state -/

variable (s : State)

/-- The system state, the power state, the AON count, the host's registers and the power registers. -/
def keeperView (s : State) : SysState × PwrState × Nat × HostRegs × Power := (s.sys, s.pwr, s.aon, s.host, s.power)

/-- The system state and the host's registers. -/
def statusView (s : State) : SysState × HostRegs := (s.sys, s.host)

theorem keeperView_eq_iff {s t : State} : keeperView t = keeperView s ↔
    t.sys = s.sys ∧ t.pwr = s.pwr ∧ t.aon = s.aon ∧ t.host = s.host ∧ t.power = s.power := by
  simp only [keeperView, Prod.mk.injEq]

/-- `keeperView` says all that `statusView` says. -/
theorem statusView_of_keeperView {s t : State} (h : keeperView t = keeperView s) : statusView t = statusView s := by
  obtain ⟨sys, -, -, host, -⟩ := keeperView_eq_iff.mp h
  rw [statusView, statusView, sys, host]

/-- A walk of steps that each leave a view leaves it. -/
theorem foldl_view {α β : Type} (view : State → β) (f : State → α → State) (h : ∀ s a, view (f s a) = view s)
    (l : List α) (s : State) : view (l.foldl f s) = view s := by
  induction l generalizing s with
  | nil => rfl
  | cons a l ih => rw [List.foldl_cons, ih, h]

/-! ### Events, interrupts and mailboxes -/

@[simp] theorem keeperView_emit (o : Output) : keeperView (s.emit o) = keeperView s := rfl

@[simp] theorem keeperView_post (b : EventBody) : keeperView (s.post b) = keeperView s := by
  simp [keeperView]

@[simp] theorem keeperView_raiseInt (n : Nat) : keeperView (s.raiseInt n) = keeperView s := by
  rw [raiseInt_eq]; rfl

@[simp] theorem keeperView_logOpen (q : LogReq) : keeperView (s.logOpen q) = keeperView s := by
  simp [keeperView]

@[simp] theorem keeperView_postLimited (k : EventKey) (b : EventBody) :
    keeperView (s.postLimited k b) = keeperView s := by
  unfold State.postLimited
  split
  · exact keeperView_post s b
  · rfl

@[simp] theorem keeperView_postStateChange (old new : SysState) (code : Reason) :
    keeperView (s.postStateChange old new code) = keeperView s := by
  simp [State.postStateChange]

/-- The report of a change alters nothing that the host and the Keeper read. -/
theorem postStateChange_frame (old new : SysState) (code : Reason) :
    (s.postStateChange old new code).sys = s.sys ∧ (s.postStateChange old new code).pwr = s.pwr
      ∧ (s.postStateChange old new code).aon = s.aon ∧ (s.postStateChange old new code).host = s.host
      ∧ (s.postStateChange old new code).power = s.power :=
  keeperView_eq_iff.mp (keeperView_postStateChange s old new code)

@[simp] theorem keeperView_finishDone (w : Waiter) (r : Reason) (cls : Byte) (obj : Nat) :
    keeperView (s.finishDone w r cls obj) = keeperView s := keeperView_post _ _

@[simp] theorem keeperView_drainDone (n k : Nat) : keeperView (s.drainDone n k) = keeperView s := by
  induction k generalizing s with
  | zero => rfl
  | succ k ih =>
    unfold State.drainDone
    dsimp only
    split
    · rfl
    · exact (ih _).trans (keeperView_finishDone _ _ _ _ _)

@[simp] theorem keeperView_commandDone (w : Waiter) (r : Reason) (cls : Byte) (obj : Nat) :
    keeperView (s.commandDone w r cls obj) = keeperView s := by
  unfold State.commandDone
  dsimp only
  split
  · rfl
  · exact (keeperView_drainDone _ _ _).trans (keeperView_finishDone s w r cls obj)

/-! ### The outputs that follow the system state -/

@[simp] theorem keeperView_trigoutLevels : keeperView s.trigoutLevels = keeperView s := by
  unfold State.trigoutLevels
  refine foldl_view keeperView _ (fun s k => ?_) _ s
  dsimp only
  (repeat' split) <;> rfl

@[simp] theorem keeperView_setAmpEn (k : Nat) (v : Bool) (cause : Nat) :
    keeperView (s.setAmpEn k v cause) = keeperView s := by
  unfold State.setAmpEn
  extract_lets amp driven logged
  calc keeperView (logged.postLimited _ _)
    _ = keeperView logged := keeperView_postLimited _ _ _
    _ = keeperView driven := keeperView_logOpen _ _
    _ = keeperView s := rfl

@[simp] theorem keeperView_ampUpdate (cause : Nat) : keeperView (s.ampUpdate cause) = keeperView s := by
  unfold State.ampUpdate
  refine foldl_view keeperView _ (fun s k => ?_) _ s
  dsimp only
  split
  · exact keeperView_setAmpEn s k true cause
  · split
    · exact keeperView_setAmpEn s k false cause
    · rfl

@[simp] theorem statusView_driveHven (k : Nat) (v : Bool) : statusView (s.driveHven k v) = statusView s := by
  unfold State.driveHven State.postHv
  exact (statusView_of_keeperView (keeperView_post _ _)).trans rfl

@[simp] theorem statusView_hvUpdate : statusView s.hvUpdate = statusView s := by
  unfold State.hvUpdate
  split
  · rfl
  · refine foldl_view statusView _ (fun s k => ?_) _ s
    dsimp only
    split
    · rfl
    · exact statusView_driveHven s k _

/-! ### The pair and the ports -/

@[simp] theorem keeperView_emitRims : keeperView s.emitRims = keeperView s := by
  unfold State.emitRims
  refine foldl_view keeperView _ (fun s p => ?_) _ s
  split <;> rfl

@[simp] theorem keeperView_flagWithdrawn (w : Bool) : keeperView (s.flagWithdrawn w) = keeperView s :=
  keeperView_emitRims _

@[simp] theorem keeperView_pairChange (i : Nat) : keeperView (s.pairChange i) = keeperView s := by
  unfold State.pairChange
  dsimp only
  split
  · rfl
  · exact keeperView_raiseInt _ 27

@[simp] theorem keeperView_setPair (st : PairState) (r : Reason) : keeperView (s.setPair st r) = keeperView s := by
  unfold State.setPair
  split
  · rfl
  · exact (keeperView_pairChange _ 0).trans (keeperView_post _ _)

@[simp] theorem keeperView_resyncDone (r : Reason) : keeperView (s.resyncDone r) = keeperView s := by
  unfold State.resyncDone
  split
  · rfl
  · exact keeperView_commandDone _ _ _ _ _

@[simp] theorem keeperView_trySynced : keeperView s.trySynced = keeperView s := by
  unfold State.trySynced
  extract_lets bars n pair counted joined
  split
  · calc keeperView ((joined.post _).resyncDone 0)
      _ = keeperView joined := (keeperView_resyncDone _ 0).trans (keeperView_post _ _)
      _ = keeperView (counted.flagWithdrawn false) := (keeperView_setPair _ _ 0).trans (keeperView_emit _ _)
      _ = keeperView s := keeperView_flagWithdrawn counted false
  · rfl

@[simp] theorem keeperView_enterPort (p : Nat) (st : PortState) (r : Reason) :
    keeperView (s.enterPort p st r) = keeperView s := by
  unfold State.enterPort
  dsimp only
  split
  · exact keeperView_post _ _
  · rfl

@[simp] theorem keeperView_portsOff : keeperView s.portsOff = keeperView s := by
  unfold State.portsOff
  refine foldl_view keeperView _ (fun s p => ?_) _ s
  exact (keeperView_enterPort _ p .off 0).trans rfl

/-- What the host and the Keeper read is as it was once every port is OFF. -/
theorem portsOff_frame : s.portsOff.sys = s.sys ∧ s.portsOff.pwr = s.pwr ∧ s.portsOff.aon = s.aon
    ∧ s.portsOff.host = s.host ∧ s.portsOff.power = s.power := keeperView_eq_iff.mp (keeperView_portsOff s)

/-! ### The axes and TIME -/

@[simp] theorem keeperView_restartAxis (n : Nat) : keeperView (s.restartAxis n) = keeperView s := by
  unfold State.restartAxis
  dsimp only
  (repeat' split) <;> first | rfl | exact keeperView_postLimited _ _ _

@[simp] theorem keeperView_axesRestart : keeperView s.axesRestart = keeperView s :=
  foldl_view keeperView _ keeperView_restartAxis _ s

/-- The new count is set aside first: the kernel would compute it in unary. -/
@[simp] theorem statusView_loadTick : statusView s.loadTick = statusView s := by
  unfold statusView State.loadTick
  generalize max (s.tick + 1) (s.aon * 390625 / 1000) = loaded
  rfl

/-! ## The transitions (R41, R42) -/

/-- What is assigned to the system state and to PRINT_EN stands: the outputs, the report and the pair that follow
the change leave both. -/
theorem setSysFor_status (new : SysState) (o : Origin) (code : Reason) (obj : Nat) (list : Option Word) :
    (s.setSysFor new o code obj list).sys = new
      ∧ (s.setSysFor new o code obj list).host.printEn = new.armedState := by
  unfold State.setSysFor
  extract_lets old logged pwr at_ host power assigned levels reported
  have reported_status : statusView reported = statusView assigned :=
    calc statusView reported
      _ = statusView (levels.ampUpdate 1).hvUpdate := statusView_of_keeperView (keeperView_postStateChange _ _ _ _)
      _ = statusView (levels.ampUpdate 1) := statusView_hvUpdate _
      _ = statusView levels := statusView_of_keeperView (keeperView_ampUpdate _ 1)
      _ = statusView assigned := statusView_of_keeperView (keeperView_trigoutLevels _)
  have status :
      statusView (if (old == .printing) = true then reported.trySynced else reported) = statusView assigned := by
    split
    · exact (statusView_of_keeperView (keeperView_trySynced _)).trans reported_status
    · exact reported_status
  obtain ⟨sys, host⟩ := Prod.mk.inj status
  exact ⟨sys, congrArg HostRegs.printEn host⟩

theorem ne_of_operating {x : SysState} (operates : x.operating = true) :
    x ≠ .off ∧ x ≠ .safe ∧ x ≠ .fault ∧ x ≠ .upsett := by
  revert operates
  cases x <;> decide

/-- R407: from an operating state a fault with a CORE clock and VDD_CORE is not reduced. -/
theorem enterFault_status (code : Reason) (o : Origin) (running : s.sys.operating = true) :
    (s.enterFault code o).sys = .fault ∧ (s.enterFault code o).host.printEn = false := by
  obtain ⟨off, safe, fault, upsett⟩ := ne_of_operating running
  unfold State.enterFault State.enterFaultAs State.enterFaultFor
  split
  next h => exact absurd h off
  next h => exact absurd h safe
  next h => exact absurd h fault
  extract_lets by_ phase red stopped host power opened alone cut faulted
  have entered : faulted.sys = .fault ∧ faulted.host.printEn = false := setSysFor_status _ .fault by_ code 0 none
  have not_reduced : red = false := by simp [red, upsett]
  have status : statusView (if red = true then faulted.reduce code phase
      else if stopped = true then faulted.loadTick.axesRestart else faulted) = statusView faulted := by
    rw [not_reduced, if_neg Bool.false_ne_true]
    split
    · exact (statusView_of_keeperView (keeperView_axesRestart _)).trans (statusView_loadTick _)
    · rfl
  obtain ⟨sys, host⟩ := Prod.mk.inj status
  exact ⟨sys.trans entered.1, (congrArg HostRegs.printEn host).trans entered.2⟩

/-- R42, R422: SAFE keeps the levels of the EN_P lines at the trip, from which one line falls in each AON tick. -/
theorem enterSafe_registers (code : Reason) (off : s.sys ≠ .off) (safe : s.sys ≠ .safe) :
    (s.enterSafe code).sys = .safe ∧ (s.enterSafe code).pwr = .offAon ∧ (s.enterSafe code).host.faultCode = code
      ∧ (s.enterSafe code).host.faultPhase = 0xF ∧ (s.enterSafe code).power.pg = 0
      ∧ ∃ lines, (s.enterSafe code).power.tripRails = some ((s.enterSafe code).power.stateAt, lines)
        ∧ (s.enterSafe code).power.enP = lowerTop lines 1 := by
  unfold State.enterSafe
  split
  next h => exact absurd h off
  next h => exact absurd h safe
  extract_lets alone stopped logged lines wiped entered oldHost host power
  simp only [portsOff_frame]
  exact ⟨rfl, rfl, rfl, rfl, trivial, lines, rfl, rfl⟩

/-- R42, R406: entry to UPSETT puts the restart into its first phase, as of this moment. -/
theorem enterUpsett_registers (first kind : Nat) (o : Origin) :
    (s.enterUpsett first kind o).sys = .upsett ∧ (s.enterUpsett first kind o).pwr = .run
      ∧ (s.enterUpsett first kind o).host.faultCode = 0 ∧ (s.enterUpsett first kind o).host.faultPhase = 0xF
      ∧ (s.enterUpsett first kind o).power.phase = some first
      ∧ (s.enterUpsett first kind o).power.phaseAt = (s.enterUpsett first kind o).aon := by
  unfold State.enterUpsett
  extract_lets old stopped logged prev wiped cleared bist untested oldHost host power flash entered
  simp only [portsOff_frame, postStateChange_frame]
  exact ⟨rfl, rfl, rfl, rfl, rfl, rfl⟩

/-- R41, log entries 14 and 112: nothing keeps time in OFF. -/
theorem enterOff_registers :
    s.enterOff.sys = .off ∧ s.enterOff.pwr = .offAon ∧ s.enterOff.tick = 0 ∧ s.enterOff.aon = 0 :=
  ⟨rfl, rfl, rfl, rfl⟩

/-- Settles O17: one transition in each clause. -/
theorem enteringEachSystemState : Obligations.EnteringEachSystemState := by
  unfold Obligations.EnteringEachSystemState
  exact ⟨
    fun new o code obj s => setSysFor_status s new o code obj none,
    fun code o s operates => enterFault_status s code o operates,
    fun code s off safe => enterSafe_registers s code off safe,
    fun first kind o s => enterUpsett_registers s first kind o,
    fun s => enterOff_registers s⟩

end Sys2Proof.Proofs.SystemState

/-!
PROOFS. The start and the resets: what each row of the reset pins, of the Upsett sequence and of the AON clock
makes of the state.  One equation per case of an operation; the settling theorem at the end puts them together.
-/

namespace Sys2Proof.Proofs.StartAndReset

open Sys2Proof Sys2Proof.Machine Sys2Proof.Laws

variable {v : State}

/-! ## Power-on reset, RSTN and the WAKE pin (R401, R405, R423) -/

theorem porRelease_good (off : v.sys = .off) : porRelease true v = v.enterUpsett 0 0 .boot := by
  simp [porRelease, off]

theorem porRelease_bad : porRelease false v = v := by
  simp [porRelease]

/-- Log entry 110: U1 begins when the pin is released. -/
theorem rstnAssert_fault (fault : v.sys = .fault) (first : v.outranked .upsett = false) :
    rstnAssert v = { v.enterUpsett 1 1 .keeper with
      power := { (v.enterUpsett 1 1 .keeper).power with rstnHeld := true } } := by
  simp [rstnAssert, fault, first]

/-- R43: a transition of this very cycle to a state that comes before UPSETT has the device. -/
theorem rstnAssert_outranked (fault : v.sys = .fault) (lost : v.outranked .upsett = true) : rstnAssert v = v := by
  simp [rstnAssert, fault, lost]

theorem rstnAssert_running (fault : v.sys ≠ .fault) (off : v.sys ≠ .off) (safe : v.sys ≠ .safe)
    (free : v.power.rstnHeld = false) : rstnAssert v = v.enterFault Rc.resetPin .keeper := by
  unfold rstnAssert
  split
  next h => exact absurd h off
  next h => exact absurd h safe
  next h => exact absurd h fault
  next => simp [free]

theorem rstnAssert_off_or_safe (h : v.sys = .off ∨ v.sys = .safe) : rstnAssert v = v := by
  obtain off | safe := h
  · simp [rstnAssert, off]
  · simp [rstnAssert, safe]

theorem rstnRelease_held (held : v.power.rstnHeld = true) :
    rstnRelease v = { v with power := { v.power with rstnHeld := false, phaseAt := v.aon } } := by
  simp [rstnRelease, held]

theorem wakePin_safe (safe : v.sys = .safe) :
    wakePin v = { (v.enterUpsett 1 3 .keeper).countWake 3 with
      therm := { (v.enterUpsett 1 3 .keeper).therm with restarts := [], coolSince := none } } := by
  simp [wakePin, safe]

/-- R423: a restart that the cooling condition began in this very AON tick counts as one by the pin. -/
theorem wakePin_restarting (upsett : v.sys = .upsett) (kind : v.power.restartKind = 3)
    (now : v.therm.restarts.head? = some v.aon) :
    wakePin v = { v.countWake 3 with therm := { v.therm with restarts := [] } } := by
  simp [wakePin, upsett, kind, now]

theorem wakePin_wakes (safe : v.sys ≠ .safe)
    (other : v.sys ≠ .upsett ∨ v.power.restartKind ≠ 3 ∨ v.therm.restarts.head? ≠ some v.aon) :
    wakePin v = v.startWake 3 := by
  have not_restarting :
      ¬ (v.sys = .upsett ∧ v.power.restartKind = 3 ∧ v.therm.restarts.head? = some v.aon) := by tauto
  simp only [wakePin, beq_iff_eq, safe, if_false, Bool.and_eq_true, and_assoc, not_restarting]

/-! ## A phase completes (R406) -/

section PhaseDone

variable {i : PhaseInput}

theorem upsettPhaseDone_u0 (phase : v.phaseRuns = some 0) : upsettPhaseDone i v = v.passPhase 0 1 := by
  simp [upsettPhaseDone, phase]

theorem upsettPhaseDone_u1_good (phase : v.phaseRuns = some 1) (good : (v.readOtp i.margins).otpFault = none) :
    upsettPhaseDone i v = (v.readOtp i.margins).passPhase 1 2 := by
  simp [upsettPhaseDone, phase, good]

theorem upsettPhaseDone_u1_fault {c : Reason} (phase : v.phaseRuns = some 1)
    (bad : (v.readOtp i.margins).otpFault = some c) :
    upsettPhaseDone i v = (v.readOtp i.margins).enterFault c .boot := by
  simp [upsettPhaseDone, phase, bad]

theorem upsettPhaseDone_u2 (phase : v.phaseRuns = some 2) (idle : v.power.seq = .idle)
    (up : v.power.enP &&& 0x7F = 0x7F) : upsettPhaseDone i v = v.passPhase 2 3 := by
  simpa [upsettPhaseDone, phase, idle] using fun down => absurd up down

/-- U4 begins nothing of its own: only the two numbers of the phase change. -/
theorem passPhase_u3_u4 (upsett : v.sys = .upsett) :
    v.passPhase 3 4 = { v with
      host := { v.host with upsettPhase := 3 }, power := { v.power with phase := some 4, phaseAt := v.aon } } := by
  simp [State.passPhase, State.startPhase, upsett]

/-- After a restart that was no cold start TIME is loaded from the AON count (R396). -/
theorem upsettPhaseDone_u3_restart (phase : v.phaseRuns = some 3) (upsett : v.sys = .upsett)
    (restart : v.power.restartKind ≠ 0) :
    upsettPhaseDone i v
      = ({ v with power := { v.power with refRunning := true, trimAt := v.aon } }.passPhase 3 4).loadTick := by
  simp [upsettPhaseDone, phase, upsett, passPhase_u3_u4, restart]

theorem upsettPhaseDone_u3_cold (phase : v.phaseRuns = some 3) (upsett : v.sys = .upsett)
    (cold : v.power.restartKind = 0) :
    upsettPhaseDone i v = { v with power := { v.power with refRunning := true, trimAt := v.aon } }.passPhase 3 4 := by
  simp [upsettPhaseDone, phase, upsett, passPhase_u3_u4, cold]

theorem upsettPhaseDone_u4_good (phase : v.phaseRuns = some 4) (alive : v.otp.lc ≠ .scrapped)
    (good : (v.startupTests i.bist).startupFault i.bist = none) :
    upsettPhaseDone i v = (v.startupTests i.bist).passPhase 4 5 := by
  simp [upsettPhaseDone, phase, alive, good]

theorem upsettPhaseDone_u4_fault {k : Nat} (phase : v.phaseRuns = some 4) (alive : v.otp.lc ≠ .scrapped)
    (bad : (v.startupTests i.bist).startupFault i.bist = some k) :
    upsettPhaseDone i v = (v.startupTests i.bist).enterFaultFor false Rc.bistFailed .boot k := by
  simp [upsettPhaseDone, phase, alive, bad]

/-- R468: in SCRAPPED U4 runs no test. -/
theorem upsettPhaseDone_u4_scrapped (phase : v.phaseRuns = some 4) (scrapped : v.otp.lc = .scrapped) :
    upsettPhaseDone i v = v.passPhase 4 5 := by
  simp [upsettPhaseDone, phase, scrapped]

theorem upsettPhaseDone_u5_noImage (phase : v.phaseRuns = some 5) (noImage : v.bootChoice i.imageA i.imageB = none) :
    upsettPhaseDone i v = v.enterFault Rc.noValidImage .boot := by
  simp [upsettPhaseDone, phase, noImage]

theorem upsettPhaseDone_u5_boots {b : Bool} {x : BootImage} (phase : v.phaseRuns = some 5)
    (choice : v.bootChoice i.imageA i.imageB = some (b, x)) :
    upsettPhaseDone i v = State.serveUndefined 16 ((v.bootFirmware b x.fw).passPhase 5 6) := by
  simp [upsettPhaseDone, phase, choice]

theorem upsettPhaseDone_u6_stake (phase : v.phaseRuns = some 6) (stake : v.stakeFails = true) :
    upsettPhaseDone i v = v.enterFault Rc.sramRepairFailed .boot := by
  simp [upsettPhaseDone, phase, stake]

theorem upsettPhaseDone_u6_good (phase : v.phaseRuns = some 6) (stake : v.stakeFails = false)
    (few : v.weaveFails.length ≤ 4) (calibrated : v.sys = .upsett → v.cal.queue = [] ∧ v.cal.running = []) :
    upsettPhaseDone i v
      = (v.weaveFails.foldl State.retireAtU6 { v with mem := { v.mem with repaired := v.rowRepairs } }).passPhase 6 7 := by
  simpa [upsettPhaseDone, phase, stake, Nat.not_lt.mpr few] using
    fun upsett running => absurd (calibrated upsett) (by tauto)

theorem upsettPhaseDone_u6_weave (phase : v.phaseRuns = some 6) (stake : v.stakeFails = false)
    (many : 4 < v.weaveFails.length) :
    upsettPhaseDone i v = v.enterFaultFor false Rc.retireLimit .boot (v.weaveFails.headD 0)
      (some (BitVec.ofNat 32 (maskOf v.weaveFails))) := by
  simp [upsettPhaseDone, phase, stake, many]

theorem upsettPhaseDone_u7_settled (phase : v.phaseRuns = some 7) (upsett : v.sys = .upsett)
    (settled : v.linksSettled = true) : upsettPhaseDone i v = v.endUpsett := by
  simp [upsettPhaseDone, phase, upsett, settled]

/-- R289: U7 waits for every link. -/
theorem upsettPhaseDone_u7_waits (phase : v.phaseRuns = some 7) (upsett : v.sys = .upsett)
    (waits : v.linksSettled = false) : upsettPhaseDone i v = v := by
  simp [upsettPhaseDone, phase, upsett, waits]

end PhaseDone

/-! ## A phase times out, and rails are raised again (R406) -/

theorem upsettPhaseTimeout_fault {k : Nat} (e : Bool) (phase : v.phaseRuns = some k) (first : v.power.retryAt = none)
    (due : v.power.phaseAt + phaseMs k * msTicks ≤ v.aon) (settled : k = 7 → v.linksSettled = true)
    (retried : k = 2 → 2 ≤ v.power.u2Fails) :
    upsettPhaseTimeout e v
      = v.enterFaultFor (decide (k ≤ 2)) (phaseCode k e) .boot (if k = 2 then v.lastUp.getD 0 else 0) := by
  have no_retry : ¬ (k = 2 ∧ v.power.u2Fails < 2) := fun ⟨two, few⟩ => absurd few (Nat.not_lt.mpr (retried two))
  have no_wait : (k == 7 && !v.linksSettled) = false := by
    by_cases seven : k = 7
    · simp [settled seven]
    · simp [seven]
  simp only [upsettPhaseTimeout, phase, first, Nat.not_lt.mpr due, no_wait, no_retry]
  rfl

theorem upsettPhaseTimeout_retry (e : Bool) (phase : v.phaseRuns = some 2) (first : v.power.retryAt = none)
    (due : v.power.phaseAt + phaseMs 2 * msTicks ≤ v.aon) (few : v.power.u2Fails < 2) :
    upsettPhaseTimeout e v = { v with power := { v.power with u2Fails := v.power.u2Fails + 1 } }.railsDown := by
  simp [upsettPhaseTimeout, phase, first, Nat.not_lt.mpr due, few]

theorem railRetry_due {t : Nat} (at_ : v.power.retryAt = some t) (due : t ≤ v.aon) (idle : v.power.seq = .idle) :
    railRetry v = { v with power := { v.power with retryAt := none, phaseAt := v.aon } }.railsUp := by
  simp [railRetry, at_, Nat.not_lt.mpr due, idle]

/-! ## The reference and the AON clock (R393, R395) -/

theorem refDetectDone_upsett (edges : Nat) (upsett : v.sys = .upsett) (stopped : v.power.refRunning = false) :
    refDetectDone edges v = { v with power := { v.power with oscillator := decide (2000 ≤ edges) } } := by
  simp [refDetectDone, upsett, stopped]

section AonTrim

variable {n : Nat} (on : v.sys ≠ .off) (reference : v.power.refRunning = true) (due : v.power.trimAt + 16384 ≤ v.aon)
include on reference due

theorem aonTrim_inside (low : 24875 ≤ n) (high : n ≤ 25125) :
    aonTrim n v = { v with
      power := { v.power with trimAt := v.aon, trimmed := true, aonTrim := v.power.aonTrim } } := by
  simp [aonTrim, on, reference, Nat.not_lt.mpr due, low, Nat.not_lt.mpr high]

/-- A count below the window is of a fast clock, which a lower code slows down where the frequency rises with it. -/
theorem aonTrim_below (low : n < 24875) (rises : Config.trimRises = true) (room : v.power.aonTrim ≠ 0) :
    aonTrim n v = { v with
      power := { v.power with trimAt := v.aon, trimmed := false, aonTrim := v.power.aonTrim - 1 } } := by
  have not_slow : ¬ 25125 < n := by omega
  simpa [aonTrim, on, reference, Nat.not_lt.mpr due, Nat.not_le.mpr low, not_slow, rises] using
    fun zero => absurd zero room

end AonTrim

/-! ## The rows -/

/-- Settles O46: each row is its operation at the row's moment, and each clause is one case of that operation. -/
theorem startAndResetRows : Obligations.StartAndResetRows := by
  unfold Obligations.StartAndResetRows
  exact ⟨
    happens_of (f := porRelease true) (fun _ _ => rfl) fun _ off => porRelease_good off,
    happens_of (f := porRelease false) (fun _ _ => rfl) fun _ _ => porRelease_bad,
    happens_of (f := porAssert) (fun _ _ => rfl) fun _ _ => rfl,
    happens_of (f := rstnAssert) (fun _ _ => rfl) fun _ ⟨fault, first⟩ => rstnAssert_fault fault first,
    happens_of (f := rstnAssert) (fun _ _ => rfl) fun _ ⟨fault, lost⟩ => rstnAssert_outranked fault lost,
    happens_of (f := rstnAssert) (fun _ _ => rfl)
      fun _ ⟨fault, off, safe, free⟩ => rstnAssert_running fault off safe free,
    happens_of (f := rstnAssert) (fun _ _ => rfl) fun _ h => rstnAssert_off_or_safe h,
    happens_of (f := rstnRelease) (fun _ _ => rfl) fun _ held => rstnRelease_held held,
    happens_of (f := wakePin) (fun _ _ => rfl) fun _ safe => wakePin_safe safe,
    happens_of (f := wakePin) (fun _ _ => rfl) fun _ ⟨safe, other⟩ => wakePin_wakes safe other,
    happens_of (f := wakePin) (fun _ _ => rfl) fun _ ⟨upsett, kind, now⟩ => wakePin_restarting upsett kind now,
    fun i => happens_of (f := upsettPhaseDone i) (fun _ _ => rfl) fun _ phase => upsettPhaseDone_u0 phase,
    fun i => happens_of (f := upsettPhaseDone i) (fun _ _ => rfl)
      fun _ ⟨phase, good⟩ => upsettPhaseDone_u1_good phase good,
    fun i _ => happens_of (f := upsettPhaseDone i) (fun _ _ => rfl)
      fun _ ⟨phase, bad⟩ => upsettPhaseDone_u1_fault phase bad,
    fun i => happens_of (f := upsettPhaseDone i) (fun _ _ => rfl)
      fun _ ⟨phase, idle, up⟩ => upsettPhaseDone_u2 phase idle up,
    fun i => happens_of (f := upsettPhaseDone i) (fun _ _ => rfl)
      fun _ ⟨phase, upsett, restart⟩ => upsettPhaseDone_u3_restart phase upsett restart,
    fun i => happens_of (f := upsettPhaseDone i) (fun _ _ => rfl)
      fun _ ⟨phase, upsett, cold⟩ => upsettPhaseDone_u3_cold phase upsett cold,
    fun i => happens_of (f := upsettPhaseDone i) (fun _ _ => rfl)
      fun _ ⟨phase, alive, good⟩ => upsettPhaseDone_u4_good phase alive good,
    fun i _ => happens_of (f := upsettPhaseDone i) (fun _ _ => rfl)
      fun _ ⟨phase, alive, bad⟩ => upsettPhaseDone_u4_fault phase alive bad,
    fun i => happens_of (f := upsettPhaseDone i) (fun _ _ => rfl)
      fun _ ⟨phase, scrapped⟩ => upsettPhaseDone_u4_scrapped phase scrapped,
    fun i => happens_of (f := upsettPhaseDone i) (fun _ _ => rfl)
      fun _ ⟨phase, noImage⟩ => upsettPhaseDone_u5_noImage phase noImage,
    fun i _ _ => happens_of (f := upsettPhaseDone i) (fun _ _ => rfl)
      fun _ ⟨phase, choice⟩ => upsettPhaseDone_u5_boots phase choice,
    fun i => happens_of (f := upsettPhaseDone i) (fun _ _ => rfl)
      fun _ ⟨phase, stake⟩ => upsettPhaseDone_u6_stake phase stake,
    fun i => happens_of (f := upsettPhaseDone i) (fun _ _ => rfl)
      fun _ ⟨phase, stake, few, calibrated⟩ => upsettPhaseDone_u6_good phase stake few calibrated,
    fun i => happens_of (f := upsettPhaseDone i) (fun _ _ => rfl)
      fun _ ⟨phase, stake, many⟩ => upsettPhaseDone_u6_weave phase stake many,
    fun i => happens_of (f := upsettPhaseDone i) (fun _ _ => rfl)
      fun _ ⟨phase, upsett, settled⟩ => upsettPhaseDone_u7_settled phase upsett settled,
    fun i => happens_of (f := upsettPhaseDone i) (fun _ _ => rfl)
      fun _ ⟨phase, upsett, waits⟩ => upsettPhaseDone_u7_waits phase upsett waits,
    fun _ e => happens_of (f := upsettPhaseTimeout e) (fun _ _ => rfl)
      fun _ ⟨phase, first, due, settled, retried⟩ => upsettPhaseTimeout_fault e phase first due settled retried,
    fun e => happens_of (f := upsettPhaseTimeout e) (fun _ _ => rfl)
      fun _ ⟨phase, first, due, few⟩ => upsettPhaseTimeout_retry e phase first due few,
    fun _ => happens_of (f := railRetry) (fun _ _ => rfl)
      fun _ ⟨at_, due, idle⟩ => railRetry_due at_ due idle,
    fun edges => happens_of (f := refDetectDone edges) (fun _ _ => rfl)
      fun _ ⟨upsett, stopped⟩ => refDetectDone_upsett edges upsett stopped,
    fun n => happens_of (f := aonTrim n) (fun _ _ => rfl)
      fun _ ⟨on, reference, due, low, high⟩ => aonTrim_inside on reference due low high,
    fun n => happens_of (f := aonTrim n) (fun _ _ => rfl)
      fun _ ⟨on, reference, due, low, rises, room⟩ => aonTrim_below on reference due low rises room⟩

end Sys2Proof.Proofs.StartAndReset

/-!
PROOFS. What the host reads right after reset: one equation for each region of BAR0 that the statement reads, and
the value of each register of `State.reset` by its region.
-/

namespace Sys2Proof.Proofs.ResetValues

open Sys2Proof Sys2Proof.Machine Sys2Proof.Laws

/-! ## The regions of BAR0 (R49) -/

variable (s : State) {a : Nat}

theorem readReg_hst (hi : a < 0x100) : s.readReg a = BitVec.ofNat 32 (s.readHst a) := by
  simp [State.readReg, hi]

theorem readReg_int (lo : 0x100 ≤ a) (hi : a < 0x200) : s.readReg a = BitVec.ofNat 32 (s.readInt a) := by
  simp [State.readReg, hi, Nat.not_lt.mpr lo]

theorem readReg_port (lo : 0x200 ≤ a) (hi : a < 0x400) :
    s.readReg a = BitVec.ofNat 32 (s.readPort ((a - 0x200) / 0x40) (a % 0x40)) := by
  have not_hst : ¬ a < 0x100 := by omega
  simp [State.readReg, hi, not_hst, Nat.not_lt.mpr lo]

theorem readReg_pair (lo : 0x400 ≤ a) (hi : a < 0x500) : s.readReg a = BitVec.ofNat 32 (s.readPair a) := by
  have not_hst : ¬ a < 0x100 := by omega
  have not_int : ¬ a < 0x200 := by omega
  simp [State.readReg, hi, not_hst, not_int, Nat.not_lt.mpr lo]

theorem readReg_mbx (lo : 0x1000 ≤ a) (hi : a < 0x1100) :
    s.readReg a = BitVec.ofNat 32 (s.readMbx ((a - 0x1000) / 16) (a % 16)) := by
  have below : ∀ b ≤ 0x1000, ¬ a < b := by omega
  simp [State.readReg, hi, below]

/-! ## The values right after reset -/

/-- READY in power state READY, phase 7 of the Upsett sequence completed, and no flag set. -/
theorem hstStatus_reset : State.reset.hstStatus = 0x712 := by decide

/-- No throttle is on: both domains stand at their lowest level. -/
theorem stage_reset : State.reset.stage = 0 := by decide

/-- A closed port that has taken no byte reads 0 everywhere. -/
theorem readPort_reset (p o : Nat) : State.reset.readPort p o = 0 := by
  have closed : State.reset.dp p = {} := rfl
  have status : State.reset.dpStatus p = 0 := rfl
  unfold State.readPort
  rw [closed, status]
  dsimp only
  split <;> rfl

/-- A mailbox that has taken no request reads 0, and its shadow set is empty. -/
theorem readMbx_reset (n o : Nat) : State.reset.readMbx n o = 0 := by
  have idle : State.reset.mbox n = {} := rfl
  have nothing_staged : State.reset.stagedCount n = 0 := rfl
  unfold State.readMbx
  rw [idle, nothing_staged]
  dsimp only
  split <;> rfl

theorem readReg_port_reset (k : Nat) (h : k < 128) : State.reset.readReg (0x200 + 4 * k) = 0 := by
  rw [readReg_port _ (by omega) (by omega), readPort_reset]
  rfl

theorem readReg_mbx_reset (k : Nat) (h : k < 64) : State.reset.readReg (0x1000 + 4 * k) = 0 := by
  rw [readReg_mbx _ (by omega) (by omega), readMbx_reset]
  rfl

theorem readReg_status_reset : State.reset.readReg 0x10 = 0x712 := by
  rw [readReg_hst _ (by decide), State.readHst, hstStatus_reset]
  rfl

/-- The rate ceiling is 1 in Q1.15 (R25). -/
theorem readReg_ceil_reset : State.reset.readReg 0x18 = 0x8000 := by
  rw [readReg_hst _ (by decide), State.readHst, stage_reset]
  rfl

/-- The pairing registers other than the status: of a unit that has no twin each reads 0. -/
theorem readReg_pair_reset (h : a ∈ [0x404, 0x408, 0x40C, 0x410, 0x414, 0x418, 0x420, 0x424]) :
    State.reset.readReg a = 0 := by
  have bounds : 0x400 ≤ a ∧ a < 0x500 := by simp at h; omega
  rw [readReg_pair _ bounds.1 bounds.2]
  simp only [List.mem_cons, List.not_mem_nil, or_false] at h
  obtain rfl | rfl | rfl | rfl | rfl | rfl | rfl | rfl := h <;> rfl

/-- Settles O7: the values of the identity, status, interrupt and ring registers are those of the fields of
`State.reset`; every data port, every mailbox and the twin read 0. -/
theorem resetRegisters : Obligations.ResetRegisters := by
  unfold Obligations.ResetRegisters
  refine ⟨rfl, rfl, readReg_status_reset, rfl, readReg_ceil_reset, rfl, rfl, rfl, rfl, rfl, rfl, rfl, rfl, rfl, rfl,
    rfl, readReg_port_reset, readReg_mbx_reset, ?_⟩
  and_intros <;> exact readReg_pair_reset (by decide)

end Sys2Proof.Proofs.ResetValues

/-!
PROOFS. The reports to the host: what an event, an interrupt, an entry of the change log and a completion change,
and how vector 0 counts the entries of the ring.
-/

namespace Sys2Proof.Proofs.Reports

open Sys2Proof Sys2Proof.Machine Sys2Proof.Laws

variable {s : State}

/-! ## COMMAND_DONE (R73, R74, R94) -/

/-- The last object stored under a number is the one that counts. -/
@[simp] theorem table_set_set {α : Type} (t : Table α) (k : Nat) (a b : α) : (t.set k a).set k b = t.set k b := by
  induction t with
  | nil => simp [Table.set]
  | cons x t ih =>
    obtain ⟨i, c⟩ := x
    by_cases below : k < i
    · simp [Table.set, below]
    · by_cases same : k = i
      · simp [Table.set, same]
      · simp [Table.set, below, same, ih]

/-- From `s` to `t` mailbox `n` has a new record, and besides it the ring, the interrupts and what left the block
alone have changed. -/
def CompletedAt (n : Nat) (s t : State) : Prop :=
  ∃ b r x o, t = { s.setMbox n b with ring := r, ints := x, out := o }

theorem completedAt_setMbox (n : Nat) (b : Mailbox) : CompletedAt n s (s.setMbox n b) := ⟨b, _, _, _, rfl⟩

theorem completedAt_trans {n : Nat} {s t u : State} (h : CompletedAt n s t) (k : CompletedAt n t u) :
    CompletedAt n s u := by
  obtain ⟨b, r, x, o, rfl⟩ := h
  obtain ⟨b', r', x', o', rfl⟩ := k
  refine ⟨b', r', x', o', ?_⟩
  simp [State.setMbox]

theorem completedAt_finishDone (w : Waiter) (c : Reason) (cls : Byte) (obj : Nat) :
    CompletedAt w.mbx s (s.finishDone w c cls obj) := by
  unfold State.finishDone
  rw [post_eq]
  exact ⟨_, _, _, _, rfl⟩

/-- The results that waited complete in the same mailbox (R74). -/
theorem completedAt_drainDone {n : Nat} {t : State} (k : Nat) (h : CompletedAt n s t) :
    CompletedAt n s (t.drainDone n k) := by
  induction k generalizing t with
  | zero => exact h
  | succ k ih =>
    unfold State.drainDone
    dsimp only
    split
    case h_1 => exact h
    case h_2 e found =>
      have its : e.1.mbx = n := by
        have := List.find?_some found
        simp only [Bool.and_eq_true, beq_iff_eq] at this
        exact this.1
      have finish := completedAt_finishDone (s := t.setMbox n { t.mbox n with ended := (t.mbox n).ended.erase e })
        e.1 e.2.1 e.2.2.1 e.2.2.2
      rw [its] at finish
      exact ih (completedAt_trans h (completedAt_trans (completedAt_setMbox n _) finish))

theorem completedAt_commandDone (w : Waiter) (c : Reason) (cls : Byte) (obj : Nat) :
    CompletedAt w.mbx s (s.commandDone w c cls obj) := by
  unfold State.commandDone
  dsimp only
  split
  · exact completedAt_setMbox _ _
  · exact completedAt_drainDone _ (completedAt_finishDone w c cls obj)

/-- Settles O11: each report is a change of the records that its equation names. -/
theorem reportsTouchTheirRecordsAlone : Obligations.ReportsTouchTheirRecordsAlone := by
  intro s
  exact ⟨fun b => ⟨_, _, _, post_eq s b⟩, fun n => ⟨_, _, raiseInt_eq s n⟩, fun q => ⟨_, _, _, _, logEntry_eq s q⟩,
    fun q => ⟨_, _, _, _, logOpen_eq s q⟩, completedAt_commandDone⟩

/-! ## Vector 0 (R58) -/

/-- INT_STATUS, the entries counted since its bit 0 was last cleared, and the time of the first of them. -/
def vectorZero (s : State) : BitVec 28 × Nat × Option Nat := (s.ints.status, s.ints.written, s.ints.firstAt)

theorem vectorZero_eq_iff {t : State} {a : BitVec 28} {n : Nat} {f : Option Nat} :
    vectorZero t = (a, n, f) ↔ t.ints.status = a ∧ t.ints.written = n ∧ t.ints.firstAt = f := by
  simp [vectorZero]

/-- A message goes out, or is pended: no source has occurred, and no entry been written. -/
@[simp] theorem vectorZero_sendMsix (n : Nat) (s : State) : vectorZero (s.sendMsix n) = vectorZero s := by
  unfold State.sendMsix
  (repeat' split) <;> rfl

/-- A source sets its bit, whether or not a message goes out. -/
theorem vectorZero_raiseInt (n : Nat) (s : State) :
    vectorZero (s.raiseInt n) = (s.ints.status ||| bit28 n, s.ints.written, s.ints.firstAt) := by
  unfold State.raiseInt
  dsimp only
  split
  · exact vectorZero_sendMsix n _
  · rfl

theorem raiseInt_zero_status (s : State) : (s.raiseInt 0).ints.status.getLsbD 0 = true := by
  obtain ⟨status, -, -⟩ := vectorZero_eq_iff.mp (vectorZero_raiseInt 0 s)
  simp [status, bit28]

theorem getLsbD_zero_andNot (a b : BitVec 28) : (a &&& ~~~b).getLsbD 0 = (a.getLsbD 0 && !b.getLsbD 0) := by
  simp

/-- The bits that a write of INT_STATUS clears: those written as 1 that the device has not set in this very cycle
(R11). -/
def clearedBits (v : Word) (s : State) : BitVec 28 := v.extractLsb' 0 28 &&& ~~~(s.ints.cycle.set s.now)

theorem clearedBits_zero (v : Word) (s : State) :
    (clearedBits v s).getLsbD 0 = (v.getLsbD 0 && !(s.ints.cycle.set s.now).getLsbD 0) := by
  rw [clearedBits, getLsbD_zero_andNot, BitVec.getLsbD_extractLsb']
  rfl

/-- The count restarts exactly where bit 0 is cleared; the messages sent anew leave it. -/
theorem vectorZero_clearInts {v : Word} {b : Bool} (bit : (clearedBits v s).getLsbD 0 = b) :
    vectorZero (s.clearInts v)
      = (s.ints.status &&& ~~~clearedBits v s, cond b (0, none) (s.ints.written, s.ints.firstAt)) := by
  unfold State.clearInts
  refine (SystemState.foldl_view vectorZero _ (fun t n => ?_) _ _).trans ?_
  · split
    · exact vectorZero_sendMsix n t
    · rfl
  · rw [clearedBits] at bit
    dsimp only
    rw [bit]
    cases b <;> rfl

theorem clearInts_restarts {v : Word} (one : v.getLsbD 0 = true)
    (quiet : (s.ints.cycle.set s.now).getLsbD 0 = false) :
    (s.clearInts v).ints.status.getLsbD 0 = false
      ∧ (s.clearInts v).ints.written = 0 ∧ (s.clearInts v).ints.firstAt = none := by
  have cleared : (clearedBits v s).getLsbD 0 = true := by rw [clearedBits_zero, one, quiet]; rfl
  obtain ⟨status, written, firstAt⟩ := vectorZero_eq_iff.mp (vectorZero_clearInts cleared)
  exact ⟨by rw [status, getLsbD_zero_andNot, cleared, Bool.not_true, Bool.and_false], written, firstAt⟩

theorem clearInts_keeps {v : Word} (kept : v.getLsbD 0 = false ∨ (s.ints.cycle.set s.now).getLsbD 0 = true) :
    (s.clearInts v).ints.status.getLsbD 0 = s.ints.status.getLsbD 0
      ∧ (s.clearInts v).ints.written = s.ints.written ∧ (s.clearInts v).ints.firstAt = s.ints.firstAt := by
  have stays : (clearedBits v s).getLsbD 0 = false := by
    obtain zero | now := kept
    · rw [clearedBits_zero, zero, Bool.false_and]
    · rw [clearedBits_zero, now, Bool.not_true, Bool.and_false]
  obtain ⟨status, written, firstAt⟩ := vectorZero_eq_iff.mp (vectorZero_clearInts stays)
  exact ⟨by rw [status, getLsbD_zero_andNot, stays, Bool.not_false, Bool.and_true], written, firstAt⟩

/-- With HOLDOFF 0, or with the bit already 1, the timer has nothing to do. -/
theorem intHoldoffExpiry_idle (idle : s.ints.holdoff = 0 ∨ s.ints.status.getLsbD 0 = true) :
    intHoldoffExpiry s = s := by
  unfold intHoldoffExpiry
  split
  case h_1 => exact if_pos (by obtain off | set := idle <;> simp [*])
  case h_2 => rfl

/-- Settles O16: an entry counts by the definition of `countEntry`, and the rest is what raising source 0, clearing
INT_STATUS and the holdoff row do to the count. -/
theorem vectorZeroCountsEntries : Obligations.VectorZeroCountsEntries := by
  unfold Obligations.VectorZeroCountsEntries
  refine ⟨fun s => rfl, raiseInt_zero_status, fun s v => clearInts_restarts, fun s v => clearInts_keeps, ?_, ?_⟩
  · intro m s t first clear holds due
    exact congrArg Host.Outcome.next (HostRegisters.intHoldoffExpiry_due first clear holds due)
  · intro m s idle
    exact congrArg Host.Outcome.next (intHoldoffExpiry_idle idle)

end Sys2Proof.Proofs.Reports

/-!
PROOFS. The ends of the checks and the data ports: what each row makes of the state, and which action a DP_CTRL write
performs.  One equation per case of an operation; the settling theorems at the end put them together.
-/

namespace Sys2Proof.Proofs.ChecksAndDataPorts

open Sys2Proof Sys2Proof.Machine Sys2Proof.Laws

variable {v : State}

/-! ## Ends of checks (R52, R86, R89, R92) -/

theorem checkDone_passed {l : List CheckKind} (head : v.checks = .printEn :: l) (free : v.testsFixed = false)
    (pass : v.check v.inForce none = none) :
    checkDone v = commitAccept
      (((({ v.popCheck with host := { v.popCheck.host with checkBusy := false } }.setRefuse 0 0 0).post
        (ev Ev.checkDone 0 0 0 1)).raiseInt 25).requestEvent .armed .hostDirect) := by
  simp only [checkDone, head, free, pass, Bool.false_eq_true, if_false]

theorem checkDone_refused {l : List CheckKind} {x : Refused} (head : v.checks = .printEn :: l)
    (free : v.testsFixed = false) (fail : v.check v.inForce none = some x) :
    checkDone v = commitAccept
      ((({ v.popCheck with host := { v.popCheck.host with checkBusy := false } }.setRefuse x.code x.cls x.obj).post
        (ev Ev.checkDone x.cls x.obj x.code 0)).raiseInt 25) := by
  simp only [checkDone, head, free, fail, Bool.false_eq_true, if_false]

/-- R466: the check waits for the test that it pre-empts. -/
theorem checkDone_testsFixed {l : List CheckKind} (head : v.checks = .printEn :: l) (test : v.testsFixed = true) :
    checkDone v = v.preemptFixed := by
  simp only [checkDone, head, test, if_true]

theorem resumeCheckDone_passed {l : List CheckKind} {w : Waiter} (head : v.checks = .resume w :: l)
    (pass : v.check v.inForce none = none) :
    resumeCheckDone v = commitAccept ((v.popCheck.commandDone w 0 0 0).requestEvent .resumed (.mbx w.mbx)) := by
  simp only [resumeCheckDone, head, pass]

theorem resumeCheckDone_refused {l : List CheckKind} {w : Waiter} {x : Refused} (head : v.checks = .resume w :: l)
    (fail : v.check v.inForce none = some x) :
    resumeCheckDone v = commitAccept (v.popCheck.commandDone w x.code x.cls x.obj) := by
  simp only [resumeCheckDone, head, fail]

/-- The whole configuration in force is checked, whatever the mask of bars says. -/
theorem cfgCheckDone_passed {l : List CheckKind} {w : Waiter} {mask : BitVec 16}
    (head : v.checks = .cfg w true false mask :: l) (pass : v.check v.inForce none = none) :
    cfgCheckDone v = commitAccept (v.popCheck.commandDone w 0 0 0) := by
  simp only [cfgCheckDone, head, pass, Bool.false_eq_true, if_true, if_false]

/-- Log entry 161: the own set is checked as it stands now. -/
theorem cfgCheckDone_refused {l : List CheckKind} {w : Waiter} {mask : BitVec 16} {x : Refused}
    (head : v.checks = .cfg w false true mask :: l)
    (fail : v.check (v.view w.mbx) (some (barsOfMask mask.toNat)) = some x) :
    cfgCheckDone v = commitAccept (v.popCheck.commandDone w x.code x.cls x.obj) := by
  simp only [cfgCheckDone, head, fail, Bool.false_eq_true, if_true, if_false]

/-! ## Which action a DP_CTRL write performs (R63) -/

section Action

variable {ctrl : Word} {p : Nat} {a : PortAction}

theorem portAction_abort (b3 : ctrl.getLsbD 3 = true) : portAction ctrl = .abort := by
  rw [portAction, if_pos b3]

theorem portAction_close (b3 : ctrl.getLsbD 3 = false) (b2 : ctrl.getLsbD 2 = true) : portAction ctrl = .close := by
  rw [portAction, b3, if_neg Bool.false_ne_true, if_pos b2]

theorem portAction_flush (b3 : ctrl.getLsbD 3 = false) (b2 : ctrl.getLsbD 2 = false) (b1 : ctrl.getLsbD 1 = true) :
    portAction ctrl = .flush := by
  rw [portAction, b3, b2, if_neg Bool.false_ne_true, if_neg Bool.false_ne_true, if_pos b1]

theorem portAction_open (b3 : ctrl.getLsbD 3 = false) (b2 : ctrl.getLsbD 2 = false) (b1 : ctrl.getLsbD 1 = false)
    (b0 : ctrl.getLsbD 0 = true) : portAction ctrl = .open_ := by
  rw [portAction, b3, b2, b1, if_neg Bool.false_ne_true, if_neg Bool.false_ne_true, if_neg Bool.false_ne_true,
    if_pos b0]

/-- The rows of the actions that a write does not perform leave the state. -/
theorem dpAbort_of_ne (act : portAction ctrl = a) (other : a ≠ .abort) : dpAbort p ctrl v = v := by
  simp [dpAbort, act, other]

theorem dpClose_of_ne (act : portAction ctrl = a) (other : a ≠ .close) : dpClose p ctrl v = v := by
  simp [dpClose, act, other]

theorem dpFlush_of_ne (act : portAction ctrl = a) (other : a ≠ .flush) : dpFlush p ctrl v = v := by
  simp [dpFlush, act, other]

theorem dpOpen_of_ne (act : portAction ctrl = a) (other : a ≠ .open_) : dpOpen p ctrl v = v := by
  simp [dpOpen, act, other]

end Action

/-! ## TARGET (R62) -/

section Target

variable {p : Nat} (ctrl : Word)

/-- TARGET of an open port is not written. -/
theorem setTarget_of_open (opened : (v.dp p).open_ = true) : v.setTarget p ctrl = v := by
  simp [State.setTarget, opened]

/-- Of the port's record, TARGET alone is written. -/
theorem setTarget_dp_open : ((v.setTarget p ctrl).dp p).open_ = (v.dp p).open_ := by
  unfold State.setTarget
  dsimp only
  split
  · rfl
  · rw [setDp_same]

end Target

/-! ## The actions of DP_CTRL (R62, R63, R64, R68) -/

section Performed

variable {p : Nat} {ctrl : Word} (reach : v.hostReaches = true)

/-- What OPEN makes of a DIRECT port that nothing forbids: both pointers stand at the base, and no byte waits. -/
def openedDirect (s : State) (x : DataPort) : DataPort :=
  { x with
    open_ := true, closing := false, stalled := false, framing := false, ptr := x.base, rptr := x.base, count := 0
    merge := [], tracks := s.portTracks x.base x.limit, header := [], blockEnd := none, lastWrite := s.aon }

include reach

theorem dpOpen_direct (act : portAction ctrl = .open_) (allowed : (v.setTarget p ctrl).openRefusal p = none)
    (direct : ((v.setTarget p ctrl).dp p).compress = false) :
    dpOpen p ctrl v
      = (v.setTarget p ctrl).setDp p (openedDirect (v.setTarget p ctrl) ((v.setTarget p ctrl).dp p)) := by
  simp only [dpOpen, reach, act, allowed, direct, openedDirect, bne_self_eq_false, Bool.not_true, Bool.not_false,
    Bool.or_self, Bool.true_and, Bool.false_eq_true, if_false]

theorem dpOpen_refused {code : Reason} (act : portAction ctrl = .open_)
    (refused : (v.setTarget p ctrl).openRefusal p = some code) :
    dpOpen p ctrl v = (v.setTarget p ctrl).portError p code := by
  simp [dpOpen, reach, act, refused]

theorem dpFlush_open (act : portAction ctrl = .flush) (opened : ((v.setTarget p ctrl).dp p).open_ = true) :
    dpFlush p ctrl v = (v.setTarget p ctrl).setDp p (flushMerge ((v.setTarget p ctrl).dp p)) := by
  simp [dpFlush, reach, act, opened]

theorem dpFlush_closed (act : portAction ctrl = .flush) (closed : (v.dp p).open_ = false) :
    dpFlush p ctrl v = v.setTarget p ctrl := by
  simp [dpFlush, reach, act, setTarget_dp_open, closed]

theorem dpClose_of_reaches (act : portAction ctrl = .close) : dpClose p ctrl v = (v.setTarget p ctrl).startClose p := by
  simp [dpClose, reach, act]

theorem dpClose_closed (act : portAction ctrl = .close) (closed : (v.dp p).open_ = false) :
    dpClose p ctrl v = v.setTarget p ctrl := by
  simp [dpClose_of_reaches reach act, State.startClose, setTarget_dp_open, closed]

theorem dpAbort_direct (act : portAction ctrl = .abort) (opened : ((v.setTarget p ctrl).dp p).open_ = true)
    (direct : ((v.setTarget p ctrl).dp p).compress = false) :
    dpAbort p ctrl v = (v.setTarget p ctrl).setDp p
      { (v.setTarget p ctrl).dp p with open_ := false, closing := false, stalled := false, merge := [] } := by
  simp [dpAbort, reach, act, opened, direct]

theorem dpAbort_closed (act : portAction ctrl = .abort) (closed : (v.dp p).open_ = false) :
    dpAbort p ctrl v = v.setTarget p ctrl := by
  simp [dpAbort, reach, act, setTarget_dp_open, closed]

/-- ABORT closes a port of either target. -/
theorem dpAbort_dp_open (act : portAction ctrl = .abort) : ((dpAbort p ctrl v).dp p).open_ = false := by
  cases was : (v.dp p).open_ with
  | false => rw [dpAbort_closed reach act was, setTarget_dp_open, was]
  | true => simp [dpAbort, reach, act, setTarget_of_open ctrl was, was]

end Performed

/-- A port that starts to close is CLOSING, whether or not it was before. -/
theorem startClose_dp_closing {p : Nat} (opened : (v.dp p).open_ = true) :
    ((v.startClose p).dp p).closing = true := by
  cases was : (v.dp p).closing <;> simp [State.startClose, opened, was]

/-! ## The end of a close (R68, R262) -/

/-- The port's record at the end of a close: CLOSED is set in this cycle (R11). -/
def closedPort (s : State) (x : DataPort) : DataPort :=
  { x with open_ := false, closing := false, stalled := false, closed := true, cycle := x.cycle.note s.now 0x100 0 0 }

theorem dpCloseComplete_direct {p : Nat} (opened : (v.dp p).open_ = true) (closing : (v.dp p).closing = true)
    (idle : portBusy (v.dp p) = false) (direct : (v.dp p).compress = false) :
    dpCloseComplete p v
      = (((v.unbindSession p).setDp p (closedPort (v.unbindSession p) ((v.unbindSession p).dp p))).raiseInt
          (17 + p)).postPort p Ev.dpClosed 0 (v.dp p).count := by
  simp only [dpCloseComplete, opened, closing, idle, direct, Bool.not_true, Bool.or_self, Bool.false_and,
    Bool.false_eq_true, if_false]
  rfl

/-! ## The window (R64, R66, R67, R69) -/

section Window

variable {p : Nat} (reach : v.hostReaches = true) (awake : v.pwr ≠ .doze)
include reach awake

theorem dpWindowWrite_closed (bytes : List Byte)
    (shut : (v.dp p).open_ = false ∨ (v.dp p).closing = true) :
    dpWindowWrite p bytes false v = { v with power := { v.power with lastActivity := v.aon } }.setDp p
      { v.dp p with
        dropped := (v.dp p).dropped + BitVec.ofNat 32 bytes.length
        cycle := (v.dp p).cycle.note v.now 0 0 bytes.length } := by
  have same : ({ v with power := { v.power with lastActivity := v.aon } } : State).dp p = v.dp p := rfl
  have drops : (!(v.dp p).open_ || (v.dp p).closing) = true := by obtain closed | closing := shut <;> simp [*]
  simp only [dpWindowWrite, reach, hostAccess_awake v awake, same, drops, Bool.not_true, Bool.false_eq_true, if_false,
    if_true]
  rfl

theorem dpWindowWrite_fits (bytes : List Byte) (opened : (v.dp p).open_ = true) (still : (v.dp p).closing = false)
    (direct : (v.dp p).compress = false) (some_ : bytes ≠ [])
    (fits : bytes.length ≤ (v.dp p).limit - (v.dp p).ptr) :
    dpWindowWrite p bytes false v
      = { v with power := { v.power with lastActivity := v.aon } }.acceptBytes p bytes := by
  have same : ({ v with power := { v.power with lastActivity := v.aon } } : State).dp p = v.dp p := rfl
  have takes : min bytes.length ((v.dp p).limit - (v.dp p).ptr) = bytes.length := Nat.min_eq_left fits
  have not_empty : bytes.length ≠ 0 := by simpa using some_
  simp only [dpWindowWrite, reach, hostAccess_awake v awake, same, opened, still, direct, takes, not_empty,
    List.take_length, Nat.le_refl, Bool.not_true, Bool.or_self, Bool.false_eq_true, if_false, if_true]

theorem dpWindowRead_direct (count : Nat) (opened : (v.dp p).open_ = true) (direct : (v.dp p).compress = false) :
    dpWindowRead p count v
      = { v with host := { v.host with
            readBytes := (List.range count).map (fun i => v.streamByte (v.dp p) ((v.dp p).rptr + i)) } }.setDp p
          { v.dp p with rptr := ((v.dp p).rptr + count) % 2 ^ 35 } := by
  simp [dpWindowRead, reach, hostAccess_awake v awake, opened, direct]

theorem dpWindowRead_zeros (count : Nat) (no : (v.dp p).open_ = false ∨ (v.dp p).compress = true) :
    dpWindowRead p count v = { v with host := { v.host with readBytes := zeros count } } := by
  obtain closed | compress := no
  · simp [dpWindowRead, reach, hostAccess_awake v awake, closed]
  · simp [dpWindowRead, reach, hostAccess_awake v awake, compress]

end Window

theorem dpStallTimeout_due {p : Nat} (mid : v.midBlock p = true) (running : (v.dp p).stalled = false)
    (due : (v.dp p).lastWrite + 10240 < v.aon) :
    dpStallTimeout p v = ((v.setDp p { v.dp p with stalled := true }).raiseInt (17 + p)).postPort p Ev.dpStalled 0
      (v.dp p).ptr := by
  simp [dpStallTimeout, mid, running, Nat.not_le.mpr due]

/-! ## The rows -/

/-- Settles O13: the first action bit that is set names the action, the three other rows leave the state, and on a
closed port the action itself stops behind TARGET. -/
theorem oneDataPortAction : Obligations.OneDataPortAction := by
  intro m p ctrl s reach
  refine ⟨fun b3 => ?_, fun b3 b2 => ?_, fun b3 b2 b1 => ?_, fun b3 b2 b1 b0 => ?_, fun closed => ?_⟩
  · have act := portAction_abort b3
    exact ⟨congrArg Host.Outcome.next (dpClose_of_ne act (by decide)),
      congrArg Host.Outcome.next (dpFlush_of_ne act (by decide)),
      congrArg Host.Outcome.next (dpOpen_of_ne act (by decide)),
      _, rfl, dpAbort_dp_open reach act⟩
  · have act := portAction_close b3 b2
    refine ⟨congrArg Host.Outcome.next (dpAbort_of_ne act (by decide)),
      congrArg Host.Outcome.next (dpFlush_of_ne act (by decide)),
      congrArg Host.Outcome.next (dpOpen_of_ne act (by decide)),
      fun opened => ⟨_, congrArg Host.Outcome.next (dpClose_of_reaches reach act), ?_⟩⟩
    exact startClose_dp_closing ((setTarget_dp_open ctrl).trans opened)
  · have act := portAction_flush b3 b2 b1
    refine ⟨congrArg Host.Outcome.next (dpAbort_of_ne act (by decide)),
      congrArg Host.Outcome.next (dpClose_of_ne act (by decide)),
      congrArg Host.Outcome.next (dpOpen_of_ne act (by decide)), fun opened => ?_⟩
    have opened' := (setTarget_dp_open ctrl).trans opened
    exact ⟨_, congrArg Host.Outcome.next (dpFlush_open reach act opened'), by rw [setDp_same, flushMerge]⟩
  · have act := portAction_open b3 b2 b1 b0
    refine ⟨congrArg Host.Outcome.next (dpAbort_of_ne act (by decide)),
      congrArg Host.Outcome.next (dpClose_of_ne act (by decide)),
      congrArg Host.Outcome.next (dpFlush_of_ne act (by decide)), fun allowed direct => ?_⟩
    exact ⟨_, congrArg Host.Outcome.next (dpOpen_direct reach act allowed direct), by rw [setDp_same, openedDirect]⟩
  · exact ⟨fun b3 => congrArg Host.Outcome.next (dpAbort_closed reach (portAction_abort b3) closed),
      fun b3 b2 => congrArg Host.Outcome.next (dpClose_closed reach (portAction_close b3 b2) closed),
      fun b3 b2 b1 => congrArg Host.Outcome.next (dpFlush_closed reach (portAction_flush b3 b2 b1) closed)⟩

/-- Settles O44: each row is its operation at the row's moment, and each clause is one case of that operation. -/
theorem checksAndDataPortRows : Obligations.ChecksAndDataPortRows := by
  unfold Obligations.ChecksAndDataPortRows
  exact ⟨
    fun _ => happens_of (f := checkDone) (fun _ _ => rfl)
      fun _ ⟨head, free, pass⟩ => checkDone_passed head free pass,
    fun _ _ => happens_of (f := checkDone) (fun _ _ => rfl)
      fun _ ⟨head, free, fail⟩ => checkDone_refused head free fail,
    fun _ => happens_of (f := checkDone) (fun _ _ => rfl) fun _ ⟨head, test⟩ => checkDone_testsFixed head test,
    fun _ _ => happens_of (f := resumeCheckDone) (fun _ _ => rfl)
      fun _ ⟨head, pass⟩ => resumeCheckDone_passed head pass,
    fun _ _ _ => happens_of (f := resumeCheckDone) (fun _ _ => rfl)
      fun _ ⟨head, fail⟩ => resumeCheckDone_refused head fail,
    fun _ _ _ => happens_of (f := cfgCheckDone) (fun _ _ => rfl)
      fun _ ⟨head, pass⟩ => cfgCheckDone_passed head pass,
    fun _ _ _ _ => happens_of (f := cfgCheckDone) (fun _ _ => rfl)
      fun _ ⟨head, fail⟩ => cfgCheckDone_refused head fail,
    fun p ctrl => happens_of (f := dpOpen p.val ctrl) (fun _ _ => rfl)
      fun _ ⟨reach, act, allowed, direct⟩ => dpOpen_direct reach act allowed direct,
    fun p ctrl _ => happens_of (f := dpOpen p.val ctrl) (fun _ _ => rfl)
      fun _ ⟨reach, act, refused⟩ => dpOpen_refused reach act refused,
    fun p ctrl => happens_of (f := dpFlush p.val ctrl) (fun _ _ => rfl)
      fun _ ⟨reach, act, opened⟩ => dpFlush_open reach act opened,
    fun p ctrl => happens_of (f := dpClose p.val ctrl) (fun _ _ => rfl)
      fun _ ⟨reach, act⟩ => dpClose_of_reaches reach act,
    fun p => happens_of (f := dpCloseEnd p.val) (fun _ _ => rfl)
      fun _ ⟨opened, closing, idle, direct⟩ =>
        congrArg State.tryEntry (dpCloseComplete_direct opened closing idle direct),
    fun p ctrl => happens_of (f := dpAbort p.val ctrl) (fun _ _ => rfl)
      fun _ ⟨reach, act, opened, direct⟩ => dpAbort_direct reach act opened direct,
    fun p bytes => happens_of (f := dpWindowWrite p.val bytes false) (fun _ _ => rfl)
      fun _ ⟨reach, awake, shut⟩ => dpWindowWrite_closed reach awake bytes shut,
    fun p bytes => happens_of (f := dpWindowWrite p.val bytes false) (fun _ _ => rfl)
      fun _ ⟨reach, awake, opened, still, direct, some_, fits⟩ =>
        dpWindowWrite_fits reach awake bytes opened still direct some_ fits,
    fun p count => happens_of (f := dpWindowRead p.val count) (fun _ _ => rfl)
      fun _ ⟨reach, awake, opened, direct⟩ => dpWindowRead_direct reach awake count opened direct,
    fun p count => happens_of (f := dpWindowRead p.val count) (fun _ _ => rfl)
      fun _ ⟨reach, awake, no⟩ => dpWindowRead_zeros reach awake count no,
    fun p count => happens_of (f := dpHbmWriteDone p.val count) (fun _ _ => rfl) fun _ _ => rfl,
    fun p => happens_of (f := dpStallTimeout p.val) (fun _ _ => rfl)
      fun _ ⟨mid, running, _, due⟩ => dpStallTimeout_due mid running due⟩

end Sys2Proof.Proofs.ChecksAndDataPorts

/-!
PROOFS. What holds of every command: it runs from the front of the queue, answers a next state, and leaves the queue
and the canonical form of the memories.
-/

namespace Sys2Proof.Proofs.Commands

open Sys2Proof Sys2Proof.Machine Sys2Proof.Laws

/-- Every command leaves the queue, and the memories in their canonical form: the row's own law. -/
theorem exec_keeps (s t : State) : ∀ c : Instr, exec c s = .next t → Keeps s t
  | .printEnWrite m v, ran => keeps_execPrintEnWrite m v s t ran
  | .checkDone m, ran => keeps_execCheckDone m s t ran
  | .resumeCheckDone m, ran => keeps_execResumeCheckDone m s t ran
  | .cfgCheckDone m, ran => keeps_execCfgCheckDone m s t ran
  | .dpOpen m p ctrl, ran => keeps_execDpOpen m p ctrl s t ran
  | .dpFlush m p ctrl, ran => keeps_execDpFlush m p ctrl s t ran
  | .dpClose m p ctrl, ran => keeps_execDpClose m p ctrl s t ran
  | .dpCloseComplete m p, ran => keeps_execDpCloseComplete m p s t ran
  | .dpAbort m p ctrl, ran => keeps_execDpAbort m p ctrl s t ran
  | .dpWindowWrite m p bytes poisoned, ran => keeps_execDpWindowWrite m p bytes poisoned s t ran
  | .dpWindowRead m p count, ran => keeps_execDpWindowRead m p count s t ran
  | .dpHbmWriteDone m p count, ran => keeps_execDpHbmWriteDone m p count s t ran
  | .dpStallTimeout m p, ran => keeps_execDpStallTimeout m p s t ran
  | .tickLoRead m wide, ran => keeps_execTickLoRead m wide s t ran
  | .aonLoRead m wide, ran => keeps_execAonLoRead m wide s t ran
  | .ringLostRead m, ran => keeps_execRingLostRead m s t ran
  | .dpDroppedRead m p, ran => keeps_execDpDroppedRead m p s t ran
  | .pairDivergencesRead m, ran => keeps_execPairDivergencesRead m s t ran
  | .ringEnableWrite m v, ran => keeps_execRingEnableWrite m v s t ran
  | .ringConsWrite m v, ran => keeps_execRingConsWrite m v s t ran
  | .intEnableWrite m v, ran => keeps_execIntEnableWrite m v s t ran
  | .registerWrite m offset size v, ran => keeps_execRegisterWrite m offset size v s t ran
  | .intHoldoffExpiry m, ran => keeps_execIntHoldoffExpiry m s t ran
  | .sysNop m rq, ran => keeps_execSysNop m rq s t ran
  | .sysInfo m rq, ran => keeps_execSysInfo m rq s t ran
  | .sysState m rq, ran => keeps_execSysState m rq s t ran
  | .sysPause m rq, ran => keeps_execSysPause m rq s t ran
  | .sysResume m rq, ran => keeps_execSysResume m rq s t ran
  | .sysReset m rq, ran => keeps_execSysReset m rq s t ran
  | .resetEntry m, ran => keeps_execResetEntry m s t ran
  | .sysDoneList m rq, ran => keeps_execSysDoneList m rq s t ran
  | .cfgCommit m rq, ran => keeps_execCfgCommit m rq s t ran
  | .commitAccept m, ran => keeps_execCommitAccept m s t ran
  | .cfgDiscard m rq, ran => keeps_execCfgDiscard m rq s t ran
  | .cfgStaged m rq, ran => keeps_execCfgStaged m rq s t ran
  | .cfgCheck m rq, ran => keeps_execCfgCheck m rq s t ran
  | .cfgOwner m rq, ran => keeps_execCfgOwner m rq s t ran
  | .geomHeadSet m rq, ran => keeps_execGeomHeadSet m rq s t ran
  | .geomRowSet m rq, ran => keeps_execGeomRowSet m rq s t ran
  | .geomBarSet m rq, ran => keeps_execGeomBarSet m rq s t ran
  | .geomNmapWrite m rq, ran => keeps_execGeomNmapWrite m rq s t ran
  | .geomNmapLoad m rq, ran => keeps_execGeomNmapLoad m rq s t ran
  | .geomNmapRead m rq, ran => keeps_execGeomNmapRead m rq s t ran
  | .geomStitchSet m rq, ran => keeps_execGeomStitchSet m rq s t ran
  | .geomMaskLoad m rq, ran => keeps_execGeomMaskLoad m rq s t ran
  | .geomSwath m rq, ran => keeps_execGeomSwath m rq s t ran
  | .geomGet m rq, ran => keeps_execGeomGet m rq s t ran
  | .geomCoverage m rq, ran => keeps_execGeomCoverage m rq s t ran
  | .coverageDone m, ran => keeps_execCoverageDone m s t ran
  | .axisConfig m rq, ran => keeps_execAxisConfig m rq s t ran
  | .axisEnable m rq, ran => keeps_execAxisEnable m rq s t ran
  | .axisRead m rq, ran => keeps_execAxisRead m rq s t ran
  | .axisPreset m rq, ran => keeps_execAxisPreset m rq s t ran
  | .axisClear m rq, ran => keeps_execAxisClear m rq s t ran
  | .axisEchoSet m rq, ran => keeps_execAxisEchoSet m rq s t ran
  | .axisWakeSet m rq, ran => keeps_execAxisWakeSet m rq s t ran
  | .axisBarPosition m rq, ran => keeps_execAxisBarPosition m rq s t ran
  | .axisGet m rq, ran => keeps_execAxisGet m rq s t ran
  | .trigConfig m rq, ran => keeps_execTrigConfig m rq s t ran
  | .trigEnable m rq, ran => keeps_execTrigEnable m rq s t ran
  | .trigRunWrite m rq, ran => keeps_execTrigRunWrite m rq s t ran
  | .trigRunStart m rq, ran => keeps_execTrigRunStart m rq s t ran
  | .trigStatus m rq, ran => keeps_execTrigStatus m rq s t ran
  | .trigSpit m rq, ran => keeps_execTrigSpit m rq s t ran
  | .spitBurstDone m g, ran => keeps_execSpitBurstDone m g s t ran
  | .trigSpitResume m rq, ran => keeps_execTrigSpitResume m rq s t ran
  | .trigTrigoutSet m rq, ran => keeps_execTrigTrigoutSet m rq s t ran
  | .trigGet m rq, ran => keeps_execTrigGet m rq s t ran
  | .trigClear m rq, ran => keeps_execTrigClear m rq s t ran
  | .waveWaveSet m rq, ran => keeps_execWaveWaveSet m rq s t ran
  | .waveProfileSet m rq, ran => keeps_execWaveProfileSet m rq s t ran
  | .waveBarSet m rq, ran => keeps_execWaveBarSet m rq s t ran
  | .waveChannelSet m rq, ran => keeps_execWaveChannelSet m rq s t ran
  | .waveDacSet m rq, ran => keeps_execWaveDacSet m rq s t ran
  | .waveCurveSet m rq, ran => keeps_execWaveCurveSet m rq s t ran
  | .waveGet m rq, ran => keeps_execWaveGet m rq s t ran
  | .waveStatus m rq, ran => keeps_execWaveStatus m rq s t ran
  | .waveClear m rq, ran => keeps_execWaveClear m rq s t ran
  | .planeDefine m rq, ran => keeps_execPlaneDefine m rq s t ran
  | .planeEnable m rq, ran => keeps_execPlaneEnable m rq s t ran
  | .planeRingSet m rq, ran => keeps_execPlaneRingSet m rq s t ran
  | .planeIndexWrite m rq, ran => keeps_execPlaneIndexWrite m rq s t ran
  | .planeIndexRead m rq, ran => keeps_execPlaneIndexRead m rq s t ran
  | .planeStatus m rq, ran => keeps_execPlaneStatus m rq s t ran
  | .planeRetry m rq, ran => keeps_execPlaneRetry m rq s t ran
  | .planeGet m rq, ran => keeps_execPlaneGet m rq s t ran
  | .planeClear m rq, ran => keeps_execPlaneClear m rq s t ran
  | .plaitSessionOpen m rq, ran => keeps_execPlaitSessionOpen m rq s t ran
  | .plaitSessionEnd m rq, ran => keeps_execPlaitSessionEnd m rq s t ran
  | .plaitSessionStatus m rq, ran => keeps_execPlaitSessionStatus m rq s t ran
  | .plaitVerify m rq, ran => keeps_execPlaitVerify m rq s t ran
  | .verifyDone m, ran => keeps_execVerifyDone m s t ran
  | .plaitVerifyResult m rq, ran => keeps_execPlaitVerifyResult m rq s t ran
  | .plaitDecode m rq, ran => keeps_execPlaitDecode m rq s t ran
  | .decodeDone m, ran => keeps_execDecodeDone m s t ran
  | .plaitStatus m rq, ran => keeps_execPlaitStatus m rq s t ran
  | .plaitClear m rq, ran => keeps_execPlaitClear m rq s t ran
  | .canePortSet m rq, ran => keeps_execCanePortSet m rq s t ran
  | .canePortStatus m rq, ran => keeps_execCanePortStatus m rq s t ran
  | .caneModuleInfo m rq, ran => keeps_execCaneModuleInfo m rq s t ran
  | .caneRetrain m rq, ran => keeps_execCaneRetrain m rq s t ran
  | .caneClear m rq, ran => keeps_execCaneClear m rq s t ran
  | .caneGet m rq, ran => keeps_execCaneGet m rq s t ran
  | .healthPolicySet m rq, ran => keeps_execHealthPolicySet m rq s t ran
  | .healthRefSet m rq, ran => keeps_execHealthRefSet m rq s t ran
  | .healthSubstSet m rq, ran => keeps_execHealthSubstSet m rq s t ran
  | .healthSubstClear m rq, ran => keeps_execHealthSubstClear m rq s t ran
  | .healthReportOut m rq, ran => keeps_execHealthReportOut m rq s t ran
  | .healthReleaseOut m rq, ran => keeps_execHealthReleaseOut m rq s t ran
  | .healthTempSet m rq, ran => keeps_execHealthTempSet m rq s t ran
  | .healthNozzleRead m rq, ran => keeps_execHealthNozzleRead m rq s t ran
  | .healthSubstRead m rq, ran => keeps_execHealthSubstRead m rq s t ran
  | .healthStatus m rq, ran => keeps_execHealthStatus m rq s t ran
  | .healthGet m rq, ran => keeps_execHealthGet m rq s t ran
  | .healthClear m rq, ran => keeps_execHealthClear m rq s t ran
  | .pairConfig m rq, ran => keeps_execPairConfig m rq s t ran
  | .pairStatus m rq, ran => keeps_execPairStatus m rq s t ran
  | .pairPromote m rq, ran => keeps_execPairPromote m rq s t ran
  | .pairResync m rq, ran => keeps_execPairResync m rq s t ran
  | .pairUnpair m rq, ran => keeps_execPairUnpair m rq s t ran
  | .pairGet m rq, ran => keeps_execPairGet m rq s t ran
  | .pairRejoin m rq, ran => keeps_execPairRejoin m rq s t ran
  | .memStatus m rq, ran => keeps_execMemStatus m rq s t ran
  | .memRegions m rq, ran => keeps_execMemRegions m rq s t ran
  | .memStakeStatus m rq, ran => keeps_execMemStakeStatus m rq s t ran
  | .memStakeHandover m rq, ran => keeps_execMemStakeHandover m rq s t ran
  | .memBankRetire m rq, ran => keeps_execMemBankRetire m rq s t ran
  | .weaveReformDone m, ran => keeps_execWeaveReformDone m s t ran
  | .memScrubSet m rq, ran => keeps_execMemScrubSet m rq s t ran
  | .memErrors m rq, ran => keeps_execMemErrors m rq s t ran
  | .memHbmRows m rq, ran => keeps_execMemHbmRows m rq s t ran
  | .memHbmRepair m rq, ran => keeps_execMemHbmRepair m rq s t ran
  | .memClear m rq, ran => keeps_execMemClear m rq s t ran
  | .memGet m rq, ran => keeps_execMemGet m rq s t ran
  | .dmaOpen m rq, ran => keeps_execDmaOpen m rq s t ran
  | .dmaClose m rq, ran => keeps_execDmaClose m rq s t ran
  | .dmaStart m rq, ran => keeps_execDmaStart m rq s t ran
  | .dmaStatus m rq, ran => keeps_execDmaStatus m rq s t ran
  | .dmaResume m rq, ran => keeps_execDmaResume m rq s t ran
  | .dmaSkip m rq, ran => keeps_execDmaSkip m rq s t ran
  | .dmaAbort m rq, ran => keeps_execDmaAbort m rq s t ran
  | .dmaClear m rq, ran => keeps_execDmaClear m rq s t ran
  | .powerStatus m rq hvok, ran => keeps_execPowerStatus m rq hvok s t ran
  | .powerSetState m rq, ran => keeps_execPowerSetState m rq s t ran
  | .powerPolicySet m rq, ran => keeps_execPowerPolicySet m rq s t ran
  | .powerHvSet m rq, ran => keeps_execPowerHvSet m rq s t ran
  | .powerRailRead m rq bus, ran => keeps_execPowerRailRead m rq bus s t ran
  | .powerImageWrite m rq, ran => keeps_execPowerImageWrite m rq s t ran
  | .imageWriteDone m ok, ran => keeps_execImageWriteDone m ok s t ran
  | .powerGet m rq, ran => keeps_execPowerGet m rq s t ran
  | .powerThermRead m rq, ran => keeps_execPowerThermRead m rq s t ran
  | .powerThermSet m rq, ran => keeps_execPowerThermSet m rq s t ran
  | .powerThermGet m rq, ran => keeps_execPowerThermGet m rq s t ran
  | .powerThermClear m rq, ran => keeps_execPowerThermClear m rq s t ran
  | .calStatus m rq, ran => keeps_execCalStatus m rq s t ran
  | .calRun m rq, ran => keeps_execCalRun m rq s t ran
  | .calStore m rq, ran => keeps_execCalStore m rq s t ran
  | .calStored m ok, ran => keeps_execCalStored m ok s t ran
  | .calAdcRead m rq, ran => keeps_execCalAdcRead m rq s t ran
  | .calCoeffRead m rq, ran => keeps_execCalCoeffRead m rq s t ran
  | .otpStatus m rq, ran => keeps_execOtpStatus m rq s t ran
  | .otpRead m rq, ran => keeps_execOtpRead m rq s t ran
  | .otpProgram m rq, ran => keeps_execOtpProgram m rq s t ran
  | .otpRepairPulse m rq, ran => keeps_execOtpRepairPulse m rq s t ran
  | .otpLcChallenge m rq, ran => keeps_execOtpLcChallenge m rq s t ran
  | .otpLcAdvance m rq, ran => keeps_execOtpLcAdvance m rq s t ran
  | .otpRevokeKey m rq, ran => keeps_execOtpRevokeKey m rq s t ran
  | .otpMarginCheck m rq, ran => keeps_execOtpMarginCheck m rq s t ran
  | .otpOperationDone m pulses, ran => keeps_execOtpOperationDone m pulses s t ran
  | .bistStatus m rq, ran => keeps_execBistStatus m rq s t ran
  | .bistRun m rq, ran => keeps_execBistRun m rq s t ran
  | .bistStop m rq, ran => keeps_execBistStop m rq s t ran
  | .bistResult m rq, ran => keeps_execBistResult m rq s t ran
  | .bistConfig m rq, ran => keeps_execBistConfig m rq s t ran
  | .bistGet m rq, ran => keeps_execBistGet m rq s t ran
  | .logStatus m rq, ran => keeps_execLogStatus m rq s t ran
  | .logRead m rq, ran => keeps_execLogRead m rq s t ran
  | .logAck m rq, ran => keeps_execLogAck m rq s t ran
  | .logConfig m rq, ran => keeps_execLogConfig m rq s t ran
  | .logEpochSet m rq, ran => keeps_execLogEpochSet m rq s t ran
  | .logGet m rq, ran => keeps_execLogGet m rq s t ran
  | .porRelease m vddAonGood, ran => keeps_execPorRelease m vddAonGood s t ran
  | .porAssert m, ran => keeps_execPorAssert m s t ran
  | .rstnAssert m, ran => keeps_execRstnAssert m s t ran
  | .wakePin m, ran => keeps_execWakePin m s t ran
  | .upsettPhaseDone m info, ran => keeps_execUpsettPhaseDone m info s t ran
  | .upsettPhaseTimeout m edges, ran => keeps_execUpsettPhaseTimeout m edges s t ran
  | .railRetry m, ran => keeps_execRailRetry m s t ran
  | .refDetectDone m edges, ran => keeps_execRefDetectDone m edges s t ran
  | .railStep m, ran => keeps_execRailStep m s t ran
  | .pgFall m, ran => keeps_execPgFall m s t ran
  | .pgTimeout m, ran => keeps_execPgTimeout m s t ran
  | .railLost m k, ran => keeps_execRailLost m k s t ran
  | .refLost m, ran => keeps_execRefLost m s t ran
  | .pllUnlock m pll, ran => keeps_execPllUnlock m pll s t ran
  | .hostLinkLoss m, ran => keeps_execHostLinkLoss m s t ran
  | .pcieLinkUp m, ran => keeps_execPcieLinkUp m s t ran
  | .aonTrim m count, ran => keeps_execAonTrim m count s t ran
  | .pmbusAlert m rail status, ran => keeps_execPmbusAlert m rail status s t ran
  | .dozeTimer m, ran => keeps_execDozeTimer m s t ran
  | .sleepTimer m, ran => keeps_execSleepTimer m s t ran
  | .powerEntry m, ran => keeps_execPowerEntry m s t ran
  | .hvDischarged m k, ran => keeps_execHvDischarged m k s t ran
  | .pcieWake m, ran => keeps_execPcieWake m s t ran
  | .aonWakeTimer m, ran => keeps_execAonWakeTimer m s t ran
  | .wakeComplete m, ran => keeps_execWakeComplete m s t ran
  | .hvokTimeout m k, ran => keeps_execHvokTimeout m k s t ran
  | .hvLost m k, ran => keeps_execHvLost m k s t ran
  | .hvDischargeTimeout m k, ran => keeps_execHvDischargeTimeout m k s t ran
  | .vddioLost m, ran => keeps_execVddioLost m s t ran
  | .thermalSample m r, ran => keeps_execThermalSample m r s t ran
  | .sensorValidityChange m info, ran => keeps_execSensorValidityChange m info s t ran
  | .thermGradient m, ran => keeps_execThermGradient m s t ran
  | .thermLevel m domain, ran => keeps_execThermLevel m domain s t ran
  | .hbmSensorLost m, ran => keeps_execHbmSensorLost m s t ran
  | .keeperTrip m, ran => keeps_execKeeperTrip m s t ran
  | .safeRestart m, ran => keeps_execSafeRestart m s t ran
  | .quadratureEdge m n rawA rawB, ran => keeps_execQuadratureEdge m n rawA rawB s t ran
  | .indexEvent m n rawZ, ran => keeps_execIndexEvent m n rawZ s t ran
  | .ssiFrameStart m n dataHigh, ran => keeps_execSsiFrameStart m n dataHigh s t ran
  | .ssiFrameEnd m n bits endLow, ran => keeps_execSsiFrameEnd m n bits endLow s t ran
  | .speedWindowEnd m n, ran => keeps_execSpeedWindowEnd m n s t ran
  | .eventHoldoffExpiry m key, ran => keeps_execEventHoldoffExpiry m key s t ran
  | .echoStep m k, ran => keeps_execEchoStep m k s t ran
  | .motionWakeTransition m n, ran => keeps_execMotionWakeTransition m n s t ran
  | .wakeWindowEnd m, ran => keeps_execWakeWindowEnd m s t ran
  | .periodicEvaluation m, ran => keeps_execPeriodicEvaluation m s t ran
  | .tickleEmit m b, ran => keeps_execTickleEmit m b s t ran
  | .dryRisk m b, ran => keeps_execDryRisk m b s t ran
  | .trigoutPulse m k, ran => keeps_execTrigoutPulse m k s t ran
  | .linePrepare m b, ran => keeps_execLinePrepare m b s t ran
  | .nozSend m b p, ran => keeps_execNozSend m b p s t ran
  | .decompSchedule m, ran => keeps_execDecompSchedule m s t ran
  | .indexReread m b, ran => keeps_execIndexReread m b s t ran
  | .blockDecodeDone m u, ran => keeps_execBlockDecodeDone m u s t ran
  | .decompResume m b, ran => keeps_execDecompResume m b s t ran
  | .peerBlockResponse m p block bytes, ran => keeps_execPeerBlockResponse m p block bytes s t ran
  | .peerRequestTimeout m p, ran => keeps_execPeerRequestTimeout m p s t ran
  | .peerBlockRequest m p block, ran => keeps_execPeerBlockRequest m p block s t ran
  | .sessionBlockEmit m k, ran => keeps_execSessionBlockEmit m k s t ran
  | .rxLocked m p, ran => keeps_execRxLocked m p s t ran
  | .blockLockAcquired m p inverted, ran => keeps_execBlockLockAcquired m p inverted s t ran
  | .blockLockLoss m p, ran => keeps_execBlockLockLoss m p s t ran
  | .rimReceived m p fault blockLock spaced, ran => keeps_execRimReceived m p fault blockLock spaced s t ran
  | .rimMissing m p, ran => keeps_execRimMissing m p s t ran
  | .trainTimeout m p, ran => keeps_execTrainTimeout m p s t ran
  | .trainRestart m p, ran => keeps_execTrainRestart m p s t ran
  | .stsReceived m p sts, ran => keeps_execStsReceived m p sts s t ran
  | .hltReceived m p seq recs, ran => keeps_execHltReceived m p seq recs s t ran
  | .ackReceived m p seq tRx tTx t4, ran => keeps_execAckReceived m p seq tRx tTx t4 s t ran
  | .nakReceived m p seq code, ran => keeps_execNakReceived m p seq code s t ran
  | .ackTimeout m p seq, ran => keeps_execAckTimeout m p seq s t ran
  | .lineDeadline m p b line, ran => keeps_execLineDeadline m p b line s t ran
  | .tsySend m p, ran => keeps_execTsySend m p s t ran
  | .bankCatchup m, ran => keeps_execBankCatchup m s t ran
  | .healthAssess m, ran => keeps_execHealthAssess m s t ran
  | .healthReqTimeout m nozzle, ran => keeps_execHealthReqTimeout m nozzle s t ran
  | .fwAutoSubmit m, ran => keeps_execFwAutoSubmit m s t ran
  | .heaterLoop m, ran => keeps_execHeaterLoop m s t ran
  | .pairTrainTimeout m, ran => keeps_execPairTrainTimeout m s t ran
  | .pairRetrain m, ran => keeps_execPairRetrain m s t ran
  | .pairHello m h, ran => keeps_execPairHello m h s t ran
  | .hbToggle m, ran => keeps_execHbToggle m s t ran
  | .heartbeatTimeout m pinSilent, ran => keeps_execHeartbeatTimeout m pinSilent s t ran
  | .faultDeclared m, ran => keeps_execFaultDeclared m s t ran
  | .controlMessage m c latency, ran => keeps_execControlMessage m c latency s t ran
  | .inputFallback m, ran => keeps_execInputFallback m s t ran
  | .stateEventApply m, ran => keeps_execStateEventApply m s t ran
  | .ceilingApply m, ran => keeps_execCeilingApply m s t ran
  | .tempSnapshotSend m, ran => keeps_execTempSnapshotSend m s t ran
  | .commitPrepare m changes, ran => keeps_execCommitPrepare m changes s t ran
  | .commitReady m ready, ran => keeps_execCommitReady m ready s t ran
  | .commitMirror m id lines, ran => keeps_execCommitMirror m id lines s t ran
  | .readyTimeout m, ran => keeps_execReadyTimeout m s t ran
  | .digestReceived m b p line digest excluded, ran => keeps_execDigestReceived m b p line digest excluded s t ran
  | .digestAbsent m b p line, ran => keeps_execDigestAbsent m b p line s t ran
  | .resyncSnapshot m x, ran => keeps_execResyncSnapshot m x s t ran
  | .resyncTimeout m, ran => keeps_execResyncTimeout m s t ran
  | .timeExchange m t1 tRx tTx t4, ran => keeps_execTimeExchange m t1 tRx tTx t4 s t ran
  | .bulkForward m address bytes, ran => keeps_execBulkForward m address bytes s t ran
  | .twinLogEntry m seq e, ran => keeps_execTwinLogEntry m seq e s t ran
  | .scrubStep m source found passEnd, ran => keeps_execScrubStep m source found passEnd s t ran
  | .poisonRewrite m address, ran => keeps_execPoisonRewrite m address s t ran
  | .dmaUnitAssign m, ran => keeps_execDmaUnitAssign m s t ran
  | .dmaPreempt m, ran => keeps_execDmaPreempt m s t ran
  | .dmaYield m, ran => keeps_execDmaYield m s t ran
  | .dmaHostCompletion m c r, ran => keeps_execDmaHostCompletion m c r s t ran
  | .dmaMemTimeout m c, ran => keeps_execDmaMemTimeout m c s t ran
  | .dmaHostTimeout m c, ran => keeps_execDmaHostTimeout m c s t ran
  | .dmaTransferEnd m c, ran => keeps_execDmaTransferEnd m c s t ran
  | .calDriftDue m, ran => keeps_execCalDriftDue m s t ran
  | .calRunStart m, ran => keeps_execCalRunStart m s t ran
  | .calRunDone m coeffs, ran => keeps_execCalRunDone m coeffs s t ran
  | .adcScan m raws, ran => keeps_execAdcScan m raws s t ran
  | .otpRecheckDue m margins, ran => keeps_execOtpRecheckDue m margins s t ran
  | .bistSliceStart m pool, ran => keeps_execBistSliceStart m pool s t ran
  | .bistSliceEnd m pool misr, ran => keeps_execBistSliceEnd m pool misr s t ran
  | .bistRepeatDone m pool misr, ran => keeps_execBistRepeatDone m pool misr s t ran
  | .bistOnDemandDone m expected misr, ran => keeps_execBistOnDemandDone m expected misr s t ran
  | .rstnRelease m, ran => keeps_execRstnRelease m s t ran
  | .fireTime m b, ran => keeps_execFireTime m b s t ran
  | .fireEnd m b, ran => keeps_execFireEnd m b s t ran
  | .ssiDataHigh m n, ran => keeps_execSsiDataHigh m n s t ran
  | .answerTime m n, ran => keeps_execAnswerTime m n s t ran
  | .frameDiscarded m p d, ran => keeps_execFrameDiscarded m p d s t ran
  | .debugTapAccess m address write, ran => keeps_execDebugTapAccess m address write s t ran
  | .unsupportedRequest m offset size, ran => keeps_execUnsupportedRequest m offset size s t ran
theorem exec_pending {c : Instr} {s t : State} (h : exec c s = .next t) : t.pending = s.pending :=
  (exec_keeps s t c h).1

/-- No row of the table stops: each is `next` of its operation. -/
theorem exec_answers (c : Instr) (s : State) : ∃ t, exec c s = .next t := by
  cases c <;> exact ⟨_, rfl⟩

/-- The front of the queue runs with the queue's rest. -/
theorem step_cons {c : Instr} {l : List Instr} {s : State} (front : s.pending = c :: l) :
    step s = exec c { s with pending := l } := by
  simp only [step, front]

/-- Settles O1: the front of the queue is what `step` matches on. -/
theorem stepRunsTheFrontCommand : Obligations.StepRunsTheFrontCommand := fun _ _ => step_cons rfl

/-- Settles O3: every row answers a next state, and an empty queue idles. -/
theorem noCommandStops : Obligations.NoCommandStops := by
  refine ⟨exec_answers, fun s => ?_⟩
  cases queue : s.pending with
  | nil => exact ⟨s, SystemState.anEmptyQueueIdles s queue⟩
  | cons c l => exact step_cons queue ▸ exec_answers c _

/-- Settles O4: every row leaves the queue, and `step` has taken the front of it before the row runs. -/
theorem commandsLeaveTheQueue : Obligations.CommandsLeaveTheQueue := by
  refine ⟨fun c s t h => exec_pending h, fun c l s t front h => ?_⟩
  rw [step_cons front] at h
  exact exec_pending h

end Sys2Proof.Proofs.Commands

/-!
PROOFS. The exchange with a mailbox: which requests firmware refuses before it looks at their fields, which it never
takes, and what serving and answering a request change.
-/

namespace Sys2Proof.Proofs.MailboxExchange

open Sys2Proof Sys2Proof.Machine Sys2Proof.Laws Sys2Proof.Proofs.Reports

variable {s : State} {c : Cmd} {rq : Request}

/-! ## A request that is refused before its fields are looked at (R78, R329) -/

/-- The model's generic checks are orders 2–5 of R78, and R329, in that order. -/
theorem barred_eq (size : Nat) : s.barred c size rq = barredFor c size rq s := by
  simp [State.barred, barredFor, Fin.ext_iff]

/-- What the checks read is the same before and after the doorbell is taken. -/
theorem barredFor_served (size : Nat) (quiet : s.rung = []) (idle : (s.mbox rq.mbx.val).busy = false) :
    barredFor c size rq (s.served c rq) = barredFor c size rq s := by
  rw [served_eq s c rq idle quiet]
  rfl

theorem execute_of_barred {size : Nat} {r : Reason} (body : Request → State → Verdict)
    (bar : s.barred c size rq = some r) : s.execute c size body rq = s.deniedFor rq r 0 0 [] := by
  simp only [State.execute, bar, State.deniedFor]

theorem serve_of_barredFor {size : Nat} {r : Reason} {m : Moment} (body : Request → State → Verdict)
    (arrives : Arrives rq (s.clock m)) (bar : barredFor c size rq (s.clock m) = some r) :
    serve c size body m rq s = ((s.clock m).served c rq).deniedFor rq r 0 0 [] := by
  obtain ⟨reach, runs, quiet, idle, short⟩ := arrives
  have barred : ((s.clock m).served c rq).barred c size rq = some r := by
    rw [barred_eq, barredFor_served size quiet idle, bar]
  have silent : (((s.clock m).served c rq).deniedFor rq r 0 0 []).rung = [] := by
    rw [State.deniedFor, respond_rung, served_eq _ c rq idle quiet]
  calc serve c size body m rq s
      = State.serveUndefined 16 (((s.clock m).served c rq).execute c size body rq) := by
        simp only [serve, arrive_eq _ c.op rq reach quiet idle, turnOf_ringWith _ c.op rq runs quiet idle short]
        rfl
    _ = ((s.clock m).served c rq).deniedFor rq r 0 0 [] := by
        rw [execute_of_barred body barred, serveUndefined_none _ _ silent]

/-- Settles O8: a mailbox row serves its request, and the generic checks come before its command. -/
theorem requestsAreValidatedInOrder : Obligations.RequestsAreValidatedInOrder := by
  intro i c size body row m rq s r arrives bar
  rw [row, serve_of_barredFor body arrives bar]

/-! ## A request that is not taken (R70, R72) -/

theorem ringBell_of_busy {n : Nat} (busy : (s.mbox n).busy = true) :
    s.ringBell n = s.setMbox n { s.mbox n with
      overrun := true, cycle := (s.mbox n).cycle.note s.now (bit28 2) 0 0 } := by
  simp only [State.ringBell, busy, if_true]

section NotHeld

variable (other : bufferHolds (s.mbox rq.mbx.val) c.op rq = false)
include other

theorem arrive_of_busy (reach : s.hostReaches = true) (busy : (s.mbox rq.mbx.val).busy = true) :
    s.arrive c.op rq = s.ringBell rq.mbx.val := by
  simp [State.arrive, other, reach, busy]

theorem arrive_of_unreachable (down : s.hostReaches = false) : s.arrive c.op rq = s := by
  simp [State.arrive, other, down]

/-- The turn of a request comes only while its buffer holds it. -/
theorem turnOf_of_not_held : s.turnOf c.op rq = false := by
  rw [State.turnOf, other, Bool.and_false]

end NotHeld

/-- OVERRUN leaves the request in the buffer as it is. -/
theorem bufferHolds_ringBell_of_busy (busy : (s.mbox rq.mbx.val).busy = true) :
    bufferHolds ((s.ringBell rq.mbx.val).mbox rq.mbx.val) c.op rq = bufferHolds (s.mbox rq.mbx.val) c.op rq := by
  rw [ringBell_of_busy busy, setMbox_same]
  rfl

/-- A request that is not served leaves what its arrival left. -/
theorem serve_of_not_turn {size : Nat} {m : Moment} {t : State} (body : Request → State → Verdict)
    (arrives : (s.clock m).arrive c.op rq = t) (waits : t.turnOf c.op rq = false) :
    serve c size body m rq s = t := by
  simp only [serve, arrives, waits, Bool.false_eq_true, if_false]

/-- Settles O9: such a request only rings, or not even that, and its turn does not come. -/
theorem ringsThatAreIgnored : Obligations.RingsThatAreIgnored := by
  intro i c size body row m rq s other
  refine ⟨fun reach busy => ?_, fun down => ?_⟩
  · have waits := turnOf_of_not_held ((bufferHolds_ringBell_of_busy busy).trans other)
    rw [row, serve_of_not_turn body (arrive_of_busy other reach busy) waits, ringBell_of_busy busy]
  · rw [row, serve_of_not_turn body (arrive_of_unreachable other down) (turnOf_of_not_held other)]

/-! ## What the exchange changes (R70–R75, R80) -/

/-- Doorbells aside, the exchange writes the mailboxes and the time of the last activity. -/
theorem served_frame (idle : (s.mbox rq.mbx.val).busy = false) :
    ∃ mb rg run last, s.served c rq = { s with
      mboxes := mb, rung := rg, classRun := run, lastRound := last
      power := { s.power with lastActivity := s.aon } } := by
  rw [State.served, ringWith_eq s c.op rq idle]
  exact ⟨_, _, _, _, rfl⟩

/-- The mailbox that a command leaves which answered ACCEPTED. -/
def acceptedBox (b : Mailbox) (w : Waiter) (now : Moment) (r : Response) : Mailbox :=
  answeredBox { b with pending := b.pending + 1, open_ := b.open_ ++ [w] } now r

/-- PENDING and the response are in one mailbox. -/
theorem respond_addPending_eq (w : Waiter) (r : Response) :
    ∃ x o, (s.addPending w).respond w.mbx r
      = { s.setMbox w.mbx (acceptedBox (s.mbox w.mbx) w s.now r) with ints := x, out := o } := by
  have box : (s.addPending w).mbox w.mbx = { s.mbox w.mbx with
      pending := (s.mbox w.mbx).pending + 1, open_ := (s.mbox w.mbx).open_ ++ [w] } := setMbox_same ..
  have twice : ∀ b, (s.addPending w).mboxes.set w.mbx b = s.mboxes.set w.mbx b := fun b => table_set_set ..
  rw [respond_eq, box, twice]
  exact ⟨_, _, rfl⟩

/-- Settles O10: each part of the exchange by its equation. -/
theorem theExchangeTouchesItsMailboxAlone : Obligations.TheExchangeTouchesItsMailboxAlone := by
  intro rq s
  refine ⟨fun c idle => ⟨served_mbox s c rq idle,
      fun k other => served_mbox_other s c rq k idle other.symm, served_frame idle⟩,
    fun p => ⟨_, _, respond_eq s _ _⟩, fun w own => ?_, fun r cls obj p => ⟨_, _, respond_eq s _ _⟩,
    fun ch => ⟨_, _, respond_eq _ _ _⟩⟩
  have accepted := respond_addPending_eq (s := s) w { tag := rq.tag, accepted := true }
  rw [own] at accepted
  exact accepted

end Sys2Proof.Proofs.MailboxExchange

/-!
PROOFS. The SYS and CFG commands, GEOM.COVERAGE and the commands that submit a commit: one equation per case of a
command's body; the settling theorems carry them through the exchange.
-/

namespace Sys2Proof.Proofs.SystemCommands

open Sys2Proof Sys2Proof.Machine Sys2Proof.Laws

variable {v : State} {rq : Request}

/-! ## Reports (R92) -/

/-- One byte is a field of one byte. -/
theorem byte_eq_le (b : Byte) : [b] = le 1 b.toNat := by simp [le]

/-- One record of SYS.DONE_LIST: 12 bytes. -/
def doneField (o : Option DoneRec) : List Byte := match o with
  | some d => doneBytes d
  | none => zeros 12

theorem length_doneField (o : Option DoneRec) : (doneField o).length = 12 := by
  cases o <;> simp [doneField, doneBytes]

theorem fld_doneField_none : fld (doneField none) 0 12 = 0 := fld_zeros 12 0 12

theorem fld_doneField_some (d : DoneRec) :
    fld (doneField (some d)) 0 2 = d.tag.toNat ∧ fld (doneField (some d)) 2 2 = d.reason.toNat
      ∧ fld (doneField (some d)) 4 1 = d.objClass.toNat ∧ fld (doneField (some d)) 8 4 = d.objId.toNat := by
  have tag : d.tag.toNat < 65536 := d.tag.isLt
  have reason : d.reason.toNat < 65536 := d.reason.isLt
  have obj : d.objId.toNat < 4294967296 := d.objId.isLt
  have cls : d.objClass.toNat < 256 := d.objClass.isLt
  simp only [doneField, doneBytes, byte_eq_le]
  simp [fld_left, fld_right, fld_le, Nat.mod_eq_of_lt, tag, reason, cls, obj]

theorem sysDoneListBody_eq (rq : Request) (v : State) : sysDoneListBody rq v
    = .done v ((List.range 16).flatMap (fun i => doneField ((v.mbox rq.mbx.val).done[i]?))) := by
  unfold sysDoneListBody doneField
  rfl

/-- A field of record `k`. -/
theorem fld_doneList (l : List DoneRec) {k o m : Nat} (here : k < 16) (inside : o + m ≤ 12) :
    fld ((List.range 16).flatMap (fun i => doneField l[i]?)) (12 * k + o) m = fld (doneField l[k]?) o m := by
  have at_ := fld_field 12 (fun i => doneField l[i]?) (fun i => length_doneField _) (List.range 16) k o m
    (by simpa using here) inside
  rwa [List.getElem_range] at at_

/-- The first field of record `k`. -/
theorem fld_doneList_zero (l : List DoneRec) {k m : Nat} (here : k < 16) (inside : m ≤ 12) :
    fld ((List.range 16).flatMap (fun i => doneField l[i]?)) (12 * k) m = fld (doneField l[k]?) 0 m :=
  fld_doneList l here ((Nat.zero_add m).symm ▸ inside)

theorem length_doneList (l : List DoneRec) : ((List.range 16).flatMap (fun i => doneField l[i]?)).length = 192 := by
  rw [length_fields 12 _ fun i => length_doneField _, List.length_range]

/-- The owner layout of R91. -/
theorem laid_ownerPayload (cls : Byte) (obj : Nat) :
    Laid (ownerPayload cls obj) 8 [(0, 1, cls.toNat), (1, 3, 0), (4, 4, obj)] := by
  have layout : ownerPayload cls obj = le 1 cls.toNat ++ zeros 3 ++ le 4 obj := by rw [← byte_eq_le]; rfl
  rw [layout]
  refine ⟨by simp, ?_⟩
  simp [fld_left, fld_right, fld_le, fld_zeros]

theorem cfgOwnerBody_eq (known : ownedCount (fld rq.payload 0 1) ≠ 0)
    (listed : fld rq.payload 4 4 < ownedCount (fld rq.payload 0 1)) :
    cfgOwnerBody rq v = .done v (ownerPayload (v.ownerOf (fld rq.payload 0 1) (fld rq.payload 4 4)).1
      (v.ownerOf (fld rq.payload 0 1) (fld rq.payload 4 4)).2) :=
  checked_ok (by simp [known, listed])

/-- Settles O18: each report leaves the state and lays out its payload field by field. -/
theorem systemReadsAnswer : Obligations.SystemReadsAnswer := by
  unfold Obligations.SystemReadsAnswer
  refine ⟨
    reads_of (fun _ _ _ => rfl) rfl fun _ _ _ => ⟨[], rfl, rfl⟩,
    reads_of (fun _ _ _ => rfl) rfl fun _ _ _ => ⟨_, rfl, by simp, ?_⟩,
    reads_of (fun _ _ _ => rfl) rfl fun _ _ _ => ⟨_, rfl, by simp, ?_⟩,
    reads_of (fun _ _ _ => rfl) rfl fun rq v _ => ⟨_, sysDoneListBody_eq rq v, length_doneList _, fun k here => ?_⟩,
    reads_of (fun _ _ _ => rfl) rfl fun _ _ _ => ⟨_, rfl, by simp, ?_⟩,
    reads_of (fun _ _ _ => rfl) rfl fun _ _ ⟨known, listed⟩ => ⟨_, cfgOwnerBody_eq known listed, laid_ownerPayload _ _⟩⟩
  · simp [fld_left, fld_right, fld_le, fld_zeros, List.range_succ]
  · simp [fld_left, fld_right, fld_le]
  · split
    next d found =>
      rw [fld_doneList_zero _ here (by decide), fld_doneList _ here (by decide), fld_doneList _ here (by decide),
        fld_doneList _ here (by decide), found]
      exact fld_doneField_some d
    next found =>
      rw [fld_doneList_zero _ here (by decide), found, fld_doneField_none]
  · simp [fld_left, fld_right, fld_le]

/-! ## Actions (R92, R121) -/

/-- While the log does not refuse, an action may write its entry. -/
theorem logs_freely {c : Cmd} {ok : Request → State → Prop} {t : Request → State → State}
    (free : ∀ rq v, ok rq v → v.logRefuses = false) :
    ∀ rq v, ok rq v → v.logRefuses = true → c.logsLater = false ∧ (t rq v).log.next = v.log.next :=
  fun rq v h refuses => absurd refuses (by rw [free rq v h]; exact Bool.false_ne_true)

theorem sysPauseBody_of_printing (rq : Request) (printing : v.sys = .printing) : sysPauseBody rq v
    = .done ((v.logOpen { origin := .mbx rq.mbx.val }).requestEvent .paused (.mbx rq.mbx.val)) [] := by
  simp only [sysPauseBody, logOpen_sys, printing]
  rfl

theorem sysPauseBody_of_paused (rq : Request) (other : v.sys ≠ .printing) :
    sysPauseBody rq v = .done (v.logOpen { origin := .mbx rq.mbx.val }) [] := by
  simp [sysPauseBody, other]

theorem sysResumeBody_eq (rq : Request) (v : State) : sysResumeBody rq v
    = .accept { v.logOpen { origin := .mbx rq.mbx.val } with
        checks := v.checks ++ [.resume (v.waiterOf rq 0x0004)] } := by
  simp only [sysResumeBody, logOpen_checks]

theorem sysResetBody_confirmed (confirm : fld rq.payload 0 4 = 0xC0DE2096) : sysResetBody rq v
    = .done { v.logOpen { origin := .mbx rq.mbx.val } with
        power := { v.power with resetAt := some (v.aon + 1024, rq.mbx.val) } } [] := by
  rw [sysResetBody, checked_ok (by simp [confirm])]
  simp only [logOpen_power, logOpen_aon]

theorem sysResetBody_refused (wrong : fld rq.payload 0 4 ≠ 0xC0DE2096) :
    sysResetBody rq v = .refuse Rc.badValue 0 0 [] := by
  simp [sysResetBody, checked, firstBad, wrong, badValue]

theorem cfgCheckBody_eq (whole : fld rq.payload 0 1 < 2) (own : fld rq.payload 1 1 < 2) : cfgCheckBody rq v
    = .accept { v with checks := v.checks ++
        [.cfg (v.waiterOf rq 0x0104) (fld rq.payload 0 1 == 0) (fld rq.payload 1 1 == 1)
          (BitVec.ofNat 16 (fld rq.payload 2 2))] } :=
  checked_ok (by simp [whole, own])

theorem geomCoverageBody_eq (bar : fld rq.payload 0 1 < 16) : geomCoverageBody rq v
    = .accept { v with coverRuns := v.coverRuns ++
        [(v.waiterOf rq 0x020A, fld rq.payload 0 1, coverageOf v.inForce (fld rq.payload 0 1))] } :=
  checked_ok (by simp [bar])

/-- Settles O31: each clause is one case of the command's body. -/
theorem systemCommandsAct : Obligations.SystemCommandsAct := by
  unfold Obligations.SystemCommandsAct
  exact ⟨
    acts_of (fun _ _ _ => rfl) (fun rq _ ⟨_, printing⟩ => sysPauseBody_of_printing rq printing)
      (fun _ _ quiet => by simpa using quiet) (logs_freely fun _ _ ⟨free, _⟩ => free),
    acts_of (fun _ _ _ => rfl) (fun rq _ ⟨_, other⟩ => sysPauseBody_of_paused rq other)
      (fun _ _ quiet => by simpa using quiet) (logs_freely fun _ _ ⟨free, _⟩ => free),
    accepts_of (fun _ _ _ => rfl) (fun rq v _ => sysResumeBody_eq rq v)
      (fun _ _ quiet => by simpa using quiet) (logs_freely fun _ _ free => free),
    acts_of (fun _ _ _ => rfl) (fun _ _ ⟨_, confirm⟩ => sysResetBody_confirmed confirm)
      (fun _ _ quiet => by simpa using quiet) (logs_freely fun _ _ ⟨free, _⟩ => free),
    denies_of (fun _ _ _ => rfl) fun _ _ wrong => sysResetBody_refused wrong,
    answers_of (fun _ _ _ => rfl) (fun _ _ _ => ⟨_, rfl, rfl⟩) (fun _ _ quiet => quiet) (fun _ _ _ _ => ⟨rfl, rfl⟩),
    accepts_of (fun _ _ _ => rfl) (fun _ _ ⟨whole, own⟩ => cfgCheckBody_eq whole own) (fun _ _ quiet => quiet)
      (fun _ _ _ _ => ⟨rfl, rfl⟩),
    accepts_of (fun _ _ _ => rfl) (fun _ _ bar => geomCoverageBody_eq bar) (fun _ _ quiet => quiet)
      (fun _ _ _ _ => ⟨rfl, rfl⟩)⟩

/-! ## Commits (R83, R180, R238) -/

theorem cfgCommitBody_submits (some_ : (v.sset rq.mbx.val).staged ≠ []) :
    cfgCommitBody rq v = .submit .set (v.sset rq.mbx.val).staged := by
  simp [cfgCommitBody, some_]

theorem cfgCommitBody_refused (none_ : (v.sset rq.mbx.val).staged = []) :
    cfgCommitBody rq v = .refuse Rc.nothingStaged 0 0 [] := by
  simp [cfgCommitBody, none_, refuseAs]

section TrigEnable

variable (generator : fld rq.payload 0 1 < 16) (flag : fld rq.payload 1 1 < 2) (delay : fld rq.payload 2 2 < 1024)
include generator flag delay

theorem trigEnableBody_submits
    (changes : v.accepted.tgEn.get false (fld rq.payload 0 1) ≠ (fld rq.payload 1 1 == 1)) :
    trigEnableBody rq v = .submit (.trig (fld rq.payload 0 1))
      [.trigEnable (fld rq.payload 0 1) (fld rq.payload 1 1 == 1) (fld rq.payload 2 2)] := by
  rw [trigEnableBody, checked_ok (by simp [generator, flag, delay]), if_neg (by simpa using changes)]

theorem trigEnableBody_same
    (same : v.accepted.tgEn.get false (fld rq.payload 0 1) = (fld rq.payload 1 1 == 1)) :
    trigEnableBody rq v = .done v (zeros 8) := by
  rw [trigEnableBody, checked_ok (by simp [generator, flag, delay]), if_pos (by simpa using same)]

end TrigEnable

section PlaneEnable

variable (number : fld rq.payload 0 1 < 64) (flag : fld rq.payload 1 1 < 2)
include number flag

theorem planeEnableBody_undefined (undefined : Table.find? v.inForce.planes (fld rq.payload 0 1) = none) :
    planeEnableBody rq v = .refuse Rc.planeUndefined Cls.plane (fld rq.payload 0 1) [] := by
  rw [planeEnableBody, checked_ok (by simp [number, flag]), undefined]
  rfl

theorem planeEnableBody_same {r : PlaneRec} (plane : Table.find? v.inForce.planes (fld rq.payload 0 1) = some r)
    (same : v.accepted.bound.get false (fld rq.payload 0 1) = (fld rq.payload 1 1 == 1)) :
    planeEnableBody rq v = .done v (zeros 8) := by
  rw [planeEnableBody, checked_ok (by simp [number, flag]), plane]
  exact if_pos (by simpa using same)

theorem planeEnableBody_unbinds {r : PlaneRec} (plane : Table.find? v.inForce.planes (fld rq.payload 0 1) = some r)
    (bound : v.accepted.bound.get false (fld rq.payload 0 1) = true) (zero : fld rq.payload 1 1 = 0) :
    planeEnableBody rq v
      = .submit (.plane (fld rq.payload 0 1)) [.planeEnable (fld rq.payload 0 1) false] := by
  rw [planeEnableBody, checked_ok (by simp [number, flag]), plane]
  simp [bound, zero]

theorem planeEnableBody_binds {r : PlaneRec} (plane : Table.find? v.inForce.planes (fld rq.payload 0 1) = some r)
    (apart : ∀ q ∈ barPlanes v.accepted r.bar, linesMeet q.2 r = false)
    (room : (barPlanes v.accepted r.bar).length < 8)
    (unbound : v.accepted.bound.get false (fld rq.payload 0 1) = false) (one : fld rq.payload 1 1 = 1) :
    planeEnableBody rq v
      = .submit (.plane (fld rq.payload 0 1)) [.planeEnable (fld rq.payload 0 1) true] := by
  have none_meets : (barPlanes v.accepted r.bar).find? (fun q => linesMeet q.2 r) = none :=
    List.find?_eq_none.mpr fun q here => by simp [apart q here]
  rw [planeEnableBody, checked_ok (by simp [number, flag]), plane]
  simp [unbound, one, none_meets, Nat.not_le.mpr room]

end PlaneEnable

/-- A commit leaves no doorbell where none was. -/
theorem submitCommit_rung (n : Nat) (o : Origin) (k : CommitKind) (w : Option Waiter) (l : List Change) (v : State)
    (quiet : v.rung = []) : (v.submitCommit n o k w l).rung = [] :=
  (keeps_submitCommit n o k w l v).2.1.trans quiet

/-- Settles O42: each clause is one case of the command's body. -/
theorem commitCommandsSubmit : Obligations.CommitCommandsSubmit := by
  unfold Obligations.CommitCommandsSubmit
  refine ⟨
    submits_of (fun _ _ _ => rfl) (fun _ _ some_ => cfgCommitBody_submits some_) submitCommit_rung,
    denies_of (fun _ _ _ => rfl) fun _ _ none_ => cfgCommitBody_refused none_,
    submits_of (fun _ _ _ => rfl)
      (fun _ _ ⟨generator, flag, delay, changes⟩ => trigEnableBody_submits generator flag delay changes)
      submitCommit_rung,
    answers_of (fun _ _ _ => rfl)
      (fun _ _ ⟨generator, flag, delay, same⟩ => ⟨_, trigEnableBody_same generator flag delay same, rfl⟩)
      (fun _ _ quiet => quiet) (fun _ _ _ _ => ⟨rfl, rfl⟩),
    submits_of (fun _ _ _ => rfl) (fun _ _ ⟨number, flag, defined, bound, zero⟩ => ?_) submitCommit_rung,
    submits_of (fun _ _ _ => rfl) (fun _ _ ⟨number, flag, joins, unbound, one⟩ => ?_) submitCommit_rung,
    answers_of (fun _ _ _ => rfl) (fun _ _ ⟨number, flag, defined, same⟩ => ?_)
      (fun _ _ quiet => quiet) (fun _ _ _ _ => ⟨rfl, rfl⟩),
    denies_of (fun _ _ _ => rfl) fun _ _ ⟨number, flag, undefined⟩ => planeEnableBody_undefined number flag undefined⟩
  · obtain ⟨r, plane⟩ := Option.ne_none_iff_exists'.mp defined
    exact planeEnableBody_unbinds number flag plane bound zero
  · split at joins
    next r plane => exact planeEnableBody_binds number flag plane joins.1 joins.2 unbound one
    next => exact joins.elim
  · obtain ⟨r, plane⟩ := Option.ne_none_iff_exists'.mp defined
    exact ⟨_, planeEnableBody_same number flag plane same, rfl⟩

end Sys2Proof.Proofs.SystemCommands

/-!
PROOFS. Commands that complete later, and the debug port: one equation per case of an operation; the settling theorem
at the end puts them together.
-/

namespace Sys2Proof.Proofs.LaterCompletions

open Sys2Proof Sys2Proof.Machine Sys2Proof.Laws

variable {v : State}

/-! ## COMMIT_ACCEPT (R83, R93) -/

/-- With no PREPARE of unit P in work, the held commits are served at once. -/
theorem commitAccept_of_unprepared (quiet : v.pair.preparing = none) :
    commitAccept v = serveHeld (3 * v.held.length + 3) v := by
  rw [commitAccept, State.servePrepare, quiet]

/-- A turn that leaves the order as it was is the last. -/
theorem serveHeld_of_waits (n : Nat) (waits : v.serveFront.held = v.held) : serveHeld (n + 1) v = v.serveFront := by
  simp only [serveHeld, waits, beq_self_eq_true, if_true]

theorem serveHeld_of_moves {n : Nat} (moves : v.serveFront.held ≠ v.held) :
    serveHeld (n + 1) v = serveHeld n v.serveFront := by
  simp only [serveHeld, beq_iff_eq, moves, if_false]

theorem serveFront_of_empty (empty : v.held = []) : v.serveFront = v := by
  simp only [State.serveFront, empty]

/-- While a check runs, no commit goes on. -/
theorem serveFront_of_checks (run : v.checks ≠ []) : v.serveFront = v := by
  unfold State.serveFront
  split
  · rfl
  · rw [if_pos (by simpa using run)]

theorem commitAccept_of_waits (quiet : v.pair.preparing = none) (waits : v.serveFront.held = v.held) :
    commitAccept v = v.serveFront :=
  (commitAccept_of_unprepared quiet).trans (serveHeld_of_waits _ waits)

theorem commitAccept_of_still (quiet : v.pair.preparing = none) (still : v.serveFront = v) : commitAccept v = v :=
  (commitAccept_of_waits quiet (congrArg State.held still)).trans still

/-- A commit whose delivery is complete, and that nobody bars, is accepted. -/
theorem serveFront_accepts {h : Held} (held : v.held = [h]) (free : v.checks = []) (begun : h.begun = true)
    (delivered : h.awaits = []) (alone : v.pairPrepares h = false) (logs : v.logRefuses = false)
    (owned : v.ownership h.origin (v.accepted.applyAll h.changes) h.changes = none) :
    v.serveFront = v.acceptCommit h := by
  simp [State.serveFront, held, free, begun, delivered, alone, logs, owned]

theorem commitAccept_accepts {h : Held} (quiet : v.pair.preparing = none) (held : v.held = [h])
    (front : v.serveFront = v.acceptCommit h) (last : (v.acceptCommit h).held = []) :
    commitAccept v = v.acceptCommit h := by
  have moves : v.serveFront.held ≠ v.held := by simp [front, last, held]
  have ends : (v.acceptCommit h).serveFront = v.acceptCommit h := serveFront_of_empty last
  rw [commitAccept_of_unprepared quiet, held, serveHeld_of_moves moves, front]
  exact (serveHeld_of_waits _ (congrArg State.held ends)).trans ends

/-! ## Results of checks and bursts (R121, R177) -/

theorem coverageDone_first {w : Waiter} {b : Nat} {r : List Nat} {l : List (Waiter × Nat × List Nat)}
    (runs : v.coverRuns = (w, b, r) :: l) :
    coverageDone v = { v with coverRuns := l, coverage := v.coverage.set b r }.commandDone w 0 0 0 := by
  simp only [coverageDone, runs]

/-- No spit of the generator is on its way. -/
theorem pulses_all_of_forall {l : List Pulse} (fired : ∀ p ∈ l, p.kind ≠ .spit) :
    l.all (fun p => p.kind != .spit) = true := by
  simpa using fired

theorem spitBurstDone_fired {g : Nat} {u : Burst} (burst : (v.trig g).burst = some u) (none_left : u.left = 0)
    (whole : u.cut = none) (fired : ∀ p ∈ (v.trig g).pulses, p.kind ≠ .spit) :
    spitBurstDone g v = (v.setTrig g { v.trig g with burst := none }).commandDone u.waiter 0 0 0 := by
  simp only [spitBurstDone, burst, none_left, whole, pulses_all_of_forall fired]
  rfl

theorem spitBurstDone_cut {g : Nat} {u : Burst} {c : Reason} (burst : (v.trig g).burst = some u) (cut : u.cut = some c)
    (fired : ∀ p ∈ (v.trig g).pulses, p.kind ≠ .spit) :
    spitBurstDone g v
      = (v.setTrig g { v.trig g with burst := none }).commandDone u.waiter c Cls.triggerGenerator g := by
  simp only [spitBurstDone, burst, cut, pulses_all_of_forall fired, Option.isSome_some, Bool.or_true, Bool.and_true,
    if_true]
  rfl

/-! ## PLAIT.VERIFY and PLAIT.DECODE (R263) -/

/-- A job waits while no decompressor is free, the link domain is off, or the decompressors are under test. -/
theorem codecWaits_of {u : Option Nat} {runs test : Bool} (stands : u = none ∨ runs = false ∨ test = true) :
    (u.isNone || !runs || test) = true := by
  obtain rfl | rfl | rfl := stands <;> simp

theorem codecWaits_false {u : Option Nat} {runs test : Bool} (free : u ≠ none) (on : runs = true)
    (idle : test = false) :
    (u.isNone || !runs || test) = false := by
  rw [on, idle, Option.isNone_eq_false_iff.mpr (Option.isSome_iff_ne_none.mpr free)]
  rfl

theorem verifyDone_waits {j : Waiter × Bool × Nat × Nat × Nat} (job : jobOf true [] v.plait.jobs = some j)
    (stands : v.freeUnit = none ∨ v.linkRuns = false ∨ v.underTest 19 = true) : verifyDone v = v := by
  simp only [verifyDone, job, codecWaits_of stands, if_true]

theorem decodeDone_waits {j : Waiter × Bool × Nat × Nat × Nat} (job : jobOf false [] v.plait.jobs = some j)
    (stands : v.freeUnit = none ∨ v.linkRuns = false ∨ v.underTest 19 = true) : decodeDone v = v := by
  simp only [decodeDone, job, codecWaits_of stands, if_true]

/-- The state once a job has left the list. -/
def withoutJob (j : Waiter × Bool × Nat × Nat × Nat) (s : State) : State :=
  { s with plait := { s.plait with jobs := s.plait.jobs.erase j } }

/-- The result of a job is stored under its mailbox, and its command completes with it. -/
def verifyEnds (w : Waiter) (n : Nat) (x : State × VerifyRes) : State :=
  { x.1 with plait := { x.1.plait with results := x.1.plait.results.set w.mbx x.2 } }.commandDone w
    x.2.firstReason (if x.2.bad = 0 then 0 else Cls.plane) (if x.2.bad = 0 then 0 else n)

theorem verifyDone_ends {w : Waiter} {n first count : Nat} {r : PlaneRec}
    (job : jobOf true [] v.plait.jobs = some (w, true, n, first, count)) (free : v.freeUnit ≠ none)
    (on : v.linkRuns = true) (idle : v.underTest 19 = false) (plane : Table.find? v.inForce.planes n = some r) :
    verifyDone v = verifyEnds w n (((List.range count).drop (v.verified w).checked).foldl
      (fun acc i => verifyBlock r acc (first + i))
      ((withoutJob (w, true, n, first, count) v).setVerified w none, v.verified w)) := by
  have plane' : Table.find? ((withoutJob (w, true, n, first, count) v).setVerified w none).inForce.planes n = some r :=
    plane
  unfold withoutJob at *
  simp only [verifyDone, job, codecWaits_false free on idle, plane', Bool.false_eq_true, if_false]
  rfl

theorem decodeDone_empty {w : Waiter} {n block dst : Nat} {r : PlaneRec}
    (job : jobOf false [] v.plait.jobs = some (w, false, n, block, dst)) (free : v.freeUnit ≠ none)
    (on : v.linkRuns = true) (idle : v.underTest 19 = false) (plane : Table.find? v.inForce.planes n = some r)
    (empty : (withoutJob (w, false, n, block, dst) v).readBlock r block
      (indexEntryOf ((withoutJob (w, false, n, block, dst) v).indexBytesOf r block)) = .empty) :
    decodeDone v
      = ((withoutJob (w, false, n, block, dst) v).hbmWrite dst (zeros (blockBytes r block))).commandDone w 0 0 0 := by
  have plane' : Table.find? (withoutJob (w, false, n, block, dst) v).inForce.planes n = some r := plane
  unfold withoutJob at *
  simp only [decodeDone, job, codecWaits_false free on idle, plane', empty, Bool.false_eq_true, if_false]

/-! ## The end of a re-form (R366) -/

/-- The state once the pool has its new form and the event is posted. -/
def reformed (r : Retire) (s : State) : State :=
  ((({ s.logOpen { origin := r.origin, reason := r.reason } with
      mem := { (s.logOpen { origin := r.origin, reason := r.reason }).mem with reforming := none } }).reformPool
        r.bank).clearForReform).postBank r.bank r.reason false true

theorem weaveReformDone_limit {r : Retire} (reforming : v.mem.reforming = some r) (spent : 4 ≤ v.mem.retired.length) :
    weaveReformDone v = { v with mem := { v.mem with reforming := none } }.enterFault Rc.retireLimit .fwAuto := by
  simp only [weaveReformDone, reforming, spent, if_true]

section Reforms

variable {r : Retire} {u : State} (reforming : v.mem.reforming = some r) (spare : v.mem.retired.length < 4)
  (is : u = reformed r v)
include reforming spare is

theorem weaveReformDone_own (own : r.waiter = none) (single : u.inPair = false) (busy : u.sys ≠ .ready) :
    weaveReformDone v = u := by
  subst is
  unfold reformed at *
  simp only [weaveReformDone, reforming, Nat.not_le.mpr spare, own, single, beq_iff_eq, busy, if_false,
    Bool.false_eq_true]

theorem weaveReformDone_asked {w : Waiter} (asked : r.waiter = some w)
    (single : (u.commandDone w 0 0 0).inPair = false) (busy : (u.commandDone w 0 0 0).sys ≠ .ready) :
    weaveReformDone v = u.commandDone w 0 0 0 := by
  subst is
  unfold reformed at *
  simp only [weaveReformDone, reforming, Nat.not_le.mpr spare, asked, single, beq_iff_eq, busy, if_false,
    Bool.false_eq_true]

end Reforms

/-! ## The boot flash (R410, R438) -/

theorem imageWriteDone_written {w : Waiter} {a : Nat} {bs : List Byte} {l : List FlashOp}
    (ops : v.flash.ops = .image w a bs :: l) :
    imageWriteDone true v = { v with flash := { v.flash with
      ops := l, bytes := flashImage v.flash.bytes a bs } }.startFlash.commandDone w 0 0 0 := by
  simp only [imageWriteDone, ops, State.endFlash]
  rfl

theorem imageWriteDone_failed {w : Waiter} {a : Nat} {bs : List Byte} {l : List FlashOp}
    (ops : v.flash.ops = .image w a bs :: l) :
    imageWriteDone false v
      = { v with flash := { v.flash with ops := l } }.startFlash.commandDone w Rc.flashError 0 0 := by
  simp only [imageWriteDone, ops, State.endFlash]
  rfl

theorem calStored_failed {w : Waiter} {r : CalSlot} {b : Bool} {l : List FlashOp}
    (ops : v.flash.ops = .store w r (some b) :: l) :
    calStored false v = ({ v with
      fresh := v.fresh + 1
      flash := { v.flash with ops := l, bytes := v.cutRecord b r v.fresh } }.startFlash).commandDone w
        Rc.flashError 0 0 := by
  simp only [calStored, ops, State.endFlash]
  rfl

/-- The state once the record is programmed and the next operation has begun. -/
def recordStored (r : CalSlot) (b : Bool) (l : List FlashOp) (s : State) : State :=
  { s with
    fresh := s.fresh + 1
    flash := { s.flash with
      ops := l, bytes := flashProgram s.flash.bytes (slotBase b) (recordBytes r) } }.startFlash

theorem calStored_stored {w : Waiter} {r : CalSlot} {b : Bool} {l : List FlashOp} {u : State}
    (ops : v.flash.ops = .store w r (some b) :: l) (is : u = recordStored r b l v)
    (same : u.flashRead (slotBase b) 232 = recordBytes r) :
    calStored true v
      = ({ u with cal := { u.cal with fallback := false } }.post
          (ev Ev.calStored Cls.system 0 0 (r.seq.toNat + 2 ^ 32 * b2n b))).commandDone w 0 0 0 := by
  subst is
  unfold recordStored at *
  simp only [calStored, ops, State.endFlash, List.tail_cons, same, if_true, beq_self_eq_true, Bool.and_true]

/-! ## OTP (R458, R460) -/

/-- A recheck goes first, and a block under test does nothing. -/
theorem otpOperationDone_waits (x : OtpPulses) (stands : v.otp.recheckFirst = true ∨ v.underTest 22 = true) :
    otpOperationDone x v = v := by
  unfold otpOperationDone
  split
  · rfl
  · rfl
  · exact if_pos (by simpa using stands)

section Otp

variable {w : Waiter} {op : OtpOp} {l : List (OtpOp × Waiter)} (x : OtpPulses) (ops : v.otp.ops = (op, w) :: l)
include ops

theorem otpOperationDone_unpowered (programs : op ≠ .margin) (turn : v.otp.recheckFirst = false)
    (idle : v.underTest 22 = false) (source : usesVqps op = true) (low : v.power.pg.getLsbD 7 = false)
    (bad : x.sourceGood = false) (late : v.vqpsLate = true) :
    otpOperationDone x v = v.endOtp Rc.sourceUnavailable w := by
  have goes : (v.otp.recheckFirst || v.underTest 22) = false := by rw [turn, idle]; rfl
  have no_power : (!usesVqps op || v.power.pg.getLsbD 7 || x.sourceGood) = false := by rw [source, low, bad]; rfl
  cases op with
  | margin => exact absurd rfl programs
  | _ => simp only [otpOperationDone, ops, goes, no_power, late, Bool.not_false, Bool.false_eq_true, if_false, if_true]

theorem otpOperationDone_programs {t : Table OtpWord} {weak : Nat} {reason : Reason} (programs : op ≠ .margin)
    (no_rows : ∀ rs, op ≠ .rows rs) (turn : v.otp.recheckFirst = false) (idle : v.underTest 22 = false)
    (powered : usesVqps op = true → v.power.pg.getLsbD 7 = true ∨ x.sourceGood = true)
    (pulsed : runPulses v.otp.tempLeft v.fresh (opBits v.otp op) x.bits v.otp.array 0 = some (t, weak, reason)) :
    otpOperationDone x v = (State.logOtp v.otp.array op w reason { v with
      otp := { v.otp with array := t, weakCells := v.otp.weakCells + BitVec.ofNat 32 weak }
      fresh := v.fresh + 1 }).endOtp reason w := by
  have goes : (v.otp.recheckFirst || v.underTest 22) = false := by rw [turn, idle]; rfl
  have power : (!usesVqps op || v.power.pg.getLsbD 7 || x.sourceGood) = true := by
    cases uses : usesVqps op with
    | false => rfl
    | true => simpa using powered uses
  cases op with
  | margin => exact absurd rfl programs
  | rows rs => exact absurd rfl (no_rows rs)
  | _ => simp only [otpOperationDone, ops, goes, power, pulsed, Bool.not_true, Bool.false_eq_true, if_false]

end Otp

/-! ## ANSWER_TIME (R73, R93) -/

theorem answerTime_accepts {n : Nat} {h : Held} {w : Waiter} (held : v.held = [h]) (open_ : h.answered = false)
    (waits : h.waiter = some w) (own : w.mbx = n)
    (late : (v.mbox n).rungAt + (if v.pwr = .doze then 40960 else 5120) ≤ v.aon) (room : (v.mbox n).pending < 8) :
    answerTime n v = ({ v with held := [{ h with answered := true }] }.addPending w).respond n
      { tag := w.tag, accepted := true, staged := isAuto w.opcode } := by
  simp [answerTime, held, open_, waits, own, Nat.not_lt.mpr late, Nat.not_le.mpr room]

/-! ## The debug port (R457) -/

theorem tap_open (mfg : v.otp.lc = .mfg) :
    (v.otp.lc == .virgin || v.otp.lc == .mfg || v.otp.lc == .return_ || v.otp.lc == .oem) = true := by
  rw [mfg]
  rfl

theorem tap_powered (powered : v.linkRuns = true ∨ v.pwr = .doze) (ready : v.sys = .ready)
    (idle : v.underTest 23 = false) :
    ((v.linkRuns || v.pwr == .doze) && v.sys != .off && v.sys != .safe && !v.underTest 23) = true := by
  have on : (v.linkRuns || v.pwr == .doze) = true := by simpa using powered
  rw [on, ready, idle]
  rfl

section Tap

variable {a : Nat} (mfg : v.otp.lc = .mfg) (powered : v.linkRuns = true ∨ v.pwr = .doze) (ready : v.sys = .ready)
  (idle : v.underTest 23 = false)
include mfg powered ready idle

theorem debugTapAccess_reads (allowed : v.regionAllows 10 a 4 .read = true) :
    debugTapAccess a none v = v.emit (.tap (some (BitVec.ofNat 32 (ofLE (v.onchipRead a 4)))) false) := by
  simp only [debugTapAccess, tap_open mfg, tap_powered powered ready idle, allowed]
  rfl

theorem debugTapAccess_refused (barred : v.regionAllows 10 a 4 .read = false) :
    debugTapAccess a none v = (v.violation 10 a .read).emit (.tap none true) := by
  simp only [debugTapAccess, tap_open mfg, tap_powered powered ready idle, barred]
  rfl

end Tap

/-- The port is closed for good (R457). -/
theorem debugTapAccess_closed (a : Nat) (x : Option Word) (closed : v.otp.lc = .field ∨ v.otp.lc = .scrapped) :
    debugTapAccess a x v = v := by
  unfold debugTapAccess
  obtain lc | lc := closed <;> rw [lc] <;> rfl

/-! ## The rows -/

/-- Settles O45: each row is its operation at the row's moment, and each clause is one case of that operation. -/
theorem laterCompletionRows : Obligations.LaterCompletionRows := by
  unfold Obligations.LaterCompletionRows
  exact ⟨
    happens_of (f := commitAccept) (fun _ _ => rfl) fun _ ⟨quiet, waits⟩ => commitAccept_of_waits quiet waits,
    happens_of (f := commitAccept) (fun _ _ => rfl)
      fun _ ⟨quiet, empty⟩ => commitAccept_of_still quiet (serveFront_of_empty empty),
    fun _ => happens_of (f := commitAccept) (fun _ _ => rfl)
      fun _ ⟨quiet, held, free, begun, delivered, alone, logs, owned, last⟩ =>
        commitAccept_accepts quiet held (serveFront_accepts held free begun delivered alone logs owned) last,
    fun _ _ => happens_of (f := commitAccept) (fun _ _ => rfl)
      fun _ ⟨quiet, _, run⟩ => commitAccept_of_still quiet (serveFront_of_checks run),
    fun _ _ _ _ => happens_of (f := coverageDone) (fun _ _ => rfl) fun _ runs => coverageDone_first runs,
    fun g _ => happens_of (f := spitBurstDone g.val) (fun _ _ => rfl)
      fun _ ⟨burst, none_left, whole, fired⟩ => spitBurstDone_fired burst none_left whole fired,
    fun g _ _ => happens_of (f := spitBurstDone g.val) (fun _ _ => rfl)
      fun _ ⟨burst, cut, fired⟩ => spitBurstDone_cut burst cut fired,
    fun _ _ _ _ _ => happens_of (f := verifyDone) (fun _ _ => rfl)
      fun _ ⟨job, free, on, idle, plane⟩ => verifyDone_ends job free on idle plane,
    fun _ => happens_of (f := verifyDone) (fun _ _ => rfl) fun _ ⟨job, stands⟩ => verifyDone_waits job stands,
    fun _ _ _ _ _ => happens_of (f := decodeDone) (fun _ _ => rfl)
      fun _ ⟨job, free, on, idle, plane, empty⟩ => decodeDone_empty job free on idle plane empty,
    fun _ => happens_of (f := decodeDone) (fun _ _ => rfl) fun _ ⟨job, stands⟩ => decodeDone_waits job stands,
    fun _ => happens_of (f := weaveReformDone) (fun _ _ => rfl)
      fun _ ⟨reforming, spent⟩ => weaveReformDone_limit reforming spent,
    fun _ _ => happens_of (f := weaveReformDone) (fun _ _ => rfl)
      fun _ ⟨reforming, spare, own, is, single, busy⟩ =>
        (weaveReformDone_own reforming spare is own single busy).trans is,
    fun _ _ _ => happens_of (f := weaveReformDone) (fun _ _ => rfl)
      fun _ ⟨reforming, spare, asked, is, single, busy⟩ =>
        weaveReformDone_asked reforming spare is asked single busy,
    fun _ _ _ _ => happens_of (f := imageWriteDone true) (fun _ _ => rfl) fun _ ops => imageWriteDone_written ops,
    fun _ _ _ _ => happens_of (f := imageWriteDone false) (fun _ _ => rfl) fun _ ops => imageWriteDone_failed ops,
    fun _ _ _ _ => happens_of (f := calStored false) (fun _ _ => rfl) fun _ ops => calStored_failed ops,
    fun _ _ _ _ _ => happens_of (f := calStored true) (fun _ _ => rfl)
      fun _ ⟨ops, is, same⟩ => is ▸ calStored_stored ops is same,
    fun _ _ _ x => happens_of (f := otpOperationDone x) (fun _ _ => rfl)
      fun _ ⟨ops, programs, turn, idle, source, low, bad, late⟩ =>
        otpOperationDone_unpowered x ops programs turn idle source low bad late,
    fun _ _ _ x _ _ _ => happens_of (f := otpOperationDone x) (fun _ _ => rfl)
      fun _ ⟨ops, programs, no_rows, turn, idle, powered, pulsed⟩ =>
        otpOperationDone_programs x ops programs no_rows turn idle powered pulsed,
    fun _ _ _ x => happens_of (f := otpOperationDone x) (fun _ _ => rfl)
      fun _ ⟨_, stands⟩ => otpOperationDone_waits x stands,
    fun p c => happens_of (f := frameDiscarded p.val (.invalidBlock c)) (fun _ _ => rfl) fun _ _ => rfl,
    fun p n => happens_of (f := frameDiscarded p.val (.crc (some n))) (fun _ _ => rfl) fun _ _ => rfl,
    fun p => happens_of (f := frameDiscarded p.val .length) (fun _ _ => rfl) fun _ _ => rfl,
    fun n _ _ => happens_of (f := answerTime n.val) (fun _ _ => rfl)
      fun _ ⟨held, open_, waits, own, late, room⟩ => answerTime_accepts held open_ waits own late room,
    fun a => happens_of (f := debugTapAccess a none) (fun _ _ => rfl)
      fun _ ⟨mfg, powered, ready, idle, allowed⟩ => debugTapAccess_reads mfg powered ready idle allowed,
    fun a => happens_of (f := debugTapAccess a none) (fun _ _ => rfl)
      fun _ ⟨mfg, powered, ready, idle, barred⟩ => debugTapAccess_refused mfg powered ready idle barred,
    fun a x => happens_of (f := debugTapAccess a x) (fun _ _ => rfl) fun _ closed => debugTapAccess_closed a x closed⟩

end Sys2Proof.Proofs.LaterCompletions

/-!
PROOFS. The records of the configuration in the layouts of their SET commands.  A layout is a row of little-endian
fields, so a list of bytes that gives every field the value it has in a payload is the payload.
-/

namespace Sys2Proof.Proofs.RecordLayouts

open Sys2Proof Sys2Proof.Machine Sys2Proof.Laws

variable {p : List Byte} {o n : Nat}

/-! ## A payload is its fields in a row (R5) -/

/-- The bytes that spell a number are its layout. -/
theorem le_ofLE (l : List Byte) : le l.length (ofLE l) = l := by
  induction l with
  | nil => rfl
  | cons b l ih =>
    have small : b.toNat < 256 := b.isLt
    have low : BitVec.ofNat 8 (b.toNat + 256 * ofLE l) = b := BitVec.eq_of_toNat_eq (by simp; omega)
    have high : (b.toNat + 256 * ofLE l) / 256 = ofLE l := by omega
    rw [List.length_cons, ofLE, le, low, high, ih]

theorem ofLE_lt (l : List Byte) : ofLE l < 256 ^ l.length := by
  rw [← le_ofLE l, ofLE_le, length_le]
  exact Nat.mod_lt _ (by positivity)

theorem le_fld (inside : o + n ≤ p.length) : le n (fld p o n) = (p.drop o).take n := by
  have long : ((p.drop o).take n).length = n := by simp; omega
  calc le n (fld p o n) = le ((p.drop o).take n).length (ofLE ((p.drop o).take n)) := by rw [long, fld]
    _ = (p.drop o).take n := le_ofLE _

/-- The fields of a payload from offset `o` on, by their lengths. -/
def layout (p : List Byte) : Nat → List Nat → List Byte
  | _, [] => []
  | o, n :: ns => le n (fld p o n) ++ layout p (o + n) ns

theorem layout_eq_drop (ns : List Nat) (len : p.length = o + ns.sum) : layout p o ns = p.drop o := by
  induction ns generalizing o with
  | nil => simp [layout, len]
  | cons n ns ih =>
    have len' : p.length = o + n + ns.sum := by rw [len, List.sum_cons, Nat.add_assoc]
    rw [layout, ih len', le_fld (by omega), ← List.drop_drop, List.take_append_drop]

/-- A layout in which every field has its value in the payload is the payload. -/
theorem eq_of_layout {l : List Byte} (ns : List Nat) (len : p.length = ns.sum) (fields : l = layout p 0 ns) :
    l = p := by
  rw [fields, layout_eq_drop ns (by rw [len, Nat.zero_add]), List.drop_zero]

/-! ## What a record holds of a field -/

theorem fld_lt (p : List Byte) (o n : Nat) : fld p o n < 256 ^ n :=
  Nat.lt_of_lt_of_le (ofLE_lt _) (Nat.pow_le_pow_right (by decide) (by simp))

theorem zeros_eq_le (n : Nat) : zeros n = le n 0 := by
  induction n with
  | zero => rfl
  | succ n ih => rw [le, Nat.zero_div, ← ih]; rfl

/-- A word at least as wide as a field holds it whole. -/
theorem fld_mod {m : Nat} (wide : 256 ^ n ≤ m) : fld p o n % m = fld p o n :=
  Nat.mod_eq_of_lt (Nat.lt_of_lt_of_le (fld_lt p o n) wide)

/-- A flag in a field of its own. -/
theorem b2n_beq_one {v : Nat} (flag : v < 2) : b2n (v == 1) = v := by
  interval_cases v <;> rfl

theorem b2n_bit_zero {v : Nat} (flag : v < 2) : b2n (bit v 0) = v := by
  interval_cases v <;> rfl

/-- Four flags in the low bits of a field. -/
theorem b2n_bits {v : Nat} (flags : v < 16) :
    b2n (bit v 0) + 2 * b2n (bit v 1) + 4 * b2n (bit v 2) + 8 * b2n (bit v 3) = v := by
  interval_cases v <;> rfl

/-- A signed field (R6). -/
theorem leInt_fldInt (p : List Byte) (o n : Nat) : leInt n (fldInt p o n) = le n (fld p o n) := by
  have size : 2 ^ (8 * n) = 256 ^ n := Nat.pow_mul 2 8 n
  have size' : (2 : Int) ^ (8 * n) = (256 ^ n : Nat) := by exact_mod_cast size
  have fits : fld p o n < 256 ^ n := fld_lt p o n
  have whole : ((fld p o n : Nat) : Int) % (256 ^ n : Nat) = fld p o n := by
    rw [← Int.natCast_mod, Nat.mod_eq_of_lt fits]
  rw [leInt, fldInt, signed, size, size', Nat.mod_eq_of_lt fits]
  congr
  split
  · rw [whole, Int.toNat_natCast]
  · rw [Int.sub_emod_right, whole, Int.toNat_natCast]

/-- A field whose range is among those that a command checks is in it. -/
theorem of_fields {l : List (Bool × Nat)} (ok : ∀ f ∈ l, f.1 = true) (P : Prop) [Decidable P] (i : Nat)
    (listed : (decide P, i) ∈ l) : P := of_decide_eq_true (ok _ listed)

/-! ## Geometry (R98, R100, R102, R110) -/

theorem headBytes_headOf (len : p.length = 8) : headBytes (fld p 0 2) (headOf p) = p :=
  eq_of_layout [2, 1, 1, 1, 1, 2] len (by simp [headBytes, headOf, layout])

theorem rowBytes_rowOf (len : p.length = 12) (tail : fld p 9 3 = 0) : rowBytes (fld p 0 2) (fld p 2 1) (rowOf p) = p :=
  eq_of_layout [2, 1, 1, 2, 2, 1, 3] len (by simp [rowBytes, rowOf, layout, zeros_eq_le, tail])

theorem barBytes_barOf (len : p.length = 28) (scanning : fld p 1 1 < 2) (gap : fld p 18 2 = 0)
    (tail : fld p 26 2 = 0) : barBytes (fld p 0 1) (barOf p) = p :=
  eq_of_layout [1, 1, 1, 1, 4, 1, 1, 2, 6, 2, 4, 1, 1, 2] len (by
    simp [barBytes, barOf, layout, b2n_beq_one scanning, fld_mod, zeros_eq_le, gap, tail])

theorem stitchBytes_stitchOf (len : p.length = 12) (enable : fld p 3 1 < 2) :
    stitchBytes (fld p 0 2) (stitchOf p) = p :=
  eq_of_layout [2, 1, 1, 1, 1, 1, 1, 4] len (by simp [stitchBytes, stitchOf, layout, b2n_beq_one enable])

/-! ## Axes (R147, R152, R153) -/

theorem axisBytes_axisOf (len : p.length = 44) (gap : fld p 14 2 = 0) (tail : fld p 41 3 = 0) (ssi : fld p 1 1 < 2)
    (invert : fld p 3 1 < 2) (check : fld p 7 1 < 2) (gray : fld p 18 1 < 2) (crcInvert : fld p 40 1 < 2) :
    axisBytes (fld p 0 1) (axisOf p) = p :=
  eq_of_layout [1, 1, 1, 1, 2, 1, 1, 4, 2, 2, 1, 1, 1, 1, 1, 1, 1, 1, 2, 1, 1, 4, 2, 2, 4, 1, 3] len (by
    -- `simp` would first derive an equation of this long concatenation, at great cost
    unfold axisBytes
    simp [axisOf, layout, b2n_beq_one ssi, b2n_beq_one invert, b2n_beq_one check, b2n_beq_one gray,
      b2n_beq_one crcInvert, zeros_eq_le, gap, tail])

theorem echoBytes_echoOf (len : p.length = 12) (enable : fld p 1 1 < 2) (gap : fld p 3 1 = 0) (tail : fld p 10 2 = 0) :
    echoBytes (fld p 0 1) (echoOf p) = p :=
  eq_of_layout [1, 1, 1, 1, 2, 2, 2, 2] len (by
    simp [echoBytes, echoOf, layout, b2n_beq_one enable, zeros_eq_le, gap, tail])

theorem wakeBytes_wakeOf (len : p.length = 8) (gap : fld p 1 1 = 0) (tail : fld p 6 2 = 0) :
    wakeBytes (wakeOf p) = p :=
  eq_of_layout [1, 1, 2, 2, 2] len (by simp [wakeBytes, wakeOf, layout, fld_mod, zeros_eq_le, gap, tail])

/-! ## Trigger generators (R160, R161, R179) -/

theorem trigBytes_trigOfBytes (len : p.length = 24) (spit : fld p 2 1 < 2) (alive : fld p 3 1 < 2)
    (tail : fld p 20 4 = 0) : trigBytes (fld p 0 1) (trigOfBytes p) = p :=
  eq_of_layout [1, 1, 1, 1, 4, 2, 2, 1, 1, 2, 2, 2, 4] len (by
    simp [trigBytes, trigOfBytes, layout, b2n_beq_one spit, b2n_bit_zero alive, fld_mod, zeros_eq_le, tail])

theorem runBytes_runOf (len : p.length = 24) (gap : fld p 6 2 = 0) (flags : fld p 22 2 < 16) :
    runBytes (runOf p 0) = p :=
  eq_of_layout [6, 2, 4, 4, 4, 2, 2] len (by
    simp [runBytes, runOf, layout, b2n_bits flags, fld_mod, zeros_eq_le, gap])

theorem trigoutBytes_trigoutOf (len : p.length = 12) (enable : fld p 1 1 < 2) (activeLow : fld p 4 1 < 2)
    (gap : fld p 5 1 = 0) (tail : fld p 10 2 = 0) : trigoutBytes (fld p 0 1) (trigoutOf p) = p :=
  eq_of_layout [1, 1, 1, 1, 1, 1, 2, 2, 2] len (by
    simp [trigoutBytes, trigoutOf, layout, b2n_beq_one enable, b2n_beq_one activeLow, zeros_eq_le, gap, tail])

/-! ## Waveforms (R189, R193, R197) -/

theorem profileBytes_profileOf (len : p.length = 20) (gap : fld p 3 1 = 0) :
    profileBytes (fld p 0 1) (fld p 1 1) (profileOf p) = p :=
  eq_of_layout [1, 1, 1, 1, 16] len (by
    have masks : le 16 (fld p 4 16) = (p.drop 4).take 16 := le_fld (by omega)
    simp [profileBytes, profileOf, layout, masks, zeros_eq_le, gap])

theorem channelBytes_channelOf (len : p.length = 8) (enable : fld p 1 1 < 2) (tail : fld p 5 3 = 0) :
    channelBytes (fld p 0 1) (channelOf p) = p :=
  eq_of_layout [1, 1, 1, 1, 1, 3] len (by
    simp [channelBytes, channelOf, layout, b2n_beq_one enable, fld_mod, zeros_eq_le, tail])

theorem dacBytes_dacOf (len : p.length = 12) (enable : fld p 1 1 < 2) (amp : fld p 5 1 < 2) :
    dacBytes (fld p 0 1) (dacOf p) = p :=
  eq_of_layout [1, 1, 1, 1, 1, 1, 2, 4] len (by
    simp [dacBytes, dacOf, layout, b2n_beq_one enable, b2n_beq_one amp, fld_mod])

/-! ## Planes, ports and scrub (R217, R295, R369) -/

theorem planeBytes_planeOf (len : p.length = 40) (fallback : fld p 4 1 < 2) (starve : fld p 5 1 < 2)
    (gap : fld p 6 2 = 0) (gap' : fld p 20 4 = 0) : planeBytes (fld p 0 1) (planeOf p) = p :=
  eq_of_layout [1, 1, 1, 1, 1, 1, 2, 4, 4, 4, 4, 8, 8] len (by
    simp [planeBytes, planeOf, layout, b2n_beq_one fallback, b2n_beq_one starve, fld_mod, zeros_eq_le, gap, gap'])

theorem portBytes_portOf (len : p.length = 8) (enable : fld p 1 1 < 2) (fail : fld p 2 1 < 2) (tail : fld p 6 2 = 0) :
    portBytes (fld p 0 1) (portOf p) = p :=
  eq_of_layout [1, 1, 1, 1, 2, 2] len (by
    simp [portBytes, portOf, layout, b2n_beq_one enable, b2n_beq_one fail, zeros_eq_le, tail])

theorem scrubBytes_scrubOf (len : p.length = 8) (tail : fld p 4 4 = 0) : scrubBytes (scrubOf p) = p :=
  eq_of_layout [2, 2, 4] len (by simp [scrubBytes, scrubOf, layout, zeros_eq_le, tail])

/-! ## Health (R303, R316, R319) -/

theorem policyBytes_policyOf (len : p.length = 16) (flags : fld p 1 1 < 16) (classes : fld p 3 1 < 16) :
    policyBytes (fld p 0 1) (policyOf p) = p :=
  eq_of_layout [1, 1, 1, 1, 1, 1, 1, 1, 1, 1, 2, 2, 2] len (by
    simp [policyBytes, policyOf, layout, b2n_bits flags, Nat.mod_eq_of_lt classes])

theorem refBytes_refOf (len : p.length = 8) (gap : fld p 3 1 = 0) : refBytes (fld p 0 1) (fld p 1 1) (refOf p) = p :=
  eq_of_layout [1, 1, 1, 1, 2, 2] len (by simp [refBytes, refOf, layout, zeros_eq_le, gap])

theorem tempBytes_tempOf (len : p.length = 16) (enable : fld p 1 1 < 2) (gap : fld p 2 2 = 0) (tail : fld p 14 2 = 0) :
    tempBytes (fld p 0 1) (tempOf p) = p :=
  eq_of_layout [1, 1, 2, 2, 2, 2, 2, 2, 2] len (by
    simp [tempBytes, tempOf, layout, b2n_beq_one enable, leInt_fldInt, zeros_eq_le, gap, tail])

/-! ## Power and temperature (R403, R410, R425) -/

/-- The wake mask drops the reserved bits alone. -/
theorem and_wakeMask (b : Byte) (reserved : b &&& 0xE4 = 0) : b &&& 0x1B = b := by
  have split_ : b &&& 0x1B ||| b &&& 0xE4 = b := by
    rw [← BitVec.and_or_distrib_left]
    exact BitVec.and_allOnes
  rw [reserved] at split_
  simpa using split_

theorem powerBytes_powerOf (len : p.length = 12) (gap : fld p 1 1 = 0) (gap' : fld p 6 2 = 0)
    (reserved : BitVec.ofNat 8 (fld p 0 1) &&& 0xE4 = 0) : powerBytes (powerOf p) = p :=
  eq_of_layout [1, 1, 2, 2, 2, 4] len (by
    rw [powerBytes, powerOf, and_wakeMask _ reserved]
    simp [layout, fld_mod, zeros_eq_le, gap, gap'])

theorem hvBytes_hvOf (len : p.length = 8) (enable : fld p 1 1 < 2) (fail : fld p 2 1 < 2) (gap : fld p 3 1 = 0) :
    hvBytes (fld p 0 1) (hvOf p) = p :=
  eq_of_layout [1, 1, 1, 1, 2, 2] len (by
    simp [hvBytes, hvOf, layout, b2n_beq_one enable, b2n_beq_one fail, zeros_eq_le, gap])

theorem thermBytes_thermOf (len : p.length = 12) (gap : fld p 1 1 = 0) (tail : fld p 10 2 = 0) :
    thermBytes (fld p 0 1) (thermOf p) = p :=
  eq_of_layout [1, 1, 2, 2, 2, 2, 2] len (by simp [thermBytes, thermOf, layout, zeros_eq_le, gap, tail])

/-! ## All of them -/

/-- Settles O59: a record's layout gives each field of its payload back, and the checks of the command's fields say
that a flag holds no more than its record does. -/
theorem recordsReadBackAsTheyWereSet : Obligations.RecordsReadBackAsTheyWereSet := by
  unfold Obligations.RecordsReadBackAsTheyWereSet
  exact ⟨
    fun _ len _ => headBytes_headOf len,
    fun _ len _ tail => rowBytes_rowOf len tail,
    fun p len ok => barBytes_barOf len (of_fields ok (fld p 1 1 < 2) 1 (by simp [barFields])),
    fun p len ok => stitchBytes_stitchOf len (of_fields ok (fld p 3 1 < 2) 3 (by simp [stitchFields])),
    fun _ len => axisBytes_axisOf len,
    fun p len ok => echoBytes_echoOf len (of_fields ok (fld p 1 1 < 2) 1 (by simp [echoFields])),
    fun _ len _ => wakeBytes_wakeOf len,
    fun p len ok tail alive =>
      trigBytes_trigOfBytes len (of_fields ok (fld p 2 1 < 2) 2 (by simp [trigFields])) alive tail,
    fun _ len _ => runBytes_runOf len,
    fun p len ok => trigoutBytes_trigoutOf len (of_fields ok (fld p 1 1 < 2) 1 (by simp [trigoutFields]))
      (of_fields ok (fld p 4 1 < 2) 4 (by simp [trigoutFields])),
    fun _ len _ => profileBytes_profileOf len,
    fun p len ok => channelBytes_channelOf len (of_fields ok (fld p 1 1 < 2) 1 (by simp [channelFields])),
    fun p len ok => dacBytes_dacOf len (of_fields ok (fld p 1 1 < 2) 1 (by simp [dacFields]))
      (of_fields ok (fld p 5 1 < 2) 5 (by simp [dacFields])),
    fun p len ok => planeBytes_planeOf len
      (Nat.lt_succ_of_le (of_fields ok (fld p 4 1 ≤ 1) 4 (by simp [planeFields])))
      (Nat.lt_succ_of_le (of_fields ok (fld p 5 1 ≤ 1) 5 (by simp [planeFields]))),
    fun p len ok => portBytes_portOf len (of_fields ok (fld p 1 1 < 2) 1 (by simp [portFields]))
      (of_fields ok (fld p 2 1 < 2) 2 (by simp [portFields])),
    fun _ len _ => scrubBytes_scrubOf len,
    fun p len ok flags => policyBytes_policyOf len flags (of_fields ok (fld p 3 1 < 16) 3 (by simp [policyFields])),
    fun _ len _ => refBytes_refOf len,
    fun p len ok => tempBytes_tempOf len (of_fields ok (fld p 1 1 < 2) 1 (by simp [tempFields])),
    fun _ len => powerBytes_powerOf len,
    fun p len ok => hvBytes_hvOf len (of_fields ok (fld p 1 1 < 2) 1 (by simp [hvFields]))
      (of_fields ok (fld p 2 1 < 2) 2 (by simp [hvFields])),
    fun _ len => thermBytes_thermOf len⟩

end Sys2Proof.Proofs.RecordLayouts

/-!
PROOFS. Masked writes of the nozzle map (R108): what a merge takes from the new word field by field, and what is
left of a configuration when such a write has come into force, with the substitutions that it ends.
-/

namespace Sys2Proof.Proofs.NozzleMap

open Sys2Proof Sys2Proof.Machine Sys2Proof.Laws

/-! ## One merge (R105, R108) -/

theorem bitsOf_eq_extractLsb' (e : Word) (lo n : Nat) : bitsOf e.toNat lo n = (e.extractLsb' lo n).toNat := by
  rw [bitsOf, BitVec.extractLsb'_toNat, Nat.shiftRight_eq_div_pow]

/-- Bit by bit, the new word counts where the write mask selects. -/
theorem getLsbD_nmapMerge (mask : BitVec 4) (old new : Word) (j : Nat) : (nmapMerge mask old new).getLsbD j
    = if (nmapBits mask).getLsbD j = true then new.getLsbD j else old.getLsbD j := by
  cases selected : (nmapBits mask).getLsbD j with
  | false => simpa [nmapMerge, selected] using old.lt_of_getLsbD
  | true => simp [nmapMerge, selected]

/-- Where the write mask selects all bits of a field or none, the field comes from one of the two words. -/
theorem bitsOf_nmapMerge {mask : BitVec 4} {lo n : Nat} {b : Bool}
    (selects : (nmapBits mask).extractLsb' lo n = if b = true then BitVec.allOnes n else 0) (old new : Word) :
    bitsOf (nmapMerge mask old new).toNat lo n = if b = true then bitsOf new.toNat lo n else bitsOf old.toNat lo n := by
  have field : (nmapMerge mask old new).extractLsb' lo n
      = if b = true then new.extractLsb' lo n else old.extractLsb' lo n := by
    refine BitVec.eq_of_getLsbD_eq fun j inside => ?_
    have bit_ : (nmapBits mask).getLsbD (lo + j) = b := by
      have := congrArg (·.getLsbD j) selects
      cases b <;> simpa [inside] using this
    cases b <;> simp [getLsbD_nmapMerge, bit_, inside]
  simp only [bitsOf_eq_extractLsb', field, apply_ite BitVec.toNat]

/-- The bits that a mask selects are whole fields: column, state, trim and amp_class. -/
theorem nmapBits_fields (mask : BitVec 4) :
    (nmapBits mask).extractLsb' 0 18 = (if mask.getLsbD 0 = true then BitVec.allOnes 18 else 0)
    ∧ (nmapBits mask).extractLsb' 18 3 = (if mask.getLsbD 1 = true then BitVec.allOnes 3 else 0)
    ∧ (nmapBits mask).extractLsb' 21 6 = (if mask.getLsbD 2 = true then BitVec.allOnes 6 else 0)
    ∧ (nmapBits mask).extractLsb' 27 2 = (if mask.getLsbD 3 = true then BitVec.allOnes 2 else 0) := by
  revert mask
  decide

section Merge

variable (mask : BitVec 4) (old new : Word)

@[simp] theorem nmapColumn_nmapMerge : nmapColumn (nmapMerge mask old new)
    = if mask.getLsbD 0 = true then nmapColumn new else nmapColumn old :=
  bitsOf_nmapMerge (nmapBits_fields mask).1 old new

@[simp] theorem nmapState_nmapMerge : nmapState (nmapMerge mask old new)
    = if mask.getLsbD 1 = true then nmapState new else nmapState old :=
  bitsOf_nmapMerge (nmapBits_fields mask).2.1 old new

@[simp] theorem nmapTrim_nmapMerge : nmapTrim (nmapMerge mask old new)
    = if mask.getLsbD 2 = true then nmapTrim new else nmapTrim old := by
  rw [nmapTrim, bitsOf_nmapMerge (nmapBits_fields mask).2.2.1, apply_ite (signed 6)]
  rfl

@[simp] theorem nmapClass_nmapMerge : nmapClass (nmapMerge mask old new)
    = if mask.getLsbD 3 = true then nmapClass new else nmapClass old :=
  bitsOf_nmapMerge (nmapBits_fields mask).2.2.2 old new

end Merge

/-- Two merges with one word are the merge under both masks. -/
theorem nmapMerge_nmapMerge {a b mask : BitVec 4} (both : nmapBits a ||| nmapBits b = nmapBits mask) (old new : Word) :
    nmapMerge a (nmapMerge b old new) new = nmapMerge mask old new := by
  refine BitVec.eq_of_getLsbD_eq fun j _ => ?_
  simp only [getLsbD_nmapMerge, ← both, BitVec.getLsbD_or, Bool.or_eq_true]
  by_cases first : (nmapBits a).getLsbD j = true <;> simp [first]

/-- The two parts of a write select what the whole selects. -/
theorem nmapBits_parts (mask : BitVec 4) : nmapBits (mask &&& 0xC) ||| nmapBits (mask &&& 0x3) = nmapBits mask := by
  revert mask
  decide

theorem nmapMerge_parts (mask : BitVec 4) (old new : Word) :
    nmapMerge (mask &&& 0xC) (nmapMerge (mask &&& 0x3) old new) new = nmapMerge mask old new :=
  nmapMerge_nmapMerge (nmapBits_parts mask) old new

/-! ## The parts of a staged write (R28) -/

/-- Column, trim and amp_class of a nozzle-map entry: the fields that no substitution touches. -/
def placement (e : Word) : Nat × Int × Nat := (nmapColumn e, nmapTrim e, nmapClass e)

theorem placement_eq_iff {e n : Word} : placement e = placement n ↔
    nmapColumn e = nmapColumn n ∧ nmapTrim e = nmapTrim n ∧ nmapClass e = nmapClass n := by
  simp only [placement, Prod.mk.injEq]

/-- What a merge makes of the placement, the old placement decides. -/
theorem placement_nmapMerge_congr (mask : BitVec 4) {old old' : Word} (same : placement old = placement old')
    (new : Word) : placement (nmapMerge mask old new) = placement (nmapMerge mask old' new) := by
  obtain ⟨column, trim, cls⟩ := placement_eq_iff.mp same
  simp [placement, column, trim, cls]

variable (cfg : Cfg) (load : Bool) (mask : BitVec 4) (i k : Nat) (w : Word)

/-- Writes under a mask of the state alone leave the placement of every nozzle (R307). -/
theorem placement_nmapApply_state (es : List (Nat × Word)) (t : Table Word) :
    placement ((nmapApply 0x2 t es).get nmapReset k) = placement (t.get nmapReset k) := by
  induction es generalizing t with
  | nil => rfl
  | cons e es ih =>
    rw [nmapApply, ih]
    by_cases here : e.1 = k
    · rw [here, table_get_set_same]
      simp [placement]
    · rw [table_get_set_other _ _ _ _ _ here]

/-- Substitutions that end for want of a donor write states alone (R308, R311). -/
theorem placement_dropLost : placement (nmapRec cfg.dropLost k) = placement (nmapRec cfg k) := by
  unfold Cfg.dropLost
  dsimp only
  split
  · rfl
  · exact placement_nmapApply_state ..

theorem dropLost_of_no_substs (none_ : cfg.substs = []) : cfg.dropLost = cfg := by
  simp [Cfg.dropLost, none_]

/-- A masked write of one entry of a nozzle map. -/
def writeOne (mask : BitVec 4) (i : Nat) (w : Word) (cfg : Cfg) : Cfg :=
  { cfg with nmap := nmapApply mask cfg.nmap [(i, w)] }

theorem nmapRec_writeOne : nmapRec (writeOne mask i w cfg) k
    = if k = i then nmapMerge mask (nmapRec cfg i) w else nmapRec cfg k := by
  unfold writeOne nmapRec nmapApply nmapApply
  split
  next here => rw [here, table_get_set_same]
  next other => rw [table_get_set_other _ _ _ _ _ (Ne.symm other)]

/-- The configuration once the data-plane part of the write stands, and no donor has been looked at yet. -/
def dataWritten (mask : BitVec 4) (i : Nat) (w : Word) (cfg : Cfg) : Cfg :=
  { writeOne (mask &&& 0x3) i w cfg with substs := nmapEnds mask cfg [(i, w)] }

theorem dataWritten_substs (none_ : cfg.substs = []) : (dataWritten mask i w cfg).substs = [] := by
  simp [dataWritten, nmapEnds, none_]

theorem apply_nmap_eq : cfg.apply (.nmap load mask [(i, w)])
    = writeOne (mask &&& 0xC) i w (dataWritten mask i w cfg).dropLost := rfl

/-- The nozzle gets the merge with its value in force, the others keep theirs: but for the states that go with a
donor. -/
theorem placement_apply_nmap : placement (nmapRec (cfg.apply (.nmap load mask [(i, w)])) k)
    = placement (if k = i then nmapMerge mask (nmapRec cfg i) w else nmapRec cfg k) := by
  have before : ∀ j, placement (nmapRec (dataWritten mask i w cfg).dropLost j)
      = placement (if j = i then nmapMerge (mask &&& 0x3) (nmapRec cfg i) w else nmapRec cfg j) := fun j =>
    (placement_dropLost _ _).trans (congrArg placement (nmapRec_writeOne cfg (mask &&& 0x3) i j w))
  rw [apply_nmap_eq, nmapRec_writeOne]
  split
  next here => rw [placement_nmapMerge_congr _ (before i), if_pos rfl, nmapMerge_parts]
  next other => rw [before k, if_neg other]

theorem nmapRec_apply_nmap (none_ : cfg.substs = []) : nmapRec (cfg.apply (.nmap load mask [(i, w)])) k
    = if k = i then nmapMerge mask (nmapRec cfg i) w else nmapRec cfg k := by
  have before : ∀ j, nmapRec (dataWritten mask i w cfg) j
      = if j = i then nmapMerge (mask &&& 0x3) (nmapRec cfg i) w else nmapRec cfg j :=
    fun j => nmapRec_writeOne cfg (mask &&& 0x3) i j w
  rw [apply_nmap_eq, dropLost_of_no_substs _ (dataWritten_substs cfg mask i w none_), nmapRec_writeOne]
  split
  next here => rw [before i, if_pos rfl, nmapMerge_parts]
  next other => rw [before k, if_neg other]

/-- Settles O15: a merge works field by field, and the two parts of a staged write merge to the whole; what ends with
a donor writes states alone. -/
theorem maskedNozzleWrites : Obligations.MaskedNozzleWrites := by
  refine ⟨fun mask old new => ⟨nmapColumn_nmapMerge .., nmapState_nmapMerge .., nmapTrim_nmapMerge ..,
    nmapClass_nmapMerge ..⟩, ?_⟩
  rintro cfg load mask i w k e n rfl rfl
  obtain ⟨column, trim, cls⟩ := placement_eq_iff.mp (placement_apply_nmap cfg load mask i k w)
  exact ⟨column, trim, cls, fun none_ => congrArg nmapState (nmapRec_apply_nmap cfg load mask i k w none_)⟩

end Sys2Proof.Proofs.NozzleMap

/-!
PROOFS. The reports of GEOM and AXIS (R120, R145, R155): what each command's body answers once its fields are in
range, and where the fields of its payload lie.
-/

namespace Sys2Proof.Proofs.GeometryReports

open Sys2Proof Sys2Proof.Machine Sys2Proof.Laws

variable {v : State} {rq : Request}

/-! ## The nozzle map (R120) -/

theorem geomNmapReadBody_eq (first : fld rq.payload 0 4 < 2097152) (some_ : 1 ≤ fld rq.payload 4 2)
    (few : fld rq.payload 4 2 ≤ 248) (inside : fld rq.payload 0 4 + fld rq.payload 4 2 ≤ 2097152) :
    geomNmapReadBody rq v = .done v ((List.range (fld rq.payload 4 2)).flatMap
      (fun i => le 4 (nmapRec (v.readCfg rq) (fld rq.payload 0 4 + i)).toNat)) :=
  checked_ok (by simp [first, some_, few, inside])

/-- Word `k` of a row of words. -/
theorem fld_words (f : Nat → Word) {n k : Nat} (here : k < n) :
    fld ((List.range n).flatMap (fun i => le 4 (f i).toNat)) (4 * k) 4 = (f k).toNat := by
  rw [fld_fields 4 _ (fun i => length_le 4 _) _ k (by simpa using here), List.getElem_range, fld_le]
  exact Nat.mod_eq_of_lt (f k).isLt

/-! ## GEOM.GET (R120) -/

/-- What GEOM.GET answers for the kind `w`: the record that the request names, in the layout of its SET command. -/
def geomReport (rq : Request) (v : State) (w : Nat) : List Byte :=
  let id := fld rq.payload 2 2
  let cfg := v.readCfg rq
  match w with
  | 0 => headBytes id (headRec cfg id)
  | 1 => rowBytes id (fld rq.payload 1 1) (rowRec cfg id (fld rq.payload 1 1))
  | 2 => barBytes id (barRec cfg id)
  | 3 => stitchBytes id (cfg.stitches.get {} id)
  | 4 => swathBytes id (cfg.swaths.get {} id)
  | _ => (v.coverage.get coverageReset id).flatMap (le 4)

theorem geomGetBody_eq (kind : fld rq.payload 0 1 < 6) (row : fld rq.payload 0 1 = 1 → fld rq.payload 1 1 < 8)
    (inside : fld rq.payload 2 2 < if fld rq.payload 0 1 < 2 then 256 else if fld rq.payload 0 1 = 3 then 512 else 16) :
    geomGetBody rq v = .done v (geomReport rq v (fld rq.payload 0 1)) := by
  refine checked_ok ?_
  have row' : (fld rq.payload 0 1 != 1 || decide (fld rq.payload 1 1 < 8)) = true := by
    simpa [Decidable.imp_iff_not_or] using row
  simp only [List.forall_mem_cons, kind, row', decide_true, decide_eq_true_eq, true_and]
  refine ⟨?_, by simp⟩
  -- kind by kind, the two bounds are one number
  generalize fld rq.payload 0 1 = w at kind inside ⊢
  interval_cases w <;> exact inside

/-! ## Axes (R145, R155) -/

/-- What AXIS.GET answers for the kind `w`: the record that the request names, in the layout of its SET command. -/
def axisReport (rq : Request) (v : State) (w : Nat) : List Byte :=
  let id := fld rq.payload 1 1
  let cfg := v.readCfg rq
  match w with
  | 0 => axisBytes id (axisRec cfg id)
  | 1 => echoBytes id (echoRec cfg id)
  | _ => wakeBytes cfg.wake

theorem axisGetBody_eq (kind : fld rq.payload 0 1 < 3)
    (inside : fld rq.payload 1 1 < if fld rq.payload 0 1 = 0 then 8 else if fld rq.payload 0 1 = 1 then 4 else 1) :
    axisGetBody rq v = .done v (axisReport rq v (fld rq.payload 0 1)) := by
  refine checked_ok ?_
  simp only [List.forall_mem_cons, kind, decide_true, decide_eq_true_eq, true_and]
  refine ⟨?_, by simp⟩
  -- kind by kind, the two bounds are one number
  generalize fld rq.payload 0 1 = w at kind inside ⊢
  interval_cases w <;> exact inside

/-- Settles O19: each report leaves the state; its payload is laid out field by field, or is the record asked for. -/
theorem geometryAndAxisReadsAnswer : Obligations.GeometryAndAxisReadsAnswer := by
  unfold Obligations.GeometryAndAxisReadsAnswer
  refine ⟨
    reads_of (fun _ _ _ => rfl) rfl fun _ _ ⟨first, some_, few, inside⟩ =>
      ⟨_, geomNmapReadBody_eq first some_ few inside, ?_, fun _ here => fld_words _ here⟩,
    reads_of (fun _ _ _ => rfl) rfl fun _ _ ⟨kind, row, inside⟩ => ⟨_, geomGetBody_eq kind row inside, ?_⟩,
    reads_of (fun _ _ _ => rfl) rfl fun _ _ axis => ⟨_, checked_ok (by simp [axis]), by simp, ?_⟩,
    reads_of (fun _ _ _ => rfl) rfl fun _ _ bar => ⟨_, checked_ok (by simp [bar]), by simp, ?_⟩,
    reads_of (fun _ _ _ => rfl) rfl fun _ _ ⟨kind, inside⟩ => ⟨_, axisGetBody_eq kind inside, ?_⟩⟩
  · rw [length_fields 4 _ fun _ => length_le 4 _, List.length_range]
  · and_intros <;> (intro what; rw [what]; rfl)
  · simp [fld_left, fld_right, fld_le, fld_leInt]
  · simp [fld_left, fld_right, fld_le]
  · and_intros <;> (intro what; rw [what]; rfl)

end Sys2Proof.Proofs.GeometryReports

/-!
PROOFS. The staged commands of GEOM (R98–R118): for each command the change that its body stages and the reasons for
which it refuses, one equation per case; the settling theorem carries them through the exchange.
-/

namespace Sys2Proof.Proofs.GeometryStaging

open Sys2Proof Sys2Proof.Machine Sys2Proof.Laws

variable {v : State} {rq : Request}

/-! ## Heads and rows (R98, R99, R102) -/

/-- Another head of a configuration holds the address that a record asks for. -/
def addressHeld (h : Nat) (r : HeadRec) (cfg : Cfg) : Bool := cfg.heads.any (fun x =>
  x.1 != h && x.2.bar != 0xFF && x.2.port == r.port && x.2.localHead == r.localHead)

theorem addressHeld_eq_false {h : Nat} {r : HeadRec} {cfg : Cfg}
    (free : ∀ x ∈ cfg.heads, x.1 ≠ h → x.2.bar ≠ 0xFF → x.2.port = r.port → x.2.localHead ≠ r.localHead) :
    addressHeld h r cfg = false := by
  simpa [addressHeld] using free

theorem geomHeadSetBody_stages (ok : ∀ f ∈ headFields rq.payload, f.1 = true)
    (free : (headOf rq.payload).bar = 0xFF ∨ ∀ cfg ∈ [v.inForce, v.view rq.mbx.val],
      addressHeld (fld rq.payload 0 2) (headOf rq.payload) cfg = false) :
    geomHeadSetBody rq v = .stage (.head (fld rq.payload 0 2) (headOf rq.payload)) := by
  refine (checked_ok ok).trans (if_neg ?_)
  change ¬ ((headOf rq.payload).bar != 0xFF && (addressHeld (fld rq.payload 0 2) (headOf rq.payload) v.inForce
    || addressHeld (fld rq.payload 0 2) (headOf rq.payload) (v.view rq.mbx.val))) = true
  obtain none_ | free := free
  · simp [none_]
  · simp [free]

section RowSet

variable (ok : ∀ f ∈ rowFields rq.payload, f.1 = true)
include ok

theorem geomRowSetBody_stages (has : fld rq.payload 2 1 < (headRec (v.view rq.mbx.val) (fld rq.payload 0 2)).rows) :
    geomRowSetBody rq v = .stage (.row (fld rq.payload 0 2) (fld rq.payload 2 1) (rowOf rq.payload)) :=
  (checked_ok ok).trans (if_neg (Nat.not_le.mpr has))

theorem geomRowSetBody_refused
    (lacks : (headRec (v.view rq.mbx.val) (fld rq.payload 0 2)).rows ≤ fld rq.payload 2 1) :
    geomRowSetBody rq v = .refuse Rc.rowNotInHead Cls.head (fld rq.payload 0 2) [] :=
  (checked_ok ok).trans (if_pos lacks)

end RowSet

/-! ## Bars and swaths (R100, R101, R114) -/

section BarSet

variable (ok : ∀ f ∈ barFields rq.payload, f.1 = true)
include ok

theorem geomBarSetBody_notScanning (fixed : (barOf rq.payload).scanning = false)
    (mask : (barOf rq.payload).passMask ≠ 0) :
    geomBarSetBody rq v = .refuse Rc.notScanning Cls.bar (fld rq.payload 0 1) [] :=
  (checked_ok ok).trans (if_pos (by simp [fixed, mask]))

/-- Behind the pass mask, the lock of an enabled bar decides. -/
theorem geomBarSetBody_of_pass (pass : (barOf rq.payload).scanning = true ∨ (barOf rq.payload).passMask = 0) :
    geomBarSetBody rq v
      = if (v.barEnabled (fld rq.payload 0 1)
          && barLockedChange (barRec v.inForce (fld rq.payload 0 1)) (barOf rq.payload)) = true
        then .refuse Rc.barFieldLocked Cls.bar (fld rq.payload 0 1) []
        else .stage (.bar (fld rq.payload 0 1) (barOf rq.payload)) :=
  (checked_ok ok).trans (if_neg (by obtain pass | pass := pass <;> simp [pass]))

theorem geomBarSetBody_stages (pass : (barOf rq.payload).scanning = true ∨ (barOf rq.payload).passMask = 0)
    (free : v.barEnabled (fld rq.payload 0 1) = true →
      barLockedChange (barRec v.inForce (fld rq.payload 0 1)) (barOf rq.payload) = false) :
    geomBarSetBody rq v = .stage (.bar (fld rq.payload 0 1) (barOf rq.payload)) :=
  (geomBarSetBody_of_pass ok pass).trans (if_neg (by simpa using free))

theorem geomBarSetBody_locked (pass : (barOf rq.payload).scanning = true ∨ (barOf rq.payload).passMask = 0)
    (enabled : v.barEnabled (fld rq.payload 0 1) = true)
    (locked : barLockedChange (barRec v.inForce (fld rq.payload 0 1)) (barOf rq.payload) = true) :
    geomBarSetBody rq v = .refuse Rc.barFieldLocked Cls.bar (fld rq.payload 0 1) [] :=
  (geomBarSetBody_of_pass ok pass).trans (if_pos (by simp [enabled, locked]))

end BarSet

section Swath

variable (bar : fld rq.payload 0 1 < 16)
include bar

theorem geomSwathBody_stages (scanning : (barRec (v.view rq.mbx.val) (fld rq.payload 0 1)).scanning = true)
    (pass : fld rq.payload 1 1 < (barRec (v.view rq.mbx.val) (fld rq.payload 0 1)).passCount) :
    geomSwathBody rq v
      = .stage (.swath (fld rq.payload 0 1) { passIndex := fld rq.payload 1 1, offset := fld rq.payload 4 4 }) :=
  (checked_ok (by simp [bar])).trans ((if_neg (by simp [scanning])).trans (checked_ok (by simp [pass])))

theorem geomSwathBody_refused (fixed : (barRec (v.view rq.mbx.val) (fld rq.payload 0 1)).scanning = false) :
    geomSwathBody rq v = .refuse Rc.notScanning Cls.bar (fld rq.payload 0 1) [] :=
  (checked_ok (by simp [bar])).trans (if_pos (by simp [fixed]))

end Swath

/-! ## The nozzle map (R107, R108, R118) -/

theorem nmapFirst_eq_none {bad : Word → Bool} {es : List (Nat × Word)} (good : ∀ e ∈ es, bad e.2 = false) :
    nmapFirst bad es = none := by
  rw [nmapFirst, List.find?_eq_none.mpr fun e here => by simp [good e here]]
  rfl

theorem geomNmapWriteBody_stages (first : fld rq.payload 0 4 < 2097152) (some_ : 1 ≤ fld rq.payload 4 2)
    (few : fld rq.payload 4 2 ≤ 248) (inside : fld rq.payload 0 4 + fld rq.payload 4 2 ≤ 2097152)
    (masks : 1 ≤ fld rq.payload 6 1) (mask : fld rq.payload 6 1 ≤ 15)
    (allowed : ∀ e ∈ nmapEntriesOf (fld rq.payload 0 4) (rq.payload.drop 8) (fld rq.payload 4 2),
      nmapReserved (BitVec.ofNat 4 (fld rq.payload 6 1)) e.2 = false
        ∧ nmapFirmwareOnly (BitVec.ofNat 4 (fld rq.payload 6 1)) e.2 = false) :
    geomNmapWriteBody rq v = .stage (.nmap false (BitVec.ofNat 4 (fld rq.payload 6 1))
      (nmapEntriesOf (fld rq.payload 0 4) (rq.payload.drop 8) (fld rq.payload 4 2))) := by
  refine (checked_ok (by simp [first, some_, few, inside, masks, mask])).trans ?_
  dsimp only
  rw [nmapFirst_eq_none fun e here => (allowed e here).1, nmapFirst_eq_none fun e here => (allowed e here).2]

section NmapLoad

variable (first : fld rq.payload 0 4 < 2097152) (some_ : 1 ≤ fld rq.payload 4 4) (few : fld rq.payload 4 4 ≤ 262144)
  (inside : fld rq.payload 0 4 + fld rq.payload 4 4 ≤ 2097152) (masks : 1 ≤ fld rq.payload 16 1)
  (mask : fld rq.payload 16 1 ≤ 15)
include first some_ few inside masks mask

theorem geomNmapLoadBody_stages (source : sourceOk (fld rq.payload 8 8) (fld rq.payload 4 4 * 4) = true)
    (allowed : ∀ e ∈ nmapEntriesOf (fld rq.payload 0 4) (v.hbmRead (fld rq.payload 8 8) (fld rq.payload 4 4 * 4))
        (fld rq.payload 4 4), nmapReserved (BitVec.ofNat 4 (fld rq.payload 16 1)) e.2 = false
      ∧ nmapFirmwareOnly (BitVec.ofNat 4 (fld rq.payload 16 1)) e.2 = false) :
    geomNmapLoadBody rq v = .stage (.nmap true (BitVec.ofNat 4 (fld rq.payload 16 1)) (nmapEntriesOf
      (fld rq.payload 0 4) (v.hbmRead (fld rq.payload 8 8) (fld rq.payload 4 4 * 4)) (fld rq.payload 4 4))) := by
  refine (checked_ok (by simp [first, some_, few, inside, masks, mask])).trans ((if_neg (by simp [source])).trans ?_)
  dsimp only
  rw [nmapFirst_eq_none fun e here => by simp [allowed e here]]

theorem geomNmapLoadBody_refused (source : sourceOk (fld rq.payload 8 8) (fld rq.payload 4 4 * 4) = false) :
    geomNmapLoadBody rq v = .refuse Rc.sourceRange 0 0 [] :=
  (checked_ok (by simp [first, some_, few, inside, masks, mask])).trans (if_pos (by simp [source]))

end NmapLoad

/-! ## Stitch zones and masks (R110, R111, R113) -/

/-- The heads of a zone are two of its bar, and its columns lie in the raster. -/
def zoneFits (cfg : Cfg) (r : StitchRec) : Prop :=
  (headRec cfg r.left).bar = r.bar ∧ (headRec cfg r.right).bar = r.bar ∧ r.left ≠ r.right
    ∧ r.xStart + r.width ≤ (barRec cfg r.bar).rasterWidth

section StitchSet

variable (ok : ∀ f ∈ stitchFields rq.payload, f.1 = true)
include ok

theorem geomStitchSetBody_stages
    (fits : (stitchOf rq.payload).enable = true → zoneFits (v.view rq.mbx.val) (stitchOf rq.payload)) :
    geomStitchSetBody rq v = .stage (.stitch (fld rq.payload 0 2) (stitchOf rq.payload)) := by
  refine (checked_ok ok).trans (if_neg ?_)
  cases enable : (stitchOf rq.payload).enable with
  | false => simp
  | true =>
    obtain ⟨left, right, apart, inside⟩ := fits enable
    simp [left, right, apart, inside]

theorem geomStitchSetBody_refused (enable : (stitchOf rq.payload).enable = true)
    (unfit : ¬ zoneFits (v.view rq.mbx.val) (stitchOf rq.payload)) :
    geomStitchSetBody rq v = .refuse Rc.stitchInvalid Cls.bar (stitchOf rq.payload).bar [] := by
  refine (checked_ok ok).trans (if_pos ?_)
  simpa [enable, zoneFits, Decidable.imp_iff_not_or, or_assoc] using unfit

end StitchSet

theorem geomMaskLoadBody_pass (kind : fld rq.payload 0 1 = 1) (number : fld rq.payload 1 1 < 16)
    (height : fld rq.payload 2 2 = 256) (source : sourceOk (fld rq.payload 8 8) 32768 = true) :
    geomMaskLoadBody rq v = .stage (.passMask (fld rq.payload 1 1)
      { bytes := (List.range 32768).zip (v.hbmRead (fld rq.payload 8 8) 32768) }) := by
  refine (checked_ok (by simp [kind, number, height])).trans ?_
  simp only [kind, source, beq_self_eq_true, if_true, Bool.not_true, Bool.false_eq_true, if_false]

theorem geomMaskLoadBody_stitch (kind : fld rq.payload 0 1 = 0)
    (height : fld rq.payload 2 2 ∈ [1, 2, 4, 8, 16, 32, 64, 128, 256])
    (source : sourceOk (fld rq.payload 8 8) (fld rq.payload 2 2 * 8) = true) :
    geomMaskLoadBody rq v = .stage (.stitchMask (fld rq.payload 1 1)
      { height := fld rq.payload 2 2
        lines := maskLines 0 (fld rq.payload 2 2) (v.hbmRead (fld rq.payload 8 8) (fld rq.payload 2 2 * 8)) }) := by
  refine (checked_ok (by simpa [kind, oneOf] using height)).trans ?_
  simp [kind, source]

/-! ## All of them -/

/-- Settles O26: each clause is one case of the command's body. -/
theorem geometryStages : Obligations.GeometryStages := by
  unfold Obligations.GeometryStages
  exact ⟨
    stages_of (fun _ _ _ => rfl) fun _ _ ⟨ok, free⟩ =>
      geomHeadSetBody_stages ok (free.imp_right fun free cfg here => addressHeld_eq_false (free cfg here)),
    stages_of (fun _ _ _ => rfl) fun _ _ ⟨ok, has⟩ => geomRowSetBody_stages ok has,
    denies_of (fun _ _ _ => rfl) fun _ _ ⟨ok, lacks⟩ => geomRowSetBody_refused ok lacks,
    stages_of (fun _ _ _ => rfl) fun _ _ ⟨ok, pass, free⟩ => geomBarSetBody_stages ok pass free,
    denies_of (fun _ _ _ => rfl) fun _ _ ⟨ok, fixed, mask⟩ => geomBarSetBody_notScanning ok fixed mask,
    denies_of (fun _ _ _ => rfl) fun _ _ ⟨ok, pass, enabled, locked⟩ => geomBarSetBody_locked ok pass enabled locked,
    stages_of (fun _ _ _ => rfl) fun _ _ ⟨first, some_, few, inside, masks, mask, allowed⟩ =>
      geomNmapWriteBody_stages first some_ few inside masks mask allowed,
    stages_of (fun _ _ _ => rfl) fun _ _ ⟨first, some_, few, inside, masks, mask, source, allowed⟩ =>
      geomNmapLoadBody_stages first some_ few inside masks mask source allowed,
    denies_of (fun _ _ _ => rfl) fun _ _ ⟨first, some_, few, inside, masks, mask, source⟩ =>
      geomNmapLoadBody_refused first some_ few inside masks mask source,
    stages_of (fun _ _ _ => rfl) fun _ _ ⟨ok, fits⟩ => geomStitchSetBody_stages ok fits,
    denies_of (fun _ _ _ => rfl) fun _ _ ⟨ok, enable, unfit⟩ => geomStitchSetBody_refused ok enable unfit,
    stages_of (fun _ _ _ => rfl) fun _ _ ⟨kind, number, height, source⟩ =>
      geomMaskLoadBody_pass kind number height source,
    stages_of (fun _ _ _ => rfl) fun _ _ ⟨kind, height, source⟩ => geomMaskLoadBody_stitch kind height source,
    stages_of (fun _ _ _ => rfl) fun _ _ ⟨bar, scanning, pass⟩ => geomSwathBody_stages bar scanning pass,
    denies_of (fun _ _ _ => rfl) fun _ _ ⟨bar, fixed⟩ => geomSwathBody_refused bar fixed⟩

end Sys2Proof.Proofs.GeometryStaging

/-!
PROOFS. The staged commands of AXIS and TRIG (R147–R161, R179): for each command the change that its body stages and
the reasons for which it refuses, one equation per case; the settling theorem carries them through the exchange.
-/

namespace Sys2Proof.Proofs.AxisAndTriggerStaging

open Sys2Proof Sys2Proof.Machine Sys2Proof.Laws

variable {v : State} {rq : Request}

/-! ## AXIS.CONFIG and AXIS.ENABLE (R139, R153) -/

section AxisConfig

variable (ok : ∀ f ∈ axisFields rq.payload, f.1 = true)
include ok

theorem axisConfigBody_untimely (late : ssiTimingOk (axisOf rq.payload) = false) :
    axisConfigBody rq v = .refuse Rc.ssiTiming Cls.axis (fld rq.payload 0 1) [] :=
  (checked_ok ok).trans (if_pos (by simp [late]))

/-- Behind the timing of a frame, the lock of an axis in use decides. -/
theorem axisConfigBody_of_timing (timing : ssiTimingOk (axisOf rq.payload) = true) : axisConfigBody rq v
    = if v.axisInUse (fld rq.payload 0 1)
          && axisLockedChange (axisRec v.inForce (fld rq.payload 0 1)) (axisOf rq.payload) then
        .refuse Rc.axisFieldLocked Cls.axis (fld rq.payload 0 1) []
      else .stage (.axis (fld rq.payload 0 1) (axisOf rq.payload)) :=
  (checked_ok ok).trans (if_neg (by simp [timing]))

theorem axisConfigBody_stages (timing : ssiTimingOk (axisOf rq.payload) = true)
    (free : v.axisInUse (fld rq.payload 0 1) = true →
      axisLockedChange (axisRec v.inForce (fld rq.payload 0 1)) (axisOf rq.payload) = false) :
    axisConfigBody rq v = .stage (.axis (fld rq.payload 0 1) (axisOf rq.payload)) :=
  (axisConfigBody_of_timing ok timing).trans (if_neg (by simpa using free))

theorem axisConfigBody_locked (timing : ssiTimingOk (axisOf rq.payload) = true)
    (used : v.axisInUse (fld rq.payload 0 1) = true)
    (locked : axisLockedChange (axisRec v.inForce (fld rq.payload 0 1)) (axisOf rq.payload) = true) :
    axisConfigBody rq v = .refuse Rc.axisFieldLocked Cls.axis (fld rq.payload 0 1) [] :=
  (axisConfigBody_of_timing ok timing).trans (if_pos (by simp [used, locked]))

end AxisConfig

theorem axisEnableBody_stages (axis : fld rq.payload 0 1 < 8) (flag : fld rq.payload 1 1 < 2)
    (free : fld rq.payload 1 1 = 0 → v.axisInUse (fld rq.payload 0 1) = false) :
    axisEnableBody rq v = .stage (.axisEnable (fld rq.payload 0 1) (fld rq.payload 1 1 == 1)) :=
  (checked_ok (by simp [axis, flag])).trans (if_neg (by simpa using free))

theorem axisEnableBody_inUse (axis : fld rq.payload 0 1 < 8) (disables : fld rq.payload 1 1 = 0)
    (used : v.axisInUse (fld rq.payload 0 1) = true) :
    axisEnableBody rq v = .refuse Rc.axisInUse Cls.axis (fld rq.payload 0 1) [] :=
  (checked_ok (by simp [axis, disables])).trans (if_pos (by simp [disables, used]))

/-! ## AXIS.ECHO_SET and AXIS.WAKE_SET (R147, R152) -/

theorem axisEchoSetBody_stages (ok : ∀ f ∈ echoFields rq.payload, f.1 = true)
    (ratio : (echoOf rq.payload).ratioM ≤ (echoOf rq.payload).ratioN) :
    axisEchoSetBody rq v = .stage (.echo (fld rq.payload 0 1) (echoOf rq.payload)) :=
  (checked_ok ok).trans (if_neg (Nat.not_lt.mpr ratio))

theorem axisEchoSetBody_ratio (ok : ∀ f ∈ echoFields rq.payload, f.1 = true)
    (ratio : (echoOf rq.payload).ratioN < (echoOf rq.payload).ratioM) :
    axisEchoSetBody rq v = .refuse Rc.echoRatio Cls.echoOutput (fld rq.payload 0 1) [] :=
  (checked_ok ok).trans (if_pos ratio)

theorem axisWakeSetBody_stages (ok : ∀ f ∈ wakeFields rq.payload, f.1 = true)
    (counted : ∀ k < 8, (wakeOf rq.payload).mask.getLsbD k = true → (axisRec (v.view rq.mbx.val) k).ssi = false) :
    axisWakeSetBody rq v = .stage (.wake (wakeOf rq.payload)) := by
  have no_ssi : (List.range 8).find? (fun n =>
      (wakeOf rq.payload).mask.getLsbD n && (axisRec (v.view rq.mbx.val) n).ssi) = none :=
    List.find?_eq_none.mpr fun k here => by simpa using counted k (List.mem_range.mp here)
  refine (checked_ok ok).trans ?_
  simp only [no_ssi]

/-! ## TRIG.CONFIG (R158) -/

theorem trigConfigBody_stages (ok : ∀ f ∈ trigFields rq.payload, f.1 = true)
    (free : v.tgEnabled (fld rq.payload 0 1) = true →
      (trigRec v.inForce (fld rq.payload 0 1)).sourceBar = (trigOfBytes rq.payload).sourceBar) :
    trigConfigBody rq v = .stage (.trig (fld rq.payload 0 1) (trigOfBytes rq.payload)) :=
  (checked_ok ok).trans (if_neg (by simpa using free))

theorem trigConfigBody_locked (ok : ∀ f ∈ trigFields rq.payload, f.1 = true)
    (enabled : v.tgEnabled (fld rq.payload 0 1) = true)
    (moved : (trigRec v.inForce (fld rq.payload 0 1)).sourceBar ≠ (trigOfBytes rq.payload).sourceBar) :
    trigConfigBody rq v = .refuse Rc.tgFieldLocked Cls.triggerGenerator (fld rq.payload 0 1) [] :=
  (checked_ok ok).trans (if_pos (by simp [enabled, moved]))

/-! ## TRIG.RUN_WRITE (R161) -/

section RunWrite

variable (generator : fld rq.payload 0 1 < 16) (first : fld rq.payload 2 2 < 1024) (some_ : 1 ≤ fld rq.payload 4 2)
  (few : fld rq.payload 4 2 ≤ 41)
include generator first some_ few

theorem trigRunWriteBody_stages (inside : fld rq.payload 2 2 + fld rq.payload 4 2 ≤ 1024)
    (entries : ∀ k < fld rq.payload 4 2, ∀ f ∈ runFields rq.payload (8 + 24 * k), f.1 = true) :
    trigRunWriteBody rq v = .stage (.run (fld rq.payload 0 1) (fld rq.payload 2 2)
      ((List.range (fld rq.payload 4 2)).map fun k => runOf rq.payload (8 + 24 * k))) := by
  refine (checked_ok (by simp [generator, first, some_, few])).trans
    ((if_neg (Nat.not_lt.mpr inside)).trans (checked_ok fun f here => ?_))
  obtain ⟨k, listed, field⟩ := List.mem_flatMap.mp here
  exact entries k (List.mem_range.mp listed) f field

theorem trigRunWriteBody_outside (outside : 1024 < fld rq.payload 2 2 + fld rq.payload 4 2) :
    trigRunWriteBody rq v = .refuse Rc.entryRange Cls.triggerGenerator (fld rq.payload 0 1) [] :=
  (checked_ok (by simp [generator, first, some_, few])).trans (if_pos outside)

end RunWrite

/-! ## All of them -/

/-- Settles O27: each clause is one case of the command's body. -/
theorem axesAndTriggersStage : Obligations.AxesAndTriggersStage := by
  unfold Obligations.AxesAndTriggersStage
  exact ⟨
    stages_of (fun _ _ _ => rfl) fun _ _ ⟨ok, timing, free⟩ => axisConfigBody_stages ok timing free,
    denies_of (fun _ _ _ => rfl) fun _ _ ⟨ok, late⟩ => axisConfigBody_untimely ok late,
    denies_of (fun _ _ _ => rfl) fun _ _ ⟨ok, timing, used, locked⟩ => axisConfigBody_locked ok timing used locked,
    stages_of (fun _ _ _ => rfl) fun _ _ ⟨axis, flag, free⟩ => axisEnableBody_stages axis flag free,
    denies_of (fun _ _ _ => rfl) fun _ _ ⟨axis, disables, used⟩ => axisEnableBody_inUse axis disables used,
    stages_of (fun _ _ _ => rfl) fun _ _ ⟨ok, ratio⟩ => axisEchoSetBody_stages ok ratio,
    denies_of (fun _ _ _ => rfl) fun _ _ ⟨ok, ratio⟩ => axisEchoSetBody_ratio ok ratio,
    stages_of (fun _ _ _ => rfl) fun _ _ ⟨ok, counted⟩ => axisWakeSetBody_stages ok counted,
    stages_of (fun _ _ _ => rfl) fun _ _ ⟨ok, free⟩ => trigConfigBody_stages ok free,
    denies_of (fun _ _ _ => rfl) fun _ _ ⟨ok, enabled, moved⟩ => trigConfigBody_locked ok enabled moved,
    stages_of (fun _ _ _ => rfl) fun _ _ ⟨generator, first, some_, few, inside, entries⟩ =>
      trigRunWriteBody_stages generator first some_ few inside entries,
    denies_of (fun _ _ _ => rfl) fun _ _ ⟨generator, first, some_, few, outside⟩ =>
      trigRunWriteBody_outside generator first some_ few outside,
    stages_of (fun _ _ _ => rfl) fun _ _ ⟨generator, entry⟩ => checked_ok (by simp [generator, entry]),
    stages_of (fun _ _ _ => rfl) fun _ _ ok => checked_ok ok⟩

end Sys2Proof.Proofs.AxisAndTriggerStaging

/-!
PROOFS. The actions of AXIS (R138, R144): what AXIS.PRESET and AXIS.CLEAR make of an axis, one equation per case of
the command's body; the settling theorem carries them through the exchange.
-/

namespace Sys2Proof.Proofs.AxisCommands

open Sys2Proof Sys2Proof.Machine Sys2Proof.Laws

variable {v : State} {rq : Request}

/-! ## What the commands ask of the pair -/

theorem inPair_iff : v.inPair = true ↔ v.pair.state = .paired ∨ v.pair.state = .syncing := by
  simp [State.inPair]

theorem inPair_eq_false_iff : v.inPair = false ↔ v.pair.state ≠ .paired ∧ v.pair.state ≠ .syncing := by
  simp [State.inPair]

@[simp] theorem follows_logOpen (q : LogReq) : (v.logOpen q).follows = v.follows := by
  simp [State.follows]

/-! ## AXIS.PRESET (R138) -/

theorem cancelPreset_unarmed {n : Nat} (o : Origin) (unarmed : (v.axis n).preset = none) : v.cancelPreset n o = v := by
  simp [State.cancelPreset, unarmed]

theorem axisPresetBody_inUse (axis : fld rq.payload 0 1 < 8) (mode : fld rq.payload 1 1 < 3)
    (used : v.axisInUse (fld rq.payload 0 1) = true) :
    axisPresetBody rq v = .refuse Rc.axisInUse Cls.axis (fld rq.payload 0 1) [] :=
  (checked_ok (by simp [axis, mode])).trans (if_pos used)

/-- The state once AT_INDEX has armed the axis of a request with its value. -/
def armed (rq : Request) (v : State) : State :=
  v.setAxis (fld rq.payload 0 1) { v.axis (fld rq.payload 0 1) with
    preset := some (BitVec.ofNat 32 (fld rq.payload 4 4), some rq.mbx.val) }

section PresetOfFreeAxis

variable (axis : fld rq.payload 0 1 < 8) (free : v.axisInUse (fld rq.payload 0 1) = false)
include axis free

theorem axisPresetBody_ssi (mode : fld rq.payload 1 1 < 3)
    (ssi : (axisRec v.inForce (fld rq.payload 0 1)).ssi = true) :
    axisPresetBody rq v = .refuse Rc.inputMismatch Cls.axis (fld rq.payload 0 1) [] :=
  (checked_ok (by simp [axis, mode])).trans ((if_neg (by simp [free])).trans (if_pos ssi))

variable (counts : (axisRec v.inForce (fld rq.payload 0 1)).ssi = false)
include counts

theorem axisPresetBody_now (now : fld rq.payload 1 1 = 0) (alone : v.pair.state ≠ .paired) :
    axisPresetBody rq v = .done ((v.setAxis (fld rq.payload 0 1)
      { presetAxis (v.axis (fld rq.payload 0 1)) (BitVec.ofNat 32 (fld rq.payload 4 4)) with
        preset := (v.axis (fld rq.payload 0 1)).preset }).logOpen
          { origin := .mbx rq.mbx.val, cls := Cls.axis, obj := fld rq.payload 0 1 }) [] := by
  rw [axisPresetBody, checked_ok (by simp [axis, now])]
  simp [free, counts, now, alone]

theorem axisPresetBody_needsIndex (now : fld rq.payload 1 1 = 0) (paired : v.pair.state = .paired) :
    axisPresetBody rq v = .refuse Rc.presetNeedsIndex Cls.axis (fld rq.payload 0 1) [] := by
  rw [axisPresetBody, checked_ok (by simp [axis, now])]
  simp [free, counts, now, paired, refuseObj]

/-- A unit of a pair tells its twin (R332). -/
theorem axisPresetBody_atIndex (atIndex : fld rq.payload 1 1 = 1) : axisPresetBody rq v
    = .done (if v.inPair then (armed rq v).emit
          (.control (.preset (fld rq.payload 0 1) (some (BitVec.ofNat 32 (fld rq.payload 4 4)))))
        else armed rq v) [] := by
  rw [axisPresetBody, checked_ok (by simp [axis, atIndex])]
  simp only [free, counts, atIndex]
  rfl

theorem axisPresetBody_cancels (cancel : fld rq.payload 1 1 = 2) : axisPresetBody rq v
    = .done (if v.inPair then (v.cancelPreset (fld rq.payload 0 1) (.mbx rq.mbx.val)).emit
          (.control (.preset (fld rq.payload 0 1) none))
        else v.cancelPreset (fld rq.payload 0 1) (.mbx rq.mbx.val)) [] := by
  rw [axisPresetBody, checked_ok (by simp [axis, cancel])]
  simp only [free, counts, cancel]
  rfl

end PresetOfFreeAxis

/-! ## AXIS.CLEAR (R137, R144, R155) -/

/-- The records of an axis once AXIS.CLEAR has restarted the index check (R137), and has zeroed the counters where
bit 0 of `what` asks for it. -/
def clearRecords (what : Nat) (a : Axis) : Axis :=
  let a := { a with prevIndex := none }
  if bit what 0 then { a with illegal := 0, mismatches := 0, ssiErrors := 0, indexMismatch := false } else a

theorem clearRecords_frame (what : Nat) (a : Axis) :
    (clearRecords what a).motion = a.motion ∧ (clearRecords what a).faultReason = a.faultReason := by
  unfold clearRecords
  split <;> exact ⟨rfl, rfl⟩

theorem clearRecords_two (a : Axis) : clearRecords 2 a = { a with prevIndex := none } := rfl

theorem clearRecords_three (a : Axis) : clearRecords 3 a
    = { a with prevIndex := none, illegal := 0, mismatches := 0, ssiErrors := 0, indexMismatch := false } := rfl

/-- An axis whose fault has been cleared, but for its motion: it is unreferenced (R144). -/
def clearFault (a : Axis) : Axis :=
  { a with referenced := false, faultReason := 0, ssiPrev := none, ssiConsec := 0, emptyWindows := 0, fresh := 0 }

/-- The state once AXIS.CLEAR has logged the clearing of a fault. -/
def logged (rq : Request) (v : State) : State :=
  v.logOpen { origin := .mbx rq.mbx.val, cls := Cls.axis, obj := fld rq.payload 0 1 }

section Clear

variable {what : Nat} (axis : fld rq.payload 0 1 < 8) (asks : fld rq.payload 1 1 = what)
include axis asks

theorem axisClearBody_records (one : what = 1) : axisClearBody rq v
    = .done (v.setAxis (fld rq.payload 0 1) (clearRecords what (v.axis (fld rq.payload 0 1)))) [] := by
  subst asks
  exact (checked_ok (by simp [axis, one])).trans (if_pos (by rw [one]; rfl))

variable (fault : what = 2 ∨ what = 3)
include fault

/-- Bit 1 of `what` clears a fault: of a unit S that follows its twin all but the motion (R332). -/
theorem axisClearBody_of_fault : axisClearBody rq v
    = if v.follows && ((v.axis (fld rq.payload 0 1)).motion == .faulted
          || (v.axis (fld rq.payload 0 1)).faultReason != 0) then
        .done ((logged rq v).setAxis (fld rq.payload 0 1)
          (clearFault (clearRecords what (v.axis (fld rq.payload 0 1))))) []
      else if (v.axis (fld rq.payload 0 1)).motion == .faulted then
        .done ((((logged rq v).setAxis (fld rq.payload 0 1)
          { clearFault (clearRecords what (v.axis (fld rq.payload 0 1))) with motion := .stopped }).noteMotion
            (fld rq.payload 0 1)).postMotion (fld rq.payload 0 1)) []
      else .done ((logged rq v).setAxis (fld rq.payload 0 1)
        (clearRecords what (v.axis (fld rq.payload 0 1)))) [] := by
  subst asks
  obtain ⟨motion, reason⟩ := clearRecords_frame (fld rq.payload 1 1) (v.axis (fld rq.payload 0 1))
  rw [← motion, ← reason, ← follows_logOpen
    { origin := .mbx rq.mbx.val, cls := Cls.axis, obj := fld rq.payload 0 1 }]
  refine (checked_ok ?_).trans (if_neg ?_)
  · obtain two | three := fault
    · simp [axis, two]
    · simp [axis, three]
  · obtain two | three := fault
    · rw [two]; decide
    · rw [three]; decide

theorem axisClearBody_sound (quiet : v.follows = true → (v.axis (fld rq.payload 0 1)).faultReason = 0)
    (sound : (v.axis (fld rq.payload 0 1)).motion ≠ .faulted) : axisClearBody rq v
    = .done ((logged rq v).setAxis (fld rq.payload 0 1) (clearRecords what (v.axis (fld rq.payload 0 1)))) [] :=
  (axisClearBody_of_fault axis asks fault).trans
    ((if_neg (by simpa [sound] using quiet)).trans (if_neg (by simpa using sound)))

theorem axisClearBody_faulted (own : v.follows = false)
    (faulted : (v.axis (fld rq.payload 0 1)).motion = .faulted) : axisClearBody rq v
    = .done ((((logged rq v).setAxis (fld rq.payload 0 1)
        { clearFault (clearRecords what (v.axis (fld rq.payload 0 1))) with motion := .stopped }).noteMotion
          (fld rq.payload 0 1)).postMotion (fld rq.payload 0 1)) [] :=
  (axisClearBody_of_fault axis asks fault).trans ((if_neg (by simp [own])).trans (if_pos (by simp [faulted])))

theorem axisClearBody_follower (follows : v.follows = true)
    (faulted : (v.axis (fld rq.payload 0 1)).motion = .faulted ∨ (v.axis (fld rq.payload 0 1)).faultReason ≠ 0) :
    axisClearBody rq v = .done ((logged rq v).setAxis (fld rq.payload 0 1)
      (clearFault (clearRecords what (v.axis (fld rq.payload 0 1))))) [] :=
  (axisClearBody_of_fault axis asks fault).trans (if_pos (by simpa [follows] using faulted))

end Clear

/-! ## All of them -/

open SystemCommands (logs_freely)

/-- Settles O32: each clause is one case of the command's body. -/
theorem axisCommandsAct : Obligations.AxisCommandsAct := by
  unfold Obligations.AxisCommandsAct
  exact ⟨
    acts_of (fun _ _ _ => rfl)
      (fun _ _ ⟨axis, free, counts, now, _, alone⟩ => axisPresetBody_now axis free counts now alone)
      (fun _ _ quiet => by simpa using quiet) (logs_freely fun _ _ ⟨_, _, _, _, free, _⟩ => free),
    denies_of (fun _ _ _ => rfl) fun _ _ ⟨axis, free, counts, now, paired⟩ =>
      axisPresetBody_needsIndex axis free counts now paired,
    acts_of (fun _ _ _ => rfl)
      (fun _ _ ⟨axis, free, counts, atIndex, alone⟩ => by
        rw [axisPresetBody_atIndex axis free counts atIndex, inPair_eq_false_iff.mpr alone]; rfl)
      (fun _ _ quiet => by simpa using quiet) (fun _ _ _ _ => ⟨rfl, rfl⟩),
    acts_of (fun _ _ _ => rfl)
      (fun _ _ ⟨axis, free, counts, atIndex, pair⟩ => by
        rw [axisPresetBody_atIndex axis free counts atIndex, inPair_iff.mpr pair]; rfl)
      (fun _ _ quiet => by simpa using quiet) (fun _ _ _ _ => ⟨rfl, rfl⟩),
    acts_of (fun _ _ _ => rfl)
      (fun _ _ ⟨axis, free, counts, cancel, unarmed, alone⟩ => by
        rw [axisPresetBody_cancels axis free counts cancel, inPair_eq_false_iff.mpr alone,
          cancelPreset_unarmed _ unarmed]; rfl)
      (fun _ _ quiet => quiet) (fun _ _ _ _ => ⟨rfl, rfl⟩),
    acts_of (fun _ _ _ => rfl)
      (fun _ _ ⟨axis, free, counts, cancel, _, alone⟩ => by
        rw [axisPresetBody_cancels axis free counts cancel, inPair_eq_false_iff.mpr alone]; rfl)
      (fun _ _ quiet => by simpa using quiet) (logs_freely fun _ _ ⟨_, _, _, _, free, _⟩ => free),
    acts_of (fun _ _ _ => rfl)
      (fun _ _ ⟨axis, free, counts, cancel, _, pair⟩ => by
        rw [axisPresetBody_cancels axis free counts cancel, inPair_iff.mpr pair]; rfl)
      (fun _ _ quiet => by simpa using quiet) (logs_freely fun _ _ ⟨_, _, _, _, free, _⟩ => free),
    denies_of (fun _ _ _ => rfl) fun _ _ ⟨axis, mode, used⟩ => axisPresetBody_inUse axis mode used,
    denies_of (fun _ _ _ => rfl) fun _ _ ⟨axis, mode, free, ssi⟩ => axisPresetBody_ssi axis free mode ssi,
    acts_of (fun _ _ _ => rfl) (fun _ _ ⟨axis, asks⟩ => axisClearBody_records (what := 1) axis asks rfl)
      (fun _ _ quiet => by simpa using quiet) (fun _ _ _ _ => ⟨rfl, rfl⟩),
    acts_of (fun _ _ _ => rfl)
      (fun _ _ ⟨axis, asks, _, quiet, sound⟩ => by
        rw [axisClearBody_sound axis asks (.inl rfl) quiet sound, clearRecords_two]; rfl)
      (fun _ _ quiet => by simpa using quiet) (logs_freely fun _ _ ⟨_, _, free, _⟩ => free),
    acts_of (fun _ _ _ => rfl)
      (fun _ _ ⟨axis, asks, _, quiet, sound⟩ => by
        rw [axisClearBody_sound axis asks (.inr rfl) quiet sound, clearRecords_three]; rfl)
      (fun _ _ quiet => by simpa using quiet) (logs_freely fun _ _ ⟨_, _, free, _⟩ => free),
    acts_of (fun _ _ _ => rfl)
      (fun _ _ ⟨axis, asks, _, own, faulted⟩ => by
        rw [axisClearBody_faulted axis asks (.inl rfl) own faulted, clearRecords_two]; rfl)
      (fun _ _ quiet => by simpa using quiet) (logs_freely fun _ _ ⟨_, _, free, _⟩ => free),
    acts_of (fun _ _ _ => rfl)
      (fun _ _ ⟨axis, asks, _, own, faulted⟩ => by
        rw [axisClearBody_faulted axis asks (.inr rfl) own faulted, clearRecords_three]; rfl)
      (fun _ _ quiet => by simpa using quiet) (logs_freely fun _ _ ⟨_, _, free, _⟩ => free),
    acts_of (fun _ _ _ => rfl)
      (fun _ _ ⟨axis, asks, _, follows, faulted⟩ => by
        rw [axisClearBody_follower axis asks (.inl rfl) follows faulted, clearRecords_two]; rfl)
      (fun _ _ quiet => by simpa using quiet) (logs_freely fun _ _ ⟨_, _, free, _⟩ => free),
    acts_of (fun _ _ _ => rfl)
      (fun _ _ ⟨axis, asks, _, follows, faulted⟩ => by
        rw [axisClearBody_follower axis asks (.inr rfl) follows faulted, clearRecords_three]; rfl)
      (fun _ _ quiet => by simpa using quiet) (logs_freely fun _ _ ⟨_, _, free, _⟩ => free)⟩

end Sys2Proof.Proofs.AxisCommands

/-!
PROOFS. The rows of the axes (R125–R152): what samples, windows, frames, holdoffs, echo steps and motion wake make of
the state.  One equation per case of an operation; the settling theorem at the end puts them together.
-/

namespace Sys2Proof.Proofs.AxisRows

open Sys2Proof Sys2Proof.Machine Sys2Proof.Laws

variable {v : State} {n : Nat}

/-! ## Counting leaves TIME as it is -/

@[simp] theorem postLimited_tick (k : EventKey) (b : EventBody) : (v.postLimited k b).tick = v.tick := by
  unfold State.postLimited
  split
  · exact post_tick v b
  · rfl

theorem echoCount_tick (k : Nat) (forward : Bool) : (v.echoCount k forward).tick = v.tick := by
  unfold State.echoCount
  extract_lets r e e1 e2
  split
  · rfl
  · split
    · exact post_tick _ _
    · rfl

theorem echoEdges_tick (axis : Nat) (forward : Bool) (k : Nat) : (v.echoEdges axis forward k).tick = v.tick := by
  induction k generalizing v with
  | zero => rfl
  | succ k ih =>
    rw [State.echoEdges, ih]
    refine SystemState.foldl_view State.tick _ (fun s k => ?_) _ _
    split
    · exact echoCount_tick k forward
    · rfl

theorem countEdge_tick (n : Nat) (d : Int) (ts : Nat) : (v.countEdge n d ts).tick = v.tick := by
  unfold State.countEdge
  extract_lets a positive c1 c2 c3 c s1 s2 s3
  have counted : s1.tick = v.tick := by simp [s1]
  have wrapped : s2.tick = s1.tick := by
    simp only [s2]
    split
    · exact postLimited_tick _ _
    · rfl
  have moved : s3.tick = s2.tick := by
    simp only [s3]
    split
    · exact postLimited_tick _ _
    · rfl
  rw [echoEdges_tick, moved, wrapped, counted]

/-! ## Samples of A and B (R125, R128, R129) -/

/-- The filtered level of A after its samples. -/
def levelAfterA (n : Nat) (a : List Bool) (v : State) : Bool :=
  filtered (axisRec v.inForce n).filterDepth (v.axis n).levelA a

/-- The filtered level of B after its samples. -/
def levelAfterB (n : Nat) (b : List Bool) (v : State) : Bool :=
  filtered (axisRec v.inForce n).filterDepth (v.axis n).levelB b

/-- The change of the counter that samples of A and B bring about, before `invert`. -/
def sampleDelta (n : Nat) (a b : List Bool) (v : State) : Option Int :=
  quadDelta (v.axis n).levelA (v.axis n).levelB (levelAfterA n a v) (levelAfterB n b v)

/-- The state once an axis has taken its samples of A and B. -/
def sampled (n : Nat) (a b : List Bool) (v : State) : State :=
  v.setAxis n { v.axis n with levelA := levelAfterA n a v, levelB := levelAfterB n b v }

/-- The tick at which an edge was at the input, before the filter (R125). -/
def edgeTick (n : Nat) (v : State) : Nat := v.tick - (axisRec v.inForce n).filterDepth

/-- The samples count an edge, which is recorded (R128, R332). -/
def sampledEdge (n : Nat) (a b : List Bool) (d : Int) (v : State) : State × Option StreamEdge :=
  let s := (sampled n a b v).countEdge n d (edgeTick n v)
  (s, some (s.recorded n (edgeTick n v) d))

/-- An axis that counts takes samples of its inputs while TIME runs. -/
theorem takesSamples (runs : v.axesRun = true) (counts : (axisRec v.inForce n).ssi = false)
    (on : (v.axis n).motion ≠ .disabled) :
    (!v.axesRun || (axisRec v.inForce n).ssi || (v.axis n).motion == .disabled) = false := by
  simp [runs, counts, on]

theorem quadratureEdge_gated (a b : List Bool) (gated : v.axesRun = false) : quadratureEdge n a b v = (v, none) := by
  simp [quadratureEdge, gated]

section Quadrature

variable {a b : List Bool} (runs : v.axesRun = true) (counts : (axisRec v.inForce n).ssi = false)
  (on : (v.axis n).motion ≠ .disabled)
include runs counts on

theorem quadratureEdge_still (still : sampleDelta n a b v = some 0) :
    quadratureEdge n a b v = (sampled n a b v, none) := by
  simp only [sampleDelta, levelAfterA, levelAfterB] at still
  simp only [quadratureEdge, takesSamples runs counts on, still]
  rfl

theorem quadratureEdge_illegal (illegal : sampleDelta n a b v = none) :
    quadratureEdge n a b v = ((sampled n a b v).illegalEdge n, none) := by
  simp only [sampleDelta, levelAfterA, levelAfterB] at illegal
  simp only [quadratureEdge, takesSamples runs counts on, illegal]
  rfl

theorem quadratureEdge_counts {d : Int} (delta : sampleDelta n a b v = some d) (moves : d ≠ 0) :
    quadratureEdge n a b v = sampledEdge n a b (if (axisRec v.inForce n).invert then -d else d) v := by
  simp only [sampleDelta, levelAfterA, levelAfterB] at delta
  -- by `moves` the change is no zero, and the match takes its last branch
  simp only [quadratureEdge, takesSamples runs counts on, delta, countEdge_tick]
  rfl

end Quadrature

/-! ## Samples of Z (R130, R138) -/

/-- The filtered level of Z after its samples. -/
def levelAfterZ (n : Nat) (z : List Bool) (v : State) : Bool :=
  filtered (axisRec v.inForce n).filterDepth (v.axis n).levelZ z

/-- An axis once it has taken its samples of Z. -/
def zSampled (n : Nat) (z : List Bool) (v : State) : Axis := { v.axis n with levelZ := levelAfterZ n z v }

theorem indexEvent_gated (z : List Bool) (gated : v.axesRun = false) : indexEvent n z v = v := by
  simp [indexEvent, gated]

section Index

variable {z : List Bool} (runs : v.axesRun = true) (counts : (axisRec v.inForce n).ssi = false)
  (on : (v.axis n).motion ≠ .disabled)
include runs counts on

theorem indexEvent_still (still : levelAfterZ n z v = (v.axis n).levelZ) :
    indexEvent n z v = v.setAxis n (zSampled n z v) := by
  have no_edge : (levelAfterZ n z v == (v.axis n).levelZ || levelAfterZ n z v == (v.axis n).reverse) = true := by
    simp [still]
  unfold levelAfterZ at no_edge
  simp only [indexEvent, takesSamples runs counts on, no_edge]
  rfl

variable (edge : levelAfterZ n z v ≠ (v.axis n).levelZ) (forward : levelAfterZ n z v ≠ (v.axis n).reverse)
include edge forward

/-- The first index event since the check restarted has nothing to be checked against (R137). -/
theorem indexEvent_first (unarmed : (v.axis n).preset = none) (first : (v.axis n).prevIndex = none) :
    indexEvent n z v = (v.setAxis n (zSampled n z v)).setAxis n { zSampled n z v with
      lastIndex := (v.axis n).counter, indexSeen := true
      prevIndex := some ((v.axis n).counter, (v.axis n).reverse) } := by
  simp only [levelAfterZ] at edge forward
  simp [indexEvent, runs, counts, on, edge, forward, unarmed, first, zSampled, levelAfterZ]

theorem indexEvent_presets {x : Word} {o : Option Nat} (armed : (v.axis n).preset = some (x, o)) :
    indexEvent n z v = ((v.setAxis n (zSampled n z v)).setAxis n { presetAxis (zSampled n z v) x with
      lastIndex := x, indexSeen := true, prevIndex := some (x, (v.axis n).reverse) }).presetDone n x 0
        (presetOrigin o) := by
  simp only [levelAfterZ] at edge forward
  simp [indexEvent, runs, counts, on, edge, forward, armed, zSampled, levelAfterZ]

end Index

/-! ## SSI frames (R139, R141, R142) -/

/-- The frame's first falling clock edge latches, and its clock leaves a unit that drives the ball. -/
theorem ssiLatch_own (own : v.follows = false) (drives : v.pinsHeld = false) :
    v.ssiLatch n = (v.setAxis n { v.axis n with ssiPhase := .shifting v.tick, lastEdge := v.tick }).emit
      (.ssiClock n v.tick (axisRec v.inForce n).ssiHalf (ssiBitsTotal (axisRec v.inForce n))) := by
  rw [State.ssiLatch, own]
  exact if_neg (by simpa [State.pinsHeld] using drives)

/-- Unit S keeps the timestamp of its twin (R332). -/
theorem ssiLatch_follower (follows : v.follows = true) (held : v.pinsHeld = true) :
    v.ssiLatch n = v.setAxis n { v.axis n with ssiPhase := .shifting v.tick } := by
  rw [State.ssiLatch, follows]
  exact if_pos (by simpa [State.pinsHeld] using held)

theorem ssiFrameStart_gated (d : Bool) (gated : v.axesRun = false) : ssiFrameStart n d v = v := by
  simp [ssiFrameStart, gated]

theorem ssiFrameStart_due (d : Bool) (runs : v.axesRun = true) (ssi : (axisRec v.inForce n).ssi = true)
    (on : (v.axis n).motion ≠ .disabled) (idle : (v.axis n).ssiPhase = .idle)
    (due : v.tick % (axisRec v.inForce n).ssiFrame = 0) (ready : (v.axis n).ssiReady ≤ v.tick) :
    ssiFrameStart n d v
      = if d then v.ssiLatch n else v.setAxis n { v.axis n with ssiPhase := .waiting v.tick } :=
  if_pos (by simp [runs, ssi, on, idle, due, ready])

theorem ssiDataHigh_intime {t : Nat} (runs : v.axesRun = true) (waits : (v.axis n).ssiPhase = .waiting t)
    (intime : v.tick < t + (axisRec v.inForce n).ssiTimeout * 400) : ssiDataHigh n v = v.ssiLatch n := by
  simp [ssiDataHigh, waits, runs, intime]

/-- The data line stayed low past the timeout. -/
theorem ssiFrameEnd_timeout (bits : List Bool) (endLow : Bool) {t : Nat} (runs : v.axesRun = true)
    (waits : (v.axis n).ssiPhase = .waiting t) (late : t + (axisRec v.inForce n).ssiTimeout * 400 ≤ v.tick) :
    ssiFrameEnd n bits endLow v = ((v.setAxis n { v.axis n with ssiPhase := .idle }).ssiFail n 1, none) := by
  simp [ssiFrameEnd, waits, runs, Nat.not_lt.mpr late]

/-- An axis once the frame that latched at `t` has been shifted in. -/
def shiftedIn (n : Nat) (bits : List Bool) (t : Nat) (v : State) : Axis :=
  { v.axis n with
    ssiPhase := .idle
    ssiReady := t + 2 * (axisRec v.inForce n).ssiHalf * (ssiBitsTotal (axisRec v.inForce n) + 1)
      + (axisRec v.inForce n).ssiRecovery
    ssiRaw := BitVec.ofNat 64 (ofBits bits) }

/-- The state once the first good frame has set the counter. -/
def firstFrame (n : Nat) (bits : List Bool) (t : Nat) (v : State) : State :=
  (v.setAxis n (shiftedIn n bits t v)).setAxis n { shiftedIn n bits t v with
    ssiConsec := 0, counter := BitVec.ofNat 32 (ssiValue (axisRec v.inForce n) bits), wraps := 0, referenced := true
    ssiPrev := some (ssiValue (axisRec v.inForce n) bits) }

/-- The state once a good frame has counted `d` from the one before it. -/
def nextFrame (n : Nat) (bits : List Bool) (t : Nat) (d : Int) (v : State) : State :=
  ((v.setAxis n (shiftedIn n bits t v)).setAxis n { shiftedIn n bits t v with
    ssiConsec := 0, ssiPrev := some (ssiValue (axisRec v.inForce n) bits) }).countEdge n d t

section FrameEnd

variable {bits : List Bool} {endLow : Bool} {t : Nat} (runs : v.axesRun = true)
  (shifts : (v.axis n).ssiPhase = .shifting t)
  (ended : t + 2 * (axisRec v.inForce n).ssiHalf * (ssiBitsTotal (axisRec v.inForce n) + 1)
    + (axisRec v.inForce n).ssiSample ≤ v.tick)
  (whole : bits.length = ssiBitsTotal (axisRec v.inForce n))
include runs shifts ended whole

theorem ssiFrameEnd_defect {k : Nat} (bad : ssiDefect (axisRec v.inForce n) (v.axis n).ssiPrev bits endLow = some k) :
    ssiFrameEnd n bits endLow v = ((v.setAxis n (shiftedIn n bits t v)).ssiFail n k, none) := by
  simp [ssiFrameEnd, shifts, runs, Nat.not_lt.mpr ended, whole, bad, shiftedIn]

variable (good : ssiDefect (axisRec v.inForce n) (v.axis n).ssiPrev bits endLow = none)
  (sound : (v.axis n).motion ≠ .faulted)
include good sound

theorem ssiFrameEnd_first (first : (v.axis n).ssiPrev = none) : ssiFrameEnd n bits endLow v
    = (firstFrame n bits t v, some ((firstFrame n bits t v).recorded n t 0)) := by
  rw [first] at good
  simp [ssiFrameEnd, shifts, runs, Nat.not_lt.mpr ended, whole, good, sound, first, firstFrame, shiftedIn]

theorem ssiFrameEnd_next {p : Nat} {d : Int} (prev : (v.axis n).ssiPrev = some p)
    (delta : ahead (axisRec v.inForce n).ssiBits p (ssiValue (axisRec v.inForce n) bits) = d) (moves : d ≠ 0) :
    ssiFrameEnd n bits endLow v
      = (nextFrame n bits t d v, some ((nextFrame n bits t d v).recorded n t d)) := by
  rw [prev] at good
  simp [ssiFrameEnd, shifts, runs, Nat.not_lt.mpr ended, whole, good, sound, prev, delta, moves, nextFrame, shiftedIn]

end FrameEnd

/-! ## Speed windows (R134, R135) -/

theorem speedWindowEnd_gated (gated : v.axesRun = false) : speedWindowEnd n v = v := by
  simp [speedWindowEnd, gated]

/-- An axis once a whole window has ended, and the next has begun. -/
def windowPassed (n empty : Nat) (m : Motion) (v : State) : Axis :=
  { v.axis n with
    speed := windowSpeed (v.axis n).windowNet (v.axis n).windowLen, doneLen := (v.axis n).windowLen
    doneNet := (v.axis n).windowNet, emptyWindows := empty, windowNet := 0, windowEdges := 0, windowIllegal := 0
    windowWhole := true, windowLen := (axisRec v.inForce n).speedWindow
    windowEnd := (v.axis n).windowEnd + (axisRec v.inForce n).speedWindow * 400, motion := m }

section Window

variable (runs : v.axesRun = true) (moves : (v.axis n).motion = .forward) (due : (v.axis n).windowEnd ≤ v.tick)
  (whole : (v.axis n).windowWhole = true)
include runs moves due whole

theorem speedWindowEnd_edges (edges : (v.axis n).windowEdges ≠ 0) :
    speedWindowEnd n v = v.setAxis n (windowPassed n 0 .forward v) := by
  simp [speedWindowEnd, windowPassed, runs, moves, Nat.not_lt.mpr due, whole, edges]

/-- Two windows without an edge stop the axis (R135). -/
theorem speedWindowEnd_stops (still : (v.axis n).windowEdges = 0) (before : 1 ≤ (v.axis n).emptyWindows)
    (own : v.follows = false) : speedWindowEnd n v
      = ((v.setAxis n (windowPassed n ((v.axis n).emptyWindows + 1) .stopped v)).noteMotion n).postMotion n := by
  simp [speedWindowEnd, windowPassed, runs, moves, Nat.not_lt.mpr due, whole, still, before, own]

end Window

/-! ## Holdoffs (R133) -/

section Holdoff

variable {k : EventKey} {h : Holdoff} (found : v.holdoffs.find? (fun h => h.key == k) = some h)
  (due : h.until_ ≤ v.aon)
include found due

theorem eventHoldoffExpiry_quiet (quiet : h.waiting = none) :
    eventHoldoffExpiry k v = { v with holdoffs := v.holdoffs.filter (fun x => x.key != k) } := by
  simp [eventHoldoffExpiry, found, Nat.not_lt.mpr due, quiet]

theorem eventHoldoffExpiry_posts {b : EventBody} (waits : h.waiting = some b) (changed : v.currentBody k b ≠ h.last) :
    eventHoldoffExpiry k v = { v.post (v.currentBody k b) with
      holdoffs := v.holdoffs.filter (fun x => x.key != k)
        ++ [{ key := k, until_ := v.aon + holdoffTicks, last := v.currentBody k b, waiting := none }] } := by
  simp [eventHoldoffExpiry, found, Nat.not_lt.mpr due, waits, changed]

end Holdoff

/-! ## Echo outputs (R149) -/

/-- The state once an output has stepped to `e`, with `left` steps pending. -/
def stepped (k : Nat) (e : Fin 4) (left : Int) (v : State) : State :=
  (v.setEcho k { v.echo k with state := e, lastStep := v.tick, pending := left }).emit
    (.echo k (echoPins e).1 (echoPins e).2)

section Echo

variable {k : Nat} (runs : v.axesRun = true) (enabled : (echoRec v.inForce k).enable = true)
  (on : (v.echo k).stopped = false) (spaced : (v.echo k).lastStep + (echoRec v.inForce k).minEdge ≤ v.tick)
  (settled : (v.echo k).since + 3 ≤ v.tick) (drives : v.pinsHeld = false)
include runs enabled on spaced settled drives

/-- Once the spacing allows, the sign of the pending count gives the direction. -/
theorem echoStep_due (pending : (v.echo k).pending ≠ 0) : echoStep k v
    = stepped k (if 0 < (v.echo k).pending then (v.echo k).state + 1 else (v.echo k).state - 1)
        (if 0 < (v.echo k).pending then (v.echo k).pending - 1 else (v.echo k).pending + 1) v := by
  refine (if_pos ?_).trans (if_neg ?_)
  · simp [runs, enabled, on, pending, spaced, settled]
  · simpa [State.pinsHeld] using drives

theorem echoStep_forward (forward : 0 < (v.echo k).pending) :
    echoStep k v = stepped k ((v.echo k).state + 1) ((v.echo k).pending - 1) v := by
  rw [echoStep_due runs enabled on spaced settled drives forward.ne', if_pos forward, if_pos forward]

theorem echoStep_back (back : (v.echo k).pending < 0) :
    echoStep k v = stepped k ((v.echo k).state - 1) ((v.echo k).pending + 1) v := by
  rw [echoStep_due runs enabled on spaced settled drives back.ne, if_neg back.not_gt, if_neg back.not_gt]

end Echo

/-! ## Motion wake (R152) -/

/-- The state once a transition of an axis has counted in its window. -/
def wakeCounted (n : Nat) (v : State) : State :=
  v.setAxis n { v.axis n with wakeCount := (v.axis n).wakeCount + 1 }

section MotionWake

variable (gated : v.timeRuns = false) (ready : v.sys = .ready) (wakes : v.power.wakeAxes.getLsbD n = true)
include gated ready wakes

theorem motionWakeTransition_counts (other : (v.axis n).wakeCount + 1 ≠ v.inForce.wake.edges) :
    motionWakeTransition n v = wakeCounted n v :=
  (if_neg (by simp [gated, ready, wakes])).trans (if_neg fun reached => other reached.1)

/-- A lower axis that wakes at the same AON tick is the one named. -/
theorem motionWakeTransition_yields (lower : (wakeCounted n v).lowerAxisWakes n = true) :
    motionWakeTransition n v = wakeCounted n v := by
  refine (if_neg (by simp [gated, ready, wakes])).trans (if_neg fun ⟨_, _, _, lowest⟩ => ?_)
  rw [wakeCounted] at lower
  simp [lower] at lowest

theorem motionWakeTransition_wakes (reached : (v.axis n).wakeCount + 1 = v.inForce.wake.edges)
    (source : v.inForce.power.wakeMask.getLsbD 1 = true) (first : v.power.waking = none)
    (lowest : (wakeCounted n v).lowerAxisWakes n = false) :
    motionWakeTransition n v = ((v.setAxis n { v.axis n with wakeCount := v.inForce.wake.edges }).post
      (ev Ev.axisWake Cls.axis n 0 (v.inForce.wake.edges % 65536))).startWake 2 := by
  rw [← reached]
  refine (if_neg (by simp [gated, ready, wakes])).trans (if_pos ⟨reached, source, ?_, ?_⟩)
  · simp [first]
  · rw [wakeCounted] at lowest
    simp [lowest]

end MotionWake

theorem wakeWindowEnd_due (gated : v.timeRuns = false) (ready : v.sys = .ready) (window : v.inForce.wake.window ≠ 0)
    (due : v.wakeAt + v.inForce.wake.window * 1024 ≤ v.aon) : wakeWindowEnd v = { v with
      wakeAt := v.wakeAt + (v.aon - v.wakeAt) / (v.inForce.wake.window * 1024) * (v.inForce.wake.window * 1024)
      axes := v.axes.map (fun (x : Nat × Axis) => (x.1, { x.2 with wakeCount := 0 })) } :=
  if_neg (by simp [gated, ready, window, Nat.not_lt.mpr due])

/-! ## The rows -/

/-- QUADRATURE_EDGE at its moment. -/
def quadratureRow (n : Nat) (a b : List Bool) (v : State) : State := State.afterSample n v (quadratureEdge n a b v)

/-- SSI_FRAME_END at its moment. -/
def frameEndRow (n : Nat) (bits : List Bool) (endLow : Bool) (v : State) : State :=
  State.afterSample n v (ssiFrameEnd n bits endLow v)

/-- Settles O49: each row is its operation at the row's moment, and each clause is one case of that operation. -/
theorem axisRows : Obligations.AxisRows := by
  unfold Obligations.AxisRows
  exact ⟨
    fun n a b => happens_of (f := quadratureRow n.val a b) (fun _ _ => rfl)
      fun v ⟨runs, counts, on, still⟩ =>
        congrArg (State.afterSample n.val v) (quadratureEdge_still runs counts on still),
    fun n a b => happens_of (f := quadratureRow n.val a b) (fun _ _ => rfl)
      fun v ⟨runs, counts, on, illegal⟩ =>
        congrArg (State.afterSample n.val v) (quadratureEdge_illegal runs counts on illegal),
    fun n a b d => happens_of (f := quadratureRow n.val a b) (fun _ _ => rfl)
      fun v ⟨runs, counts, on, delta, moves, straight⟩ => by
        rw [quadratureRow, quadratureEdge_counts runs counts on delta moves, straight]; rfl,
    fun n a b d => happens_of (f := quadratureRow n.val a b) (fun _ _ => rfl)
      fun v ⟨runs, counts, on, delta, moves, inverted⟩ => by
        rw [quadratureRow, quadratureEdge_counts runs counts on delta moves, inverted]; rfl,
    fun n a b => happens_of (f := quadratureRow n.val a b) (fun _ _ => rfl)
      fun v gated => congrArg (State.afterSample n.val v) (quadratureEdge_gated a b gated),
    fun n z => happens_of (f := indexEvent n.val z) (fun _ _ => rfl)
      fun _ ⟨runs, counts, on, still⟩ => indexEvent_still runs counts on still,
    fun n z => happens_of (f := indexEvent n.val z) (fun _ _ => rfl)
      fun _ ⟨runs, counts, on, edge, forward, unarmed, first⟩ =>
        indexEvent_first runs counts on edge forward unarmed first,
    fun n z _ _ => happens_of (f := indexEvent n.val z) (fun _ _ => rfl)
      fun _ ⟨runs, counts, on, edge, forward, armed⟩ => indexEvent_presets runs counts on edge forward armed,
    fun n z => happens_of (f := indexEvent n.val z) (fun _ _ => rfl) fun _ gated => indexEvent_gated z gated,
    fun n => happens_of (f := ssiFrameStart n.val false) (fun _ _ => rfl)
      fun _ ⟨runs, ssi, on, idle, due, ready⟩ => ssiFrameStart_due false runs ssi on idle due ready,
    fun n => happens_of (f := ssiFrameStart n.val true) (fun _ _ => rfl)
      fun _ ⟨runs, ssi, on, idle, due, ready, own, drives⟩ =>
        (ssiFrameStart_due true runs ssi on idle due ready).trans (ssiLatch_own own drives),
    fun n d => happens_of (f := ssiFrameStart n.val d) (fun _ _ => rfl) fun _ gated => ssiFrameStart_gated d gated,
    fun n l e _ => happens_of (f := frameEndRow n.val l e) (fun _ _ => rfl)
      fun v ⟨runs, waits, late⟩ =>
        congrArg (State.afterSample n.val v) (ssiFrameEnd_timeout l e runs waits late),
    fun n l e _ _ => happens_of (f := frameEndRow n.val l e) (fun _ _ => rfl)
      fun v ⟨runs, shifts, ended, whole, bad⟩ =>
        congrArg (State.afterSample n.val v) (ssiFrameEnd_defect runs shifts ended whole bad),
    fun n l e _ => happens_of (f := frameEndRow n.val l e) (fun _ _ => rfl)
      fun v ⟨runs, shifts, ended, whole, good, sound, first⟩ =>
        congrArg (State.afterSample n.val v) (ssiFrameEnd_first runs shifts ended whole good sound first),
    fun n l e _ _ => happens_of (f := frameEndRow n.val l e) (fun _ _ => rfl)
      fun v ⟨runs, shifts, ended, whole, good, sound, prev, moves⟩ =>
        congrArg (State.afterSample n.val v) (ssiFrameEnd_next runs shifts ended whole good sound prev rfl moves),
    fun n _ => happens_of (f := ssiDataHigh n.val) (fun _ _ => rfl)
      fun _ ⟨runs, waits, intime, own, drives⟩ =>
        (ssiDataHigh_intime runs waits intime).trans (ssiLatch_own own drives),
    fun n _ => happens_of (f := ssiDataHigh n.val) (fun _ _ => rfl)
      fun _ ⟨runs, waits, intime, follows, held⟩ =>
        (ssiDataHigh_intime runs waits intime).trans (ssiLatch_follower follows held),
    fun n => happens_of (f := speedWindowEnd n.val) (fun _ _ => rfl)
      fun _ ⟨runs, moves, due, whole, edges⟩ => speedWindowEnd_edges runs moves due whole edges,
    fun n => happens_of (f := speedWindowEnd n.val) (fun _ _ => rfl)
      fun _ ⟨runs, moves, due, whole, still, before, own⟩ =>
        speedWindowEnd_stops runs moves due whole still before own,
    fun n => happens_of (f := speedWindowEnd n.val) (fun _ _ => rfl) fun _ gated => speedWindowEnd_gated gated,
    fun k _ => happens_of (f := eventHoldoffExpiry k) (fun _ _ => rfl)
      fun _ ⟨found, due, quiet⟩ => eventHoldoffExpiry_quiet found due quiet,
    fun k _ _ => happens_of (f := eventHoldoffExpiry k) (fun _ _ => rfl)
      fun _ ⟨found, due, waits, changed⟩ => eventHoldoffExpiry_posts found due waits changed,
    fun k => happens_of (f := echoStep k.val) (fun _ _ => rfl)
      fun _ ⟨runs, enabled, on, forward, spaced, settled, drives⟩ =>
        echoStep_forward runs enabled on spaced settled drives forward,
    fun k => happens_of (f := echoStep k.val) (fun _ _ => rfl)
      fun _ ⟨runs, enabled, on, back, spaced, settled, drives⟩ =>
        echoStep_back runs enabled on spaced settled drives back,
    fun n => happens_of (f := motionWakeTransition n.val) (fun _ _ => rfl)
      fun _ ⟨gated, ready, wakes, other⟩ => motionWakeTransition_counts gated ready wakes other,
    fun n => happens_of (f := motionWakeTransition n.val) (fun _ _ => rfl)
      fun _ ⟨gated, ready, wakes, reached, source, first, lowest⟩ =>
        motionWakeTransition_wakes gated ready wakes reached source first lowest,
    fun n => happens_of (f := motionWakeTransition n.val) (fun _ _ => rfl)
      fun _ ⟨gated, ready, wakes, lower⟩ => motionWakeTransition_yields gated ready wakes lower,
    happens_of (f := wakeWindowEnd) (fun _ _ => rfl)
      fun _ ⟨gated, ready, window, due⟩ => wakeWindowEnd_due gated ready window due⟩

end Sys2Proof.Proofs.AxisRows

/-!
PROOFS. The reports of TRIG and WAVE (R182, R208): what each command's body answers once its fields are in range, and
where the fields of its payload lie.
-/

namespace Sys2Proof.Proofs.TriggerReports

open Sys2Proof Sys2Proof.Machine Sys2Proof.Laws

variable {v : State} {rq : Request}

/-! ## TRIG.GET (R182) -/

/-- What TRIG.GET answers for the kind `w`: the record that the request names, in the layout of its SET command. -/
def trigReport (rq : Request) (v : State) (w : Nat) : List Byte :=
  let id := fld rq.payload 2 2
  let cfg := v.readCfg rq
  match w with
  | 0 => trigBytes id (trigRec cfg id)
  | 1 => runBytes (runRec cfg (id / 1024) (id % 1024))
  | _ => trigoutBytes id (trigoutRec cfg id)

theorem trigGetBody_eq (kind : fld rq.payload 0 1 < 3)
    (inside : fld rq.payload 2 2 < if fld rq.payload 0 1 = 0 then 16 else if fld rq.payload 0 1 = 1 then 16384 else 8) :
    trigGetBody rq v = .done v (trigReport rq v (fld rq.payload 0 1)) := by
  refine checked_ok ?_
  simp only [List.forall_mem_cons, kind, decide_true, decide_eq_true_eq, true_and]
  refine ⟨?_, by simp⟩
  -- kind by kind, the two bounds are one number
  generalize fld rq.payload 0 1 = w at kind inside ⊢
  interval_cases w <;> exact inside

/-! ## WAVE.GET (R208) -/

/-- What WAVE.GET answers for the kind `w`: the record that the request names, in the layout of its SET command. -/
def waveReport (rq : Request) (v : State) (w : Nat) : List Byte :=
  let sub := fld rq.payload 1 1
  let id := fld rq.payload 2 2
  let cfg := v.readCfg rq
  match w with
  | 0 => waveBytes id (waveRec cfg id)
  | 1 => profileBytes id sub (profileRec cfg id sub)
  | 2 => waveBarBytes id (waveBarRec cfg id)
  | 3 => channelBytes id (channelRec cfg id)
  | 4 => dacBytes id (dacRec cfg id)
  | _ => curveBytes id sub (cfg.curves.get {} (id * 2 + sub))

theorem waveGetBody_eq (kind : fld rq.payload 0 1 < 6)
    (sub : fld rq.payload 1 1 < if fld rq.payload 0 1 = 1 then 4 else if fld rq.payload 0 1 = 5 then 2 else 1)
    (inside : fld rq.payload 2 2 < if fld rq.payload 0 1 = 0 then 256 else if fld rq.payload 0 1 < 3 then 16
      else if fld rq.payload 0 1 = 3 then 128 else if fld rq.payload 0 1 = 4 then 8 else 136) :
    waveGetBody rq v = .done v (waveReport rq v (fld rq.payload 0 1)) := by
  refine checked_ok ?_
  simp only [List.forall_mem_cons, kind, decide_true, decide_eq_true_eq, true_and]
  refine ⟨?_, ?_, by simp⟩
  -- kind by kind, the bounds of the clause and of the body are one number
  all_goals generalize fld rq.payload 0 1 = w at kind sub inside ⊢
  · interval_cases w <;> exact sub
  · interval_cases w <;> exact inside

/-! ## All of them -/

/-- Settles O20: each report leaves the state; its payload is laid out field by field, or is the record asked for. -/
theorem triggerAndWaveReadsAnswer : Obligations.TriggerAndWaveReadsAnswer := by
  unfold Obligations.TriggerAndWaveReadsAnswer
  refine ⟨
    reads_of (fun _ _ _ => rfl) rfl fun _ _ generator => ⟨_, checked_ok (by simp [generator]), by simp, ?_⟩,
    reads_of (fun _ _ _ => rfl) rfl fun _ _ ⟨kind, inside⟩ => ⟨_, trigGetBody_eq kind inside, ?_⟩,
    reads_of (fun _ _ _ => rfl) rfl fun _ _ ⟨kind, sub, inside⟩ => ⟨_, waveGetBody_eq kind sub inside, ?_⟩,
    reads_of (fun _ _ _ => rfl) rfl fun rq _ ⟨kind, inside⟩ => ?_⟩
  · simp [fld_left, fld_right, fld_le]
  · and_intros <;> (intro what; rw [what]; rfl)
  · and_intros <;> (intro what; rw [what]; rfl)
  · obtain channel | bar : fld rq.payload 0 1 = 0 ∨ fld rq.payload 0 1 = 1 := by omega
    · rw [if_pos channel] at inside
      refine ⟨_, (checked_ok (by simp [channel, inside])).trans (if_neg (by simp [channel])),
        fun bar => ?_, fun _ => ?_⟩
      · exact absurd (channel.symm.trans bar) (by decide)
      · simp [Laid, fld_left, fld_right, fld_le, fld_leInt]
    · rw [if_neg (by simp [bar])] at inside
      refine ⟨_, (checked_ok (by simp [bar, inside])).trans (if_pos bar), fun _ => ?_, fun channel => ?_⟩
      · simp [Laid, fld_left, fld_right, fld_le]
      · exact absurd (channel.symm.trans bar) (by decide)

end Sys2Proof.Proofs.TriggerReports

/-!
PROOFS. The actions of TRIG and WAVE (R176, R177, R182, R208): a burst of spits, the end of dry hold, and the clearing
of counters, one equation per case of a command's body; the settling theorem carries them through the exchange.
-/

namespace Sys2Proof.Proofs.TriggerCommands

open Sys2Proof Sys2Proof.Machine Sys2Proof.Laws

variable {v : State} {rq : Request}

/-! ## TRIG.SPIT (R177) -/

section Spit

variable (generator : fld rq.payload 0 1 < 16) (some_ : 1 ≤ fld rq.payload 2 2) (spaced : 3120 ≤ fld rq.payload 4 4)
include generator some_ spaced

theorem trigSpitBody_disabled (disabled : v.tgEnabled (fld rq.payload 0 1) = false) :
    trigSpitBody rq v = .refuse Rc.tgNotEnabled Cls.triggerGenerator (fld rq.payload 0 1) [] :=
  (checked_ok (by simp [generator, some_, spaced])).trans (if_pos (by simp [disabled]))

variable (enabled : v.tgEnabled (fld rq.payload 0 1) = true)
include enabled

theorem trigSpitBody_moving
    (moves : v.barMotion (trigRec v.inForce (fld rq.payload 0 1)).sourceBar = .forward
      ∨ v.barMotion (trigRec v.inForce (fld rq.payload 0 1)).sourceBar = .settling) :
    trigSpitBody rq v = .refuse Rc.barMoving Cls.triggerGenerator (fld rq.payload 0 1) [] :=
  (checked_ok (by simp [generator, some_, spaced])).trans
    ((if_neg (by simp [enabled])).trans (if_pos (by simpa using moves)))

variable (halts : v.barMotion (trigRec v.inForce (fld rq.payload 0 1)).sourceBar ≠ .forward)
  (settled : v.barMotion (trigRec v.inForce (fld rq.payload 0 1)).sourceBar ≠ .settling)
include halts settled

/-- On a bar that stands, a burst under way decides. -/
theorem trigSpitBody_still : trigSpitBody rq v
    = if (v.trig (fld rq.payload 0 1)).burst.isSome then .refuse Rc.busy 0 0 []
      else .accept (v.setTrig (fld rq.payload 0 1) { v.trig (fld rq.payload 0 1) with
        burst := some { waiter := v.waiterOf rq 0x0405, left := fld rq.payload 2 2
                        interval := fld rq.payload 4 4 } }) :=
  (checked_ok (by simp [generator, some_, spaced])).trans
    ((if_neg (by simp [enabled])).trans (if_neg (by simp [halts, settled])))

end Spit

/-! ## TRIG.SPIT_RESUME (R176) -/

section SpitResume

variable (generator : fld rq.payload 0 1 < 16)
include generator

theorem trigSpitResumeBody_disabled (disabled : v.tgEnabled (fld rq.payload 0 1) = false) :
    trigSpitResumeBody rq v = .refuse Rc.tgNotEnabled Cls.triggerGenerator (fld rq.payload 0 1) [] :=
  (checked_ok (by simp [generator])).trans (if_pos (by simp [disabled]))

variable (enabled : v.tgEnabled (fld rq.payload 0 1) = true)
include enabled

theorem trigSpitResumeBody_notHeld
    (wet : (v.rbar (v.inForce.sourceBar (fld rq.payload 0 1))).dryHold = false) :
    trigSpitResumeBody rq v = .refuse Rc.notHeld Cls.triggerGenerator (fld rq.payload 0 1) [] :=
  (checked_ok (by simp [generator])).trans ((if_neg (by simp [enabled])).trans (if_pos (by simp [wet])))

variable (held : (v.rbar (v.inForce.sourceBar (fld rq.payload 0 1))).dryHold = true)
include held

/-- On a bar in dry hold, a spit since the hold began decides. -/
theorem trigSpitResumeBody_held : trigSpitResumeBody rq v
    = if !(v.rbar (v.inForce.sourceBar (fld rq.payload 0 1))).spitSince then
        .refuse Rc.spitRequired Cls.triggerGenerator (fld rq.payload 0 1) []
      else .done ((v.setRbar (v.inForce.sourceBar (fld rq.payload 0 1))
        { v.rbar (v.inForce.sourceBar (fld rq.payload 0 1)) with
          dryHold := false, dryRisk := false, spitSince := false }).trigoutLevels.logOpen
            { origin := .mbx rq.mbx.val, cls := Cls.triggerGenerator, obj := fld rq.payload 0 1 }) [] :=
  (checked_ok (by simp [generator])).trans ((if_neg (by simp [enabled])).trans (if_neg (by simp [held])))

end SpitResume

/-! ## All of them -/

open SystemCommands (logs_freely)

/-- Settles O33: each clause is one case of the command's body. -/
theorem triggerAndWaveformCommandsAct : Obligations.TriggerAndWaveformCommandsAct := by
  unfold Obligations.TriggerAndWaveformCommandsAct
  exact ⟨
    accepts_of (fun _ _ _ => rfl)
      (fun _ _ ⟨generator, some_, spaced, enabled, halts, settled, free⟩ =>
        (trigSpitBody_still generator some_ spaced enabled halts settled).trans (if_neg (by simp [free])))
      (fun _ _ quiet => by simpa using quiet) (fun _ _ _ _ => ⟨rfl, rfl⟩),
    denies_of (fun _ _ _ => rfl) fun _ _ ⟨generator, some_, spaced, disabled⟩ =>
      trigSpitBody_disabled generator some_ spaced disabled,
    denies_of (fun _ _ _ => rfl) fun _ _ ⟨generator, some_, spaced, enabled, moves⟩ =>
      trigSpitBody_moving generator some_ spaced enabled moves,
    denies_of (fun _ _ _ => rfl) fun _ _ ⟨generator, some_, spaced, enabled, halts, settled, busy⟩ =>
      (trigSpitBody_still generator some_ spaced enabled halts settled).trans
        (if_pos (Option.isSome_iff_ne_none.mpr busy)),
    acts_of (fun _ _ _ => rfl)
      (fun _ _ ⟨generator, _, enabled, held, spat⟩ =>
        (trigSpitResumeBody_held generator enabled held).trans (if_neg (by simp [spat])))
      (fun _ _ quiet => by simpa using quiet) (logs_freely fun _ _ ⟨_, free, _⟩ => free),
    denies_of (fun _ _ _ => rfl) fun _ _ ⟨generator, disabled⟩ => trigSpitResumeBody_disabled generator disabled,
    denies_of (fun _ _ _ => rfl) fun _ _ ⟨generator, enabled, wet⟩ =>
      trigSpitResumeBody_notHeld generator enabled wet,
    denies_of (fun _ _ _ => rfl) fun _ _ ⟨generator, enabled, held, dry⟩ =>
      (trigSpitResumeBody_held generator enabled held).trans (if_pos (by simp [dry])),
    acts_of (fun _ _ _ => rfl) (fun _ _ ⟨generator, all⟩ => checked_ok (by simp [generator, all]))
      (fun _ _ quiet => by simpa using quiet) (fun _ _ _ _ => ⟨rfl, rfl⟩),
    acts_of (fun _ _ _ => rfl) (fun _ _ ⟨channel, all⟩ => checked_ok (by simp [channel, all]))
      (fun _ _ quiet => by simpa using quiet) (fun _ _ _ _ => ⟨rfl, rfl⟩)⟩

end Sys2Proof.Proofs.TriggerCommands

/-!
PROOFS. The rows of the fire scheduler (R163, R168, R170, R175, R176, R179, R199): one equation per case of an
operation.
-/

namespace Sys2Proof.Proofs.FiringRows

open Sys2Proof Sys2Proof.Machine Sys2Proof.Laws

variable {v : State}

/-! ## Periodic evaluations (R163, R332) -/

theorem sendStream_alone (alone : v.leadsPair = false) : v.sendStream = v := if_pos (by simp [alone])

theorem sendStream_leads (leads : v.leadsPair = true) : v.sendStream
    = ({ v with pair := { v.pair with
          edges := [], motions := [], streamClosed := v.tick, lastControl := v.tick } }).emit
        (.control (.stream v.pair.edges v.pair.motions v.tick)) := if_neg (by simp [leads])

theorem periodicEvaluation_between (between : v.tick % 64 ≠ 0 ∨ v.linkRuns = false) :
    periodicEvaluation v = v.settleEvals := if_pos (by simpa using between)

section Due

variable (due : v.tick % 64 = 0) (runs : v.linkRuns = true)
include due runs

theorem periodicEvaluation_own (own : v.follows = false) :
    periodicEvaluation v = v.sendStream.askPeriodic.settleEvals :=
  (if_neg (by simp [due, runs])).trans (if_neg (by simp [own]))

/-- Unit S evaluates as the stream of its twin closes (R332). -/
theorem periodicEvaluation_follower (follows : v.follows = true) : periodicEvaluation v = v :=
  (if_neg (by simp [due, runs])).trans (if_pos follows)

end Due

/-! ## Keep-alive and dry risk (R175, R176) -/

section Tickle

variable {b : Nat}

theorem tickleEmit_due (runs : v.linkRuns = true) (evaluator : v.underTest 15 = false)
    (framer : v.underTest 16 = false) (enabled : v.inForce.enabledBar b = true)
    (due : v.tick % ((trigRec v.inForce (v.inForce.trigOf b)).ticklePeriod * 400) = 0)
    (idle : v.keepAliveActive (v.inForce.trigOf b) = true) (free : (v.trig (v.inForce.trigOf b)).lines = [])
    (still : v.barMotion b ≠ .forward) :
    tickleEmit b v = v.emitPulse b (v.inForce.trigOf b) .tickle (v.earliest b) :=
  if_neg (by simp [runs, evaluator, framer, enabled, due, idle, free, still])

theorem tickleEmit_withheld (withheld : v.linkRuns = false
      ∨ v.tick % ((trigRec v.inForce (v.inForce.trigOf b)).ticklePeriod * 400) ≠ 0
      ∨ v.keepAliveActive (v.inForce.trigOf b) = false ∨ (v.trig (v.inForce.trigOf b)).lines ≠ []
      ∨ v.underTest 15 = true ∨ v.underTest 16 = true ∨ v.inForce.enabledBar b = false) : tickleEmit b v = v := by
  refine if_pos ?_
  obtain h | h | h | h | h | h | h := withheld <;> simp [h]

theorem dryRisk_due (enabled : v.barEnabled b = true) (first : (v.rbar b).dryRisk = false)
    (due : (v.rbar b).lastEject + (trigRec v.inForce (v.inForce.trigOf b)).dryTime * 1024000 ≤ v.aon) : dryRisk b v
    = (State.logOpen { origin := .fwAuto, cls := Cls.bar, obj := b, reason := Rc.dryRisk }
        ((v.setRbar b { v.rbar b with
          dryRisk := true, dryHold := (trigRec v.inForce (v.inForce.trigOf b)).requireSpit, spitSince := false }).post
            (ev Ev.dryRisk Cls.bar b Rc.dryRisk ((v.aon - (v.rbar b).lastEject) / 1024000)))).trigoutLevels :=
  if_neg (by simp [enabled, first, Nat.not_lt.mpr due])

end Tickle

/-! ## TRIGOUT pulses (R179) -/

section Trigout

variable {k : Nat} (pulsed : (trigoutRec v.inForce k).event < 4) (enabled : (trigoutRec v.inForce k).enable = true)
include pulsed enabled

/-- The output once it has followed its pulses, of which `left` have not ended. -/
theorem trigoutPulse_follows {left : List (Nat × Nat)}
    (rest : (v.trigoutOf k).pulses.filter (fun p => decide (v.tick < p.2)) = left) (drives : v.pinsHeld = false)
    (turns : left.any (fun p => decide (p.1 ≤ v.tick)) = !(v.trigoutOf k).asserted) : trigoutPulse k v
    = (v.setTrigout k { asserted := !(v.trigoutOf k).asserted, pulses := left }).emit
        (.trigout k ((!(v.trigoutOf k).asserted) != (trigoutRec v.inForce k).activeLow)) := by
  have held : (v.setTrigout k { asserted := !(v.trigoutOf k).asserted, pulses := left }).pinsHeld = false := drives
  simp [trigoutPulse, Nat.not_le.mpr pulsed, enabled, rest, turns, held]

theorem trigoutPulse_releases (asserted : (v.trigoutOf k).asserted = true)
    (ended : ∀ p ∈ (v.trigoutOf k).pulses, p.2 ≤ v.tick) (drives : v.pinsHeld = false) : trigoutPulse k v
    = (v.setTrigout k { asserted := false, pulses := [] }).emit
        (.trigout k (trigoutRec v.inForce k).activeLow) := by
  have none_left : (v.trigoutOf k).pulses.filter (fun p => decide (v.tick < p.2)) = [] :=
    List.filter_eq_nil_iff.mpr fun p here => by simpa using ended p here
  rw [trigoutPulse_follows pulsed enabled none_left drives (by simp [asserted]), asserted]
  simp

theorem trigoutPulse_asserts {p : Nat × Nat} (released : (v.trigoutOf k).asserted = false)
    (one : (v.trigoutOf k).pulses = [p]) (begun : p.1 ≤ v.tick) (lasts : v.tick < p.2) (drives : v.pinsHeld = false) :
    trigoutPulse k v = (v.setTrigout k { asserted := true, pulses := [p] }).emit
      (.trigout k (!(trigoutRec v.inForce k).activeLow)) := by
  have left : (v.trigoutOf k).pulses.filter (fun p => decide (v.tick < p.2)) = [p] := by simp [one, lasts]
  rw [trigoutPulse_follows pulsed enabled left drives (by simp [released, begun]), released]
  simp

end Trigout

/-! ## Fires (R170, R199) -/

section Fire

variable {b : Nat}

theorem fireTime_line {l : TLine} (line : (v.trig (v.inForce.trigOf b)).lines.find?
      (fun l => !l.held && decide (l.fire < 16 * (v.tick + 1))) = some l)
    (later : ∀ p ∈ (v.trig (v.inForce.trigOf b)).pulses, 16 * (v.tick + 1) ≤ p.fire) :
    fireTime b v = v.fireLine b (v.inForce.trigOf b) l := by
  have no_pulse : (v.trig (v.inForce.trigOf b)).pulses.find? (fun p => decide (p.fire < 16 * (v.tick + 1))) = none :=
    List.find?_eq_none.mpr fun p here => by simpa using later p here
  simp only [fireTime, line, no_pulse]

theorem fireTime_pulse {p : Pulse} (free : (v.trig (v.inForce.trigOf b)).lines = [])
    (pulse : (v.trig (v.inForce.trigOf b)).pulses.find? (fun p => decide (p.fire < 16 * (v.tick + 1))) = some p) :
    fireTime b v = v.firePulse b (v.inForce.trigOf b) p := by
  simp only [fireTime, free, List.find?_nil, pulse]

/-- The state once the fires of a bar that have ended are no longer under way. -/
def firesEnded (b : Nat) (v : State) : State :=
  { v with fires := v.fires.filter (fun f => f.1 != b || decide (v.tick < f.2)) }

theorem fireEnd_eq (b : Nat) (v : State) : fireEnd b v
    = ((firesEnded b v).ampUpdate (if (firesEnded b v).sys = .fault then 1 else 0)).hvUpdate := by
  simp only [fireEnd, beq_iff_eq]
  rfl

end Fire

end Sys2Proof.Proofs.FiringRows

/-!
PROOFS. The rows of the line engine and the decompressors' schedule (R215, R226, R230, R278): one equation per case of
an operation; the settling theorem at the end puts them together with the rows of the fire scheduler.
-/

namespace Sys2Proof.Proofs.LineEngineRows

open Sys2Proof Sys2Proof.Machine Sys2Proof.Laws Sys2Proof.Proofs.FiringRows

variable {v : State} {b : Nat}

/-! ## Lines are prepared (R21, R230) -/

theorem linePrepare_full (full : 8 ≤ linesAhead (v.rbar b)) : linePrepare b v = v := if_pos (by simp [full])

theorem linePrepare_due {u : State} {x : Int} (prints : v.sys = .printing ∨ v.sys = .paused)
    (ticketed : (v.rbar b).lastTicket ≠ none) (room : linesAhead (v.rbar b) < 8) (taken : u = v.takeData b)
    (due : (u.rbar b).due = some x) (good : u.badRows (u.cfgFor b (BitVec.ofInt 32 x)) b x = []) :
    linePrepare b v = u.prepareNext b := by
  subst taken
  refine (if_neg ?_).trans ?_
  · obtain prints | prints := prints <;> simp [prints, ticketed, room]
  · simp only [due, good, List.isEmpty_nil, if_true]

/-! ## NOZ frames (R278) -/

/-- A prepared line, sent on port `p` if it is line `l`. -/
def markSent (p : Nat) (l m : PrepLine) : PrepLine :=
  if m.ext = l.ext then { m with ports := m.ports.map (fun q => if q.port == p then { q with sent := true } else q) }
  else m

/-- The vectors of a line on port `p`. -/
def vectorsOn (p : Nat) (l : PrepLine) : List (Nat × List Byte) :=
  (l.ports.filter (fun q => q.port == p)).flatMap (·.vectors)

/-- The line goes to the framer of the port: its samples, then its vectors but for those with a poisoned word, and the
module buffers it. -/
def handOver (b p : Nat) (l : PrepLine) (s : State) : State :=
  let all := vectorsOn p l
  let read := all.flatMap (fun x => s.queuePoison p x.1 l.line)
  let sound := all.filter (fun x => (s.queuePoison p x.1 l.line).isEmpty)
  let t := State.sendWaves b p l
    { s with mem := { s.mem with poison := s.mem.poison.filter (fun w => !read.contains w) } }
  let u := (sound.flatMap (nozFrames b l.line)).foldl (fun s f => s.sendFrame p f) t
  u.setPort p { u.port p with
    buffered := (u.port p).buffered ++ [{ bar := b, line := l.line, strobed := l.ticketed }] }

theorem nozSend_full {p : Nat} (full : 8 ≤ (bufferedLines (v.port p) b).length) : nozSend b p v = v := by
  unfold nozSend
  dsimp only
  split
  next => rfl
  next => exact if_pos (by simp [full])

theorem nozSend_sends {p : Nat} {l : PrepLine}
    (first : (v.rbar b).prepared.find? (fun l => l.ports.any (fun q => q.port == p && !q.sent)) = some l)
    (serves : v.portServes p = true) (room : (bufferedLines (v.port p) b).length < 8) : nozSend b p v
    = handOver b p l (v.setRbar b { v.rbar b with prepared := (v.rbar b).prepared.map (markSent p l) }) := by
  simp only [nozSend, first]
  exact if_neg (by simp [serves, Nat.not_le.mpr room])

/-! ## The decompressors' schedule (R226) -/

theorem decompSchedule_idle (idle : v.rotateWaiting.decodes = false) : decompSchedule v = v.rotateWaiting :=
  if_pos (by simp [idle])

/-- The claim that the schedule serves: the least of those that a unit can be given. -/
def claimServed (q : State) : Option (Nat × Int × Nat × Nat) :=
  leastClaim (q.claims.filter (fun (c : Nat × Int × Nat × Nat) => (q.takeUnit c.1).isSome))

theorem claimServed_eq_none {q : State} (none_ : ∀ c ∈ q.claims, q.takeUnit c.1 = none) : claimServed q = none := by
  have unserved : q.claims.filter (fun (c : Nat × Int × Nat × Nat) => (q.takeUnit c.1).isSome) = [] :=
    List.filter_eq_nil_iff.mpr fun c here => by simp [none_ c here]
  rw [claimServed, unserved, leastClaim]

section Schedule

variable {q : State} (turned : q = v.rotateWaiting) (works : q.decodes = true)
include turned works

theorem decompSchedule_verifies (unclaimed : claimServed q = none) : decompSchedule v = q.verifyNext := by
  subst turned
  refine (if_neg (by simp [works])).trans ?_
  rw [claimServed] at unclaimed
  rw [unclaimed]

variable {k : Int} {p c : Nat} {r : PlaneRec} (claim : claimServed q = some (b, k, p, c))
  (plane : Table.find? q.inForce.planes p = some r)
include claim plane

theorem decompSchedule_waits (invalid : (indexEntryOf (q.indexBytesOf r c)).valid = false) :
    decompSchedule v = q.setRbar b { q.rbar b with waitsIndex := some (p, c) } := by
  subst turned
  refine (if_neg (by simp [works])).trans ?_
  rw [claimServed] at claim
  simp only [claim, plane, invalid, Bool.not_false, if_true]

variable {u : Nat} {w : State} (valid : (indexEntryOf (q.indexBytesOf r c)).valid = true)
  (taken : q.takeUnit b = some (u, w))
include valid taken

/-- Behind a valid entry, its EMPTY bit decides. -/
theorem decompSchedule_takes : decompSchedule v
    = if (indexEntryOf (q.indexBytesOf r c)).empty then w.settle b p c true
      else (w.setPlane p { w.plane p with retry := (w.plane p).retry && (w.plane p).halted != some c }).giveWork u
        { bar := b, plane := p, block := c, entry := q.indexBytesOf r c } := by
  subst turned
  refine (if_neg (by simp [works])).trans ?_
  rw [claimServed] at claim
  simp only [claim, plane, valid, taken, Bool.not_true, Bool.false_eq_true, if_false]

end Schedule

/-! ## INDEX_REREAD (R215) -/

theorem indexReread_waiting {p c : Nat} {r : PlaneRec} (waits : (v.rbar b).waitsIndex = some (p, c))
    (plane : Table.find? v.inForce.planes p = some r) : indexReread b v
    = if (indexEntryOf (v.indexBytesOf r c)).valid then v.setRbar b { v.rbar b with waitsIndex := none } else v := by
  simp only [indexReread, waits, plane]

/-! ## The rows -/

/-- The state in which a bar has been given its unit. -/
theorem takeUnit_elim {q : State} {u : Nat} {w : State} (taken : q.takeUnit b = some (u, w)) :
    (q.takeUnit b).elim q (·.2) = w := by rw [taken]; rfl

/-- Settles O50: each row is its operation at the row's moment, and each clause is one case of that operation. -/
theorem firingAndRasterRows : Obligations.FiringAndRasterRows := by
  unfold Obligations.FiringAndRasterRows
  exact ⟨
    happens_of (f := periodicEvaluation) (fun _ _ => rfl) fun _ ⟨due, runs, own, alone⟩ => by
      rw [periodicEvaluation_own due runs own, sendStream_alone alone],
    happens_of (f := periodicEvaluation) (fun _ _ => rfl) fun _ ⟨due, runs, own, leads⟩ => by
      rw [periodicEvaluation_own due runs own, sendStream_leads leads],
    happens_of (f := periodicEvaluation) (fun _ _ => rfl) fun _ between => periodicEvaluation_between between,
    happens_of (f := periodicEvaluation) (fun _ _ => rfl) fun _ ⟨due, runs, follows⟩ =>
      periodicEvaluation_follower due runs follows,
    fun b => happens_of (f := tickleEmit b.val) (fun _ _ => rfl)
      fun _ ⟨runs, evaluator, framer, enabled, due, idle, free, still⟩ =>
        tickleEmit_due runs evaluator framer enabled due idle free still,
    fun b => happens_of (f := tickleEmit b.val) (fun _ _ => rfl) fun _ withheld => tickleEmit_withheld withheld,
    fun b => happens_of (f := dryRisk b.val) (fun _ _ => rfl)
      fun _ ⟨enabled, first, due⟩ => dryRisk_due enabled first due,
    fun k => happens_of (f := trigoutPulse k.val) (fun _ _ => rfl)
      fun _ ⟨pulsed, enabled, asserted, ended, drives⟩ =>
        trigoutPulse_releases pulsed enabled asserted ended drives,
    fun k _ => happens_of (f := trigoutPulse k.val) (fun _ _ => rfl)
      fun _ ⟨pulsed, enabled, released, one, begun, lasts, drives⟩ =>
        trigoutPulse_asserts pulsed enabled released one begun lasts drives,
    fun b _ => happens_of (f := fireTime b.val) (fun _ _ => rfl) fun _ ⟨line, later⟩ => fireTime_line line later,
    fun b _ => happens_of (f := fireTime b.val) (fun _ _ => rfl) fun _ ⟨free, pulse⟩ => fireTime_pulse free pulse,
    fun b => happens_of (f := fireEnd b.val) (fun _ _ => rfl) fun v _ => fireEnd_eq b.val v,
    fun b _ _ => happens_of (f := linePrepare b.val) (fun _ _ => rfl)
      fun _ ⟨prints, ticketed, room, taken, due, good⟩ => by
        rw [linePrepare_due prints ticketed room taken due good, taken],
    fun b => happens_of (f := linePrepare b.val) (fun _ _ => rfl) fun _ full => linePrepare_full full,
    fun b p _ _ _ => happens_of (f := nozSend b.val p.val) (fun _ _ => rfl)
      fun _ ⟨first, serves, room, vectors, marked⟩ => by
        rw [nozSend_sends first serves room, vectors, marked]; rfl,
    fun b p => happens_of (f := nozSend b.val p.val) (fun _ _ => rfl) fun _ full => nozSend_full full,
    fun _ _ _ _ _ _ _ _ => happens_of (f := decompSchedule) (fun _ _ => rfl)
      fun _ ⟨turned, works, claim, plane, valid, empty, taken⟩ => by
        rw [← turned, takeUnit_elim taken]
        exact (decompSchedule_takes turned works claim plane valid taken).trans (if_pos empty),
    fun _ _ _ _ _ _ => happens_of (f := decompSchedule) (fun _ _ => rfl)
      fun _ ⟨turned, works, claim, plane, invalid⟩ => by
        rw [← turned]; exact decompSchedule_waits turned works claim plane invalid,
    fun _ => happens_of (f := decompSchedule) (fun _ _ => rfl) fun _ ⟨turned, works, none_⟩ => by
      rw [← turned]; exact decompSchedule_verifies turned works (claimServed_eq_none none_),
    fun _ _ _ _ _ _ _ _ => happens_of (f := decompSchedule) (fun _ _ => rfl)
      fun _ ⟨turned, works, claim, plane, valid, full, taken⟩ => by
        rw [← turned, takeUnit_elim taken]
        exact (decompSchedule_takes turned works claim plane valid taken).trans (if_neg (by simp [full])),
    fun _ => happens_of (f := decompSchedule) (fun _ _ => rfl) fun _ ⟨turned, works, unclaimed⟩ => by
      rw [← turned]; exact decompSchedule_verifies turned works unclaimed,
    happens_of (f := decompSchedule) (fun _ _ => rfl) fun _ idle => decompSchedule_idle idle,
    fun b _ _ _ => happens_of (f := indexReread b.val) (fun _ _ => rfl) fun _ ⟨waits, plane, valid⟩ =>
      (indexReread_waiting waits plane).trans (if_pos valid),
    fun b _ _ _ => happens_of (f := indexReread b.val) (fun _ _ => rfl) fun _ ⟨waits, plane, invalid⟩ =>
      (indexReread_waiting waits plane).trans (if_neg (by simp [invalid]))⟩

end Sys2Proof.Proofs.LineEngineRows

/-!
PROOFS. The staged commands of WAVE (R187–R203): for each command the change that its body stages and the reasons for
which it refuses, one equation per case; the settling theorem carries them through the exchange.
-/

namespace Sys2Proof.Proofs.WaveformStaging

open Sys2Proof Sys2Proof.Machine Sys2Proof.Laws

variable {v : State} {rq : Request}

/-! ## WAVE.WAVE_SET (R187) -/

section WaveSet

variable (ok : ∀ f ∈ waveFields rq.payload, f.1 = true)
include ok

theorem waveWaveSetBody_tooLong (long : 65535 < waveTicks (waveOf rq.payload)) :
    waveWaveSetBody rq v = .refuse Rc.waveTooLong Cls.waveform (fld rq.payload 0 1) [] :=
  (checked_ok ok).trans (if_pos long)

variable (short : waveTicks (waveOf rq.payload) ≤ 65535)
include short

theorem waveWaveSetBody_notAtRest (driven : ((waveOf rq.payload).segs.getLast?.map segLevel).getD 0 ≠ 0) :
    waveWaveSetBody rq v = .refuse Rc.waveNotAtRest Cls.waveform (fld rq.payload 0 1) [] :=
  (checked_ok ok).trans ((if_neg (Nat.not_lt.mpr short)).trans (if_pos (bne_iff_ne.mpr driven)))

theorem waveWaveSetBody_stages (rest : ((waveOf rq.payload).segs.getLast?.map segLevel).getD 0 = 0)
    (windows : ∀ w ∈ (waveOf rq.payload).windows, windowOk (waveTicks (waveOf rq.payload)) w = true) :
    waveWaveSetBody rq v = .stage (.wave (fld rq.payload 0 1) (waveOf rq.payload)) :=
  (checked_ok ok).trans ((if_neg (Nat.not_lt.mpr short)).trans
    ((if_neg (by simp [rest])).trans (if_neg (by simpa using windows))))

end WaveSet

/-! ## WAVE.PROFILE_SET (R189) -/

section ProfileSet

variable (ok : ∀ f ∈ profileFields rq.payload, f.1 = true)
include ok

theorem waveProfileSetBody_stages (empty : fld rq.payload 4 1 = 0) : waveProfileSetBody rq v
    = .stage (.profile (fld rq.payload 0 1) (fld rq.payload 1 1) (profileOf rq.payload)) :=
  (checked_ok ok).trans (if_neg (by simp [empty]))

theorem waveProfileSetBody_code0 (full : fld rq.payload 4 1 ≠ 0) :
    waveProfileSetBody rq v = .refuse Rc.code0NotEmpty Cls.bar (fld rq.payload 0 1) [] :=
  (checked_ok ok).trans (if_pos (bne_iff_ne.mpr full))

end ProfileSet

/-! ## WAVE.CHANNEL_SET and WAVE.DAC_SET (R193, R194, R197) -/

theorem waveChannelSetBody_stages (ok : ∀ f ∈ channelFields rq.payload, f.1 = true)
    (free : (channelOf rq.payload).enable = true →
      overlapOf ((v.view rq.mbx.val).apply (.channel (fld rq.payload 0 1) (channelOf rq.payload)))
        (fld rq.payload 0 1) = none) :
    waveChannelSetBody rq v = .stage (.channel (fld rq.payload 0 1) (channelOf rq.payload)) := by
  refine (checked_ok ok).trans ?_
  dsimp only
  rw [ite_eq_right_iff.mpr free]

theorem waveDacSetBody_stages (ok : ∀ f ∈ dacFields rq.payload, f.1 = true)
    (free : (dacOf rq.payload).enable = true →
      overlapOf ((v.view rq.mbx.val).apply (.dac (fld rq.payload 0 1) (dacOf rq.payload)))
        (128 + fld rq.payload 0 1) = none) :
    waveDacSetBody rq v = .stage (.dac (fld rq.payload 0 1) (dacOf rq.payload)) := by
  refine (checked_ok ok).trans ?_
  dsimp only
  rw [ite_eq_right_iff.mpr free]

/-! ## WAVE.CURVE_SET (R203) -/

section CurveSet

variable (ok : ∀ f ∈ curveFields rq.payload, f.1 = true)
include ok

theorem waveCurveSetBody_stages (ordered : curveOrdered (curveOf rq.payload).points = true) : waveCurveSetBody rq v
    = .stage (.curve (fld rq.payload 0 1) (fld rq.payload 1 1) (curveOf rq.payload)) :=
  (checked_ok ok).trans (if_neg (by simp [ordered]))

theorem waveCurveSetBody_unordered (unordered : curveOrdered (curveOf rq.payload).points = false) :
    waveCurveSetBody rq v = .refuse Rc.curveOrder Cls.waveChannel (fld rq.payload 0 1) [] :=
  (checked_ok ok).trans (if_pos (by simp [unordered]))

end CurveSet

/-! ## All of them -/

/-- Settles O28: each clause is one case of the command's body. -/
theorem waveformsStage : Obligations.WaveformsStage := by
  unfold Obligations.WaveformsStage
  exact ⟨
    stages_of (fun _ _ _ => rfl) fun _ _ ⟨ok, short, rest, windows⟩ => waveWaveSetBody_stages ok short rest windows,
    denies_of (fun _ _ _ => rfl) fun _ _ ⟨ok, long⟩ => waveWaveSetBody_tooLong ok long,
    denies_of (fun _ _ _ => rfl) fun _ _ ⟨ok, short, driven⟩ => waveWaveSetBody_notAtRest ok short driven,
    stages_of (fun _ _ _ => rfl) fun _ _ ⟨ok, empty⟩ => waveProfileSetBody_stages ok empty,
    denies_of (fun _ _ _ => rfl) fun _ _ ⟨ok, full⟩ => waveProfileSetBody_code0 ok full,
    stages_of (fun _ _ _ => rfl) fun _ _ bar => checked_ok (by simp [bar]),
    stages_of (fun _ _ _ => rfl) fun _ _ ⟨ok, free⟩ => waveChannelSetBody_stages ok free,
    stages_of (fun _ _ _ => rfl) fun _ _ ⟨ok, free⟩ => waveDacSetBody_stages ok free,
    stages_of (fun _ _ _ => rfl) fun _ _ ⟨ok, ordered⟩ => waveCurveSetBody_stages ok ordered,
    denies_of (fun _ _ _ => rfl) fun _ _ ⟨ok, unordered⟩ => waveCurveSetBody_unordered ok unordered⟩

end Sys2Proof.Proofs.WaveformStaging

/-!
PROOFS. The reports of PLANE and PLAIT (R238, R263): what each command's body answers once its fields are in range, and
where the fields of its payload lie.
-/

namespace Sys2Proof.Proofs.RasterReports

open Sys2Proof Sys2Proof.Machine Sys2Proof.Laws

variable {v : State} {rq : Request}

/-! ## Commands on a range of a plane's entries (R213) -/

section Entries

variable {n first count : Nat} {k : PlaneRec → Verdict}

theorem onEntries_undefined (undefined : Table.find? v.inForce.planes n = none) :
    onEntries v n first count k = .refuse Rc.planeUndefined Cls.plane n [] := by
  rw [onEntries, undefined]
  rfl

variable {r : PlaneRec} (plane : Table.find? v.inForce.planes n = some r)
include plane

theorem onEntries_inside (inside : first + count ≤ planeBlocks r) : onEntries v n first count k = k r := by
  rw [onEntries, plane]
  exact if_neg (Nat.not_lt.mpr inside)

theorem onEntries_beyond (beyond : planeBlocks r < first + count) :
    onEntries v n first count k = .refuse Rc.indexRange 0 0 [] := by
  rw [onEntries, plane]
  exact if_pos beyond

end Entries

/-! ## PLANE.INDEX_READ and PLANE.GET (R238) -/

theorem planeIndexReadBody_eq {r : PlaneRec} (number : fld rq.payload 0 1 < 64) (some_ : 1 ≤ fld rq.payload 2 2)
    (few : fld rq.payload 2 2 ≤ 63) (plane : Table.find? v.inForce.planes (fld rq.payload 0 1) = some r)
    (inside : fld rq.payload 4 4 + fld rq.payload 2 2 ≤ planeBlocks r) : planeIndexReadBody rq v
    = .done v (v.hbmRead (r.areaBase + 16 * fld rq.payload 4 4) (16 * fld rq.payload 2 2)) :=
  (checked_ok (by simp [number, some_, few])).trans (onEntries_inside plane inside)

theorem planeGetBody_plane {r : PlaneRec} (kind : fld rq.payload 0 1 = 0) (number : fld rq.payload 2 2 < 64)
    (plane : Table.find? (v.readCfg rq).planes (fld rq.payload 2 2) = some r) :
    planeGetBody rq v = .done v (planeBytes (fld rq.payload 2 2) r) := by
  refine (checked_ok (by simp [kind, number])).trans ((if_pos kind).trans ?_)
  rw [plane]

theorem planeGetBody_ring (kind : fld rq.payload 0 1 = 1) (bar : fld rq.payload 2 2 < 16) : planeGetBody rq v
    = .done v (ringBytes (fld rq.payload 2 2) (ringRec (v.readCfg rq) (fld rq.payload 2 2))) :=
  (checked_ok (by simp [kind, bar])).trans (if_neg (by simp [kind]))

/-! ## All of them -/

/-- Settles O21: each report leaves the state; its payload is laid out field by field, or is what was asked for. -/
theorem rasterReadsAnswer : Obligations.RasterReadsAnswer := by
  unfold Obligations.RasterReadsAnswer
  refine ⟨
    reads_of (fun _ _ _ => rfl) rfl fun _ _ ⟨number, some_, few, r, plane, inside⟩ =>
      ⟨_, planeIndexReadBody_eq number some_ few plane inside, fun r' same => ?_⟩,
    reads_of (fun _ _ _ => rfl) rfl fun rq _ ⟨kind, inside, defined⟩ => ?_,
    reads_of (fun _ _ _ => rfl) rfl fun _ _ session =>
      ⟨_, checked_ok (by simp [session]), ⟨by simp, ?_⟩, fun r captured => ?_⟩,
    reads_of (fun _ _ _ => rfl) rfl fun _ _ _ => ⟨_, rfl, by simp, ?_⟩,
    reads_of (fun _ _ _ => rfl) rfl fun _ _ _ => ⟨_, rfl, by simp, ?_⟩⟩
  · rw [Option.some.inj (plane.symm.trans same)]
  · obtain plane | ring : fld rq.payload 0 1 = 0 ∨ fld rq.payload 0 1 = 1 := by omega
    · rw [if_pos plane] at inside
      obtain ⟨r, found⟩ := Option.isSome_iff_exists.mp (defined plane)
      refine ⟨_, planeGetBody_plane plane inside found, fun _ r' same => ?_, fun ring => ?_⟩
      · rw [Option.some.inj (found.symm.trans same)]
      · exact absurd (plane.symm.trans ring) (by decide)
    · rw [if_neg (by simp [ring])] at inside
      exact ⟨_, planeGetBody_ring ring inside, fun plane => absurd (plane.symm.trans ring) (by decide), fun _ => rfl⟩
  · simp [fld_left, fld_right, fld_le]
  · simp [fld_left, fld_right, fld_le, captured]
  · simp [fld_left, fld_right, fld_le]
  · simp [fld_left, fld_right, fld_le]

end Sys2Proof.Proofs.RasterReports

/-!
PROOFS. The staged commands of PLANE, CANE and HEALTH (R217–R319): for each command the change that its body stages and
the reasons for which it refuses, one equation per case; the settling theorem carries them through the exchange.
-/

namespace Sys2Proof.Proofs.RasterStaging

open Sys2Proof Sys2Proof.Machine Sys2Proof.Laws

variable {v : State} {rq : Request}

/-! ## PLANE.DEFINE (R217) -/

section Define

variable (ok : ∀ f ∈ planeFields rq.payload, f.1 = true)
include ok

theorem planeDefineBody_bound (bound : v.planeBound (fld rq.payload 0 1) = true) :
    planeDefineBody rq v = .refuse Rc.planeBound Cls.plane (fld rq.payload 0 1) [] :=
  (checked_ok ok).trans (if_pos bound)

variable (unbound : v.planeBound (fld rq.payload 0 1) = false)
include unbound

theorem planeDefineBody_reserved
    (reserved : areaReserved (planeOf rq.payload).areaBase (planeOf rq.payload).areaLimit = true) :
    planeDefineBody rq v = .refuse Rc.areaReserved Cls.plane (fld rq.payload 0 1) [] :=
  (checked_ok ok).trans ((if_neg (by simp [unbound])).trans (if_pos reserved))

variable (open_ : areaReserved (planeOf rq.payload).areaBase (planeOf rq.payload).areaLimit = false)
include open_

theorem planeDefineBody_tooSmall
    (small : (planeOf rq.payload).areaLimit ≤ (planeOf rq.payload).areaBase + indexBytes (planeOf rq.payload)) :
    planeDefineBody rq v = .refuse Rc.areaTooSmall Cls.plane (fld rq.payload 0 1) [] :=
  (checked_ok ok).trans ((if_neg (by simp [unbound])).trans ((if_neg (by simp [open_])).trans (if_pos small)))

theorem planeDefineBody_stages
    (room : (planeOf rq.payload).areaBase + indexBytes (planeOf rq.payload) < (planeOf rq.payload).areaLimit)
    (clear : areaHit (v.view rq.mbx.val) v.inForce (planeOf rq.payload).areaBase (planeOf rq.payload).areaLimit
      (some (fld rq.payload 0 1)) none = none) :
    planeDefineBody rq v = .stage (.plane (fld rq.payload 0 1) (planeOf rq.payload)) := by
  refine (checked_ok ok).trans ((if_neg (by simp [unbound])).trans ((if_neg (by simp [open_])).trans
    ((if_neg (Nat.not_le.mpr room)).trans ?_)))
  rw [clear]

end Define

/-! ## PLANE.RING_SET (R217, R221) -/

/-- The ring that a PLANE.RING_SET payload asks for. -/
def ringOf (p : List Byte) : RingRec := { depth := fld p 2 2, base := fld p 8 8 }

section RingSet

variable (ok : ∀ f ∈ ringFields rq.payload, f.1 = true)
include ok

theorem planeRingSetBody_locked (enabled : v.barEnabled (fld rq.payload 0 1) = true) :
    planeRingSetBody rq v = .refuse Rc.ringLocked Cls.bar (fld rq.payload 0 1) [] :=
  (checked_ok ok).trans (if_pos enabled)

theorem planeRingSetBody_stages (disabled : v.barEnabled (fld rq.payload 0 1) = false)
    (open_ : areaReserved (ringOf rq.payload).base ((ringOf rq.payload).base + 4096) = false)
    (fits : (ringSpan v.inForce (fld rq.payload 0 1) (ringOf rq.payload)).2 ≤ hbmUserEnd)
    (clear : areaHit (v.view rq.mbx.val) v.inForce (ringSpan v.inForce (fld rq.payload 0 1) (ringOf rq.payload)).1
      (ringSpan v.inForce (fld rq.payload 0 1) (ringOf rq.payload)).2 none (some (fld rq.payload 0 1)) = none) :
    planeRingSetBody rq v = .stage (.ring (fld rq.payload 0 1) (ringOf rq.payload)) := by
  have usable : ¬ (areaReserved (ringOf rq.payload).base ((ringOf rq.payload).base + 4096)
      || decide (hbmUserEnd < (ringSpan v.inForce (fld rq.payload 0 1) (ringOf rq.payload)).2)) = true := by
    simp [open_, fits]
  rw [ringOf] at clear
  refine (checked_ok ok).trans ((if_neg (by simp [disabled])).trans ((if_neg usable).trans ?_))
  rw [clear]
  rfl

end RingSet

/-! ## CANE.PORT_SET (R291) -/

section PortSet

variable (ok : ∀ f ∈ portFields rq.payload, f.1 = true)
include ok

theorem canePortSetBody_stages (free : (portOf rq.payload).enable = false →
      (portRec v.inForce (fld rq.payload 0 1)).enable = true → v.portInUse (fld rq.payload 0 1) = false) :
    canePortSetBody rq v = .stage (.port (fld rq.payload 0 1) (portOf rq.payload)) :=
  (checked_ok ok).trans (if_neg (by simpa using free))

theorem canePortSetBody_inUse (disables : (portOf rq.payload).enable = false)
    (enabled : (portRec v.inForce (fld rq.payload 0 1)).enable = true)
    (used : v.portInUse (fld rq.payload 0 1) = true) :
    canePortSetBody rq v = .refuse Rc.portInUse Cls.canePort (fld rq.payload 0 1) [] :=
  (checked_ok ok).trans (if_pos (by simp [disables, enabled, used]))

end PortSet

/-! ## HEALTH.REF_SET (R303) -/

section RefSet

variable (ok : ∀ f ∈ refFields rq.payload, f.1 = true)
include ok

theorem healthRefSetBody_stages (has : fld rq.payload 1 1 < (headRec (v.view rq.mbx.val) (fld rq.payload 0 1)).rows) :
    healthRefSetBody rq v = .stage (.ref (fld rq.payload 0 1) (fld rq.payload 1 1) (refOf rq.payload)) :=
  (checked_ok ok).trans (if_neg (Nat.not_le.mpr has))

theorem healthRefSetBody_refused
    (lacks : (headRec (v.view rq.mbx.val) (fld rq.payload 0 1)).rows ≤ fld rq.payload 1 1) :
    healthRefSetBody rq v = .refuse Rc.rowNotInHead Cls.head (fld rq.payload 0 1) [] :=
  (checked_ok ok).trans (if_pos lacks)

end RefSet

/-! ## HEALTH.SUBST_SET and HEALTH.SUBST_CLEAR (R308, R311) -/

/-- The entries of a HEALTH.SUBST_SET payload. -/
def substsOf (p : List Byte) : List (Nat × SubstRec) :=
  (List.range (fld p 0 2)).map (fun k => substOf p (8 + 24 * k))

theorem healthSubstSetBody_stages (some_ : 1 ≤ fld rq.payload 0 2) (few : fld rq.payload 0 2 ≤ 41)
    (ok : ∀ k < fld rq.payload 0 2, ∀ f ∈ substFields rq.payload (8 + 24 * k), f.1 = true)
    (sound : substsDefect v.inForce (v.view rq.mbx.val) (substsOf rq.payload) = none) :
    healthSubstSetBody rq v = .stage (.substs (substsOf rq.payload)) := by
  have entries : ∀ f ∈ (List.range (fld rq.payload 0 2)).flatMap (fun i => substFields rq.payload (8 + 24 * i)),
      f.1 = true := fun f here => by
    obtain ⟨k, listed, here⟩ := List.mem_flatMap.mp here
    exact ok k (List.mem_range.mp listed) f here
  rw [substsOf] at sound
  refine (checked_ok (List.forall_mem_cons.mpr ⟨by simp [some_, few], entries⟩)).trans ?_
  dsimp only
  rw [sound]
  rfl

theorem healthSubstClearBody_stages (ok : ∀ f ∈ plainListFields rq.payload, f.1 = true)
    (ends : ∀ id ∈ nozzleIds rq.payload, ((Table.find? (v.view rq.mbx.val).substs id).isSome = true
      ∨ (Table.find? v.inForce.substs id).isSome = true) ∧ recHeld (v.record id) = false) :
    healthSubstClearBody rq v = .stage (.substClear (nozzleIds rq.payload)) := by
  have none_bad : (nozzleIds rq.payload).findSome? (fun id =>
      if (Table.find? (v.view rq.mbx.val).substs id).isNone && (Table.find? v.inForce.substs id).isNone then
        some (id, Rc.noSubstitution)
      else if recHeld (v.record id) then some (id, Rc.hostHeld) else none) = none :=
    List.findSome?_eq_none_iff.mpr fun id here => by
      obtain ⟨substituted | substituted, free⟩ := ends id here <;>
        simp [Option.isNone_eq_false_iff.mpr substituted, free]
  refine (checked_ok ok).trans ?_
  dsimp only
  rw [none_bad]

/-! ## HEALTH.REPORT_OUT (R314) -/

/-- A command whose change joins the mailbox's set while firmware has also changed its own state. -/
theorem serve_stageWith {s t : State} {c : Cmd} {size : Nat} {body : Request → State → Verdict} {m : Moment}
    {ch : Change} (h : Serves c size rq (s.clock m)) (stages : Stages rq ch (s.clock m))
    (outcome : body rq ((s.clock m).served c rq) = .stageWith t ch)
    (sets : t.sets = ((s.clock m).served c rq).sets) (quiet : t.rung = []) :
    serve c size body m rq s = t.stagedFor rq ch := by
  obtain ⟨single, fits⟩ := stages
  have ⟨_, _, no_bell, idle, _⟩ := h
  have own : ((s.clock m).served c rq).sset rq.mbx.val = (s.clock m).sset rq.mbx.val := by
    rw [served_eq (s.clock m) c rq idle no_bell]; rfl
  have same : t.sset rq.mbx.val = (s.clock m).sset rq.mbx.val := by rw [← own, State.sset, State.sset, sets]
  rw [serve_eq s c size body m rq h, outcome]
  simp only [State.conclude, State.stageFor, State.stagedFor, own, same, fits, single, Bool.not_true,
    Bool.false_eq_true, if_true, if_false]
  exact serveUndefined_none _ _ (by rw [respond_rung]; exact quiet)

theorem postLimited_sets (k : EventKey) (b : EventBody) (v : State) : (v.postLimited k b).sets = v.sets := by
  unfold State.postLimited
  split
  · exact post_sets v b
  · rfl

theorem degrade_sets (h lost : Nat) (v : State) : (v.degrade h lost).sets = v.sets := by
  unfold State.degrade
  dsimp only
  split
  · rfl
  · exact post_sets _ _

theorem classOut_sets (auto : Bool) (cfg : Cfg) (id cls : Nat) (v : State) :
    (v.classOut auto cfg id cls).1.sets = v.sets := by
  unfold State.classOut
  dsimp only
  (repeat' split) <;> simp only [degrade_sets, State.postNoDonor, postLimited_sets]

/-- The record of a nozzle that the host holds out. -/
def outHeld (id cls : Nat) (v : State) : State :=
  v.setRecord id (mkRecord cls (recCandidate (v.record id)) 0 true (recLastRaw (v.record id)))

/-- Reported outs change records and post events, and leave the shadow sets. -/
theorem reportOuts_sets (mbx cls : Nat) (ids : List Nat) (v : State) : (v.reportOuts mbx cls ids).1.sets = v.sets := by
  unfold State.reportOuts
  refine List.foldlRecOn (motive := fun (acc : State × List (Nat × Nat) × List (Nat × SubstRec)) =>
    acc.1.sets = v.sets) ids _ rfl fun acc kept id _ => ?_
  have out := classOut_sets false (((outHeld id cls acc.1).view mbx).apply (.outs acc.2.1 acc.2.2)) id cls
    (outHeld id cls acc.1)
  dsimp only
  split <;>
    next found => exact (congrArg (·.1.sets) found).symm.trans (out.trans kept)

theorem healthReportOutBody_stages (some_ : 1 ≤ fld rq.payload 0 2) (few : fld rq.payload 0 2 ≤ 250)
    (kind : fld rq.payload 2 1 < 3) (held : bit (fld rq.payload 3 1) 0 = false)
    (ok : ∀ f ∈ (nozzleListFields rq.payload).drop 1, f.1 = true) {r : State × List (Nat × Nat) × List (Nat × SubstRec)}
    (outs : r = v.reportOuts rq.mbx.val (reportClass (fld rq.payload 2 1)) (nozzleIds rq.payload)) :
    healthReportOutBody rq v = .stageWith r.1 (.outs r.2.1 r.2.2) := by
  subst outs
  exact (checked_ok (List.forall_mem_cons.mpr ⟨by simp [some_, few], List.forall_mem_cons.mpr
    ⟨by simp [kind], ok⟩⟩)).trans (if_neg (by simp [held]))

/-! ## All of them -/

/-- Settles O29: each clause is one case of the command's body. -/
theorem rasterCaneAndHealthStage : Obligations.RasterCaneAndHealthStage := by
  unfold Obligations.RasterCaneAndHealthStage
  refine ⟨
    stages_of (fun _ _ _ => rfl) fun _ _ ⟨ok, unbound, open_, room, clear⟩ =>
      planeDefineBody_stages ok unbound open_ room clear,
    denies_of (fun _ _ _ => rfl) fun _ _ ⟨ok, bound⟩ => planeDefineBody_bound ok bound,
    denies_of (fun _ _ _ => rfl) fun _ _ ⟨ok, unbound, reserved⟩ => planeDefineBody_reserved ok unbound reserved,
    denies_of (fun _ _ _ => rfl) fun _ _ ⟨ok, unbound, open_, small⟩ =>
      planeDefineBody_tooSmall ok unbound open_ small,
    stages_of (fun _ _ _ => rfl) fun _ _ ⟨ok, disabled, open_, fits, clear⟩ =>
      planeRingSetBody_stages ok disabled open_ fits clear,
    denies_of (fun _ _ _ => rfl) fun _ _ ⟨ok, enabled⟩ => planeRingSetBody_locked ok enabled,
    stages_of (fun _ _ _ => rfl) fun _ _ ⟨ok, free⟩ => canePortSetBody_stages ok free,
    denies_of (fun _ _ _ => rfl) fun _ _ ⟨ok, disables, enabled, used⟩ =>
      canePortSetBody_inUse ok disables enabled used,
    stages_of (fun _ _ _ => rfl) fun _ _ ok => checked_ok ok,
    stages_of (fun _ _ _ => rfl) fun _ _ ⟨ok, has⟩ => healthRefSetBody_stages ok has,
    denies_of (fun _ _ _ => rfl) fun _ _ ⟨ok, lacks⟩ => healthRefSetBody_refused ok lacks,
    stages_of (fun _ _ _ => rfl) fun _ _ ⟨some_, few, ok, sound⟩ => healthSubstSetBody_stages some_ few ok sound,
    stages_of (fun _ _ _ => rfl) fun _ _ ⟨ok, ends⟩ => healthSubstClearBody_stages ok ends,
    stages_of (fun _ _ _ => rfl) fun _ _ ok => checked_ok ok,
    fun m rq s serves some_ few kind held ok v served r outs stages => ?_⟩
  subst served
  have ⟨_, _, no_bell, idle, _⟩ := serves
  have sets : r.1.sets = ((s.clock m).served healthReportOutCmd rq).sets := by rw [outs]; exact reportOuts_sets _ _ _ _
  have quiet : r.1.rung = [] := by
    rw [outs, (keeps_reportOuts _ _ _ _).2.1, served_eq (s.clock m) _ rq idle no_bell]
  exact congrArg Host.Outcome.next
    (serve_stageWith serves stages (healthReportOutBody_stages some_ few kind held ok outs) sets quiet)

end Sys2Proof.Proofs.RasterStaging

/-!
PROOFS. The actions of PLANE, and its status (R235, R238): one equation per case of a command's body; the settling
theorem carries them through the exchange.
-/

namespace Sys2Proof.Proofs.RasterCommands

open Sys2Proof Sys2Proof.Machine Sys2Proof.Laws
open Sys2Proof.Proofs.RasterReports (onEntries_inside onEntries_beyond onEntries_undefined)

variable {v : State} {rq : Request}

/-! ## PLANE.INDEX_WRITE (R238, R328) -/

/-- Bytes that reach HBM, and what of them is forwarded to the twin, leave the change log. -/
theorem areaWrite_log (a : Nat) (bs : List Byte) (v : State) : (v.areaWrite a bs).log = v.log := by
  unfold State.areaWrite
  extract_lets w
  split
  · refine (SystemState.foldl_view State.log _ (fun s r => ?_) _ w).trans ?_ <;> rfl
  · rfl

section IndexWrite

variable (number : fld rq.payload 0 1 < 64) (some_ : 1 ≤ fld rq.payload 2 2) (few : fld rq.payload 2 2 ≤ 62)
include number some_ few

theorem planeIndexWriteBody_undefined (undefined : Table.find? v.inForce.planes (fld rq.payload 0 1) = none) :
    planeIndexWriteBody rq v = .refuse Rc.planeUndefined Cls.plane (fld rq.payload 0 1) [] :=
  (checked_ok (by simp [number, some_, few])).trans (onEntries_undefined undefined)

variable {r : PlaneRec} (plane : Table.find? v.inForce.planes (fld rq.payload 0 1) = some r)
include plane

theorem planeIndexWriteBody_inside (inside : fld rq.payload 4 4 + fld rq.payload 2 2 ≤ planeBlocks r) :
    planeIndexWriteBody rq v = .done (v.areaWrite (r.areaBase + 16 * fld rq.payload 4 4)
      ((rq.payload.drop 8).take (16 * fld rq.payload 2 2))) [] :=
  (checked_ok (by simp [number, some_, few])).trans (onEntries_inside plane inside)

theorem planeIndexWriteBody_beyond (beyond : planeBlocks r < fld rq.payload 4 4 + fld rq.payload 2 2) :
    planeIndexWriteBody rq v = .refuse Rc.indexRange 0 0 [] :=
  (checked_ok (by simp [number, some_, few])).trans (onEntries_beyond plane beyond)

end IndexWrite

/-! ## PLANE.STATUS (R238) -/

theorem planeStatusBody_plane (kind : fld rq.payload 0 1 = 0) (number : fld rq.payload 2 2 < 64) :
    planeStatusBody rq v = .done { v with fresh := v.fresh + 1 } (planeStatusBytes v (fld rq.payload 2 2)) := by
  refine (checked_ok (by simp [kind, number])).trans ?_
  rw [if_pos kind]

theorem planeStatusBody_ring (kind : fld rq.payload 0 1 = 1) (bar : fld rq.payload 2 2 < 16) :
    planeStatusBody rq v = .done { v with fresh := v.fresh + 1 } (ringStatusBytes v (fld rq.payload 2 2)) := by
  refine (checked_ok (by simp [kind, bar])).trans ?_
  rw [if_neg (by simp [kind])]

/-! ## PLANE.RETRY (R235) -/

theorem retryPlane_halted {n : Nat} (halted : (v.plane n).halted ≠ none) :
    v.retryPlane n = v.setPlane n { v.plane n with retry := true } :=
  if_pos (Option.isSome_iff_ne_none.mpr halted)

theorem retryPlane_running {n : Nat} (running : (v.plane n).halted = none) : v.retryPlane n = v :=
  if_neg (by simp [running])

theorem planeRetryBody_eq (number : fld rq.payload 0 1 < 64) :
    planeRetryBody rq v = .done (v.retryPlane (fld rq.payload 0 1)) [] := checked_ok (by simp [number])

/-! ## PLANE.CLEAR (R238) -/

theorem planeClearBody_plane (kind : fld rq.payload 0 1 = 0) (all : fld rq.payload 1 1 = 1)
    (number : fld rq.payload 2 2 < 64) : planeClearBody rq v
    = .done (v.setPlane (fld rq.payload 2 2)
        { v.plane (fld rq.payload 2 2) with validated := 0, bad := 0, peerRepairs := 0 }) [] := by
  refine (checked_ok (by simp [kind, all, number])).trans ?_
  rw [if_pos kind]

theorem planeClearBody_ring (kind : fld rq.payload 0 1 = 1) (all : fld rq.payload 1 1 = 1)
    (bar : fld rq.payload 2 2 < 16) : planeClearBody rq v
    = .done (v.setRbar (fld rq.payload 2 2) { v.rbar (fld rq.payload 2 2) with
        starved := 0, mispredicted := 0, ringUncorrectable := 0, linesPrepared := 0 }) [] := by
  refine (checked_ok (by simp [kind, all, bar])).trans ?_
  rw [if_neg (by simp [kind])]

/-! ## All of them -/

/-- Settles O34: each clause is one case of the command's body. -/
theorem planeCommandsAct : Obligations.PlaneCommandsAct := by
  unfold Obligations.PlaneCommandsAct
  refine ⟨
    acts_of (fun _ _ _ => rfl) (fun _ _ ⟨number, some_, few, range⟩ => ?_) (fun _ _ quiet => ?_)
      (fun _ _ _ _ => ⟨rfl, ?_⟩),
    denies_of (fun _ _ _ => rfl) fun _ _ ⟨number, some_, few, undefined⟩ =>
      planeIndexWriteBody_undefined number some_ few undefined,
    denies_of (fun _ _ _ => rfl) fun _ _ ⟨number, some_, few, range⟩ => ?_,
    answers_of (fun _ _ _ => rfl) (fun _ _ ⟨kind, number⟩ => ⟨_, planeStatusBody_plane kind number, rfl⟩)
      (fun _ _ quiet => quiet) (fun _ _ _ _ => ⟨rfl, rfl⟩),
    answers_of (fun _ _ _ => rfl) (fun _ _ ⟨kind, bar⟩ => ⟨_, planeStatusBody_ring kind bar, rfl⟩)
      (fun _ _ quiet => quiet) (fun _ _ _ _ => ⟨rfl, rfl⟩),
    acts_of (fun _ _ _ => rfl)
      (fun _ _ ⟨number, halted⟩ => (planeRetryBody_eq number).trans (by rw [retryPlane_halted halted]))
      (fun _ _ quiet => quiet) (fun _ _ _ _ => ⟨rfl, rfl⟩),
    acts_of (fun _ _ _ => rfl)
      (fun _ _ ⟨number, running⟩ => (planeRetryBody_eq number).trans (by rw [retryPlane_running running]))
      (fun _ _ quiet => quiet) (fun _ _ _ _ => ⟨rfl, rfl⟩),
    acts_of (fun _ _ _ => rfl) (fun _ _ ⟨kind, all, number⟩ => planeClearBody_plane kind all number)
      (fun _ _ quiet => quiet) (fun _ _ _ _ => ⟨rfl, rfl⟩),
    acts_of (fun _ _ _ => rfl) (fun _ _ ⟨kind, all, bar⟩ => planeClearBody_ring kind all bar)
      (fun _ _ quiet => quiet) (fun _ _ _ _ => ⟨rfl, rfl⟩)⟩
  · split at range
    next r plane => exact planeIndexWriteBody_inside number some_ few plane range
    next => exact range.elim
  · split
    · exact (keeps_areaWrite _ _ _).2.1.trans quiet
    · exact quiet
  · split
    · rw [areaWrite_log]
    · rfl
  · split at range
    next r plane => exact planeIndexWriteBody_beyond number some_ few plane range
    next => exact range.elim

end Sys2Proof.Proofs.RasterCommands

/-!
PROOFS. The rows of the decompressors, of the twin's blocks and of the compressor (R225, R227, R234, R259, R323): one
equation per case of an operation.
-/

namespace Sys2Proof.Proofs.CodecRows

open Sys2Proof Sys2Proof.Machine Sys2Proof.Laws

variable {v : State}

/-! ## BLOCK_DECODE_DONE (R225, R227, R233) -/

/-- The state once unit `u` is free. -/
def unitFreed (u : Nat) (v : State) : State := { v with plait := { v.plait with units := v.plait.units.erase u } }

/-- What a unit has produced up to the window's end goes to the ring and is counted, and the unit keeps its block. -/
def blockSuspended (u : Nat) (r : PlaneRec) (w : Work) (d : Decoded) (v : State) : State :=
  let x := (v.keepOutput r w d).giveWork u (v.suspended w d)
  { x with plait := { x.plait with
    suspensions := v.plait.suspensions + 1, bytesDecoded := v.plait.bytesDecoded + d.rev.length } }

/-- What becomes of the block of unit `u`, by how far its decoding got. -/
def stepTaken (u : Nat) (r : PlaneRec) (w : Work) (v : State) : DecodeStep → State
  | .suspend d => blockSuspended u r w d v
  | .empty => (unitFreed u v).settle w.bar w.plane w.block true
  | .bad c => (unitFreed u v).badBlock w.bar w.plane r w.block c
  | .done d => (unitFreed u v).finishBlock r w d

theorem blockDecodeDone_takes {u : Nat} {w : Work} {r : PlaneRec} {x : DecodeStep}
    (unit : Table.find? v.plait.units u = some w) (busy : w.suspended = false) (works : v.decodes = true)
    (plane : Table.find? v.inForce.planes w.plane = some r) (step : v.decodeStep r w = x) :
    blockDecodeDone u v = stepTaken u r w v x := by
  simp only [blockDecodeDone, unit, busy, works, plane, step, Bool.not_true, Bool.or_self, Bool.false_eq_true,
    if_false]
  cases x <;> rfl

/-! ## DECOMP_RESUME (R227) -/

/-- The units that hold a suspended block of a bar go on where the window has moved past it. -/
def unitsResumed (b : Nat) (v : State) : State :=
  { v with plait := { v.plait with units := v.plait.units.map (fun u =>
      if u.2.bar = b && u.2.suspended && v.windowMoved u.2 then (u.1, { u.2 with suspended := false }) else u) } }

theorem decompResume_unparked {b : Nat} (works : v.decodes = true) (unparked : (v.rbar b).parked = []) :
    decompResume b v = unitsResumed b v := by
  refine (if_neg (by simp [works])).trans ?_
  dsimp only
  split
  next w _ _ found _ =>
    have parked : w ∈ (v.rbar b).parked := List.mem_of_find?_eq_some found
    exact absurd parked (by simp [unparked])
  next => rfl

/-! ## The twin's blocks (R234, R323) -/

section Response

variable {p c : Nat}

/-- The work of decoding a block that the twin sent. -/
def peerWork (p c : Nat) (r : PlaneRec) (bs : List Byte) : Work :=
  { bar := r.bar, plane := p, block := c, peerBytes := some bs }

/-- The request for a block is no longer open. -/
def requestClosed (p c : Nat) (v : State) : State :=
  v.setPlane p { v.plane p with peer := (v.plane p).peer.filter (fun q => q.1 != c) }

theorem peerBlockResponse_unasked {o : Option (List Byte)}
    (unasked : (v.plane p).peer.any (fun q => q.1 == c) = false) : peerBlockResponse p c o v = v := by
  unfold peerBlockResponse
  dsimp only
  split
  next => rfl
  next => exact if_pos (by simp [unasked])

variable {r : PlaneRec} (plane : Table.find? v.inForce.planes p = some r)
  (asked : (v.plane p).peer.any (fun q => q.1 == c) = true)
include plane asked

theorem peerBlockResponse_refused : peerBlockResponse p c none v = v.peerFails p r c := by
  simp only [peerBlockResponse, plane, asked, Bool.not_true, Bool.false_eq_true, if_false]

theorem peerBlockResponse_decodes {bs : List Byte} {d : Decoded}
    (whole : (requestClosed p c v).decodeStep r (peerWork p c r bs) = .done d) :
    peerBlockResponse p c (some bs) v = (requestClosed p c v).finishBlock r (peerWork p c r bs) d := by
  rw [requestClosed, peerWork] at whole
  simp only [peerBlockResponse, plane, asked, Bool.not_true, Bool.false_eq_true, if_false, whole]
  rfl

end Response

theorem peerRequestTimeout_late {p : Nat} {q : Nat × Nat} {r : PlaneRec}
    (late : (v.plane p).peer.find? (fun q => decide (q.2 + 40000 ≤ v.tick)) = some q)
    (plane : Table.find? v.inForce.planes p = some r) : peerRequestTimeout p v = v.peerFails p r q.1 := by
  simp only [peerRequestTimeout, late, plane]

theorem peerRequestTimeout_waits {p : Nat} (early : ∀ q ∈ (v.plane p).peer, v.tick < q.2 + 40000) :
    peerRequestTimeout p v = v := by
  have none_late : (v.plane p).peer.find? (fun q => decide (q.2 + 40000 ≤ v.tick)) = none :=
    List.find?_eq_none.mpr fun q here => by simpa using early q here
  simp only [peerRequestTimeout, none_late]

theorem peerBlockRequest_undefined {p : Nat} (c : Nat) (undefined : Table.find? v.inForce.planes p = none) :
    peerBlockRequest p c v = v.emit (.peerResponse p c none) := by
  simp only [peerBlockRequest, undefined]

theorem peerBlockRequest_sends {p c : Nat} {r : PlaneRec} {e : IndexEntry}
    (plane : Table.find? v.inForce.planes p = some r) (entry : e = indexEntryOf (v.indexBytesOf r c))
    (inside : c < planeBlocks r) (valid : e.valid = true) (full : e.empty = false)
    (good : indexInvalid r c e = false) (clean : v.poisoned 2 e.offset e.length = false) :
    peerBlockRequest p c v = v.emit (.peerResponse p c (some (v.hbmRead e.offset e.length))) := by
  subst entry
  simp [peerBlockRequest, plane, Nat.not_le.mpr inside, valid, full, good, clean]

/-! ## SESSION_BLOCK_EMIT (R259) -/

section Session

variable {k : Nat}

theorem sessionBlockEmit_unbound (unbound : (v.session k).captured = none) : sessionBlockEmit k v = v := by
  simp only [sessionBlockEmit, unbound]

variable {r : PlaneRec} (captured : (v.session k).captured = some r)
include captured

theorem sessionBlockEmit_stopped (stopped : v.linkRuns = false) : sessionBlockEmit k v = v := by
  simp [sessionBlockEmit, captured, stopped]

/-- The blocks of the row that is complete are emitted, tile by tile. -/
def rowEmitted (k : Nat) (r : PlaneRec) (v : State) : State :=
  (List.range (tilesOf r.width)).foldl (fun s t => s.emitBlock k r
    (chunks (sessionLine r) (sessionRowLines (v.session k) r) (v.session k).raw) t) v

/-- Behind the blocks of a row of `n` raw bytes, the session has failed, ends, or goes on to the next row. -/
def rowPassed (k : Nat) (r : PlaneRec) (n : Nat) (u : State) : State :=
  let x := u.session k
  let left := x.raw.drop n
  if x.state ≠ .opened then (u.setSession k { x with raw := [] }).dropRaw k left.length
  else if planeRows r ≤ x.nextRow + 1 then
    State.post (ev Ev.sessionDone Cls.plane x.plane 0 (k + 256 * x.emitted.toNat))
      ((u.setSession k { x with
        state := .done, nextRow := x.nextRow + 1, raw := []
        excess := x.excess || !left.isEmpty }).dropRaw k left.length)
  else u.setSession k { x with nextRow := x.nextRow + 1, raw := left }

theorem sessionBlockEmit_emits (waits : rowWaits (v.session k) = true) (active : 0 < v.activeCount 2)
    (runs : v.linkRuns = true) (free : v.underTest 19 = false) : sessionBlockEmit k v
    = rowPassed k r (sessionRowLines (v.session k) r * sessionLine r) (rowEmitted k r v) := by
  have goes : (!rowWaits (v.session k) || v.activeCount 2 == 0 || !v.linkRuns || v.underTest 19) = false := by
    simp [waits, runs, free, Nat.pos_iff_ne_zero.mp active]
  simp only [sessionBlockEmit, captured, goes, Bool.false_eq_true, if_false, bne_iff_ne]
  rfl

end Session

/-! ## The rows -/

/-- Settles O51: each row is its operation at the row's moment, and each clause is one case of that operation. -/
theorem codecRows : Obligations.CodecRows := by
  unfold Obligations.CodecRows
  exact ⟨
    fun u _ _ _ => happens_of (f := blockDecodeDone u.val) (fun _ _ => rfl)
      fun _ ⟨unit, busy, works, plane, step⟩ => blockDecodeDone_takes unit busy works plane step,
    fun u _ _ => happens_of (f := blockDecodeDone u.val) (fun _ _ => rfl)
      fun _ ⟨unit, busy, works, plane, step⟩ => blockDecodeDone_takes unit busy works plane step,
    fun u _ _ _ => happens_of (f := blockDecodeDone u.val) (fun _ _ => rfl)
      fun _ ⟨unit, busy, works, plane, step⟩ => blockDecodeDone_takes unit busy works plane step,
    fun u _ _ _ => happens_of (f := blockDecodeDone u.val) (fun _ _ => rfl)
      fun _ ⟨unit, busy, works, plane, step⟩ => blockDecodeDone_takes unit busy works plane step,
    fun b => happens_of (f := decompResume b.val) (fun _ _ => rfl) fun _ ⟨works, unparked⟩ =>
      decompResume_unparked works unparked,
    fun p c _ => happens_of (f := peerBlockResponse p.val c none) (fun _ _ => rfl) fun _ ⟨plane, asked⟩ =>
      peerBlockResponse_refused plane asked,
    fun p c bs _ _ _ => happens_of (f := peerBlockResponse p.val c (some bs)) (fun _ _ => rfl)
      fun _ ⟨plane, asked, closed, whole⟩ => by subst closed; exact peerBlockResponse_decodes plane asked whole,
    fun p c o => happens_of (f := peerBlockResponse p.val c o) (fun _ _ => rfl) fun _ unasked =>
      peerBlockResponse_unasked unasked,
    fun p _ _ => happens_of (f := peerRequestTimeout p.val) (fun _ _ => rfl) fun _ ⟨late, plane⟩ =>
      peerRequestTimeout_late late plane,
    fun p => happens_of (f := peerRequestTimeout p.val) (fun _ _ => rfl) fun _ early =>
      peerRequestTimeout_waits early,
    fun p c _ _ => happens_of (f := peerBlockRequest p.val c) (fun _ _ => rfl)
      fun _ ⟨plane, entry, inside, valid, full, good, clean⟩ =>
        peerBlockRequest_sends plane entry inside valid full good clean,
    fun p c => happens_of (f := peerBlockRequest p.val c) (fun _ _ => rfl) fun _ undefined =>
      peerBlockRequest_undefined c undefined,
    fun k => happens_of (f := sessionBlockEmit k.val) (fun _ _ => rfl) fun _ unbound =>
      sessionBlockEmit_unbound unbound,
    fun k _ => happens_of (f := sessionBlockEmit k.val) (fun _ _ => rfl) fun _ ⟨captured, stopped⟩ =>
      sessionBlockEmit_stopped captured stopped,
    fun k _ => happens_of (f := sessionBlockEmit k.val) (fun _ _ => rfl)
      fun _ ⟨captured, waits, active, runs, free⟩ => sessionBlockEmit_emits captured waits active runs free⟩

end Sys2Proof.Proofs.CodecRows

/-!
PROOFS. Actions of PLAIT and CANE (R257, R262, R263, R295): one equation per case of a command's body.
-/

namespace Sys2Proof.Proofs.CodecCommands

open Sys2Proof Sys2Proof.Machine Sys2Proof.Laws
open Sys2Proof.Proofs.RasterReports (onEntries_inside onEntries_beyond)

variable {v : State} {rq : Request} {r : PlaneRec}

/-! ## PLAIT.SESSION_OPEN (R257) -/

section SessionOpen

variable (session : fld rq.payload 0 1 < 16) (number : fld rq.payload 1 1 < 64)
include session number

theorem plaitSessionOpenBody_inUse (taken : (v.session (fld rq.payload 0 1)).state ≠ .closed) :
    plaitSessionOpenBody rq v = .refuse Rc.sessionInUse 0 0 [] :=
  (checked_ok (by simp [session, number])).trans (if_pos (by simpa using taken))

variable (closed : (v.session (fld rq.payload 0 1)).state = .closed)
include closed

theorem plaitSessionOpenBody_undefined (undefined : Table.find? v.inForce.planes (fld rq.payload 1 1) = none) :
    plaitSessionOpenBody rq v = .refuse Rc.planeUndefined Cls.plane (fld rq.payload 1 1) [] := by
  refine (checked_ok (by simp [session, number])).trans ((if_neg (by simp [closed])).trans ?_)
  rw [undefined]
  rfl

/-- On a plane that is defined, the row at which the session starts decides. -/
theorem plaitSessionOpenBody_defined (plane : Table.find? v.inForce.planes (fld rq.payload 1 1) = some r) :
    plaitSessionOpenBody rq v
    = if planeRows r ≤ fld rq.payload 4 4 then .refuse Rc.startRowRange 0 0 []
      else .done (v.setSession (fld rq.payload 0 1)
        { state := .opened, plane := fld rq.payload 1 1, captured := some r, empties := bit (fld rq.payload 2 1) 0
          storedOnly := bit (fld rq.payload 2 1) 1, nextRow := fld rq.payload 4 4 }) [] := by
  refine (checked_ok (by simp [session, number])).trans ((if_neg (by simp [closed])).trans ?_)
  rw [plane]
  rfl

end SessionOpen

/-! ## PLAIT.SESSION_END (R262) -/

section SessionEnd

variable (session : fld rq.payload 0 1 < 16)
include session

theorem plaitSessionEndBody_closed (closed : (v.session (fld rq.payload 0 1)).state = .closed) :
    plaitSessionEndBody rq v = .refuse Rc.sessionNotOpen 0 0 [] :=
  (checked_ok (by simp [session])).trans (if_pos (by simp [closed]))

variable (taken : (v.session (fld rq.payload 0 1)).state ≠ .closed)
include taken

theorem plaitSessionEndBody_bound (bound : (v.session (fld rq.payload 0 1)).port ≠ none) :
    plaitSessionEndBody rq v = .refuse Rc.sessionBound 0 0 [] :=
  (checked_ok (by simp [session])).trans
    ((if_neg (by simpa using taken)).trans (if_pos (Option.isSome_iff_ne_none.mpr bound)))

theorem plaitSessionEndBody_unbound (unbound : (v.session (fld rq.payload 0 1)).port = none) :
    plaitSessionEndBody rq v
    = .done (v.endSession (fld rq.payload 0 1)) (le 4 (v.session (fld rq.payload 0 1)).raw.length) :=
  (checked_ok (by simp [session])).trans ((if_neg (by simpa using taken)).trans (if_neg (by simp [unbound])))

end SessionEnd

/-! ## PLAIT.VERIFY and PLAIT.DECODE (R263) -/

section Jobs

variable (number : fld rq.payload 0 1 < 64) (plane : Table.find? v.inForce.planes (fld rq.payload 0 1) = some r)
include number plane

theorem plaitVerifyBody_inside (some_ : 1 ≤ fld rq.payload 8 4)
    (inside : fld rq.payload 4 4 + fld rq.payload 8 4 ≤ planeBlocks r) : plaitVerifyBody rq v
    = .accept { v with plait := { v.plait with jobs := v.plait.jobs ++
        [((v.waiterOf rq 0x0703), true, fld rq.payload 0 1, fld rq.payload 4 4, fld rq.payload 8 4)] } } :=
  (checked_ok (by simp [number, some_])).trans (onEntries_inside plane inside)

theorem plaitVerifyBody_beyond (some_ : 1 ≤ fld rq.payload 8 4)
    (beyond : planeBlocks r < fld rq.payload 4 4 + fld rq.payload 8 4) :
    plaitVerifyBody rq v = .refuse Rc.indexRange 0 0 [] :=
  (checked_ok (by simp [number, some_])).trans (onEntries_beyond plane beyond)

/-- For a block of the plane, the destination of its bytes decides. -/
theorem plaitDecodeBody_inside (inside : fld rq.payload 4 4 + 1 ≤ planeBlocks r) : plaitDecodeBody rq v
    = if !destOk v.inForce (fld rq.payload 8 8) (blockBytes r (fld rq.payload 4 4)) then .refuse Rc.destRange 0 0 []
      else .accept { v with plait := { v.plait with jobs := v.plait.jobs ++
        [((v.waiterOf rq 0x0705), false, fld rq.payload 0 1, fld rq.payload 4 4, fld rq.payload 8 8)] } } :=
  (checked_ok (by simp [number])).trans (onEntries_inside plane inside)

end Jobs

/-! ## CANE.RETRAIN (R295) -/

/-- The log entry of a retraining. -/
def retrainEntry (rq : Request) : LogReq :=
  { origin := .mbx rq.mbx.val, cls := Cls.canePort, obj := fld rq.payload 0 1 }

/-- Port `p` of `u`, whose record is `x`, goes DOWN for a reason and forgets its traffic. -/
def portDropped (p : Nat) (x : Port) (reason : Reason) (u : State) : State :=
  ((u.setPort p { dropTraffic x with downReason := reason }).forgetAwaits p).enterPort p .down 0

/-- Port `p` of `u` is taken down to train again: one that is UP and in use is lost, any other is dropped. -/
def portTakenDown (p : Nat) (u : State) : State :=
  if (u.port p).state == .up && u.portInUse p then u.losePort p
  else portDropped p (u.port p) (if (u.port p).state == .up then 0 else (u.port p).downReason) u

theorem portDropped_rung (p : Nat) (x : Port) (reason : Reason) (u : State) :
    (portDropped p x reason u).rung = u.rung :=
  (keeps_enterPort _ _ _ _).2.1.trans (keeps_forgetAwaits _ _).2.1

theorem port_logOpen (q : LogReq) (p : Nat) : (v.logOpen q).port p = v.port p := by
  rw [State.port, State.port, logOpen_ports]

theorem portInUse_logOpen (q : LogReq) (p : Nat) : (v.logOpen q).portInUse p = v.portInUse p := by
  rw [logOpen_eq]
  rfl

section Retrain

variable (port : fld rq.payload 0 1 < 32)
include port

theorem caneRetrainBody_off (off : (v.port (fld rq.payload 0 1)).state = .off) :
    caneRetrainBody rq v = .done (v.logOpen (retrainEntry rq)) [] :=
  (checked_ok (by simp [port])).trans (if_pos (by simp [port_logOpen, off]))

/-- A port that is not OFF is taken down, and trains while LINK runs. -/
theorem caneRetrainBody_on {u : State} (on : (v.port (fld rq.payload 0 1)).state ≠ .off)
    (down : portTakenDown (fld rq.payload 0 1) (v.logOpen (retrainEntry rq)) = u) (runs : u.linkRuns = true) :
    caneRetrainBody rq v = .done (u.startTraining (fld rq.payload 0 1)) [] := by
  refine (checked_ok (by simp [port])).trans ((if_neg (by simp [port_logOpen, on])).trans ?_)
  subst down
  exact congrArg (Verdict.done · []) (if_pos runs)

end Retrain

theorem portTakenDown_used {p : Nat} (q : LogReq) (up : (v.port p).state = .up) (used : v.portInUse p = true) :
    portTakenDown p (v.logOpen q) = (v.logOpen q).losePort p :=
  if_pos (by simp [port_logOpen, portInUse_logOpen, up, used])

theorem portTakenDown_notUp {p : Nat} (q : LogReq) (notUp : (v.port p).state ≠ .up) :
    portTakenDown p (v.logOpen q) = portDropped p (v.port p)
      (if (v.port p).state = .up then 0 else (v.port p).downReason) (v.logOpen q) := by
  rw [portTakenDown, port_logOpen, if_neg (by simp [notUp])]
  simp only [beq_iff_eq]

/-! ## All of them -/

open SystemCommands (logs_freely)

/-- Settles O35: each clause is one case of the command's body. -/
theorem codecAndCaneCommandsAct : Obligations.CodecAndCaneCommandsAct := by
  unfold Obligations.CodecAndCaneCommandsAct
  exact ⟨
    acts_of (fun _ _ _ => rfl)
      (fun _ _ ⟨session, number, closed, start⟩ => by
        split at start
        next r plane =>
          rw [plaitSessionOpenBody_defined session number closed plane, plane, if_neg (Nat.not_le.mpr start)]
        next => exact start.elim)
      (fun _ _ quiet => quiet) (fun _ _ _ _ => ⟨rfl, rfl⟩),
    denies_of (fun _ _ _ => rfl) fun _ _ ⟨session, number, taken⟩ =>
      plaitSessionOpenBody_inUse session number taken,
    denies_of (fun _ _ _ => rfl) fun _ _ ⟨session, number, closed, undefined⟩ =>
      plaitSessionOpenBody_undefined session number closed undefined,
    denies_of (fun _ _ _ => rfl) fun _ _ ⟨session, number, closed, start⟩ => by
      split at start
      next r plane => exact (plaitSessionOpenBody_defined session number closed plane).trans (if_pos start)
      next => exact start.elim,
    answers_of (fun _ _ _ => rfl)
      (fun _ _ ⟨session, _, taken, unbound⟩ => ⟨_, plaitSessionEndBody_unbound session taken unbound, rfl⟩)
      (fun _ _ quiet => quiet) (fun _ _ _ _ => ⟨rfl, rfl⟩),
    denies_of (fun _ _ _ => rfl) fun _ _ ⟨session, closed⟩ => plaitSessionEndBody_closed session closed,
    denies_of (fun _ _ _ => rfl) fun _ _ ⟨session, taken, bound⟩ => plaitSessionEndBody_bound session taken bound,
    accepts_of (fun _ _ _ => rfl)
      (fun _ _ ⟨number, some_, range⟩ => by
        split at range
        next r plane => exact plaitVerifyBody_inside number plane some_ range
        next => exact range.elim)
      (fun _ _ quiet => quiet) (fun _ _ _ _ => ⟨rfl, rfl⟩),
    denies_of (fun _ _ _ => rfl) fun _ _ ⟨number, some_, range⟩ => by
      split at range
      next r plane => exact plaitVerifyBody_beyond number plane some_ range
      next => exact range.elim,
    accepts_of (fun _ _ _ => rfl)
      (fun _ _ ⟨number, range⟩ => by
        split at range
        next r plane =>
          obtain ⟨inside, fits⟩ := range
          exact (plaitDecodeBody_inside number plane inside).trans (if_neg (by simp [fits]))
        next => exact range.elim)
      (fun _ _ quiet => quiet) (fun _ _ _ _ => ⟨rfl, rfl⟩),
    denies_of (fun _ _ _ => rfl) fun _ _ ⟨number, range⟩ => by
      split at range
      next r plane =>
        obtain ⟨inside, misfits⟩ := range
        exact (plaitDecodeBody_inside number plane inside).trans (if_pos (by simp [misfits]))
      next => exact range.elim,
    acts_of (fun _ _ _ => rfl) (fun _ _ all => checked_ok (by simp [all]))
      (fun _ _ quiet => quiet) (fun _ _ _ _ => ⟨rfl, rfl⟩),
    acts_of (fun _ _ _ => rfl) (fun _ _ ⟨port, _, off⟩ => caneRetrainBody_off port off)
      (fun _ _ quiet => (keeps_logOpen _ _).2.1.trans quiet) (logs_freely fun _ _ ⟨_, free, _⟩ => free),
    acts_of (fun _ _ _ => rfl)
      (fun _ _ ⟨port, _, on, used, up, runs⟩ => caneRetrainBody_on port on (portTakenDown_used _ up used) runs)
      (fun _ _ quiet => (keeps_startTraining _ _).2.1.trans
        ((keeps_losePort _ _).2.1 ((keeps_logOpen _ _).2.1.trans quiet)))
      (logs_freely fun _ _ ⟨_, free, _⟩ => free),
    acts_of (fun _ _ _ => rfl)
      (fun _ _ ⟨port, _, on, notUp, runs⟩ => caneRetrainBody_on port on (portTakenDown_notUp _ notUp) runs)
      (fun _ _ quiet => (keeps_startTraining _ _).2.1.trans
        ((portDropped_rung _ _ _ _).trans ((keeps_logOpen _ _).2.1.trans quiet)))
      (logs_freely fun _ _ ⟨_, free, _⟩ => free),
    acts_of (fun _ _ _ => rfl) (fun _ _ ⟨port, all⟩ => checked_ok (by simp [port, all]))
      (fun _ _ quiet => quiet) (fun _ _ _ _ => ⟨rfl, rfl⟩)⟩

end Sys2Proof.Proofs.CodecCommands

/-!
PROOFS. The reports of CANE and HEALTH (R295, R319): what each command's body answers once its fields are in range,
and where the fields of its payload lie.
-/

namespace Sys2Proof.Proofs.CaneReports

open Sys2Proof Sys2Proof.Machine Sys2Proof.Laws

variable {v : State} {rq : Request}

/-! ## CANE.MODULE_INFO (R295) -/

/-- The layout of a module's status in CANE.MODULE_INFO. -/
def moduleInfoBytes (x : Sts) : List Byte :=
  le 2 x.protocol ++ le 2 x.vendor ++ le 2 x.moduleType ++ le 1 x.headsPresent.toNat
    ++ le 1 x.bufferLines ++ le 4 x.moduleFw.toNat ++ le 1 x.source ++ le 1 (moduleFlags x) ++ zeros 2

theorem caneModuleInfoBody_passed {x : Sts} (port : fld rq.payload 0 1 < 32)
    (passed : (v.port (fld rq.payload 0 1)).passedHello = true) (status : (v.port (fld rq.payload 0 1)).sts = some x) :
    caneModuleInfoBody rq v = .done v (moduleInfoBytes x) := by
  refine (checked_ok (by simp [port])).trans ?_
  rw [passed, status]
  rfl

theorem laid_moduleInfoBytes (x : Sts) : Laid (moduleInfoBytes x) 16 [(0, 2, x.protocol), (2, 2, x.vendor),
    (4, 2, x.moduleType), (6, 1, x.headsPresent.toNat), (7, 1, x.bufferLines), (8, 4, x.moduleFw.toNat),
    (12, 1, x.source), (13, 1, moduleFlags x)] :=
  ⟨by simp [moduleInfoBytes], by simp [moduleInfoBytes, fld_left, fld_right, fld_le]⟩

/-! ## HEALTH.SUBST_READ (R319) -/

theorem length_substBytes (lost : Nat) (r : SubstRec) : (substBytes lost r).length = 24 := by simp [substBytes]

/-- The substitutions that HEALTH.SUBST_READ answers: the first `n` of the lost nozzles from `first` on. -/
def substsFrom (cfg : Cfg) (first n : Nat) : List (Nat × SubstRec) :=
  (cfg.substs.filter (fun (x : Nat × SubstRec) => decide (first ≤ x.1))).take n

/-- Substitutions that fit are laid out whole, and zeros fill the payload. -/
theorem substs_padded {l : List (Nat × SubstRec)} {n : Nat} (fits : l.length ≤ n) :
    (l.flatMap (fun x => substBytes x.1 x.2) ++ zeros (24 * n)).take (24 * n)
      = l.flatMap (fun x => substBytes x.1 x.2) ++ zeros (24 * n - 24 * l.length) := by
  have size := length_fields 24 (fun x : Nat × SubstRec => substBytes x.1 x.2) (fun x => length_substBytes x.1 x.2) l
  rw [List.take_append, List.take_of_length_le (by omega), size, zeros, List.take_replicate, Nat.min_eq_left (by omega)]
  rfl

theorem healthSubstReadBody_eq (first : fld rq.payload 0 4 < 2097152) (some_ : 1 ≤ fld rq.payload 4 2)
    (few : fld rq.payload 4 2 ≤ 41) : healthSubstReadBody rq v
    = .done v (((substsFrom (v.readCfg rq) (fld rq.payload 0 4) (fld rq.payload 4 2)).flatMap
        (fun x => substBytes x.1 x.2) ++ zeros (24 * fld rq.payload 4 2)).take (24 * fld rq.payload 4 2)) :=
  checked_ok (by simp [first, some_, few])

/-! ## HEALTH.STATUS (R319) -/

/-- The report of a bar. -/
def barStatusBytes (v : State) (b : Nat) : List Byte :=
  le 1 (b2n (v.sweep b).active + 2 * b2n ((v.sweep b).active && v.stage != 0)) ++ zeros 7
    ++ healthCounters (v.barStat b)
      (v.inForce.substs.filter (fun (x : Nat × SubstRec) => v.inForce.nozzleBar x.1 == b)).length
      (v.barStat b).saturated.toNat
    ++ le 4 (v.sweep b).lastDuration

/-- The report of a head. -/
def headStatusBytes (v : State) (h : Nat) : List Byte :=
  le 1 (b2n (v.heater h).degraded + 2 * b2n (tempRec v.inForce h).enable + 4 * b2n (v.heater h).tempLost
      + 8 * b2n (v.heater h).overTemp)
    ++ zeros 1 ++ leInt 2 ((v.lastTemp h).getD (-32768)) ++ le 2 (v.heater h).sentDuty ++ zeros 2
    ++ healthCounters (v.headStat h) (lostOfHead v.inForce h) (v.headStat h).saturated.toNat
    ++ le 4 (v.headStat h).dropped.toNat

theorem healthStatusBody_bar (kind : fld rq.payload 0 1 = 0) (bar : fld rq.payload 2 2 < 16) :
    healthStatusBody rq v = .done v (barStatusBytes v (fld rq.payload 2 2)) :=
  (checked_ok (by simp [kind, bar])).trans (if_pos kind)

theorem healthStatusBody_head (kind : fld rq.payload 0 1 = 1) (head : fld rq.payload 2 2 < 256) :
    healthStatusBody rq v = .done v (headStatusBytes v (fld rq.payload 2 2)) :=
  (checked_ok (by simp [kind, head])).trans (if_neg (by simp [kind]))

/-! ## HEALTH.GET (R319) -/

/-- What HEALTH.GET answers for the kind `w`: the record that the request names, in the layout of its SET command. -/
def healthReport (rq : Request) (v : State) (w : Nat) : List Byte :=
  let id := fld rq.payload 2 2
  let cfg := v.readCfg rq
  match w with
  | 0 => policyBytes id (policyRec cfg id)
  | 1 => refBytes (id / 8) (id % 8) (refRec cfg (id / 8) (id % 8))
  | _ => tempBytes id (tempRec cfg id)

theorem healthGetBody_eq (kind : fld rq.payload 0 1 < 3)
    (inside : fld rq.payload 2 2 < if fld rq.payload 0 1 = 0 then 16 else if fld rq.payload 0 1 = 1 then 2048 else 256) :
    healthGetBody rq v = .done v (healthReport rq v (fld rq.payload 0 1)) := by
  refine checked_ok ?_
  simp only [List.forall_mem_cons, kind, decide_true, decide_eq_true_eq, true_and]
  refine ⟨?_, by simp⟩
  -- kind by kind, the two bounds are one number
  generalize fld rq.payload 0 1 = w at kind inside ⊢
  interval_cases w <;> exact inside

/-! ## All of them -/

/-- Settles O22: each report leaves the state; its payload is laid out field by field, or is the record asked for. -/
theorem caneAndHealthReadsAnswer : Obligations.CaneAndHealthReadsAnswer := by
  unfold Obligations.CaneAndHealthReadsAnswer
  refine ⟨
    reads_of (fun _ _ _ => rfl) rfl fun _ _ port => ⟨_, checked_ok (by simp [port]), by simp, ?_⟩,
    reads_of (fun _ _ _ => rfl) rfl fun _ _ ⟨port, passed, known⟩ => ?_,
    reads_of (fun _ _ _ => rfl) rfl fun _ _ port => ⟨_, checked_ok (by simp [port]), rfl⟩,
    reads_of (fun _ _ _ => rfl) rfl fun _ _ ⟨first, some_, few, inside⟩ =>
      ⟨_, checked_ok (by simp [first, some_, few, inside]), rfl⟩,
    reads_of (fun _ _ _ => rfl) rfl fun _ _ ⟨first, some_, few⟩ =>
      ⟨_, healthSubstReadBody_eq first some_ few, by simp, _, substs_padded (List.length_take_le _ _)⟩,
    reads_of (fun _ _ _ => rfl) rfl fun rq _ ⟨kind, inside⟩ => ?_,
    reads_of (fun _ _ _ => rfl) rfl fun _ _ ⟨kind, inside⟩ => ⟨_, healthGetBody_eq kind inside, ?_⟩⟩
  · simp [fld_left, fld_right, fld_le, fld_leInt]
  · obtain ⟨x, status⟩ := Option.isSome_iff_exists.mp known
    refine ⟨_, caneModuleInfoBody_passed port passed status, fun y same => ?_⟩
    rw [← Option.some.inj (status.symm.trans same)]
    exact laid_moduleInfoBytes x
  · obtain bar | head : fld rq.payload 0 1 = 0 ∨ fld rq.payload 0 1 = 1 := by omega
    · rw [if_pos bar] at inside
      refine ⟨_, healthStatusBody_bar bar inside, fun _ => ?_, fun head => absurd (bar.symm.trans head) (by decide)⟩
      simp [Laid, barStatusBytes, healthCounters, fld_left, fld_right, fld_le]
    · rw [if_neg (by simp [head])] at inside
      refine ⟨_, healthStatusBody_head head inside, fun bar => absurd (bar.symm.trans head) (by decide), fun _ => ?_⟩
      simp [Laid, headStatusBytes, healthCounters, fld_left, fld_right, fld_le, fld_leInt]
  · and_intros <;> (intro what; rw [what]; rfl)

end Sys2Proof.Proofs.CaneReports

/-!
PROOFS. The rows of the Cane ports (R266, R270, R282–R285, R288–R290, R293, R294): one equation per case of an
operation; the settling theorem at the end puts them together.
-/

namespace Sys2Proof.Proofs.CaneRows

open Sys2Proof Sys2Proof.Machine Sys2Proof.Laws

variable {v : State} {p : Nat}

/-! ## Training (R266, R270, R289, R290) -/

theorem rxLocked_electrical (electrical : (v.port p).state = .electrical) :
    rxLocked p v = v.enterPort p .blockLock 0 := if_pos (by simp [electrical])

theorem rxLocked_other (other : (v.port p).state ≠ .electrical) : rxLocked p v = v := if_neg (by simp [other])

theorem blockLockAcquired_blockLock (i : Bool) (waits : (v.port p).state = .blockLock) :
    blockLockAcquired p i v = (v.setPort p { v.port p with inverted := i }).enterPort p .rimLock 0 :=
  if_pos (by simp [waits])

/-- In RIM_LOCK the blocks spaced like rims are counted, and the fourth ends it. -/
theorem rimReceived_rimLock {n : Nat} (f k spaced : Bool) (locks : (v.port p).state = .rimLock)
    (count : (if spaced then (v.port p).rims + 1 else 1) = n) : rimReceived p f k spaced v
    = if 4 ≤ n then (v.setPort p { v.port p with rims := n }).enterPort p .hello 0
      else v.setPort p { v.port p with rims := n } := by
  subst count
  simp only [rimReceived, locks]

/-- In UP a RIM block carries the module's FAULT and its block lock. -/
theorem rimReceived_up {f k : Bool} (spaced : Bool) {u : State} (up : (v.port p).state = .up)
    (heard : (if k then v else v.setPort p { v.port p with buffered := [] }) = u) :
    rimReceived p f k spaced v = if f then u.losePort p else u := by
  subst heard
  simp only [rimReceived, up]

theorem trainTimeout_due {us : Nat} (limit : trainTimeoutUs (v.port p).state = some us)
    (due : (v.port p).since + us * 400 ≤ v.tick) : trainTimeout p v
    = ((v.setPort p { dropTraffic (v.port p) with retry := true, timedOut := true }).enterPort p .down
        Rc.trainTimeout).judgeDown p := by
  simp only [trainTimeout, limit]
  exact if_neg (Nat.not_lt.mpr due)

theorem trainRestart_trains (down : (v.port p).state = .down) (free : v.underTest (11 + p / 16) = false)
    (atOnce : (v.port p).retry = false) : trainRestart p v = (v.startTraining p).judgeDown p :=
  if_pos (by simp [down, free, atOnce])

theorem trainRestart_waits (retry : (v.port p).retry = true) (early : v.tick < (v.port p).since + 4000000) :
    trainRestart p v = v := if_neg (by simp [retry, early])

/-! ## STS and HLT (R293, R294) -/

/-- A port keeps the latest status of its module. -/
def stsKept (p : Nat) (x : Sts) (v : State) : State :=
  v.setPort p { v.port p with sts := some x, stsAt := v.aon, source := x.source }

section Status

variable {x : Sts} (same : x.source = (v.port p).source) (sound : x.fault = false) (flags : headFlags x = 0)
include same sound flags

theorem stsReceived_up (up : (v.port p).state = .up) : stsReceived p x v = stsKept p x v := by
  simp [stsReceived, stsKept, up, same, sound, flags]

/-- In HELLO the module's protocol and the lines that it buffers decide the training. -/
theorem stsReceived_hello (hello : (v.port p).state = .hello) : stsReceived p x v
    = if x.protocol = 1 ∧ 8 ≤ x.bufferLines then
        ((stsKept p x v).setPort p { (stsKept p x v).port p with passedHello := true, lastTsy := 0 }).enterPort p
          .tsyAlign 0
      else (stsKept p x v).enterPort p .incompatible Rc.moduleIncompatible := by
  simp [stsReceived, stsKept, hello, same, sound, flags]

end Status

theorem hltReceived_queues {k : Nat} {l : List HltRec} {u : State} (up : (v.port p).state = .up)
    (sent : u = v.sendFrame p (.ack [k])) (leads : u.healthLeads = true) :
    hltReceived p k l v = u.queueHlt p l := by
  subst sent
  exact (if_neg (by simp [up])).trans (if_pos leads)

theorem hltReceived_other (k : Nat) (l : List HltRec) (other : (v.port p).state ≠ .up) : hltReceived p k l v = v :=
  if_pos (by simp [other])

/-! ## ACK and NAK (R283, R284, R288) -/

section Unacked

variable {k : Nat}

theorem ackReceived_unknown (a b c : Nat) (unknown : (v.port p).unacked.find? (fun f => f.seq == k) = none) :
    ackReceived p k a b c v = v := by simp only [ackReceived, unknown]

theorem nakReceived_unknown (c : Nat) (unknown : (v.port p).unacked.find? (fun f => f.seq == k) = none) :
    nakReceived p k c v = v.setPort p { v.port p with naks := (v.port p).naks + 1 } := by
  simp only [nakReceived, unknown]

variable {f : TxFrame} (sent : (v.port p).unacked.find? (fun f => f.seq == k) = some f)
include sent

theorem ackReceived_tsy {q t : Nat} {e : Int} (a b c : Nat) (body : f.body = .tsy q t e) : ackReceived p k a b c v
    = (v.setPort p { v.port p with unacked := (v.port p).unacked.filter (fun g => g.seq != k) }).tsyExchange p
        t a b c := by
  simp only [ackReceived, sent, body]

theorem nakReceived_retransmits (c : Nat) : nakReceived p k c v
    = (v.setPort p { v.port p with naks := (v.port p).naks + 1 }).retransmit p f := by
  simp only [nakReceived, sent]

theorem ackTimeout_due (due : f.sentAt + frameTicks f.body + 1600 ≤ v.tick)
    (alone : ∀ g ∈ (v.port p).waiting, ¬ (g.rank = 3 ∧ g.seq = k)) : ackTimeout p k v = v.retransmit p f := by
  simp only [ackTimeout, sent]
  refine if_neg ?_
  simpa [Nat.not_lt.mpr due] using alone

theorem ackTimeout_early (early : v.tick < f.sentAt + frameTicks f.body + 1600) : ackTimeout p k v = v := by
  simp only [ackTimeout, sent]
  exact if_pos (by simp [early])

end Unacked

/-! ## LINE_DEADLINE (R285) -/

/-- The record of a port on which the line `x` of a bar is late. -/
def lineLate (x : Nat × Word) (y : Port) : Port :=
  { y with
    unacked := y.unacked.filter (fun f => frameLine f.body != some x)
    lateLines := y.lateLines + 1, lateFor := x :: y.lateFor }

section Deadline

variable {b : Nat} {l : Word}

theorem lineDeadline_late {f : Nat} (fires : v.lineFire b l = some f) (due : f ≤ 16 * v.tick + 12800)
    (serves : v.portServes p = true) (on : (v.inForce.portsOf b).contains p = true)
    (first : (b, l) ∉ (v.port p).lateFor) (open_ : v.nozOpen p b l = true) : lineDeadline p b l v
    = (v.setPort p (lineLate (b, l) (v.port p))).postLimited ⟨Ev.caneLate, p, 0⟩
        (caneLateBody p (lineLate (b, l) (v.port p)) l) := by
  simp only [lineDeadline, fires]
  exact if_pos ⟨due, serves, on, by simp [first], open_⟩

theorem lineDeadline_unticketed (unticketed : v.lineFire b l = none) : lineDeadline p b l v = v := by
  simp only [lineDeadline, unticketed]

theorem lineDeadline_closed (closed : v.nozOpen p b l = false ∨ v.portServes p = false) :
    lineDeadline p b l v = v := by
  unfold lineDeadline
  dsimp only
  split
  next => rfl
  next =>
    refine if_neg fun ⟨_, serves, _, _, open_⟩ => ?_
    obtain shut | dead := closed
    · simp [shut] at open_
    · simp [dead] at serves

end Deadline

/-! ## TSY_SEND (R288) -/

/-- A port sends a TSY frame with the offset that it has to make good. -/
def tsySent (p : Nat) (v : State) : State :=
  (v.setPort p { v.port p with lastTsy := v.tick, adj := 0, tsySeq := ((v.port p).tsySeq + 1) % 65536 }).sendFrame p
    (.tsy (v.port p).tsySeq 0 (v.port p).adj)

theorem tsySend_configured (on : (v.port p).state = .up ∨ (v.port p).state = .config)
    (due : (v.port p).lastTsy + (portRec v.inForce p).tsyPeriod * 400000 ≤ v.tick) : tsySend p v = tsySent p v := by
  obtain on | on := on <;> (simp only [tsySend, tsySent, on]; exact if_neg (Nat.not_lt.mpr due))

theorem tsySend_aligns (aligns : (v.port p).state = .tsyAlign) (due : (v.port p).lastTsy + 4000 ≤ v.tick) :
    tsySend p v = tsySent p v := by
  simp only [tsySend, tsySent, aligns]
  exact if_neg (Nat.not_lt.mpr due)

/-! ## CFG frames (R282, R289) -/

theorem framed_sendAs (rank p : Nat) (f : FrameBody) (s : State) : Framed s (s.sendAs rank p f) :=
  framed_trans (t := s.setPort p _) rfl (framed_pumpFrames _ _ _)

section Banked

variable {rank : Nat} {acc : State × List (Nat × Nat)} {f : Nat × Nat × List Byte}

theorem sendBanked_up (up : (acc.1.port f.1).state = .up) : State.sendBanked rank acc f
    = (acc.1.sendAs rank f.1 (.cfg f.2.1 f.2.2), acc.2 ++ [(f.1, (acc.1.port f.1).seq)]) := by
  simp only [State.sendBanked, up]

/-- A port in CONFIG waits for the frame's acknowledgement before it is UP. -/
def configAwaits (p seq : Nat) (s : State) : State :=
  s.setPort p { s.port p with configWaits := (s.port p).configWaits ++ [seq] }

theorem sendBanked_config (config : (acc.1.port f.1).state = .config) : State.sendBanked rank acc f
    = (configAwaits f.1 (acc.1.port f.1).seq (acc.1.sendAs 5 f.1 (.cfg f.2.1 f.2.2)), acc.2) := by
  simp only [State.sendBanked, config, configAwaits]

theorem sendBanked_deaf (notUp : (acc.1.port f.1).state ≠ .up) (notConfig : (acc.1.port f.1).state ≠ .config) :
    State.sendBanked rank acc f = acc := by
  unfold State.sendBanked
  dsimp only
  split
  next up => exact absurd up notUp
  next config => exact absurd config notConfig
  next => rfl

theorem framed_sendBanked : Framed acc.1 (State.sendBanked rank acc f).1 := by
  by_cases up : (acc.1.port f.1).state = .up
  · rw [sendBanked_up up]
    exact framed_sendAs _ _ _ _
  · by_cases config : (acc.1.port f.1).state = .config
    · rw [sendBanked_config config]
      exact framed_trans (framed_sendAs _ _ _ _) rfl
    · rw [sendBanked_deaf up config]
      rfl

end Banked

theorem framed_sendCfg (first : Bool) (frames : List (Nat × Nat × List Byte)) (s : State) :
    Framed s (s.sendCfg first frames).1 :=
  List.foldlRecOn (motive := fun acc : State × List (Nat × Nat) => Framed s acc.1) frames _ rfl
    fun _ framed _ _ => framed_trans framed framed_sendBanked

theorem sendCfg_deaf {first : Bool} {frames : List (Nat × Nat × List Byte)}
    (deaf : ∀ f ∈ frames, (v.port f.1).state ≠ .up ∧ (v.port f.1).state ≠ .config) :
    v.sendCfg first frames = (v, []) := by
  refine List.foldlRecOn (motive := (· = (v, []))) frames _ rfl ?_
  rintro _ rfl f here
  exact sendBanked_deaf (deaf f here).1 (deaf f here).2

/-! ## BANK_CATCHUP (R282) -/

theorem bankCatchup_sent (sent : ∀ c ∈ v.catchUps, c.sent = true) : bankCatchup v = v := by
  unfold bankCatchup
  dsimp only
  split
  next => rfl
  next c found =>
    have unsent := List.find?_some found
    simp [sent c (List.mem_of_find?_eq_some found)] at unsent

/-- No fire names a bank that a catch-up writes any more. -/
def BanksQuiet (c : CatchUp) (v : State) : Prop :=
  ∀ x ∈ c.bars, v.bankOf x.1 ≠ x.2.2 ∧ (v.trig (v.inForce.trigOf x.1)).pulses = [] ∧
    (∀ l ∈ (v.trig (v.inForce.trigOf x.1)).lines, l.bank ≠ x.2.2) ∧ (∀ f ∈ v.fires, f.1 = x.1 → f.2 ≤ v.tick)

/-- What the schedule asks of a bar, its commit and its old bank before a catch-up writes into that bank. -/
def bankFree (v : State) (x : Nat × Word × Nat) : Bool :=
  v.bankOf x.1 != x.2.2
    && (v.trig (v.inForce.trigOf x.1)).lines.all (fun l => l.bank != x.2.2)
    && (v.trig (v.inForce.trigOf x.1)).pulses.isEmpty
    && v.fires.all (fun f => f.1 != x.1 || decide (f.2 ≤ v.tick))

theorem all_bankFree {c : CatchUp} (quiet : BanksQuiet c v) : c.bars.all (bankFree v) = true :=
  List.all_eq_true.mpr fun x here => by
    obtain ⟨bank, pulses, lines, fires⟩ := quiet x here
    have ended : ∀ y t, (y, t) ∈ v.fires → y ≠ x.1 ∨ t ≤ v.tick := fun y _ here =>
      (ne_or_eq y x.1).imp_right (fires _ here)
    simpa [bankFree, bank, pulses] using ⟨lines, ended⟩

/-- The catch-ups that are left of one whose frames are sent and await `l`. -/
def leftAwaiting (c : CatchUp) (l : List (Nat × Nat)) : List CatchUp :=
  if l.isEmpty then [] else [{ c with sent := true, awaits := l }]

/-- The only catch-up sends its frames once its banks are quiet, and is over when no port has to acknowledge one. -/
theorem bankCatchup_sends {c : CatchUp} {x : State} {l : List (Nat × Nat)} (only : v.catchUps = [c])
    (unsent : c.sent = false) (quiet : BanksQuiet c v) (sends : v.sendCfg false c.frames = (x, l)) :
    bankCatchup v = { x with catchUps := leftAwaiting c l } := by
  have found : v.catchUps.find? (fun c => !c.sent && c.bars.all (bankFree v)) = some c := by
    rw [only]
    exact List.find?_cons_of_pos (by simp [unsent, all_bankFree quiet])
  have kept : x.catchUps = [c] := by
    have framed := framed_sendCfg false c.frames v
    rw [sends] at framed
    exact (congrArg State.catchUps framed).trans only
  unfold bankFree at found
  simp only [bankCatchup, found, sends, kept, List.map_cons, List.map_nil, if_true, leftAwaiting]
  cases l <;> rfl

section Lone

variable {first : Bool} {frames : List (Nat × Nat × List Byte)} {a h : Nat} {w : List Byte}
  (lone : frames = [(a, h, w)])
include lone

/-- A lone frame to a port that is UP is awaited there. -/
theorem sendCfg_up (up : (v.port a).state = .up) : v.sendCfg first frames
    = (v.sendAs (if first then 4 else 5) a (.cfg h w), [(a, (v.port a).seq)]) := by
  subst lone
  exact sendBanked_up (acc := (v, [])) up

/-- A lone frame to a port in CONFIG is not awaited by the commit: the port itself waits for it. -/
theorem sendCfg_config (config : (v.port a).state = .config) : v.sendCfg first frames
    = (configAwaits a (v.port a).seq (v.sendAs 5 a (.cfg h w)), []) := by
  subst lone
  exact sendBanked_config (acc := (v, [])) config

end Lone

/-! ## The rows -/

/-- Settles O52: each row is its operation at the row's moment, and each clause is one case of that operation. -/
theorem caneRows : Obligations.CaneRows := by
  unfold Obligations.CaneRows
  exact ⟨
    fun p => happens_of (f := rxLocked p.val) (fun _ _ => rfl) fun _ electrical => rxLocked_electrical electrical,
    fun p => happens_of (f := rxLocked p.val) (fun _ _ => rfl) fun _ other => rxLocked_other other,
    fun p i => happens_of (f := blockLockAcquired p.val i) (fun _ _ => rfl) fun _ waits =>
      blockLockAcquired_blockLock i waits,
    fun p => happens_of (f := blockLockLoss p.val) (fun _ _ => rfl) fun _ _ => rfl,
    fun p f k => happens_of (f := rimReceived p.val f k true) (fun _ _ => rfl) fun _ ⟨locks, three⟩ =>
      rimReceived_rimLock f k true locks (n := 4) (by simp [three]),
    fun p f k => happens_of (f := rimReceived p.val f k false) (fun _ _ => rfl) fun _ locks =>
      rimReceived_rimLock f k false locks rfl,
    fun p => happens_of (f := rimReceived p.val false false true) (fun _ _ => rfl) fun _ up =>
      rimReceived_up true up rfl,
    fun p => happens_of (f := rimReceived p.val true true true) (fun _ _ => rfl) fun _ up =>
      rimReceived_up true up rfl,
    fun p => happens_of (f := rimMissing p.val) (fun _ _ => rfl) fun _ _ => rfl,
    fun p _ => happens_of (f := trainTimeout p.val) (fun _ _ => rfl) fun _ ⟨limit, due⟩ => trainTimeout_due limit due,
    fun p => happens_of (f := trainRestart p.val) (fun _ _ => rfl) fun _ ⟨down, free, atOnce⟩ =>
      trainRestart_trains down free atOnce,
    fun p => happens_of (f := trainRestart p.val) (fun _ _ => rfl) fun _ ⟨_, retry, early⟩ =>
      trainRestart_waits retry early,
    fun p x => happens_of (f := stsReceived p.val x) (fun _ _ => rfl) fun _ ⟨up, same, sound, flags⟩ =>
      stsReceived_up same sound flags up,
    fun p x => happens_of (f := stsReceived p.val x) (fun _ _ => rfl)
      fun _ ⟨hello, same, sound, flags, protocol, lines⟩ =>
        (stsReceived_hello same sound flags hello).trans (if_pos ⟨protocol, lines⟩),
    fun p x => happens_of (f := stsReceived p.val x) (fun _ _ => rfl) fun _ ⟨hello, same, sound, flags, few⟩ =>
      (stsReceived_hello same sound flags hello).trans (if_neg fun ⟨_, lines⟩ => Nat.not_le.mpr few lines),
    fun p k l _ => happens_of (f := hltReceived p.val k l) (fun _ _ => rfl) fun _ ⟨up, sent, leads⟩ =>
      (hltReceived_queues up sent leads).trans (by rw [sent]),
    fun p k l => happens_of (f := hltReceived p.val k l) (fun _ _ => rfl) fun _ other => hltReceived_other k l other,
    fun p k a b c => happens_of (f := ackReceived p.val k a b c) (fun _ _ => rfl) fun _ unknown =>
      ackReceived_unknown a b c unknown,
    fun p k a b c _ _ _ _ => happens_of (f := ackReceived p.val k a b c) (fun _ _ => rfl) fun _ ⟨sent, body⟩ =>
      ackReceived_tsy sent a b c body,
    fun p k c _ => happens_of (f := nakReceived p.val k c) (fun _ _ => rfl) fun _ sent =>
      nakReceived_retransmits sent c,
    fun p k c => happens_of (f := nakReceived p.val k c) (fun _ _ => rfl) fun _ unknown =>
      nakReceived_unknown c unknown,
    fun p k _ => happens_of (f := ackTimeout p.val k) (fun _ _ => rfl) fun _ ⟨sent, due, alone⟩ =>
      ackTimeout_due sent due alone,
    fun p k _ => happens_of (f := ackTimeout p.val k) (fun _ _ => rfl) fun _ ⟨sent, early⟩ =>
      ackTimeout_early sent early,
    fun p b l _ => happens_of (f := lineDeadline p.val b.val l) (fun _ _ => rfl)
      fun _ ⟨fires, due, serves, on, first, open_⟩ => lineDeadline_late fires due serves on first open_,
    fun p b l => happens_of (f := lineDeadline p.val b.val l) (fun _ _ => rfl) fun _ closed =>
      lineDeadline_closed closed,
    fun p b l => happens_of (f := lineDeadline p.val b.val l) (fun _ _ => rfl) fun _ unticketed =>
      lineDeadline_unticketed unticketed,
    fun p => happens_of (f := tsySend p.val) (fun _ _ => rfl) fun _ ⟨on, due⟩ => tsySend_configured on due,
    fun p => happens_of (f := tsySend p.val) (fun _ _ => rfl) fun _ ⟨aligns, due⟩ => tsySend_aligns aligns due,
    happens_of (f := bankCatchup) (fun _ _ => rfl) fun _ none_ => bankCatchup_sent (by simp [none_]),
    fun _ => happens_of (f := bankCatchup) (fun _ _ => rfl) fun _ ⟨only, unsent, deaf, quiet⟩ =>
      bankCatchup_sends only unsent quiet (sendCfg_deaf deaf),
    fun _ _ _ _ => happens_of (f := bankCatchup) (fun _ _ => rfl) fun _ ⟨only, unsent, lone, up, quiet⟩ =>
      bankCatchup_sends only unsent quiet (sendCfg_up lone up),
    fun _ _ _ _ => happens_of (f := bankCatchup) (fun _ _ => rfl) fun _ ⟨only, unsent, sends, quiet⟩ =>
      bankCatchup_sends only unsent quiet sends,
    fun _ _ _ _ _ => happens_of (f := bankCatchup) (fun _ _ => rfl)
      fun _ ⟨only, unsent, lone, config, sent, quiet⟩ => by
        subst sent
        exact bankCatchup_sends only unsent quiet (sendCfg_config lone config),
    happens_of (f := bankCatchup) (fun _ _ => rfl) fun _ sent => bankCatchup_sent sent⟩

end Sys2Proof.Proofs.CaneRows

/-!
PROOFS. The three addressed memories (R351, R353, R408): in canonical form at reset and after every step, so that what
is written to HBM reads back.
-/

namespace Sys2Proof.Proofs.CanonicalMemories

open Sys2Proof Sys2Proof.Machine Sys2Proof.Laws

/-- A row keeps each of the three forms. -/
theorem canonicalMemories_of_keeps {s t : State} (kept : Keeps s t) (canonical : CanonicalMemories s) :
    CanonicalMemories t := by
  obtain ⟨hbm, onchip, flash⟩ := canonical
  obtain ⟨-, hbmKept, onchipKept, flashKept⟩ := kept
  exact ⟨hbmKept hbm, onchipKept onchip, flashKept flash⟩

/-- Settles O5: the front of the queue keeps the three forms, and an empty queue idles. -/
theorem stepsKeepTheMemoriesCanonical : Obligations.StepsKeepTheMemoriesCanonical := by
  intro s t canonical ran
  cases queue : s.pending with
  | nil =>
    rw [SystemState.anEmptyQueueIdles s queue] at ran
    injection ran with same
    exact same ▸ canonical
  | cons c l =>
    rw [Commands.step_cons queue] at ran
    exact canonicalMemories_of_keeps (Commands.exec_keeps { s with pending := l } t c ran) canonical

/-- The record in slot A lies in rising addresses, and no byte of it is erased. -/
theorem wf_recordAtReset : Memory.wf recordAtReset = true := by decide +kernel

/-- Settles O6: HBM and on-chip memory list no byte, and boot flash the record in slot A alone. -/
theorem resetIsCanonical : Obligations.ResetIsCanonical := ⟨⟨rfl, rfl, wf_recordAtReset⟩, rfl⟩

/-- Settles O12: the bytes of a write read back as a list, and one by one those outside read as before. -/
theorem hbmBytesReadBack : Obligations.HbmBytesReadBack := by
  intro s a bs canonical
  refine ⟨fun below => ?_, fun b outside => memRead_memWriteN_other bs s.mem.hbm a b outside, rfl⟩
  exact (if_pos below).trans (memReadN_memWriteN bs s.mem.hbm a canonical)

end Sys2Proof.Proofs.CanonicalMemories

/-!
PROOFS. The actions of HEALTH and PAIR (R314, R319, R341, R348): one equation per case of a command's body; the settling
theorem carries them through the exchange.
-/

namespace Sys2Proof.Proofs.HealthAndPairCommands

open Sys2Proof Sys2Proof.Machine Sys2Proof.Laws

variable {v : State} {rq : Request}

/-! ## HEALTH.REPORT_OUT and HEALTH.RELEASE_OUT (R314) -/

theorem healthReportOutBody_advisory (some_ : 1 ≤ fld rq.payload 0 2) (few : fld rq.payload 0 2 ≤ 250)
    (kind : fld rq.payload 2 1 < 3) (advisory : bit (fld rq.payload 3 1) 0 = true)
    (ok : ∀ f ∈ (nozzleListFields rq.payload).drop 1, f.1 = true) : healthReportOutBody rq v
    = .done ((nozzleIds rq.payload).foldl (fun s id => s.rawResult id (reportClass (fld rq.payload 2 1))) v) [] :=
  (checked_ok (List.forall_mem_cons.mpr ⟨by simp [some_, few],
    List.forall_mem_cons.mpr ⟨by simp [kind], ok⟩⟩)).trans (if_pos advisory)

/-- The record of a nozzle that the host releases: UNKNOWN, and no longer held. -/
def outReleased (id : Nat) (s : State) : State :=
  s.setRecord id (mkRecord 7 (recCandidate (s.record id)) (recCount (s.record id)) false (recLastRaw (s.record id)))

theorem outsReleased_log (ids : List Nat) (v : State) : (ids.foldl (fun s id => outReleased id s) v).log = v.log :=
  SystemState.foldl_view State.log (fun s id => outReleased id s) (fun _ _ => rfl) ids v

/-! ## HEALTH.CLEAR (R319) -/

theorem healthClearBody_bar (kind : fld rq.payload 0 1 = 0) (bar : fld rq.payload 2 2 < 16) : healthClearBody rq v
    = .done (if bit (fld rq.payload 1 1) 0 then v.setBarStat (fld rq.payload 2 2) {} else v) [] :=
  (checked_ok (by simp [kind, bar])).trans (if_pos kind)

/-- The counters of head `h` are cleared where bit 0 asks for it. -/
def headCleared (what h : Nat) (v : State) : State := if bit what 0 then v.setHeadStat h {} else v

theorem headCleared_heater (what h : Nat) (v : State) : (headCleared what h v).heater h = v.heater h := by
  unfold headCleared
  split <;> rfl

theorem healthClearBody_head (kind : fld rq.payload 0 1 = 1) (head : fld rq.payload 2 2 < 256) :
    healthClearBody rq v
    = .done (if bit (fld rq.payload 1 1) 1 then
          (headCleared (fld rq.payload 1 1) (fld rq.payload 2 2) v).setHeater (fld rq.payload 2 2)
            { v.heater (fld rq.payload 2 2) with degraded := false }
        else headCleared (fld rq.payload 1 1) (fld rq.payload 2 2) v) [] := by
  rw [← headCleared_heater (fld rq.payload 1 1) (fld rq.payload 2 2) v]
  exact (checked_ok (by simp [kind, head])).trans (if_neg (by simp [kind]))

/-! ## PAIR.CONFIG (R327, R348) -/

/-- The settings of a PAIR.CONFIG payload in the pair's record. -/
def pairConfigured (p : List Byte) (x : Pair) : Pair :=
  { x with hostBoth := fld p 0 1 == 1, actGpio := fld p 1 1, actLow := fld p 2 1 == 1, resyncMatch := fld p 3 1 }

/-- The state in which the settings are in force and logged. -/
def pairConfigTaken (rq : Request) (v : State) : State :=
  { (if v.pair.actGpio = 0xFF ∨ v.pair.actGpio = fld rq.payload 1 1 then v
      else v.emit (.actGpioOff v.pair.actGpio)) with
    pair := pairConfigured rq.payload v.pair }.driveActGpio.logEntry
    { origin := .mbx rq.mbx.val, old := crc32c (pairConfigBytes v.pair)
      new := crc32c (pairConfigBytes (pairConfigured rq.payload v.pair)) }

theorem driveActGpio_pair (v : State) : v.driveActGpio.pair = v.pair := by
  unfold State.driveActGpio
  split <;> rfl

/-- What firmware takes over of the settings, as one update. -/
theorem takePairConfig_eq (rq : Request) (v : State) : v.takePairConfig (fld rq.payload 0 1 == 1) (fld rq.payload 1 1)
      (fld rq.payload 2 1 == 1) (fld rq.payload 3 1)
    = { (if v.pair.actGpio = 0xFF ∨ v.pair.actGpio = fld rq.payload 1 1 then v
          else v.emit (.actGpioOff v.pair.actGpio)) with pair := pairConfigured rq.payload v.pair }.driveActGpio := by
  unfold State.takePairConfig pairConfigured
  simp only [Bool.or_eq_true, decide_eq_true_eq]
  split <;> rfl

theorem pairConfigTaken_inPair (rq : Request) (v : State) : (pairConfigTaken rq v).inPair = v.inPair := by
  simp only [State.inPair, pairConfigTaken, logEntry_pair, driveActGpio_pair, pairConfigured]

/-- Unit P of a pair sends its settings to unit S. -/
theorem pairConfigBody_eq (both : fld rq.payload 0 1 < 2) (gpio : fld rq.payload 1 1 < 16 ∨ fld rq.payload 1 1 = 0xFF)
    (low : fld rq.payload 2 1 < 2) (match_ : 16 ≤ fld rq.payload 3 1) : pairConfigBody rq v
    = .done (if v.inPair then (pairConfigTaken rq v).emit (.control (.pairConfig (fld rq.payload 0 1 == 1)
          (fld rq.payload 1 1) (fld rq.payload 2 1 == 1) (fld rq.payload 3 1)))
        else pairConfigTaken rq v) [] := by
  refine (checked_ok (by simp [both, gpio, low, match_])).trans ?_
  rw [← pairConfigTaken_inPair rq v]
  simp only [takePairConfig_eq, driveActGpio_pair, pairConfigTaken]
  rfl

/-! ## PAIR.PROMOTE (R342) -/

theorem pairPromoteBody_promotes (passive : v.acting = false) (alone : v.hbPresent = false) :
    pairPromoteBody rq v = .done (v.promote Rc.heartbeatLost) [] := by
  simp [pairPromoteBody, passive, alone]

theorem pairPromoteBody_acting (acting : v.acting = true) :
    pairPromoteBody rq v = .refuse Rc.alreadyActing 0 0 [] := if_pos acting

theorem pairPromoteBody_twinAlive (passive : v.acting = false) (alive : v.hbPresent = true) :
    pairPromoteBody rq v = .refuse Rc.twinAlive 0 0 [] := (if_neg (by simp [passive])).trans (if_pos alive)

/-! ## PAIR.RESYNC (R341) -/

theorem pairResyncBody_starts (unitS : v.pair.unitS = true) (unpromoted : v.pair.promoted = false)
    (linked : v.pair.state = .paired ∨ v.pair.state = .withdrawn) : pairResyncBody rq v
    = .accept { { v with pair := { v.pair with resyncFails := 0 } }.startResync 0 with
        pair := { ({ v with pair := { v.pair with resyncFails := 0 } }.startResync 0).pair with
          resyncWaiter := some (v.waiterOf rq 0x0A03) } } := by
  rw [pairResyncBody, if_pos (by simp [unitS, unpromoted, linked])]

theorem pairResyncBody_refused (other : v.pair.unitS = false ∨ v.pair.promoted = true
      ∨ v.pair.state ≠ .paired ∧ v.pair.state ≠ .withdrawn) :
    pairResyncBody rq v = .refuse Rc.notPaired 0 0 [] := by
  refine if_neg fun ready => ?_
  simp only [Bool.and_eq_true, Bool.or_eq_true, beq_iff_eq, Bool.not_eq_true'] at ready
  obtain ⟨⟨unitS, unpromoted⟩, linked⟩ := ready
  obtain unitP | promoted | ⟨unpaired, present⟩ := other
  · exact Bool.false_ne_true (unitP.symm.trans unitS)
  · exact Bool.false_ne_true (unpromoted.symm.trans promoted)
  · exact linked.elim unpaired present

/-! ## PAIR.UNPAIR and PAIR.REJOIN (R341, R344) -/

/-- The pair is left, and the link does not train again by itself. -/
def leavesPair (p : Pair) (s : State) : State :=
  (({ s with pair := { p with noRetrain := true, lanes := 0 } }).ownInputs.unpair 0).resyncDone Rc.resyncFailed

theorem pairRuns_logOpen (q : LogReq) (v : State) : (v.logOpen q).pairRuns = v.pairRuns := by
  simp only [State.pairRuns, logOpen_pair]

theorem pairUnpairBody_eq (rq : Request) (v : State) : pairUnpairBody rq v
    = .done (leavesPair v.pair (if v.pairRuns then (v.logOpen { origin := .mbx rq.mbx.val }).emit (.control .unpair)
        else v.logOpen { origin := .mbx rq.mbx.val })) [] := by
  simp only [pairUnpairBody, pairRuns_logOpen, leavesPair]
  split <;> simp only [emit_frame, logOpen_pair]

/-- The link may train again, from now on. -/
def mayRetrain (rq : Request) (v : State) : State :=
  { (v.logOpen { origin := .mbx rq.mbx.val }) with
    pair := { v.pair with noRetrain := false, trainFrom := some v.tick } }

theorem pairRejoinBody_idle (free : v.pair.noRetrain = false) (compatible : v.pair.state ≠ .incompatible) :
    pairRejoinBody rq v = .done (v.logOpen { origin := .mbx rq.mbx.val }) [] :=
  if_pos (by simp [free, compatible])

theorem pairRejoinBody_ended (ended : v.pair.noRetrain = true ∨ v.pair.state = .incompatible) : pairRejoinBody rq v
    = .done (if v.pair.state = .unpaired ∨ v.pair.state = .incompatible then (mayRetrain rq v).setPair .training 0
        else mayRetrain rq v) [] := by
  refine (if_neg ?_).trans ?_
  · simp only [logOpen_pair, Bool.and_eq_true, Bool.not_eq_true', bne_iff_ne, ne_eq, not_and, not_not]
    exact fun free => ended.resolve_left (by simp [free])
  · simp only [mayRetrain, logOpen_pair, logOpen_tick, Bool.or_eq_true, beq_iff_eq]

/-! ## All of them -/

open SystemCommands (logs_freely)

/-- Settles O36: each clause is one case of the command's body. -/
theorem healthAndPairCommandsAct : Obligations.HealthAndPairCommandsAct := by
  unfold Obligations.HealthAndPairCommandsAct
  exact ⟨
    acts_of (fun _ _ _ => rfl)
      (fun _ _ ⟨_, some_, few, kind, advisory, ok⟩ => healthReportOutBody_advisory some_ few kind advisory ok)
      (fun _ _ quiet => (foldl_rung _ (fun _ _ => (keeps_rawResult _ _ _).2.1) _ _).trans quiet)
      (logs_freely fun _ _ ⟨free, _⟩ => free),
    acts_of (fun _ _ _ => rfl) (fun _ _ ok => checked_ok ok)
      (fun _ _ quiet => (foldl_rung (fun s id => outReleased id s) (fun _ _ => rfl) _ _).trans quiet)
      (fun _ _ _ _ => ⟨rfl, congrArg Log.next (outsReleased_log _ _)⟩),
    acts_of (fun _ _ _ => rfl)
      (fun _ _ ⟨kind, what, bar⟩ => (healthClearBody_bar kind bar).trans
        (by obtain what | what := what <;> rw [what] <;> rfl))
      (fun _ _ quiet => quiet) (fun _ _ _ _ => ⟨rfl, rfl⟩),
    acts_of (fun _ _ _ => rfl)
      (fun _ _ ⟨kind, what, bar⟩ => (healthClearBody_bar kind bar).trans (by rw [what]; rfl))
      (fun _ _ quiet => quiet) (fun _ _ _ _ => ⟨rfl, rfl⟩),
    acts_of (fun _ _ _ => rfl)
      (fun _ _ ⟨kind, what, head⟩ => (healthClearBody_head kind head).trans (by rw [what]; rfl))
      (fun _ _ quiet => quiet) (fun _ _ _ _ => ⟨rfl, rfl⟩),
    acts_of (fun _ _ _ => rfl)
      (fun _ _ ⟨kind, what, head⟩ => (healthClearBody_head kind head).trans (by rw [what]; rfl))
      (fun _ _ quiet => quiet) (fun _ _ _ _ => ⟨rfl, rfl⟩),
    acts_of (fun _ _ _ => rfl)
      (fun _ _ ⟨kind, what, head⟩ => (healthClearBody_head kind head).trans (by rw [what]; rfl))
      (fun _ _ quiet => quiet) (fun _ _ _ _ => ⟨rfl, rfl⟩),
    acts_of (fun _ _ _ => rfl)
      (fun _ _ ⟨_, both, gpio, low, match_, alone⟩ => by
        simp only [pairConfigBody_eq both gpio low match_, alone, Bool.false_eq_true, if_false, pairConfigTaken,
          pairConfigured])
      (fun _ _ quiet => by simpa using quiet) (logs_freely fun _ _ ⟨free, _⟩ => free),
    acts_of (fun _ _ _ => rfl)
      (fun _ _ ⟨_, both, gpio, low, match_, paired⟩ => by
        simp only [pairConfigBody_eq both gpio low match_, paired, if_true, pairConfigTaken, pairConfigured])
      (fun _ _ quiet => by simpa using quiet) (logs_freely fun _ _ ⟨free, _⟩ => free),
    acts_of (fun _ _ _ => rfl) (fun _ _ ⟨_, passive, alone⟩ => pairPromoteBody_promotes passive alone)
      (fun _ _ quiet => (keeps_promote _ _).2.1.trans quiet) (logs_freely fun _ _ ⟨free, _⟩ => free),
    denies_of (fun _ _ _ => rfl) fun _ _ acting => pairPromoteBody_acting acting,
    denies_of (fun _ _ _ => rfl) fun _ _ ⟨passive, alive⟩ => pairPromoteBody_twinAlive passive alive,
    accepts_of (fun _ _ _ => rfl)
      (fun _ _ ⟨_, unitS, unpromoted, linked⟩ => pairResyncBody_starts unitS unpromoted linked)
      (fun _ _ quiet => by simpa using quiet) (logs_freely fun _ _ ⟨free, _⟩ => free),
    denies_of (fun _ _ _ => rfl) fun _ _ other => pairResyncBody_refused other,
    acts_of (fun _ _ _ => rfl)
      (fun rq v ⟨_, unlinked⟩ => by
        simp only [pairUnpairBody_eq, unlinked, Bool.false_eq_true, if_false, leavesPair])
      (fun _ _ quiet => by simpa using quiet) (logs_freely fun _ _ ⟨free, _⟩ => free),
    acts_of (fun _ _ _ => rfl)
      (fun rq v ⟨_, linked⟩ => by
        simp only [pairUnpairBody_eq, linked, if_true, leavesPair])
      (fun _ _ quiet => by simpa using quiet) (logs_freely fun _ _ ⟨free, _⟩ => free),
    acts_of (fun _ _ _ => rfl) (fun _ _ ⟨_, free, compatible⟩ => pairRejoinBody_idle free compatible)
      (fun _ _ quiet => (keeps_logOpen _ _).2.1.trans quiet) (logs_freely fun _ _ ⟨free, _⟩ => free),
    acts_of (fun _ _ _ => rfl)
      (fun _ _ ⟨_, ended, compatible, paired⟩ => by
        rw [pairRejoinBody_ended (.inl ended), if_neg (by simp [compatible, paired]), mayRetrain])
      (fun _ _ quiet => by simpa using quiet) (logs_freely fun _ _ ⟨free, _⟩ => free),
    acts_of (fun _ _ _ => rfl)
      (fun _ _ ⟨_, ended, unpaired⟩ => by
        rw [pairRejoinBody_ended (.inl ended), if_pos (.inl unpaired), mayRetrain])
      (fun _ _ quiet => by simpa using quiet) (logs_freely fun _ _ ⟨free, _⟩ => free),
    acts_of (fun _ _ _ => rfl)
      (fun _ _ ⟨_, incompatible⟩ => by
        rw [pairRejoinBody_ended (.inr incompatible), if_pos (.inr incompatible), mayRetrain])
      (fun _ _ quiet => by simpa using quiet) (logs_freely fun _ _ ⟨free, _⟩ => free)⟩

end Sys2Proof.Proofs.HealthAndPairCommands

/-!
PROOFS. The rows of HEALTH (R300, R302, R313, R316): assessment, requests, FW_AUTO and heaters; one equation per case of
an operation.
-/

namespace Sys2Proof.Proofs.HealthRows

open Sys2Proof Sys2Proof.Machine Sys2Proof.Laws

variable {v : State}

/-! ## HEALTH_ASSESS (R302, R304) -/

theorem healthAssess_empty (empty : v.health.queue = []) : healthAssess v = v := by
  unfold healthAssess
  rw [empty]

section Assess

variable {p : Nat} {x : HltRec} {l : List (Nat × HltRec)} {h : Nat} {r : HeadRec}
  (front : v.health.queue = (p, x) :: l) (engines : v.activeCount 3 ≠ 0) (runs : v.linkRuns = true)
  (head : headAt v.inForce p x.localHead = some (h, r)) (present : x.nozzle < r.rows * r.perRow)
include front engines runs head present

/-- A record without a reference counts as such, and its request is settled without a result. -/
theorem healthAssess_unreferenced (none_ : (refRec v.inForce h (x.nozzle / r.perRow)).amp = 0) : healthAssess v
    = ({ v with health := { v.health with queue := l } }.countHealth r.bar h
        (fun c => { c with unreferenced := c.unreferenced + 1 })).settleRequest (h * 8192 + x.nozzle) false := by
  unfold healthAssess
  rw [front]
  refine (if_neg (by simp [engines, runs])).trans ?_
  have same : State.inForce { v with health := { v.health with queue := l } } = v.inForce := rfl
  simp only [same, head, if_neg (Nat.not_le.mpr present), none_, if_true, bne_self_eq_false]

/-- The results of an assessed nozzle, with its features as of now. -/
def resultKept (id : Nat) (samples : List Nat) (s : State) : State :=
  { s with health := { s.health with results := s.health.results.set id {
    amplitude := (features samples).1, period := (features samples).2.1, decay := (features samples).2.2
    aon := s.aon } } }

/-- A record with a reference gives its nozzle a raw result, and settles its request with it. -/
theorem healthAssess_referenced (some_ : (refRec v.inForce h (x.nozzle / r.perRow)).amp ≠ 0) : healthAssess v
    = ((resultKept (h * 8192 + x.nozzle) x.samples
          ({ v with health := { v.health with queue := l } }.countHealth r.bar h
            (fun c => { c with assessed := c.assessed + 1 }))).rawResult (h * 8192 + x.nozzle)
        (rawClass (policyRec v.inForce r.bar) (refRec v.inForce h (x.nozzle / r.perRow)) (features x.samples).1
          (features x.samples).2.1 (features x.samples).2.2)).settleRequest (h * 8192 + x.nozzle) true := by
  unfold healthAssess
  rw [front]
  refine (if_neg (by simp [engines, runs])).trans ?_
  have same : State.inForce { v with health := { v.health with queue := l } } = v.inForce := rfl
  simp only [same, head, if_neg (Nat.not_le.mpr present), if_neg some_, bne_iff_ne.mpr some_, resultKept]

end Assess

/-! ## HEALTH_REQ_TIMEOUT (R300) -/

theorem healthReqTimeout_unknown {i : Nat} (unknown : ∀ x ∈ v.health.requests, x.1 ≠ i) :
    healthReqTimeout i v = v := by
  have none_ : v.health.requests.find? (fun x => x.1 == i) = none :=
    List.find?_eq_none.mpr fun x here => by simp [unknown x here]
  simp only [healthReqTimeout, none_]

/-- The request is withdrawn: the head is sent the nozzles that are still asked for. -/
theorem healthReqTimeout_due {i : Nat} {x : Nat × Nat} {r : HeadRec}
    (found : v.health.requests.find? (fun x => x.1 == i) = some x) (head : r = headRec v.inForce (i / 8192))
    (cool : v.stage = 0) (runs : v.linkRuns = true) (leads : v.healthLeads = true)
    (due : x.2 + (policyRec v.inForce r.bar).reqTimeout * 1024 ≤ v.aon) : healthReqTimeout i v
    = ((v.sendRecords r.port (reqRecord r.localHead
        (0xFFFF :: ((v.headRequests (i / 8192)).filter (fun y => y.1 != i)).map (fun y => y.1 % 8192)))).countHealth
          r.bar (i / 8192) (fun c => { c with unfired := c.unfired + 1 })).settleRequest i false := by
  subst head
  simp only [healthReqTimeout, found]
  exact if_neg (by simp [cool, runs, leads, Nat.not_lt.mpr due])

/-! ## FW_AUTO_SUBMIT (R313) -/

theorem fwAutoSubmit_empty (empty : (v.sset 16).staged = []) : fwAutoSubmit v = v :=
  if_pos (by simp [empty])

/-- A full set goes to a commit unless the one before it was refused within 20 ms. -/
theorem fwAutoSubmit_full (some_ : (v.sset 16).staged ≠ []) (idle : (v.sset 16).submitted = [])
    (leads : v.healthLeads = true) (full : 256 ≤ (v.sset 16).staged.length)
    (aged : ∀ t, v.health.refusedAt = some t → t + 20480 ≤ v.aon)
    (valid : v.validAuto (v.sset 16).staged = ((v.sset 16).staged, [])) : fwAutoSubmit v
    = State.submitCommit 16 .fwAuto .set none (v.sset 16).staged
        { v with health := { v.health with autoSince := none, refusedAt := none } } := by
  unfold fwAutoSubmit
  extract_lets x old due
  have isDue : due = true := by
    simp only [due]
    split
    next t refused => exact decide_eq_true (aged t refused)
    next => simp [x, full]
  rw [if_neg (by simp [x, some_, idle, leads, isDue]), valid]
  exact if_neg (by simp [some_])

/-! ## HEATER_LOOP (R316) -/

theorem heaterLoop_due (leads : v.healthLeads = true) (runs : v.linkRuns = true)
    (due : v.health.lastLoop + 10240 ≤ v.aon) : heaterLoop v
    = (List.range 256).foldl (fun s h => if (tempRec s.inForce h).enable then s.heaterHead h else s)
        { v with health := { v.health with lastLoop := v.aon } } :=
  if_neg (by simp [leads, runs, Nat.not_lt.mpr due])

theorem heaterLoop_early (early : v.aon < v.health.lastLoop + 10240) : heaterLoop v = v :=
  if_pos (by simp [early])

/-! ## The rows -/

/-- Settles O53: each row is its operation at the row's moment, and each clause is one case of that operation. -/
theorem healthRows : Obligations.HealthRows := by
  unfold Obligations.HealthRows
  exact ⟨
    happens_of (f := healthAssess) (fun _ _ => rfl) fun _ empty => healthAssess_empty empty,
    fun _ _ _ _ _ => happens_of (f := healthAssess) (fun _ _ => rfl)
      fun _ ⟨front, engines, runs, head, present, none_⟩ =>
        healthAssess_unreferenced front engines runs head present none_,
    fun _ _ _ _ _ => happens_of (f := healthAssess) (fun _ _ => rfl)
      fun _ ⟨front, engines, runs, head, present, some_⟩ =>
        healthAssess_referenced front engines runs head present some_,
    fun i => happens_of (f := healthReqTimeout i) (fun _ _ => rfl) fun _ unknown => healthReqTimeout_unknown unknown,
    fun i _ _ => happens_of (f := healthReqTimeout i) (fun _ _ => rfl)
      fun _ ⟨found, head, cool, runs, leads, due⟩ =>
        (healthReqTimeout_due found head cool runs leads due).trans (by rw [head]),
    happens_of (f := fwAutoSubmit) (fun _ _ => rfl) fun _ empty => fwAutoSubmit_empty empty,
    happens_of (f := fwAutoSubmit) (fun _ _ => rfl) fun _ ⟨some_, idle, leads, full, aged, valid⟩ =>
      fwAutoSubmit_full some_ idle leads full aged valid,
    happens_of (f := heaterLoop) (fun _ _ => rfl) fun _ ⟨leads, runs, due⟩ => heaterLoop_due leads runs due,
    happens_of (f := heaterLoop) (fun _ _ => rfl) fun _ early => heaterLoop_early early⟩

end Sys2Proof.Proofs.HealthRows

/-!
PROOFS. The reports of PAIR, MEM and DMA (R348, R369, R390): what each lays out, field by field.
-/

namespace Sys2Proof.Proofs.PairMemoryAndDmaReads

open Sys2Proof Sys2Proof.Machine Sys2Proof.Laws

variable {v : State} {rq : Request}

/-! ## MEM (R369) -/

/-- The payload of MEM.STAKE_STATUS for bank `k`. -/
def stakeStatusBytes (o : Byte × Nat) (k : Nat) : List Byte :=
  le 1 o.1.toNat ++ zeros 3 ++ le 4 o.2 ++ le 1 (b2n (k != 6) + 2 * b2n (k == 3 || k == 4)) ++ zeros 3

theorem length_stakeStatusBytes (o : Byte × Nat) (k : Nat) : (stakeStatusBytes o k).length = 12 := by
  simp [stakeStatusBytes]

theorem fld_stakeStatusBytes (o : Byte × Nat) (k : Nat) :
    fld (stakeStatusBytes o k) 0 1 = o.1.toNat ∧ fld (stakeStatusBytes o k) 4 4 = o.2 % 256 ^ 4
      ∧ bit (fld (stakeStatusBytes o k) 8 1) 0 = (k != 6)
      ∧ bit (fld (stakeStatusBytes o k) 8 1) 1 = (k == 3 || k == 4) := by
  have cls : o.1.toNat < 256 := o.1.isLt
  have flags : ∀ a b : Bool, bit ((b2n a + 2 * b2n b) % 256) 0 = a ∧ bit ((b2n a + 2 * b2n b) % 256) 1 = b := by
    decide
  simp only [stakeStatusBytes]
  simpa [fld_left, fld_right, fld_le, Nat.mod_eq_of_lt cls] using flags (k != 6) (k == 3 || k == 4)

theorem length_errBytes (e : ErrRec) : (errBytes e).length = 24 := by simp [errBytes]

/-- Sixteen places of 24 bytes, whether or not they hold a record. -/
theorem length_memErrors {l : List ErrRec} (few : l.length ≤ 16) :
    (l.flatMap errBytes ++ zeros (24 * (16 - l.length))).length = 384 := by
  rw [List.length_append, length_fields 24 errBytes length_errBytes, length_zeros]
  omega

/-- A row that waits for its repair, in the layout of MEM.HBM_ROWS. -/
def pendingRowBytes (r : HbmRow) : List Byte := le 1 r.pseudo ++ le 1 r.bank ++ zeros 2 ++ le 4 r.row

theorem length_pendingRowBytes (r : HbmRow) : (pendingRowBytes r).length = 8 := by simp [pendingRowBytes]

/-- The payload of MEM.HBM_ROWS. -/
def hbmRowsBytes (l : List HbmRow) : List Byte :=
  le 4 l.length ++ l.flatMap pendingRowBytes ++ zeros (8 * (16 - l.length))

theorem length_hbmRowsBytes {l : List HbmRow} (few : l.length ≤ 16) : (hbmRowsBytes l).length = 132 := by
  simp only [hbmRowsBytes, List.length_append, length_le, length_zeros,
    length_fields 8 pendingRowBytes length_pendingRowBytes]
  omega

theorem fld_hbmRowsBytes_count (l : List HbmRow) : fld (hbmRowsBytes l) 0 4 = l.length % 256 ^ 4 := by
  simp [hbmRowsBytes, fld_left, fld_le]

/-- A field of row `k`. -/
theorem fld_hbmRowsBytes_row {l : List HbmRow} {k o m : Nat} {r : HbmRow} (here : l[k]? = some r)
    (inside : o + m ≤ 8) : fld (hbmRowsBytes l) (4 + o + 8 * k) m = fld (pendingRowBytes r) o m := by
  obtain ⟨listed, rfl⟩ := List.getElem?_eq_some_iff.mp here
  rw [hbmRowsBytes, fld_left _ _ _ _ ?_, fld_right _ _ _ _ (by simp; omega), length_le,
    show 4 + o + 8 * k - 4 = 8 * k + o by omega,
    fld_field 8 pendingRowBytes length_pendingRowBytes l k o m listed inside]
  rw [List.length_append, length_le, length_fields 8 pendingRowBytes length_pendingRowBytes]
  omega

theorem fld_pendingRowBytes (r : HbmRow) : fld (pendingRowBytes r) 0 1 = r.pseudo % 256
    ∧ fld (pendingRowBytes r) 1 1 = r.bank % 256 ∧ fld (pendingRowBytes r) 4 4 = r.row % 256 ^ 4 := by
  simp [pendingRowBytes, fld_left, fld_right, fld_le]

/-! ## All of them -/

/-- Settles O23: each report leaves the state and lays out its payload field by field. -/
theorem pairMemoryAndDmaReadsAnswer : Obligations.PairMemoryAndDmaReadsAnswer := by
  unfold Obligations.PairMemoryAndDmaReadsAnswer
  refine ⟨
    reads_of (fun _ _ _ => rfl) rfl fun _ _ _ => ⟨_, rfl, by simp, ?_⟩,
    reads_of (fun _ _ _ => rfl) rfl fun _ _ _ => ⟨_, rfl, rfl⟩,
    reads_of (fun _ _ _ => rfl) rfl fun _ _ _ => ⟨_, rfl, by simp, ?_⟩,
    reads_of (fun _ _ _ => rfl) rfl fun _ _ master => ⟨_, checked_ok (by simp [master]), rfl⟩,
    reads_of (fun _ _ _ => rfl) rfl fun _ _ bank =>
      ⟨_, checked_ok (by simp [bank]), length_stakeStatusBytes _ _, fld_stakeStatusBytes _ _⟩,
    reads_of (fun _ _ _ => rfl) rfl fun _ _ kind => ⟨_, checked_ok (by simp [kind]), _, rfl, length_memErrors⟩,
    reads_of (fun _ _ _ => rfl) rfl fun _ v _ => ⟨hbmRowsBytes v.mem.rowsPending, rfl, length_hbmRowsBytes,
      fld_hbmRowsBytes_count _, fun k r here => ?_⟩,
    reads_of (fun _ _ _ => rfl) rfl fun _ _ _ => ⟨_, rfl, rfl⟩,
    reads_of (fun _ _ _ => rfl) rfl fun _ _ channel => ⟨_, checked_ok (by simp [channel]), by simp, ?_⟩⟩
  · simp [fld_left, fld_right, fld_le]
  · simp [fld_left, fld_right, fld_le]
  · obtain ⟨pseudo, bank, row⟩ := fld_pendingRowBytes r
    exact ⟨(fld_hbmRowsBytes_row (o := 0) here (by decide)).trans pseudo,
      (fld_hbmRowsBytes_row (o := 1) here (by decide)).trans bank,
      (fld_hbmRowsBytes_row (o := 4) here (by decide)).trans row⟩
  · simp [fld_left, fld_right, fld_le]

end Sys2Proof.Proofs.PairMemoryAndDmaReads

/-!
PROOFS. The pairing link, its heartbeat, its streams and its ceilings (R324, R326, R330–R336, R342): one equation per
case of an operation.
-/

namespace Sys2Proof.Proofs.PairRows

open Sys2Proof Sys2Proof.Machine Sys2Proof.Laws

variable {v : State}

/-! ## Training (R324) -/

section Train

variable {t : Nat} (from_ : v.pair.trainFrom = some t)
include from_

theorem pairTrainTimeout_training (training : v.pair.state = .training) (late : t + 2000000 ≤ v.tick) :
    pairTrainTimeout v = v.setPair .unpaired 0 := by
  simp only [pairTrainTimeout, from_, Nat.not_lt.mpr late, training, beq_self_eq_true, if_true, if_false]

theorem pairTrainTimeout_upsett (syncing : v.pair.state = .syncing) (upsett : v.sys = .upsett)
    (late : t + 2000000 ≤ v.tick) : pairTrainTimeout v
    = (({ v with pair := { v.pair with lanes := 0 } }).unpair 0).resyncDone Rc.resyncFailed := by
  simp only [pairTrainTimeout, from_, Nat.not_lt.mpr late, syncing, upsett, if_false]
  rfl

theorem pairRetrain_due (unpaired : v.pair.state = .unpaired) (due : t + 40000000 ≤ v.tick)
    (may : v.mayTrain = true) (operates : v.sys.operating = true) : pairRetrain v
    = ({ v with pair := { v.pair with trainFrom := some v.tick } }).setPair .training 0 := by
  unfold pairRetrain
  rw [unpaired, from_]
  exact if_pos (by simp [due, may, operates])

theorem pairRetrain_early (early : v.tick < t + 40000000) : pairRetrain v = v := by
  unfold pairRetrain
  rw [from_]
  exact if_neg (by simp [Nat.not_le.mpr early])

end Train

/-- A link that has come further than training stays, but in U7. -/
theorem pairTrainTimeout_trained (trained : v.pair.state ≠ .training)
    (stays : v.pair.state ≠ .syncing ∨ v.sys ≠ .upsett) : pairTrainTimeout v = v := by
  have linked : ¬ (v.pair.state == .syncing && v.sys == .upsett) = true := by
    simpa [Decidable.imp_iff_not_or] using stays
  have untrained : ¬ (v.pair.state == .training) = true := by simpa using trained
  unfold pairTrainTimeout
  split
  · rfl
  · rw [if_neg untrained, if_neg linked, ite_self]

/-! ## HELLO (R324, R341) -/

section HelloAnswered

variable {h : Hello} {t : Nat} (down : v.pairRuns = false ∨ v.pair.lanes = 0) (from_ : v.pair.trainFrom = some t)
  (may : v.mayTrain = true)
include down from_ may

theorem helloHeard : ¬ (v.pairRuns && v.pair.lanes != 0 || v.pair.trainFrom.isNone || !v.mayTrain) = true := by
  simpa [from_, may, Decidable.imp_iff_not_or] using down

theorem pairHello_error {c : Reason} (role : v.helloRole h = .error c) : pairHello h v
    = ({ v with pair := { v.pair with trainFrom := none, twinSerial := h.serial } }).setPair .incompatible c := by
  rw [pairHello, if_neg (helloHeard down from_ may), role]

/-- The pair's record once unit P has heard the HELLO of its twin. -/
def helloTaken (h : Hello) (v : State) : State :=
  { v with pair := { v.pair with
      unitS := false, promoted := false, lanes := 0xFF, twinSerial := h.serial
      trainFrom := if v.sys == .upsett then v.pair.trainFrom else none
      srcKept := v.pair.promoted || v.pair.srcKept, counterSet := false, slew := 0, motions := [], ceilPast := []
      twinContiguous := h.contiguous, twinSys := h.sysState, twinFault := 0, lastMsg := v.tick, lastPin := v.tick
      lastControl := v.tick, streamClosed := v.tick, edges := [], consec := [], consecMax := 0, resyncFails := 0
      fallback := false, timeAligned := false, goodAlign := 0, selfWithdrawn := false
      ceilTwin := 0x8000, ceilNext := [], temps := [], joins := [], ownDigests := [], twinDigests := [] } }

/-- Unit P sends its ceiling and its status. -/
def helloAnswered (w : State) : State :=
  (fun u : State => u.emit (.control (.status u.mem.contiguous (logFree u.log) (sysCode u.sys) u.host.faultCode)))
    ((w.setPair .syncing 0).emit (.control (.ceiling w.ownCeiling)))

theorem pairHello_leads (role : v.helloRole h = .ok true) :
    pairHello h v = helloAnswered (State.takeRole v (helloTaken h v)) := by
  rw [pairHello, if_neg (helloHeard down from_ may), role]
  simp only [helloAnswered, helloTaken, if_true, Bool.not_true, Bool.true_and]

end HelloAnswered

/-! ## Heartbeat (R326, R342) -/

theorem toggles (runs : v.pairRuns = true) (due : v.pair.lastToggle + 400 ≤ v.tick) :
    ¬ (!v.pairRuns || decide (v.tick < v.pair.lastToggle + 400)) = true := by
  simp [runs, Nat.not_lt.mpr due]

section Toggle

variable (paired : v.inPair = true) (runs : v.pairRuns = true) (due : v.pair.lastToggle + 400 ≤ v.tick)
include paired runs due

/-- Unit P inverts the pin and sends its message. -/
theorem hbToggle_drives (drives : v.pinsHeld = false) : hbToggle v
    = (({ v with pair := { v.pair with lastToggle := v.tick, hbLevel := !v.pair.hbLevel } }.emit
        (.hbPin (!v.pair.hbLevel))).emit (.control .heartbeat)) := by
  unfold State.pinsHeld at drives
  unfold State.inPair at paired
  simp only [hbToggle, if_neg (toggles runs due), State.pinsHeld, State.inPair, drives, Bool.false_eq_true, if_false,
    emit_frame, paired, if_true]

/-- Unit S samples the pin and sends its message. -/
theorem hbToggle_samples (held : v.pinsHeld = true) : hbToggle v
    = { v with
          fresh := v.fresh + 1
          pair := { v.pair with
            lastToggle := v.tick
            lastPin := if Config.pairPinMoves v.fresh then v.tick else v.pair.lastPin } }.emit
        (.control .heartbeat) := by
  unfold State.pinsHeld at held
  unfold State.inPair at paired
  simp only [hbToggle, if_neg (toggles runs due), State.pinsHeld, State.inPair, held, if_true, paired]

end Toggle

/-- The pin has been silent for 20 µs. -/
def pinSilent (v : State) : State :=
  { v with pair := { v.pair with lastPin := min v.pair.lastPin (v.tick - 8000) } }

section Silence

variable (paired : v.inPair = true) (runs : v.pairRuns = true)
include paired runs

/-- Unit P ends the pair once the messages are silent too. -/
theorem heartbeatTimeout_unitP (drives : v.pinsHeld = false) : heartbeatTimeout true v
    = if v.pair.lastMsg + 8000 ≤ v.tick then
        (State.ownInputs { v with pair := { v.pair with
          lastPin := min v.pair.lastPin (v.tick - 8000), lanes := 0 } }).unpair Rc.linkLost
      else pinSilent v := by
  unfold State.inPair at paired
  unfold State.pinsHeld at drives
  simp only [heartbeatTimeout, runs, if_true, State.inPair, paired, State.pinsHeld, drives, pinSilent, Bool.not_true,
    Bool.not_false, Bool.false_eq_true, if_false, decide_eq_true_eq]

/-- Unit S is promoted once the messages are silent too, and reports the pin before. -/
theorem heartbeatTimeout_unitS (held : v.pinsHeld = true) : heartbeatTimeout true v
    = if v.pair.lastMsg + 8000 ≤ v.tick then (pinSilent v).ownInputs.promote Rc.heartbeatLost
      else ((pinSilent v).post (ev Ev.pairHbPin Cls.system 0 Rc.hbPinFault (pinSilent v).hbAge)).pairChange 4 := by
  unfold State.inPair at paired
  unfold State.pinsHeld at held
  simp only [heartbeatTimeout, runs, if_true, State.inPair, paired, State.pinsHeld, held, pinSilent, Bool.not_true,
    Bool.false_eq_true, if_false, decide_eq_true_eq, Bool.and_true]
  split <;> rfl

end Silence

theorem faultDeclared_promotes (paired : v.inPair = true) (held : v.pinsHeld = true) :
    faultDeclared v = (v.pairChange 2).ownInputs.promote Rc.twinFaultDeclared :=
  if_pos (by simp [paired, held])

theorem faultDeclared_ignored (other : v.inPair = false ∨ v.pinsHeld = false) : faultDeclared v = v :=
  if_neg (by rw [Bool.and_eq_false_iff.mpr other]; exact Bool.false_ne_true)

/-! ## CONTROL messages (R323, R333, R334) -/

/-- What every message of the twin updates. -/
def messageTaken (n : Nat) (v : State) : State :=
  { v with pair := { v.pair with lastControl := v.tick, latencyMax := min 65535 (max v.pair.latencyMax n) } }

theorem controlMessage_alone {n : Nat} {c : Control} (alone : v.inPair = false) : controlMessage c n v = v :=
  if_pos (by simp [alone])

section Message

variable {n : Nat} (paired : v.inPair = true)
include paired

theorem controlMessage_heartbeat : controlMessage .heartbeat n v
    = { v with pair := { v.pair with
          lastControl := v.tick, lastMsg := v.tick, latencyMax := min 65535 (max v.pair.latencyMax n) } } := by
  rw [controlMessage, if_neg (by simp [paired])]

theorem controlMessage_ceiling {k : Nat} (follows : v.leadsPair = false) : controlMessage (.ceiling k) n v
    = { v with pair := { v.pair with
          lastControl := v.tick, ceilTwin := k, latencyMax := min 65535 (max v.pair.latencyMax n) } } := by
  unfold State.leadsPair at follows
  rw [controlMessage, if_neg (by simp [paired])]
  simp only [State.leadsPair, follows, Bool.false_eq_true, if_false]

theorem controlMessage_haltReport (leads : v.leadsPair = true) :
    controlMessage .haltReport n v = (messageTaken n v).toUnitP .haltReport := by
  unfold State.leadsPair at leads
  rw [controlMessage, if_neg (by simp [paired])]
  simp only [State.leadsPair, leads, if_true, messageTaken]

end Message

/-! ## Streams, state events and ceilings (R332–R334, R336) -/

theorem inputFallback_due (follows : v.follows = true) (due : v.pair.lastControl + 320 ≤ v.tick) :
    inputFallback v = v.ownInputs := if_neg (by simp [follows, Nat.not_lt.mpr due])

theorem inputFallback_early (early : v.tick < v.pair.lastControl + 320) : inputFallback v = v :=
  if_pos (by simp [early])

/-- No state event is due yet. -/
theorem stateEventApply_none (later : ∀ e ∈ v.pair.stateEvents, v.tick < e.2.1) : stateEventApply v = v := by
  unfold stateEventApply
  extract_lets now
  have bounded : now ≤ v.tick := by
    simp only [now]
    split
    · exact Nat.min_le_left _ _
    · exact le_rfl
  rw [List.find?_eq_none.mpr fun e here => by simpa using bounded.trans_lt (later e here)]

theorem stateEventApply_first {e : StateEvent} {t : Nat} {o : Origin} {l : List (StateEvent × Nat × Origin)}
    (first : v.pair.stateEvents = (e, t, o) :: l) (due : t ≤ v.tick)
    (closed : v.follows = true → t ≤ v.pair.streamClosed) :
    stateEventApply v = State.applyEvent e o { v with pair := { v.pair with stateEvents := l } } := by
  have taken : v.takeEvent (e, t, o) = State.applyEvent e o { v with pair := { v.pair with stateEvents := l } } := by
    simp only [State.takeEvent, first, List.erase_cons_head]
  rw [← taken]
  unfold stateEventApply
  extract_lets now
  have reached : t ≤ now := by
    simp only [now]
    split
    next follows => exact Nat.le_min.mpr ⟨due, closed follows⟩
    next => exact due
  rw [first, List.find?_cons_of_pos (by simpa using reached)]

section Ceiling

variable {c t : Nat} {l : List (Nat × Nat)} (first : v.pair.ceilNext = (c, t) :: l)
include first

theorem ceilingApply_due (due : t ≤ v.tick) : ceilingApply v
    = State.setCeiling c { v with pair := { v.pair with
        ceilNext := l
        ceilPast := (v.pair.ceilPast ++ [(v.therm.ceiling, t)]).filter
          (fun x => decide (v.pair.streamClosed < x.2)) } } := by
  simp only [ceilingApply, first, due, if_true]

theorem ceilingApply_early (early : v.tick < t) : ceilingApply v = v := by
  simp only [ceilingApply, first, Nat.not_le.mpr early, if_false]

end Ceiling

/-- Unit P keeps a snapshot of the head temperatures and sends it. -/
def tempsSent (u : State) (a : List (Nat × Option Int)) (b : List (Nat × Word)) (v : State) : State :=
  (u.pushTemps { values := a, apply := b, tick := v.tick }).emit (.control (.temps a b v.tick))

theorem tempSnapshotSend_due (leads : v.leadsPair = true) (due : v.pair.lastTempSend + 400000 ≤ v.tick) :
    tempSnapshotSend v
    = tempsSent { v with pair := { v.pair with lastTempSend := v.tick } }
      ((v.inForce.heads.filter (fun (h : Nat × HeadRec) => h.2.bar != 0xFF)).map
        (fun (h : Nat × HeadRec) => (h.1, v.stsTemp h.2 0)))
      (v.inForce.enabledBars.map (fun b => (b, v.pairApplyLine b))) v :=
  if_neg (by simp [leads, Nat.not_lt.mpr due])

/-! ## Time alignment (R330) -/

theorem timeExchange_ignored {a b c d : Nat} (other : v.inPair = false ∨ v.pinsHeld = false) :
    timeExchange a b c d v = v :=
  if_pos (by rw [Bool.and_eq_false_iff.mpr other]; rfl)

/-- A message that takes `k + d` and an answer that takes `d - k` give the offset `k` and the delay `d`. -/
theorem exchanged (a d k : Nat) :
    (((a + k + d : Nat) : Int) - (a : Nat) - (((a + d + d : Nat) : Int) - ((a + k + d : Nat) : Int))).tdiv 2 = k
    ∧ ((((a + k + d : Nat) : Int) - (a : Nat) + (((a + d + d : Nat) : Int) - ((a + k + d : Nat) : Int))).tdiv 2).toNat
      = d := by
  have out : ((a + k + d : Nat) : Int) - (a : Nat) = d + k := by omega
  have back : ((a + d + d : Nat) : Int) - ((a + k + d : Nat) : Int) = d - k := by omega
  rw [out, back, show (d + k - (d - k) : Int) = 2 * k by ring, show (d + k + (d - k) : Int) = 2 * d by ring,
    Int.mul_tdiv_cancel_left _ two_ne_zero, Int.mul_tdiv_cancel_left _ two_ne_zero, Int.toNat_natCast]
  exact ⟨rfl, rfl⟩

/-- A small offset of a unit whose time is aligned is noted, and no more. -/
theorem timeExchange_small {a d k : Nat} (paired : v.inPair = true) (held : v.pinsHeld = true) (small : k ≤ 6)
    (set : v.pair.counterSet = true) (aligned : v.pair.timeAligned = true) :
    timeExchange a (a + k + d) (a + k + d) (a + d + d) v
    = { v with pair := { v.pair with
          offset := k, pathDelay := d, goodAlign := v.pair.goodAlign + 1, slew := 0 } } := by
  obtain ⟨offset, delay⟩ := exchanged a d k
  unfold timeExchange
  rw [if_neg (by simp [paired, held])]
  simp only [set, if_true, offset, delay, mul_zero, sub_zero, Int.natAbs_natCast, if_pos small,
    if_neg (show ¬ 13 ≤ k by omega), aligned, and_true, if_neg (show ¬ 32 < k by omega),
    Bool.not_true, Bool.false_and, Bool.false_eq_true, if_false]

/-! ## The rows -/

/-- Settles O54: each row is its operation at the row's moment, and each clause is one case of that operation. -/
theorem pairRows : Obligations.PairRows := by
  unfold Obligations.PairRows
  exact ⟨
    fun _ => happens_of (f := pairTrainTimeout) (fun _ _ => rfl) fun _ ⟨from_, training, late⟩ =>
      pairTrainTimeout_training from_ training late,
    happens_of (f := pairTrainTimeout) (fun _ _ => rfl) fun _ ⟨trained, stays⟩ =>
      pairTrainTimeout_trained trained stays,
    fun _ => happens_of (f := pairTrainTimeout) (fun _ _ => rfl) fun _ ⟨from_, syncing, upsett, late⟩ =>
      pairTrainTimeout_upsett from_ syncing upsett late,
    fun _ => happens_of (f := pairRetrain) (fun _ _ => rfl) fun _ ⟨unpaired, from_, due, may, operates⟩ =>
      pairRetrain_due from_ unpaired due may operates,
    fun _ => happens_of (f := pairRetrain) (fun _ _ => rfl) fun _ ⟨from_, early⟩ => pairRetrain_early from_ early,
    fun h _ _ => happens_of (f := pairHello h) (fun _ _ => rfl) fun _ ⟨down, from_, may, role⟩ =>
      pairHello_error down from_ may role,
    fun h _ w => happens_of (f := pairHello h) (fun _ _ => rfl) fun _ ⟨down, from_, may, role, taken⟩ =>
      (pairHello_leads down from_ may role).trans (congrArg helloAnswered taken.symm),
    happens_of (f := hbToggle) (fun _ _ => rfl) fun _ ⟨paired, runs, drives, due⟩ =>
      hbToggle_drives paired runs due drives,
    happens_of (f := hbToggle) (fun _ _ => rfl) fun _ ⟨paired, runs, held, due⟩ =>
      hbToggle_samples paired runs due held,
    happens_of (f := heartbeatTimeout true) (fun _ _ => rfl) fun _ ⟨paired, runs, held, silent⟩ => by
      rw [heartbeatTimeout_unitS paired runs held, if_pos silent, pinSilent],
    happens_of (f := heartbeatTimeout true) (fun _ _ => rfl) fun _ ⟨paired, runs, held, heard⟩ => by
      rw [heartbeatTimeout_unitS paired runs held, if_neg (Nat.not_le.mpr heard), pinSilent],
    happens_of (f := heartbeatTimeout true) (fun _ _ => rfl) fun _ ⟨paired, runs, drives, silent⟩ => by
      rw [heartbeatTimeout_unitP paired runs drives, if_pos silent],
    happens_of (f := heartbeatTimeout true) (fun _ _ => rfl) fun _ ⟨paired, runs, drives, heard⟩ => by
      rw [heartbeatTimeout_unitP paired runs drives, if_neg (Nat.not_le.mpr heard), pinSilent],
    happens_of (f := faultDeclared) (fun _ _ => rfl) fun _ ⟨paired, held⟩ => faultDeclared_promotes paired held,
    happens_of (f := faultDeclared) (fun _ _ => rfl) fun _ other => faultDeclared_ignored other,
    fun n => happens_of (f := controlMessage .heartbeat n) (fun _ _ => rfl) fun _ paired =>
      controlMessage_heartbeat paired,
    fun n c => happens_of (f := controlMessage c n) (fun _ _ => rfl) fun _ alone => controlMessage_alone alone,
    fun n k => happens_of (f := controlMessage (.ceiling k) n) (fun _ _ => rfl) fun _ ⟨paired, follows⟩ =>
      controlMessage_ceiling paired follows,
    fun n => happens_of (f := controlMessage .haltReport n) (fun _ _ => rfl) fun _ ⟨paired, leads⟩ =>
      controlMessage_haltReport paired leads,
    happens_of (f := inputFallback) (fun _ _ => rfl) fun _ ⟨follows, due⟩ => inputFallback_due follows due,
    happens_of (f := inputFallback) (fun _ _ => rfl) fun _ early => inputFallback_early early,
    happens_of (f := stateEventApply) (fun _ _ => rfl) fun _ empty =>
      stateEventApply_none (by simp [empty]),
    fun _ _ _ _ => happens_of (f := stateEventApply) (fun _ _ => rfl) fun _ ⟨first, due, closed⟩ =>
      stateEventApply_first first due closed,
    happens_of (f := stateEventApply) (fun _ _ => rfl) fun _ later => stateEventApply_none later,
    fun _ _ _ => happens_of (f := ceilingApply) (fun _ _ => rfl) fun _ ⟨first, due⟩ => ceilingApply_due first due,
    fun _ _ _ => happens_of (f := ceilingApply) (fun _ _ => rfl) fun _ ⟨first, early⟩ =>
      ceilingApply_early first early,
    happens_of (f := tempSnapshotSend) (fun _ _ => rfl) fun _ ⟨leads, due⟩ => tempSnapshotSend_due leads due,
    fun a b c d => happens_of (f := timeExchange a b c d) (fun _ _ => rfl) fun _ other => timeExchange_ignored other,
    fun a d k => happens_of (f := timeExchange a (a + k + d) (a + k + d) (a + d + d)) (fun _ _ => rfl)
      fun _ ⟨paired, held, small, set, aligned⟩ => timeExchange_small paired held small set aligned⟩

end Sys2Proof.Proofs.PairRows

/-!
PROOFS. Mirrored commits, digests, snapshots and forwarding (R328, R335, R339, R341, R487): one equation per case of an
operation.
-/

namespace Sys2Proof.Proofs.MirrorRows

open Sys2Proof Sys2Proof.Machine Sys2Proof.Laws

variable {v : State}

/-! ## COMMIT_PREPARE (R335) -/

theorem commitPrepare_alone {l : List Change} (alone : v.mirrors = false) : commitPrepare l v = v :=
  if_pos (by simp [alone])

/-- Unit S with the new set in work, before it judges it; what an earlier set has preloaded is restored. -/
def preparing (l : List Change) (v : State) : State :=
  State.noteCheck { v.undoPrepare with pair := { v.undoPrepare.pair with
    preparing := some (l, false, []), prepared := none } }

section Prepare

variable {l : List Change} (mirrors : v.mirrors = true)
include mirrors

theorem commitPrepare_refuses {e : Refused} (bad : (preparing l v).judge .peer .set l = some e) : commitPrepare l v
    = ({ preparing l v with pair := { (preparing l v).pair with preparing := none } }).emit (.ready false) := by
  unfold preparing at bad ⊢
  rw [commitPrepare, if_neg (by simp [mirrors])]
  simp only [State.servePrepare, bad]

section Preload

variable {x : State} {m : List (Nat × Nat)} (good : (preparing l v).judge .peer .set l = none)
  (free : (preparing l v).catchUpDue ((preparing l v).preload (preparing l v).accepted
    ((preparing l v).accepted.applyAll l)) = false)
  (idle : (preparing l v).bankBusy (preparing l v).accepted ((preparing l v).accepted.applyAll l) = false)
  (sent : (preparing l v).sendCfg true ((preparing l v).preload (preparing l v).accepted
    ((preparing l v).accepted.applyAll l)) = (x, m))
include good free idle sent

/-- The banks are preloaded: unit S is ready at once, or when the last port has answered. -/
theorem commitPrepare_preloads : commitPrepare l v
    = if m.isEmpty = true then
        ((({ x with pair := { x.pair with preparing := none, prepared := some l } }).setSset 17 { staged := l }).emit
          (.ready true))
      else { x with pair := { x.pair with preparing := some (l, true, m) } } := by
  unfold preparing at good free idle sent
  rw [commitPrepare, if_neg (by simp [mirrors])]
  simp only [State.servePrepare, good, free, idle, sent, Bool.or_self, Bool.false_eq_true, if_false]

end Preload

end Prepare

/-! ## COMMIT_READY, READY_TIMEOUT and COMMIT_MIRROR (R335) -/

theorem readyTimeout_due {h : Held} {l : List Held} (front : v.held = h :: l) (prepared : h.prepared = true)
    (waits : h.ready = false) (late : h.since.tick + 800000 ≤ v.tick) : readyTimeout v = v.readyFront := by
  unfold readyTimeout
  rw [front]
  exact if_pos (by simp [prepared, waits, late])

theorem readyTimeout_empty (empty : v.held = []) : readyTimeout v = v := by
  unfold readyTimeout
  rw [empty]

section Mirror

variable {i : Word} {l : List (Nat × Word)}

theorem commitMirror_alone (alone : v.mirrors = false) : commitMirror i l v = v := if_pos (by simp [alone])

theorem commitMirror_unprepared (mirrors : v.mirrors = true) (none_ : v.pair.prepared = none) :
    commitMirror i l v = v.startResync Rc.mirrorFailed := by
  rw [commitMirror, if_neg (by simp [mirrors]), none_]

variable {c : List Change} (mirrors : v.mirrors = true) (prepared : v.pair.prepared = some c)
include mirrors prepared

theorem commitMirror_late (late : v.ticketedPast l = true) :
    commitMirror i l v = v.startResync Rc.mirrorFailed := by
  rw [commitMirror, if_neg (by simp [mirrors]), prepared]
  exact if_pos late

theorem commitMirror_applies (due : v.ticketedPast l = false) : commitMirror i l v
    = (l.foldl (fun (s : State) x => s.unprepare x.1 x.2)
        ((({ v with pair := { v.pair with prepared := none, preparing := none } }).setSset 17 {}).logEntry
          { origin := .peer, obj := i.toNat, old := (v.commitDigests c).1, new := (v.commitDigests c).2, flags := 0x8 }
        )).installCommit i .peer c
          ((v.barsOfAll (v.accepted.applyAll c) c).map (fun b => (b, (l.find? (fun x => x.1 == b)).map (·.2)))) := by
  rw [commitMirror, if_neg (by simp [mirrors])]
  simp only [prepared, due, Bool.false_eq_true, if_false]

end Mirror

/-! ## Digests (R339) -/

theorem digestReceived_ignored {b p : Nat} {i d : Word} {x : Bool} (skips : v.comparesLine b i = false) :
    digestReceived b p i d x v = v := if_pos (by simp [skips])

section Digest

variable {b p : Nat} {i d : Word} {x : Bool} (runs : v.pair.state = .paired ∨ v.pair.state = .syncing)
  (compares : v.comparesLine b i = true)
include runs compares

theorem digestsMeet :
    ¬ (!(v.pair.state == .paired || v.pair.state == .syncing) || !v.comparesLine b i) = true := by
  simpa [compares, ← Decidable.or_iff_not_imp_left] using runs

theorem digestReceived_met {o : Digest} (own : v.pair.ownDigests.find? (sameLine
      { bar := b, port := p, line := i, digest := d, excluded := x, closed := v.tick }) = some o) :
    digestReceived b p i d x v
    = v.compareDigests o { bar := b, port := p, line := i, digest := d, excluded := x, closed := v.tick } := by
  simp only [digestReceived, if_neg (digestsMeet runs compares), own]

theorem digestReceived_first (none_ : v.pair.ownDigests.find? (sameLine
      { bar := b, port := p, line := i, digest := d, excluded := x, closed := v.tick }) = none) :
    digestReceived b p i d x v
    = { v with pair := { v.pair with twinDigests := v.pair.twinDigests
          ++ [{ bar := b, port := p, line := i, digest := d, excluded := x, closed := v.tick }] } } := by
  simp only [digestReceived, if_neg (digestsMeet runs compares), none_]

end Digest

theorem digestAbsent_none {b p : Nat} {i : Word} (own : v.pair.ownDigests = []) (twin : v.pair.twinDigests = []) :
    digestAbsent b p i v = v := by
  simp only [digestAbsent, own, twin, List.append_nil, List.find?_nil]

theorem sameLine_self (d : Digest) : sameLine d d = true := by simp [sameLine]

/-- The only digest is this unit's own, 2 ms old: its twin's counts as a mismatch. -/
theorem digestAbsent_late {d : Digest} (own : v.pair.ownDigests = [d]) (twin : v.pair.twinDigests = [])
    (compared : d.excluded = false) (late : d.closed + 800000 ≤ v.tick) : digestAbsent d.bar d.port d.line v
    = ({ v with pair := { v.pair with ownDigests := [] } }).mismatch d.bar d.port d.line := by
  simp only [digestAbsent, own, twin, List.append_nil, List.find?_cons, beq_self_eq_true, late, decide_true,
    Bool.and_self, compared, Bool.false_eq_true, if_false, List.filter_cons, List.filter_nil, sameLine_self,
    Bool.not_true]

/-! ## Resynchronisation (R341) -/

theorem resyncSnapshot_ignored {x : Snapshot} (other : v.pinsHeld = false ∨ v.pair.state ≠ .syncing) :
    resyncSnapshot x v = v := by
  refine if_pos ?_
  obtain drives | state := other
  · simp [drives]
  · simp [state]

/-- Unit S with the configuration of the snapshot, before it follows its twin. -/
def configTaken (x : Snapshot) (v : State) : State :=
  { v with
    base := x.cfg, commits := [], catchUps := [], banks := x.banks, health := { v.health with records := x.health }
    raster := v.raster.map (fun (r : Nat × RasterBar) =>
      (r.1, { r.2 with
        prepared := [], settled := [], blanked := [], parked := [], primed := false, waitsIndex := none }))
    plait := { v.plait with units := [] } }

/-- The join lines of the snapshot are in use, and lines are compared from them on. -/
def joinsTaken (x : Snapshot) (c : State) : State :=
  State.trySynced { c with pair := { c.pair with
    snapped := true, joins := x.joins, matches_ := [], badLines := [], openLines := [], lastGood := [] } }

theorem resyncSnapshot_installs {x : Snapshot} (held : v.pinsHeld = true) (syncing : v.pair.state = .syncing) :
    resyncSnapshot x v = joinsTaken x
      (x.joins.foldl State.installJoin (x.gens.foldl State.installTrig (x.histories.foldl State.installHistory
        (State.followTwin (sysOfCode v.pair.twinSys)
          (State.runHooks false v.inForce (followChanges v.inForce x.cfg) (configTaken x v)))))) := by
  rw [resyncSnapshot, if_neg (by simp [held, syncing])]
  simp only [joinsTaken, configTaken]

/-- A resynchronisation has failed once more. -/
def failedAgain (v : State) : State :=
  State.resyncDone Rc.resyncFailed { v with pair := { v.pair with resyncFails := v.pair.resyncFails + 1 } }

theorem resyncTimeout_due {t : Nat} (from_ : v.pair.resyncFrom = some t) (syncing : v.pair.state = .syncing)
    (late : t + 20000000 ≤ v.tick) : resyncTimeout v
    = if v.pair.resyncFails < 2 then (failedAgain v).startResync Rc.resyncFailed
      else (fun u : State => State.setPair .withdrawn 0 { u with pair := { u.pair with resyncFrom := none } })
        (failedAgain v) := by
  unfold resyncTimeout
  rw [from_]
  refine (if_neg (by simp [syncing, Nat.not_lt.mpr late])).trans (if_congr Nat.succ_lt_succ_iff ?_ ?_)
  · rw [failedAgain]
  · rw [failedAgain]

theorem resyncTimeout_none (none_ : v.pair.resyncFrom = none) : resyncTimeout v = v := by
  simp only [resyncTimeout, none_]

/-! ## BULK_FORWARD (R328) -/

theorem bulkForward_stores {a : Nat} {l : List Byte} (paired : v.inPair = true) (held : v.pinsHeld = true)
    (one : v.pair.hostBoth = false) (inside : a + l.length ≤ hbmUserEnd) : bulkForward a l v
    = (fun u : State => { u with pair := { u.pair with fwdBytes := u.pair.fwdBytes + l.length } }) (v.hbmWrite a l) :=
  if_pos (by simp [paired, held, one, inside])

theorem bulkForward_both {a : Nat} {l : List Byte} (both : v.pair.hostBoth = true) : bulkForward a l v = v :=
  if_neg (by simp [both])

/-! ## The rows -/

/-- Settles O55: each row is its operation at the row's moment, and each clause is one case of that operation. -/
theorem mirrorRows : Obligations.MirrorRows := by
  unfold Obligations.MirrorRows
  exact ⟨
    fun l => happens_of (f := commitPrepare l) (fun _ _ => rfl) fun _ alone => commitPrepare_alone alone,
    fun l _ _ => happens_of (f := commitPrepare l) (fun _ _ => rfl) fun _ ⟨mirrors, set, bad⟩ => by
      subst set
      exact commitPrepare_refuses mirrors bad,
    fun l _ _ => happens_of (f := commitPrepare l) (fun _ _ => rfl) fun _ ⟨mirrors, set, good, free, idle, sent⟩ => by
      subst set
      exact (commitPrepare_preloads mirrors good free idle sent).trans (if_pos rfl),
    fun l _ _ _ _ => happens_of (f := commitPrepare l) (fun _ _ => rfl)
      fun _ ⟨mirrors, set, good, free, idle, sent⟩ => by
        subst set
        exact (commitPrepare_preloads mirrors good free idle sent).trans (if_neg (by simp)),
    fun ok => happens_of (f := commitReady ok) (fun _ _ => rfl) fun _ leads => if_pos leads,
    fun ok => happens_of (f := commitReady ok) (fun _ _ => rfl) fun _ follows => if_neg (by simp [follows]),
    fun i l => happens_of (f := commitMirror i l) (fun _ _ => rfl) fun _ alone => commitMirror_alone alone,
    fun i l => happens_of (f := commitMirror i l) (fun _ _ => rfl) fun _ ⟨mirrors, none_⟩ =>
      commitMirror_unprepared mirrors none_,
    fun i l _ => happens_of (f := commitMirror i l) (fun _ _ => rfl) fun _ ⟨mirrors, prepared, late⟩ =>
      commitMirror_late mirrors prepared late,
    fun i l _ => happens_of (f := commitMirror i l) (fun _ _ => rfl) fun _ ⟨mirrors, prepared, due⟩ =>
      commitMirror_applies mirrors prepared due,
    fun _ _ => happens_of (f := readyTimeout) (fun _ _ => rfl) fun _ ⟨front, prepared, waits, late⟩ =>
      readyTimeout_due front prepared waits late,
    happens_of (f := readyTimeout) (fun _ _ => rfl) fun _ empty => readyTimeout_empty empty,
    fun b p i d x _ => happens_of (f := digestReceived b.val p.val i d x) (fun _ _ => rfl)
      fun _ ⟨runs, compares, own⟩ => digestReceived_met runs compares own,
    fun b p i d x => happens_of (f := digestReceived b.val p.val i d x) (fun _ _ => rfl)
      fun _ ⟨runs, compares, none_⟩ => digestReceived_first runs compares none_,
    fun b p i d x => happens_of (f := digestReceived b.val p.val i d x) (fun _ _ => rfl) fun _ skips =>
      digestReceived_ignored skips,
    fun b p i => happens_of (f := digestAbsent b.val p.val i) (fun _ _ => rfl) fun _ ⟨own, twin⟩ =>
      digestAbsent_none own twin,
    fun b p i _ => happens_of (f := digestAbsent b.val p.val i) (fun _ _ => rfl)
      fun _ ⟨own, twin, bar, port, line, compared, late⟩ => by
        rw [← bar, ← port, ← line]
        exact digestAbsent_late own twin compared late,
    fun x => happens_of (f := resyncSnapshot x) (fun _ _ => rfl) fun _ other => resyncSnapshot_ignored other,
    fun x => happens_of (f := resyncSnapshot x) (fun _ _ => rfl) fun _ ⟨held, syncing⟩ =>
      resyncSnapshot_installs held syncing,
    fun _ => happens_of (f := resyncTimeout) (fun _ _ => rfl) fun _ ⟨from_, syncing, late, few⟩ => by
      rw [resyncTimeout_due from_ syncing late, if_pos few, failedAgain],
    fun _ => happens_of (f := resyncTimeout) (fun _ _ => rfl) fun _ ⟨from_, syncing, late, many⟩ => by
      rw [resyncTimeout_due from_ syncing late, if_neg (Nat.not_lt.mpr many), failedAgain],
    happens_of (f := resyncTimeout) (fun _ _ => rfl) fun _ none_ => resyncTimeout_none none_,
    fun a l => happens_of (f := bulkForward a l) (fun _ _ => rfl) fun _ ⟨paired, held, one, inside⟩ =>
      bulkForward_stores paired held one inside,
    fun a l => happens_of (f := bulkForward a l) (fun _ _ => rfl) fun _ both => bulkForward_both both,
    fun q e => happens_of (f := twinLogEntry q e) (fun _ _ => rfl) fun _ runs => if_pos runs,
    fun q e => happens_of (f := twinLogEntry q e) (fun _ _ => rfl) fun _ alone => if_neg (by simp [alone])⟩

end Sys2Proof.Proofs.MirrorRows

/-!
PROOFS. The staged commands of MEM, POWER, BIST and LOG (R369, R403, R410, R417, R475, R484): one equation per case of a
command's body.
-/

namespace Sys2Proof.Proofs.PowerAndLogStaging

open Sys2Proof Sys2Proof.Machine Sys2Proof.Laws

variable {v : State} {rq : Request}

/-! ## POWER.THERM_SET (R417, R425) -/

section ThermSet

variable (domain : fld rq.payload 0 1 < 2)
include domain

theorem powerThermSetBody_outOfRange (out : thermInRange (fld rq.payload 0 1) (thermOf rq.payload) = false) :
    powerThermSetBody rq v = .refuse Rc.thermLimit 0 0 [] :=
  (checked_ok (by simp [domain])).trans (if_pos (by simp [out]))

variable (range : thermInRange (fld rq.payload 0 1) (thermOf rq.payload) = true)
include range

theorem powerThermSetBody_stages (rises : (thermOf rq.payload).warning ≤ (thermOf rq.payload).throttle)
    (apart : (thermOf rq.payload).throttle + 8 < (thermOf rq.payload).shutdown) :
    powerThermSetBody rq v = .stage (.therm (fld rq.payload 0 1) (thermOf rq.payload)) :=
  (checked_ok (by simp [domain])).trans ((if_neg (by simp [range])).trans (if_neg (by simp [rises, apart])))

theorem powerThermSetBody_disordered (disordered : (thermOf rq.payload).throttle < (thermOf rq.payload).warning
      ∨ (thermOf rq.payload).shutdown ≤ (thermOf rq.payload).throttle + 8) :
    powerThermSetBody rq v = .refuse Rc.thermOrder 0 0 [] := by
  refine (checked_ok (by simp [domain])).trans ((if_neg (by simp [range])).trans (if_pos ?_))
  simpa [Decidable.imp_iff_not_or] using disordered

end ThermSet

/-! ## BIST.CONFIG (R475) -/

theorem bistConfigBody_stages (period : fld rq.payload 0 2 = 0 ∧ v.otp.lc ≠ .oem ∧ v.otp.lc ≠ .field
      ∨ 5 ≤ fld rq.payload 0 2 ∧ fld rq.payload 0 2 ≤ 1440) :
    bistConfigBody rq v = .stage (.bistPeriod (fld rq.payload 0 2)) := by
  obtain ⟨off, other⟩ | ⟨long, short⟩ := period
  · exact (if_neg (by simp [other])).trans (checked_ok (by simp [off]))
  · exact (if_neg (by simp; omega)).trans (checked_ok (by simp [long, short]))

theorem bistConfigBody_refused (off : fld rq.payload 0 2 = 0) (sold : v.otp.lc = .oem ∨ v.otp.lc = .field) :
    bistConfigBody rq v = .refuse Rc.notPermittedInLifecycle 0 0 [] := if_pos (by simp [off, sold])

/-! ## All of them -/

/-- Settles O30: each clause is one case of the command's body. -/
theorem memoryPowerBistAndLogStage : Obligations.MemoryPowerBistAndLogStage := by
  unfold Obligations.MemoryPowerBistAndLogStage
  exact ⟨
    stages_of (fun _ _ _ => rfl) fun _ _ ok => checked_ok ok,
    stages_of (fun _ _ _ => rfl) fun _ _ _ => rfl,
    stages_of (fun _ _ _ => rfl) fun _ _ ok => checked_ok ok,
    stages_of (fun _ _ _ => rfl) fun _ _ ⟨domain, range, rises, apart⟩ =>
      powerThermSetBody_stages domain range rises apart,
    denies_of (fun _ _ _ => rfl) fun _ _ ⟨domain, out⟩ => powerThermSetBody_outOfRange domain out,
    denies_of (fun _ _ _ => rfl) fun _ _ ⟨domain, range, disordered⟩ =>
      powerThermSetBody_disordered domain range disordered,
    stages_of (fun _ _ _ => rfl) fun _ _ period => bistConfigBody_stages period,
    denies_of (fun _ _ _ => rfl) fun _ _ ⟨off, sold⟩ => bistConfigBody_refused off sold,
    stages_of (fun _ _ _ => rfl) fun _ _ mode => checked_ok (by simp [mode])⟩

end Sys2Proof.Proofs.PowerAndLogStaging

/-!
PROOFS. The actions of MEM (R357, R363, R365, R369): one equation per case of a command's body.
-/

namespace Sys2Proof.Proofs.MemoryCommands

open Sys2Proof Sys2Proof.Machine Sys2Proof.Laws

variable {v : State} {rq : Request}

/-! ## MEM.STAKE_HANDOVER (R357) -/

/-- The owner that a MEM.STAKE_HANDOVER payload names. -/
def newOwner (p : List Byte) : Option Nat := if fld p 1 1 = 0x0F then some (fld p 4 4) else none

/-- The bank that a request names, as it is. -/
def bankOf (rq : Request) (v : State) : Stake := v.mem.stakes.get {} (fld rq.payload 0 1)

/-- The mailbox may hand the bank over: its own, or one of the system to itself. -/
def Entitled (rq : Request) (v : State) : Prop :=
  (bankOf rq v).owner = some rq.mbx.val ∨ (bankOf rq v).owner = none ∧ newOwner rq.payload = some rq.mbx.val

/-- The bank is to be cleared: as asked, or because the system had it or takes it. -/
def Clears (rq : Request) (v : State) : Prop :=
  bit (fld rq.payload 2 1) 0 = true ∨ (bankOf rq v).owner = none ∨ newOwner rq.payload = none

theorem clears_iff : (bit (fld rq.payload 2 1) 0 || (bankOf rq v).owner.isNone || (newOwner rq.payload).isNone) = true
    ↔ Clears rq v := by
  simp only [Clears, Bool.or_eq_true, Option.isNone_iff_eq_none, or_assoc]

/-- The memory once the bank has its new owner, and with its old content gone where it is cleared. -/
def memHanded (clear : Bool) (rq : Request) (v : State) : Mem :=
  let m := if clear then
      { v.mem with
        onchip := List.filter (fun (c : Host.Cell) =>
          !(decide (stakeBase + fld rq.payload 0 1 * 0x100000 ≤ c.1)
            && decide (c.1 < stakeBase + fld rq.payload 0 1 * 0x100000 + 0x100000))) v.mem.onchip
        poison := unpoison 1 (stakeBase + fld rq.payload 0 1 * 0x100000) 0x100000 v.mem.poison }
    else v.mem
  { m with
    stakes := m.stakes.set (fld rq.payload 0 1)
      { owner := newOwner rq.payload, token := BitVec.ofNat 32 (fld rq.payload 12 4) } }

/-- The handover is logged and posted. -/
def handedOver (clear : Bool) (rq : Request) (v : State) : State :=
  { v.logOpen { origin := .mbx rq.mbx.val, cls := Cls.stakeBank, obj := fld rq.payload 0 1 } with
    mem := memHanded clear rq v }.post
    (ev Ev.stakeHandover Cls.stakeBank (fld rq.payload 0 1) 0
      ((ownerOf (newOwner rq.payload)).1.toNat + 256 * (ownerOf (newOwner rq.payload)).2 + 2 ^ 40 * b2n clear))

section Handover

variable (ok : ∀ f ∈ handoverFields rq.payload, f.1 = true)
include ok

theorem memStakeHandoverBody_fixed (fixed : fld rq.payload 0 1 ≠ 6) :
    memStakeHandoverBody rq v = .refuse Rc.stakeFixed Cls.stakeBank (fld rq.payload 0 1) [] :=
  (checked_ok ok).trans (if_pos (by simpa using fixed))

variable (six : fld rq.payload 0 1 = 6)
include six

theorem memStakeHandoverBody_foreign (foreign : ¬ Entitled rq v) : memStakeHandoverBody rq v
    = .refuse Rc.stakeNotOwner Cls.stakeBank (fld rq.payload 0 1)
      (ownerPayload (ownerOf (bankOf rq v).owner).1 (ownerOf (bankOf rq v).owner).2) := by
  refine (checked_ok ok).trans ((if_neg (by simp [six])).trans (if_pos ?_))
  simp only [Entitled, bankOf, newOwner, not_or, not_and] at foreign
  split
  next n owned =>
    rw [owned] at foreign
    simpa using foreign.1
  next owned => simpa using foreign.2 owned

variable (entitled : Entitled rq v)
include entitled

/-- What an entitled request answers depends on its token. -/
theorem memStakeHandoverBody_entitled : memStakeHandoverBody rq v
    = if BitVec.ofNat 32 (fld rq.payload 8 4) != (bankOf rq v).token then
        refuseObj Rc.stakeToken Cls.stakeBank (fld rq.payload 0 1)
      else if (bankOf rq v).owner.isNone && v.bist.demand.isSome then refuseAs Rc.busy
      else if v.stakeInFlight (bankOf rq v).owner (fld rq.payload 0 1) then refuseAs Rc.busy
      else .done (handedOver
        (bit (fld rq.payload 2 1) 0 || (bankOf rq v).owner.isNone || (newOwner rq.payload).isNone) rq v) [] := by
  simp only [Entitled, bankOf, newOwner] at entitled
  refine (checked_ok ok).trans ((if_neg (by simp [six])).trans ((if_neg ?_).trans ?_))
  · obtain own | ⟨free, mine⟩ := entitled
    · simp only [own, bne_self_eq_false, Bool.false_eq_true, not_false_eq_true]
    · simpa only [free, bne_iff_ne, ne_eq, not_not] using mine
  · simp only [bankOf, newOwner, handedOver, memHanded, logOpen_mem]
    rfl

theorem memStakeHandoverBody_token (wrong : ¬ BitVec.ofNat 32 (fld rq.payload 8 4) = (bankOf rq v).token) :
    memStakeHandoverBody rq v = .refuse Rc.stakeToken Cls.stakeBank (fld rq.payload 0 1) [] := by
  rw [memStakeHandoverBody_entitled ok six entitled, if_pos (by simpa using wrong), refuseObj]

variable (token : BitVec.ofNat 32 (fld rq.payload 8 4) = (bankOf rq v).token)
include token

theorem memStakeHandoverBody_busy (busy : v.stakeInFlight (bankOf rq v).owner (fld rq.payload 0 1) = true) :
    memStakeHandoverBody rq v = .refuse Rc.busy 0 0 [] := by
  rw [memStakeHandoverBody_entitled ok six entitled, if_neg (by simp [token]), if_pos busy, ite_self, refuseAs]

theorem memStakeHandoverBody_clears (untested : (bankOf rq v).owner = none → v.bist.demand = none)
    (idle : v.stakeInFlight (bankOf rq v).owner (fld rq.payload 0 1) = false) (clears : Clears rq v) :
    memStakeHandoverBody rq v = .done (handedOver true rq v) [] := by
  have free : ¬ ((bankOf rq v).owner.isNone && v.bist.demand.isSome) = true := by
    simpa using untested
  rw [memStakeHandoverBody_entitled ok six entitled, if_neg (by simp [token]), if_neg free, if_neg (by simp [idle]),
    clears_iff.mpr clears]

theorem memStakeHandoverBody_keeps
    (idle : v.stakeInFlight (bankOf rq v).owner (fld rq.payload 0 1) = false) (keeps : ¬ Clears rq v) :
    memStakeHandoverBody rq v = .done (handedOver false rq v) [] := by
  have owned : ¬ ((bankOf rq v).owner.isNone && v.bist.demand.isSome) = true := fun both =>
    keeps (.inr (.inl (Option.isNone_iff_eq_none.mp (Bool.and_eq_true_iff.mp both).1)))
  rw [memStakeHandoverBody_entitled ok six entitled, if_neg (by simp [token]), if_neg owned, if_neg (by simp [idle]),
    Bool.eq_false_iff.mpr (mt clears_iff.mp keeps)]

end Handover

/-! ## MEM.BANK_RETIRE (R365) -/

section BankRetire

variable (bank : fld rq.payload 0 1 < 32)
include bank

theorem memBankRetireBody_going (going : v.bankGoing (fld rq.payload 0 1) = true) :
    memBankRetireBody rq v = .refuse Rc.bankAlreadyRetired 0 0 [] :=
  (checked_ok (by simp [bank])).trans (if_pos going)

variable (stays : v.bankGoing (fld rq.payload 0 1) = false)
include stays

theorem memBankRetireBody_limit (full : 4 ≤ v.banksGoing) : memBankRetireBody rq v = .refuse Rc.retireLimit 0 0 [] :=
  (checked_ok (by simp [bank])).trans ((if_neg (by simp [stays])).trans (if_pos full))

theorem memBankRetireBody_accepts (room : v.banksGoing < 4) : memBankRetireBody rq v
    = .accept (v.retireBank { bank := fld rq.payload 0 1, origin := .mbx rq.mbx.val, reason := 0
                              waiter := some (v.waiterOf rq 0x0B04) }) :=
  (checked_ok (by simp [bank])).trans ((if_neg (by simp [stays])).trans (if_neg (Nat.not_le.mpr room)))

end BankRetire

/-! ## MEM.HBM_REPAIR (R363, R446) -/

theorem memHbmRepairBody_none (none_ : v.mem.rowsPending = []) :
    memHbmRepairBody rq v = .refuse Rc.noRepairPending 0 0 [] := if_pos (by simp [none_])

section HbmRepair

variable (some_ : v.mem.rowsPending ≠ [])
include some_

theorem memHbmRepairBody_full
    (full : v.lockedNow 2 = true ∨ (blankSlots v.otp.array).length < v.mem.rowsPending.length) :
    memHbmRepairBody rq v = .refuse Rc.repairFull 0 0 [] :=
  (if_neg (by simp [some_])).trans (if_pos (by simpa using full))

theorem memHbmRepairBody_accepts (open_ : v.lockedNow 2 = false)
    (room : v.mem.rowsPending.length ≤ (blankSlots v.otp.array).length) :
    memHbmRepairBody rq v = .accept (v.queueOtp (.rows v.mem.rowsPending) (v.waiterOf rq 0x0B08)) :=
  (if_neg (by simp [some_])).trans (if_neg (by simp [open_, room]))

end HbmRepair

/-! ## All of them -/

open SystemCommands (logs_freely)

/-- Settles O37: each clause is one case of the command's body. -/
theorem memoryCommandsAct : Obligations.MemoryCommandsAct := by
  unfold Obligations.MemoryCommandsAct
  exact ⟨
    acts_of (fun _ _ _ => rfl)
      (fun _ _ ⟨ok, _, six, entitled, token, untested, idle, clears⟩ => by
        rw [memStakeHandoverBody_clears ok six entitled token untested idle clears]
        simp only [handedOver, memHanded, newOwner, if_true, b2n])
      (fun _ _ quiet => by simpa using quiet) (logs_freely fun _ _ ⟨_, free, _⟩ => free),
    acts_of (fun _ _ _ => rfl)
      (fun _ _ ⟨ok, _, six, entitled, token, idle, keeps⟩ => by
        rw [memStakeHandoverBody_keeps ok six entitled token idle keeps]
        simp only [handedOver, memHanded, newOwner, Bool.false_eq_true, if_false, b2n])
      (fun _ _ quiet => by simpa using quiet) (logs_freely fun _ _ ⟨_, free, _⟩ => free),
    denies_of (fun _ _ _ => rfl) fun _ _ ⟨ok, fixed⟩ => memStakeHandoverBody_fixed ok fixed,
    deniesWith_of (fun _ _ _ => rfl) fun _ _ ⟨ok, six, foreign⟩ => memStakeHandoverBody_foreign ok six foreign,
    denies_of (fun _ _ _ => rfl) fun _ _ ⟨ok, six, entitled, wrong⟩ =>
      memStakeHandoverBody_token ok six entitled wrong,
    denies_of (fun _ _ _ => rfl) fun _ _ ⟨ok, six, entitled, token, busy⟩ =>
      memStakeHandoverBody_busy ok six entitled token busy,
    accepts_of (fun _ _ _ => rfl) (fun _ _ ⟨bank, _, stays, room⟩ => memBankRetireBody_accepts bank stays room)
      (fun _ _ quiet => (keeps_retireBank _ _).2.1 quiet) (logs_freely fun _ _ ⟨_, free, _⟩ => free),
    denies_of (fun _ _ _ => rfl) fun _ _ ⟨bank, going⟩ => memBankRetireBody_going bank going,
    denies_of (fun _ _ _ => rfl) fun _ _ ⟨bank, stays, full⟩ => memBankRetireBody_limit bank stays full,
    accepts_of (fun _ _ _ => rfl) (fun _ _ ⟨_, some_, open_, room⟩ => memHbmRepairBody_accepts some_ open_ room)
      (fun _ _ quiet => by simpa using quiet) (logs_freely fun _ _ ⟨free, _⟩ => free),
    denies_of (fun _ _ _ => rfl) fun _ _ none_ => memHbmRepairBody_none none_,
    denies_of (fun _ _ _ => rfl) fun _ _ ⟨some_, full⟩ => memHbmRepairBody_full some_ full,
    acts_of (fun _ _ _ => rfl) (fun _ _ clears => checked_ok (by simp [clears]))
      (fun _ _ quiet => quiet) (fun _ _ _ _ => ⟨rfl, rfl⟩)⟩

end Sys2Proof.Proofs.MemoryCommands

/-!
PROOFS. Scrubbing, poison, DMA units and host transfers (R361, R362, R374, R375, R385, R386): one equation per case of
an operation.
-/

namespace Sys2Proof.Proofs.MemoryAndDmaRows

open Sys2Proof Sys2Proof.Machine Sys2Proof.Laws

variable {v : State}

/-! ## The patrol scrub and poison (R361, R362) -/

/-- What the patrol finds is treated in the order found. -/
def treated (k : Fin 3) (l : List MemError) (v : State) : State :=
  (l.filter (fun e => e.source == k)).foldl
    (fun (s : State) (e : MemError) => if e.correctable = true then s.corrected e else s.uncorrectable e) v

theorem scrubStep_runs {k : Fin 3} {l : List MemError} {last : Bool} (runs : v.linkRuns = true) (on : v.sys ≠ .off)
    (alive : v.sys ≠ .safe) : scrubStep k l last v
    = if last && k == 2 then
        { treated k l v with mem := { (treated k l v).mem with scrubPassAt := (treated k l v).aon } }
      else treated k l v :=
  if_neg (by simp [runs, on, alive])

section PoisonRewrite

variable {a : Nat} (tables : a < 0xB80000)
include tables

theorem poisonRewrite_allowed (may : v.regionAllows 0 (a / 8 * 8) 8 .write = true) : poisonRewrite a v
    = { v with mem := { v.mem with
          poison := v.mem.poison.filter (fun w => !(w.1 == 0 && w.2 == a / 8 * 8)) } } :=
  (if_neg (Nat.not_le.mpr tables)).trans (if_neg (by simp [may]))

theorem poisonRewrite_denied (denied : v.regionAllows 0 (a / 8 * 8) 8 .write = false) :
    poisonRewrite a v = v.violation 0 (a / 8 * 8) .write :=
  (if_neg (Nat.not_le.mpr tables)).trans (if_pos (by simp [denied]))

end PoisonRewrite

/-! ## The units (R374, R375) -/

/-- The unit of a running channel is not in service, or is to be lent. -/
def losesUnit (w : State) (c : Nat) : Bool := match (w.chan32 c).unit with
  | some u => !w.dmaUnits.contains u || (w.pool 4).wants == some u
  | none => true

theorem dmaUnitAssign_runs (runs : v.rotateWaiting.dmaRuns = true) : dmaUnitAssign v
    = assignUnits 5 (((v.rotateWaiting.channelsIn .running).filter (losesUnit v.rotateWaiting)).foldl
        (fun (s : State) (c : Nat) => s.dmaPreemptChan c true) v.rotateWaiting).rotateWaiting :=
  if_neg (by simp [runs])

theorem dmaUnitAssign_stands (stands : v.rotateWaiting.dmaRuns = false) : dmaUnitAssign v = v.rotateWaiting :=
  if_pos (by simp [stands])

theorem dmaPreempt_stands (stands : v.dmaRuns = false ∨ v.freeDmaUnit ≠ none) : dmaPreempt v = v := by
  refine if_pos ?_
  obtain off | free := stands
  · simp [off]
  · simp [Option.isSome_iff_ne_none.mpr free]

section Preempt

variable {w x : Nat} (best : v.bestWaiting = some w) (victim : v.victim = some x)
include best victim

theorem dmaPreempt_preempts (runs : v.dmaRuns = true) (none_ : v.freeDmaUnit = none)
    (lower : (v.chan32 x).priority < (v.chan32 w).priority) : dmaPreempt v = v.dmaPreemptChan x true := by
  rw [dmaPreempt, if_neg (by simp [runs, none_]), best, victim]
  exact if_pos lower

theorem dmaPreempt_keeps (keeps : (v.chan32 w).priority ≤ (v.chan32 x).priority) : dmaPreempt v = v := by
  unfold dmaPreempt
  split
  · rfl
  · simp only [best, victim, Nat.not_lt.mpr keeps, if_false]

end Preempt

/-- A running channel at a beat: it yields to one of equal priority after 64 KiB, or goes on. -/
def yieldsOrRuns (s : State) (c : Nat) : State :=
  if (s.chan32 c).ended = false ∧ 65536 ≤ (s.chan32 c).movedOnUnit
      ∧ (s.channelsIn .preempted).any (fun d => (s.chan32 d).priority == (s.chan32 c).priority) = true then
    s.dmaPreemptChan c false
  else s.dmaRun c

theorem dmaYield_runs (runs : v.dmaRuns = true) :
    dmaYield v = (v.channelsIn .running).foldl yieldsOrRuns v := by
  refine (if_neg (by simp [runs])).trans (congrArg (fun f => List.foldl f v _) (funext₂ fun s c => ?_))
  exact if_congr (by simp only [Bool.and_eq_true, Bool.not_eq_true', decide_eq_true_eq, and_assoc]) rfl rfl

/-! ## Answers of the host (R386) -/

section Completion

variable {c a : Nat} {r : Completion}

theorem dmaHostCompletion_unexpected (none_out : ∀ k t, (v.chan32 c).fetching ≠ some (k, .out t))
    (none_ : answerRead a r (v.chan32 c).reads = none) :
    dmaHostCompletion c a r v = { v with host := { v.host with aer := v.host.aer + 1 } } := by
  unfold dmaHostCompletion
  simp only [none_]

section Fetch

variable {k t : Nat} (out : (v.chan32 c).fetching = some (k, .out t))
  (none_ : answerRead a r (v.chan32 c).reads = none)
include out none_

theorem dmaHostCompletion_fetched (asked : a = ((v.chan32 c).list k).next.getD 0 / 32 * 32) :
    dmaHostCompletion c a r v
    = (v.setChan32 c { v.chan32 c with
        fetching := some (k, completionReply r 32 (((v.chan32 c).list k).next.getD 0 % 32) 16) }).dmaGoOn c := by
  simp only [dmaHostCompletion, out, none_]
  exact if_pos asked

theorem dmaHostCompletion_elsewhere (other : a ≠ ((v.chan32 c).list k).next.getD 0 / 32 * 32) :
    dmaHostCompletion c a r v = { v with host := { v.host with aer := v.host.aer + 1 } } := by
  simp only [dmaHostCompletion, out, none_]
  exact if_neg other

end Fetch

/-- A request that is answered leaves the list; its element may finish, where the channel copies forward. -/
theorem dmaHostCompletion_read {y : DmaRead} {l : List DmaRead}
    (answered : answerRead a r (v.chan32 c).reads = some (y, l)) : dmaHostCompletion c a r v
    = State.dmaGoOn c (if (v.chan32 c).back.isNone && y.isRead then
          (v.setChan32 c { v.chan32 c with reads := l }).gatherDone c y.pos y.irq
        else v.setChan32 c { v.chan32 c with reads := l }) := by
  unfold dmaHostCompletion
  simp only [answered]

end Completion

/-! ## Timeouts and the end of a transfer (R385, R386) -/

section MemTimeout

variable {c t : Nat} (asked : (v.chan32 c).memRead = some t)
include asked

theorem dmaMemTimeout_write (late : t + 40000 ≤ v.tick) (running : (v.chan32 c).state = .running)
    (runs : v.dmaRuns = true) (writes : (v.chan32 c).need = .write) : dmaMemTimeout c v
    = v.dmaHalt c Rc.timeout (dataFailure 1 1 (v.chan32 c).scatter (v.chan32 c).scatter.at_) := by
  unfold dmaMemTimeout
  simp only [asked, writes]
  exact if_neg (by simp [Nat.not_lt.mpr late, running, runs])

theorem dmaMemTimeout_early (early : v.tick < t + 40000) : dmaMemTimeout c v = v := by
  unfold dmaMemTimeout
  simp only [asked]
  exact if_pos (by simp [early])

end MemTimeout

/-- The host's requests of a channel that are 50 ms old. -/
def lateCount (c : Nat) (v : State) : Nat :=
  ((v.chan32 c).reads.filter (fun x => x.reply.late v.tick)).length
    + (if (v.chan32 c).fetching.any (fun f => f.2.late v.tick) = true then 1 else 0)

/-- They have failed. -/
def lateFailed (c : Nat) (v : State) : DmaChan :=
  { v.chan32 c with
    reads := (v.chan32 c).reads.map
      (fun x => if x.reply.late v.tick = true then { x with reply := .failed Rc.hostTimeout } else x)
    fetching := (v.chan32 c).fetching.map
      (fun f => if f.2.late v.tick = true then (f.1, .failed Rc.hostTimeout) else f) }

theorem dmaHostTimeout_late {c : Nat} (some_ : lateCount c v ≠ 0) : dmaHostTimeout c v
    = (({ v with host := { v.host with aer := v.host.aer + lateCount c v } }).setChan32 c (lateFailed c v)).dmaGoOn c :=
  if_neg some_

theorem dmaHostTimeout_none {c : Nat} (reads : ∀ x ∈ (v.chan32 c).reads, x.reply.late v.tick = false)
    (fetch : ∀ f, (v.chan32 c).fetching = some f → f.2.late v.tick = false) : dmaHostTimeout c v = v := by
  have none_read : (v.chan32 c).reads.filter (fun x => x.reply.late v.tick) = [] :=
    List.filter_eq_nil_iff.mpr fun x here => by simp [reads x here]
  have none_fetched : (v.chan32 c).fetching.any (fun f => f.2.late v.tick) = false := by
    cases out : (v.chan32 c).fetching with
    | none => rfl
    | some f => exact fetch f out
  refine if_pos ?_
  rw [none_read, none_fetched]
  rfl

section TransferEnd

variable {c : Nat}

theorem dmaTransferEnd_ended (running : (v.chan32 c).state = .running) (ended : (v.chan32 c).ended = true) :
    dmaTransferEnd c v
    = (v.setChan32 c { v.chan32 c with state := .idle, unit := none, ended := false, memRead := none }).post
        (ev Ev.dmaDone Cls.dmaChannel c 0 ((v.chan32 c).bytesDone % 2 ^ 48)) :=
  if_neg (by simp [running, ended])

theorem dmaTransferEnd_goesOn (other : (v.chan32 c).state ≠ .running ∨ (v.chan32 c).ended = false) :
    dmaTransferEnd c v = v := if_pos (by simpa using other)

end TransferEnd

/-! ## The rows -/

/-- Settles O56: each row is its operation at the row's moment, and each clause is one case of that operation. -/
theorem memoryAndDmaRows : Obligations.MemoryAndDmaRows := by
  unfold Obligations.MemoryAndDmaRows
  exact ⟨
    fun k l => happens_of (f := scrubStep k l false) (fun _ _ => rfl) fun _ ⟨runs, on, alive⟩ =>
      (scrubStep_runs runs on alive).trans (if_neg (by simp)),
    happens_of (f := scrubStep 2 [] true) (fun _ _ => rfl) fun _ ⟨runs, on, alive⟩ =>
      scrubStep_runs runs on alive,
    fun a => happens_of (f := poisonRewrite a) (fun _ _ => rfl) fun _ ⟨tables, may⟩ => poisonRewrite_allowed tables may,
    fun a => happens_of (f := poisonRewrite a) (fun _ _ => rfl) fun _ ⟨tables, denied⟩ =>
      poisonRewrite_denied tables denied,
    fun _ => happens_of (f := dmaUnitAssign) (fun _ _ => rfl) fun _ ⟨rotated, runs⟩ => by
      subst rotated
      exact dmaUnitAssign_runs runs,
    happens_of (f := dmaUnitAssign) (fun _ _ => rfl) fun _ stands => dmaUnitAssign_stands stands,
    fun _ _ => happens_of (f := dmaPreempt) (fun _ _ => rfl) fun _ ⟨runs, none_, best, victim, lower⟩ =>
      dmaPreempt_preempts best victim runs none_ lower,
    fun _ _ => happens_of (f := dmaPreempt) (fun _ _ => rfl) fun _ ⟨best, victim, keeps⟩ =>
      dmaPreempt_keeps best victim keeps,
    happens_of (f := dmaPreempt) (fun _ _ => rfl) fun _ stands => dmaPreempt_stands stands,
    happens_of (f := dmaYield) (fun _ _ => rfl) fun _ runs => dmaYield_runs runs,
    fun c a r => happens_of (f := dmaHostCompletion c.val a r) (fun _ _ => rfl) fun _ ⟨none_out, none_⟩ =>
      dmaHostCompletion_unexpected none_out none_,
    fun c a r _ _ => happens_of (f := dmaHostCompletion c.val a r) (fun _ _ => rfl) fun _ ⟨out, none_, asked⟩ =>
      dmaHostCompletion_fetched out none_ asked,
    fun c a r _ _ => happens_of (f := dmaHostCompletion c.val a r) (fun _ _ => rfl) fun _ ⟨out, none_, other⟩ =>
      dmaHostCompletion_elsewhere out none_ other,
    fun c a r _ _ => happens_of (f := dmaHostCompletion c.val a r) (fun _ _ => rfl) fun _ ⟨answered, waits⟩ => by
      rw [dmaHostCompletion_read answered, if_neg]
      obtain back | unread := waits
      · simp [Option.isNone_eq_false_iff.mpr (Option.isSome_iff_ne_none.mpr back)]
      · simp [unread],
    fun c a r _ _ => happens_of (f := dmaHostCompletion c.val a r) (fun _ _ => rfl) fun _ ⟨answered, ahead, read⟩ => by
      rw [dmaHostCompletion_read answered, if_pos (by simp [ahead, read])],
    fun c _ => happens_of (f := dmaMemTimeout c.val) (fun _ _ => rfl) fun _ ⟨asked, late, running, runs, writes⟩ =>
      dmaMemTimeout_write asked late running runs writes,
    fun c _ => happens_of (f := dmaMemTimeout c.val) (fun _ _ => rfl) fun _ ⟨asked, early⟩ =>
      dmaMemTimeout_early asked early,
    fun c _ => happens_of (f := dmaHostTimeout c.val) (fun _ _ => rfl) fun _ ⟨count, some_⟩ => by
      subst count
      exact dmaHostTimeout_late some_,
    fun c => happens_of (f := dmaHostTimeout c.val) (fun _ _ => rfl) fun _ ⟨reads, fetch⟩ =>
      dmaHostTimeout_none reads fetch,
    fun c => happens_of (f := dmaTransferEnd c.val) (fun _ _ => rfl) fun _ ⟨running, ended⟩ =>
      dmaTransferEnd_ended running ended,
    fun c => happens_of (f := dmaTransferEnd c.val) (fun _ _ => rfl) fun _ other => dmaTransferEnd_goesOn other⟩

end Sys2Proof.Proofs.MemoryAndDmaRows

/-!
PROOFS. The actions of DMA (R372, R373, R378, R387, R388, R390): what a command on a channel answers by the channel's
state and owner, and one equation per case of each command's body.
-/

namespace Sys2Proof.Proofs.DmaCommands

open Sys2Proof Sys2Proof.Machine Sys2Proof.Laws

variable {v : State} {rq : Request}

/-- The channel that a request names. -/
def channelOf (rq : Request) (v : State) : DmaChan := v.chan32 (fld rq.payload 0 1)

/-! ## A command on a channel (R372, R373, R390) -/

section OnChannel

variable {closed : Reason} {k : Nat → DmaChan → Verdict} (channel : fld rq.payload 0 1 < 32)
include channel

theorem onChannel_closed (unopened : (channelOf rq v).state = .closed) :
    onChannel closed rq v k = .refuse closed Cls.dmaChannel (fld rq.payload 0 1) [] :=
  (checked_ok (by simp [channel])).trans (if_pos (beq_iff_eq.mpr unopened))

variable (opened : (channelOf rq v).state ≠ .closed)
include opened

theorem onChannel_owned (foreign : (channelOf rq v).owner ≠ some rq.mbx.val) : onChannel closed rq v k
    = .refuse Rc.dmaChannelOwned Cls.dmaChannel (fld rq.payload 0 1)
      (ownerPayload (dmaOwner (channelOf rq v)).1 (dmaOwner (channelOf rq v)).2) :=
  (checked_ok (by simp [channel])).trans
    ((if_neg (mt beq_iff_eq.mp opened)).trans (if_pos (bne_iff_ne.mpr foreign)))

theorem onChannel_own (own : (channelOf rq v).owner = some rq.mbx.val) :
    onChannel closed rq v k = k (fld rq.payload 0 1) (channelOf rq v) :=
  (checked_ok (by simp [channel])).trans
    ((if_neg (mt beq_iff_eq.mp opened)).trans (if_neg fun other => bne_iff_ne.mp other own))

end OnChannel

/-! ## DMA.OPEN (R372, R373) -/

section Open

variable (channel : fld rq.payload 0 1 < 32) (priority : fld rq.payload 1 1 < 4) (hops : fld rq.payload 4 4 ≤ 16777216)
include channel priority hops

theorem dmaOpenBody_owned (opened : (channelOf rq v).state ≠ .closed)
    (foreign : (channelOf rq v).owner ≠ some rq.mbx.val) : dmaOpenBody rq v
    = .refuse Rc.dmaChannelOwned Cls.dmaChannel (fld rq.payload 0 1)
      (ownerPayload (dmaOwner (channelOf rq v)).1 (dmaOwner (channelOf rq v)).2) := by
  rw [channelOf] at opened foreign
  exact (checked_ok (by simp [channel, priority, hops])).trans (if_pos (by simp [opened, foreign]))

theorem dmaOpenBody_active (opened : (channelOf rq v).state ≠ .closed) (active : (channelOf rq v).state ≠ .idle)
    (own : (channelOf rq v).owner = some rq.mbx.val) :
    dmaOpenBody rq v = .refuse Rc.channelActive Cls.dmaChannel (fld rq.payload 0 1) [] := by
  rw [channelOf] at opened active own
  exact (checked_ok (by simp [channel, priority, hops])).trans
    ((if_neg (by simp [own])).trans (if_pos (by simp [opened, active])))

theorem dmaOpenBody_opens (free : (channelOf rq v).state = .closed
      ∨ (channelOf rq v).state = .idle ∧ (channelOf rq v).owner = some rq.mbx.val) : dmaOpenBody rq v
    = .done ((v.logOpen { origin := .mbx rq.mbx.val, cls := Cls.dmaChannel, obj := fld rq.payload 0 1 }).setChan32
        (fld rq.payload 0 1) { ({} : DmaChan) with
          state := .idle, owner := some rq.mbx.val, priority := fld rq.payload 1 1
          hopLimit := if fld rq.payload 4 4 = 0 then 65536 else fld rq.payload 4 4 }) [] := by
  rw [channelOf] at free
  refine (checked_ok (by simp [channel, priority, hops])).trans ((if_neg ?_).trans (if_neg ?_))
  · obtain closed | ⟨_, own⟩ := free
    · simp [closed]
    · simp [own]
  · obtain closed | ⟨idle, _⟩ := free
    · simp [closed]
    · simp [idle]

end Open

/-! ## Commands on a channel of the mailbox's own -/

section Own

variable (channel : fld rq.payload 0 1 < 32) (own : (channelOf rq v).owner = some rq.mbx.val)
include channel own

theorem dmaCloseBody_closes (idle : (channelOf rq v).state = .idle) : dmaCloseBody rq v
    = .done ((v.logOpen { origin := .mbx rq.mbx.val, cls := Cls.dmaChannel, obj := fld rq.payload 0 1 }).setChan32
        (fld rq.payload 0 1) {}) [] :=
  (onChannel_own channel (by simp [idle]) own).trans (if_neg (by simp [idle]))

theorem dmaCloseBody_active (opened : (channelOf rq v).state ≠ .closed) (active : (channelOf rq v).state ≠ .idle) :
    dmaCloseBody rq v = .refuse Rc.channelActive Cls.dmaChannel (fld rq.payload 0 1) [] :=
  (onChannel_own channel opened own).trans (if_pos (by simp [active]))

/-! ### DMA.START (R378) -/

/-- The channel waits for a unit, at the head of both lists. -/
def started (rq : Request) (v : State) : State :=
  v.setChan32 (fld rq.payload 0 1) { channelOf rq v with
    state := .preempted, waitsFrom := v.tick
    gather := { space := fld rq.payload 1 1, next := some (fld rq.payload 4 8) }
    scatter := { space := fld rq.payload 2 1, next := some (fld rq.payload 12 8) }, reads := [], fetching := none
    back := none, ended := false, gap := false, bytesDone := 0, bytesSkipped := 0, elementsDone := 0 }

section Start

variable (gatherSpace : fld rq.payload 1 1 < 4) (scatterSpace : fld rq.payload 2 1 < 4)
  (gather : fld rq.payload 4 8 < 2 ^ 48) (scatter : fld rq.payload 12 8 < 2 ^ 48)
  (idle : (channelOf rq v).state = .idle)
include gatherSpace scatterSpace gather scatter idle

theorem dmaStartBody_invalid (bad : fld rq.payload 4 8 % 16 ≠ 0 ∨ fld rq.payload 12 8 % 16 ≠ 0
      ∨ v.listSpaceOk (channelOf rq v).owner (fld rq.payload 1 1) = false
      ∨ v.listSpaceOk (channelOf rq v).owner (fld rq.payload 2 1) = false) :
    dmaStartBody rq v = .refuse Rc.listInvalid Cls.dmaChannel (fld rq.payload 0 1) [] :=
  (checked_ok (by simpa [channel, gatherSpace, scatterSpace] using ⟨gather, scatter⟩)).trans
    ((onChannel_own channel (by simp [idle]) own).trans
      ((if_neg (by simp [idle])).trans (if_pos (by simpa [or_assoc] using bad))))

theorem dmaStartBody_starts (gatherAligned : fld rq.payload 4 8 % 16 = 0)
    (scatterAligned : fld rq.payload 12 8 % 16 = 0)
    (gatherOk : v.listSpaceOk (channelOf rq v).owner (fld rq.payload 1 1) = true)
    (scatterOk : v.listSpaceOk (channelOf rq v).owner (fld rq.payload 2 1) = true) : dmaStartBody rq v
    = .done (if v.dmaRuns then assignUnits 5 (started rq v) else started rq v) [] :=
  (checked_ok (by simpa [channel, gatherSpace, scatterSpace] using ⟨gather, scatter⟩)).trans
    ((onChannel_own channel (by simp [idle]) own).trans ((if_neg (by simp [idle])).trans
      (if_neg (by simp [gatherAligned, scatterAligned, gatherOk, scatterOk]))))

end Start

/-! ### DMA.RESUME and DMA.SKIP (R386, R387) -/

section Waiting

variable (opened : (channelOf rq v).state ≠ .closed) (other : (channelOf rq v).state ≠ .halted)
include opened other

theorem dmaResumeBody_notHalted :
    dmaResumeBody rq v = .refuse Rc.notHalted Cls.dmaChannel (fld rq.payload 0 1) [] :=
  (onChannel_own channel opened own).trans (if_pos (by simp [other]))

theorem dmaSkipBody_notHalted : dmaSkipBody rq v = .refuse Rc.notHalted Cls.dmaChannel (fld rq.payload 0 1) [] :=
  (onChannel_own channel opened own).trans (if_pos (by simp [other]))

end Waiting

section Halted

variable (halted : (channelOf rq v).state = .halted)
include halted

theorem dmaResumeBody_mismatch (mismatch : (channelOf rq v).haltReason = Rc.dmaLengthMismatch) :
    dmaResumeBody rq v = .refuse Rc.actionNotAllowed Cls.dmaChannel (fld rq.payload 0 1) [] :=
  (onChannel_own channel (by simp [halted]) own).trans ((if_neg (by simp [halted])).trans (if_pos mismatch))

theorem dmaResumeBody_rewaits (matches_ : (channelOf rq v).haltReason ≠ Rc.dmaLengthMismatch)
    (other : (channelOf rq v).haltReason ≠ Rc.loop) :
    dmaResumeBody rq v = .done (v.dmaRewait (fld rq.payload 0 1) (channelOf rq v)) [] :=
  (onChannel_own channel (by simp [halted]) own).trans
    ((if_neg (by simp [halted])).trans ((if_neg matches_).trans (if_neg other)))

/-- A loop goes on with its hops counted anew. -/
theorem dmaResumeBody_loop (loop : (channelOf rq v).haltReason = Rc.loop) : dmaResumeBody rq v
    = .done (v.dmaRewait (fld rq.payload 0 1) ((channelOf rq v).setList (channelOf rq v).failList
        { (channelOf rq v).list (channelOf rq v).failList with hops := 0 })) [] :=
  (onChannel_own channel (by simp [halted]) own).trans
    ((if_neg (by simp [halted])).trans ((if_neg (by rw [loop]; decide)).trans (if_pos loop)))

theorem dmaSkipBody_element (invalid : (channelOf rq v).haltReason = Rc.elementInvalid)
    (data : (channelOf rq v).failLink = false) : dmaSkipBody rq v
    = .done (v.dmaRewait (fld rq.payload 0 1) ((channelOf rq v).setList (channelOf rq v).failList
        (((channelOf rq v).list (channelOf rq v).failList).pass (channelOf rq v).failEnd))) [] :=
  (onChannel_own channel (by simp [halted]) own).trans
    ((if_neg (by simp [halted])).trans ((if_pos invalid).trans (if_neg (by simp [data]))))

theorem dmaSkipBody_pair (valid : (channelOf rq v).haltReason ≠ Rc.elementInvalid)
    (other : (channelOf rq v).haltReason ≠ Rc.loop) (matches_ : (channelOf rq v).haltReason ≠ Rc.dmaLengthMismatch)
    (data : (channelOf rq v).failDirection ≠ 2) : dmaSkipBody rq v
    = .done ((v.dmaSkipPair (fld rq.payload 0 1)).dmaRewait (fld rq.payload 0 1)
        ((v.dmaSkipPair (fld rq.payload 0 1)).chan32 (fld rq.payload 0 1))) [] :=
  (onChannel_own channel (by simp [halted]) own).trans
    ((if_neg (by simp [halted])).trans ((if_neg valid).trans (if_neg (by simp [other, matches_, data]))))

/-- What a skip cannot pass: a LINK, a loop, or lists that do not match. -/
theorem dmaSkipBody_notAllowed
    (fixed : (channelOf rq v).haltReason = Rc.elementInvalid ∧ (channelOf rq v).failLink = true
      ∨ (channelOf rq v).haltReason = Rc.loop ∨ (channelOf rq v).haltReason = Rc.dmaLengthMismatch) :
    dmaSkipBody rq v = .refuse Rc.actionNotAllowed Cls.dmaChannel (fld rq.payload 0 1) [] := by
  refine (onChannel_own channel (by simp [halted]) own).trans ((if_neg (by simp [halted])).trans ?_)
  obtain ⟨invalid, link⟩ | loop | mismatch := fixed
  · exact (if_pos invalid).trans (if_pos link)
  · exact (if_neg (by rw [loop]; decide)).trans (if_pos (by simp [loop]))
  · exact (if_neg (by rw [mismatch]; decide)).trans (if_pos (by simp [mismatch]))

end Halted

/-! ### DMA.ABORT and DMA.CLEAR (R388, R390) -/

theorem dmaAbortBody_idle (idle : (channelOf rq v).state = .idle) : dmaAbortBody rq v = .done v [] :=
  (onChannel_own channel (by simp [idle]) own).trans (if_pos (by simp [idle]))

theorem dmaAbortBody_aborts (active : (channelOf rq v).state ≠ .idle) (opened : (channelOf rq v).state ≠ .closed) :
    dmaAbortBody rq v
    = .done ((v.setChan32 (fld rq.payload 0 1) { channelOf rq v with
          state := .idle, unit := none, reads := [], fetching := none, back := none, memRead := none, ended := false
          gather := {}, scatter := {} }).post
        (ev Ev.dmaDone Cls.dmaChannel (fld rq.payload 0 1) Rc.aborted ((channelOf rq v).bytesDone % 2 ^ 48))) [] :=
  (onChannel_own channel opened own).trans (if_neg (by simp [active]))

theorem dmaClearBody_clears (opened : (channelOf rq v).state ≠ .closed) (what : fld rq.payload 1 1 = 1) :
    dmaClearBody rq v
    = .done (v.setChan32 (fld rq.payload 0 1)
        { channelOf rq v with bytesSkipped := 0, elementsDone := 0, preemptions := 0 }) [] :=
  (onChannel_own channel opened own).trans (checked_ok (by simp [what]))

end Own

/-! ## All of them -/

open SystemCommands (logs_freely)

/-- Settles O38: each clause is one case of the command's body. -/
theorem dmaCommandsAct : Obligations.DmaCommandsAct := by
  unfold Obligations.DmaCommandsAct
  exact ⟨
    acts_of (fun _ _ _ => rfl)
      (fun _ _ ⟨channel, priority, hops, _, free⟩ => dmaOpenBody_opens channel priority hops free)
      (fun _ _ quiet => by simpa using quiet) (logs_freely fun _ _ ⟨_, _, _, free, _⟩ => free),
    deniesWith_of (fun _ _ _ => rfl) fun _ _ ⟨channel, priority, hops, opened, foreign⟩ =>
      dmaOpenBody_owned channel priority hops opened foreign,
    denies_of (fun _ _ _ => rfl) fun _ _ ⟨channel, priority, hops, opened, active, own⟩ =>
      dmaOpenBody_active channel priority hops opened active own,
    acts_of (fun _ _ _ => rfl) (fun _ _ ⟨channel, own, _, idle⟩ => dmaCloseBody_closes channel own idle)
      (fun _ _ quiet => by simpa using quiet) (logs_freely fun _ _ ⟨_, _, free, _⟩ => free),
    acts_of (fun _ _ _ => rfl)
      (fun _ _ ⟨channel, gatherSpace, scatterSpace, gather, scatter, own, _, idle, gatherAligned, scatterAligned,
          gatherOk, scatterOk, stands⟩ => by
        rw [dmaStartBody_starts channel own gatherSpace scatterSpace gather scatter idle gatherAligned scatterAligned
          gatherOk scatterOk, if_neg (by simp [stands]), started, channelOf])
      (fun _ _ quiet => quiet) (logs_freely fun _ _ ⟨_, _, _, _, _, _, free, _⟩ => free),
    acts_of (fun _ _ _ => rfl)
      (fun _ _ ⟨channel, gatherSpace, scatterSpace, gather, scatter, own, _, idle, gatherAligned, scatterAligned,
          gatherOk, scatterOk, runs⟩ => by
        rw [dmaStartBody_starts channel own gatherSpace scatterSpace gather scatter idle gatherAligned scatterAligned
          gatherOk scatterOk, if_pos runs, started, channelOf])
      (fun _ _ quiet => (keeps_assignUnits _ _).2.1 quiet) (logs_freely fun _ _ ⟨_, _, _, _, _, _, free, _⟩ => free),
    denies_of (fun _ _ _ => rfl)
      fun _ _ ⟨channel, gatherSpace, scatterSpace, gather, scatter, own, idle, bad⟩ =>
        dmaStartBody_invalid channel own gatherSpace scatterSpace gather scatter idle bad,
    acts_of (fun _ _ _ => rfl)
      (fun _ _ ⟨channel, own, halted, _, matches_, other⟩ => dmaResumeBody_rewaits channel own halted matches_ other)
      (fun _ _ quiet => quiet) (logs_freely fun _ _ ⟨_, _, _, free, _⟩ => free),
    acts_of (fun _ _ _ => rfl)
      (fun _ _ ⟨channel, own, halted, _, loop⟩ => dmaResumeBody_loop channel own halted loop)
      (fun _ _ quiet => quiet) (logs_freely fun _ _ ⟨_, _, _, free, _⟩ => free),
    acts_of (fun _ _ _ => rfl)
      (fun _ _ ⟨channel, own, halted, _, invalid, data⟩ => dmaSkipBody_element channel own halted invalid data)
      (fun _ _ quiet => quiet) (logs_freely fun _ _ ⟨_, _, _, free, _⟩ => free),
    acts_of (fun _ _ _ => rfl)
      (fun _ _ ⟨channel, own, halted, _, valid, other, matches_, data⟩ =>
        dmaSkipBody_pair channel own halted valid other matches_ data)
      (fun _ _ quiet => (keeps_dmaSkipPair _ _).2.1 quiet) (logs_freely fun _ _ ⟨_, _, _, free, _⟩ => free),
    acts_of (fun _ _ _ => rfl) (fun _ _ ⟨channel, own, idle⟩ => dmaAbortBody_idle channel own idle)
      (fun _ _ quiet => quiet) (fun _ _ _ _ => ⟨rfl, rfl⟩),
    acts_of (fun _ _ _ => rfl)
      (fun _ _ ⟨channel, own, active, opened⟩ => dmaAbortBody_aborts channel own active opened)
      (fun _ _ quiet => by simpa using quiet) (fun _ _ _ _ => ⟨rfl, by rw [post_log]; rfl⟩),
    acts_of (fun _ _ _ => rfl) (fun _ _ ⟨channel, own, opened, what⟩ => dmaClearBody_clears channel own opened what)
      (fun _ _ quiet => quiet) (fun _ _ _ _ => ⟨rfl, rfl⟩),
    denies_of (fun _ _ _ => rfl) fun _ _ ⟨channel, unopened⟩ => onChannel_closed channel unopened,
    deniesWith_of (fun _ _ _ => rfl) fun _ _ ⟨channel, opened, foreign⟩ => onChannel_owned channel opened foreign,
    denies_of (fun _ _ _ => rfl) fun _ _ ⟨channel, unopened⟩ => onChannel_closed channel unopened,
    deniesWith_of (fun _ _ _ => rfl) fun _ _ ⟨channel, opened, foreign⟩ => onChannel_owned channel opened foreign,
    denies_of (fun _ _ _ => rfl) fun _ _ ⟨channel, unopened⟩ => onChannel_closed channel unopened,
    deniesWith_of (fun _ _ _ => rfl) fun _ _ ⟨channel, opened, foreign⟩ => onChannel_owned channel opened foreign,
    denies_of (fun _ _ _ => rfl) fun _ _ ⟨channel, unopened⟩ => onChannel_closed channel unopened,
    deniesWith_of (fun _ _ _ => rfl) fun _ _ ⟨channel, opened, foreign⟩ => onChannel_owned channel opened foreign,
    denies_of (fun _ _ _ => rfl) fun _ _ ⟨channel, unopened⟩ => onChannel_closed channel unopened,
    deniesWith_of (fun _ _ _ => rfl) fun _ _ ⟨channel, opened, foreign⟩ => onChannel_owned channel opened foreign,
    denies_of (fun _ _ _ => rfl) fun _ _ ⟨channel, own, opened, active⟩ =>
      dmaCloseBody_active channel own opened active,
    denies_of (fun _ _ _ => rfl) fun _ _ ⟨channel, own, opened, other⟩ =>
      dmaResumeBody_notHalted channel own opened other,
    denies_of (fun _ _ _ => rfl) fun _ _ ⟨channel, own, opened, other⟩ =>
      dmaSkipBody_notHalted channel own opened other,
    denies_of (fun _ _ _ => rfl) fun _ _ ⟨channel, own, halted, mismatch⟩ =>
      dmaResumeBody_mismatch channel own halted mismatch,
    denies_of (fun _ _ _ => rfl) fun _ _ ⟨channel, own, halted, fixed⟩ =>
      dmaSkipBody_notAllowed channel own halted fixed⟩

end Sys2Proof.Proofs.DmaCommands

/-!
PROOFS. The reports of POWER, CAL, OTP, BIST and LOG (R410, R426, R439, R462, R475, R488): what each lays out, field by
field.
-/

namespace Sys2Proof.Proofs.PowerAndLogReads

open Sys2Proof Sys2Proof.Machine Sys2Proof.Laws

variable {v : State} {rq : Request}

/-! ## POWER (R410, R426) -/

theorem powerGetBody_eq (kind : fld rq.payload 0 1 < 2)
    (inside : fld rq.payload 1 1 < (if fld rq.payload 0 1 = 0 then 1 else 8)) : powerGetBody rq v
    = .done v (if fld rq.payload 0 1 = 0 then powerBytes (v.readCfg rq).power
        else hvBytes (fld rq.payload 1 1) ((v.readCfg rq).hvs.get {} (fld rq.payload 1 1))) :=
  checked_ok (by simpa [kind] using inside)

theorem length_readingBytes (r : Reading) : (readingBytes r).length = 2 := by
  cases r <;> simp [readingBytes]

/-- The sixteen die sensors, two bytes each. -/
def dieBytes (x : Thermal) : List Byte :=
  (List.range 16).flatMap (fun i => readingBytes (if x.valid.getLsbD i then some (x.die.get 0 i) else none))

theorem length_dieBytes (x : Thermal) : (dieBytes x).length = 32 := by
  rw [dieBytes, length_fields 2 _ fun i => length_readingBytes _, List.length_range]

theorem fld_dieBytes (x : Thermal) {i : Nat} (here : i < 16) : fld (dieBytes x) (2 * i) 2
    = ofLE (readingBytes (if x.valid.getLsbD i then some (x.die.get 0 i) else none)) := by
  rw [dieBytes, fld_fields 2 _ (fun i => length_readingBytes _) (List.range 16) i (by simpa using here),
    List.getElem_range, fld, List.drop_zero, List.take_of_length_le (by rw [length_readingBytes])]

/-- The payload of POWER.THERM_READ behind the die sensors. -/
def thermRest (v : State) : List Byte :=
  readingBytes v.therm.tk0 ++ readingBytes v.therm.tk1 ++ readingBytes v.therm.hbm ++ leInt 2 v.therm.dieMax
    ++ le 2 v.therm.gradient ++ le 2 v.therm.valid.toNat ++ le 1 (v.dom 0).level ++ le 1 (v.dom 1).level
    ++ le 2 v.therm.ceiling
    ++ le 1 (b2n v.heldSensor.isSome + 2 * b2n v.therm.gradHigh + 4 * b2n (decide (0 < v.stage)))
    ++ le 1 v.recentRestarts.length ++ le 2 v.therm.sensorFaults ++ le 4 v.therm.trips.toNat

theorem powerThermReadBody_eq (rq : Request) (v : State) :
    powerThermReadBody rq v = .done v (dieBytes v.therm ++ thermRest v) := by
  simp only [powerThermReadBody, dieBytes, thermRest, List.append_assoc]

theorem fld_thermRead_die {i : Nat} (here : i < 16) : fld (dieBytes v.therm ++ thermRest v) (2 * i) 2
    = ofLE (readingBytes (if v.therm.valid.getLsbD i then some (v.therm.die.get 0 i) else none)) := by
  rw [fld_left _ _ _ _ (by rw [length_dieBytes]; omega), fld_dieBytes _ here]

/-- Settles O24: each report leaves the state and lays out its payload field by field. -/
theorem powerAndThermalReadsAnswer : Obligations.PowerAndThermalReadsAnswer := by
  unfold Obligations.PowerAndThermalReadsAnswer
  refine ⟨
    reads_of (fun _ _ _ => rfl) rfl fun _ _ ⟨kind, inside⟩ => ⟨_, powerGetBody_eq kind inside,
      fun supply => if_pos supply, fun head => if_neg (by simp [head])⟩,
    reads_of (fun _ _ _ => rfl) rfl fun rq v _ => ⟨_, powerThermReadBody_eq rq v, ⟨?_, ?_⟩,
      fun _ here => fld_thermRead_die here⟩,
    reads_of (fun _ _ _ => rfl) rfl fun _ _ domain => ⟨_, checked_ok (by simp [domain]), rfl⟩⟩
  · simp [length_dieBytes, thermRest, length_readingBytes]
  · simp [thermRest, fld_left, fld_right, fld_le, fld_leInt, length_dieBytes, length_readingBytes]

end Sys2Proof.Proofs.PowerAndLogReads

/-!
PROOFS. The reports of CAL, OTP, BIST and LOG (R439, R462, R475, R488): what each lays out, field by field.
-/

namespace Sys2Proof.Proofs.CalOtpBistAndLogReads

open Sys2Proof Sys2Proof.Machine Sys2Proof.Laws

variable {v : State} {rq : Request}

/-! ## CAL.ADC_READ (R430, R439) -/

/-- A row of words: each reads back. -/
theorem fld_words (f : Nat → Nat) {n k : Nat} (here : k < n) :
    fld ((List.range n).flatMap (fun i => le 4 (f i))) (4 * k) 4 = f k % 256 ^ 4 := by
  rw [fld_fields 4 _ (fun i => length_le 4 _) (List.range n) k (by simpa using here), List.getElem_range, fld_le]

theorem length_words (f : Nat → Nat) (n : Nat) : ((List.range n).flatMap (fun i => le 4 (f i))).length = 4 * n := by
  rw [length_fields 4 _ fun i => length_le 4 _, List.length_range]

/-- The sixteen channels of the monitor ADC, and the flag that they are held. -/
def adcBytes (v : State) : List Byte :=
  (List.range 16).flatMap (fun i => le 4 (v.cal.adc.getD i 0 * 1200000 / 4096 + 2 ^ 31 * b2n v.adcHeld))

theorem fld_adcBytes {i : Nat} (here : i < 16) (free : ∀ r ∈ v.cal.running, r.target ≠ 0) (rest : List Byte) :
    fld (adcBytes v ++ rest) (4 * i) 4 = v.cal.adc.getD i 0 * 1200000 / 4096 % 256 ^ 4 := by
  have live : v.adcHeld = false := by simpa [State.adcHeld] using free
  rw [fld_left _ _ _ _ (by rw [adcBytes, length_words]; omega), adcBytes, fld_words _ here, live, b2n,
    if_neg Bool.false_ne_true, mul_zero, add_zero]

theorem fld_adcAge (n : Nat) : fld (adcBytes v ++ le 4 (min 0xFFFFFFFF n)) 64 4 = min 0xFFFFFFFF n := by
  rw [fld_right _ _ _ _ (by rw [adcBytes, length_words]), adcBytes, length_words, fld_le]
  exact Nat.mod_eq_of_lt (by omega)

theorem length_adcBytes (n : Nat) : (adcBytes v ++ le 4 n).length = 68 := by
  rw [List.length_append, adcBytes, length_words, length_le]

/-! ## OTP (R462) -/

/-- Eight digits of two bits, laid out in one number, read back. -/
theorem bitsOf_digits (c : Nat → Nat) (small : ∀ i, c i < 4) {i : Nat} (here : i < 8) :
    bitsOf ((List.range 8).foldl (fun a i => a + c i * 4 ^ i) 0 % 65536) (2 * i) 2 = c i := by
  have := small 0; have := small 1; have := small 2; have := small 3
  have := small 4; have := small 5; have := small 6; have := small 7
  simp only [List.range_succ, List.range_zero, List.nil_append, List.foldl_append, List.foldl_cons, List.foldl_nil]
  interval_cases i <;> simp [bitsOf] <;> omega

theorem regionCode_lt (r : RegionState) : regionCode r < 4 := by cases r <;> decide

/-- The first two bytes and the region states of OTP.STATUS. -/
def otpHead (v : State) : List Byte :=
  le 1 (lcCode v.otp.lc) ++ le 1 (lcCode (lcOf v.otp.array))
    ++ le 2 ((List.range 8).foldl (fun (a i : Nat) => a + regionCode (v.region8 i) * 4 ^ i) 0)

/-- OTP.STATUS behind the region states. -/
def otpRest (v : State) : List Byte :=
  le 1 (slotCode (v.region8 3) (v.region8 4) + 4 * slotCode (v.region8 5) (v.region8 6))
    ++ le 1 ((otpValue v.otp.boot revokeWord).toNat % 4) ++ le 1 v.repairUsed ++ le 1 (regionCode v.otp.returnRec)
    ++ le 4 v.otp.marginal.length ++ le 4 v.otp.recheck.length ++ le 4 v.otp.weakCells.toNat
    ++ le 4 (v.otp.marginal.head?.getD 0xFFFFFFFF) ++ le 2 v.otp.lastResult.toNat ++ zeros 6

theorem otpStatusBody_eq (rq : Request) (v : State) : otpStatusBody rq v = .done v (otpHead v ++ otpRest v) := by
  simp only [otpStatusBody, otpHead, otpRest, List.append_assoc]
  cases v.otp.marginal.head? <;> rfl

theorem otpStatus_regions {i : Nat} (here : i < 8) :
    bitsOf (fld (otpHead v ++ otpRest v) 2 2) (2 * i) 2 = regionCode (v.region8 i) := by
  rw [fld_left _ _ _ _ (by simp [otpHead]), otpHead, fld_right _ _ _ _ (by simp)]
  simp only [List.length_append, length_le, Nat.sub_self, fld_le]
  exact bitsOf_digits (fun i => regionCode (v.region8 i)) (fun i => regionCode_lt _) here

theorem otpReadBody_eq (first : fld rq.payload 0 2 < 512) (mode : fld rq.payload 2 1 < 4)
    (some_ : 1 ≤ fld rq.payload 3 1) (few : fld rq.payload 3 1 ≤ 64)
    (inside : fld rq.payload 0 2 + fld rq.payload 3 1 ≤ 512) : otpReadBody rq v
    = .done v ((List.range (fld rq.payload 3 1)).flatMap
        (fun i => le 4 (v.otpReadWord (fld rq.payload 2 1) (fld rq.payload 0 2 + i)).toNat)) :=
  checked_ok (by simp [first, mode, some_, few, inside])

/-! ## BIST (R475) -/

/-- The result that BIST.RESULT shows: a test that runs shows as such. -/
def shownResult (part unit : Nat) (v : State) : BistResult :=
  match v.testRuns part unit with
  | some k => { v.bistResult part unit with result := 5, kind := k, cause := .none }
  | none => v.bistResult part unit

theorem shownResult_idle {part unit : Nat} (idle : v.testRuns part unit = none) :
    shownResult part unit v = v.bistResult part unit := by
  simp only [shownResult, idle]

theorem shownResult_boot (part unit : Nat) : (shownResult part unit v).boot = (v.bistResult part unit).boot := by
  unfold shownResult
  split <;> rfl

theorem shownResult_coverage (part unit : Nat) :
    (shownResult part unit v).coverage = (v.bistResult part unit).coverage := by
  unfold shownResult
  split <;> rfl

theorem shownResult_signature (part unit : Nat) :
    (shownResult part unit v).signature = (v.bistResult part unit).signature := by
  unfold shownResult
  split <;> rfl

/-- BIST.RESULT's payload. -/
def resultBytes (r : BistResult) (detail : Bool) : List Byte :=
  le 1 r.result ++ le 1 r.kind ++ le 1 (causeCode r.cause) ++ zeros 1 ++ le 2 r.boot ++ zeros 2
    ++ le 8 (r.aon % 2 ^ 48 + 2 ^ 48 * r.boot)
    ++ (if detail then le 2 r.coverage ++ zeros 2 ++ le 4 r.duration ++ le 4 r.patterns ++ zeros 4
          ++ le 8 r.signature.toNat
        else zeros 24)

theorem length_resultBytes (r : BistResult) (detail : Bool) : (resultBytes r detail).length = 40 := by
  cases detail <;> simp [resultBytes]

theorem fld_resultBytes (r : BistResult) (detail : Bool) :
    fld (resultBytes r detail) 0 1 = r.result % 256 ∧ fld (resultBytes r detail) 1 1 = r.kind % 256
      ∧ fld (resultBytes r detail) 2 1 = causeCode r.cause % 256
      ∧ fld (resultBytes r detail) 4 2 = r.boot % 256 ^ 2 := by
  simp [resultBytes, fld_left, fld_right, fld_le]

theorem fld_resultBytes_detail (r : BistResult) :
    fld (resultBytes r true) 16 2 = r.coverage % 256 ^ 2 ∧ fld (resultBytes r true) 32 8 = r.signature.toNat := by
  have fits : r.signature.toNat < 18446744073709551616 := r.signature.isLt
  simp [resultBytes, fld_left, fld_right, fld_le, Nat.mod_eq_of_lt fits]

theorem fld_resultBytes_plain (r : BistResult) : fld (resultBytes r false) 16 24 = 0 := by
  simp [resultBytes, fld_right, fld_zeros]

theorem bistResultBody_eq (part : fld rq.payload 0 1 < 24)
    (unit : fld rq.payload 1 1 < (if fld rq.payload 0 1 < 5 then (poolSize (fld rq.payload 0 1)).1 else 1))
    (flag : fld rq.payload 2 1 < 2) (plain : v.otp.lc = .field → fld rq.payload 2 1 = 0) : bistResultBody rq v
    = .done v (resultBytes (shownResult (fld rq.payload 0 1) (fld rq.payload 1 1) v) (fld rq.payload 2 1 == 1)) := by
  refine (if_neg ?_).trans ((checked_ok (by simpa [part, flag] using unit)).trans ?_)
  · simp only [Bool.and_eq_true, beq_iff_eq, not_and]
    exact fun detail field => absurd (detail.symm.trans (plain field)) one_ne_zero
  · unfold resultBytes shownResult
    rfl

theorem bit_zero_of_flags (a b : Bool) : bit ((b2n a + 2 * b2n b) % 256) 0 = a := by
  revert a b
  decide

/-! ## LOG.READ (R482, R488) -/

/-- The entries that LOG.READ returns: from the sequence asked for, or from the oldest if that is later. -/
def entriesRead (rq : Request) (v : State) : List (Word × LogBody) :=
  (v.log.entries.filter (fun x => decide (0 ≤ ahead32
    (if ahead32 (logOldest v.log) (BitVec.ofNat 32 (fld rq.payload 0 4)) < 0 then logOldest v.log
      else BitVec.ofNat 32 (fld rq.payload 0 4)) x.1))).take (fld rq.payload 4 2)

/-- Without poison no entry needs a repair. -/
theorem repairSlots_clean (clean : v.mem.poison = []) (l : List (Word × LogBody)) :
    l.foldl (fun (s : State) (x : Word × LogBody) => s.repairSlot x.1) v = v := by
  induction l with
  | nil => rfl
  | cons x l ih =>
    have same : v.repairSlot x.1 = v := if_neg (by simp [State.poisoned, clean])
    rw [List.foldl_cons, same, ih]

theorem logReadBody_eq (some_ : 1 ≤ fld rq.payload 4 2) (few : fld rq.payload 4 2 ≤ 31) (clean : v.mem.poison = []) :
    logReadBody rq v = .done v ((entriesRead rq v).flatMap (fun x => logBytes x.1 x.2)) := by
  refine (checked_ok (by simp [some_, few])).trans ?_
  dsimp only
  rw [repairSlots_clean clean]
  rfl

theorem entriesRead_kept (rq : Request) (v : State) : ∀ x ∈ entriesRead rq v, x ∈ v.log.entries :=
  fun _ here => List.mem_of_mem_filter (List.mem_of_mem_take here)

theorem entriesRead_since (held : 0 ≤ ahead32 (logOldest v.log) (BitVec.ofNat 32 (fld rq.payload 0 4))) :
    entriesRead rq v = (v.log.entries.filter (fun x => decide
      (0 ≤ ahead32 (BitVec.ofNat 32 (fld rq.payload 0 4)) x.1))).take (fld rq.payload 4 2) := by
  rw [entriesRead, if_neg (Int.not_lt.mpr held)]

/-! ## All of them -/

/-- Settles O25: each report leaves the state and lays out its payload field by field. -/
theorem calOtpBistAndLogReadsAnswer : Obligations.CalOtpBistAndLogReadsAnswer := by
  unfold Obligations.CalOtpBistAndLogReadsAnswer
  refine ⟨
    reads_of (fun _ _ _ => rfl) rfl fun _ _ _ => ⟨_, rfl, by simp, ?_⟩,
    reads_of (fun _ _ _ => rfl) rfl fun _ v _ => ⟨adcBytes v ++ le 4 (min 0xFFFFFFFF (v.aon - v.cal.adcAt)), rfl,
      length_adcBytes _, fld_adcAge _, fun _ here free => fld_adcBytes here free _⟩,
    reads_of (fun _ _ _ => rfl) rfl fun _ _ table => ⟨_, checked_ok (by simp [table]), by simp, ?_⟩,
    reads_of (fun _ _ _ => rfl) rfl fun rq v _ => ⟨_, otpStatusBody_eq rq v, ⟨by simp [otpHead, otpRest], ?_⟩,
      fun _ here => otpStatus_regions here⟩,
    reads_of (fun _ _ _ => rfl) rfl fun _ _ ⟨first, mode, some_, few, inside⟩ =>
      ⟨_, otpReadBody_eq first mode some_ few inside, length_words _ _, fun k here => ?_⟩,
    reads_of (fun _ _ _ => rfl) rfl fun _ _ _ => ⟨_, rfl, ⟨by simp, ?_⟩, ?_⟩,
    reads_of (fun _ _ _ => rfl) rfl fun rq v ⟨part, unit, flag, plain⟩ =>
      ⟨_, bistResultBody_eq part unit flag plain, length_resultBytes _ _, ?_⟩,
    reads_of (fun _ _ _ => rfl) rfl fun _ _ _ => ⟨_, rfl, rfl⟩,
    reads_of (fun _ _ _ => rfl) rfl fun _ _ _ => ⟨_, rfl, by simp, ?_⟩,
    reads_of (fun _ _ _ => rfl) rfl fun rq v ⟨some_, few, clean⟩ => ⟨_, logReadBody_eq some_ few clean,
      entriesRead rq v, rfl, List.length_take_le _ _, entriesRead_kept rq v, entriesRead_since⟩,
    reads_of (fun _ _ _ => rfl) rfl fun _ _ _ => ⟨_, rfl, by simp, ?_⟩⟩
  · simp [fld_left, fld_right, fld_le, fld_leInt] <;> rfl
  · simp [fld_left, fld_right, fld_le, fld_leInt]
  · simp [otpHead, otpRest, fld_left, fld_right, fld_le]
  · exact (fld_words _ here).trans (Nat.mod_eq_of_lt (BitVec.isLt _))
  · simp [fld_left, fld_right, fld_le, List.range_succ]
  · simp [fld_left, fld_right, fld_le, bit_zero_of_flags]
  · obtain ⟨result, kind, cause, boot⟩ := fld_resultBytes
      (shownResult (fld rq.payload 0 1) (fld rq.payload 1 1) v) (fld rq.payload 2 1 == 1)
    refine ⟨fun idle => ?_, boot.trans (by rw [shownResult_boot]), fun detail => ?_, fun none_ => ?_⟩
    · rw [result, kind, cause, shownResult_idle idle]
      exact ⟨rfl, rfl, rfl⟩
    · rw [detail, ← shownResult_coverage, ← shownResult_signature]
      exact fld_resultBytes_detail _
    · rw [none_]
      exact fld_resultBytes_plain _
  · simp [fld_left, fld_right, fld_le]
  · simp [fld_left, fld_right, fld_le]

end Sys2Proof.Proofs.CalOtpBistAndLogReads

/-!
PROOFS. The actions of POWER and CAL (R400, R408, R410, R426, R438, R439): one equation per case of a command's body.
-/

namespace Sys2Proof.Proofs.PowerAndCalCommands

open Sys2Proof Sys2Proof.Machine Sys2Proof.Laws

variable {v : State} {rq : Request}

/-! ## POWER.STATUS (R410) -/

/-- Five bytes are fields of one byte each. -/
theorem five_bytes (a b c d e : Byte) :
    [a, b, c, d, e] = le 1 a.toNat ++ le 1 b.toNat ++ le 1 c.toNat ++ le 1 d.toNat ++ le 1 e.toNat := by simp [le]

/-! ## POWER.SET_STATE (R400) -/

theorem powerSetStateBody_none (none_ : powerTarget (fld rq.payload 0 1) = none) :
    powerSetStateBody rq v = .refuse Rc.badValue 0 0 [] := by
  unfold powerSetStateBody
  rw [none_]
  rfl

/-- The device is to enter the state, 1 ms from now. -/
def entryDue (t : PwrState) (rq : Request) (v : State) : State :=
  { v with power := { v.power with entry := some { target := t, origin := .mbx rq.mbx.val, due := v.aon + msTicks } } }

section SetState

variable {t : PwrState} (target : powerTarget (fld rq.payload 0 1) = some t)
include target

theorem powerSetStateBody_same (same : t = v.pwr) : powerSetStateBody rq v = .done v [] := by
  unfold powerSetStateBody
  rw [target]
  exact if_pos same

theorem powerSetStateBody_ready (other : t ≠ v.pwr) (ready : t = .ready) :
    powerSetStateBody rq v = .done (v.finishWakeAs (.mbx rq.mbx.val)) [] := by
  unfold powerSetStateBody
  rw [target]
  exact (if_neg other).trans (if_pos ready)

theorem powerSetStateBody_enters (low : t ≠ .ready) (other : t ≠ v.pwr) : powerSetStateBody rq v
    = if v.powerBusy then refuseAs Rc.powerBusy else .done (entryDue t rq v) [] := by
  unfold powerSetStateBody
  rw [target]
  exact (if_neg other).trans (if_neg low)

end SetState

/-! ## POWER.RAIL_READ (R410) -/

/-- A command of the bus to the regulator of the rail that the request names. -/
def railAsked (rq : Request) (v : State) (c : Nat) (s : State) : State :=
  s.emit (.pmbus (v.railRec (fld rq.payload 0 1)).addr c none (v.railRec (fld rq.payload 0 1)).pec)

section RailRead

variable (rail : fld rq.payload 0 1 < 8)
include rail

theorem powerRailReadBody_absent {bus : Option (List Nat)} (absent : (v.railRec (fld rq.payload 0 1)).addr = 0) :
    powerRailReadBody bus rq v = .refuse Rc.noPmbus 0 0 [] :=
  (checked_ok (by simp [rail])).trans (if_pos absent)

variable (present : (v.railRec (fld rq.payload 0 1)).addr ≠ 0)
include present

theorem powerRailReadBody_fails : powerRailReadBody none rq v = .refuse Rc.pmbusError 0 0 [] :=
  (checked_ok (by simp [rail])).trans (if_neg present)

theorem powerRailReadBody_reads (bus : List Nat) : powerRailReadBody (some bus) rq v
    = .done (railAsked rq v 0x79 (railAsked rq v 0x8D (railAsked rq v 0x8C (railAsked rq v 0x8B v))))
        ((List.range 4).flatMap (fun i => le 2 (bus.getD i 0 % 65536))) :=
  (checked_ok (by simp [rail])).trans (if_neg present)

end RailRead

/-! ## POWER.IMAGE_WRITE (R408) -/

section ImageWrite

variable (slot : fld rq.payload 0 1 < 2) (some_ : 1 ≤ fld rq.payload 2 2) (few : fld rq.payload 2 2 ≤ 1000)
include slot some_ few

theorem powerImageWriteBody_active (active : fld rq.payload 0 1 = 1 ↔ v.host.fwSlotB = true) :
    powerImageWriteBody rq v = .refuse Rc.imageSlotActive 0 0 [] :=
  (checked_ok (by simp [slot, some_, few])).trans (if_pos (Bool.eq_iff_iff.mpr (beq_iff_eq.trans active)))

variable (one : fld rq.payload 0 1 = 1 → v.host.fwSlotB = false) (zero : fld rq.payload 0 1 = 0 → v.host.fwSlotB = true)
include one zero

omit some_ few in
/-- The slot that the device does not run from. -/
theorem slot_free : ¬ (fld rq.payload 0 1 == 1) = v.host.fwSlotB := by
  obtain is_zero | is_one : fld rq.payload 0 1 = 0 ∨ fld rq.payload 0 1 = 1 := by omega
  · simp [is_zero, zero is_zero]
  · simp [is_one, one is_one]

theorem powerImageWriteBody_range (long : 0x400000 < fld rq.payload 4 4 + fld rq.payload 2 2) :
    powerImageWriteBody rq v = .refuse Rc.imageRange 0 0 [] :=
  (checked_ok (by simp [slot, some_, few])).trans ((if_neg (slot_free slot one zero)).trans (if_pos long))

theorem powerImageWriteBody_accepts (fits : fld rq.payload 4 4 + fld rq.payload 2 2 ≤ 0x400000) :
    powerImageWriteBody rq v
    = .accept (v.queueFlash (.image (v.waiterOf rq 0x0D05)
        (imageBase (fld rq.payload 0 1 == 1) + fld rq.payload 4 4) ((rq.payload.drop 8).take (fld rq.payload 2 2)))) :=
  (checked_ok (by simp [slot, some_, few])).trans
    ((if_neg (slot_free slot one zero)).trans (if_neg (Nat.not_lt.mpr fits)))

end ImageWrite

/-- The boot flash logs nothing. -/
theorem queueFlash_log (op : FlashOp) (v : State) : (v.queueFlash op).log = v.log := by
  unfold State.queueFlash State.startFlash
  split <;> rfl

/-! ## CAL.RUN (R431, R439) -/

/-- The targets that a CAL.RUN request names. -/
def named (rq : Request) : List Nat := calTargets.filter (fun k => bit (fld rq.payload 0 2) k)

/-- The runs wait, and the calibration has their converters. -/
def runsQueued (rq : Request) (v : State) : State :=
  (named rq).foldl (fun (s : State) k => s.ownDac k true) { v with cal := { v.cal with
    queue := v.cal.queue ++ (named rq).map (fun k =>
      { target := k, origin := .mbx rq.mbx.val, waiter := some (v.waiterOf rq 0x0E01) }) } }

theorem calRunBody_accepts (some_ : ∃ k ∈ calTargets, bit (fld rq.payload 0 2) k = true)
    (free : v.calRefusal (fld rq.payload 0 2) = none) : calRunBody rq v = .accept (runsQueued rq v) := by
  obtain ⟨k, target, asked⟩ := some_
  have nonempty : named rq ≠ [] := List.ne_nil_of_mem (List.mem_filter.mpr ⟨target, asked⟩)
  rw [named] at nonempty
  refine (checked_ok (by simpa using nonempty)).trans ?_
  dsimp only
  rw [free]
  rfl

/-! ## All of them -/

open SystemCommands (logs_freely byte_eq_le)

/-- Settles O39: each clause is one case of the command's body. -/
theorem powerAndCalibrationCommandsAct : Obligations.PowerAndCalibrationCommandsAct := by
  unfold Obligations.PowerAndCalibrationCommandsAct
  refine ⟨
    fun _ => answers_of (fun _ _ _ => rfl) (fun _ _ _ => ⟨_, rfl, by simp, ?_⟩) (fun _ _ quiet => quiet)
      (fun _ _ _ _ => ⟨rfl, rfl⟩),
    acts_of (fun _ _ _ => rfl) (fun _ _ target => powerSetStateBody_same target rfl)
      (fun _ _ quiet => quiet) (fun _ _ _ _ => ⟨rfl, rfl⟩),
    acts_of (fun _ _ _ => rfl)
      (fun _ _ ⟨_, one, low⟩ => powerSetStateBody_ready (by rw [one]; rfl) (Ne.symm low) rfl)
      (fun _ _ quiet => (keeps_finishWakeAs _ _).2.1 quiet) (logs_freely fun _ _ ⟨free, _⟩ => free),
    acts_of (fun _ _ _ => rfl) (fun _ _ ⟨enters, idle⟩ => ?_) (fun _ _ quiet => quiet)
      (fun _ _ _ _ => ⟨rfl, rfl⟩),
    denies_of (fun _ _ _ => rfl) (fun _ _ ⟨enters, busy⟩ => ?_),
    denies_of (fun _ _ _ => rfl) fun _ _ none_ => powerSetStateBody_none none_,
    fun bus => answers_of (fun _ _ _ => rfl)
      (fun _ _ ⟨rail, present⟩ => ⟨_, by rw [powerRailReadBody_reads rail present bus, railAsked, railAsked, railAsked,
        railAsked], rfl⟩)
      (fun _ _ quiet => by simpa using quiet) (fun _ _ _ _ => ⟨rfl, by simp only [emit_frame]⟩),
    fun _ => denies_of (fun _ _ _ => rfl) fun _ _ ⟨rail, absent⟩ => powerRailReadBody_absent rail absent,
    denies_of (fun _ _ _ => rfl) fun _ _ ⟨rail, present⟩ => powerRailReadBody_fails rail present,
    accepts_of (fun _ _ _ => rfl)
      (fun _ _ ⟨slot, some_, few, one, zero, fits⟩ => powerImageWriteBody_accepts slot some_ few one zero fits)
      (fun _ _ quiet => (keeps_queueFlash _ _).2.1.trans quiet)
      (fun _ _ _ _ => ⟨rfl, congrArg Log.next (queueFlash_log _ _)⟩),
    denies_of (fun _ _ _ => rfl) fun _ _ ⟨slot, some_, few, active⟩ => powerImageWriteBody_active slot some_ few active,
    denies_of (fun _ _ _ => rfl) fun _ _ ⟨slot, some_, few, one, zero, long⟩ =>
      powerImageWriteBody_range slot some_ few one zero long,
    acts_of (fun _ _ _ => rfl) (fun _ _ clears => checked_ok (by simp [clears]))
      (fun _ _ quiet => quiet) (fun _ _ _ _ => ⟨rfl, rfl⟩),
    accepts_of (fun _ _ _ => rfl) (fun _ _ ⟨some_, _, free⟩ => calRunBody_accepts some_ free)
      (fun _ _ quiet => (foldl_rung _ (fun _ _ => (keeps_ownDac _ _ _).2.1) _ _).trans quiet)
      (logs_freely fun _ _ ⟨_, free, _⟩ => free),
    accepts_of (fun _ _ _ => rfl) (fun _ _ _ => rfl) (fun _ _ quiet => (keeps_queueFlash _ _).2.1.trans quiet)
      (fun _ _ _ _ => ⟨rfl, congrArg Log.next (queueFlash_log _ _)⟩)⟩
  · simp only [five_bytes]
    simp [byte_eq_le, fld_left, fld_right, fld_le]
  · split at enters
    next t target =>
      rw [powerSetStateBody_enters target enters.1 enters.2, if_neg (by simp [idle]), target]
      rfl
    next => exact enters.elim
  · split at enters
    next t target =>
      rw [powerSetStateBody_enters target enters.1 enters.2, if_pos busy]
      rfl
    next => exact enters.elim

end Sys2Proof.Proofs.PowerAndCalCommands

/-!
PROOFS. Power states, wakes, rails, supplies and clocks (R394, R397–R402, R404, R508): one equation per case of an
operation.
-/

namespace Sys2Proof.Proofs.PowerRows

open Sys2Proof Sys2Proof.Machine Sys2Proof.Laws

variable {v : State}

/-! ## The rails (R397) -/

theorem writeVout_sys (k : Nat) (v : State) : (v.writeVout k).sys = v.sys := by
  unfold State.writeVout
  dsimp only
  split
  · rfl
  · split
    · rfl
    · exact logOpen_sys _ _

/-- The next line rises, and the system state stays. -/
theorem raiseNext_sys (v : State) : v.raiseNext.sys = v.sys := by
  unfold State.raiseNext
  split
  · exact writeVout_sys _ v
  · rfl

theorem railStep_early (early : v.aon < v.power.pgSince + 10) : railStep v = v := if_pos (by simp [early])

section Rail

variable (due : v.power.pgSince + 10 ≤ v.aon)
include due

theorem railStep_otp (driven : v.power.enP.getLsbD 7 = true) (low : v.power.pg.getLsbD 7 = false) : railStep v
    = { v with power := { v.power with pg := v.power.pg ||| 0x80 } } :=
  (if_neg (by simp [due])).trans (if_pos (by rw [driven, low]; rfl))

/-- While the device starts up, a line that is stable lets the next rise. -/
theorem railStep_rises (settled : v.power.enP.getLsbD 7 = false ∨ v.power.pg.getLsbD 7 = true)
    (up : v.power.seq = .up) (upsett : v.sys = .upsett) : railStep v
    = { v with power := { v.power with pg := v.power.pg ||| (v.power.enP &&& 0x7F) } }.raiseNext := by
  have unraised : (v.power.enP.getLsbD 7 && !v.power.pg.getLsbD 7) = false := by
    obtain undriven | high := settled
    · rw [undriven, Bool.false_and]
    · rw [high, Bool.not_true, Bool.and_false]
  refine (if_neg (by simp [due])).trans ((if_neg (by rw [unraised]; exact Bool.false_ne_true)).trans
    ((if_neg (by simp [up])).trans (if_neg ?_)))
  rw [raiseNext_sys]
  simp [upsett]

end Rail

section Down

variable {k : Nat} (down : v.power.seq = .down) (last : v.lastDown = some k)
include down last

theorem pgFall_lowers : pgFall v
    = { v with power := { v.power with pg := v.power.pg &&& ~~~(1#8 <<< k) } }.lowerNext := by
  rw [pgFall, if_neg (by simp [down]), last]

theorem pgTimeout_late (late : v.power.pgSince + (v.railRec k).pgTimeout * msTicks ≤ v.aon) :
    pgTimeout v = (v.logOpen { origin := .keeper, obj := k }).lowerNext := by
  unfold pgTimeout
  rw [down, last]
  exact if_neg (Nat.not_lt.mpr late)

end Down

theorem railLost_up {k : Nat} (driven : v.power.enP.getLsbD k = true) (high : v.power.pg.getLsbD k = true) :
    railLost k v = { v with power := { v.power with pg := v.power.pg &&& ~~~(1#8 <<< k) } }.enterFaultFor true
      Rc.railLost .keeper k := if_neg (by simp [driven, high])

theorem railLost_undriven {k : Nat} (undriven : v.power.enP.getLsbD k = false) : railLost k v = v :=
  if_pos (by simp [undriven])

theorem pmbusAlert_reads {k : Nat} {x : BitVec 16} (on : v.sys ≠ .off) (present : (v.railRec k).addr ≠ 0) :
    pmbusAlert k x v
    = ((v.emit (.pmbus 0x0C 0 none false)).emit (.pmbus (v.railRec k).addr 0x79 none (v.railRec k).pec)).post
        (ev Ev.pmbusAlert Cls.system 0 0 (k + 256 * x.toNat)) := if_neg (by simp [on, present])

/-! ## Clocks and links (R394, R402, R508) -/

theorem pcieLinkUp_resets (down : v.host.linkUp = false) (runs : v.hostRuns = true) : pcieLinkUp v
    = { v with host := { v.host with linkUp := true }, ints := {}, ring := { ({} : Ring) with
          seq := v.ring.seq, unreported := v.ring.unreported, lastLost := v.ring.lastLost
          entries := v.ring.entries } } :=
  if_neg (by simp [down, runs])

theorem vddioLost_safe (safe : v.sys = .safe) : vddioLost v
    = { v with power := { v.power with prevFault := Rc.vddioLost, prevPhase := 0xF, prevReport := true } } := by
  unfold vddioLost
  rw [safe]
  rfl

theorem vddioLost_fault (fault : v.sys = .fault) (whole : v.power.reduced = false) :
    vddioLost v = v.reduce Rc.vddioLost 0xF := by
  unfold vddioLost
  rw [fault]
  exact if_neg (by simp [whole])

theorem vddioLost_runs (on : v.sys ≠ .off) (sound : v.sys ≠ .fault) (alive : v.sys ≠ .safe)
    (powered : v.pwr ≠ .offAon) : vddioLost v = v.enterFaultAs true Rc.vddioLost .keeper := by
  unfold vddioLost
  split
  next off => exact absurd off on
  next fault => exact absurd fault sound
  next => exact if_neg (by simp [alive, powered])

/-! ## Power states and wakes (R399–R402) -/

theorem after_ne_zero {n : Nat} (set : n ≠ 0) : n * secondTicks ≠ 0 := Nat.mul_ne_zero set (by decide)

section Ready

variable (ready : v.sys = .ready) (none_ : v.power.entry = none) (idle : v.powerBusy = false)
include ready none_ idle

theorem dozeTimer_due (set : v.inForce.power.dozeAfter ≠ 0) (high : v.pwr = .ready) (rests : v.working = false)
    (due : v.power.lastActivity + v.inForce.power.dozeAfter * secondTicks ≤ v.aon) : dozeTimer v
    = v.beginEntry { target := .doze, origin := .fwAuto, due := v.aon } :=
  if_neg (by simp [after_ne_zero set, ready, high, none_, rests, idle, due])

theorem sleepTimer_due (set : v.inForce.power.sleepAfter ≠ 0) (dozes : v.pwr = .doze) (stays : v.power.waking = none)
    (due : v.power.stateAt + v.inForce.power.sleepAfter * secondTicks ≤ v.aon) : sleepTimer v
    = v.beginEntry { target := .sleep, origin := .fwAuto, due := v.aon } :=
  if_neg (by simp [after_ne_zero set, ready, dozes, none_, stays, idle, due])

end Ready

section Entry

variable {e : Entry} (entry : v.power.entry = some e)
include entry

theorem powerEntry_withdrawn (busy : v.sys ≠ .ready) :
    powerEntry v = { v with power := { v.power with entry := none } } := by
  unfold powerEntry
  rw [entry]
  exact if_pos (by simp [busy])

variable (ready : v.sys = .ready)
include ready

theorem powerEntry_begun (begun : e.begun = true) : powerEntry v = v.tryEntry := by
  unfold powerEntry
  rw [entry]
  exact (if_neg (by simp [ready])).trans (if_pos begun)

theorem powerEntry_begins (waits : e.begun = false) (due : e.due ≤ v.aon) (idle : v.powerBusy = false) :
    powerEntry v = v.beginEntry e := by
  unfold powerEntry
  rw [entry]
  exact (if_neg (by simp [ready])).trans ((if_neg (by simp [waits])).trans (if_neg (by simp [due, idle])))

end Entry

theorem pcieWake_deep (enabled : v.inForce.power.wakeMask.getLsbD 0 = true) (deep : v.pwr = .sleep ∨ v.pwr = .offAon) :
    pcieWake v = v.startWake 1 := by
  refine if_pos ?_
  obtain sleeps | off := deep
  · simp [enabled, sleeps]
  · simp [enabled, off]

theorem aonWakeTimer_due (enabled : v.inForce.power.wakeMask.getLsbD 3 = true) (set : v.inForce.power.aonTimer ≠ 0)
    (gated : v.gatedPower = true) (due : v.power.stateAt + v.inForce.power.aonTimer * secondTicks ≤ v.aon) :
    aonWakeTimer v = v.startWake 4 := if_pos (by simp [enabled, set, gated, due])

theorem wakeComplete_ready (ready : v.sys = .ready) (gated : v.gatedPower = true) (entered : v.entering = none)
    (wakes : v.power.waking ≠ none) (done_ : v.wakeReady = true) : wakeComplete v = v.finishWake :=
  if_pos (by simp [ready, gated, entered, Option.isSome_iff_ne_none.mpr wakes, done_])

/-! ## Head supplies (R404) -/

section Supply

variable {k t : Nat}

theorem hvDischarged_ends (falls : (v.hvt k).fallAt = some t) : hvDischarged k v
    = (State.setHvt { v with power := { v.power with hvok := putBit v.power.hvok k false } } k
        { v.hvt k with fallAt := none }).tryEntry := by
  unfold hvDischarged
  rw [falls]
  rfl

theorem hvDischargeTimeout_late (falls : (v.hvt k).fallAt = some t)
    (late : t + (v.inForce.hvs.get {} k).dischargeTimeout * msTicks ≤ v.aon) : hvDischargeTimeout k v
    = ((v.setHvt k { v.hvt k with fallAt := none }).hvFail k Rc.hvDischarge true).tryEntry := by
  unfold hvDischargeTimeout
  rw [falls]
  exact if_neg (Nat.not_lt.mpr late)

theorem hvokTimeout_late (rises : (v.hvt k).riseAt = some t) (on : v.power.hven.getLsbD k = true)
    (late : t + (v.inForce.hvs.get {} k).onTimeout * msTicks ≤ v.aon) :
    hvokTimeout k v = v.hvFail k Rc.hvOnTimeout false := by
  unfold hvokTimeout
  rw [rises]
  exact if_neg (by simp [on, late])

theorem hvLost_off (off : v.power.hven.getLsbD k = false) : hvLost k v = v := if_pos (by simp [off])

/-- A lost supply is off, and is a fault where its policy says so and the bars are armed. -/
theorem hvLost_on (on : v.power.hven.getLsbD k = true) : hvLost k v
    = if ((v.hvFail k Rc.hvLost false).inForce.hvs.get {} k).failFault
        && (v.hvFail k Rc.hvLost false).sys.armedState then
        (v.hvFail k Rc.hvLost false).enterFault Rc.hvLost .fwAuto
      else v.hvFail k Rc.hvLost false := if_neg (by simp [on])

end Supply

/-! ## The rows -/

/-- Settles O47: each row is its operation at the row's moment, and each clause is one case of that operation. -/
theorem powerRows : Obligations.PowerRows := by
  unfold Obligations.PowerRows
  exact ⟨
    happens_of (f := railStep) (fun _ _ => rfl) fun _ ⟨settled, up, due, upsett, _⟩ =>
      railStep_rises due settled up upsett,
    happens_of (f := railStep) (fun _ _ => rfl) fun _ ⟨driven, low, due⟩ => railStep_otp due driven low,
    happens_of (f := railStep) (fun _ _ => rfl) fun _ early => railStep_early early,
    fun _ => happens_of (f := pgFall) (fun _ _ => rfl) fun _ ⟨down, last⟩ => pgFall_lowers down last,
    fun _ => happens_of (f := pgTimeout) (fun _ _ => rfl) fun _ ⟨down, last, late⟩ => pgTimeout_late down last late,
    fun k => happens_of (f := railLost k.val) (fun _ _ => rfl) fun _ ⟨driven, high⟩ => railLost_up driven high,
    fun k => happens_of (f := railLost k.val) (fun _ _ => rfl) fun _ undriven => railLost_undriven undriven,
    happens_of (f := refLost) (fun _ _ => rfl) fun _ runs => if_pos runs,
    fun pll => happens_of (f := pllUnlock pll) (fun _ _ => rfl) fun _ runs => if_pos (by simpa using runs),
    happens_of (f := hostLinkLoss) (fun _ _ => rfl) fun _ _ => rfl,
    happens_of (f := pcieLinkUp) (fun _ _ => rfl) fun _ ⟨down, runs⟩ => pcieLinkUp_resets down runs,
    fun k x => happens_of (f := pmbusAlert k.val x) (fun _ _ => rfl) fun _ ⟨on, present⟩ => pmbusAlert_reads on present,
    happens_of (f := dozeTimer) (fun _ _ => rfl) fun _ ⟨set, ready, high, none_, rests, idle, due⟩ =>
      dozeTimer_due ready none_ idle set high rests due,
    happens_of (f := sleepTimer) (fun _ _ => rfl) fun _ ⟨set, ready, dozes, none_, stays, idle, due⟩ =>
      sleepTimer_due ready none_ idle set dozes stays due,
    fun _ => happens_of (f := powerEntry) (fun _ _ => rfl) fun _ ⟨entry, busy⟩ => powerEntry_withdrawn entry busy,
    fun _ => happens_of (f := powerEntry) (fun _ _ => rfl) fun _ ⟨entry, ready, begun⟩ =>
      powerEntry_begun entry ready begun,
    fun _ => happens_of (f := powerEntry) (fun _ _ => rfl) fun _ ⟨entry, ready, waits, due, idle⟩ =>
      powerEntry_begins entry ready waits due idle,
    fun k _ => happens_of (f := hvDischarged k.val) (fun _ _ => rfl) fun _ falls => hvDischarged_ends falls,
    fun k _ => happens_of (f := hvokTimeout k.val) (fun _ _ => rfl) fun _ ⟨rises, on, late⟩ =>
      hvokTimeout_late rises on late,
    fun k _ => happens_of (f := hvLost k.val) (fun _ _ => rfl) fun _ ⟨on, lost, spared⟩ => by
      subst lost
      exact (hvLost_on on).trans (if_neg (by rw [Bool.and_eq_false_iff.mpr spared]; exact Bool.false_ne_true)),
    fun k _ => happens_of (f := hvLost k.val) (fun _ _ => rfl) fun _ ⟨on, lost, faults, armed⟩ => by
      subst lost
      exact (hvLost_on on).trans (if_pos (Bool.and_eq_true_iff.mpr ⟨faults, armed⟩)),
    fun k => happens_of (f := hvLost k.val) (fun _ _ => rfl) fun _ off => hvLost_off off,
    fun k _ => happens_of (f := hvDischargeTimeout k.val) (fun _ _ => rfl) fun _ ⟨falls, late⟩ =>
      hvDischargeTimeout_late falls late,
    happens_of (f := pcieWake) (fun _ _ => rfl) fun _ ⟨enabled, deep⟩ => pcieWake_deep enabled deep,
    happens_of (f := aonWakeTimer) (fun _ _ => rfl) fun _ ⟨enabled, set, gated, due⟩ =>
      aonWakeTimer_due enabled set gated due,
    happens_of (f := wakeComplete) (fun _ _ => rfl) fun _ ⟨ready, gated, entered, wakes, done_⟩ =>
      wakeComplete_ready ready gated entered wakes done_,
    happens_of (f := vddioLost) (fun _ _ => rfl) fun _ ⟨on, sound, alive, powered⟩ =>
      vddioLost_runs on sound alive powered,
    happens_of (f := vddioLost) (fun _ _ => rfl) fun _ ⟨fault, whole⟩ => vddioLost_fault fault whole,
    happens_of (f := vddioLost) (fun _ _ => rfl) fun _ safe => vddioLost_safe safe⟩

end Sys2Proof.Proofs.PowerRows

/-!
PROOFS. Temperature samples, levels, trips and the SAFE restart (R413–R416, R421–R423): one equation per case of an
operation.
-/

namespace Sys2Proof.Proofs.ThermalRows

open Sys2Proof Sys2Proof.Machine Sys2Proof.Laws

variable {v : State}

/-! ## THERMAL_SAMPLE (R413) -/

/-- The dedicated sensors are sampled, in every state. -/
def tkSampled (r : TempReadings) (v : State) : State :=
  ({ v with therm := { v.therm with sampleAt := v.aon } }.sampleTk 16 r.tk0).sampleTk 17 r.tk1

/-- The die and stack sensors are sampled, and what follows their readings. -/
def fullySampled (r : TempReadings) (w : State) : State :=
  (((fun x : State => x.setDom 0 (sampleDomain (thermRec w.inForce 0) x.therm.dieMax (x.dom 0)))
    { w with
      therm := countGradient (thermRec w.inForce 0).gradient
        (formMax (sampleDies w.therm (w.dieReadings r.die))) }).sampleHbm r.hbm).followDieMax.vote.refreshCeiling

theorem thermalSample_early {r : TempReadings} (early : v.aon < v.therm.sampleAt + 1024) : thermalSample r v = v :=
  if_pos (by simp [early])

section Sample

variable {r : TempReadings} (on : v.sys ≠ .off) (due : v.therm.sampleAt + 1024 ≤ v.aon)
include on due

/-- In SAFE both dedicated sensors are below 90 °C for the first time. -/
theorem thermalSample_cools {a b : Nat} (safe : (tkSampled r v).sys = .safe)
    (tk0 : (tkSampled r v).therm.tk0 = some (a : Int)) (tk1 : (tkSampled r v).therm.tk1 = some (b : Int))
    (cool0 : a < 360) (cool1 : b < 360) (first : (tkSampled r v).therm.coolSince = none) : thermalSample r v
    = { tkSampled r v with therm := { (tkSampled r v).therm with coolSince := some (tkSampled r v).aon } } := by
  unfold tkSampled at safe tk0 tk1 first ⊢
  refine (if_neg (by simp [on, due])).trans ((if_pos (by simp [safe])).trans ?_)
  have below0 : (a : Int) < 360 := by omega
  have below1 : (b : Int) < 360 := by omega
  simp only [tk0, tk1, first, below0, below1, decide_true, Bool.and_self, if_true]
  rfl

theorem thermalSample_full (awake : (tkSampled r v).sys ≠ .safe) (idle : (tkSampled r v).underTest 21 = false) :
    thermalSample r v = fullySampled r (tkSampled r v) := by
  unfold tkSampled at awake idle
  exact (if_neg (by simp [on, due])).trans ((if_neg (by simp [awake])).trans (if_neg (by simp [idle])))

end Sample

/-! ## What four consecutive samples bring about (R414–R416, R421) -/

theorem sensorValidityChange_valid {i : Nat} (four : 4 ≤ v.therm.validity.get 0 i)
    (invalid : v.therm.valid.getLsbD i = false) : sensorValidityChange i v
    = State.postSensor i true { v with therm := { v.therm with
        valid := v.therm.valid ||| (1#16 <<< i), validity := v.therm.validity.set i 0 } } := by
  rw [sensorValidityChange, if_neg (Nat.not_lt.mpr four)]
  simp only [invalid, Bool.not_false, Bool.true_or, if_true]

theorem thermGradient_changes (four : 4 ≤ v.therm.gradCount) : thermGradient v
    = ({ v with therm := { v.therm with gradHigh := !v.therm.gradHigh, gradCount := 0 } }).postLimited
        ⟨Ev.thermGradient, 0, 0⟩
        { v with therm := { v.therm with gradHigh := !v.therm.gradHigh, gradCount := 0 } }.gradientBody :=
  if_neg (Nat.not_lt.mpr four)

theorem thermLevel_rises {d : Nat} (four : 4 ≤ (v.dom d).up) (low : (v.dom d).level < 3) :
    thermLevel d v = v.setLevel d ((v.dom d).level + 1) := if_pos ⟨four, low⟩

theorem thermLevel_falls {d : Nat} (stays : (v.dom d).up < 4) (four : 4 ≤ (v.dom d).down) (high : 0 < (v.dom d).level) :
    thermLevel d v = v.setLevel d ((v.dom d).level - 1) :=
  (if_neg fun rises => absurd rises.1 (Nat.not_le.mpr stays)).trans (if_pos ⟨four, high⟩)

theorem hbmSensorLost_four (four : 4 ≤ v.therm.hbmMissing) (had : v.therm.hbmLost = false) : hbmSensorLost v
    = ({ v with therm := { v.therm with hbmLost := true } }.postSensor 18 false).refreshCeiling :=
  if_neg (by simp [four, had])

/-! ## Shutdown and restart (R422, R423) -/

/-- The trip is counted, and reported after the restart. -/
def tripped (code : Reason) (u : State) : State :=
  { u with therm := { u.therm with
    trips := u.therm.trips + 1, tripCode := code, tripBoot := u.host.bootCount, tripReport := true
    dieVotes := 0, hbmVotes := 0, coolSince := none, limited := false } }

theorem keeperTrip_trips (on : v.sys ≠ .off) (alive : v.sys ≠ .safe)
    (four : 4 ≤ v.therm.dieVotes ∨ 4 ≤ v.therm.hbmVotes) : keeperTrip v
    = tripped (if 4 ≤ v.therm.dieVotes then Rc.dieTrip else Rc.hbmTrip)
        (v.enterSafe (if 4 ≤ v.therm.dieVotes then Rc.dieTrip else Rc.hbmTrip)) := by
  refine if_neg ?_
  obtain die | hbm := four
  · simp [on, alive, Nat.not_lt.mpr die]
  · simp [on, alive, Nat.not_lt.mpr hbm]

section Restart

variable {t : Nat} (safe : v.sys = .safe) (cool : v.therm.coolSince = some t) (due : t + 10240000 ≤ v.aon)
  (open_ : v.therm.limited = false)
include safe cool due open_

theorem safeRestart_due : safeRestart v
    = if v.recentRestarts.length < 3 then
        (fun u : State => { u with therm := { u.therm with restarts := u.aon :: v.recentRestarts, coolSince := none } })
          (v.enterUpsett 1 3 .keeper)
      else ({ v with therm := { v.therm with limited := true } }).logOpen
        { origin := .keeper, reason := Rc.restartLimit } := by
  unfold safeRestart
  rw [safe, cool]
  exact if_neg (by simp [due, open_])

end Restart

/-! ## The rows -/

/-- Settles O48: each row is its operation at the row's moment, and each clause is one case of that operation. -/
theorem thermalRows : Obligations.ThermalRows := by
  unfold Obligations.ThermalRows
  exact ⟨
    fun r _ _ _ => happens_of (f := thermalSample r) (fun _ _ => rfl)
      fun _ ⟨on, due, sampled, safe, tk0, tk1, cool0, cool1, first⟩ => by
        subst sampled
        exact thermalSample_cools on due safe tk0 tk1 cool0 cool1 first,
    fun r _ => happens_of (f := thermalSample r) (fun _ _ => rfl) fun _ ⟨on, due, sampled, awake, idle⟩ => by
      subst sampled
      exact thermalSample_full on due awake idle,
    fun r => happens_of (f := thermalSample r) (fun _ _ => rfl) fun _ early => thermalSample_early early,
    fun i => happens_of (f := sensorValidityChange i.val) (fun _ _ => rfl) fun _ ⟨four, invalid⟩ =>
      sensorValidityChange_valid four invalid,
    happens_of (f := thermGradient) (fun _ _ => rfl) fun _ four => thermGradient_changes four,
    fun d => happens_of (f := thermLevel d.val) (fun _ _ => rfl) fun _ ⟨four, low⟩ => thermLevel_rises four low,
    fun d => happens_of (f := thermLevel d.val) (fun _ _ => rfl) fun _ ⟨stays, four, high⟩ =>
      thermLevel_falls stays four high,
    happens_of (f := hbmSensorLost) (fun _ _ => rfl) fun _ ⟨four, had⟩ => hbmSensorLost_four four had,
    happens_of (f := keeperTrip) (fun _ _ => rfl) fun _ ⟨on, alive, die⟩ => by
      rw [keeperTrip_trips on alive (.inl die), if_pos die, tripped],
    happens_of (f := keeperTrip) (fun _ _ => rfl) fun _ ⟨on, alive, few, hbm⟩ => by
      rw [keeperTrip_trips on alive (.inr hbm), if_neg (Nat.not_le.mpr few), tripped],
    fun _ => happens_of (f := safeRestart) (fun _ _ => rfl) fun _ ⟨safe, cool, due, open_, few⟩ => by
      rw [safeRestart_due safe cool due open_, if_pos few],
    fun _ => happens_of (f := safeRestart) (fun _ _ => rfl) fun _ ⟨safe, cool, due, open_, many⟩ => by
      rw [safeRestart_due safe cool due open_, if_neg (Nat.not_lt.mpr many)]⟩

end Sys2Proof.Proofs.ThermalRows

/-!
PROOFS. ADC scans, calibration runs and the OTP recheck (R430, R431, R433, R452): one equation per case of an operation.
-/

namespace Sys2Proof.Proofs.CalibrationAndOtpRows

open Sys2Proof Sys2Proof.Machine Sys2Proof.Laws

variable {v : State}

/-! ## CAL_DRIFT_DUE (R431) -/

/-- A target that has drifted for 4 samples becomes due, and is reported where it cannot start. -/
def driftStep (s : State) (k : Nat) : State :=
  if s.cal.driftCount.get 0 k < 4 || s.cal.due.getLsbD k || s.calibrating k || !(s.calMayRun || s.pwr == .doze) then s
  else
    let s := ({ s with cal := { s.cal with driftCount := s.cal.driftCount.set k 0 } }).calDueAt k
    match s.calBar k with
    | some r => s.post (ev Ev.calDue Cls.system 0 r s.cal.due.toNat)
    | none => s

theorem calDriftDue_eq (v : State) : calDriftDue v = calTargets.foldl driftStep v := by
  unfold calDriftDue driftStep
  rfl

theorem driftStep_steady {k : Nat} (steady : v.cal.driftCount.get 0 k < 4) : driftStep v k = v :=
  if_pos (by simp [steady])

/-- Targets that have not drifted stay as they are. -/
theorem driftSteps_steady {l : List Nat} (steady : ∀ k ∈ l, v.cal.driftCount.get 0 k < 4) :
    l.foldl driftStep v = v := by
  induction l with
  | nil => rfl
  | cons k l ih =>
    rw [List.foldl_cons, driftStep_steady (steady k List.mem_cons_self)]
    exact ih fun j here => steady j (List.mem_cons_of_mem k here)

theorem calDriftDue_steady (steady : ∀ k ∈ calTargets, v.cal.driftCount.get 0 k < 4) : calDriftDue v = v :=
  (calDriftDue_eq v).trans (driftSteps_steady steady)

/-- The ADC becomes due. -/
def adcDue (v : State) : State :=
  { v with cal := { v.cal with due := v.cal.due ||| 1, driftCount := v.cal.driftCount.set 0 0 } }

theorem driftStep_adc (drifts : 4 ≤ v.cal.driftCount.get 0 0) (fresh : v.cal.due.getLsbD 0 = false)
    (idle : v.calibrating 0 = false) (may : v.calMayRun = true ∨ v.pwr = .doze) : driftStep v 0 = adcDue v := by
  refine if_neg ?_
  rw [fresh, idle]
  obtain runs | dozes := may
  · simp [Nat.not_lt.mpr drifts, runs]
  · simp [Nat.not_lt.mpr drifts, dozes]

theorem calDriftDue_adc (drifts : 4 ≤ v.cal.driftCount.get 0 0)
    (steady : ∀ k ∈ calTargets, k ≠ 0 → v.cal.driftCount.get 0 k < 4) (fresh : v.cal.due.getLsbD 0 = false)
    (idle : v.calibrating 0 = false) (may : v.calMayRun = true ∨ v.pwr = .doze) : calDriftDue v = adcDue v := by
  rw [calDriftDue_eq, calTargets, List.foldl_cons, driftStep_adc drifts fresh idle may]
  refine driftSteps_steady fun k here => ?_
  have other : k ≠ 0 := fun zero => by simp [zero] at here
  have same : (v.cal.driftCount.set 0 0).get 0 k = v.cal.driftCount.get 0 k :=
    table_get_set_other _ _ _ _ _ (Ne.symm other)
  exact same.trans_lt (steady k (List.mem_cons_of_mem 0 here) other)

/-! ## CAL_RUN_START (R431) -/

theorem calRunStart_stands (stands : v.calMayRun = false) : calRunStart v = v := if_pos (by simp [stands])

theorem calRunStart_due (may : v.calMayRun = true) {k : Nat} (empty : v.cal.queue = [])
    (due : calTargets.find? (fun (k : Nat) => v.cal.due.getLsbD k && (v.calBar k).isNone && !v.calibrating k)
      = some k) :
    calRunStart v = v.beginRun { target := k, origin := .fwAuto } := by
  rw [calRunStart, if_neg (by simp [may]), empty]
  simp only [State.startDue, due]

section Queued

variable {r : CalRun} {l : List CalRun} (may : v.calMayRun = true) (queue : v.cal.queue = r :: l)
  (free : ∀ x ∈ v.cal.running, x.origin = .fwAuto)
include may queue free

/-- The run at the front of the queue is taken when no other run of a command is in progress. -/
theorem calRunStart_takes : calRunStart v
    = match v.calBar r.target, r.waiter with
      | none, _ => ({ v with cal := { v.cal with queue := l } }).beginRun r
      | some reason, some _ => ({ v with cal := { v.cal with queue := l } }).endCalRun r false reason
      | some reason, none =>
        (fun s : State => s.post (ev Ev.calDue Cls.system 0 reason s.cal.due.toNat))
          (({ v with cal := { v.cal with queue := l } }).calDueAt r.target) := by
  rw [calRunStart, if_neg (by simp [may]), queue]
  exact (if_neg (by simpa using free)).trans rfl

theorem calRunStart_begins (unbarred : v.calBar r.target = none) : calRunStart v
    = ({ v with cal := { v.cal with queue := l } }).beginRun r := by
  rw [calRunStart_takes may queue free, unbarred]

variable {c : Reason} (barred : v.calBar r.target = some c)
include barred

theorem calRunStart_fails (asked : r.waiter ≠ none) : calRunStart v
    = ({ v with cal := { v.cal with queue := l } }).endCalRun r false c := by
  obtain ⟨w, waiter⟩ := Option.ne_none_iff_exists'.mp asked
  rw [calRunStart_takes may queue free, barred, waiter]

theorem calRunStart_waits (own : r.waiter = none) : calRunStart v
    = (fun s : State => s.post (ev Ev.calDue Cls.system 0 c s.cal.due.toNat))
        (({ v with cal := { v.cal with queue := l } }).calDueAt r.target) := by
  rw [calRunStart_takes may queue free, barred, own]

end Queued

/-! ## CAL_RUN_DONE (R432, R433) -/

theorem calRunDone_none {l : List (Nat × Coeff)} (none_ : v.calEnding l = none) : calRunDone l v = v := by
  unfold calRunDone
  rw [none_]

theorem calEnding_early {l : List (Nat × Coeff)}
    (early : ∀ r ∈ v.cal.running, r.moved = false ∧ v.aon < r.start + calTicks r.target) : v.calEnding l = none := by
  have stays : ∀ r ∈ v.cal.running, v.calOver r = false := fun r here => by
    obtain ⟨still, short⟩ := early r here
    simp [State.calOver, still, short]
  have none_over : v.cal.running.find? v.calOver = none := List.find?_eq_none.mpr fun r here => by simp [stays r here]
  have none_ends : v.cal.running.find? (fun r => v.calOver r
      && l.any (fun (x : Nat × Coeff) => (calSets r.target).contains x.1)) = none :=
    List.find?_eq_none.mpr fun r here => by simp [stays r here]
  simp only [State.calEnding, none_over, none_ends, Option.orElse_eq_orElse, Option.orElse_none, ite_self]

/-- A run of the ADC has ended with a result, and has set `coeffs`. -/
def adcRunOver (r : CalRun) (coeffs : Table Coeff) (reason : Reason) (v : State) : State :=
  { v with cal := { v.cal with
    running := v.cal.running.erase r, coeffs := coeffs, lastTemp := v.cal.lastTemp.set 0 v.therm.dieMax
    driftCount := v.cal.driftCount.set 0 0, lastBoot := v.host.bootCount, lastRunTemp := v.therm.dieMax
    lastResult := reason } }

/-- A run of start-up or of FW_AUTO ends: no command waits for it. -/
theorem endCalRun_own {r : CalRun} {applied : Bool} {reason : Reason} (own : r.waiter = none) :
    v.endCalRun r applied reason
      = ((v.ownDac r.target false).post (ev Ev.calDone Cls.system 0 reason
          (2 ^ r.target + 65536 * (if applied then 2 ^ r.target else 0)))).ampUpdate 3 := by
  rw [State.endCalRun, own]

section Ends

variable {x : Coeff} {r : CalRun} (ends : v.calEnding [(0, x)] = some r) (adc : r.target = 0) (still : r.moved = false)
  (own : r.waiter = none)
include ends adc still own

theorem calRunDone_takes (good : coeffOk 0 x = true) : calRunDone [(0, x)] v
    = ((State.ownDac 0 false (State.logEntry { origin := r.origin, new := 1 }
        (adcRunOver r (v.cal.coeffs.set 0 x) 0 v))).post
          (ev Ev.calDone Cls.system 0 0 (1 + 65536 * 1))).ampUpdate 3 := by
  unfold calRunDone
  rw [ends]
  simp only [adc, still, calSets, if_true, Bool.false_eq_true, if_false, List.map_cons, List.map_nil, List.find?_cons,
    beq_self_eq_true, List.all_cons, List.all_nil, good, Bool.and_self, List.isEmpty_cons]
  rw [endCalRun_own own, adc]
  rfl

theorem calRunDone_rejects (bad : coeffOk 0 x = false) : calRunDone [(0, x)] v
    = ((State.ownDac 0 false (adcRunOver r v.cal.coeffs Rc.calOutOfRange v)).post
        (ev Ev.calDone Cls.system 0 Rc.calOutOfRange 1)).ampUpdate 3 := by
  unfold calRunDone
  rw [ends]
  simp only [adc, still, calSets, if_true, Bool.false_eq_true, if_false, List.map_cons, List.map_nil, List.find?_cons,
    beq_self_eq_true, List.all_cons, List.all_nil, bad, Bool.false_and, List.isEmpty_nil]
  rw [endCalRun_own own, adc]
  rfl

end Ends

/-! ## ADC_SCAN (R430) -/

theorem adcScan_early {l : List Int} (early : v.aon < v.cal.adcAt + 1024) : adcScan l v = v :=
  if_pos (by simp [early])

theorem adcScan_due {l : List Int} (on : v.sys ≠ .off) (alive : v.sys ≠ .safe) (awake : v.pwr ≠ .sleep)
    (powered : v.pwr ≠ .offAon) (due : v.cal.adcAt + 1024 ≤ v.aon) (free : ∀ r ∈ v.cal.running, r.target ≠ 0)
    (idle : v.underTest 17 = false) (running : v.underTest 21 = false) : adcScan l v
    = { v with cal := { v.cal with adcAt := v.aon, adc := (l.take 16).map (adcCode (v.coeff 0)) } } := by
  have live : v.adcHeld = false := by simpa [State.adcHeld] using free
  exact if_neg (by simp [on, alive, awake, powered, due, live, idle, running])

/-! ## OTP_RECHECK_DUE (R452) -/

theorem otpRecheckDue_test {t : Table (Word × Word)} (test : v.underTest 22 = true) : otpRecheckDue t v = v :=
  if_pos (by simp [test])

theorem otpRecheckDue_none {t : Table (Word × Word)} (empty : v.otp.ops = []) (few : v.otp.recheckCount < 4)
    (later : v.otp.recheckFirst = false) : otpRecheckDue t v = v := by
  unfold otpRecheckDue
  simp only [empty, later]
  exact if_pos (by simp [few])

/-- The margins as they are read, and the words that are newly marginal. -/
def marginsRead (t : Table (Word × Word)) (v : State) : State :=
  { v with otp := { v.otp with
    array := withMargins v.otp.array t, recheck := v.otp.recheck ++ recheckNew v.otp (withMargins v.otp.array t)
    recheckTemp := v.therm.dieMax, recheckCount := 0 } }

/-- Each word that is newly marginal is reported. -/
def postMarginal (new : List Nat) (v : State) : State :=
  new.foldl (fun (s : State) (i : Nat) => s.post (ev Ev.otpMarginal Cls.system 0 Rc.wordMarginal (i + 1024))) v

/-- Away from the first recheck after start-up, the read keeps the marks of that one. -/
theorem marginsRead_later {t : Table (Word × Word)} (later : v.otp.recheckFirst = false) :
    { v with otp := { v.otp with
      array := withMargins v.otp.array t, recheck := v.otp.recheck ++ recheckNew v.otp (withMargins v.otp.array t)
      recheckTemp := v.therm.dieMax, recheckCount := 0, recheckFirst := false, tempLeft := v.otp.tempLeft } }
      = marginsRead t v := by
  rw [← later]
  rfl

section Rechecks

variable {t : Table (Word × Word)} (idle : v.underTest 22 = false)
include idle

theorem otpRecheckDue_asked {u : Waiter} {l : List (OtpOp × Waiter)} (asked : v.otp.ops = (.margin, u) :: l)
    (later : v.otp.recheckFirst = false) (none_ : recheckNew v.otp (withMargins v.otp.array t) = []) :
    otpRecheckDue t v = State.endOtp 0 u { v with otp := { v.otp with
      array := withMargins v.otp.array t, recheckTemp := v.therm.dieMax, recheckCount := 0 } } := by
  have read : marginsRead t v = { v with otp := { v.otp with
      array := withMargins v.otp.array t, recheckTemp := v.therm.dieMax, recheckCount := 0 } } := by
    rw [marginsRead, none_, List.append_nil]
  rw [← read, ← marginsRead_later later]
  unfold otpRecheckDue
  simp only [asked, later]
  refine (if_neg (by simp [idle])).trans ?_
  rw [none_]
  rfl

theorem otpRecheckDue_moved (empty : v.otp.ops = []) (moved : 4 ≤ v.otp.recheckCount) (runs : v.firmwareRuns = true)
    (later : v.otp.recheckFirst = false) : otpRecheckDue t v
    = (postMarginal (recheckNew v.otp (withMargins v.otp.array t)) (marginsRead t v)).driveVqps := by
  rw [← marginsRead_later later]
  unfold otpRecheckDue
  simp only [empty, later]
  exact if_neg (by simp [idle, moved, runs])

theorem otpRecheckDue_first (first : v.otp.recheckFirst = true) : otpRecheckDue t v
    = (postMarginal (recheckNew v.otp (withMargins v.otp.array t)) { v with otp := { v.otp with
        array := withMargins v.otp.array t, recheck := v.otp.recheck ++ recheckNew v.otp (withMargins v.otp.array t)
        recheckTemp := v.therm.dieMax, recheckCount := 0, recheckFirst := false, tempLeft := false } }).driveVqps := by
  unfold otpRecheckDue
  simp only [first]
  exact if_neg (by simp [idle])

end Rechecks

/-- Settles O57: each clause is the case of the row's operation that its condition picks (R430, R431, R433, R452). -/
theorem calibrationAndOtpRows : Obligations.CalibrationAndOtpRows := by
  unfold Obligations.CalibrationAndOtpRows
  exact ⟨
    happens_of (f := calDriftDue) (fun _ _ => rfl) fun _ steady => calDriftDue_steady steady,
    happens_of (f := calDriftDue) (fun _ _ => rfl) fun _ ⟨drifts, steady, fresh, idle, may⟩ =>
      calDriftDue_adc drifts steady fresh idle may,
    fun _ _ => happens_of (f := calRunStart) (fun _ _ => rfl) fun _ ⟨may, queue, free, unbarred⟩ =>
      calRunStart_begins may queue free unbarred,
    fun _ => happens_of (f := calRunStart) (fun _ _ => rfl) fun _ ⟨may, empty, due⟩ => calRunStart_due may empty due,
    happens_of (f := calRunStart) (fun _ _ => rfl) fun _ stands => calRunStart_stands stands,
    fun _ _ _ => happens_of (f := calRunStart) (fun _ _ => rfl) fun _ ⟨may, queue, free, barred, asked⟩ =>
      calRunStart_fails may queue free barred asked,
    fun _ _ _ => happens_of (f := calRunStart) (fun _ _ => rfl) fun _ ⟨may, queue, free, barred, own⟩ =>
      calRunStart_waits may queue free barred own,
    fun l => happens_of (f := calRunDone l) (fun _ _ => rfl) fun _ none_ => calRunDone_none none_,
    fun x _ => happens_of (f := calRunDone [(0, x)]) (fun _ _ => rfl) fun _ ⟨ends, adc, still, own, good⟩ =>
      calRunDone_takes ends adc still own good,
    fun x _ => happens_of (f := calRunDone [(0, x)]) (fun _ _ => rfl) fun _ ⟨ends, adc, still, own, bad⟩ =>
      calRunDone_rejects ends adc still own bad,
    fun l => happens_of (f := calRunDone l) (fun _ _ => rfl) fun _ early => calRunDone_none (calEnding_early early),
    fun l => happens_of (f := adcScan l) (fun _ _ => rfl) fun _ ⟨on, alive, awake, powered, due, free, idle, running⟩ =>
      adcScan_due on alive awake powered due free idle running,
    fun l => happens_of (f := adcScan l) (fun _ _ => rfl) fun _ early => adcScan_early early,
    fun t => happens_of (f := otpRecheckDue t) (fun _ _ => rfl) fun _ ⟨empty, few, later⟩ =>
      otpRecheckDue_none empty few later,
    fun t _ _ => happens_of (f := otpRecheckDue t) (fun _ _ => rfl) fun _ ⟨asked, later, idle, none_⟩ =>
      otpRecheckDue_asked idle asked later none_,
    fun t => happens_of (f := otpRecheckDue t) (fun _ _ => rfl) fun _ ⟨empty, moved, runs, later, idle⟩ =>
      otpRecheckDue_moved idle empty moved runs later,
    fun t => happens_of (f := otpRecheckDue t) (fun _ _ => rfl) fun _ ⟨first, idle⟩ => otpRecheckDue_first idle first,
    fun t => happens_of (f := otpRecheckDue t) (fun _ _ => rfl) fun _ test => otpRecheckDue_test test⟩

end Sys2Proof.Proofs.CalibrationAndOtpRows

/-!
PROOFS. The actions of OTP (R452, R454, R456, R458, R459, R461): one equation per case of a command's body; and the
slots of R445.
-/

namespace Sys2Proof.Proofs.OtpCommands

open Sys2Proof Sys2Proof.Machine Sys2Proof.Laws

variable {v : State} {rq : Request}

/-! ## OTP.PROGRAM (R458, R459) -/

/-- The mask of bits that OTP.PROGRAM names. -/
abbrev maskOf (rq : Request) : Word := BitVec.ofNat 32 (fld rq.payload 4 4)

/-- The word that OTP.PROGRAM names lies in a locked region. -/
abbrev wordLocked (rq : Request) (v : State) : Bool :=
  match regionOf (fld rq.payload 0 2) with
  | some i => v.lockedNow i
  | none => false

/-- OTP.PROGRAM would lock a region whose check words do not match. -/
abbrev locksMismatch (rq : Request) (v : State) : Bool :=
  fld rq.payload 0 2 == lockWord && (List.range 8).any (fun i =>
    (maskOf rq).getLsbD i && !regionGood (fun i => (otpAt v.otp.array i).normal) i)

theorem otpProgramBody_lifecycle (barred : programPermitted v.otp.lc (fld rq.payload 0 2) (maskOf rq) = false) :
    otpProgramBody rq v = .refuse Rc.notPermittedInLifecycle 0 0 [] :=
  if_pos (by simp [barred])

section Program

variable (word : fld rq.payload 0 2 < 512) (bank : fld rq.payload 2 1 < 2) (long : 5 ≤ fld rq.payload 3 1)
  (short : fld rq.payload 3 1 ≤ 20) (some_ : maskOf rq ≠ 0)
  (permitted : programPermitted v.otp.lc (fld rq.payload 0 2) (maskOf rq) = true)
include word bank long short some_ permitted

/-- The order of refusals of a request whose fields are good (R459). -/
theorem otpProgramBody_eq : otpProgramBody rq v
    = if isLcWord (fld rq.payload 0 2) then refuseAs Rc.lcTransition
      else if wordLocked rq v then refuseAs Rc.regionLocked
      else if locksMismatch rq v then refuseAs Rc.checkMismatch
      else if !v.otpTempOk then refuseAs Rc.tempRange
      else .accept (v.queueOtp (.program (fld rq.payload 0 2) (maskOf rq) (fld rq.payload 2 1 == 0)
        (fld rq.payload 3 1)) (v.waiterOf rq 0x0F02)) :=
  (if_neg (by simp [permitted])).trans (checked_ok (by simpa [word, bank, long, short] using some_))

theorem otpProgramBody_lcWord (lc : isLcWord (fld rq.payload 0 2) = true) :
    otpProgramBody rq v = .refuse Rc.lcTransition 0 0 [] :=
  (otpProgramBody_eq word bank long short some_ permitted).trans (if_pos lc)

variable (free : isLcWord (fld rq.payload 0 2) = false)
include free

theorem otpProgramBody_locked (locked : wordLocked rq v = true) :
    otpProgramBody rq v = .refuse Rc.regionLocked 0 0 [] := by
  rw [otpProgramBody_eq word bank long short some_ permitted, free, locked]
  rfl

variable (unlocked : wordLocked rq v = false)
include unlocked

theorem otpProgramBody_mismatch (mismatch : locksMismatch rq v = true) :
    otpProgramBody rq v = .refuse Rc.checkMismatch 0 0 [] := by
  rw [otpProgramBody_eq word bank long short some_ permitted, free, unlocked, mismatch]
  rfl

variable (sound : locksMismatch rq v = false)
include sound

theorem otpProgramBody_temp (hot : v.otpTempOk = false) : otpProgramBody rq v = .refuse Rc.tempRange 0 0 [] := by
  rw [otpProgramBody_eq word bank long short some_ permitted, free, unlocked, sound, hot]
  rfl

theorem otpProgramBody_accepts (mild : v.otpTempOk = true) : otpProgramBody rq v
    = .accept (v.queueOtp (.program (fld rq.payload 0 2) (maskOf rq) (fld rq.payload 2 1 == 0) (fld rq.payload 3 1))
        (v.waiterOf rq 0x0F02)) := by
  rw [otpProgramBody_eq word bank long short some_ permitted, free, unlocked, sound, mild]
  rfl

end Program

/-! ## OTP.REPAIR_PULSE (R461) -/

section Repair

variable (word : fld rq.payload 0 2 < 512) (bank : fld rq.payload 2 1 < 2) (long : 5 ≤ fld rq.payload 3 1)
  (short : fld rq.payload 3 1 ≤ 20)
include word bank long short

theorem otpRepairPulseBody_temp (hot : v.otpTempOk = false) :
    otpRepairPulseBody rq v = .refuse Rc.tempRange 0 0 [] :=
  (checked_ok (by simp [word, bank, long, short])).trans (if_pos (by simp [hot]))

theorem otpRepairPulseBody_accepts (mild : v.otpTempOk = true) : otpRepairPulseBody rq v
    = .accept (v.queueOtp (.repair (fld rq.payload 0 2) (fld rq.payload 2 1 == 0) (fld rq.payload 3 1))
        (v.waiterOf rq 0x0F03)) :=
  (checked_ok (by simp [word, bank, long, short])).trans (if_neg (by simp [mild]))

end Repair

/-! ## OTP.LC_ADVANCE (R456) -/

section Advance

variable (some_ : 1 ≤ fld rq.payload 0 1) (known : fld rq.payload 0 1 ≤ 5)
include some_ known

/-- The order of refusals of a request whose fields are good (R456, R462). -/
theorem otpLcAdvanceBody_eq : otpLcAdvanceBody rq v
    = if !lcReachable v.otp.lc (fld rq.payload 0 1) then refuseAs Rc.lcTransition
      else if !v.lcReady (fld rq.payload 0 1) then refuseAs Rc.lcPrecondition
      else if !v.lcAuthorised rq.payload (fld rq.payload 0 1) then refuseAs Rc.authFailed
      else .accept ({ v with otp := { v.otp with nonce := none } }.queueOtp
        (.advance (fld rq.payload 0 1) (if fld rq.payload 0 1 = 4 then v.returnRecord rq.payload else []))
        (v.waiterOf rq 0x0F05)) :=
  checked_ok (by simp [some_, known])

theorem otpLcAdvanceBody_unreachable (far : lcReachable v.otp.lc (fld rq.payload 0 1) = false) :
    otpLcAdvanceBody rq v = .refuse Rc.lcTransition 0 0 [] := by
  rw [otpLcAdvanceBody_eq some_ known, far]
  rfl

variable (near : lcReachable v.otp.lc (fld rq.payload 0 1) = true)
include near

theorem otpLcAdvanceBody_unready (unready : v.lcReady (fld rq.payload 0 1) = false) :
    otpLcAdvanceBody rq v = .refuse Rc.lcPrecondition 0 0 [] := by
  rw [otpLcAdvanceBody_eq some_ known, near, unready]
  rfl

variable (ready : v.lcReady (fld rq.payload 0 1) = true)
include ready

theorem otpLcAdvanceBody_unauthorised (foreign : v.lcAuthorised rq.payload (fld rq.payload 0 1) = false) :
    otpLcAdvanceBody rq v = .refuse Rc.authFailed 0 0 [] := by
  rw [otpLcAdvanceBody_eq some_ known, near, ready, foreign]
  rfl

theorem otpLcAdvanceBody_accepts (authorised : v.lcAuthorised rq.payload (fld rq.payload 0 1) = true) :
    otpLcAdvanceBody rq v = .accept ({ v with otp := { v.otp with nonce := none } }.queueOtp
      (.advance (fld rq.payload 0 1) (if fld rq.payload 0 1 = 4 then v.returnRecord rq.payload else []))
      (v.waiterOf rq 0x0F05)) := by
  rw [otpLcAdvanceBody_eq some_ known, near, ready, authorised]
  rfl

end Advance

/-! ## OTP.REVOKE_KEY (R454) -/

section Revoke

variable (slot : fld rq.payload 0 1 < 2)
include slot

/-- Every present key other than the one named is revoked, or waits to be. -/
abbrev lastKey (rq : Request) (v : State) : Bool :=
  v.keysPresent.all (fun j => j == (fld rq.payload 0 1) || (v.keyRevoked j
    || List.any v.otp.ops (fun (x : OtpOp × Waiter) => x.1 == .revoke j)))

theorem otpRevokeKeyBody_last (last : lastKey rq v = true) : otpRevokeKeyBody rq v = .refuse Rc.lastKey 0 0 [] :=
  (checked_ok (by simp [slot])).trans (if_pos last)

theorem otpRevokeKeyBody_accepts (other : lastKey rq v = false) :
    otpRevokeKeyBody rq v = .accept (v.queueOtp (.revoke (fld rq.payload 0 1)) (v.waiterOf rq 0x0F06)) :=
  (checked_ok (by simp [slot])).trans (if_neg (ne_true_of_eq_false other))

end Revoke

/-! ## OTP.MARGIN_CHECK (R452) -/

/-- EN_P7 is as the operation at the front of the queue wants it (R397). -/
def vqpsDriven (v : State) : Prop :=
  v.power.enP.getLsbD 7 = (!v.otp.recheckFirst && (match v.otp.ops with
    | (op, _) :: _ => usesVqps op
    | [] => false))

theorem driveVqps_driven (driven : vqpsDriven v) : v.driveVqps = v :=
  if_pos (beq_iff_eq.mpr driven.symm)

/-- A margin check that joins the queue leaves the wish for VQPS as it is: alone in the queue, it wants none. -/
theorem queueOtp_margin_log (w : Waiter) (driven : vqpsDriven v) : (v.queueOtp .margin w).log = v.log := by
  unfold State.queueOtp
  rw [driveVqps_driven]
  unfold vqpsDriven at driven ⊢
  refine driven.trans ?_
  dsimp only
  cases v.otp.ops <;> rfl

open SystemCommands (logs_freely)

theorem queueOtp_rung {op : OtpOp} {w : Waiter} (quiet : v.rung = []) : (v.queueOtp op w).rung = [] :=
  (keeps_queueOtp op w v).2.1.trans quiet

/-- Settles O40: each clause is one case of the command's body. -/
theorem otpCommandsAct : Obligations.OtpCommandsAct := by
  unfold Obligations.OtpCommandsAct
  exact ⟨
    accepts_of (fun _ _ _ => rfl)
      (fun _ _ ⟨word, bank, long, short, some_, _, permitted, free, unlocked, sound, mild⟩ =>
        otpProgramBody_accepts word bank long short some_ permitted free unlocked sound mild)
      (fun _ _ => queueOtp_rung) (logs_freely fun _ _ ⟨_, _, _, _, _, free, _⟩ => free),
    denies_of (fun _ _ _ => rfl) fun _ _ barred => otpProgramBody_lifecycle barred,
    denies_of (fun _ _ _ => rfl) fun _ _ ⟨word, bank, long, short, some_, permitted, lc⟩ =>
      otpProgramBody_lcWord word bank long short some_ permitted lc,
    denies_of (fun _ _ _ => rfl) fun _ _ ⟨word, bank, long, short, some_, permitted, free, locked⟩ =>
      otpProgramBody_locked word bank long short some_ permitted free locked,
    denies_of (fun _ _ _ => rfl) fun _ _ ⟨word, bank, long, short, some_, permitted, free, unlocked, mismatch⟩ =>
      otpProgramBody_mismatch word bank long short some_ permitted free unlocked mismatch,
    denies_of (fun _ _ _ => rfl) fun _ _ ⟨word, bank, long, short, some_, permitted, free, unlocked, sound, hot⟩ =>
      otpProgramBody_temp word bank long short some_ permitted free unlocked sound hot,
    accepts_of (fun _ _ _ => rfl)
      (fun _ _ ⟨word, bank, long, short, _, mild⟩ => otpRepairPulseBody_accepts word bank long short mild)
      (fun _ _ => queueOtp_rung) (logs_freely fun _ _ ⟨_, _, _, _, free, _⟩ => free),
    denies_of (fun _ _ _ => rfl) fun _ _ ⟨word, bank, long, short, hot⟩ =>
      otpRepairPulseBody_temp word bank long short hot,
    answers_of (fun _ _ _ => rfl) (fun _ _ _ => ⟨_, rfl, rfl⟩) (fun _ _ quiet => quiet) (fun _ _ _ _ => ⟨rfl, rfl⟩),
    accepts_of (fun _ _ _ => rfl)
      (fun _ _ ⟨some_, known, _, near, ready, authorised⟩ =>
        otpLcAdvanceBody_accepts some_ known near ready authorised)
      (fun _ v quiet => queueOtp_rung (v := { v with otp := { v.otp with nonce := none } }) quiet)
      (logs_freely fun _ _ ⟨_, _, free, _⟩ => free),
    denies_of (fun _ _ _ => rfl) fun _ _ ⟨some_, known, far⟩ => otpLcAdvanceBody_unreachable some_ known far,
    denies_of (fun _ _ _ => rfl) fun _ _ ⟨some_, known, near, unready⟩ =>
      otpLcAdvanceBody_unready some_ known near unready,
    denies_of (fun _ _ _ => rfl) fun _ _ ⟨some_, known, near, ready, foreign⟩ =>
      otpLcAdvanceBody_unauthorised some_ known near ready foreign,
    accepts_of (fun _ _ _ => rfl) (fun _ _ ⟨slot, _, other⟩ => otpRevokeKeyBody_accepts slot other)
      (fun _ _ => queueOtp_rung) (logs_freely fun _ _ ⟨_, free, _⟩ => free),
    denies_of (fun _ _ _ => rfl) fun _ _ ⟨slot, last⟩ => otpRevokeKeyBody_last slot last,
    accepts_of (fun _ _ _ => rfl) (fun _ _ _ => rfl) (fun _ _ => queueOtp_rung)
      (fun _ _ driven refuses => ⟨rfl, congrArg Log.next (queueOtp_margin_log _ (driven refuses))⟩)⟩

/-! ## The slots in use (R445) -/

theorem keyBase_first (valid : v.region8 3 = .valid) : v.keyBase = some 0x080 := if_pos (beq_iff_eq.mpr valid)

section SecondKeySlot

variable (first : v.region8 3 ≠ .valid)
include first

theorem keyBase_second (valid : v.region8 4 = .valid) : v.keyBase = some 0x0A8 :=
  (if_neg (by simpa using first)).trans (if_pos (beq_iff_eq.mpr valid))

theorem keyBase_none (second : v.region8 4 ≠ .valid) : v.keyBase = none :=
  (if_neg (by simpa using first)).trans (if_neg (by simpa using second))

end SecondKeySlot

theorem keysPresent_none (none_ : v.keyBase = none) : v.keysPresent = [] := by
  rw [State.keysPresent, none_]

theorem oemBase_first (valid : v.region8 5 = .valid) : v.oemBase = some 0x0E0 := if_pos (beq_iff_eq.mpr valid)

section SecondOemSlot

variable (first : v.region8 5 ≠ .valid)
include first

theorem oemBase_second (valid : v.region8 6 = .valid) : v.oemBase = some 0x160 :=
  (if_neg (by simpa using first)).trans (if_pos (beq_iff_eq.mpr valid))

theorem oemBase_none (second : v.region8 6 ≠ .valid) : v.oemBase = none :=
  (if_neg (by simpa using first)).trans (if_neg (by simpa using second))

end SecondOemSlot

theorem oemKeyHash_none (none_ : v.oemBase = none) : v.oemKeyHash = none := by
  rw [State.oemKeyHash, none_]

/-- A rail without a record takes the default one: no address, 5 ms of PG, no voltage. -/
theorem railRec_none (none_ : v.oemBase = none) (k : Nat) :
    v.railRec k = { addr := 0, pec := false, pgTimeout := 5, vout := 0 } := by
  simp [State.railRec, none_, bitsOf, bit]

/-- Settles O14, by the states of the regions of the two slots. -/
theorem slotZeroTakesPrecedence : Obligations.SlotZeroTakesPrecedence := by
  unfold Obligations.SlotZeroTakesPrecedence
  refine fun s => ⟨keyBase_first, keyBase_second, fun first second => ?_, oemBase_first, oemBase_second,
    fun first second => ?_⟩
  · have none_ := keyBase_none first second
    exact ⟨none_, keysPresent_none none_⟩
  · have none_ := oemBase_none first second
    exact ⟨none_, oemKeyHash_none none_, railRec_none none_⟩

end Sys2Proof.Proofs.OtpCommands

/-!
PROOFS. The actions of BIST and LOG (R473, R475, R481, R482): one equation per case of a command's body.
-/

namespace Sys2Proof.Proofs.BistAndLogCommands

open Sys2Proof Sys2Proof.Machine Sys2Proof.Laws

variable {v : State} {rq : Request}

/-! ## What a test on demand begins with (R465, R473) -/

/-- A test has begun: its PRPG has the seed. -/
def demandSet (d : Demand) (v : State) : State :=
  { v with bist := { v.bist with demand := some d, prpg := v.bist.prpg.set d.part d.from_ } }

section Begins

variable {d : Demand}

theorem beginDemand_fixed (fixed : 5 ≤ d.part) (cool : (v.stopPart d.part).stage < 2) :
    v.beginDemand d = demandSet d (v.stopPart d.part) := by
  unfold State.beginDemand
  rw [if_pos fixed]
  exact if_neg (Nat.not_le.mpr cool)

theorem beginDemand_hot (fixed : 5 ≤ d.part) (hot : 2 ≤ (v.stopPart d.part).stage) :
    v.beginDemand d = (demandSet d (v.stopPart d.part)).stopDemand .thermal := by
  unfold State.beginDemand
  rw [if_pos fixed]
  exact if_pos hot

section Pool

variable (pool : d.part < 5)
include pool

theorem beginDemand_unit
    (serves : ((v.stopPeriodic d.part .preempted).pool d.part).retired.contains d.unit = false)
    (cool : ((v.stopPeriodic d.part .preempted).restUnit d.part d.unit).stage < 2) :
    v.beginDemand d = demandSet d ((v.stopPeriodic d.part .preempted).restUnit d.part d.unit) := by
  unfold State.beginDemand
  rw [if_neg (Nat.not_le.mpr pool)]
  dsimp only
  rw [if_neg (ne_true_of_eq_false serves)]
  exact if_neg (Nat.not_le.mpr cool)

theorem beginDemand_retired
    (retired : ((v.stopPeriodic d.part .preempted).pool d.part).retired.contains d.unit = true)
    (cool : (v.stopPeriodic d.part .preempted).stage < 2) :
    v.beginDemand d = demandSet d (v.stopPeriodic d.part .preempted) := by
  unfold State.beginDemand
  rw [if_neg (Nat.not_le.mpr pool)]
  dsimp only
  rw [if_pos retired]
  exact if_neg (Nat.not_le.mpr cool)

end Pool

end Begins

/-! ## BIST.RUN (R473–R475) -/

/-- The partition that BIST.RUN names. -/
abbrev partOf (rq : Request) : Nat := fld rq.payload 0 1

/-- The unit that BIST.RUN names. -/
abbrev unitOf (rq : Request) : Nat := fld rq.payload 1 1

/-- BIST.RUN gives its own count and seed. -/
abbrev custom (rq : Request) : Bool := bit (fld rq.payload 2 1) 0

/-- The test that BIST.RUN asks for; `std` is the standard count. -/
def demandOf (std : Nat) (borrowed : Bool) (rq : Request) (v : State) : Demand :=
  { part := partOf rq, unit := unitOf rq, count := if custom rq then fld rq.payload 4 4 else std, custom := custom rq
    seed := BitVec.ofNat 64 (fld rq.payload 8 8), waiter := v.waiterOf rq 0x1001, start := v.tick
    borrowed := borrowed }

/-- The test that BIST.RUN asks for has begun in `w`, with its own seed or that of the standard count. -/
def demandBegun (std : Nat) (borrowed : Bool) (rq : Request) (v w : State) : State :=
  { w with bist := { w.bist with
    prpg := w.bist.prpg.set (partOf rq)
      (if custom rq = true then BitVec.ofNat 64 (fld rq.payload 8 8) else Config.bistSeed (partOf rq) std)
    demand := some (demandOf std borrowed rq v) } }

theorem demandSet_of_seed {std : Nat} {borrowed : Bool} {w : State}
    (count : (if partOf rq < 5 then 65536 else 16384) = std) :
    demandSet (demandOf std borrowed rq v) w = demandBegun std borrowed rq v w := by
  subst count
  rfl

theorem demandSet_fixed {borrowed : Bool} {w : State} (fixed : 5 ≤ partOf rq) :
    demandSet (demandOf 16384 borrowed rq v) w = demandBegun 16384 borrowed rq v w :=
  demandSet_of_seed (if_neg (Nat.not_lt.mpr fixed))

theorem demandSet_pool {borrowed : Bool} {w : State} (pool : partOf rq < 5) :
    demandSet (demandOf 65536 borrowed rq v) w = demandBegun 65536 borrowed rq v w :=
  demandSet_of_seed (if_pos pool)

section Run

variable (part : partOf rq < 24)
  (fine : custom rq = true → v.otp.lc ≠ .oem ∧ 1 ≤ fld rq.payload 4 4 ∧ fld rq.payload 4 4 ≤ 16777216
    ∧ fld rq.payload 8 8 ≠ 0)
include part fine

/-- The order of refusals of a request whose fields are good, the unit last. -/
theorem bistRunBody_eq : bistRunBody rq v
    = if (if partOf rq < 5 then (poolSize (partOf rq)).1 ≤ unitOf rq else unitOf rq ≠ 0) then badValue 1
      else if v.bist.demand.isSome then refuseAs Rc.bistBusy
      else if 5 ≤ partOf rq && (neverTested (partOf rq) || !(v.sys == .ready || v.sys == .fault)) then
        refuseAs Rc.notTestable
      else if partOf rq == 13 && v.pair.state == .paired then refuseAs Rc.notTestable
      else if partOf rq < 5 && (v.restingOf (partOf rq)).isNone && v.sys != .ready then refuseAs Rc.noSpare
      else match (v.mem.stakes.get {} 6).owner with
        | some n => .refuse Rc.stakeNotOwner Cls.stakeBank 6 (ownerPayload Cls.mailbox n)
        | none => .accept ((v.beginDemand (demandOf (if partOf rq < 5 then 65536 else 16384)
            (decide (partOf rq < 5) && (v.restingOf (partOf rq)).isNone
              && !(v.pool (partOf rq)).retired.contains (unitOf rq)) rq v)).logOpen { origin := .mbx rq.mbx.val }) := by
  have permitted : (custom rq && v.otp.lc == .oem) = false := by
    cases own : custom rq
    · rfl
    · simpa using (fine own).1
  have fields : ∀ f ∈ [(decide (partOf rq < 24), 0),
      (!custom rq || decide (1 ≤ fld rq.payload 4 4 ∧ fld rq.payload 4 4 ≤ 16777216), 4),
      (!custom rq || fld rq.payload 8 8 != 0, 8)], f.1 = true := by
    cases own : custom rq
    · simp [part]
    · obtain ⟨-, some_, few, seed⟩ := fine own
      simp [part, some_, few, seed]
  exact (if_neg (ne_true_of_eq_false permitted)).trans (checked_ok fields)

section Fixed

variable (fixed : 5 ≤ partOf rq) (unit : unitOf rq = 0)
include fixed unit

theorem bistRunBody_busy (busy : v.bist.demand ≠ none) : bistRunBody rq v = .refuse Rc.bistBusy 0 0 [] := by
  rw [bistRunBody_eq part fine, if_neg (by simp [Nat.not_lt.mpr fixed, unit]),
    if_pos (Option.isSome_iff_ne_none.mpr busy), refuseAs]

variable (free : v.bist.demand = none)
include free

theorem bistRunBody_untestable
    (bars : neverTested (partOf rq) = true ∨ v.sys ≠ .ready ∧ v.sys ≠ .fault) :
    bistRunBody rq v = .refuse Rc.notTestable 0 0 [] := by
  rw [bistRunBody_eq part fine, if_neg (by simp [Nat.not_lt.mpr fixed, unit]), if_neg (by simp [free]),
    if_pos (by simpa [fixed] using bars), refuseAs]

section Tested

variable (tests : neverTested (partOf rq) = false) (sys : v.sys = .ready ∨ v.sys = .fault)
  (alone : partOf rq = 13 → v.pair.state ≠ .paired) (owner : (v.mem.stakes.get {} 6).owner = none)
include tests sys alone owner

theorem bistRunBody_fixed : bistRunBody rq v
      = .accept ((v.beginDemand (demandOf 16384 false rq v)).logOpen { origin := .mbx rq.mbx.val }) := by
  have high : ¬ partOf rq < 5 := Nat.not_lt.mpr fixed
  rw [bistRunBody_eq part fine, if_neg (by simp [high, unit]), if_neg (by simp [free]),
    if_neg (by simpa [tests] using fun _ => or_iff_not_imp_left.mp sys),
    if_neg (by simpa using alone), if_neg (by simp [high]), owner]
  simp only [high, if_false, decide_false, Bool.false_and]

theorem bistRunBody_cool (cool : (v.stopPart (partOf rq)).stage < 2) : bistRunBody rq v
    = .accept ((demandBegun 16384 false rq v (v.stopPart (partOf rq))).logOpen { origin := .mbx rq.mbx.val }) := by
  rw [bistRunBody_fixed part fine fixed unit free tests sys alone owner,
    beginDemand_fixed (d := demandOf 16384 false rq v) fixed cool, demandSet_fixed fixed]
  rfl

theorem bistRunBody_hot (hot : 2 ≤ (v.stopPart (partOf rq)).stage) : bistRunBody rq v
    = .accept (((demandBegun 16384 false rq v (v.stopPart (partOf rq))).stopDemand .thermal).logOpen
        { origin := .mbx rq.mbx.val }) := by
  rw [bistRunBody_fixed part fine fixed unit free tests sys alone owner,
    beginDemand_hot (d := demandOf 16384 false rq v) fixed hot, demandSet_fixed fixed]
  rfl

end Tested

end Fixed

section Pool

variable (pool : partOf rq < 5) (unit : unitOf rq < (poolSize (partOf rq)).1) (free : v.bist.demand = none)
include pool unit free

theorem bistRunBody_noSpare (none_ : v.restingOf (partOf rq) = none) (sys : v.sys ≠ .ready) :
    bistRunBody rq v = .refuse Rc.noSpare 0 0 [] := by
  rw [bistRunBody_eq part fine, if_neg (by simp [pool, unit]), if_neg (by simp [free]),
    if_neg (by simp [Nat.not_le.mpr pool]), if_neg (by simp [show partOf rq ≠ 13 by omega]),
    if_pos (by simp [pool, none_, sys]), refuseAs]

variable (spare : v.sys = .ready ∨ v.restingOf (partOf rq) ≠ none) (owner : (v.mem.stakes.get {} 6).owner = none)
include spare owner

theorem bistRunBody_pool : bistRunBody rq v
      = .accept ((v.beginDemand (demandOf 65536 ((v.restingOf (partOf rq)).isNone
          && !(v.pool (partOf rq)).retired.contains (unitOf rq)) rq v)).logOpen { origin := .mbx rq.mbx.val }) := by
  have served : ¬ (partOf rq < 5 && (v.restingOf (partOf rq)).isNone && v.sys != .ready) = true := by
    obtain ready | rests := spare
    · simp [ready]
    · simp [rests]
  rw [bistRunBody_eq part fine, if_neg (by simp [pool, unit]), if_neg (by simp [free]),
    if_neg (by simp [Nat.not_le.mpr pool]), if_neg (by simp [show partOf rq ≠ 13 by omega]), if_neg served, owner]
  simp only [pool, if_true, decide_true, Bool.true_and]

/-- The unit is to rest, and is tested. -/
theorem bistRunBody_rests {borrowed : Bool}
    (lent : ((v.restingOf (partOf rq)).isNone && !(v.pool (partOf rq)).retired.contains (unitOf rq)) = borrowed)
    (serves : ((v.stopPeriodic (partOf rq) .preempted).pool (partOf rq)).retired.contains (unitOf rq) = false)
    (cool : ((v.stopPeriodic (partOf rq) .preempted).restUnit (partOf rq) (unitOf rq)).stage < 2) : bistRunBody rq v
    = .accept ((demandBegun 65536 borrowed rq v
        ((v.stopPeriodic (partOf rq) .preempted).restUnit (partOf rq) (unitOf rq))).logOpen
          { origin := .mbx rq.mbx.val }) := by
  rw [bistRunBody_pool part fine pool unit free spare owner, lent,
    beginDemand_unit (d := demandOf 65536 borrowed rq v) pool serves cool,
    demandSet_pool pool]
  rfl

/-- The unit is retired, and is tested where it is. -/
theorem bistRunBody_retired (out : (v.pool (partOf rq)).retired.contains (unitOf rq) = true)
    (stays : ((v.stopPeriodic (partOf rq) .preempted).pool (partOf rq)).retired.contains (unitOf rq) = true)
    (cool : (v.stopPeriodic (partOf rq) .preempted).stage < 2) : bistRunBody rq v
    = .accept ((demandBegun 65536 false rq v (v.stopPeriodic (partOf rq) .preempted)).logOpen
        { origin := .mbx rq.mbx.val }) := by
  rw [bistRunBody_pool part fine pool unit free spare owner, out, Bool.not_true, Bool.and_false,
    beginDemand_retired (d := demandOf 65536 false rq v) pool stays cool, demandSet_pool pool]
  rfl

end Pool

end Run

/-! ## BIST.STOP (R475) -/

theorem stopDemand_none {cause : StopCause} (none_ : v.bist.demand = none) : v.stopDemand cause = v := by
  rw [State.stopDemand, none_]

theorem stopDemand_log (cause : StopCause) (v : State) : (v.stopDemand cause).log = v.log := by
  unfold State.stopDemand
  split
  · rfl
  · split <;> rfl

/-! ## LOG.ACK (R482) -/

theorem logAckBody_range (beyond : 0 < ahead32 (logNewest v.log) (BitVec.ofNat 32 (fld rq.payload 0 4))) :
    logAckBody rq v = .refuse Rc.logRange 0 0 [] := if_pos beyond

/-- The host has acknowledged the entries up to `a`. -/
def acknowledged (a : Word) (l : Log) : Log := { l with ack := a, gap := none }

theorem logAckBody_takes (within : ahead32 (logNewest v.log) (BitVec.ofNat 32 (fld rq.payload 0 4)) ≤ 0) :
    logAckBody rq v = .done { v with log :=
      { acknowledged (BitVec.ofNat 32 (fld rq.payload 0 4)) v.log with
        log75 := v.log.log75
          && decide (24576 ≤ logUnacked (acknowledged (BitVec.ofNat 32 (fld rq.payload 0 4)) v.log)) } } [] :=
  if_neg (Int.not_lt.mpr within)

/-! ## LOG.EPOCH_SET (R481) -/

/-- A new value of UTC leaves the doorbells as the entry that holds it left them. -/
theorem utcSet_rung {q : LogReq} (utc : BitVec 64) (quiet : v.rung = []) :
    ({ v.logEntry q with log := { (v.logEntry q).log with utc := utc } } : State).rung = [] :=
  (keeps_logEntry q v).2.1.trans quiet

/-! ## All of them -/

theorem demandBegun_rung {std : Nat} {borrowed : Bool} {w : State} (quiet : w.rung = []) :
    (demandBegun std borrowed rq v w).rung = [] := quiet

open SystemCommands (logs_freely)

/-- Settles O41: each clause is one case of the command's body. -/
theorem bistAndLogCommandsAct : Obligations.BistAndLogCommandsAct := by
  unfold Obligations.BistAndLogCommandsAct
  exact ⟨
    accepts_of (fun _ _ _ => rfl)
      (fun _ _ ⟨part, fine, _, fixed, unit, free, tests, sys, alone, owner, cool⟩ =>
        bistRunBody_cool part fine fixed unit free tests sys alone owner cool)
      (fun _ _ quiet => (keeps_logOpen _ _).2.1.trans ((keeps_stopPart _ _).2.1.trans quiet))
      (logs_freely fun _ _ ⟨_, _, free, _⟩ => free),
    accepts_of (fun _ _ _ => rfl)
      (fun _ _ ⟨part, fine, _, pool, unit, free, none_, ready, serves, owner, still, cool⟩ =>
        bistRunBody_rests part fine pool unit free (.inl ready) owner (by rw [none_, serves]; rfl) still cool)
      (fun _ _ quiet => (keeps_logOpen _ _).2.1.trans
        ((keeps_restUnit _ _ _).2.1.trans ((keeps_stopPeriodic _ _ _).2.1.trans quiet)))
      (logs_freely fun _ _ ⟨_, _, free, _⟩ => free),
    accepts_of (fun _ _ _ => rfl)
      (fun _ _ ⟨part, fine, _, pool, unit, free, rests, still, owner, cool⟩ =>
        bistRunBody_rests part fine pool unit free (.inr rests) owner (by simp [rests]) still cool)
      (fun _ _ quiet => (keeps_logOpen _ _).2.1.trans
        ((keeps_restUnit _ _ _).2.1.trans ((keeps_stopPeriodic _ _ _).2.1.trans quiet)))
      (logs_freely fun _ _ ⟨_, _, free, _⟩ => free),
    accepts_of (fun _ _ _ => rfl)
      (fun _ _ ⟨part, fine, _, pool, unit, free, spare, out, stays, owner, cool⟩ =>
        bistRunBody_retired part fine pool unit free spare owner out stays cool)
      (fun _ _ quiet => (keeps_logOpen _ _).2.1.trans ((keeps_stopPeriodic _ _ _).2.1.trans quiet))
      (logs_freely fun _ _ ⟨_, _, free, _⟩ => free),
    accepts_of (fun _ _ _ => rfl)
      (fun _ _ ⟨part, fine, _, fixed, unit, free, tests, sys, alone, owner, hot⟩ =>
        bistRunBody_hot part fine fixed unit free tests sys alone owner hot)
      (fun _ _ quiet => (keeps_logOpen _ _).2.1.trans
        ((keeps_stopDemand _ _).2.1.trans ((keeps_stopPart _ _).2.1.trans quiet)))
      (logs_freely fun _ _ ⟨_, _, free, _⟩ => free),
    denies_of (fun _ _ _ => rfl) fun _ _ ⟨part, fine, fixed, unit, busy⟩ =>
      bistRunBody_busy part fine fixed unit busy,
    denies_of (fun _ _ _ => rfl) fun _ _ ⟨part, fine, fixed, unit, free, bars⟩ =>
      bistRunBody_untestable part fine fixed unit free bars,
    denies_of (fun _ _ _ => rfl) fun _ _ ⟨part, fine, pool, unit, free, none_, sys⟩ =>
      bistRunBody_noSpare part fine pool unit free none_ sys,
    acts_of (fun _ _ _ => rfl) (fun _ _ none_ => by rw [bistStopBody, stopDemand_none none_])
      (fun _ _ quiet => quiet) (fun _ _ _ _ => ⟨rfl, rfl⟩),
    acts_of (fun _ _ _ => rfl) (fun _ _ _ => rfl) (fun _ _ quiet => (keeps_stopDemand _ _).2.1.trans quiet)
      (fun _ _ _ _ => ⟨rfl, congrArg Log.next (stopDemand_log _ _)⟩),
    acts_of (fun _ _ _ => rfl) (fun _ _ within => logAckBody_takes within) (fun _ _ quiet => quiet)
      (fun _ _ _ _ => ⟨rfl, rfl⟩),
    denies_of (fun _ _ _ => rfl) fun _ _ beyond => logAckBody_range beyond,
    acts_of (fun _ _ _ => rfl) (fun _ _ _ => rfl) (fun _ _ quiet => utcSet_rung _ quiet)
      (logs_freely fun _ _ free => free)⟩

end Sys2Proof.Proofs.BistAndLogCommands

/-!
PROOFS. Periodic self-test slices, repeats and tests on demand (R470, R471, R473): one equation per case of an
operation.
-/

namespace Sys2Proof.Proofs.BistRows

open Sys2Proof Sys2Proof.Machine Sys2Proof.Laws

variable {v : State} {p : Nat} {misr : BitVec 64}

/-! ## BIST_SLICE_START (R470) -/

theorem bistSliceStart_early (early : (v.tryRotate p).aon < ((v.tryRotate p).pool p).nextSlice) :
    bistSliceStart p v = v.tryRotate p :=
  if_pos (by simp [early])

/-- The time of the pool's next slice moves on. -/
def sliceDue (p : Nat) (x : State) : State :=
  x.setPool p { x.pool p with
    nextSlice := if (x.pool p).nextSlice + x.sliceInterval p ≤ x.aon then x.aon + x.sliceInterval p
      else (x.pool p).nextSlice + x.sliceInterval p }

theorem bistSliceStart_due {u : Nat} (due : ((v.tryRotate p).pool p).nextSlice ≤ (v.tryRotate p).aon)
    (periodic : (v.tryRotate p).inForce.bistPeriod ≠ 0) (between : ((v.tryRotate p).pool p).inSlice = false)
    (first : ((v.tryRotate p).pool p).repeat_ = false) (settled : ((v.tryRotate p).pool p).wants = none)
    (free : (sliceDue p (v.tryRotate p)).periodicHeld p = false)
    (rests : (sliceDue p (v.tryRotate p)).restingOf p = some u) : bistSliceStart p v
    = (sliceDue p (v.tryRotate p)).setPool p { (sliceDue p (v.tryRotate p)).pool p with
        inSlice := true, sliceStart := (sliceDue p (v.tryRotate p)).tick } := by
  have starts : ¬ ((sliceDue p (v.tryRotate p)).periodicHeld p || ((sliceDue p (v.tryRotate p)).restingOf p).isNone
      || ((v.tryRotate p).pool p).wants.isSome) = true := by
    rw [free, rests, settled]
    exact Bool.false_ne_true
  exact (if_neg (by simp [Nat.not_lt.mpr due, periodic, between, first])).trans (if_neg starts)

/-! ## BIST_SLICE_END (R470, R471) -/

theorem bistVerdict_expected {part count : Nat} (good : misr = Config.bistExpected part count) :
    bistVerdict part count misr = 1 := if_pos good

theorem bistVerdict_other {part count : Nat} (bad : misr ≠ Config.bistExpected part count) :
    bistVerdict part count misr = 2 := if_neg bad

section SliceEnd

variable (runs : (v.pool p).inSlice = true) (ended : (v.pool p).sliceStart + patternTicks 4096 ≤ v.tick)
include runs ended

/-- A slice that has run its time ends. -/
theorem slice_ends : ¬ (!(v.pool p).inSlice || decide (v.tick < (v.pool p).sliceStart + patternTicks 4096)) = true := by
  simp [runs, ended]

theorem bistSliceEnd_more (more : (v.pool p).slices < 15) : bistSliceEnd p misr v
    = v.setPool p { (v.pool p) with inSlice := false, slices := (v.pool p).slices + 1 } :=
  (if_neg (slice_ends runs ended)).trans (if_pos more)

variable (last : 15 ≤ (v.pool p).slices)
include last

theorem bistSliceEnd_passes (good : misr = Config.bistExpected p 65536) : bistSliceEnd p misr v
    = ((v.recordTest p ((v.restingOf p).getD 0) 1 1 65536 .none (some misr) (Config.bistSeed p 65536)).postBist p
        ((v.restingOf p).getD 0) 1 0 .none).rotate p :=
  (if_neg (slice_ends runs ended)).trans
    ((if_neg (Nat.not_lt.mpr last)).trans (if_pos (bistVerdict_expected good)))

theorem bistSliceEnd_fails (bad : misr ≠ Config.bistExpected p 65536) : bistSliceEnd p misr v
    = (fun u : State => u.setPool p { (v.pool p) with
          inSlice := false, slices := 0, repeat_ := true, sliceStart := u.tick })
        (v.recordTest p ((v.restingOf p).getD 0) 1 2 65536 .none (some misr) (Config.bistSeed p 65536)) :=
  (if_neg (slice_ends runs ended)).trans
    ((if_neg (Nat.not_lt.mpr last)).trans (if_neg (by simp [bistVerdict_other bad])))

end SliceEnd

/-! ## BIST_REPEAT_DONE (R471) -/

theorem bistRepeatDone_none (none_ : (v.pool p).repeat_ = false) : bistRepeatDone p misr v = v :=
  if_pos (by simp [none_])

section Repeats

variable (runs : (v.pool p).repeat_ = true) (ended : (v.pool p).sliceStart + patternTicks 65536 ≤ v.tick)
include runs ended

/-- A repeat that has run its time ends. -/
theorem repeat_ends :
    ¬ (!(v.pool p).repeat_ || decide (v.tick < (v.pool p).sliceStart + patternTicks 65536)) = true := by
  simp [runs, ended]

/-- The failure was a transient one of the unit. -/
def transientMarked (p u : Nat) (x : Pool) (s : State) : State :=
  s.setPool p { x with repeat_ := false, transient := x.transient.set u (x.transient.get 0 u + 1) }

theorem bistRepeatDone_passes (good : misr = Config.bistExpected p 65536) : bistRepeatDone p misr v
    = (State.postBist p ((v.restingOf p).getD 0) 1 Rc.bistTransient .none
        (transientMarked p ((v.restingOf p).getD 0) (v.pool p) (v.recordTest p ((v.restingOf p).getD 0) 1 1 65536 .none
          (some misr) (Config.bistSeed p 65536)))).rotate p :=
  (if_neg (repeat_ends runs ended)).trans (if_pos (bistVerdict_expected good))

theorem bistRepeatDone_fails (bad : misr ≠ Config.bistExpected p 65536) : bistRepeatDone p misr v
    = (v.recordTest p ((v.restingOf p).getD 0) 1 2 65536 .none (some misr) (Config.bistSeed p 65536)).retireUnit p
        ((v.restingOf p).getD 0) :=
  (if_neg (repeat_ends runs ended)).trans (if_neg (by simp [bistVerdict_other bad]))

end Repeats

/-! ## BIST_ON_DEMAND_DONE (R473) -/

theorem bistOnDemandDone_none {e : Bool} (none_ : v.rotateWaiting.bist.demand = none) :
    bistOnDemandDone e misr v = v.rotateWaiting := by
  unfold bistOnDemandDone
  simp only [none_]

/-- The test's result is kept, its unit returns and its partition is loaded again. -/
def demandOver (d : Demand) (result : Nat) (misr : BitVec 64) (w : State) : State :=
  (State.recordTest d.part d.unit 2 result d.count d.stopped (some misr) d.from_
    (State.returnUnit d { w with bist := { w.bist with demand := none } })).reloadPart d.part

/-- The host is told of the test's end, and its command is done. -/
def demandTold (d : Demand) (reason : Reason) (w : State) : State :=
  (w.postBist d.part d.unit 2 reason d.stopped).commandDone d.waiter reason 0 0

/-- The MISR that the test ends with. -/
def endMisr (e : Bool) (misr : BitVec 64) (d : Demand) : BitVec 64 :=
  if e && d.stopped == .none && !d.custom then Config.bistExpected d.part d.count else misr

/-- The test's result and its reason. -/
def endResult (misr : BitVec 64) (d : Demand) : Nat × Reason :=
  if d.stopped != .none then (3, Rc.bistIncomplete)
  else if d.custom then (4, 0)
  else if bistVerdict d.part d.count misr = 1 then (1, 0) else (2, Rc.bistFailed)

/-- A failure of the test is logged. -/
def demandLogged (d : Demand) (result : Nat) (w : State) : State :=
  if result = 2 then w.logOpen { origin := .mbx d.waiter.mbx, reason := Rc.bistFailed } else w

section OnDemand

variable {e : Bool} {d : Demand} (demand : v.rotateWaiting.bist.demand = some d)
include demand

theorem bistOnDemandDone_ends {result : Nat} {reason : Reason}
    (ends : ¬ (d.stopped == .none && (v.rotateWaiting.demandWaits d
      || decide (v.rotateWaiting.tick < d.start + patternTicks d.count))) = true)
    (is : endResult (endMisr e misr d) d = (result, reason)) : bistOnDemandDone e misr v
      = demandTold d reason (demandLogged d result (demandOver d result (endMisr e misr d) v.rotateWaiting)) := by
  obtain ⟨rfl, rfl⟩ := Prod.mk.inj is
  unfold bistOnDemandDone
  simp only [demand]
  exact if_neg ends

theorem bistOnDemandDone_stopped (stopped : d.stopped ≠ .none) : bistOnDemandDone e misr v
    = demandTold d Rc.bistIncomplete (demandOver d 3 misr v.rotateWaiting) := by
  have measured : endMisr e misr d = misr := if_neg (by simp [stopped])
  have cut : endResult (endMisr e misr d) d = (3, Rc.bistIncomplete) := if_pos (by simpa using stopped)
  rw [bistOnDemandDone_ends demand (by simp [stopped]) cut, measured]
  rfl

variable (ran : d.stopped = .none) (rests : v.rotateWaiting.demandWaits d = false)
  (ended : d.start + patternTicks d.count ≤ v.rotateWaiting.tick)
include ran rests ended

omit demand ran in
/-- A test that has run its time ends. -/
theorem demand_ends : ¬ (d.stopped == .none && (v.rotateWaiting.demandWaits d
    || decide (v.rotateWaiting.tick < d.start + patternTicks d.count))) = true := by
  simp [rests, ended]

theorem bistOnDemandDone_custom (own : d.custom = true) : bistOnDemandDone e misr v
    = demandTold d 0 (demandOver d 4 misr v.rotateWaiting) := by
  have measured : endMisr e misr d = misr := if_neg (by simp [own])
  have result : endResult (endMisr e misr d) d = (4, 0) := (if_neg (by simp [ran])).trans (if_pos own)
  rw [bistOnDemandDone_ends demand (demand_ends rests ended) result, measured]
  rfl

variable (standard : d.custom = false)
include standard

theorem bistOnDemandDone_passes (good : e = true ∨ misr = Config.bistExpected d.part d.count) :
    bistOnDemandDone e misr v
      = demandTold d 0 (demandOver d 1 (Config.bistExpected d.part d.count) v.rotateWaiting) := by
  have expected : endMisr e misr d = Config.bistExpected d.part d.count := by
    obtain e_true | same := good
    · exact if_pos (by simp [e_true, ran, standard])
    · rw [endMisr, same, ite_self]
  have result : endResult (endMisr e misr d) d = (1, 0) :=
    (if_neg (by simp [ran])).trans ((if_neg (by simp [standard])).trans (if_pos (bistVerdict_expected expected)))
  rw [bistOnDemandDone_ends demand (demand_ends rests ended) result, expected]
  rfl

theorem bistOnDemandDone_fails (free : e = false) (bad : misr ≠ Config.bistExpected d.part d.count) :
    bistOnDemandDone e misr v
      = demandTold d Rc.bistFailed (State.logOpen { origin := .mbx d.waiter.mbx, reason := Rc.bistFailed }
          (demandOver d 2 misr v.rotateWaiting)) := by
  have measured : endMisr e misr d = misr := if_neg (by simp [free])
  have result : endResult (endMisr e misr d) d = (2, Rc.bistFailed) := (if_neg (by simp [ran])).trans
    ((if_neg (by simp [standard])).trans (if_neg (by simp [measured, bistVerdict_other bad])))
  rw [bistOnDemandDone_ends demand (demand_ends rests ended) result, measured]
  rfl

end OnDemand

/-- Settles O58: each clause is the case of the row's operation that its condition picks. -/
theorem bistRows : Obligations.BistRows := by
  unfold Obligations.BistRows
  exact ⟨
    fun p _ _ _ => happens_of (f := bistSliceStart p.val) (fun _ _ => rfl)
      fun _ ⟨turned, due, periodic, between, first, settled, next, free, rests⟩ => by
        subst turned next
        exact bistSliceStart_due due periodic between first settled free rests,
    fun p => happens_of (f := bistSliceStart p.val) (fun _ _ => rfl) fun _ early => bistSliceStart_early early,
    fun p x => happens_of (f := bistSliceEnd p.val x) (fun _ _ => rfl) fun _ ⟨runs, ended, more⟩ =>
      bistSliceEnd_more runs ended more,
    fun p x => happens_of (f := bistSliceEnd p.val x) (fun _ _ => rfl) fun _ ⟨runs, ended, last, good⟩ =>
      bistSliceEnd_passes runs ended last good,
    fun p x => happens_of (f := bistSliceEnd p.val x) (fun _ _ => rfl) fun _ ⟨runs, ended, last, bad⟩ =>
      bistSliceEnd_fails runs ended last bad,
    fun p x => happens_of (f := bistRepeatDone p.val x) (fun _ _ => rfl) fun _ ⟨runs, ended, good⟩ =>
      bistRepeatDone_passes runs ended good,
    fun p x => happens_of (f := bistRepeatDone p.val x) (fun _ _ => rfl) fun _ ⟨runs, ended, bad⟩ =>
      bistRepeatDone_fails runs ended bad,
    fun p x => happens_of (f := bistRepeatDone p.val x) (fun _ _ => rfl) fun _ none_ => bistRepeatDone_none none_,
    fun e x => happens_of (f := bistOnDemandDone e x) (fun _ _ => rfl) fun _ none_ => bistOnDemandDone_none none_,
    fun e x _ _ => happens_of (f := bistOnDemandDone e x) (fun _ _ => rfl)
      fun _ ⟨turned, demand, ran, standard, rests, ended, good⟩ => by
        subst turned
        rw [bistOnDemandDone_passes demand ran rests ended standard good, demandTold, demandOver, ran],
    fun e x _ _ => happens_of (f := bistOnDemandDone e x) (fun _ _ => rfl)
      fun _ ⟨turned, demand, ran, standard, rests, ended, free, bad⟩ => by
        subst turned
        rw [bistOnDemandDone_fails demand ran rests ended standard free bad, demandTold, demandOver, ran],
    fun e x _ _ => happens_of (f := bistOnDemandDone e x) (fun _ _ => rfl)
      fun _ ⟨turned, demand, stopped⟩ => by
        subst turned
        exact bistOnDemandDone_stopped demand stopped,
    fun e x _ _ => happens_of (f := bistOnDemandDone e x) (fun _ _ => rfl)
      fun _ ⟨turned, demand, ran, own, rests, ended⟩ => by
        subst turned
        rw [bistOnDemandDone_custom demand ran rests ended own, demandTold, demandOver, ran]⟩

end Sys2Proof.Proofs.BistRows
